-- ==== Sys2Proof/Word.lean ====
section
/-! DEFINITION. Bytes, words, and the plainest arithmetic on them (R8: the controller is little-endian). -/

namespace Sys2Proof

/-- One byte. -/
abbrev Byte := BitVec 8

/-- A register of BAR0 (R11). -/
abbrev W32 := BitVec 32

/-- A 64-bit value (R9, R12). -/
abbrev W64 := BitVec 64

/-- Largest value a 64-bit count holds. -/
def max64 : Nat := 2 ^ 64 - 1

/-- Nanoseconds in a microsecond, a millisecond, a second (R9: shelf time counts nanoseconds). -/
def us : Nat := 1000
def ms : Nat := 1000000
def sec : Nat := 1000000000

end Sys2Proof
end

