-- ==== Sys2Proof/Syntax.lean ====
section
/-! DEFINITION. The commands the block takes (one constructor of `Instr` for each row of spec/opcode_table.json) and
the data that arrive with them: packets, capsules, frames, completions, images and measured values.  Plain syntax;
what a command does stands under Machine. -/

namespace Sys2Proof

/-- The blocks of Table 0.5. -/
inductive Block where
  | glb | pwr | img | time | pcie | eth (n : Fin 4) | well | qos | mfd | pump (n : Fin 16) | ftl | par
  | skl (n : Fin 48) | slot | cry | sump | mem | pla | plb | pod | seq | pmu
  deriving DecidableEq, Repr

/-- The boot flash in the four regions of Table 2.1, each the bytes from its first on; bytes not listed are erased. -/
structure Nor where
  copy0 : List Byte := []
  copy1 : List Byte := []
  slotA : List Byte := []
  slotB : List Byte := []
  deriving DecidableEq, Repr

/-- A key slot of the fuse block (R56); `pub` is the P-384 public key that a vendor slot's patch signatures verify under (R59). -/
structure FuseSlot where
  programmed : Bool := false
  hash : BitVec 384 := 0
  pub : List Byte := []
  pq : Bool := false
  revoked : Bool := false
  deriving DecidableEq, Repr

/-- The fuse block and what the part itself fixes (R56, R58, R82, Table 22.5): two vendor slots, four owner slots, the
security version counter, the serial number, whether debug is permitted, the sequencer mask-ROM version, and the device secret that keys
the fingerprints (R432). -/
structure Fuses where
  vendor : List FuseSlot := []
  owner : List FuseSlot := []
  svn : Nat := 0
  serial : Nat := 0
  debug : Bool := false
  romVersion : Nat := 0
  secret : List Byte := []
  deriving DecidableEq, Repr

/-- What the board presents when the input rises: the contents of the boot flash and the fuses, where they have been
written from outside since (`none`: as they were). -/
structure Board where
  nor : Option Nor := none
  fuses : Option Fuses := none
  deriving DecidableEq, Repr

/-- What MEM finds (R83): the channels that trained, those with one device lost, the trained capacity, the MRAM
interface's answer, and the buffer SRAM self-test. -/
structure MemInit where
  trained : BitVec 8
  deviceLost : BitVec 8 := 0
  capacityGiB : Nat
  mramAnswers : Bool := true
  sramGood : Bool := true
  deriving DecidableEq, Repr

/-- An IU that a scan of chunk headers finds (R313): its place in the stripe and its sectors. -/
structure FoundIu where
  nsid : Nat
  iu : Nat
  iu16 : Bool := true
  chunk : Nat := 0
  slot : Nat := 0
  sectors : List (List Byte)
  deriving DecidableEq, Repr

/-- A stripe that RESYNC or SCAN examines (R313, R314), in SEQ order: whether a commit record names it, whether every chunk is sound and
the parity agrees, the parity positions that do not, and the IUs of its readable chunks that pass their checks. -/
structure FoundStripe where
  seq : Nat
  tank : Nat
  index : Nat
  layout : Nat
  cls : Nat
  recorded : Bool
  agree : Bool
  badParity : List Nat := []
  ius : List FoundIu := []
  deriving DecidableEq, Repr

/-- A sector that recovery cannot restore (R93, R321). -/
structure LostSector where
  nsid : Nat
  lba : Nat
  tank : Nat := 0
  stripe : Nat := 0
  deriving DecidableEq, Repr

/-- What the controller reads in RECOVER (R91, R312 to R314, R427): whether the MRAM partition header and journal are readable, whether a
peer of the shelf is in SERVE with a higher ownership epoch, the stripes examined, the saved versions (by ordinal) that cannot be
restored, and the sectors lost. -/
structure RecoverFacts where
  mramReadable : Bool := true
  peerHoldsHigherEpoch : Bool := false
  stripes : List FoundStripe := []
  lostSaved : List Nat := []
  lost : List LostSector := []
  deriving DecidableEq, Repr

/-- Who writes a register that has an owner (R441): the management host through PF0, or a sequencer. -/
inductive Writer where
  | host
  | seq (n : Fin 16)
  deriving DecidableEq, Repr

/-! ### Host commands (chapters 4 to 6) -/

/-- A submission entry (NVMe Base 2.0), its 64 bytes field by field; `rsvd` holds the reserved bits of byte 1, and the data pointer stands as
a keyed SGL lays it out: address, length, key, and the byte with its type (PRP2 is the last three together). -/
structure Sqe where
  opcode : Nat
  fuse : Nat := 0
  rsvd : Nat := 0
  psdt : Nat := 0
  cid : Nat := 0
  nsid : Nat := 0
  cdw2 : Nat := 0
  cdw3 : Nat := 0
  mptr : Nat := 0
  sglType : Nat := 0
  cdw10 : Nat := 0
  cdw11 : Nat := 0
  cdw12 : Nat := 0
  cdw13 : Nat := 0
  cdw14 : Nat := 0
  cdw15 : Nat := 0
  addr : Nat := 0
  key : Nat := 0
  len : Nat := 0
  deriving DecidableEq, Repr

/-- Position of a packet in its message (Table 4.1). -/
inductive Pos where
  | first | middle | last | only
  deriving DecidableEq, Repr

/-- What a received RC packet carries (Table 4.1): a SEND with bytes of a command capsule, an RDMA WRITE (with RETH where the packet starts it), an RDMA READ request, a read response, an acknowledgement, a NAK, a
CNP, or an opcode that the controller does not support. -/
inductive RcBody where
  | send (pos : Pos) (payload : List Byte)
  | write (pos : Pos) (rkey va dmaLen : Nat) (payload : List Byte)
  | readReq (rkey va dmaLen : Nat) (eccBad : Bool)
  | response (pos : Pos) (payload : List Byte)
  | ack
  | nak (code : Nat) (rnrTimer : Nat)
  | cnp
  | other (opcode : Nat)
  deriving DecidableEq, Repr

/-- What SECDED finds in a cached context as it is used (R109). -/
inductive CtxEcc where
  | good | corrected | uncorrectable
  deriving DecidableEq, Repr

/-- A received RC packet (R103, R111): port, destination QPN, ICRC check, PSN, AckReq, CE mark, frame bytes, whether it finds the shared
capsule buffer pool empty (R115), DSCP, what the cache's SECDED finds of its context, and its body. -/
structure RcPkt where
  port : Fin 4
  qpn : BitVec 24
  icrcGood : Bool := true
  psn : BitVec 24
  ackReq : Bool := false
  ce : Bool := false
  frameBytes : Nat := 66
  poolEmpty : Bool := false
  dscp : BitVec 6 := 0
  ctxEcc : CtxEcc := .good
  body : RcBody
  deriving DecidableEq, Repr

/-- A connection request (R104): what the REQ and its private data carry. -/
structure CmReq where
  port : Fin 4
  subPort : BitVec 3 := 0
  hostQpn : BitVec 24
  qid : Nat
  hsqSize : Nat
  hrqSize : Nat := 0
  startPsn : BitVec 24 := 0
  pmtu : Nat := 5
  hostReads : Nat := 8
  remoteIp : Nat := 0
  localIp : Nat := 0
  mac : Nat := 0
  vlan : Nat := 0
  sport : Nat := 0
  tclass : Nat := 0
  hopLimit : Nat := 64
  deriving DecidableEq, Repr

/-- A received PRD packet (R129, R130): the port and sub-port that it comes by, IP version, addresses (IPv4 in mapped form), UDP source
port and checksum, DSCP and CE mark, and the bytes of the UDP payload: header, payload, trailer. -/
structure PrdPkt where
  port : Fin 4
  sub : Fin 8 := 0
  v6 : Bool := false
  src : BitVec 128
  dst : BitVec 128 := 0
  sport : BitVec 16 := 0
  cksum : BitVec 16 := 0
  dscp : BitVec 6 := 0
  ce : Bool := false
  bytes : List Byte
  deriving DecidableEq, Repr

/-- What has come in of an Ethernet frame: the sub-port, how many bytes, whether they are its first and its last, its priority, its FCS (of
the last bytes), and the manifold ports that it is for. -/
structure EthFrame where
  sub : Fin 8 := 0
  bytes : Nat
  first : Bool := true
  last : Bool := true
  prio : Fin 8 := 0
  fcsGood : Bool := true
  dests : List Nat := [56]
  deriving DecidableEq, Repr

/-- What SECDED found as a copy of a frame was read (R234 to R236): words corrected, the frame's cell with an uncorrectable error, and the
cell whose descriptor had one, both by place in the frame. -/
structure CopyEcc where
  corrected : Nat := 0
  cell : Option Nat := none
  desc : Option Nat := none
  deriving DecidableEq, Repr

/-! ### Cisterns (chapter 13) -/

/-- A cistern's identity (Table 13.9). -/
structure Ident where
  serial : Nat
  generation : Nat := 0
  version : Nat := 0
  port : Nat := 0
  pageBytes : Nat := 16384
  metaBytes : Nat := 64
  pagesPerBlock : Nat
  blocksPerDie : Nat
  dies : Nat
  nl : Nat
  epoch : Nat := 0
  writers : Nat := 0
  badCount : Nat := 0
  deriving DecidableEq, Repr

/-- A completion header (Table 13.6). -/
structure Cpl where
  tag : BitVec 10
  opcode : BitVec 8
  status : Nat := 0
  dup : Bool := false
  alert : Bool := false
  pageStatus : Nat := 0
  temp : Int := 0
  progId : BitVec 32 := 0
  epoch : BitVec 64 := 0
  writers : BitVec 2 := 0
  payloadLen : Nat := 0
  hcrc : W32 := 0
  deriving DecidableEq, Repr

/-- A sector of a READ completion: the bytes stored on the media, with the sector's protection information after them, and of its chunk's
header the SECTOR_CRC and the IU descriptor that stand for it (Table 9.1, R242). -/
structure SectorIn where
  stored : List Byte
  crc : W32
  desc : W64 := 0
  deriving DecidableEq, Repr

/-- A received FLIT's link control (Table 13.4): its CRC after FEC, symbols corrected by FEC, and the lane that a failure
is put down to. -/
structure Flit where
  crcGood : Bool := true
  fecCorrected : Nat := 0
  seq : BitVec 10
  ackSeq : BitVec 10 := 0
  nak : Bool := false
  nop : Bool := false
  creditClass : Nat := 3
  credit : Nat := 0
  lane : Option (Fin 2) := none
  deriving DecidableEq, Repr

/-- What training settles (R354 to R358): lanes up, polarity corrected, lanes swapped, the bridge's port and the
parameter record. -/
structure Trained where
  lanes : Nat := 2
  polInv : Nat := 0
  reversed : Bool := false
  port : Nat := 0
  commandCredits : Nat := 64
  programCredits : Nat := 516
  replayFlits : Nat := 512
  deriving DecidableEq, Repr

/-- A STATUS payload (R372). -/
structure CisternStatus where
  failed : Bool := false
  temp : Int := 0
  failedDies : Nat := 0
  alerts : Nat := 0
  epoch : BitVec 64 := 0
  writers : BitVec 2 := 0
  deriving DecidableEq, Repr

/-- What the tests of CHECK measure (R392): sense continuity, VOUT and VIN in 10 mV, and VOUT's rise under test 3 in mV.  With it, as
with every fault of a channel, comes whether a channel of another SERVE controller holds the slot ON (R401). -/
structure SlotCheck where
  senseGood : Bool := true
  vout : Nat := 0
  vin : Nat := 1200
  riseMv : Nat := 20
  deriving DecidableEq, Repr

/-- Reverse current in ON (R396): below -0.5 A, or VIN above VOUT by 30 mV again. -/
inductive Reverse where
  | below | cleared
  deriving DecidableEq, Repr

/-- Why SLOT_PG is lost in ON (R397). -/
inductive PgLoss where
  | voutLow | gate
  deriving DecidableEq, Repr

/-! ### Pod messages (chapter 17) -/

/-- A HELLO (R459). -/
structure Hello where
  podId : Nat
  serial : Nat
  member : Fin 8
  state : Nat
  digest : BitVec 384 := 0
  epoch : Nat := 0
  romVersion : Nat := 0
  stepping : Nat := 0xB0
  liveEpoch : Nat := 0
  liveHash : BitVec 384 := 0
  winCrc : Nat := 0
  deriving DecidableEq, Repr

/-- What HANDOVER carries (R473, R174): the placement sequence high-water and the reservation. -/
structure Handover where
  nsid : Nat
  seq : Nat
  resType : Nat := 0
  resHolder : Nat := 0
  resGen : Nat := 0
  ptpl : Bool := false
  registrants : List (Nat × Nat) := []
  deriving DecidableEq, Repr

/-- Journal records (Table 15.4); a member of a tank: cistern, die, temperature, block. -/
inductive JRec where
  | stripeCommit (seq tank index layout : Nat) (missing : List Nat) (cls flags epoch : Nat)
  | mapSet (nsid iu v : Nat) (copy : Bool)
  | mapMark (nsid iu seq : Nat) (zero : Bool)
  | tankOpen (tank layout cls : Nat) (members : List (Nat × Nat × Int × Nat)) (time : Nat)
  | tankState (tank st time : Nat) (temps : List Int)
  | memberSubst (tank pos cistern die block : Nat)
  | blockState (cistern die st block : Nat)
  | checkpoint (seq level run : Nat)
  | owner (nsid owner seq : Nat)
  | namespace_ (nsid action nsze : Nat) (vendor : List Byte)
  deriving DecidableEq, Repr

/-- A lost range (Table 11.8). -/
structure Lost where
  nsid : Nat
  slba : Nat
  nlb : Nat
  tank : Nat
  stripe : Nat
  cause : Nat
  time : Nat
  deriving DecidableEq, Repr

/-- A version or fragment in a MIRROR frame (R407, R413): identity, the sender's arrival ordinal, sectors by index in the IU. -/
structure MirrorVersion where
  nsid : Nat
  iu : Nat
  order : Nat
  whole : Bool := true
  sectors : List (Nat × List Byte) := []
  deriving DecidableEq, Repr

/-- A recent-transaction entry in a MIRROR frame (R144): when inserted, or final. -/
structure MirrorRecent where
  host : Nat
  gen : Nat
  tid : Nat
  crc : Nat := 0
  dw0 : Nat := 0
  status : Nat := 0
  prd : Nat := 0
  left : Nat := 0
  final : Bool := false
  deriving DecidableEq, Repr

/-- A remote sump region in a MIRROR frame (R182, R185): its grant, and bytes written at an offset; or that it is gone. -/
structure MirrorRegion where
  index : Fin 64
  tenant : Nat := 0
  write : Bool := false
  read : Bool := false
  len : Nat := 0
  gen : Nat := 0
  off : Nat := 0
  bytes : List Byte := []
  gone : Bool := false
  deriving DecidableEq, Repr

/-- A MIRROR frame (R413): the number its acknowledgement carries (none: it is not acknowledged), versions that entered the sender's sump, arrival ordinals whose
stripe's commit and map records the frame brings, journal records in their order, recent transactions, regions, reservations (R174), LAST_WRITE of namespaces (R446),
the lost-stripe list where it has changed (R311), and the mark that ends a copy back (R415). -/
structure MirrorFrame where
  cmd : Option Nat := none
  versions : List MirrorVersion := []
  released : List Nat := []
  records : List JRec := []
  recents : List MirrorRecent := []
  regions : List MirrorRegion := []
  reservations : List Handover := []
  lastWrites : List (Nat × Nat) := []
  lost : Option (List Lost) := none
  seq : Nat := 0
  copyEnd : Bool := false
  deriving DecidableEq, Repr

/-! ### Time (chapter 12) -/

/-- What training of a peer link found (R455): working lanes, inverted lanes, lane order reversed, and the neighbour's serial and member
index from PARAM, with the credit that it grants at first (R456). -/
structure PeerTrained where
  lanes : Nat := 8
  polInv : Nat := 0
  reversed : Bool := false
  serial : Nat
  member : Fin 8
  credit : Nat := 0
  deriving DecidableEq, Repr

/-- A received Brontanto frame (R456, Table 17.1): FEC corrections, the header's fields with its HCRC, the payload, and the trailer's CRC and
POISON. -/
structure PodFrame where
  fecCorrected : Nat := 0
  type : Nat
  src : Fin 8
  dest : Nat := 0xFF
  hops : Nat := 7
  seq : BitVec 32
  ack : BitVec 32 := 0
  credit : BitVec 24 := 0
  hcrc : BitVec 32
  payload : List Byte := []
  crc : BitVec 32 := 0
  poison : Bool := false
  deriving DecidableEq, Repr

/-- A command as it is forwarded (R470, R144): the number that its answers name, its host's tenant and identity, its entry, its PRD key
(HOST_IDX, HOST_GEN, TID, ISSUE_TIME) with the MSG_LEN of its CMD (R132), and the DSCP and packet size that QOS goes by at the owner
(R192, R196, R200). -/
structure FwdCmd where
  ref : Nat
  tenant : Nat
  hostId : Nat
  admin : Bool := false
  sqe : Sqe
  prd : Option (Nat × Nat × Nat × Nat) := none
  msgLen : Nat := 0
  dscp : Option Nat := none
  u : Nat := 0
  deriving DecidableEq, Repr

/-- What a FORWARD frame carries (R470, R144): a command, the owner's request for write data, write data, that the host's data will not come
(R146), read data, or the completion. -/
inductive FwdMsg where
  | command (c : FwdCmd)
  | request (ref off len : Nat)
  | data (ref off : Nat) (bytes : List Byte)
  | abandon (ref : Nat)
  | readData (ref off : Nat) (bytes : List Byte)
  | done (ref status dw0 prd : Nat) (dup : Bool)
  deriving DecidableEq, Repr

/-- The payloads of Brontanto frames (Table 17.2, Table 17.4) that the controller sends. -/
inductive PodMsg where
  | hello (h : Hello)
  | ackOnly (ack credit : Nat)
  | mirror (f : MirrorFrame)
  | mirrorAck (cmd : Nat)
  | forward (m : FwdMsg)
  | time (stamp : Nat)
  | joinRefuse (cause : Nat)
  | liveSetReq
  | liveSet (epoch : Nat) (values : List (Nat × W32))
  | prepare (time epoch : Nat) (snapshot : Bool) (values : List (Nat × W32))
  | agree
  | refuse (cause : Nat)
  | go
  | abandon
  | suspend
  | suspendAck
  | leaving
  | intent (units : List Nat)
  | grantReq (layout cls : Nat) (members : List Nat)
  | grant (tank layout cls : Nat) (members : List (Nat × Nat × Nat))
  | grantRefuse (layout cls : Nat)
  | copyMap (nsid iu source target : Nat)
  | copyDone (nsid iu : Nat)
  | release (tank : Nat)
  | released (tank : Nat)
  | handover (h : Handover)
  | epochNote (cistern epoch : Nat)
  | keyCopy (slot type : Nat) (key : List Byte) (destroyed : List Nat)
  | keyDestroy (slot : Nat)
  deriving DecidableEq, Repr

/-- PTP time (R9): a 48-bit count of seconds and a 32-bit count of nanoseconds. -/
structure PtpTime where
  secs : BitVec 48
  ns : BitVec 32
  deriving DecidableEq, Repr

/-- PTP time in ns. -/
def PtpTime.total (t : PtpTime) : Nat := t.secs.toNat * sec + t.ns.toNat

/-- A count of ns as PTP time. -/
def PtpTime.of (t : Nat) : PtpTime := ⟨BitVec.ofNat 48 (t / sec), BitVec.ofNat 32 (t % sec)⟩

/-- A grandmaster's attributes, as Announce carries them (IEEE 1588-2019). -/
structure PtpGm where
  identity : BitVec 64 := 0
  priority1 : BitVec 8 := 0
  clockClass : BitVec 8 := 0
  accuracy : BitVec 8 := 0
  variance : BitVec 16 := 0
  priority2 : BitVec 8 := 0
  deriving DecidableEq, Repr

/-- A PTP message that completes a measurement (R329 to R332): the sub-port, what the message says of domain and transport, whether the
format and profile are supported, whether the best master clock algorithm keeps this sub-port as the slave, and the master's time at
this moment as the servo's filter has it, and its grandmaster. -/
structure PtpMsg where
  port : Fin 4
  subPort : Fin 8 := 0
  domain : Nat := 0
  transport : Nat := 0
  supported : Bool := true
  best : Bool := true
  master : PtpTime
  gm : PtpGm := {}
  deriving DecidableEq, Repr

/-- A time exchange with the neighbour on a peer link (R331): the neighbour's offset from this controller in ns, its source, and its own
PTP offset (`none`: unbounded). -/
structure PeerTime where
  offset : Int
  source : Nat := 1
  ptpOffset : Option Nat := some 0
  deriving DecidableEq, Repr

/-! ### The PCIe endpoint (chapter 18) -/

/-- A completion TLP (R498, R499): tag and requester function, completion status (0 Successful Completion), EP, whether it is malformed,
Lower Address, the byte count still owed, and its bytes. -/
structure PcieCpl where
  tag : Nat
  fn : Nat
  status : Nat := 0
  poisoned : Bool := false
  malformed : Bool := false
  lower : Nat := 0
  owed : Nat := 0
  data : List Byte := []
  deriving DecidableEq, Repr

/-- How a posted write arrives damaged (Table 18.6). -/
inductive PostedError where
  | poisoned | malformed | ecrc
  deriving DecidableEq, Repr

/-- What error correction finds in what is read, of a scratchpad (R522) or of a context in DRAM (R109, R542): words corrected, and whether one is
uncorrectable. -/
structure SpEcc where
  corrected : Nat := 0
  bad : Bool := false
  deriving DecidableEq, Repr

/-- An access to BAR2 (R515, R519): a write of bytes, or a read of some. -/
inductive Bar2Access where
  | write (data : List Byte)
  | read (n : Nat)
  deriving DecidableEq, Repr

/-- What has come upon a sequencer (R514, R522): an uncorrectable fault, of which an uncorrectable word read from its scratchpad is one, or
such a word read by its DMA engine; with the words corrected on the way. -/
inductive SeqFault where
  | fault
  | scratchpad (corrected : Nat)
  | dma (ecc : SpEcc)
  deriving DecidableEq, Repr

/-! ### Power, events (chapters 20, 21) -/

/-- What the sensors read (R539, R541): the six die sensors in °C, the I3C bus (0 good, 1 short, 2 open) and its sensors present, the
input in 10 mV and 10 mA. -/
structure Sensors where
  die : List Int
  fault : Fin 3 := 0
  present : BitVec 8 := 0
  vin : BitVec 12 := 0
  iin : BitVec 16 := 0
  deriving DecidableEq, Repr

/-- The fatal causes of Table 21.4 that a fault of the hardware brings. -/
inductive FatalCause where
  | rail | clock | seqAll | mram | invariant
  deriving DecidableEq, Repr

/-- The commands: one constructor for every row of spec/opcode_table.json, in its order, each with the facts that
arrive with it.  The rule after the mnemonic is the row's. -/
inductive Instr where
  /-- REGISTER_WRITE (R15). -/
  | registerWrite (off : Nat) (value : W32)
  /-- BAR0_PARTIAL_WRITE (R11). -/
  | bar0PartialWrite (off : Nat) (value : W32)
  /-- LOW_WORD_READ (R12). -/
  | lowWordRead (off n : Nat)
  /-- RC_FIELD_READ (R14). -/
  | rcFieldRead (off n : Nat)
  /-- POWER_ON (R77). -/
  | powerOn (board : Board)
  /-- RESET_N_ASSERTED (R97). -/
  | resetNAsserted
  /-- RESET_N_SAVE_TIMEOUT (R97). -/
  | resetNSaveTimeout
  /-- AON_DONE (R82). -/
  | aonDone (regulatorsGood : Bool) (bootMode : BitVec 2) (took : Nat)
  /-- ROM_IMAGE_CHECK (R66). -/
  | romImageCheck (took : Nat)
  /-- CLOCKS_LOCKED (R77). -/
  | clocksLocked (locked : BitVec 20) (took : Nat)
  /-- MEM_INIT_DONE (R83). -/
  | memInitDone (m : MemInit) (took : Nat)
  /-- STRUCT_DONE (R85). -/
  | structDone (seqPass : BitVec 16) (took : Nat)
  /-- DRAM_INIT_DONE (R84). -/
  | dramInitDone
  /-- SLOT_GROUP_START (R87). -/
  | slotGroupStart (group : Nat)
  /-- ADMIT_TIMEOUT (R88). -/
  | admitTimeout (cistern : Fin 48)
  /-- PRIME_DONE (R89). -/
  | primeDone (slotDieGood : Bool) (facts : RecoverFacts) (took : Nat)
  /-- RECOVER_DONE (R91). -/
  | recoverDone (took : Nat)
  /-- JOIN_TIMEOUT (R94). -/
  | joinTimeout
  /-- POD_JOIN_DONE (R461). -/
  | podJoinDone (took : Nat)
  /-- PRIMING_PWRFAIL_RELEASE (R96). -/
  | primingPwrfailRelease
  /-- SOFTWARE_FULL_RESET (R97). -/
  | softwareFullReset (value : W32)
  /-- WARM_RESET (R98). -/
  | warmReset (value : W32)
  /-- PERST_N_ASSERTED (R505). -/
  | perstNAsserted
  /-- IMAGE_STAGE (R69). -/
  | imageStage
  /-- STAGING_DONE (R69). -/
  | stagingDone (readBackGood : Bool)
  /-- TRIAL_NEXT (R69). -/
  | trialNext
  /-- IMAGE_ACCEPT (R70). -/
  | imageAccept
  /-- FUSE_PROGRAM (R563). -/
  | fuseProgram (value : W32)
  /-- FUSE_REVOKE (R57). -/
  | fuseRevoke (value : W32)
  /-- FUSE_OP_DONE (R563). -/
  | fuseOpDone
  /-- COMMIT (R74). -/
  | commit (value : W32)
  /-- COMMIT_ABORT (R75). -/
  | commitAbort (value : W32)
  /-- COMMIT_APPLY_DONE (R74). -/
  | commitApplyDone
  /-- BLOCK_STOP (R72). -/
  | blockStop (b : Block)
  /-- BLOCK_STOPPED (R72). -/
  | blockStopped (b : Block)
  /-- BLOCK_START (R72). -/
  | blockStart (b : Block)
  /-- BLOCK_RESET (R99). -/
  | blockReset (b : Block)
  /-- BLOCK_RESET_DONE (R558). -/
  | blockResetDone (b : Block)
  /-- CM_REQ (R104). -/
  | cmReq (r : CmReq)
  /-- CM_RTU (R106). -/
  | cmRtu (port : Fin 4) (qp : Fin 65536)
  /-- CM_REJ (R106). -/
  | cmRej (port : Fin 4) (qp : Fin 65536)
  /-- CM_DREQ (R122). -/
  | cmDreq (port : Fin 4) (qp : Fin 65536)
  /-- CM_DREP (R104). -/
  | cmDrep (port : Fin 4) (qp : Fin 65536)
  /-- CM_TIMEOUT (R106). -/
  | cmTimeout (qp : Fin 65536)
  /-- RC_SEND_RECEIVE (R111). -/
  | rcSendReceive (p : RcPkt)
  /-- RC_REGION_WRITE_RECEIVE (R184). -/
  | rcRegionWriteReceive (p : RcPkt)
  /-- RC_REGION_READ_REQUEST (R184). -/
  | rcRegionReadRequest (p : RcPkt)
  /-- RC_READ_RESPONSE_RECEIVE (R114). -/
  | rcReadResponseReceive (p : RcPkt)
  /-- RC_ACK_RECEIVE (R113). -/
  | rcAckReceive (p : RcPkt)
  /-- RC_NAK_RECEIVE (R116). -/
  | rcNakReceive (p : RcPkt)
  /-- CNP_RECEIVE (R121). -/
  | cnpReceive (p : RcPkt)
  /-- CONTEXT_FETCH_DONE (R110). -/
  | contextFetchDone (qp : Fin 65536) (ecc : SpEcc)
  /-- ACK_COALESCE_TIMEOUT (R112). -/
  | ackCoalesceTimeout (qp : Fin 65536)
  /-- ACK_TIMEOUT (R113). -/
  | ackTimeout (qp : Fin 65536)
  /-- RNR_WAIT_END (R113). -/
  | rnrWaitEnd (qp : Fin 65536)
  /-- QP_FLUSH_DONE (R123). -/
  | qpFlushDone (qp : Fin 65536)
  /-- QP_QUARANTINE_END (R124). -/
  | qpQuarantineEnd (qp : Fin 65536)
  /-- QP_INSPECT (R127). -/
  | qpInspect (value : W32)
  /-- KEEP_ALIVE_EXPIRY (R122). -/
  | keepAliveExpiry (assoc : Nat)
  /-- PRD_CMD_RECEIVE (R140). -/
  | prdCmdReceive (p : PrdPkt)
  /-- PRD_WDATA_RECEIVE (R145). -/
  | prdWdataReceive (p : PrdPkt)
  /-- PRD_PROBE (R130). -/
  | prdProbe (p : PrdPkt)
  /-- PULL_TIMEOUT (R146). -/
  | pullTimeout (id : Nat)
  /-- PRD_ADMIT_DEADLINE (R142). -/
  | prdAdmitDeadline (id : Nat)
  /-- PRD_ENTRY_EXPIRY (R139). -/
  | prdEntryExpiry (host : BitVec 14) (gen : BitVec 16) (tid : BitVec 64)
  /-- T_LIFE_RAISE_SETTLED (R143). -/
  | tLifeRaiseSettled
  /-- PRD_STEP_HOLD_END (R136). -/
  | prdStepHoldEnd
  /-- PRD_HOST_WRITE (R134). -/
  | prdHostWrite (value : W32)
  /-- PRD_HOST_READ (R156). -/
  | prdHostRead (value : W32)
  /-- PRD_HOST_ACCESS_DONE (R134). -/
  | prdHostAccessDone
  /-- IDENTIFY (R167). -/
  | identify (id : Nat)
  /-- GET_LOG_PAGE (R177). -/
  | getLogPage (id : Nat)
  /-- GET_FEATURES (R167). -/
  | getFeatures (id : Nat)
  /-- SET_FEATURES (R167). -/
  | setFeatures (id : Nat)
  /-- ASYNCHRONOUS_EVENT_REQUEST (R177). -/
  | asynchronousEventRequest (id : Nat)
  /-- ABORT (R193). -/
  | abort (id : Nat)
  /-- NAMESPACE_CREATE (R162). -/
  | namespaceCreate (id : Nat) (permitted : Bool)
  /-- NAMESPACE_DELETE (R164). -/
  | namespaceDelete (id : Nat) (permitted : Bool)
  /-- NAMESPACE_DELETE_DRAINED (R164). -/
  | namespaceDeleteDrained (nsid : Nat)
  /-- NAMESPACE_ATTACHMENT (R165). -/
  | namespaceAttachment (id : Nat)
  /-- KEEP_ALIVE (R167). -/
  | keepAlive (id : Nat)
  /-- DIRECTIVE_SEND (R167). -/
  | directiveSend (id : Nat)
  /-- DIRECTIVE_RECEIVE (R167). -/
  | directiveReceive (id : Nat)
  /-- VIRTUALIZATION_MANAGEMENT (R495). -/
  | virtualizationManagement (id : Nat)
  /-- FABRICS_CONNECT (R180). -/
  | fabricsConnect (id : Nat) (tenant : Fin 1024)
  /-- PROPERTY_GET (R167). -/
  | propertyGet (id : Nat)
  /-- PROPERTY_SET (R167). -/
  | propertySet (id : Nat)
  /-- DISCONNECT (R122). -/
  | disconnect (id : Nat)
  /-- AUTHENTICATION_SEND_RECEIVE (R167). -/
  | authenticationSendReceive (id : Nat)
  /-- CREATE_IO_SQ (R167). -/
  | createIoSq (id : Nat)
  /-- DELETE_IO_SQ (R179). -/
  | deleteIoSq (id : Nat)
  /-- CREATE_IO_CQ (R167). -/
  | createIoCq (id : Nat)
  /-- DELETE_IO_CQ (R167). -/
  | deleteIoCq (id : Nat)
  /-- FORMAT_NVM (R169). -/
  | formatNvm (id : Nat)
  /-- FORMAT_START (R169). -/
  | formatStart (nsid : Nat)
  /-- FORMAT_DONE (R169). -/
  | formatDone (nsid : Nat)
  /-- UNSUPPORTED_OPCODE (R167). -/
  | unsupportedOpcode (id : Nat)
  /-- FLUSH (R167). -/
  | flush (id : Nat)
  /-- WRITE (R265). -/
  | write (id : Nat)
  /-- READ (R31). -/
  | read (id : Nat)
  /-- COMPARE (R167). -/
  | compare (id : Nat)
  /-- WRITE_ZEROES (R275). -/
  | writeZeroes (id : Nat)
  /-- DATASET_MANAGEMENT (R274). -/
  | datasetManagement (id : Nat)
  /-- VERIFY (R167). -/
  | verify (id : Nat)
  /-- RESERVATION_REGISTER (R174). -/
  | reservationRegister (id : Nat)
  /-- RESERVATION_REPORT (R174). -/
  | reservationReport (id : Nat)
  /-- RESERVATION_ACQUIRE (R175). -/
  | reservationAcquire (id : Nat)
  /-- RESERVATION_RELEASE (R174). -/
  | reservationRelease (id : Nat)
  /-- NAMESPACE_REG_CREATE (R564). -/
  | namespaceRegCreate (value : W32)
  /-- NAMESPACE_REG_GROW (R163). -/
  | namespaceRegGrow (value : W32)
  /-- NAMESPACE_REG_DELETE (R564). -/
  | namespaceRegDelete (value : W32)
  /-- NAMESPACE_REG_READ (R564). -/
  | namespaceRegRead (value : W32)
  /-- REGION_REGISTER (R188). -/
  | regionRegister (value : W32)
  /-- REGION_DESCRIPTOR_READ (R188). -/
  | regionDescriptorRead (value : W32)
  /-- REGION_REVOKE (R186). -/
  | regionRevoke (value : W32)
  /-- REGION_DRAIN_END (R186). -/
  | regionDrainEnd (index : Fin 64)
  /-- REGION_REVOKE_TIMEOUT (R186). -/
  | regionRevokeTimeout (index : Fin 64)
  /-- REGION_ZEROED (R186). -/
  | regionZeroed (index : Fin 64)
  /-- QOS_ADMISSION (R203). -/
  | qosAdmission (now : Nat)
  /-- TENANT_INACTIVE (R208). -/
  | tenantInactive (tenant : Fin 1024)
  /-- MFD_COPY_DONE (R225). -/
  | mfdCopyDone (frame port : Nat) (ecc : CopyEcc)
  /-- MFD_AGE_CHECK (R226). -/
  | mfdAgeCheck (now : Nat)
  /-- PORT_LINK_DOWN (R229). -/
  | portLinkDown (port : Nat)
  /-- PORT_LINK_UP (R229). -/
  | portLinkUp (port : Nat)
  /-- PORT_HOLD_EXPIRY (R229). -/
  | portHoldExpiry (port : Nat)
  /-- PORT_STALL (R230). -/
  | portStall (port : Nat)
  /-- PFC_REFRESH (R232). -/
  | pfcRefresh (port : Fin 4) (prio : Fin 8)
  /-- PFC_FRAME_RECEIVE (R121). -/
  | pfcFrameReceive (port : Fin 4) (sub : Fin 8) (quanta : List (Fin 8 × Nat))
  /-- ETH_FRAME_RECEIVE (R231). -/
  | ethFrameReceive (port : Fin 4) (f : EthFrame)
  /-- STRIPE_ASSEMBLY_TIMEOUT (R258). -/
  | stripeAssemblyTimeout (layout : Nat) (cls : Nat)
  /-- MERGE_WAIT_EXPIRY (R256). -/
  | mergeWaitExpiry (nsid : Nat) (iu : Nat)
  /-- STRIPE_COMMIT (R307). -/
  | stripeCommit (seq : Nat)
  /-- CHECKPOINT_TRIGGER (R249). -/
  | checkpointTrigger
  /-- CHECKPOINT_DONE (R249). -/
  | checkpointDone
  /-- SEGMENT_ROTATE (R250). -/
  | segmentRotate (nsid : Nat) (seg : Nat)
  /-- SEGMENT_FETCH_DONE (R248). -/
  | segmentFetchDone (nsid : Nat) (seg : Nat) (room : Bool)
  /-- OPEN_IDLE_EXPIRY (R261). -/
  | openIdleExpiry (tank : Nat)
  /-- DRAWDOWN_COPY_ISSUE (R268). -/
  | drawdownCopyIssue
  /-- TANK_DRAW_DONE (R265). -/
  | tankDrawDone (tank : Nat)
  /-- TANK_ERASE_DONE (R259). -/
  | tankEraseDone (tank : Nat)
  /-- REFRESH_SCAN (R295). -/
  | refreshScan
  /-- BLOCK_RETIRE (R284). -/
  | blockRetire (value : W32)
  /-- BLOCK_RECORD_READ (R299). -/
  | blockRecordRead (value : W32)
  /-- GRACE_EXPIRY (R315). -/
  | graceExpiry (slot : Fin 48)
  /-- CISTERN_FAIL (R315). -/
  | cisternFail (slot : Fin 48) (value : W32)
  /-- REBUILD_SWEEP_DONE (R317). -/
  | rebuildSweepDone (slot : Fin 48)
  /-- TANK_SUBSTITUTED (R318). -/
  | tankSubstituted
  /-- LOST_LIST_READ (R323). -/
  | lostListRead (value : W32)
  /-- PTP_MESSAGE_RECEIVE (R332). -/
  | ptpMessageReceive (m : PtpMsg)
  /-- PTP_SYNC_SEND (R330). -/
  | ptpSyncSend (port : Fin 32)
  /-- HOLDOVER_ENTRY (R332). -/
  | holdoverEntry
  /-- PEER_TIME_EXCHANGE (R331). -/
  | peerTimeExchange (link : Fin 2) (t : PeerTime)
  /-- PPS_EDGE (R331). -/
  | ppsEdge
  /-- STEP_OVERRIDE (R328). -/
  | stepOverride (value : W32)
  /-- STEP_OVERRIDE_LAPSE (R328). -/
  | stepOverrideLapse
  /-- SECURE_TIME_RECORD (R327). -/
  | secureTimeRecord
  /-- TIME_FLAG_CHECK (R333). -/
  | timeFlagCheck
  /-- LAUNCH_ARM (R335). -/
  | launchArm (k : Fin 16) (value : W32)
  /-- LAUNCH_CANCEL (R335). -/
  | launchCancel (k : Fin 16) (value : W32)
  /-- LAUNCH_DUE (R336). -/
  | launchDue (k : Fin 16)
  /-- WINDOW_SLOT_START (R339). -/
  | windowSlotStart
  /-- INTENT_SEND (R345). -/
  | intentSend
  /-- INTENT_RECEIVE (R345). -/
  | intentReceive (units : List Nat)
  /-- INTENT_DEADLINE (R345). -/
  | intentDeadline
  /-- DRAWDOWN_OP_ISSUE (R343). -/
  | drawdownOpIssue (cistern : Fin 48) (die : Nat)
  /-- SKL_TRAINING_DONE (R354). -/
  | sklTrainingDone (link : Fin 48) (t : Trained)
  /-- FLIT_RECEIVE (R359). -/
  | flitReceive (link : Fin 48) (f : Flit)
  /-- SKL_RECOVERY_ENTRY (R361). -/
  | sklRecoveryEntry (link : Fin 48)
  /-- SKL_RECOVERY_DONE (R361). -/
  | sklRecoveryDone (link : Fin 48)
  /-- SKL_RETRAIN_LIMIT (R361). -/
  | sklRetrainLimit (link : Fin 48)
  /-- SKL_L1_ENTRY (R357). -/
  | sklL1Entry (link : Fin 48)
  /-- IDENTIFY_DONE (R369). -/
  | identifyDone (link : Fin 48) (c : Cpl) (id : Ident)
  /-- BADBLOCKS_DONE (R371). -/
  | badblocksDone (link : Fin 48) (c : Cpl) (bad : List (Nat × Nat))
  /-- CISTERN_STATUS_POLL (R372). -/
  | cisternStatusPoll (link : Fin 48)
  /-- STATUS_DONE (R372). -/
  | statusDone (link : Fin 48) (c : Cpl) (st : CisternStatus)
  /-- EPOCH_SET_DONE (R382). -/
  | epochSetDone (link : Fin 48) (c : Cpl)
  /-- READ_DONE (R365). -/
  | readDone (link : Fin 48) (c : Cpl) (sectors : List SectorIn) (front : List Byte)
  /-- PROGRAM_DONE (R368). -/
  | programDone (link : Fin 48) (c : Cpl)
  /-- ERASE_DONE (R368). -/
  | eraseDone (link : Fin 48) (c : Cpl)
  /-- SKL_TAG_TIMEOUT (R375). -/
  | sklTagTimeout (link : Fin 48) (tag : BitVec 10)
  /-- SKL_TAG_QUARANTINE_END (R374). -/
  | sklTagQuarantineEnd (link : Fin 48) (tag : BitVec 10)
  /-- PRSNT_DEBOUNCED (R391). -/
  | prsntDebounced (slot : Fin 48)
  /-- SLOT_CHECK_DONE (R392). -/
  | slotCheckDone (slot : Fin 48) (m : SlotCheck) (peerOn : Bool)
  /-- SLOT_RAMP_DONE (R393). -/
  | slotRampDone (slot : Fin 48)
  /-- SLOT_GATE_ENHANCED (R393). -/
  | slotGateEnhanced (slot : Fin 48)
  /-- SLOT_GATE_TIMEOUT (R395). -/
  | slotGateTimeout (slot : Fin 48) (peerOn : Bool)
  /-- SLOT_RESET_RELEASE (R87). -/
  | slotResetRelease (slot : Fin 48)
  /-- SLOT_LIMIT_TIMEOUT (R394). -/
  | slotLimitTimeout (slot : Fin 48) (iout : Nat) (peerOn : Bool)
  /-- FAST_TRIP (R395). -/
  | fastTrip (slot : Fin 48) (iout : Nat) (limitToo : Bool) (peerOn : Bool)
  /-- REVERSE_CURRENT (R396). -/
  | reverseCurrent (slot : Fin 48) (r : Reverse)
  /-- SLOT_PG_LOSS (R397). -/
  | slotPgLoss (slot : Fin 48) (why : PgLoss) (peerOn : Bool)
  /-- SLOT_FEED_UV (R397). -/
  | slotFeedUv (vin : Nat)
  /-- SLOT_FEED_RESTORED (R397). -/
  | slotFeedRestored (vin : Nat)
  /-- SLOT_REMOVAL (R399). -/
  | slotRemoval (slot : Fin 48)
  /-- FAULT_CLR (R398). -/
  | faultClr (slot : Fin 48) (value : W32)
  /-- SLOT_EN_WRITE (R400). -/
  | slotEnWrite (slot : Fin 48) (value : W32)
  /-- AUTO_RETRY_WRITE (R398). -/
  | autoRetryWrite (slot : Fin 48) (value : W32)
  /-- HOLDOFF_EXPIRY (R398). -/
  | holdoffExpiry (slot : Fin 48)
  /-- SLOT_ON_SETTLED (R398). -/
  | slotOnSettled (slot : Fin 48)
  /-- SLOT_BACKFEED_WAIT_END (R392). -/
  | slotBackfeedWaitEnd (slot : Fin 48) (peerOn : Bool)
  /-- SUMP_RESERVATION_GRANT (R410). -/
  | sumpReservationGrant (id : Nat)
  /-- FLOAT_RECOMPUTE (R409). -/
  | floatRecompute
  /-- HOLDUP_SAMPLE (R417). -/
  | holdupSample (mv : Int) (peerOn : List Nat)
  /-- PWRFAIL_N_FALL (R418). -/
  | pwrfailNFall
  /-- INPUT_UNDERVOLTAGE (R573). -/
  | inputUndervoltage
  /-- INPUT_BROWNOUT (R573). -/
  | inputBrownout
  /-- INPUT_OVERVOLTAGE (R573). -/
  | inputOvervoltage
  /-- SAVE_COMPLETE (R420). -/
  | saveComplete (now : Nat)
  /-- SAVE_TRIGGER_CLEARED (R420). -/
  | saveTriggerCleared
  /-- MIRROR_FRAME_RECEIVE (R413). -/
  | mirrorFrameReceive (f : MirrorFrame)
  /-- MIRROR_ACK_RECEIVE (R413). -/
  | mirrorAckReceive (cmd : Nat)
  /-- SINGLE_MODE_ENTRY (R414). -/
  | singleModeEntry
  /-- SUSPEND (R415). -/
  | suspend
  /-- SUSPEND_ACK (R414). -/
  | suspendAck
  /-- MIRROR_COPYBACK_DONE (R415). -/
  | mirrorCopybackDone
  /-- FORCE_TAKEOVER (R415). -/
  | forceTakeover (value : W32)
  /-- SHUTDOWN (R428). -/
  | shutdown (value : W32)
  /-- SHUTDOWN_DONE (R428). -/
  | shutdownDone
  /-- SAVE_LOST_CLEAR (R427). -/
  | saveLostClear (value : W32)
  /-- KEY_IMPORT (R434). -/
  | keyImport (value : W32)
  /-- KEY_GENERATE (R433). -/
  | keyGenerate (value : W32)
  /-- KEY_DESTROY (R436). -/
  | keyDestroy (value : W32)
  /-- KEY_INFO (R433). -/
  | keyInfo (value : W32)
  /-- EXPORT_PUB (R433). -/
  | exportPub (value : W32)
  /-- KEY_OP_DONE (R433). -/
  | keyOpDone
  /-- LA_ACQUIRE (R441). -/
  | laAcquire (who : Writer)
  /-- LA_RELEASE (R441). -/
  | laRelease (who : Writer)
  /-- LA_FORCE (R441). -/
  | laForce (value : W32)
  /-- LA_PRODUCER_WRITE (R442). -/
  | laProducerWrite (who : Writer) (prod : BitVec 8)
  /-- LA_DESCRIPTOR_DONE (R443). -/
  | laDescriptorDone
  /-- LA_LOCK_TIMEOUT (R441). -/
  | laLockTimeout
  /-- RETENTION_READ (R447). -/
  | retentionRead (value : W32)
  /-- HOLD_SET (R447). -/
  | holdSet (value : W32)
  /-- HOLD_CLEAR (R447). -/
  | holdClear (value : W32)
  /-- EXTEND (R447). -/
  | extend (value : W32)
  /-- RETENTION_EXPIRY_CHECK (R446). -/
  | retentionExpiryCheck
  /-- ERASE_DELAY_EXPIRY (R446). -/
  | eraseDelayExpiry (nsid : Nat)
  /-- AUDIT_ARCH_WRITE (R451). -/
  | auditArchWrite (arch : W64)
  /-- AUDIT_VERIFY (R452). -/
  | auditVerify
  /-- AUDIT_VERIFY_DONE (R452). -/
  | auditVerifyDone
  /-- PEER_LINK_TRAINED (R455). -/
  | peerLinkTrained (link : Fin 2) (t : PeerTrained)
  /-- PEER_LINK_LOST (R455). -/
  | peerLinkLost (link : Fin 2)
  /-- BRONTANTO_FRAME_RECEIVE (R456). -/
  | brontantoFrameReceive (link : Fin 2) (f : PodFrame)
  /-- HELLO_SEND (R459). -/
  | helloSend
  /-- HELLO (R460). -/
  | hello (link : Fin 2) (hops : Fin 8) (h : Hello)
  /-- JOIN_REFUSE (R460). -/
  | joinRefuse (src : Fin 8) (cause : Nat)
  /-- LIVE_SET_REQ (R461). -/
  | liveSetReq (src : Fin 8)
  /-- LIVE_SET (R463). -/
  | liveSet (src : Fin 8) (epoch : Nat) (values : List (Nat × W32))
  /-- POD_LAUNCH_PROPOSE (R466). -/
  | podLaunchPropose (value : W32)
  /-- POD_LAUNCH_CANCEL (R468). -/
  | podLaunchCancel (value : W32)
  /-- PREPARE (R467). -/
  | prepare (src : Fin 8) (time : Nat) (epoch : Nat) (snapshot : Bool) (values : List (Nat × W32))
  /-- AGREE (R468). -/
  | agree (src : Fin 8)
  /-- REFUSE (R468). -/
  | refuse (src : Fin 8) (cause : Nat)
  /-- GO (R468). -/
  | go (src : Fin 8)
  /-- ABANDON (R468). -/
  | abandon (src : Fin 8)
  /-- LAUNCH_ANSWER_DEADLINE (R468). -/
  | launchAnswerDeadline
  /-- GO_LATE (R468). -/
  | goLate
  /-- MEMBER_DEAD_TIME (R475). -/
  | memberDeadTime (m : Fin 8)
  /-- LEAVING (R475). -/
  | leaving (src : Fin 8)
  /-- FENCE_DELAY_EXPIRY (R476). -/
  | fenceDelayExpiry
  /-- FAILOVER_FENCED (R477). -/
  | failoverFenced
  /-- GRANT_REQ (R471). -/
  | grantReq (src : Fin 8) (layout : Nat) (cls : Nat) (cisterns : List Nat)
  /-- GRANT (R471). -/
  | grant (src : Fin 8) (tank : Nat) (layout : Nat) (cls : Nat) (members : List (Nat × Nat × Nat)) (refused : Bool)
  /-- COPY_MAP (R472). -/
  | copyMap (src : Fin 8) (nsid : Nat) (iu : Nat) (source : Nat) (target : Nat)
  /-- RELEASE (R472). -/
  | release (src : Fin 8) (tank : Nat) (answer : Bool)
  /-- HANDOVER (R473). -/
  | handover (src : Fin 8) (h : Handover)
  /-- EPOCH_NOTE (R474). -/
  | epochNote (src : Fin 8) (cistern : Fin 48) (epoch : Nat)
  /-- KEY_COPY (R437). -/
  | keyCopy (src : Fin 8) (slot : Nat) (type : Nat) (key : List Byte) (destroyed : List Nat)
  /-- FORCE_OWN (R474). -/
  | forceOwn (value : W32)
  /-- FORWARD (R470). -/
  | forward (src : Fin 8) (m : FwdMsg)
  /-- BALANCING_MOVE_START (R473). -/
  | balancingMoveStart (nsid : Nat)
  /-- CONFIG_REQUEST (R484). -/
  | configRequest (fn : Fin 34) (off : BitVec 10) (write : Option (BitVec 4 × W32))
  /-- BAR_REQUEST_UNDECODED (R489). -/
  | barRequestUndecoded (fn : Fin 34) (bar : Fin 6) (off : Nat)
  /-- WINDOW_ACCESS (R490). -/
  | windowAccess (off : Nat) (len : Nat) (write : Option (List Byte))
  /-- WINDOW_ENABLE (R491). -/
  | windowEnable (n : Fin 16) (value : W32)
  /-- NVME_DOORBELL (R492). -/
  | nvmeDoorbell (fn : Fin 34) (queue : Nat) (cq : Bool) (value : Nat)
  /-- CC_EN_WRITE (R492). -/
  | ccEnWrite (fn : Fin 34) (cc : W32) (aqa : W32) (asq : Nat) (acq : Nat)
  /-- PCIE_COMPLETION_RECEIVE (R498). -/
  | pcieCompletionReceive (c : PcieCpl)
  /-- PCIE_COMPLETION_TIMEOUT (R502). -/
  | pcieCompletionTimeout (tag : Fin 1024)
  /-- PCIE_TAG_QUARANTINE_END (R502). -/
  | pcieTagQuarantineEnd (tag : Fin 1024)
  /-- BUS_MASTER_CLEAR (R503). -/
  | busMasterClear (fn : Fin 34)
  /-- FUNCTION_LEVEL_RESET (R504). -/
  | functionLevelReset (fn : Fin 34)
  /-- FLR_DONE (R504). -/
  | flrDone (fn : Fin 34)
  /-- VF_ENABLE (R493). -/
  | vfEnable (enable : Bool) (numVfs : Nat)
  /-- LTR_SEND (R506). -/
  | ltrSend
  /-- POSTED_WRITE_RECEIVE (R510). -/
  | postedWriteReceive (fn : Fin 34) (error : PostedError)
  /-- GET_VERSION (R508). -/
  | getVersion
  /-- GET_CAPABILITIES (R508). -/
  | getCapabilities
  /-- NEGOTIATE_ALGORITHMS (R508). -/
  | negotiateAlgorithms (asym : W32) (hash : W32)
  /-- GET_DIGESTS (R508). -/
  | getDigests
  /-- GET_CERTIFICATE (R508). -/
  | getCertificate (slot : Nat) (off : Nat) (len : Nat)
  /-- CHALLENGE (R508). -/
  | challenge (slot : Nat) (measurements : Nat) (nonce : BitVec 256)
  /-- GET_MEASUREMENTS (R509). -/
  | getMeasurements (index : BitVec 8) (signed : Bool) (nonce : BitVec 256)
  /-- SPDM_UNSUPPORTED (R508). -/
  | spdmUnsupported (code : BitVec 8)
  /-- MAILBOX_DOORBELL (R516). -/
  | mailboxDoorbell (value : W32)
  /-- MAILBOX_COMPLETE (R517). -/
  | mailboxComplete (m : Fin 32)
  /-- BAR2_WRITE (R519). -/
  | bar2Write (off : Nat) (a : Bar2Access) (ecc : SpEcc)
  /-- SEQUENCER_HALT (R514). -/
  | sequencerHalt (n : Fin 16) (f : SeqFault)
  /-- SEQ_WORK_OVERRUN (R552). -/
  | seqWorkOverrun (n : Fin 16)
  /-- HOST_ATOMIC (R521). -/
  | hostAtomic (value : W32)
  /-- TILE_COUNTER_CLEAR (R523). -/
  | tileCounterClear (t : Fin 16) (value : W32)
  /-- PMU_SNAPSHOT (R528). -/
  | pmuSnapshot (value : W32)
  /-- PMU_BLOCK_COPY_DONE (R528). -/
  | pmuBlockCopyDone
  /-- BANDWIDTH_WINDOW_END (R527). -/
  | bandwidthWindowEnd (totals : List (Nat × Nat × Nat))
  /-- BANDWIDTH_WINDOW_WRITE (R527). -/
  | bandwidthWindowWrite (value : W32)
  /-- DEVICE_STATE_EVALUATE (R536). -/
  | deviceStateEvaluate (now : Nat)
  /-- DEVICE_STATE_EXIT_DONE (R536). -/
  | deviceStateExitDone
  /-- REGULATOR_FAULT (R532). -/
  | regulatorFault (domain : Option (Fin 147))
  /-- I3C_SENSOR_READ (R539). -/
  | i3cSensorRead (r : Sensors)
  /-- I3C_BUS_RETRY (R539). -/
  | i3cBusRetry (found : Option (BitVec 8))
  /-- THERMAL_TRIP (R539). -/
  | thermalTrip (package : Int)
  /-- THERMAL_TRIP_RELEASE (R578). -/
  | thermalTripRelease (package : Int)
  /-- CLOCK_LOCK_LOSS (R540). -/
  | clockLockLoss (k : Fin 20)
  /-- RING_COALESCE_EXPIRY (R548). -/
  | ringCoalesceExpiry (ring : Fin 256)
  /-- RING_CONS_WRITE (R548). -/
  | ringConsWrite (ring : Fin 256) (value : W32)
  /-- RING_ENABLE (R547). -/
  | ringEnable (ring : Fin 256) (value : W32)
  /-- HISTORY_READ (R550). -/
  | historyRead (value : W32)
  /-- FATAL_ERROR (R551). -/
  | fatalError (cause : FatalCause)
  /-- FATAL_HOLD_EXPIRY (R551). -/
  | fatalHoldExpiry
  /-- FATAL_CLEAR (R553). -/
  | fatalClear (value : W32)
  /-- WATCHDOG_KICK (R552). -/
  | watchdogKick (value : W32)
  /-- WATCHDOG_WARN (R552). -/
  | watchdogWarn
  /-- WATCHDOG_EXPIRY (R552). -/
  | watchdogExpiry
  /-- RESET_N_RELEASE (R77). -/
  | resetNRelease
  /-- PERST_N_RELEASE (R81). -/
  | perstNRelease
  /-- PCIE_LINK_TRAINED (R482). -/
  | pcieLinkTrained (speed : Fin 7) (width : Nat) (flit : Bool)
  /-- SKL_TRAINING_RESTART (R354). -/
  | sklTrainingRestart (link : Fin 48)
  /-- PEER_LINK_RECOVERY_ENTRY (R455). -/
  | peerLinkRecoveryEntry (link : Fin 2)
  /-- PEER_LINK_RECOVERY_DONE (R455). -/
  | peerLinkRecoveryDone (link : Fin 2) (lanes : Nat)
  /-- DOE_DISCOVERY (R508). -/
  | doeDiscovery (index : BitVec 8)
  /-- PFC_PAUSE_EXPIRY (R121). -/
  | pfcPauseExpiry (port : Fin 4) (sub prio : Fin 8)
  /-- IDLE_WAIT_EXPIRY (R348). -/
  | idleWaitExpiry (cistern : Fin 48)
  /-- INTERRUPT_COALESCING_TIMEOUT (R176). -/
  | interruptCoalescingTimeout (fn : Fin 34) (vector : Nat)
  deriving DecidableEq, Repr

end Sys2Proof
end

