-- ==== Sys2Proof/Config.lean ====
section
/-! DEFINITION. What the spec leaves to the implementation, as constants without a body: nothing can be proved of
their values, so a statement that holds of the model holds whatever they are. -/

namespace Sys2Proof.Config

/-- A value the spec leaves open, indexed by the state's counter of such values: `w` bits of any content. -/
opaque freeBits (w : Nat) : Nat → BitVec w

/-- Does an ML-DSA-87 signature of a message verify under a public key (FIPS 204, published, not computed here)? -/
opaque mldsaVerify : (key sig message : List Byte) → Bool

/-- A digital signature by the device key over a transcript (published, not computed here). -/
opaque sign : List Nat → List Byte

/-- The certificate chain of slot 0, provisioned by Dziaro (R508): its bytes. -/
opaque deviceChain : List Byte

/-- The SHA-384 digest of the part's boot ROM (Table 18.5). -/
opaque romDigest : BitVec 384

/-- What a port's maximum frame size is beyond the 4,230 bytes that R148 asks of the path. -/
opaque ethFrameExtra : (port : Nat) → Nat

/-- An Ethernet port's maximum frame size (R222). -/
def ethMaxFrame (port : Nat) : Nat := 4230 + ethFrameExtra port

/-- What the replay buffer of a Skalas link holds beyond the 512 FLITs that R358 asks for. -/
opaque replayExtra : Nat

/-- The credits that the controller's parameter record grants a bridge (R358): COMMAND and PROGRAM; a bridge sends neither. -/
opaque paramCredits : BitVec 32

/-- The byte at an offset of the chunk that the META stripe under a SEQ carries: the map store's format is the controller's own. -/
opaque metaByte : (seq offset : Nat) → BitVec 8

/-- What the partner's counter (0 REFRESH_TANKS, 1 LEVEL_TANKS) stands at when the health page has been updated so often: the page sums
both controllers' (Table 10.4), and nothing says how one learns the other's. -/
opaque partnerTanks : (counter generation : Nat) → BitVec 64

/-- The first of the 16 UDP source ports that PRD packets are sent from (R147). -/
opaque prdSource : Nat

end Sys2Proof.Config
end

