-- ==== Sys2Proof/Machine/Crypto.lean ====
section
/-! DEFINITION. The published functions that the spec names, on byte strings: CRC-32C, SHA-384 (FIPS 180-4), HMAC and HKDF (RFC 2104, RFC 5869),
ECDSA and ECDH over P-384 (FIPS 186-5, SP 800-56A), AES with the modes of Table 16.6 (FIPS 197, SP 800-38A and 38D, IEEE 1619).  Numbers stand for
words and bytes, so that the kernel computes them. -/

namespace Sys2Proof.Machine

/-- The bytes of a number, least significant first (R8). -/
def leBytes : (n : Nat) → (v : Nat) → List Byte
  | 0, _ => []
  | n + 1, v => BitVec.ofNat 8 v :: leBytes n (v / 256)

/-- Zero `n` bytes. -/
def zeros (n : Nat) : List Byte := List.replicate n 0

/-! ### CRC-32C (R22, R49, Table 5.6) -/

/-- One bit of a CRC-32C, least significant first. -/
def crcBit (c : W32) : W32 := if c.getLsbD 0 then (c >>> 1) ^^^ 0x82F63B78#32 else c >>> 1

/-- One byte. -/
def crcByte (c : W32) (b : Byte) : W32 :=
  let x := c ^^^ b.setWidth 32
  crcBit (crcBit (crcBit (crcBit (crcBit (crcBit (crcBit (crcBit x)))))))

/-- CRC-32C of a byte string. -/
def crc32c (l : List Byte) : Nat := (l.foldl crcByte 0xFFFFFFFF#32 ^^^ 0xFFFFFFFF#32).toNat

/-! ### Bytes and numbers -/

/-- The bytes of a string as numbers. -/
def nats (l : List Byte) : List Nat := l.map BitVec.toNat

/-- Numbers below 256 as bytes. -/
def bytesOf (l : List Nat) : List Byte := l.map (BitVec.ofNat 8)

/-- A number from bytes, most significant first. -/
def beNat (l : List Nat) : Nat := l.foldl (fun a b => a * 256 + b) 0

/-- The `n` low bytes of a number, most significant first. -/
def beList (n v : Nat) : List Nat := (List.range n).map fun i => v >>> (8 * (n - 1 - i)) % 256

/-! ### SHA-384 -/

def rotr64 (n x : Nat) : Nat := (x >>> n ||| x <<< (64 - n)) % 2 ^ 64

def shaSmall0 (x : Nat) : Nat := (rotr64 1 x ^^^ rotr64 8 x) ^^^ x >>> 7
def shaSmall1 (x : Nat) : Nat := (rotr64 19 x ^^^ rotr64 61 x) ^^^ x >>> 6
def shaBig0 (x : Nat) : Nat := (rotr64 28 x ^^^ rotr64 34 x) ^^^ rotr64 39 x
def shaBig1 (x : Nat) : Nat := (rotr64 14 x ^^^ rotr64 18 x) ^^^ rotr64 41 x

/-- The eight working words. -/
structure ShaWork where
  a : Nat
  b : Nat
  c : Nat
  d : Nat
  e : Nat
  f : Nat
  g : Nat
  h : Nat
  deriving DecidableEq, Repr

/-- The round constants. -/
def shaK : List Nat :=
  [0x428a2f98d728ae22, 0x7137449123ef65cd, 0xb5c0fbcfec4d3b2f, 0xe9b5dba58189dbbc, 0x3956c25bf348b538, 0x59f111f1b605d019, 0x923f82a4af194f9b, 0xab1c5ed5da6d8118] ++
  [0xd807aa98a3030242, 0x12835b0145706fbe, 0x243185be4ee4b28c, 0x550c7dc3d5ffb4e2, 0x72be5d74f27b896f, 0x80deb1fe3b1696b1, 0x9bdc06a725c71235, 0xc19bf174cf692694] ++
  [0xe49b69c19ef14ad2, 0xefbe4786384f25e3, 0x0fc19dc68b8cd5b5, 0x240ca1cc77ac9c65, 0x2de92c6f592b0275, 0x4a7484aa6ea6e483, 0x5cb0a9dcbd41fbd4, 0x76f988da831153b5] ++
  [0x983e5152ee66dfab, 0xa831c66d2db43210, 0xb00327c898fb213f, 0xbf597fc7beef0ee4, 0xc6e00bf33da88fc2, 0xd5a79147930aa725, 0x06ca6351e003826f, 0x142929670a0e6e70] ++
  [0x27b70a8546d22ffc, 0x2e1b21385c26c926, 0x4d2c6dfc5ac42aed, 0x53380d139d95b3df, 0x650a73548baf63de, 0x766a0abb3c77b2a8, 0x81c2c92e47edaee6, 0x92722c851482353b] ++
  [0xa2bfe8a14cf10364, 0xa81a664bbc423001, 0xc24b8b70d0f89791, 0xc76c51a30654be30, 0xd192e819d6ef5218, 0xd69906245565a910, 0xf40e35855771202a, 0x106aa07032bbd1b8] ++
  [0x19a4c116b8d2d0c8, 0x1e376c085141ab53, 0x2748774cdf8eeb99, 0x34b0bcb5e19b48a8, 0x391c0cb3c5c95a63, 0x4ed8aa4ae3418acb, 0x5b9cca4f7763e373, 0x682e6ff3d6b2b8a3] ++
  [0x748f82ee5defb2fc, 0x78a5636f43172f60, 0x84c87814a1f0ab72, 0x8cc702081a6439ec, 0x90befffa23631e28, 0xa4506cebde82bde9, 0xbef9a3f7b2c67915, 0xc67178f2e372532b] ++
  [0xca273eceea26619c, 0xd186b8c721c0c207, 0xeada7dd6cde0eb1e, 0xf57d4f7fee6ed178, 0x06f067aa72176fba, 0x0a637dc5a2c898a6, 0x113f9804bef90dae, 0x1b710b35131c471b] ++
  [0x28db77f523047d84, 0x32caab7b40c72493, 0x3c9ebe0a15c9bebc, 0x431d67c49c100d4c, 0x4cc5d4becb3e42b6, 0x597f299cfc657e2a, 0x5fcb6fab3ad6faec, 0x6c44198c4a475817]

/-- The initial hash value of SHA-384. -/
def shaInit : ShaWork :=
  ⟨0xcbbb9d5dc1059ed8, 0x629a292a367cd507, 0x9159015a3070dd17, 0x152fecd8f70e5939, 0x67332667ffc00b31, 0x8eb44a8768581511, 0xdb0c2e0d64f98fa7, 0x47b5481dbefa4fa4⟩

/-- One round. -/
def ShaWork.round (s : ShaWork) (k w : Nat) : ShaWork :=
  let t1 := s.h + shaBig1 s.e + ((s.e &&& s.f) ^^^ ((2 ^ 64 - 1 - s.e) &&& s.g)) + k + w
  let t2 := shaBig0 s.a + (((s.a &&& s.b) ^^^ (s.a &&& s.c)) ^^^ (s.b &&& s.c))
  ⟨(t1 + t2) % 2 ^ 64, s.a, s.b, s.c, (s.d + t1) % 2 ^ 64, s.e, s.f, s.g⟩

/-- The rounds of a block, over the constants; `w` holds the next 16 words of the message schedule. -/
def shaRounds : List Nat → List Nat → ShaWork → ShaWork
  | [], _, s => s
  | k :: ks, w, s =>
    let next := (shaSmall1 (w.getD 14 0) + w.getD 9 0 + shaSmall0 (w.getD 1 0) + w.getD 0 0) % 2 ^ 64
    shaRounds ks (w.drop 1 ++ [next]) (s.round k (w.getD 0 0))

def ShaWork.add (x y : ShaWork) : ShaWork :=
  ⟨(x.a + y.a) % 2 ^ 64, (x.b + y.b) % 2 ^ 64, (x.c + y.c) % 2 ^ 64, (x.d + y.d) % 2 ^ 64,
   (x.e + y.e) % 2 ^ 64, (x.f + y.f) % 2 ^ 64, (x.g + y.g) % 2 ^ 64, (x.h + y.h) % 2 ^ 64⟩

/-- The words of a block of 128 bytes. -/
def shaWords (l : List Nat) : List Nat := (List.range 16).map fun i => beNat ((l.drop (8 * i)).take 8)

/-- The blocks of a padded message, `n` of them. -/
def shaBlocks : Nat → List Nat → ShaWork → ShaWork
  | 0, _, s => s
  | n + 1, l, s => shaBlocks n (l.drop 128) (s.add (shaRounds shaK (shaWords l) s))

/-- The digest of a message, 48 bytes. -/
def sha384List (m : List Nat) : List Nat :=
  let n := m.length
  let pad := 0x80 :: List.replicate ((239 - n % 128) % 128) 0 ++ beList 16 (8 * n)
  let s := shaBlocks ((n + 144) / 128) (m ++ pad) shaInit
  ([s.a, s.b, s.c, s.d, s.e, s.f].map (beList 8)).flatten

/-- The SHA-384 digest of a byte string, its first byte most significant. -/
def sha384 (m : List Byte) : BitVec 384 := BitVec.ofNat 384 (beNat (sha384List (nats m)))

/-- HMAC-SHA-384 (RFC 2104). -/
def hmac384 (key m : List Nat) : List Nat :=
  let k := if 128 < key.length then sha384List key else key
  let k := k ++ List.replicate (128 - k.length) 0
  sha384List (k.map (· ^^^ 0x5C) ++ sha384List (k.map (· ^^^ 0x36) ++ m))

/-- HKDF-SHA-384 (RFC 5869), of at most 48 bytes. -/
def hkdf384 (salt ikm info : List Nat) (len : Nat) : List Nat :=
  (hmac384 (hmac384 salt ikm) (info ++ [1])).take len

/-! ### P-384 -/

def p384P : Nat := 2 ^ 384 - 2 ^ 128 - 2 ^ 96 + 2 ^ 32 - 1
def p384N : Nat := 0xffffffffffffffffffffffffffffffffffffffffffffffffc7634d81f4372ddf581a0db248b0a77aecec196accc52973
def p384B : Nat := 0xb3312fa7e23ee7e4988e056be3f82d19181d9c6efe8141120314088f5013875ac656398d8a2ed19d2a85c8edd3ec2aef
def p384Gx : Nat := 0xaa87ca22be8b05378eb1c71ef320ad746e1d3b628ba79b9859f741e082542a385502f25dbf55296c3a545e3872760ab7
def p384Gy : Nat := 0x3617de4a96262c6f5d9e98bf9292dc29f8f41dbd289a147ce9da3113b5f0b8c00a60b1ce1d7e819d7a431d7c90ea0e5f

/-- A point in Jacobian coordinates; z = 0 is the point at infinity. -/
structure JPoint where
  x : Nat
  y : Nat
  z : Nat
  deriving DecidableEq, Repr

/-- The difference modulo p. -/
def p384Sub (a b : Nat) : Nat := (a + (p384P - b)) % p384P

/-- Twice a point. -/
def JPoint.double (q : JPoint) : JPoint :=
  if q.z == 0 || q.y == 0 then ⟨1, 1, 0⟩
  else
    let zz := q.z * q.z % p384P
    let yy := q.y * q.y % p384P
    let s := 4 * q.x * yy % p384P
    let m := 3 * (p384Sub q.x zz * (q.x + zz)) % p384P
    let x := p384Sub (m * m % p384P) (2 * s % p384P)
    ⟨x, p384Sub (m * p384Sub s x % p384P) (8 * yy * yy % p384P), 2 * q.y * q.z % p384P⟩

/-- The sum of two points. -/
def JPoint.add (q r : JPoint) : JPoint :=
  if q.z == 0 then r
  else if r.z == 0 then q
  else
    let z1 := q.z * q.z % p384P
    let z2 := r.z * r.z % p384P
    let u1 := q.x * z2 % p384P
    let u2 := r.x * z1 % p384P
    let s1 := q.y * (z2 * r.z % p384P) % p384P
    let s2 := r.y * (z1 * q.z % p384P) % p384P
    if u1 == u2 then (if s1 == s2 then q.double else ⟨1, 1, 0⟩)
    else
      let h := p384Sub u2 u1
      let k := p384Sub s2 s1
      let hh := h * h % p384P
      let hhh := hh * h % p384P
      let v := u1 * hh % p384P
      let x := p384Sub (k * k % p384P) ((hhh + 2 * v) % p384P)
      ⟨x, p384Sub (k * p384Sub v x % p384P) (s1 * hhh % p384P), q.z * r.z % p384P * h % p384P⟩

/-- A multiple of a point, over the `n` low bits of the scalar, most significant first. -/
def JPoint.mulBits (q : JPoint) (k : Nat) : Nat → JPoint → JPoint
  | 0, acc => acc
  | n + 1, acc =>
    let d := acc.double
    q.mulBits k n (if k >>> n % 2 == 1 then d.add q else d)

def JPoint.mul (q : JPoint) (k : Nat) : JPoint := q.mulBits k 384 ⟨1, 1, 0⟩

/-- A power modulo m, over the `n` low bits of the exponent. -/
def powMod (b e m : Nat) : Nat → Nat → Nat
  | 0, acc => acc
  | n + 1, acc =>
    let d := acc * acc % m
    powMod b e m n (if e >>> n % 2 == 1 then d * b % m else d)

/-- The inverse modulo a prime of 384 bits. -/
def invMod (a m : Nat) : Nat := powMod (a % m) (m - 2) m 384 1

/-- The affine x-coordinate. -/
def JPoint.affineX (q : JPoint) : Nat :=
  let i := invMod q.z p384P
  q.x * (i * i % p384P) % p384P

/-- An uncompressed point 0x04 ‖ X ‖ Y that lies on the curve. -/
def p384Point (l : List Nat) : Option JPoint :=
  let x := beNat ((l.drop 1).take 48)
  let y := beNat ((l.drop 49).take 48)
  if l.length == 97 && l.getD 0 0 == 4 && decide (x < p384P) && decide (y < p384P) &&
      y * y % p384P == (x * x % p384P * x + (p384P - 3) * x + p384B) % p384P then some ⟨x, y, 1⟩
  else none

/-- ECDSA over P-384 (FIPS 186-5): does the signature r ‖ s of a 48-byte digest verify under the public key? -/
def ecdsaVerify (pub sig : List Nat) (digest : Nat) : Bool :=
  let r := beNat (sig.take 48)
  let s := beNat (sig.drop 48)
  match p384Point pub with
  | none => false
  | some q =>
    sig.length == 96 && decide (0 < r ∧ r < p384N ∧ 0 < s ∧ s < p384N) &&
      (let w := invMod s p384N
       let t := ((⟨p384Gx, p384Gy, 1⟩ : JPoint).mul (digest * w % p384N)).add (q.mul (r * w % p384N))
       t.z != 0 && t.affineX % p384N == r)

/-- The 48-byte x-coordinate of the ECDH product. -/
def ecdh (priv : Nat) (pub : List Nat) : Option (List Nat) :=
  (p384Point pub).map fun q => beList 48 (q.mul priv).affineX

/-- The public key of a private key, uncompressed. -/
def p384Public (priv : Nat) : List Nat :=
  let q := (⟨p384Gx, p384Gy, 1⟩ : JPoint).mul priv
  let i := invMod q.z p384P
  4 :: beList 48 q.affineX ++ beList 48 (q.y * (i * i % p384P * i % p384P) % p384P)

/-! ### AES -/

/-- The S-box, entry k in byte k. -/
def aesSbox : Nat :=
  0xc072a49cafa2d4adf04759fa7dc982ca76abd7fe2b670130c56f6bf27b777c63 <<< 0 |||
  0x75b227ebe28012079a059618c323c7041531d871f1e5a534ccf73f362693fdb7 <<< 256 |||
  0xcf584c4a39becb6a5bb1fc20ed00d153842fe329b3d63b52a05a6e1b1a2c8309 <<< 512 |||
  0xd2f3ff1021dab6bcf5389d928f40a351a89f3c507f02f94585334d43fbaaefd0 <<< 768 |||
  0xdb0b5ede14b8ee4688902a22dc4f816073195d643d7ea7c41744975fec130ccd <<< 1024 |||
  0x08ae7a65eaf4566ca94ed58d6d37c8e779e4959162acd3c25c2406490a3a32e0 <<< 1280 |||
  0x9e1dc186b95735610ef6034866b53e708a8bbd4b1f74dde8c6b4a61c2e2578ba <<< 1536 |||
  0x16bb54b00f2d99416842e6bf0d89a18cdf2855cee9871e9b948ed9691198f8e1 <<< 1792

/-- The inverse S-box. -/
def aesInvSbox : Nat :=
  0xcbe9dec444438e3487ff2f9b8239e37cfbd7f3819ea340bf38a53630d56a0952 <<< 0 |||
  0x25d18b6d49a25b76b224d92866a12e084ec3fa420b954cee3d23c2a632947b54 <<< 256 |||
  0x849d8da75746155edab9edfd5048706c92b6655dcc5ca4d41698688664f6f872 <<< 512 |||
  0x6b8a130103bdafc1020f3fca8f1e2cd00645b3b80558e4f70ad3bc8c00abd890 <<< 768 |||
  0x6edf751ce837f9e28535ade72274ac9673e6b4f0cecff297eadc674f4111913a <<< 1024 |||
  0xf45acd78fec0db9a2079d2c64b3e56fc1bbe18aa0e62b76f89c5291d711af147 <<< 1280 |||
  0xef9cc9939f7ae52d0d4ab519a97f51605fec8027591012b131c7078833a8dd1f <<< 1536 |||
  0x7d0c2155631469e126d677ba7e042b17619953833cbbebc8b0f52aae4d3be0a0 <<< 1792

def aesSub (b : Nat) : Nat := aesSbox >>> (8 * b) % 256
def aesInvSub (b : Nat) : Nat := aesInvSbox >>> (8 * b) % 256

/-- Multiply by x in the field of AES. -/
def aesX (b : Nat) : Nat := if b < 128 then 2 * b else (2 * b) % 256 ^^^ 0x1B

def xorList : List Nat → List Nat → List Nat
  | a :: as, b :: bs => (a ^^^ b) :: xorList as bs
  | _, _ => []

/-- The bytes of a state after ShiftRows, and after its inverse. -/
def aesShift (l : List Nat) : List Nat := [0, 5, 10, 15, 4, 9, 14, 3, 8, 13, 2, 7, 12, 1, 6, 11].map fun i => l.getD i 0
def aesInvShift (l : List Nat) : List Nat := [0, 13, 10, 7, 4, 1, 14, 11, 8, 5, 2, 15, 12, 9, 6, 3].map fun i => l.getD i 0

/-- MixColumns, column by column. -/
def aesMix : List Nat → List Nat
  | a :: b :: c :: d :: rest =>
    let t := ((a ^^^ b) ^^^ c) ^^^ d
    ((a ^^^ t) ^^^ aesX (a ^^^ b)) :: ((b ^^^ t) ^^^ aesX (b ^^^ c)) :: ((c ^^^ t) ^^^ aesX (c ^^^ d)) ::
      ((d ^^^ t) ^^^ aesX (d ^^^ a)) :: aesMix rest
  | _ => []

/-- The inverse of MixColumns is its cube. -/
def aesInvMix (l : List Nat) : List Nat := aesMix (aesMix (aesMix l))

/-- One more key word from the last `nk`, number `i`. -/
def aesWord (nk i rcon : Nat) (prev back : List Nat) : List Nat :=
  let t := if i % nk == 0 then
      match (prev.drop 1 ++ prev.take 1).map aesSub with
      | a :: rest => (a ^^^ rcon) :: rest
      | [] => []
    else if 6 < nk && i % nk == 4 then prev.map aesSub else prev
  xorList back t

/-- The key schedule: `n` words more; `win` holds the last `nk` words, oldest first. -/
def aesExpand (nk : Nat) : Nat → Nat → Nat → List (List Nat) → List (List Nat)
  | 0, _, _, _ => []
  | n + 1, i, rcon, win =>
    let w := aesWord nk i rcon (win.getLast?.getD []) (win.headD [])
    w :: aesExpand nk n (i + 1) (if i % nk == 0 then aesX rcon else rcon) (win.drop 1 ++ [w])

/-- Lists of `n` numbers, `k` of them. -/
def chunks (n : Nat) : Nat → List Nat → List (List Nat)
  | 0, _ => []
  | k + 1, l => l.take n :: chunks n k (l.drop n)

/-- The round keys of a key of 16, 24 or 32 bytes. -/
def aesKeys (key : List Nat) : List (List Nat) :=
  let nk := key.length / 4
  let first := chunks 4 nk key
  chunks 16 (nk + 7) ((first ++ aesExpand nk (4 * (nk + 7) - nk) nk 1 first).flatten)

def aesRounds : List (List Nat) → List Nat → List Nat
  | [], s => s
  | [k], s => xorList (aesShift (s.map aesSub)) k
  | k :: ks, s => aesRounds ks (xorList (aesMix (aesShift (s.map aesSub))) k)

/-- Encrypt a block. -/
def aesBlock (keys : List (List Nat)) (b : List Nat) : List Nat := aesRounds (keys.drop 1) (xorList b (keys.headD []))

def aesInvRounds : List (List Nat) → List Nat → List Nat
  | [], s => s
  | [k], s => xorList ((aesInvShift s).map aesInvSub) k
  | k :: ks, s => aesInvRounds ks (aesInvMix (xorList ((aesInvShift s).map aesInvSub) k))

/-- Decrypt a block. -/
def aesUnblock (keys : List (List Nat)) (b : List Nat) : List Nat :=
  let r := keys.reverse
  aesInvRounds (r.drop 1) (xorList b (r.headD []))

/-! ### Modes -/

/-- Blocks of 16 that hold `n` bytes. -/
def blocks16 (n : Nat) : Nat := (n + 15) / 16

def cbcEncrypt (keys : List (List Nat)) : Nat → List Nat → List Nat → List Nat
  | 0, _, _ => []
  | n + 1, iv, l =>
    let c := aesBlock keys (xorList (l.take 16) iv)
    c ++ cbcEncrypt keys n c (l.drop 16)

def cbcDecrypt (keys : List (List Nat)) : Nat → List Nat → List Nat → List Nat
  | 0, _, _ => []
  | n + 1, iv, l => xorList (aesUnblock keys (l.take 16)) iv ++ cbcDecrypt keys n (l.take 16) (l.drop 16)

/-- CFB with a 128-bit segment, its last segment short. -/
def cfb (keys : List (List Nat)) (decrypt : Bool) : Nat → List Nat → List Nat → List Nat
  | 0, _, _ => []
  | n + 1, iv, l =>
    let x := xorList (l.take 16) (aesBlock keys iv)
    x ++ cfb keys decrypt n (if decrypt then l.take 16 else x) (l.drop 16)

/-- Counter mode: the last four bytes of the block count up. -/
def ctr (keys : List (List Nat)) : Nat → List Nat → List Nat → List Nat
  | 0, _, _ => []
  | n + 1, iv, l =>
    xorList (l.take 16) (aesBlock keys iv) ++
      ctr keys n (iv.take 12 ++ beList 4 (beNat (iv.drop 12) + 1)) (l.drop 16)

/-- The product in the field of GHASH, over the `n` low bits of x, most significant first. -/
def gf128 (x : Nat) : Nat → Nat → Nat → Nat
  | 0, _, z => z
  | n + 1, v, z =>
    gf128 x n (if v % 2 == 1 then v >>> 1 ^^^ 0xE1 <<< 120 else v >>> 1) (if x >>> n % 2 == 1 then z ^^^ v else z)

def ghash (h : Nat) : List Nat → Nat → Nat
  | [], y => y
  | x :: xs, y => ghash h xs (gf128 (y ^^^ x) 128 h 0)

/-- Blocks of 16 bytes as numbers, the last padded with zeros. -/
def ghashBlocks (l : List Nat) : List Nat :=
  (chunks 16 (blocks16 l.length) l).map fun b => beNat (b ++ List.replicate (16 - b.length) 0)

/-- The GCM tag over additional data and ciphertext under a 12-byte IV. -/
def gcmTag (keys : List (List Nat)) (iv aad ct : List Nat) : List Nat :=
  let h := beNat (aesBlock keys (List.replicate 16 0))
  let s := ghash h (ghashBlocks aad ++ ghashBlocks ct ++ [8 * aad.length * 2 ^ 64 + 8 * ct.length]) 0
  xorList (beList 16 s) (aesBlock keys (iv ++ [0, 0, 0, 1]))

/-- The bytes that GCM encrypts or decrypts. -/
def gcmCrypt (keys : List (List Nat)) (iv l : List Nat) : List Nat := ctr keys (blocks16 l.length) (iv ++ [0, 0, 0, 2]) l

/-- The tweak times x, little-endian. -/
def xtsX (t : Nat) : Nat := if t < 2 ^ 127 then 2 * t else (2 * t) % 2 ^ 128 ^^^ 0x87

/-- A number from bytes, least significant first, and back. -/
def leNat (l : List Nat) : Nat := beNat l.reverse
def leList16 (v : Nat) : List Nat := (beList 16 v).reverse

/-- One block under a tweak. -/
def xtsBlock (keys : List (List Nat)) (decrypt : Bool) (t : Nat) (b : List Nat) : List Nat :=
  let w := leList16 t
  xorList (if decrypt then aesUnblock keys (xorList b w) else aesBlock keys (xorList b w)) w

/-- XTS with ciphertext stealing: `n` whole blocks are left. -/
def xts (keys : List (List Nat)) (decrypt : Bool) : Nat → Nat → List Nat → List Nat
  | 0, _, _ => []
  | n + 1, t, l =>
    let tail := l.drop 16
    if n == 0 && !tail.isEmpty then
      let a := xtsBlock keys decrypt (if decrypt then xtsX t else t) (l.take 16)
      let b := xtsBlock keys decrypt (if decrypt then t else xtsX t) (tail ++ a.drop tail.length)
      b ++ a.take tail.length
    else xtsBlock keys decrypt t (l.take 16) ++ xts keys decrypt n (xtsX t) tail

/-- XTS-AES under a key of two halves and a 16-byte tweak. -/
def xtsCrypt (key : List Nat) (decrypt : Bool) (tweak l : List Nat) : List Nat :=
  let h := key.length / 2
  xts (aesKeys (key.take h)) decrypt (l.length / 16) (leNat (aesBlock (aesKeys (key.drop h)) tweak)) l

end Sys2Proof.Machine
end

