-- ==== Sys2Proof/Machine/Tab.lean ====
section
/-! DEFINITION. `Tab`: a table by number, kept as a list of (number, entry) pairs with strictly rising numbers.
Every indexed collection of the state is one (registers by bit address, links by number, namespaces by NSID, ...). -/

namespace Sys2Proof.Machine

/-- A table by number. -/
abbrev Tab (α : Type) := List (Nat × α)

/-- The entry under `k`, if the table lists one. -/
def Tab.find (k : Nat) : Tab α → Option α
  | [] => none
  | (j, a) :: t => if j = k then some a else Tab.find k t

/-- The entry under `k`, or `d` where none is listed. -/
def Tab.getD (k : Nat) (d : α) (t : Tab α) : α := (Tab.find k t).getD d

/-- List `a` under `k`, in place of what was listed there. -/
def Tab.put (k : Nat) (a : α) : Tab α → Tab α
  | [] => [(k, a)]
  | (j, b) :: t =>
    if k < j then (k, a) :: (j, b) :: t
    else if k = j then (k, a) :: t
    else (j, b) :: Tab.put k a t

/-- Take `k` out of the table. -/
def Tab.del (k : Nat) : Tab α → Tab α
  | [] => []
  | (j, b) :: t => if j = k then Tab.del k t else (j, b) :: Tab.del k t

/-- Is `k` listed? -/
def Tab.has (k : Nat) (t : Tab α) : Bool := (Tab.find k t).isSome

/-- Change the entry under `k`, `d` standing for an unlisted one. -/
def Tab.upd (k : Nat) (d : α) (f : α → α) (t : Tab α) : Tab α := Tab.put k (f (Tab.getD k d t)) t

/-- Change the entry under `k` where one is listed. -/
def Tab.updIf (k : Nat) (f : α → α) : Tab α → Tab α
  | [] => []
  | (j, b) :: t => if j = k then (j, f b) :: t else (j, b) :: Tab.updIf k f t

/-- Change every entry, its number at hand. -/
def Tab.mapE (f : Nat → α → α) (t : Tab α) : Tab α := t.map fun e => (e.1, f e.1 e.2)

/-- Keep the entries that `p` holds of. -/
def Tab.keep (p : Nat → α → Bool) (t : Tab α) : Tab α := t.filter fun e => p e.1 e.2

/-- Is `p` true of some entry? -/
def Tab.anyE (p : Nat → α → Bool) (t : Tab α) : Bool := t.any fun e => p e.1 e.2

/-- How many entries `p` holds of. -/
def Tab.countE (p : Nat → α → Bool) (t : Tab α) : Nat := t.countP fun e => p e.1 e.2

/-- The first entry, in number order, that `p` holds of. -/
def Tab.first (p : Nat → α → Bool) (t : Tab α) : Option (Nat × α) := t.find? fun e => p e.1 e.2

/-- The lowest number from `lo` on, within `n` tries, that the table does not list. -/
def Tab.lowestFree (t : Tab α) (lo : Nat) : Nat → Option Nat
  | 0 => none
  | n + 1 => if Tab.has lo t then Tab.lowestFree t (lo + 1) n else some lo

/-- The canonical form: numbers strictly rising. -/
def Tab.sorted (t : Tab α) : Bool :=
  match t with
  | [] => true
  | (j, _) :: t' => (t'.all fun e => decide (j < e.1)) && Tab.sorted t'

end Sys2Proof.Machine
end

