-- ==== Sys2Proof/Machine/Field.lean ====
section
/-! DEFINITION. What a row of a register table says of a field (R14, R15, R562), and of a counter (R128).
The types only; what a read or a write does stands in Ops. -/

namespace Sys2Proof.Machine

/-- Access codes of Table 0.4. -/
inductive Access where
  | rw | ro | wo | w1c | w1s | rc | rws | img
  deriving DecidableEq, Repr

/-- Classes of R15. -/
inductive FClass where
  | static | quiescent | live
  deriving DecidableEq, Repr

/-- How the reset value depends on the instance: not at all, its number modulo 6 (Table 12.6 OFFSET), a quarter of
it (Table 19.3 CLASS). -/
inductive ResetRule where
  | const | modSix | divFour
  deriving DecidableEq, Repr

/-- Reset domains of the lines that introduce the tables: which resets keep the field.
`full`: none keeps it. `sticky`: RWS, kept by a warm reset. `powerOn`: only a power-on resets it.
`slot`: only a power-on and RESET_N reset it (Tables 14.6, 14.7). `launch`: every reset resets it (Table 12.7).
`mram`: kept by all. `imgStatus`: the line of Table 2.6. -/
inductive Domain where
  | full | sticky | powerOn | slot | launch | mram | imgStatus
  deriving DecidableEq, Repr

/-- One field of the register tables; `s1`, `c1` and `s2`, `c2` are the stride and count of its instances. -/
structure Field where
  off : Nat
  lo : Nat
  width : Nat
  reset : Nat
  rule : ResetRule
  acc : Access
  cls : FClass
  shadowed : Bool
  domain : Domain
  least : Nat
  most : Nat
  reserved : List Nat
  s1 : Nat
  c1 : Nat
  s2 : Nat
  c2 : Nat
  deriving DecidableEq, Repr

/-- One counter of R128 (or a row of them): the BAR0 offset of its low word, stride and count. -/
structure Counter where
  off : Nat
  stride : Nat
  count : Nat
  deriving DecidableEq, Repr

/-- The number under which the register file lists the field: its BAR0 offset in bits. -/
def Field.key (f : Field) : Nat := f.off * 32 + f.lo

/-- Instance `i` of a replicated field. -/
def Field.at (f : Field) (i : Nat) : Field :=
  { f with
    off := f.off + f.s1 * i
    reset := match f.rule with
      | .const => f.reset
      | .modSix => i % 6
      | .divFour => i / 4 }

/-- Instance `(i, j)` of a field replicated twice (Table 19.5). -/
def Field.at2 (f : Field) (i j : Nat) : Field := { f with off := f.off + f.s1 * i + f.s2 * j }

/-- Instance `i` of a counter. -/
def Counter.at (c : Counter) (i : Nat) : Counter := { c with off := c.off + c.stride * i }

end Sys2Proof.Machine
end

