-- ==== Sys2Proof/Machine/Counters.lean ====
section
/-! DEFINITION. The counters of R128: one `Counter` constant (BAR0 offset of the low word, stride, count). -/

namespace Sys2Proof.Machine.Reg

/-- Table 4.9. -/
def WELL_CNT_ICRC_DROP : Counter := ⟨0xC01200, 0x0, 1⟩
/-- Table 4.9. -/
def WELL_CNT_SEQ_NAK_SENT : Counter := ⟨0xC01250, 0x0, 1⟩
/-- Table 4.9. -/
def WELL_CNT_UNKNOWN_QP_DROP : Counter := ⟨0xC01208, 0x0, 1⟩
/-- Table 4.9. -/
def WELL_CNT_RNR_NAK_SENT : Counter := ⟨0xC01258, 0x0, 1⟩
/-- Table 4.9. -/
def WELL_CNT_ERR_STATE_DROP : Counter := ⟨0xC01210, 0x0, 1⟩
/-- Table 4.9. -/
def WELL_CNT_RETRANSMIT : Counter := ⟨0xC01260, 0x0, 1⟩
/-- Table 4.9. -/
def WELL_CNT_CACHE_MISS : Counter := ⟨0xC01218, 0x0, 1⟩
/-- Table 4.9. -/
def WELL_CNT_RETRY_EXHAUSTED : Counter := ⟨0xC01268, 0x0, 1⟩
/-- Table 4.9. -/
def WELL_CNT_CACHE_EVICT : Counter := ⟨0xC01220, 0x0, 1⟩
/-- Table 4.9. -/
def WELL_CNT_CNP_SENT : Counter := ⟨0xC01270, 0x0, 1⟩
/-- Table 4.9. -/
def WELL_CNT_MISSQ_DROP : Counter := ⟨0xC01228, 0x8, 4⟩
/-- Table 4.9. -/
def WELL_CNT_CNP_RECEIVED : Counter := ⟨0xC01278, 0x0, 1⟩
/-- Table 4.9. -/
def WELL_CNT_DUP_REQ : Counter := ⟨0xC01248, 0x0, 1⟩
/-- Table 4.9. -/
def WELL_CNT_LATE_RESPONSE : Counter := ⟨0xC01280, 0x0, 1⟩
/-- Table 4.9. -/
def WELL_CNT_CTX_ECC_CORRECTED : Counter := ⟨0xC01288, 0x0, 1⟩
/-- Table 4.9. -/
def WELL_CNT_CTX_ECC_UNCORRECTED : Counter := ⟨0xC01290, 0x0, 1⟩
/-- Table 4.9. -/
def WELL_CNT_PRE_SERVE_DROP : Counter := ⟨0xC012A0, 0x8, 4⟩
/-- Table 5.9. -/
def WELL_CNT_PRD_FORMAT_DROP : Counter := ⟨0xC02200, 0x0, 1⟩
/-- Table 5.9. -/
def WELL_CNT_BUSY_SENT : Counter := ⟨0xC02240, 0x0, 1⟩
/-- Table 5.9. -/
def WELL_CNT_UNKNOWN_HOST_DROP : Counter := ⟨0xC02208, 0x0, 1⟩
/-- Table 5.9. -/
def WELL_CNT_DUP_HIT : Counter := ⟨0xC02248, 0x0, 1⟩
/-- Table 5.9. -/
def WELL_CNT_AUTH_FAIL : Counter := ⟨0xC02210, 0x0, 1⟩
/-- Table 5.9. -/
def WELL_CNT_IN_PROGRESS_SENT : Counter := ⟨0xC02250, 0x0, 1⟩
/-- Table 5.9. -/
def WELL_CNT_CMD_RECEIVED : Counter := ⟨0xC02218, 0x0, 1⟩
/-- Table 5.9. -/
def WELL_CNT_TID_REUSED_SENT : Counter := ⟨0xC02258, 0x0, 1⟩
/-- Table 5.9. -/
def WELL_CNT_FORWARDED : Counter := ⟨0xC02220, 0x0, 1⟩
/-- Table 5.9. -/
def WELL_CNT_TIME_LOST_SENT : Counter := ⟨0xC02260, 0x0, 1⟩
/-- Table 5.9. -/
def WELL_CNT_STALE_SENT : Counter := ⟨0xC02228, 0x0, 1⟩
/-- Table 5.9. -/
def WELL_CNT_ABORTED : Counter := ⟨0xC02268, 0x0, 1⟩
/-- Table 5.9. -/
def WELL_CNT_FUTURE_SENT : Counter := ⟨0xC02230, 0x0, 1⟩
/-- Table 5.9. -/
def WELL_CNT_REPULL : Counter := ⟨0xC02270, 0x0, 1⟩
/-- Table 5.9. -/
def WELL_CNT_RECORDED : Counter := ⟨0xC02238, 0x0, 1⟩
/-- Table 5.9. -/
def WELL_CNT_LATE_DATA : Counter := ⟨0xC02278, 0x0, 1⟩
/-- Table 7.8. -/
def QOS_CNT_GREEN : Counter := ⟨0x1040000, 0x40, 1024⟩
/-- Table 7.8. -/
def QOS_CNT_YELLOW : Counter := ⟨0x1040008, 0x40, 1024⟩
/-- Table 7.8. -/
def QOS_CNT_RED : Counter := ⟨0x1040010, 0x40, 1024⟩
/-- Table 7.8. -/
def QOS_CNT_CHARGE : Counter := ⟨0x1040018, 0x40, 1024⟩
/-- Table 7.8. -/
def QOS_CNT_REMOVED : Counter := ⟨0x1040020, 0x40, 1024⟩
/-- Table 8.9. -/
def MFD_CNT_RX_FCS_BAD : Counter := ⟨0x1401000, 0x0, 1⟩
/-- Table 8.9. -/
def MFD_CNT_ECC_UNCORRECTED : Counter := ⟨0x1401040, 0x0, 1⟩
/-- Table 8.9. -/
def MFD_CNT_TAIL_MARKED : Counter := ⟨0x1401008, 0x0, 1⟩
/-- Table 8.9. -/
def MFD_CNT_RX_DROP : Counter := ⟨0x1401048, 0x8, 4⟩
/-- Table 8.9. -/
def MFD_CNT_STOMPED : Counter := ⟨0x1401010, 0x0, 1⟩
/-- Table 8.9. -/
def MFD_CNT_PAUSE_SENT : Counter := ⟨0x1401068, 0x8, 4⟩
/-- Table 8.9. -/
def MFD_CNT_MC_COPY_FAILED : Counter := ⟨0x1401018, 0x0, 1⟩
/-- Table 8.9. -/
def MFD_CNT_DESC_FLUSH_FRAMES : Counter := ⟨0x1401088, 0x0, 1⟩
/-- Table 8.9. -/
def MFD_CNT_MC_CELLS_AGED : Counter := ⟨0x1401020, 0x0, 1⟩
/-- Table 8.9. -/
def MFD_CNT_HOLD_DISCARD_CELLS : Counter := ⟨0x1401028, 0x0, 1⟩
/-- Table 8.9. -/
def MFD_CNT_STALL_EVENTS : Counter := ⟨0x1401030, 0x0, 1⟩
/-- Table 8.9. -/
def MFD_CNT_ECC_CORRECTED : Counter := ⟨0x1401038, 0x0, 1⟩
/-- Table 9.11. -/
def FTL_CNT_HOST_IU_4K : Counter := ⟨0x1C01000, 0x0, 1⟩
/-- Table 9.11. -/
def FTL_CNT_MAP_FETCH : Counter := ⟨0x1C01030, 0x0, 1⟩
/-- Table 9.11. -/
def FTL_CNT_COPY_IU_4K : Counter := ⟨0x1C01008, 0x0, 1⟩
/-- Table 9.11. -/
def FTL_CNT_CKPT_DONE : Counter := ⟨0x1C01038, 0x0, 1⟩
/-- Table 9.11. -/
def FTL_CNT_COPY_SKIPPED : Counter := ⟨0x1C01010, 0x0, 1⟩
/-- Table 9.11. -/
def FTL_CNT_TANKS_ERASED : Counter := ⟨0x1C01040, 0x0, 1⟩
/-- Table 9.11. -/
def FTL_CNT_STRIPES_COMMITTED : Counter := ⟨0x1C01018, 0x0, 1⟩
/-- Table 9.11. -/
def FTL_CNT_TANKS_CLOSED_SHORT : Counter := ⟨0x1C01048, 0x0, 1⟩
/-- Table 9.11. -/
def FTL_CNT_STRIPES_PADDED : Counter := ⟨0x1C01020, 0x0, 1⟩
/-- Table 9.11. -/
def FTL_CNT_META_4K : Counter := ⟨0x1C01050, 0x0, 1⟩
/-- Table 9.11. -/
def FTL_CNT_MERGE_READS : Counter := ⟨0x1C01028, 0x0, 1⟩
/-- Table 9.11. -/
def FTL_CNT_SUPERSEDED : Counter := ⟨0x1C01058, 0x0, 1⟩
/-- Table 10.7. -/
def FTL_CNT_PROGRAM_FAIL : Counter := ⟨0x1C01100, 0x0, 1⟩
/-- Table 10.7. -/
def FTL_CNT_READ_UNRECOVERED : Counter := ⟨0x1C01128, 0x0, 1⟩
/-- Table 10.7. -/
def FTL_CNT_ERASE_FAIL : Counter := ⟨0x1C01108, 0x0, 1⟩
/-- Table 10.7. -/
def FTL_CNT_CRC_MISMATCH : Counter := ⟨0x1C01130, 0x0, 1⟩
/-- Table 10.7. -/
def FTL_CNT_READ_RETRIED : Counter := ⟨0x1C01110, 0x0, 1⟩
/-- Table 10.7. -/
def FTL_CNT_BLOCKS_RETIRED : Counter := ⟨0x1C01138, 0x0, 1⟩
/-- Table 10.7. -/
def FTL_CNT_RETRY_RECOVERED : Counter := ⟨0x1C01118, 0x0, 1⟩
/-- Table 10.7. -/
def FTL_CNT_REFRESH_TANKS : Counter := ⟨0x1C01140, 0x0, 1⟩
/-- Table 10.7. -/
def FTL_CNT_MEDIA_RECONSTRUCTED : Counter := ⟨0x1C01120, 0x0, 1⟩
/-- Table 10.7. -/
def FTL_CNT_LEVEL_TANKS : Counter := ⟨0x1C01148, 0x0, 1⟩
/-- Table 11.11. -/
def PAR_CNT_STRIPES_DEGRADED : Counter := ⟨0x2001000, 0x0, 1⟩
/-- Table 11.11. -/
def PAR_CNT_RESYNC_STRIPES : Counter := ⟨0x2001028, 0x0, 1⟩
/-- Table 11.11. -/
def PAR_CNT_STRIPES_REPLACED : Counter := ⟨0x2001008, 0x0, 1⟩
/-- Table 11.11. -/
def PAR_CNT_READMITTED : Counter := ⟨0x2001030, 0x0, 1⟩
/-- Table 11.11. -/
def PAR_CNT_RECONSTRUCT_READS : Counter := ⟨0x2001010, 0x0, 1⟩
/-- Table 11.11. -/
def PAR_CNT_PLACE_UNBALANCED : Counter := ⟨0x2001038, 0x0, 1⟩
/-- Table 11.11. -/
def PAR_CNT_REBUILD_CHUNKS : Counter := ⟨0x2001018, 0x0, 1⟩
/-- Table 11.11. -/
def PAR_CNT_PARITY_MISMATCH : Counter := ⟨0x2001040, 0x0, 1⟩
/-- Table 11.11. -/
def PAR_CNT_LOST_SECTORS : Counter := ⟨0x2001020, 0x0, 1⟩
/-- Table 12.8. -/
def TIME_CNT_STEPS : Counter := ⟨0x301000, 0x0, 1⟩
/-- Table 12.8. -/
def TIME_CNT_WIN_SKIPPED : Counter := ⟨0x301028, 0x0, 1⟩
/-- Table 12.8. -/
def TIME_CNT_STEPS_REFUSED : Counter := ⟨0x301008, 0x0, 1⟩
/-- Table 12.8. -/
def TIME_CNT_INTENT_MISSING : Counter := ⟨0x301030, 0x0, 1⟩
/-- Table 12.8. -/
def TIME_CNT_SOURCE_CHANGES : Counter := ⟨0x301010, 0x0, 1⟩
/-- Table 12.8. -/
def TIME_CNT_LAUNCH_FIRED : Counter := ⟨0x301038, 0x0, 1⟩
/-- Table 12.8. -/
def TIME_CNT_COORD_LOSSES : Counter := ⟨0x301018, 0x0, 1⟩
/-- Table 12.8. -/
def TIME_CNT_LAUNCH_SUSPENDED : Counter := ⟨0x301040, 0x0, 1⟩
/-- Table 12.8. -/
def TIME_CNT_WIN_OVERRUN : Counter := ⟨0x301020, 0x0, 1⟩
/-- Table 13.13. -/
def SKL_CNT_FLIT_CRC_ERR : Counter := ⟨0x2401000, 0x10000, 48⟩
/-- Table 13.13. -/
def SKL_CNT_LATE_CPL : Counter := ⟨0x2401030, 0x10000, 48⟩
/-- Table 13.13. -/
def SKL_CNT_FEC_CORRECTED : Counter := ⟨0x2401008, 0x10000, 48⟩
/-- Table 13.13. -/
def SKL_CNT_DUP_CPL : Counter := ⟨0x2401038, 0x10000, 48⟩
/-- Table 13.13. -/
def SKL_CNT_REPLAYS : Counter := ⟨0x2401010, 0x10000, 48⟩
/-- Table 13.13. -/
def SKL_CNT_EPOCH_REFUSED : Counter := ⟨0x2401040, 0x10000, 48⟩
/-- Table 13.13. -/
def SKL_CNT_RECOVERIES : Counter := ⟨0x2401018, 0x10000, 48⟩
/-- Table 13.13. -/
def SKL_CNT_POISONED : Counter := ⟨0x2401048, 0x10000, 48⟩
/-- Table 13.13. -/
def SKL_CNT_LINK_LOSSES : Counter := ⟨0x2401020, 0x10000, 48⟩
/-- Table 13.13. -/
def SKL_CNT_BAD_CAPSULE : Counter := ⟨0x2401050, 0x10000, 48⟩
/-- Table 13.13. -/
def SKL_CNT_TIMEOUTS : Counter := ⟨0x2401028, 0x10000, 48⟩
/-- Table 14.8. -/
def SLOT_CNT_FAST_TRIPS : Counter := ⟨0x2802000, 0x0, 1⟩
/-- Table 14.8. -/
def SLOT_CNT_REVERSE_BLOCKS : Counter := ⟨0x2802018, 0x0, 1⟩
/-- Table 14.8. -/
def SLOT_CNT_LIMIT_TIMEOUTS : Counter := ⟨0x2802008, 0x0, 1⟩
/-- Table 14.8. -/
def SLOT_CNT_INSERTIONS : Counter := ⟨0x2802020, 0x0, 1⟩
/-- Table 14.8. -/
def SLOT_CNT_PRE_ENABLE_REFUSALS : Counter := ⟨0x2802010, 0x0, 1⟩
/-- Table 14.8. -/
def SLOT_CNT_REMOVALS : Counter := ⟨0x2802028, 0x0, 1⟩
/-- Table 15.7. -/
def SUMP_CNT_SAVES : Counter := ⟨0x3001000, 0x0, 1⟩
/-- Table 15.7. -/
def SUMP_CNT_SINGLE_ENTRIES : Counter := ⟨0x3001020, 0x0, 1⟩
/-- Table 15.7. -/
def SUMP_CNT_SAVES_INCOMPLETE : Counter := ⟨0x3001008, 0x0, 1⟩
/-- Table 15.7. -/
def SUMP_CNT_PEER_COPY_FAILED : Counter := ⟨0x3001028, 0x0, 1⟩
/-- Table 15.7. -/
def SUMP_CNT_SAVE_STRIPES : Counter := ⟨0x3001010, 0x0, 1⟩
/-- Table 15.7. -/
def SUMP_CNT_RESTORED_SLOTS : Counter := ⟨0x3001030, 0x0, 1⟩
/-- Table 15.7. -/
def SUMP_CNT_BP_EVENTS : Counter := ⟨0x3001018, 0x0, 1⟩
/-- Table 16.11. -/
def CRY_CNT_KEY_IMPORTS : Counter := ⟨0x2C01000, 0x0, 1⟩
/-- Table 16.11. -/
def CRY_CNT_LA_AUTH_FAIL : Counter := ⟨0x2C01028, 0x0, 1⟩
/-- Table 16.11. -/
def CRY_CNT_KEY_GENERATED : Counter := ⟨0x2C01008, 0x0, 1⟩
/-- Table 16.11. -/
def CRY_CNT_LOCK_TIMEOUTS : Counter := ⟨0x2C01030, 0x0, 1⟩
/-- Table 16.11. -/
def CRY_CNT_KEY_DESTROYED : Counter := ⟨0x2C01010, 0x0, 1⟩
/-- Table 16.11. -/
def CRY_CNT_AUDIT_RECORDS : Counter := ⟨0x2C01038, 0x0, 1⟩
/-- Table 16.11. -/
def CRY_CNT_IMPORT_REFUSED : Counter := ⟨0x2C01018, 0x0, 1⟩
/-- Table 16.11. -/
def CRY_CNT_RET_EXPIRED : Counter := ⟨0x2C01040, 0x0, 1⟩
/-- Table 16.11. -/
def CRY_CNT_LA_DESCRIPTORS : Counter := ⟨0x2C01020, 0x0, 1⟩
/-- Table 17.10. -/
def POD_CNT_JOIN_REFUSED : Counter := ⟨0x3821000, 0x0, 1⟩
/-- Table 17.10. -/
def POD_CNT_FAILOVERS : Counter := ⟨0x3821028, 0x0, 1⟩
/-- Table 17.10. -/
def POD_CNT_LAUNCH_PROPOSED : Counter := ⟨0x3821008, 0x0, 1⟩
/-- Table 17.10. -/
def POD_CNT_FENCE_LOST : Counter := ⟨0x3821030, 0x0, 1⟩
/-- Table 17.10. -/
def POD_CNT_LAUNCH_ABANDONED : Counter := ⟨0x3821010, 0x0, 1⟩
/-- Table 17.10. -/
def POD_CNT_OWNER_MOVES : Counter := ⟨0x3821038, 0x0, 1⟩
/-- Table 17.10. -/
def POD_CNT_LIVE_RESYNC : Counter := ⟨0x3821018, 0x0, 1⟩
/-- Table 17.10. -/
def POD_CNT_BLOCK_GRANTS : Counter := ⟨0x3821040, 0x0, 1⟩
/-- Table 17.10. -/
def POD_CNT_CMD_FORWARDED : Counter := ⟨0x3821020, 0x0, 1⟩
/-- Table 18.9. -/
def PCIE_CNT_READS_ISSUED : Counter := ⟨0x401000, 0x0, 1⟩
/-- Table 18.9. -/
def PCIE_CNT_POISONED_RX : Counter := ⟨0x401020, 0x0, 1⟩
/-- Table 18.9. -/
def PCIE_CNT_WRITES_ISSUED : Counter := ⟨0x401008, 0x0, 1⟩
/-- Table 18.9. -/
def PCIE_CNT_UR_SENT : Counter := ⟨0x401028, 0x0, 1⟩
/-- Table 18.9. -/
def PCIE_CNT_CPL_TIMEOUT : Counter := ⟨0x401010, 0x0, 1⟩
/-- Table 18.9. -/
def PCIE_CNT_FLRS : Counter := ⟨0x401030, 0x0, 1⟩
/-- Table 18.9. -/
def PCIE_CNT_LATE_CPL : Counter := ⟨0x401018, 0x0, 1⟩
/-- Table 17.8. -/
def PL_CNT_FEC_CORRECTED : Counter := ⟨0x3801000, 0x10000, 2⟩
/-- Table 17.8. -/
def PL_CNT_CRC_ERR : Counter := ⟨0x3801008, 0x10000, 2⟩
/-- Table 17.8. -/
def PL_CNT_REPLAYS : Counter := ⟨0x3801010, 0x10000, 2⟩
/-- Table 17.8. -/
def PL_CNT_RECOVERIES : Counter := ⟨0x3801018, 0x10000, 2⟩
/-- Table 17.8. -/
def PL_CNT_LINK_LOSSES : Counter := ⟨0x3801020, 0x10000, 2⟩
/-- Table 17.8. -/
def PL_CNT_POISONED_RX : Counter := ⟨0x3801028, 0x10000, 2⟩
/-- Table 17.8. -/
def PL_CNT_POISONED_TX : Counter := ⟨0x3801030, 0x10000, 2⟩
/-- Table 17.8. -/
def PL_CNT_HOP_EXPIRED : Counter := ⟨0x3801038, 0x10000, 2⟩
/-- Table 19.3. -/
def SEQ_CNT_SEQ_HALTS : Counter := ⟨0x3C01000, 0x0, 1⟩
/-- Table 19.3. -/
def SEQ_CNT_MBOX_COMPLETED : Counter := ⟨0x3C01008, 0x0, 1⟩
/-- Table 19.3. -/
def SEQ_CNT_SP_ECC_CORRECTED : Counter := ⟨0x3C01010, 0x0, 1⟩
/-- Table 19.3. -/
def SEQ_CNT_SP_ECC_UNCORRECTED : Counter := ⟨0x3C01018, 0x0, 1⟩
/-- Table 20.6. -/
def PWR_CNT_S1_ENTRIES : Counter := ⟨0x101000, 0x0, 1⟩
/-- Table 20.6. -/
def PWR_CNT_S2_ENTRIES : Counter := ⟨0x101008, 0x0, 1⟩
/-- Table 20.6. -/
def PWR_CNT_S3_ENTRIES : Counter := ⟨0x101010, 0x0, 1⟩
/-- Table 20.6. -/
def PWR_CNT_THROTTLE_EVENTS : Counter := ⟨0x101018, 0x0, 1⟩
/-- Table 20.6. -/
def PWR_CNT_DOMAIN_FAILS : Counter := ⟨0x101020, 0x0, 1⟩
/-- Table 20.5. -/
def MEM_CNT_ECC_CORRECTED : Counter := ⟨0x3401000, 0x0, 1⟩
/-- Table 20.5. -/
def MEM_CNT_ECC_UNCORRECTED : Counter := ⟨0x3401008, 0x0, 1⟩
/-- Table 19.5. -/
def PMU_CNT_TILE (k : Nat) : Counter := ⟨0x3E01010 + 8 * k, 0x100, 16⟩
/-- Table 6.10. -/
def SUMP_CNT_REGION_REFUSED : Counter := ⟨0x3004040, 0x0, 1⟩

/-- Every counter. -/
def counters : List Counter :=
  [WELL_CNT_ICRC_DROP,
   WELL_CNT_SEQ_NAK_SENT,
   WELL_CNT_UNKNOWN_QP_DROP,
   WELL_CNT_RNR_NAK_SENT,
   WELL_CNT_ERR_STATE_DROP,
   WELL_CNT_RETRANSMIT,
   WELL_CNT_CACHE_MISS,
   WELL_CNT_RETRY_EXHAUSTED,
   WELL_CNT_CACHE_EVICT,
   WELL_CNT_CNP_SENT,
   WELL_CNT_MISSQ_DROP,
   WELL_CNT_CNP_RECEIVED,
   WELL_CNT_DUP_REQ,
   WELL_CNT_LATE_RESPONSE,
   WELL_CNT_CTX_ECC_CORRECTED,
   WELL_CNT_CTX_ECC_UNCORRECTED,
   WELL_CNT_PRE_SERVE_DROP,
   WELL_CNT_PRD_FORMAT_DROP,
   WELL_CNT_BUSY_SENT,
   WELL_CNT_UNKNOWN_HOST_DROP,
   WELL_CNT_DUP_HIT,
   WELL_CNT_AUTH_FAIL,
   WELL_CNT_IN_PROGRESS_SENT,
   WELL_CNT_CMD_RECEIVED,
   WELL_CNT_TID_REUSED_SENT,
   WELL_CNT_FORWARDED,
   WELL_CNT_TIME_LOST_SENT,
   WELL_CNT_STALE_SENT,
   WELL_CNT_ABORTED,
   WELL_CNT_FUTURE_SENT,
   WELL_CNT_REPULL,
   WELL_CNT_RECORDED,
   WELL_CNT_LATE_DATA,
   QOS_CNT_GREEN,
   QOS_CNT_YELLOW,
   QOS_CNT_RED,
   QOS_CNT_CHARGE,
   QOS_CNT_REMOVED,
   MFD_CNT_RX_FCS_BAD,
   MFD_CNT_ECC_UNCORRECTED,
   MFD_CNT_TAIL_MARKED,
   MFD_CNT_RX_DROP,
   MFD_CNT_STOMPED,
   MFD_CNT_PAUSE_SENT,
   MFD_CNT_MC_COPY_FAILED,
   MFD_CNT_DESC_FLUSH_FRAMES,
   MFD_CNT_MC_CELLS_AGED,
   MFD_CNT_HOLD_DISCARD_CELLS,
   MFD_CNT_STALL_EVENTS,
   MFD_CNT_ECC_CORRECTED,
   FTL_CNT_HOST_IU_4K,
   FTL_CNT_MAP_FETCH,
   FTL_CNT_COPY_IU_4K,
   FTL_CNT_CKPT_DONE,
   FTL_CNT_COPY_SKIPPED,
   FTL_CNT_TANKS_ERASED,
   FTL_CNT_STRIPES_COMMITTED,
   FTL_CNT_TANKS_CLOSED_SHORT,
   FTL_CNT_STRIPES_PADDED,
   FTL_CNT_META_4K,
   FTL_CNT_MERGE_READS,
   FTL_CNT_SUPERSEDED,
   FTL_CNT_PROGRAM_FAIL,
   FTL_CNT_READ_UNRECOVERED,
   FTL_CNT_ERASE_FAIL,
   FTL_CNT_CRC_MISMATCH,
   FTL_CNT_READ_RETRIED,
   FTL_CNT_BLOCKS_RETIRED,
   FTL_CNT_RETRY_RECOVERED,
   FTL_CNT_REFRESH_TANKS,
   FTL_CNT_MEDIA_RECONSTRUCTED,
   FTL_CNT_LEVEL_TANKS,
   PAR_CNT_STRIPES_DEGRADED,
   PAR_CNT_RESYNC_STRIPES,
   PAR_CNT_STRIPES_REPLACED,
   PAR_CNT_READMITTED,
   PAR_CNT_RECONSTRUCT_READS,
   PAR_CNT_PLACE_UNBALANCED,
   PAR_CNT_REBUILD_CHUNKS,
   PAR_CNT_PARITY_MISMATCH,
   PAR_CNT_LOST_SECTORS,
   TIME_CNT_STEPS,
   TIME_CNT_WIN_SKIPPED,
   TIME_CNT_STEPS_REFUSED,
   TIME_CNT_INTENT_MISSING,
   TIME_CNT_SOURCE_CHANGES,
   TIME_CNT_LAUNCH_FIRED,
   TIME_CNT_COORD_LOSSES,
   TIME_CNT_LAUNCH_SUSPENDED,
   TIME_CNT_WIN_OVERRUN,
   SKL_CNT_FLIT_CRC_ERR,
   SKL_CNT_LATE_CPL,
   SKL_CNT_FEC_CORRECTED,
   SKL_CNT_DUP_CPL,
   SKL_CNT_REPLAYS,
   SKL_CNT_EPOCH_REFUSED,
   SKL_CNT_RECOVERIES,
   SKL_CNT_POISONED,
   SKL_CNT_LINK_LOSSES,
   SKL_CNT_BAD_CAPSULE,
   SKL_CNT_TIMEOUTS,
   SLOT_CNT_FAST_TRIPS,
   SLOT_CNT_REVERSE_BLOCKS,
   SLOT_CNT_LIMIT_TIMEOUTS,
   SLOT_CNT_INSERTIONS,
   SLOT_CNT_PRE_ENABLE_REFUSALS,
   SLOT_CNT_REMOVALS,
   SUMP_CNT_SAVES,
   SUMP_CNT_SINGLE_ENTRIES,
   SUMP_CNT_SAVES_INCOMPLETE,
   SUMP_CNT_PEER_COPY_FAILED,
   SUMP_CNT_SAVE_STRIPES,
   SUMP_CNT_RESTORED_SLOTS,
   SUMP_CNT_BP_EVENTS,
   CRY_CNT_KEY_IMPORTS,
   CRY_CNT_LA_AUTH_FAIL,
   CRY_CNT_KEY_GENERATED,
   CRY_CNT_LOCK_TIMEOUTS,
   CRY_CNT_KEY_DESTROYED,
   CRY_CNT_AUDIT_RECORDS,
   CRY_CNT_IMPORT_REFUSED,
   CRY_CNT_RET_EXPIRED,
   CRY_CNT_LA_DESCRIPTORS,
   POD_CNT_JOIN_REFUSED,
   POD_CNT_FAILOVERS,
   POD_CNT_LAUNCH_PROPOSED,
   POD_CNT_FENCE_LOST,
   POD_CNT_LAUNCH_ABANDONED,
   POD_CNT_OWNER_MOVES,
   POD_CNT_LIVE_RESYNC,
   POD_CNT_BLOCK_GRANTS,
   POD_CNT_CMD_FORWARDED,
   PCIE_CNT_READS_ISSUED,
   PCIE_CNT_POISONED_RX,
   PCIE_CNT_WRITES_ISSUED,
   PCIE_CNT_UR_SENT,
   PCIE_CNT_CPL_TIMEOUT,
   PCIE_CNT_FLRS,
   PCIE_CNT_LATE_CPL,
   PL_CNT_FEC_CORRECTED,
   PL_CNT_CRC_ERR,
   PL_CNT_REPLAYS,
   PL_CNT_RECOVERIES,
   PL_CNT_LINK_LOSSES,
   PL_CNT_POISONED_RX,
   PL_CNT_POISONED_TX,
   PL_CNT_HOP_EXPIRED,
   SEQ_CNT_SEQ_HALTS,
   SEQ_CNT_MBOX_COMPLETED,
   SEQ_CNT_SP_ECC_CORRECTED,
   SEQ_CNT_SP_ECC_UNCORRECTED,
   PWR_CNT_S1_ENTRIES,
   PWR_CNT_S2_ENTRIES,
   PWR_CNT_S3_ENTRIES,
   PWR_CNT_THROTTLE_EVENTS,
   PWR_CNT_DOMAIN_FAILS,
   MEM_CNT_ECC_CORRECTED,
   MEM_CNT_ECC_UNCORRECTED,
   PMU_CNT_TILE 0, PMU_CNT_TILE 1, PMU_CNT_TILE 2, PMU_CNT_TILE 3, PMU_CNT_TILE 4, PMU_CNT_TILE 5, PMU_CNT_TILE 6,
   PMU_CNT_TILE 7,
   SUMP_CNT_REGION_REFUSED]

end Sys2Proof.Machine.Reg
end

