-- ==== Sys2Proof/Machine/RegMap.lean ====
section
/-! DEFINITION. The register map: one `Field` constant for every field of the register tables of the spec
(offsets from BAR0; `offset, low bit, width, reset, reset rule, access, class, shadowed, reset domain, least and
greatest value a commit accepts, reserved codes, stride and count of the instances`), grouped by table, and one
`Counter` constant for every counter of R128.  R562-R565, Table 22.7. -/

namespace Sys2Proof.Machine.Reg


/-! Table 2.6 (spec/02_shelf_image.md). -/

def IMG_STATUS_RESULT : Field := ⟨0x200000, 0, 4, 0, .const, .ro, .live, false, .imgStatus, 0, 15, [], 0, 1, 0, 1⟩
def IMG_STATUS_SLOT : Field := ⟨0x200000, 4, 1, 0, .const, .ro, .live, false, .imgStatus, 0, 1, [], 0, 1, 0, 1⟩
def IMG_STATUS_FALLBACK : Field := ⟨0x200000, 5, 1, 0, .const, .ro, .live, false, .imgStatus, 0, 1, [], 0, 1, 0, 1⟩
def IMG_STATUS_TRIAL : Field := ⟨0x200000, 6, 1, 0, .const, .ro, .live, false, .imgStatus, 0, 1, [], 0, 1, 0, 1⟩
def IMG_STATUS_PQ_VERIFIED : Field := ⟨0x200000, 7, 1, 0, .const, .ro, .live, false, .imgStatus, 0, 1, [], 0, 1, 0, 1⟩
def IMG_STATUS_KEY_CLASS : Field := ⟨0x200000, 8, 2, 0, .const, .ro, .live, false, .imgStatus, 0, 3, [], 0, 1, 0, 1⟩
def IMG_STATUS_KEY_INDEX : Field := ⟨0x200000, 10, 2, 0, .const, .ro, .live, false, .imgStatus, 0, 3, [], 0, 1, 0, 1⟩
def IMG_STATUS_BAD_RECORD : Field := ⟨0x200000, 16, 16, 65535, .const, .ro, .live, false, .imgStatus, 0, 65535, [], 0, 1, 0, 1⟩
def IMG_CTL_STAGE : Field := ⟨0x200010, 0, 1, 0, .const, .w1s, .live, false, .full, 0, 1, [], 0, 1, 0, 1⟩
def IMG_CTL_TRIAL_NEXT : Field := ⟨0x200010, 1, 1, 0, .const, .w1s, .live, false, .full, 0, 1, [], 0, 1, 0, 1⟩
def IMG_CTL_ACCEPT : Field := ⟨0x200010, 2, 1, 0, .const, .w1s, .live, false, .full, 0, 1, [], 0, 1, 0, 1⟩
def IMG_STAGE_ADDR_LO : Field := ⟨0x200014, 0, 32, 0, .const, .rw, .live, false, .full, 0, 4294967295, [], 0, 1, 0, 1⟩
def IMG_STAGE_ADDR_HI : Field := ⟨0x200018, 0, 32, 0, .const, .rw, .live, false, .full, 0, 4294967295, [], 0, 1, 0, 1⟩
def IMG_STAGE_LEN : Field := ⟨0x20001C, 0, 26, 0, .const, .rw, .live, false, .full, 0, 67108863, [], 0, 1, 0, 1⟩
def IMG_STAGE_STATUS_BUSY : Field := ⟨0x200020, 0, 1, 0, .const, .ro, .live, false, .full, 0, 1, [], 0, 1, 0, 1⟩
def IMG_STAGE_STATUS_RESULT : Field := ⟨0x200020, 1, 4, 0, .const, .ro, .live, false, .full, 0, 15, [], 0, 1, 0, 1⟩
def IMG_HASH : Field := ⟨0x200040, 0, 32, 0, .const, .ro, .live, false, .full, 0, 4294967295, [], 4, 12, 0, 1⟩

/-! Table 2.8 (spec/02_shelf_image.md). -/

def GLB_COMMIT : Field := ⟨0x100, 0, 1, 0, .const, .w1s, .live, false, .full, 0, 1, [], 0, 1, 0, 1⟩
def GLB_COMMIT_ABORT : Field := ⟨0x100, 1, 1, 0, .const, .w1s, .live, false, .full, 0, 1, [], 0, 1, 0, 1⟩
def GLB_COMMIT_STATUS_PENDING : Field := ⟨0x104, 0, 1, 0, .const, .ro, .live, false, .full, 0, 1, [], 0, 1, 0, 1⟩
def GLB_COMMIT_STATUS_BUSY : Field := ⟨0x104, 1, 1, 0, .const, .ro, .live, false, .full, 0, 1, [], 0, 1, 0, 1⟩
def GLB_COMMIT_STATUS_LOCKED : Field := ⟨0x104, 2, 1, 0, .const, .ro, .live, false, .full, 0, 1, [], 0, 1, 0, 1⟩
def GLB_COMMIT_STATUS_LAST_RESULT : Field := ⟨0x104, 4, 2, 0, .const, .ro, .live, false, .full, 0, 3, [], 0, 1, 0, 1⟩
def GLB_COMMIT_STATUS_LAST_SOURCE : Field := ⟨0x104, 6, 1, 0, .const, .ro, .live, false, .full, 0, 1, [], 0, 1, 0, 1⟩
def GLB_COMMIT_STATUS_REJECT_BLOCK : Field := ⟨0x104, 16, 10, 0, .const, .ro, .live, false, .full, 0, 1023, [], 0, 1, 0, 1⟩
def GLB_COMMIT_TIME_LO : Field := ⟨0x108, 0, 32, 0, .const, .ro, .live, false, .full, 0, 4294967295, [], 0, 1, 0, 1⟩
def GLB_COMMIT_TIME_HI : Field := ⟨0x10C, 0, 32, 0, .const, .ro, .live, false, .full, 0, 4294967295, [], 0, 1, 0, 1⟩

/-! Table 3.6 (spec/03_priming.md). -/

def GLB_PRIME_STATUS_STATE : Field := ⟨0x200, 0, 4, 0, .const, .ro, .live, false, .full, 0, 15, [], 0, 1, 0, 1⟩
def GLB_PRIME_STATUS_FAIL_CAUSE : Field := ⟨0x200, 8, 8, 0, .const, .ro, .live, false, .full, 0, 255, [], 0, 1, 0, 1⟩
def GLB_PRIME_STATUS_RRS : Field := ⟨0x200, 16, 1, 1, .const, .ro, .live, false, .full, 0, 1, [], 0, 1, 0, 1⟩
def GLB_PRIME_STATUS_DRAM_INIT_DONE : Field := ⟨0x200, 17, 1, 0, .const, .ro, .live, false, .full, 0, 1, [], 0, 1, 0, 1⟩
def GLB_PRIME_STATUS_RECOVER_MODE : Field := ⟨0x200, 18, 3, 0, .const, .ro, .live, false, .full, 0, 7, [], 0, 1, 0, 1⟩
def GLB_PRIME_PROGRESS : Field := ⟨0x204, 0, 10, 0, .const, .ro, .live, false, .full, 0, 1023, [], 0, 1, 0, 1⟩
def GLB_PRIME_PROGRESS_ETA : Field := ⟨0x204, 16, 16, 65535, .const, .ro, .live, false, .full, 0, 65535, [], 0, 1, 0, 1⟩
def GLB_PRIME_CTL_SLOT_GROUP : Field := ⟨0x210, 0, 6, 8, .const, .rws, .live, false, .sticky, 1, 48, [], 0, 1, 0, 1⟩
def GLB_PRIME_CTL_SLOT_INTERVAL : Field := ⟨0x210, 8, 8, 20, .const, .rws, .live, false, .sticky, 1, 255, [], 0, 1, 0, 1⟩
def GLB_PRIME_CTL_ADMIT_TIMEOUT : Field := ⟨0x210, 16, 12, 200, .const, .rws, .live, false, .sticky, 10, 4095, [], 0, 1, 0, 1⟩
def GLB_PRIME_CTL2_JOIN_TIMEOUT : Field := ⟨0x214, 0, 16, 1000, .const, .rws, .live, false, .sticky, 1, 65535, [], 0, 1, 0, 1⟩
def GLB_RESET_FULL : Field := ⟨0x220, 0, 1, 0, .const, .w1s, .live, false, .full, 0, 1, [], 0, 1, 0, 1⟩
def GLB_RESET_WARM : Field := ⟨0x220, 1, 1, 0, .const, .w1s, .live, false, .full, 0, 1, [], 0, 1, 0, 1⟩
def GLB_RESET_KEY : Field := ⟨0x220, 16, 16, 0, .const, .wo, .live, false, .full, 0, 65535, [], 0, 1, 0, 1⟩
def GLB_RESET_CAUSE_POWER_ON : Field := ⟨0x224, 0, 1, 1, .const, .w1c, .live, false, .powerOn, 0, 1, [], 0, 1, 0, 1⟩
def GLB_RESET_CAUSE_RESET_N : Field := ⟨0x224, 1, 1, 0, .const, .w1c, .live, false, .powerOn, 0, 1, [], 0, 1, 0, 1⟩
def GLB_RESET_CAUSE_WATCHDOG : Field := ⟨0x224, 2, 1, 0, .const, .w1c, .live, false, .powerOn, 0, 1, [], 0, 1, 0, 1⟩
def GLB_RESET_CAUSE_SW_FULL : Field := ⟨0x224, 3, 1, 0, .const, .w1c, .live, false, .powerOn, 0, 1, [], 0, 1, 0, 1⟩
def GLB_RESET_CAUSE_WARM : Field := ⟨0x224, 4, 1, 0, .const, .w1c, .live, false, .powerOn, 0, 1, [], 0, 1, 0, 1⟩
def GLB_RESET_CAUSE_POLICY_FALLBACK : Field := ⟨0x224, 5, 1, 0, .const, .w1c, .live, false, .powerOn, 0, 1, [], 0, 1, 0, 1⟩
def GLB_RESET_CAUSE_SAVE_DONE : Field := ⟨0x224, 6, 1, 0, .const, .w1c, .live, false, .powerOn, 0, 1, [], 0, 1, 0, 1⟩
def GLB_RESET_CAUSE_SAVE_INCOMPLETE : Field := ⟨0x224, 7, 1, 0, .const, .w1c, .live, false, .powerOn, 0, 1, [], 0, 1, 0, 1⟩
def GLB_STRAP_BOOT_MODE : Field := ⟨0x228, 0, 2, 0, .const, .ro, .live, false, .powerOn, 0, 3, [], 0, 1, 0, 1⟩
def GLB_PRIME_ADMITTED_LO : Field := ⟨0x230, 0, 32, 0, .const, .ro, .live, false, .full, 0, 4294967295, [], 0, 1, 0, 1⟩
def GLB_PRIME_ADMITTED_HI : Field := ⟨0x234, 0, 16, 0, .const, .ro, .live, false, .full, 0, 65535, [], 0, 1, 0, 1⟩
def GLB_PRIME_DUR : Field := ⟨0x240, 0, 32, 0, .const, .ro, .live, false, .full, 0, 4294967295, [], 4, 9, 0, 1⟩

/-! Table 4.8 (spec/04_queue_pairs.md). -/

def WELL_RC_TIMERS_ACK_TIMEOUT : Field := ⟨0xC01000, 0, 5, 12, .const, .rw, .live, true, .full, 1, 20, [], 0, 1, 0, 1⟩
def WELL_RC_TIMERS_RETRY_CNT : Field := ⟨0xC01000, 5, 3, 7, .const, .rw, .live, true, .full, 0, 7, [], 0, 1, 0, 1⟩
def WELL_RC_TIMERS_RNR_RETRY : Field := ⟨0xC01000, 8, 3, 7, .const, .rw, .live, true, .full, 0, 7, [], 0, 1, 0, 1⟩
def WELL_RC_TIMERS_RNR_TIMER : Field := ⟨0xC01000, 11, 5, 1, .const, .rw, .live, true, .full, 0, 31, [], 0, 1, 0, 1⟩
def WELL_RC_TIMERS_ACK_COALESCE : Field := ⟨0xC01000, 16, 8, 16, .const, .rw, .live, true, .full, 1, 255, [], 0, 1, 0, 1⟩
def WELL_RC_TIMERS_ACK_DELAY : Field := ⟨0xC01000, 24, 8, 20, .const, .rw, .live, true, .full, 1, 255, [], 0, 1, 0, 1⟩
def WELL_RC_CC_CNP_INTERVAL : Field := ⟨0xC01004, 0, 10, 50, .const, .rw, .live, true, .full, 1, 1000, [], 0, 1, 0, 1⟩
def WELL_RC_CC_MD : Field := ⟨0xC01004, 16, 8, 128, .const, .rw, .live, true, .full, 1, 255, [], 0, 1, 0, 1⟩
def WELL_RC_CC_DEC_HOLD : Field := ⟨0xC01004, 24, 8, 20, .const, .rw, .live, true, .full, 1, 255, [], 0, 1, 0, 1⟩
def WELL_RC_WIN_W_INIT : Field := ⟨0xC01008, 0, 12, 64, .const, .rw, .live, true, .full, 1, 4095, [], 0, 1, 0, 1⟩
def WELL_RC_WIN_W_MAX : Field := ⟨0xC01008, 12, 12, 512, .const, .rw, .live, true, .full, 1, 4095, [], 0, 1, 0, 1⟩
def WELL_RC_WIN_AI : Field := ⟨0xC01008, 24, 8, 4, .const, .rw, .live, true, .full, 1, 255, [], 0, 1, 0, 1⟩
def WELL_RC_CTL_ECT : Field := ⟨0xC0100C, 0, 2, 2, .const, .rw, .live, true, .full, 0, 3, [3], 0, 1, 0, 1⟩
def WELL_RC_CTL_CNP_EN : Field := ⟨0xC0100C, 2, 1, 1, .const, .rw, .live, true, .full, 0, 1, [], 0, 1, 0, 1⟩
def WELL_RC_CTL_CC_EN : Field := ⟨0xC0100C, 3, 1, 1, .const, .rw, .live, true, .full, 0, 1, [], 0, 1, 0, 1⟩
def WELL_RC_CTL_ORD : Field := ⟨0xC0100C, 4, 4, 8, .const, .rw, .live, true, .full, 1, 8, [], 0, 1, 0, 1⟩
def WELL_RC_CTL_IRD : Field := ⟨0xC0100C, 8, 5, 16, .const, .rw, .live, true, .full, 0, 16, [], 0, 1, 0, 1⟩
def WELL_RC_CTL_QUARANTINE : Field := ⟨0xC0100C, 16, 8, 10, .const, .rw, .live, true, .full, 1, 255, [], 0, 1, 0, 1⟩
def WELL_RC_STATUS_QP_OPEN : Field := ⟨0xC01020, 0, 17, 0, .const, .ro, .live, false, .full, 0, 131071, [], 0, 1, 0, 1⟩
def WELL_CACHE_STATUS_VALID : Field := ⟨0xC01024, 0, 13, 0, .const, .ro, .live, false, .full, 0, 8191, [], 0, 1, 0, 1⟩
def WELL_CACHE_STATUS_DIRTY : Field := ⟨0xC01024, 16, 13, 0, .const, .ro, .live, false, .full, 0, 8191, [], 0, 1, 0, 1⟩
def WELL_MISSQ_STATUS_OCCUPANCY : Field := ⟨0xC01030, 0, 12, 0, .const, .ro, .live, false, .full, 0, 4095, [], 4, 4, 0, 1⟩
def WELL_MISSQ_STATUS_PEAK : Field := ⟨0xC01030, 16, 12, 0, .const, .rc, .live, false, .full, 0, 4095, [], 4, 4, 0, 1⟩
def WELL_QP_INSPECT_INDEX : Field := ⟨0xC01080, 0, 16, 0, .const, .rw, .live, false, .full, 0, 65535, [], 0, 1, 0, 1⟩
def WELL_QP_INSPECT_GO : Field := ⟨0xC01080, 31, 1, 0, .const, .w1s, .live, false, .full, 0, 1, [], 0, 1, 0, 1⟩
def WELL_QP_INSPECT_STATUS_BUSY : Field := ⟨0xC01084, 0, 1, 0, .const, .ro, .live, false, .full, 0, 1, [], 0, 1, 0, 1⟩
def WELL_QP_INSPECT_STATUS_VALID : Field := ⟨0xC01084, 1, 1, 0, .const, .ro, .live, false, .full, 0, 1, [], 0, 1, 0, 1⟩
def WELL_QP_VIEW : Field := ⟨0xC01100, 0, 32, 0, .const, .ro, .live, false, .full, 0, 4294967295, [], 4, 64, 0, 1⟩

/-! Table 5.8 (spec/05_reliable_datagram.md). -/

def WELL_PRD_CTL_T_LIFE : Field := ⟨0xC02000, 0, 10, 250, .const, .rw, .live, true, .full, 10, 1000, [], 0, 1, 0, 1⟩
def WELL_PRD_CTL_PAYLOAD_MAX : Field := ⟨0xC02000, 10, 2, 2, .const, .rw, .live, true, .full, 0, 3, [3], 0, 1, 0, 1⟩
def WELL_PRD_CTL_SPRAY : Field := ⟨0xC02000, 12, 1, 1, .const, .rw, .live, true, .full, 0, 1, [], 0, 1, 0, 1⟩
def WELL_PRD_CTL_ECT : Field := ⟨0xC02000, 13, 2, 2, .const, .rw, .live, true, .full, 0, 3, [3], 0, 1, 0, 1⟩
def WELL_PRD_PULL_TIMEOUT : Field := ⟨0xC02004, 0, 10, 100, .const, .rw, .live, true, .full, 10, 1000, [], 0, 1, 0, 1⟩
def WELL_PRD_PULL_RETRIES : Field := ⟨0xC02004, 10, 3, 3, .const, .rw, .live, true, .full, 0, 7, [], 0, 1, 0, 1⟩
def WELL_PRD_PULL_PULL_MAX : Field := ⟨0xC02004, 16, 8, 64, .const, .rw, .live, true, .full, 1, 255, [], 0, 1, 0, 1⟩
def WELL_PRD_STATUS_ACCEPTING : Field := ⟨0xC02008, 0, 1, 0, .const, .ro, .live, false, .full, 0, 1, [], 0, 1, 0, 1⟩
def WELL_PRD_STATUS_SUSPEND : Field := ⟨0xC02008, 1, 3, 1, .const, .ro, .live, false, .full, 0, 7, [], 0, 1, 0, 1⟩
def WELL_PRD_STATUS_HOSTS : Field := ⟨0xC02008, 4, 15, 0, .const, .ro, .live, false, .full, 0, 32767, [], 0, 1, 0, 1⟩
def WELL_PRD_TABLE_OCCUPANCY : Field := ⟨0xC0200C, 0, 24, 0, .const, .ro, .live, false, .full, 0, 16777215, [], 0, 1, 0, 1⟩
def WELL_PRD_TABLE_PEAK : Field := ⟨0xC02010, 0, 24, 0, .const, .rc, .live, false, .full, 0, 16777215, [], 0, 1, 0, 1⟩
def WELL_PRD_START_LO : Field := ⟨0xC02018, 0, 32, 0, .const, .ro, .live, false, .full, 0, 4294967295, [], 0, 1, 0, 1⟩
def WELL_PRD_START_HI : Field := ⟨0xC0201C, 0, 32, 0, .const, .ro, .live, false, .full, 0, 4294967295, [], 0, 1, 0, 1⟩
def WELL_PRD_HOST_ACC_INDEX : Field := ⟨0xC02040, 0, 14, 0, .const, .rw, .live, false, .full, 0, 16383, [], 0, 1, 0, 1⟩
def WELL_PRD_HOST_ACC_WRITE : Field := ⟨0xC02040, 30, 1, 0, .const, .w1s, .live, false, .full, 0, 1, [], 0, 1, 0, 1⟩
def WELL_PRD_HOST_ACC_READ : Field := ⟨0xC02040, 31, 1, 0, .const, .w1s, .live, false, .full, 0, 1, [], 0, 1, 0, 1⟩
def WELL_PRD_HOST_STATUS_BUSY : Field := ⟨0xC02044, 0, 1, 0, .const, .ro, .live, false, .full, 0, 1, [], 0, 1, 0, 1⟩
def WELL_PRD_HOST_DATA : Field := ⟨0xC02060, 0, 32, 0, .const, .rw, .live, false, .full, 0, 4294967295, [], 4, 8, 0, 1⟩

/-! Table 6.10 (spec/06_namespaces_and_commands.md). -/

def SUMP_REGION_ACC_INDEX : Field := ⟨0x3004000, 0, 6, 0, .const, .rw, .live, false, .full, 0, 63, [], 0, 1, 0, 1⟩
def SUMP_REGION_ACC_REVOKE : Field := ⟨0x3004000, 29, 1, 0, .const, .w1s, .live, false, .full, 0, 1, [], 0, 1, 0, 1⟩
def SUMP_REGION_ACC_WRITE : Field := ⟨0x3004000, 30, 1, 0, .const, .w1s, .live, false, .full, 0, 1, [], 0, 1, 0, 1⟩
def SUMP_REGION_ACC_READ : Field := ⟨0x3004000, 31, 1, 0, .const, .w1s, .live, false, .full, 0, 1, [], 0, 1, 0, 1⟩
def SUMP_REGION_STATUS_BUSY : Field := ⟨0x3004004, 0, 1, 0, .const, .ro, .live, false, .full, 0, 1, [], 0, 1, 0, 1⟩
def SUMP_REGION_STATUS_STATE : Field := ⟨0x3004004, 1, 2, 0, .const, .ro, .live, false, .full, 0, 3, [], 0, 1, 0, 1⟩
def SUMP_REGION_STATUS_DRAIN_TIMEOUT : Field := ⟨0x3004004, 3, 1, 0, .const, .ro, .live, false, .full, 0, 1, [], 0, 1, 0, 1⟩
def SUMP_REGION_STATUS_RESULT : Field := ⟨0x3004004, 4, 4, 0, .const, .ro, .live, false, .full, 0, 15, [], 0, 1, 0, 1⟩
def SUMP_REGION_CFG_REVOKE_TIMEOUT : Field := ⟨0x3004008, 0, 10, 10, .const, .rw, .live, false, .full, 1, 1000, [], 0, 1, 0, 1⟩
def SUMP_REGION_DATA0_TENANT : Field := ⟨0x3004010, 0, 10, 0, .const, .rw, .live, false, .full, 0, 1023, [], 0, 1, 0, 1⟩
def SUMP_REGION_DATA0_REMOTE_WRITE : Field := ⟨0x3004010, 16, 1, 0, .const, .rw, .live, false, .full, 0, 1, [], 0, 1, 0, 1⟩
def SUMP_REGION_DATA0_REMOTE_READ : Field := ⟨0x3004010, 17, 1, 0, .const, .rw, .live, false, .full, 0, 1, [], 0, 1, 0, 1⟩
def SUMP_REGION_DATA1_LEN : Field := ⟨0x3004014, 0, 15, 0, .const, .rw, .live, false, .full, 0, 32767, [], 0, 1, 0, 1⟩
def SUMP_REGION_DATA2_R_KEY : Field := ⟨0x3004018, 0, 32, 0, .const, .ro, .live, false, .full, 0, 4294967295, [], 0, 1, 0, 1⟩
def SUMP_REGION_DATA3_OFFSET : Field := ⟨0x300401C, 0, 32, 0, .const, .ro, .live, false, .full, 0, 4294967295, [], 0, 1, 0, 1⟩

/-! Table 7.5 (spec/07_tenant_scheduling.md). -/

def QOS_OVH_PKT_OVH : Field := ⟨0x1000100, 0, 8, 66, .const, .rw, .live, true, .full, 0, 255, [], 0, 1, 0, 1⟩
def QOS_OVH_CMD_OVH : Field := ⟨0x1000100, 8, 10, 128, .const, .rw, .live, true, .full, 0, 1023, [], 0, 1, 0, 1⟩
def QOS_TREE0_LEVELS : Field := ⟨0x1000104, 0, 3, 1, .const, .img, .static, false, .full, 0, 7, [], 0, 1, 0, 1⟩
def QOS_TREE0_NODES1 : Field := ⟨0x1000104, 16, 11, 0, .const, .img, .static, false, .full, 0, 2047, [], 0, 1, 0, 1⟩
def QOS_TREE1_NODES2 : Field := ⟨0x1000108, 0, 11, 0, .const, .img, .static, false, .full, 0, 2047, [], 0, 1, 0, 1⟩
def QOS_TREE1_NODES3 : Field := ⟨0x1000108, 16, 11, 0, .const, .img, .static, false, .full, 0, 2047, [], 0, 1, 0, 1⟩
def QOS_STATUS_OVERSUB : Field := ⟨0x1000110, 0, 1, 0, .const, .ro, .live, false, .full, 0, 1, [], 0, 1, 0, 1⟩
def QOS_STATUS_PRIV_COUNT : Field := ⟨0x1000110, 1, 6, 0, .const, .ro, .live, false, .full, 0, 63, [], 0, 1, 0, 1⟩
def QOS_STATUS_MIN_LAT_TOL : Field := ⟨0x1000110, 16, 16, 65535, .const, .ro, .live, false, .full, 0, 65535, [], 0, 1, 0, 1⟩
def QOS_DSCP_COLOUR : Field := ⟨0x1000120, 0, 32, 0, .const, .rw, .live, true, .full, 0, 4294967295, [], 4, 4, 0, 1⟩

/-! Table 7.6 (spec/07_tenant_scheduling.md). -/

def QOS_N_RATE : Field := ⟨0x1010000, 0, 19, 0, .const, .rw, .live, true, .full, 0, 524287, [], 16, 3073, 0, 1⟩
def QOS_N_BURST : Field := ⟨0x1010004, 0, 24, 4096, .const, .rw, .live, true, .full, 0, 16777215, [], 16, 3073, 0, 1⟩
def QOS_N_CFG_LEN_MODE : Field := ⟨0x1010008, 0, 1, 0, .const, .rw, .live, true, .full, 0, 1, [], 16, 3073, 0, 1⟩
def QOS_N_CFG_WEIGHT : Field := ⟨0x1010008, 8, 8, 1, .const, .rw, .live, true, .full, 0, 255, [], 16, 3073, 0, 1⟩
def QOS_N_CFG_PARENT : Field := ⟨0x1010008, 16, 12, 0, .const, .rw, .live, true, .full, 0, 4095, [], 16, 3073, 0, 1⟩
def QOS_N_QUANTUM : Field := ⟨0x101000C, 0, 16, 64, .const, .rw, .live, true, .full, 1, 65535, [], 16, 3073, 0, 1⟩

/-! Table 7.7 (spec/07_tenant_scheduling.md). -/

def QOS_T_CIR : Field := ⟨0x1020000, 0, 19, 0, .const, .rw, .live, true, .full, 0, 524287, [], 32, 1024, 0, 1⟩
def QOS_T_CBS : Field := ⟨0x1020004, 0, 24, 4096, .const, .rw, .live, true, .full, 0, 16777215, [], 32, 1024, 0, 1⟩
def QOS_T_PIR : Field := ⟨0x1020008, 0, 19, 0, .const, .rw, .live, true, .full, 0, 524287, [], 32, 1024, 0, 1⟩
def QOS_T_PBS : Field := ⟨0x102000C, 0, 24, 4096, .const, .rw, .live, true, .full, 0, 16777215, [], 32, 1024, 0, 1⟩
def QOS_T_CFG_LEN_MODE : Field := ⟨0x1020010, 0, 1, 0, .const, .rw, .live, true, .full, 0, 1, [], 32, 1024, 0, 1⟩
def QOS_T_CFG_COLOUR_AWARE : Field := ⟨0x1020010, 1, 1, 0, .const, .rw, .live, true, .full, 0, 1, [], 32, 1024, 0, 1⟩
def QOS_T_CFG_PRIV : Field := ⟨0x1020010, 2, 1, 0, .const, .rw, .live, true, .full, 0, 1, [], 32, 1024, 0, 1⟩
def QOS_T_CFG_MARKER : Field := ⟨0x1020010, 3, 1, 0, .const, .rw, .live, true, .full, 0, 1, [], 32, 1024, 0, 1⟩
def QOS_T_CFG_RED_ACTION : Field := ⟨0x1020010, 4, 1, 0, .const, .rw, .live, true, .full, 0, 1, [], 32, 1024, 0, 1⟩
def QOS_T_CFG_WEIGHT : Field := ⟨0x1020010, 8, 8, 1, .const, .rw, .live, true, .full, 0, 255, [], 32, 1024, 0, 1⟩
def QOS_T_CFG_PARENT : Field := ⟨0x1020010, 16, 12, 0, .const, .rw, .live, true, .full, 0, 4095, [], 32, 1024, 0, 1⟩
def QOS_T_LAT_LAT_TOL : Field := ⟨0x1020014, 0, 16, 0, .const, .rw, .live, true, .full, 0, 65535, [], 32, 1024, 0, 1⟩
def QOS_T_STATUS_HELD : Field := ⟨0x1020018, 0, 20, 0, .const, .ro, .live, false, .full, 0, 1048575, [], 32, 1024, 0, 1⟩
def QOS_T_STATUS_HEAD_COLOUR : Field := ⟨0x1020018, 20, 2, 3, .const, .ro, .live, false, .full, 0, 3, [], 32, 1024, 0, 1⟩

/-! Table 8.8 (spec/08_manifold.md). -/

def MFD_AGE_AGE_LIMIT : Field := ⟨0x1400100, 0, 20, 10000, .const, .rw, .live, true, .full, 100, 1000000, [], 0, 1, 0, 1⟩
def MFD_HOLD : Field := ⟨0x1400104, 0, 10, 50, .const, .rw, .live, true, .full, 1, 1000, [], 0, 1, 0, 1⟩
def MFD_HOLD_STALL : Field := ⟨0x1400104, 16, 10, 100, .const, .rw, .live, true, .full, 0, 1000, [], 0, 1, 0, 1⟩
def MFD_PAUSE_REFRESH : Field := ⟨0x1400108, 0, 8, 20, .const, .rw, .live, true, .full, 1, 255, [], 0, 1, 0, 1⟩
def MFD_PART_SIZE : Field := ⟨0x1400110, 0, 20, 0, .const, .img, .static, false, .full, 0, 1048575, [], 4, 8, 0, 1⟩
def MFD_BORROW : Field := ⟨0x1400130, 0, 20, 1048575, .const, .rw, .live, true, .full, 0, 1048575, [], 4, 8, 0, 1⟩
def MFD_PART_USE : Field := ⟨0x1400150, 0, 20, 0, .const, .ro, .live, false, .full, 0, 1048575, [], 8, 8, 0, 1⟩
def MFD_PART_PEAK : Field := ⟨0x1400154, 0, 20, 0, .const, .rc, .live, false, .full, 0, 1048575, [], 8, 8, 0, 1⟩
def MFD_PFC_CFG_PFC_EN : Field := ⟨0x1400200, 0, 8, 0, .const, .rw, .live, true, .full, 0, 255, [], 16, 4, 0, 1⟩
def MFD_PFC_THR_XOFF : Field := ⟨0x1400204, 0, 16, 1024, .const, .rw, .live, true, .full, 16, 32768, [], 16, 4, 0, 1⟩
def MFD_PFC_THR_XON : Field := ⟨0x1400204, 16, 16, 768, .const, .rw, .live, true, .full, 0, 65535, [], 16, 4, 0, 1⟩
def MFD_ECC_LOG_CELL : Field := ⟨0x1400300, 0, 19, 0, .const, .ro, .live, false, .full, 0, 524287, [], 0, 1, 0, 1⟩
def MFD_ECC_LOG_DESC : Field := ⟨0x1400300, 19, 1, 0, .const, .ro, .live, false, .full, 0, 1, [], 0, 1, 0, 1⟩
def MFD_ECC_LOG_VALID : Field := ⟨0x1400300, 31, 1, 0, .const, .w1c, .live, false, .full, 0, 1, [], 0, 1, 0, 1⟩
def MFD_FENCED : Field := ⟨0x1400304, 0, 20, 0, .const, .ro, .live, false, .sticky, 0, 1048575, [], 0, 1, 0, 1⟩

/-! Table 9.10 (spec/09_flash_translation.md). -/

def FTL_MAP_STATUS_RESIDENT : Field := ⟨0x1C00100, 0, 1, 0, .const, .ro, .live, false, .full, 0, 1, [], 0, 1, 0, 1⟩
def FTL_MAP_STATUS_LOADING : Field := ⟨0x1C00100, 1, 1, 0, .const, .ro, .live, false, .full, 0, 1, [], 0, 1, 0, 1⟩
def FTL_MAP_BYTES_LO : Field := ⟨0x1C00108, 0, 32, 0, .const, .ro, .live, false, .full, 0, 4294967295, [], 0, 1, 0, 1⟩
def FTL_MAP_BYTES_HI : Field := ⟨0x1C0010C, 0, 32, 0, .const, .ro, .live, false, .full, 0, 4294967295, [], 0, 1, 0, 1⟩
def FTL_CKPT_CKPT_MAX : Field := ⟨0x1C00110, 0, 10, 100, .const, .rw, .live, true, .full, 1, 1000, [], 0, 1, 0, 1⟩
def FTL_CKPT_ROTATE : Field := ⟨0x1C00110, 16, 10, 60, .const, .rw, .live, true, .full, 6, 1023, [], 0, 1, 0, 1⟩
def FTL_CKPT_SEQ_LO : Field := ⟨0x1C00118, 0, 32, 0, .const, .ro, .live, false, .full, 0, 4294967295, [], 0, 1, 0, 1⟩
def FTL_CKPT_SEQ_HI : Field := ⟨0x1C0011C, 0, 32, 0, .const, .ro, .live, false, .full, 0, 4294967295, [], 0, 1, 0, 1⟩
def FTL_FLOAT_HIGH : Field := ⟨0x1C00120, 0, 10, 60, .const, .rw, .live, true, .full, 0, 1023, [], 0, 1, 0, 1⟩
def FTL_FLOAT_LOW : Field := ⟨0x1C00120, 10, 10, 30, .const, .rw, .live, true, .full, 0, 1023, [], 0, 1, 0, 1⟩
def FTL_FLOAT_CRIT : Field := ⟨0x1C00120, 20, 10, 10, .const, .rw, .live, true, .full, 0, 1023, [], 0, 1, 0, 1⟩
def FTL_DRAW_STATUS_MODE : Field := ⟨0x1C00124, 0, 2, 0, .const, .ro, .live, false, .full, 0, 3, [], 0, 1, 0, 1⟩
def FTL_DRAW_STATUS_FREE : Field := ⟨0x1C00124, 2, 10, 0, .const, .ro, .live, false, .full, 0, 1023, [], 0, 1, 0, 1⟩
def FTL_HEAT_HOT_LIMIT : Field := ⟨0x1C00130, 0, 12, 60, .const, .rw, .live, true, .full, 1, 4095, [], 0, 1, 0, 1⟩
def FTL_HEAT_WARM_LIMIT : Field := ⟨0x1C00130, 12, 12, 60, .const, .rw, .live, true, .full, 1, 4095, [], 0, 1, 0, 1⟩
def FTL_HEAT2_COLD_LIMIT : Field := ⟨0x1C00134, 0, 16, 24, .const, .rw, .live, true, .full, 1, 65535, [], 0, 1, 0, 1⟩
def FTL_ASSEMBLY_ASSEMBLY_WAIT : Field := ⟨0x1C00138, 0, 16, 100, .const, .rw, .live, true, .full, 1, 10000, [], 0, 1, 0, 1⟩
def FTL_ASSEMBLY_MERGE_WAIT : Field := ⟨0x1C00138, 16, 16, 20, .const, .rw, .live, true, .full, 1, 10000, [], 0, 1, 0, 1⟩
def FTL_TANK_CFG_OPEN_IDLE : Field := ⟨0x1C0013C, 0, 16, 60, .const, .rw, .live, true, .full, 1, 65535, [], 0, 1, 0, 1⟩
def FTL_TANK_COUNT : Field := ⟨0x1C00140, 0, 29, 0, .const, .ro, .live, false, .full, 0, 536870911, [], 4, 6, 0, 1⟩
def FTL_TANK_ENTRIES : Field := ⟨0x1C00158, 0, 32, 0, .const, .img, .static, false, .full, 0, 4294967295, [], 0, 1, 0, 1⟩

/-! Table 10.6 (spec/10_media_care.md). -/

def FTL_WEAR_LEVEL_SPREAD : Field := ⟨0x1C00200, 0, 10, 300, .const, .rw, .live, true, .full, 10, 1000, [], 0, 1, 0, 1⟩
def FTL_WEAR_LEVEL_STOP : Field := ⟨0x1C00200, 10, 10, 200, .const, .rw, .live, true, .full, 0, 1023, [], 0, 1, 0, 1⟩
def FTL_RETIRE_EOL_PCT : Field := ⟨0x1C00204, 0, 10, 150, .const, .rw, .live, true, .full, 0, 1000, [], 0, 1, 0, 1⟩
def FTL_RETIRE_CISTERN_MAX : Field := ⟨0x1C00204, 10, 8, 50, .const, .rw, .live, true, .full, 1, 255, [], 0, 1, 0, 1⟩
def FTL_RETIRE_SPARE_THRESH : Field := ⟨0x1C00204, 18, 7, 10, .const, .rw, .live, true, .full, 1, 99, [], 0, 1, 0, 1⟩
def FTL_REFRESH_REFRESH_PRED : Field := ⟨0x1C00208, 0, 8, 56, .const, .rw, .live, true, .full, 0, 255, [], 0, 1, 0, 1⟩
def FTL_REFRESH_URGENT_PRED : Field := ⟨0x1C00208, 8, 8, 40, .const, .rw, .live, true, .full, 0, 255, [], 0, 1, 0, 1⟩
def FTL_REFRESH_RETRY_TRIGGER : Field := ⟨0x1C00208, 16, 4, 3, .const, .rw, .live, true, .full, 0, 8, [], 0, 1, 0, 1⟩
def FTL_REFRESH_SCAN : Field := ⟨0x1C00208, 20, 11, 60, .const, .rw, .live, true, .full, 1, 1440, [], 0, 1, 0, 1⟩
def FTL_MEDIA_STATUS_SPREAD : Field := ⟨0x1C0020C, 0, 16, 0, .const, .ro, .live, false, .full, 0, 65535, [], 0, 1, 0, 1⟩
def FTL_MEDIA_STATUS_LEVELLING : Field := ⟨0x1C0020C, 16, 1, 0, .const, .ro, .live, false, .full, 0, 1, [], 0, 1, 0, 1⟩
def FTL_MEDIA_STATUS_AGE_ESTIMATED : Field := ⟨0x1C0020C, 17, 1, 1, .const, .ro, .live, false, .full, 0, 1, [], 0, 1, 0, 1⟩
def FTL_MEDIA_STATUS_SPARE_PCT : Field := ⟨0x1C0020C, 18, 7, 100, .const, .ro, .live, false, .full, 0, 127, [], 0, 1, 0, 1⟩
def FTL_MEDIA_STATUS_READ_ONLY : Field := ⟨0x1C0020C, 25, 1, 0, .const, .ro, .live, false, .full, 0, 1, [], 0, 1, 0, 1⟩
def FTL_THR_INFO_NA : Field := ⟨0x1C00210, 0, 5, 0, .const, .img, .static, false, .full, 0, 31, [], 0, 1, 0, 1⟩
def FTL_THR_INFO_NT : Field := ⟨0x1C00210, 5, 5, 0, .const, .img, .static, false, .full, 0, 31, [], 0, 1, 0, 1⟩
def FTL_THR_INFO_NE : Field := ⟨0x1C00210, 10, 5, 0, .const, .img, .static, false, .full, 0, 31, [], 0, 1, 0, 1⟩
def FTL_THR_INFO_NL : Field := ⟨0x1C00210, 15, 4, 0, .const, .img, .static, false, .full, 0, 15, [], 0, 1, 0, 1⟩
def FTL_THR_INFO_NR : Field := ⟨0x1C00210, 19, 4, 0, .const, .img, .static, false, .full, 0, 15, [], 0, 1, 0, 1⟩
def FTL_BLOCK_SEL_BLOCK : Field := ⟨0x1C00220, 0, 20, 0, .const, .rw, .live, false, .full, 0, 1048575, [], 0, 1, 0, 1⟩
def FTL_BLOCK_SEL_DIE : Field := ⟨0x1C00220, 20, 8, 0, .const, .rw, .live, false, .full, 0, 255, [], 0, 1, 0, 1⟩
def FTL_BLOCK_ACC_CISTERN : Field := ⟨0x1C00224, 0, 6, 0, .const, .rw, .live, false, .full, 0, 63, [], 0, 1, 0, 1⟩
def FTL_BLOCK_ACC_RETIRE : Field := ⟨0x1C00224, 30, 1, 0, .const, .w1s, .live, false, .full, 0, 1, [], 0, 1, 0, 1⟩
def FTL_BLOCK_ACC_READ : Field := ⟨0x1C00224, 31, 1, 0, .const, .w1s, .live, false, .full, 0, 1, [], 0, 1, 0, 1⟩
def FTL_BLOCK_STATUS_BUSY : Field := ⟨0x1C00228, 0, 1, 0, .const, .ro, .live, false, .full, 0, 1, [], 0, 1, 0, 1⟩
def FTL_BLOCK_STATUS_RESULT : Field := ⟨0x1C00228, 1, 2, 0, .const, .ro, .live, false, .full, 0, 3, [], 0, 1, 0, 1⟩
def FTL_BLOCK_DATA0_RECORD : Field := ⟨0x1C0022C, 0, 25, 0, .const, .ro, .live, false, .full, 0, 33554431, [], 0, 1, 0, 1⟩
def FTL_BLOCK_DATA1_TANK : Field := ⟨0x1C00230, 0, 32, 4294967295, .const, .ro, .live, false, .full, 0, 4294967295, [], 0, 1, 0, 1⟩

/-! Table 11.10 (spec/11_redundancy_and_rebuild.md). -/

def PAR_REBUILD_CFG_RATE : Field := ⟨0x2000100, 0, 10, 80, .const, .rw, .live, true, .full, 1, 1000, [], 0, 1, 0, 1⟩
def PAR_REBUILD_CFG_CRIT_RATE : Field := ⟨0x2000100, 10, 10, 200, .const, .rw, .live, true, .full, 1, 1000, [], 0, 1, 0, 1⟩
def PAR_GRACE : Field := ⟨0x2000104, 0, 12, 30, .const, .rw, .live, true, .full, 1, 3600, [], 0, 1, 0, 1⟩
def PAR_REBUILD_STATUS_ACTIVE : Field := ⟨0x2000110, 0, 1, 0, .const, .ro, .live, false, .full, 0, 1, [], 0, 1, 0, 1⟩
def PAR_REBUILD_STATUS_CRITICAL : Field := ⟨0x2000110, 1, 1, 0, .const, .ro, .live, false, .full, 0, 1, [], 0, 1, 0, 1⟩
def PAR_REBUILD_STATUS_CISTERN : Field := ⟨0x2000110, 2, 6, 0, .const, .ro, .live, false, .full, 0, 63, [], 0, 1, 0, 1⟩
def PAR_REBUILD_STATUS_QUEUED : Field := ⟨0x2000110, 8, 6, 0, .const, .ro, .live, false, .full, 0, 63, [], 0, 1, 0, 1⟩
def PAR_REBUILD_LEFT_TANKS_LEFT : Field := ⟨0x2000114, 0, 32, 0, .const, .ro, .live, false, .full, 0, 4294967295, [], 0, 1, 0, 1⟩
def PAR_REBUILD_DONE_TANKS_DONE : Field := ⟨0x2000118, 0, 32, 0, .const, .ro, .live, false, .full, 0, 4294967295, [], 0, 1, 0, 1⟩
def PAR_REBUILD_ETA : Field := ⟨0x200011C, 0, 32, 4294967295, .const, .ro, .live, false, .full, 0, 4294967295, [], 0, 1, 0, 1⟩
def PAR_REDUNDANCY0_DEGRADED : Field := ⟨0x2000120, 0, 32, 0, .const, .ro, .live, false, .full, 0, 4294967295, [], 0, 1, 0, 1⟩
def PAR_REDUNDANCY1_CRITICAL_TANKS : Field := ⟨0x2000124, 0, 32, 0, .const, .ro, .live, false, .full, 0, 4294967295, [], 0, 1, 0, 1⟩
def PAR_CSTATE_STATE : Field := ⟨0x2000200, 0, 3, 0, .const, .ro, .live, false, .full, 0, 7, [], 4, 48, 0, 1⟩
def PAR_CSTATE_GRACE_LEFT : Field := ⟨0x2000200, 3, 12, 0, .const, .ro, .live, false, .full, 0, 4095, [], 4, 48, 0, 1⟩
def PAR_CSTATE_FAIL : Field := ⟨0x2000200, 16, 1, 0, .const, .w1s, .live, false, .full, 0, 1, [], 4, 48, 0, 1⟩
def PAR_LOST_STATUS_COUNT : Field := ⟨0x2000300, 0, 17, 0, .const, .ro, .live, false, .full, 0, 131071, [], 0, 1, 0, 1⟩
def PAR_LOST_STATUS_OVERFLOW : Field := ⟨0x2000300, 17, 1, 0, .const, .ro, .live, false, .full, 0, 1, [], 0, 1, 0, 1⟩
def PAR_LOST_GEN_GENERATION : Field := ⟨0x2000304, 0, 32, 0, .const, .ro, .live, false, .full, 0, 4294967295, [], 0, 1, 0, 1⟩
def PAR_LOST_ACC_INDEX : Field := ⟨0x2000310, 0, 16, 0, .const, .rw, .live, false, .full, 0, 65535, [], 0, 1, 0, 1⟩
def PAR_LOST_ACC_READ : Field := ⟨0x2000310, 31, 1, 0, .const, .w1s, .live, false, .full, 0, 1, [], 0, 1, 0, 1⟩
def PAR_LOST_ACC_STATUS_BUSY : Field := ⟨0x2000314, 0, 1, 0, .const, .ro, .live, false, .full, 0, 1, [], 0, 1, 0, 1⟩
def PAR_LOST_ACC_STATUS_VALID : Field := ⟨0x2000314, 1, 1, 0, .const, .ro, .live, false, .full, 0, 1, [], 0, 1, 0, 1⟩
def PAR_LOST_DATA : Field := ⟨0x2000320, 0, 32, 0, .const, .ro, .live, false, .full, 0, 4294967295, [], 4, 8, 0, 1⟩

/-! Table 12.6 (spec/12_timebase_and_windows.md). -/

def TIME_NOW_LO : Field := ⟨0x300100, 0, 32, 0, .const, .ro, .live, false, .full, 0, 4294967295, [], 0, 1, 0, 1⟩
def TIME_NOW_HI : Field := ⟨0x300104, 0, 32, 0, .const, .ro, .live, false, .full, 0, 4294967295, [], 0, 1, 0, 1⟩
def TIME_MONO_LO : Field := ⟨0x300108, 0, 32, 0, .const, .ro, .live, false, .full, 0, 4294967295, [], 0, 1, 0, 1⟩
def TIME_MONO_HI : Field := ⟨0x30010C, 0, 32, 0, .const, .ro, .live, false, .full, 0, 4294967295, [], 0, 1, 0, 1⟩
def TIME_SECURE_LO : Field := ⟨0x300110, 0, 32, 0, .const, .ro, .live, false, .mram, 0, 4294967295, [], 0, 1, 0, 1⟩
def TIME_SECURE_HI : Field := ⟨0x300114, 0, 32, 0, .const, .ro, .live, false, .mram, 0, 4294967295, [], 0, 1, 0, 1⟩
def TIME_STATUS_SERVO : Field := ⟨0x300118, 0, 2, 0, .const, .ro, .live, false, .full, 0, 3, [], 0, 1, 0, 1⟩
def TIME_STATUS_SOURCE : Field := ⟨0x300118, 2, 3, 0, .const, .ro, .live, false, .full, 0, 7, [], 0, 1, 0, 1⟩
def TIME_STATUS_EVER_LOCKED : Field := ⟨0x300118, 5, 1, 0, .const, .ro, .live, false, .full, 0, 1, [], 0, 1, 0, 1⟩
def TIME_STATUS_COORD : Field := ⟨0x300118, 6, 1, 0, .const, .ro, .live, false, .full, 0, 1, [], 0, 1, 0, 1⟩
def TIME_STATUS_PRD_TIME_OK : Field := ⟨0x300118, 7, 1, 0, .const, .ro, .live, false, .full, 0, 1, [], 0, 1, 0, 1⟩
def TIME_STATUS_STEP_REFUSED : Field := ⟨0x300118, 8, 1, 0, .const, .ro, .live, false, .full, 0, 1, [], 0, 1, 0, 1⟩
def TIME_STATUS_PTP_PORT : Field := ⟨0x300118, 9, 5, 0, .const, .ro, .live, false, .full, 0, 31, [], 0, 1, 0, 1⟩
def TIME_OFFSET_PTP_OFFSET : Field := ⟨0x30011C, 0, 32, 2147483647, .const, .ro, .live, false, .full, 0, 4294967295, [], 0, 1, 0, 1⟩
def TIME_PEER_OFFSET : Field := ⟨0x300120, 0, 32, 0, .const, .ro, .live, false, .full, 0, 4294967295, [], 4, 2, 0, 1⟩
def TIME_PTP_CFG_DOMAIN : Field := ⟨0x300128, 0, 8, 0, .const, .rw, .quiescent, false, .full, 0, 255, [], 0, 1, 0, 1⟩
def TIME_PTP_CFG_TRANSPORT : Field := ⟨0x300128, 8, 2, 0, .const, .rw, .quiescent, false, .full, 0, 3, [3], 0, 1, 0, 1⟩
def TIME_PTP_CFG_ONE_STEP : Field := ⟨0x300128, 10, 1, 0, .const, .rw, .quiescent, false, .full, 0, 1, [], 0, 1, 0, 1⟩
def TIME_PTP_CFG_P2P : Field := ⟨0x300128, 11, 1, 0, .const, .rw, .quiescent, false, .full, 0, 1, [], 0, 1, 0, 1⟩
def TIME_PTP_CFG_BC : Field := ⟨0x300128, 12, 1, 0, .const, .rw, .quiescent, false, .full, 0, 1, [], 0, 1, 0, 1⟩
def TIME_PTP_CFG_LOG_SYNC_NEG : Field := ⟨0x300128, 13, 3, 4, .const, .rw, .quiescent, false, .full, 0, 7, [], 0, 1, 0, 1⟩
def TIME_PTP_PORTS_PORT_EN : Field := ⟨0x30012C, 0, 32, 16843009, .const, .rw, .quiescent, false, .full, 0, 4294967295, [], 0, 1, 0, 1⟩
def TIME_SERVO_STEP_THRESH : Field := ⟨0x300130, 0, 10, 100, .const, .rw, .live, true, .full, 1, 1000, [], 0, 1, 0, 1⟩
def TIME_SERVO_SLEW_MAX : Field := ⟨0x300130, 10, 10, 500, .const, .rw, .live, true, .full, 1, 1000, [], 0, 1, 0, 1⟩
def TIME_SERVO_HOLD_PPB : Field := ⟨0x300130, 20, 12, 100, .const, .rw, .live, true, .full, 1, 4095, [], 0, 1, 0, 1⟩
def TIME_SRC_CFG_PEER_EN : Field := ⟨0x300134, 0, 1, 1, .const, .rw, .quiescent, false, .full, 0, 1, [], 0, 1, 0, 1⟩
def TIME_SRC_CFG_PPS_EN : Field := ⟨0x300134, 1, 1, 0, .const, .rw, .quiescent, false, .full, 0, 1, [], 0, 1, 0, 1⟩
def TIME_SRC_CFG_REF10_EN : Field := ⟨0x300134, 2, 1, 0, .const, .rw, .quiescent, false, .full, 0, 1, [], 0, 1, 0, 1⟩
def TIME_SRC_CFG_PPS_OUT_EN : Field := ⟨0x300134, 3, 1, 1, .const, .rw, .quiescent, false, .full, 0, 1, [], 0, 1, 0, 1⟩
def TIME_TOD_LO : Field := ⟨0x300138, 0, 32, 0, .const, .rw, .live, false, .full, 0, 4294967295, [], 0, 1, 0, 1⟩
def TIME_TOD_HI : Field := ⟨0x30013C, 0, 32, 0, .const, .rw, .live, false, .full, 0, 4294967295, [], 0, 1, 0, 1⟩
def TIME_STEP_OVR_ALLOW : Field := ⟨0x300140, 0, 1, 0, .const, .w1s, .live, false, .full, 0, 1, [], 0, 1, 0, 1⟩
def TIME_STEP_OVR_KEY : Field := ⟨0x300140, 16, 16, 0, .const, .wo, .live, false, .full, 0, 65535, [], 0, 1, 0, 1⟩
def TIME_WIN_CFG_SLOTS : Field := ⟨0x300200, 0, 6, 24, .const, .rw, .quiescent, false, .full, 2, 48, [], 0, 1, 0, 1⟩
def TIME_WIN_CFG_SETS : Field := ⟨0x300200, 6, 2, 2, .const, .rw, .quiescent, false, .full, 0, 3, [], 0, 1, 0, 1⟩
def TIME_WIN_CFG_SLOT_LEN : Field := ⟨0x300200, 8, 14, 200, .const, .rw, .quiescent, false, .full, 10, 10000, [], 0, 1, 0, 1⟩
def TIME_WIN_CFG_GUARD : Field := ⟨0x300200, 22, 10, 20, .const, .rw, .quiescent, false, .full, 2, 1000, [], 0, 1, 0, 1⟩
def TIME_WIN_OPS_ERASE_BOUND : Field := ⟨0x300204, 0, 16, 8000, .const, .rw, .quiescent, false, .full, 1000, 50000, [], 0, 1, 0, 1⟩
def TIME_WIN_OPS_READ_BOUND : Field := ⟨0x300204, 16, 16, 300, .const, .rw, .quiescent, false, .full, 10, 5000, [], 0, 1, 0, 1⟩
def TIME_WIN_IDLE_IDLE_WAIT : Field := ⟨0x300208, 0, 16, 2000, .const, .rw, .live, true, .full, 100, 60000, [], 0, 1, 0, 1⟩
def TIME_WIN_OFFSET : Field := ⟨0x300210, 0, 6, 0, .modSix, .rw, .quiescent, false, .full, 0, 63, [], 4, 48, 0, 1⟩
def TIME_WIN_STATUS_UNCOORD : Field := ⟨0x300300, 0, 1, 1, .const, .ro, .live, false, .full, 0, 1, [], 0, 1, 0, 1⟩
def TIME_WIN_STATUS_CAUSE : Field := ⟨0x300300, 1, 3, 1, .const, .ro, .live, false, .full, 0, 7, [], 0, 1, 0, 1⟩
def TIME_WIN_STATUS_SLOT : Field := ⟨0x300300, 4, 6, 0, .const, .ro, .live, false, .full, 0, 63, [], 0, 1, 0, 1⟩
def TIME_WIN_DRAW_LO : Field := ⟨0x300304, 0, 32, 0, .const, .ro, .live, false, .full, 0, 4294967295, [], 0, 1, 0, 1⟩
def TIME_WIN_DRAW_HI : Field := ⟨0x300308, 0, 16, 0, .const, .ro, .live, false, .full, 0, 65535, [], 0, 1, 0, 1⟩

/-! Table 12.7 (spec/12_timebase_and_windows.md). -/

def TIME_LAUNCH_TIME_LO : Field := ⟨0x300400, 0, 32, 0, .const, .rw, .live, false, .launch, 0, 4294967295, [], 32, 16, 0, 1⟩
def TIME_LAUNCH_TIME_HI : Field := ⟨0x300404, 0, 32, 0, .const, .rw, .live, false, .launch, 0, 4294967295, [], 32, 16, 0, 1⟩
def TIME_LAUNCH_PERIOD : Field := ⟨0x300408, 0, 32, 0, .const, .rw, .live, false, .launch, 0, 4294967295, [], 32, 16, 0, 1⟩
def TIME_LAUNCH_CTL_ACTION : Field := ⟨0x30040C, 0, 4, 0, .const, .rw, .live, false, .launch, 0, 15, [], 32, 16, 0, 1⟩
def TIME_LAUNCH_CTL_ARG : Field := ⟨0x30040C, 4, 16, 0, .const, .rw, .live, false, .launch, 0, 65535, [], 32, 16, 0, 1⟩
def TIME_LAUNCH_CTL_ARM : Field := ⟨0x30040C, 30, 1, 0, .const, .w1s, .live, false, .launch, 0, 1, [], 32, 16, 0, 1⟩
def TIME_LAUNCH_CTL_CANCEL : Field := ⟨0x30040C, 31, 1, 0, .const, .w1s, .live, false, .launch, 0, 1, [], 32, 16, 0, 1⟩
def TIME_LAUNCH_STATUS_STATE : Field := ⟨0x300410, 0, 3, 0, .const, .ro, .live, false, .launch, 0, 7, [], 32, 16, 0, 1⟩
def TIME_LAUNCH_STATUS_REARM_REFUSED : Field := ⟨0x300410, 3, 1, 0, .const, .w1c, .live, false, .launch, 0, 1, [], 32, 16, 0, 1⟩
def TIME_LAUNCH_FIRED_LO : Field := ⟨0x300414, 0, 32, 0, .const, .ro, .live, false, .launch, 0, 4294967295, [], 32, 16, 0, 1⟩
def TIME_LAUNCH_FIRED_HI : Field := ⟨0x300418, 0, 32, 0, .const, .ro, .live, false, .launch, 0, 4294967295, [], 32, 16, 0, 1⟩
def TIME_LAUNCH_MISSED : Field := ⟨0x30041C, 0, 32, 0, .const, .ro, .live, false, .launch, 0, 4294967295, [], 32, 16, 0, 1⟩

/-! Table 13.12 (spec/13_skalas_link.md). -/

def SKL_LINK_STATE : Field := ⟨0x2400100, 0, 4, 0, .const, .ro, .live, false, .full, 0, 15, [], 65536, 48, 0, 1⟩
def SKL_LINK_WIDTH : Field := ⟨0x2400100, 4, 2, 0, .const, .ro, .live, false, .full, 0, 3, [], 65536, 48, 0, 1⟩
def SKL_LINK_POL_INV : Field := ⟨0x2400100, 6, 2, 0, .const, .ro, .live, false, .full, 0, 3, [], 65536, 48, 0, 1⟩
def SKL_LINK_REVERSED : Field := ⟨0x2400100, 8, 1, 0, .const, .ro, .live, false, .full, 0, 1, [], 65536, 48, 0, 1⟩
def SKL_LINK_DEGRADED : Field := ⟨0x2400100, 9, 1, 0, .const, .ro, .live, false, .full, 0, 1, [], 65536, 48, 0, 1⟩
def SKL_LINK_BRIDGE_PORT : Field := ⟨0x2400100, 10, 1, 0, .const, .ro, .live, false, .full, 0, 1, [], 65536, 48, 0, 1⟩
def SKL_LINK_CFG_RETRAIN_LIMIT : Field := ⟨0x2400104, 0, 8, 5, .const, .rw, .live, true, .full, 1, 255, [], 65536, 48, 0, 1⟩
def SKL_LINK_CFG_REPLAY_LIMIT : Field := ⟨0x2400104, 8, 4, 4, .const, .rw, .live, true, .full, 1, 15, [], 65536, 48, 0, 1⟩
def SKL_LINK_CFG_LANE_REPAIR : Field := ⟨0x2400104, 12, 1, 1, .const, .rw, .live, true, .full, 0, 1, [], 65536, 48, 0, 1⟩
def SKL_TIMEOUT0_READ_TO : Field := ⟨0x2400108, 0, 12, 50, .const, .rw, .live, true, .full, 1, 4095, [], 65536, 48, 0, 1⟩
def SKL_TIMEOUT0_PROG_TO : Field := ⟨0x2400108, 16, 12, 200, .const, .rw, .live, true, .full, 10, 4095, [], 65536, 48, 0, 1⟩
def SKL_TIMEOUT1_ERASE_TO : Field := ⟨0x240010C, 0, 10, 50, .const, .rw, .live, true, .full, 5, 1000, [], 65536, 48, 0, 1⟩
def SKL_TIMEOUT1_ADMIN_TO : Field := ⟨0x240010C, 16, 10, 100, .const, .rw, .live, true, .full, 10, 1000, [], 65536, 48, 0, 1⟩
def SKL_RETRY_PROG_RETRIES : Field := ⟨0x2400110, 0, 3, 2, .const, .rw, .live, true, .full, 0, 7, [], 65536, 48, 0, 1⟩
def SKL_ID_SERIAL_LO : Field := ⟨0x2400120, 0, 32, 0, .const, .ro, .live, false, .full, 0, 4294967295, [], 65536, 48, 0, 1⟩
def SKL_ID_SERIAL_HI : Field := ⟨0x2400124, 0, 32, 0, .const, .ro, .live, false, .full, 0, 4294967295, [], 65536, 48, 0, 1⟩
def SKL_ID_GEN_GENERATION : Field := ⟨0x2400128, 0, 32, 0, .const, .ro, .live, false, .full, 0, 4294967295, [], 65536, 48, 0, 1⟩
def SKL_ID_GEOM_DIES : Field := ⟨0x240012C, 0, 9, 0, .const, .ro, .live, false, .full, 0, 511, [], 65536, 48, 0, 1⟩
def SKL_ID_GEOM_VERSION : Field := ⟨0x240012C, 16, 16, 0, .const, .ro, .live, false, .full, 0, 65535, [], 65536, 48, 0, 1⟩
def SKL_EPOCH_LO : Field := ⟨0x2400130, 0, 32, 0, .const, .ro, .live, false, .full, 0, 4294967295, [], 65536, 48, 0, 1⟩
def SKL_EPOCH_HI : Field := ⟨0x2400134, 0, 32, 0, .const, .ro, .live, false, .full, 0, 4294967295, [], 65536, 48, 0, 1⟩
def SKL_EPOCH_STATUS_WRITERS : Field := ⟨0x2400138, 0, 2, 0, .const, .ro, .live, false, .full, 0, 3, [], 65536, 48, 0, 1⟩
def SKL_EPOCH_STATUS_FENCED : Field := ⟨0x2400138, 2, 1, 0, .const, .ro, .live, false, .full, 0, 1, [], 65536, 48, 0, 1⟩
def SKL_STATUS_OUTCOME : Field := ⟨0x2400140, 0, 3, 0, .const, .ro, .live, false, .full, 0, 7, [], 65536, 48, 0, 1⟩
def SKL_STATUS_TEMP : Field := ⟨0x2400140, 8, 8, 0, .const, .ro, .live, false, .full, 0, 255, [], 65536, 48, 0, 1⟩
def SKL_STATUS_TAGS_OUT : Field := ⟨0x2400140, 16, 11, 0, .const, .ro, .live, false, .full, 0, 2047, [], 65536, 48, 0, 1⟩
def SKL_LATE_LOG_TAG : Field := ⟨0x2400150, 0, 10, 0, .const, .ro, .live, false, .full, 0, 1023, [], 65536, 48, 0, 1⟩
def SKL_LATE_LOG_OPCODE : Field := ⟨0x2400150, 10, 8, 0, .const, .ro, .live, false, .full, 0, 255, [], 65536, 48, 0, 1⟩
def SKL_LATE_LOG_VALID : Field := ⟨0x2400150, 31, 1, 0, .const, .w1c, .live, false, .full, 0, 1, [], 65536, 48, 0, 1⟩

/-! Table 14.6 (spec/14_slot_power.md). -/

def SLOT_CFG_RSENSE : Field := ⟨0x2800100, 0, 7, 20, .const, .rw, .quiescent, false, .slot, 5, 100, [], 0, 1, 0, 1⟩
def SLOT_CFG_UV : Field := ⟨0x2800100, 8, 7, 80, .const, .rw, .live, true, .slot, 60, 100, [], 0, 1, 0, 1⟩
def SLOT_INPUT_VIN : Field := ⟨0x2800104, 0, 12, 0, .const, .ro, .live, false, .slot, 0, 4095, [], 0, 1, 0, 1⟩
def SLOT_PG_LO : Field := ⟨0x2800110, 0, 32, 0, .const, .ro, .live, false, .slot, 0, 4294967295, [], 0, 1, 0, 1⟩
def SLOT_PG_HI : Field := ⟨0x2800114, 0, 16, 0, .const, .ro, .live, false, .slot, 0, 65535, [], 0, 1, 0, 1⟩
def SLOT_FAULTED_LO : Field := ⟨0x2800118, 0, 32, 0, .const, .ro, .live, false, .slot, 0, 4294967295, [], 0, 1, 0, 1⟩
def SLOT_FAULTED_HI : Field := ⟨0x280011C, 0, 16, 0, .const, .ro, .live, false, .slot, 0, 65535, [], 0, 1, 0, 1⟩
def SLOT_SELFTEST_FAIL : Field := ⟨0x2800120, 0, 1, 0, .const, .ro, .live, false, .slot, 0, 1, [], 0, 1, 0, 1⟩

/-! Table 14.7 (spec/14_slot_power.md). -/

def SLOT_CTL_EN : Field := ⟨0x2801000, 0, 1, 1, .const, .rw, .live, false, .slot, 0, 1, [], 32, 48, 0, 1⟩
def SLOT_CTL_FAULT_CLR : Field := ⟨0x2801000, 1, 1, 0, .const, .w1s, .live, false, .slot, 0, 1, [], 32, 48, 0, 1⟩
def SLOT_CTL_ATTN : Field := ⟨0x2801000, 2, 2, 3, .const, .rw, .live, false, .slot, 0, 3, [], 32, 48, 0, 1⟩
def SLOT_CTL_AUTO_RETRY : Field := ⟨0x2801000, 4, 3, 0, .const, .rw, .live, false, .slot, 0, 7, [], 32, 48, 0, 1⟩
def SLOT_LIMIT_ILIM : Field := ⟨0x2801004, 0, 8, 50, .const, .rw, .live, true, .slot, 10, 100, [], 32, 48, 0, 1⟩
def SLOT_LIMIT_FT : Field := ⟨0x2801004, 8, 8, 120, .const, .rw, .live, true, .slot, 20, 200, [], 32, 48, 0, 1⟩
def SLOT_LIMIT_FAULT_T : Field := ⟨0x2801004, 16, 6, 5, .const, .rw, .live, true, .slot, 1, 50, [], 32, 48, 0, 1⟩
def SLOT_TIMING_SLEW : Field := ⟨0x2801008, 0, 8, 15, .const, .rw, .live, true, .slot, 2, 60, [], 32, 48, 0, 1⟩
def SLOT_TIMING_RETRY : Field := ⟨0x2801008, 8, 8, 10, .const, .rw, .live, true, .slot, 1, 255, [], 32, 48, 0, 1⟩
def SLOT_TIMING_DEBOUNCE : Field := ⟨0x2801008, 16, 8, 50, .const, .rw, .live, true, .slot, 1, 255, [], 32, 48, 0, 1⟩
def SLOT_STATUS_STATE : Field := ⟨0x280100C, 0, 3, 0, .const, .ro, .live, false, .slot, 0, 7, [], 32, 48, 0, 1⟩
def SLOT_STATUS_PG : Field := ⟨0x280100C, 3, 1, 0, .const, .ro, .live, false, .slot, 0, 1, [], 32, 48, 0, 1⟩
def SLOT_STATUS_PRSNT : Field := ⟨0x280100C, 4, 1, 0, .const, .ro, .live, false, .slot, 0, 1, [], 32, 48, 0, 1⟩
def SLOT_STATUS_REV_BLOCK : Field := ⟨0x280100C, 5, 1, 0, .const, .ro, .live, false, .slot, 0, 1, [], 32, 48, 0, 1⟩
def SLOT_STATUS_JOINED : Field := ⟨0x280100C, 6, 1, 0, .const, .ro, .live, false, .slot, 0, 1, [], 32, 48, 0, 1⟩
def SLOT_STATUS_FAULT_CAUSE : Field := ⟨0x280100C, 8, 3, 0, .const, .ro, .live, false, .slot, 0, 7, [], 32, 48, 0, 1⟩
def SLOT_STATUS_RETRIES_LEFT : Field := ⟨0x280100C, 11, 3, 0, .const, .ro, .live, false, .slot, 0, 7, [], 32, 48, 0, 1⟩
def SLOT_STATUS_HOLDOFF_LEFT : Field := ⟨0x280100C, 16, 16, 0, .const, .ro, .live, false, .slot, 0, 65535, [], 32, 48, 0, 1⟩
def SLOT_SENSE_VOUT : Field := ⟨0x2801010, 0, 12, 0, .const, .ro, .live, false, .slot, 0, 4095, [], 32, 48, 0, 1⟩
def SLOT_SENSE_IOUT : Field := ⟨0x2801010, 16, 13, 0, .const, .ro, .live, false, .slot, 0, 8191, [], 32, 48, 0, 1⟩
def SLOT_HIST_SEEN : Field := ⟨0x2801014, 0, 8, 0, .const, .w1c, .live, false, .slot, 0, 255, [], 32, 48, 0, 1⟩
def SLOT_HIST_FAULTS : Field := ⟨0x2801014, 8, 8, 0, .const, .rc, .live, false, .slot, 0, 255, [], 32, 48, 0, 1⟩
def SLOT_HIST_PEAK : Field := ⟨0x2801014, 16, 13, 0, .const, .rc, .live, false, .slot, 0, 8191, [], 32, 48, 0, 1⟩

/-! Table 15.6 (spec/15_sump_and_power_loss.md). -/

def SUMP_CFG_FLOAT : Field := ⟨0x3000100, 0, 9, 128, .const, .rw, .quiescent, false, .full, 1, 256, [], 0, 1, 0, 1⟩
def SUMP_CFG_HIGH : Field := ⟨0x3000100, 9, 7, 95, .const, .rw, .live, true, .full, 50, 99, [], 0, 1, 0, 1⟩
def SUMP_CFG_LOW : Field := ⟨0x3000100, 16, 7, 85, .const, .rw, .live, true, .full, 0, 127, [], 0, 1, 0, 1⟩
def SUMP_HOLDUP_CFG_CAP : Field := ⟨0x3000104, 0, 16, 0, .const, .rw, .live, true, .full, 0, 65535, [], 0, 1, 0, 1⟩
def SUMP_HOLDUP_CFG_ETA : Field := ⟨0x3000104, 16, 7, 85, .const, .rw, .live, true, .full, 50, 100, [], 0, 1, 0, 1⟩
def SUMP_HOLDUP_CFG_CTLRS : Field := ⟨0x3000104, 23, 1, 0, .const, .rw, .live, true, .full, 0, 1, [], 0, 1, 0, 1⟩
def SUMP_HOLDUP_CFG_P_CIST : Field := ⟨0x3000104, 24, 8, 25, .const, .rw, .live, true, .full, 1, 100, [], 0, 1, 0, 1⟩
def SUMP_HOLDUP_CFG2_VMIN : Field := ⟨0x3000108, 0, 12, 200, .const, .rw, .live, true, .full, 1, 4095, [], 0, 1, 0, 1⟩
def SUMP_HOLDUP_CFG2_DIV : Field := ⟨0x3000108, 12, 16, 4800, .const, .rw, .live, true, .full, 1, 65535, [], 0, 1, 0, 1⟩
def SUMP_SAVE_CFG_DIE_RATE : Field := ⟨0x300010C, 0, 8, 80, .const, .rw, .live, true, .full, 1, 255, [], 0, 1, 0, 1⟩
def SUMP_STATUS_SINGLE : Field := ⟨0x3000110, 0, 1, 0, .const, .ro, .live, false, .full, 0, 1, [], 0, 1, 0, 1⟩
def SUMP_STATUS_MONITOR : Field := ⟨0x3000110, 1, 3, 0, .const, .ro, .live, false, .full, 0, 7, [], 0, 1, 0, 1⟩
def SUMP_STATUS_EVER_CHARGED : Field := ⟨0x3000110, 4, 1, 0, .const, .ro, .live, false, .full, 0, 1, [], 0, 1, 0, 1⟩
def SUMP_STATUS_BP : Field := ⟨0x3000110, 5, 1, 0, .const, .ro, .live, false, .full, 0, 1, [], 0, 1, 0, 1⟩
def SUMP_STATUS_MIRROR_STALE : Field := ⟨0x3000110, 6, 1, 0, .const, .ro, .live, false, .full, 0, 1, [], 0, 1, 0, 1⟩
def SUMP_STATUS_SAVE_LOST : Field := ⟨0x3000110, 7, 1, 0, .const, .w1c, .live, false, .full, 0, 1, [], 0, 1, 0, 1⟩
def SUMP_STATUS_FLOAT_EFF : Field := ⟨0x3000110, 8, 9, 0, .const, .ro, .live, false, .full, 0, 511, [], 0, 1, 0, 1⟩
def SUMP_STATUS_SHUT_DONE : Field := ⟨0x3000110, 17, 1, 0, .const, .ro, .live, false, .full, 0, 1, [], 0, 1, 0, 1⟩
def SUMP_STATUS_SHUT_RESULT : Field := ⟨0x3000110, 18, 2, 0, .const, .ro, .live, false, .full, 0, 3, [], 0, 1, 0, 1⟩
def SUMP_OCC_OCCUPIED : Field := ⟨0x3000114, 0, 23, 0, .const, .ro, .live, false, .full, 0, 8388607, [], 0, 1, 0, 1⟩
def SUMP_RESV_RESERVED : Field := ⟨0x3000118, 0, 23, 0, .const, .ro, .live, false, .full, 0, 8388607, [], 0, 1, 0, 1⟩
def SUMP_ENERGY_E_AVAIL : Field := ⟨0x300011C, 0, 16, 0, .const, .ro, .live, false, .full, 0, 65535, [], 0, 1, 0, 1⟩
def SUMP_ENERGY_E_REQ : Field := ⟨0x300011C, 16, 16, 0, .const, .ro, .live, false, .full, 0, 65535, [], 0, 1, 0, 1⟩
def SUMP_BANK_VBANK : Field := ⟨0x3000120, 0, 16, 0, .const, .ro, .live, false, .full, 0, 65535, [], 0, 1, 0, 1⟩
def SUMP_RATE_R_SAVE : Field := ⟨0x3000124, 0, 16, 0, .const, .ro, .live, false, .full, 0, 65535, [], 0, 1, 0, 1⟩
def SUMP_RATE_F_PLSA : Field := ⟨0x3000124, 16, 16, 0, .const, .ro, .live, false, .full, 0, 65535, [], 0, 1, 0, 1⟩
def SUMP_CTL_SHUTDOWN : Field := ⟨0x3000130, 0, 1, 0, .const, .w1s, .live, false, .full, 0, 1, [], 0, 1, 0, 1⟩
def SUMP_CTL_FORCE_TAKEOVER : Field := ⟨0x3000130, 1, 1, 0, .const, .w1s, .live, false, .full, 0, 1, [], 0, 1, 0, 1⟩
def SUMP_CTL_KEY : Field := ⟨0x3000130, 16, 16, 0, .const, .wo, .live, false, .full, 0, 65535, [], 0, 1, 0, 1⟩
def SUMP_LAST_SAVE_RESULT : Field := ⟨0x3000140, 0, 2, 0, .const, .ro, .live, false, .mram, 0, 3, [], 0, 1, 0, 1⟩
def SUMP_LAST_SAVE_DUR_DURATION : Field := ⟨0x3000144, 0, 32, 0, .const, .ro, .live, false, .mram, 0, 4294967295, [], 0, 1, 0, 1⟩

/-! Table 16.10 (spec/16_cipher_and_retention.md). -/

def CRY_KEY_ACC_SLOT : Field := ⟨0x2C00100, 0, 13, 0, .const, .rw, .live, false, .full, 0, 8191, [], 0, 1, 0, 1⟩
def CRY_KEY_ACC_OP : Field := ⟨0x2C00100, 16, 3, 0, .const, .rw, .live, false, .full, 0, 7, [], 0, 1, 0, 1⟩
def CRY_KEY_ACC_TYPE : Field := ⟨0x2C00100, 19, 4, 0, .const, .rw, .live, false, .full, 0, 15, [], 0, 1, 0, 1⟩
def CRY_KEY_ACC_GO : Field := ⟨0x2C00100, 31, 1, 0, .const, .w1s, .live, false, .full, 0, 1, [], 0, 1, 0, 1⟩
def CRY_KEY_STATUS_BUSY : Field := ⟨0x2C00104, 0, 1, 0, .const, .ro, .live, false, .full, 0, 1, [], 0, 1, 0, 1⟩
def CRY_KEY_STATUS_RESULT : Field := ⟨0x2C00104, 1, 3, 0, .const, .ro, .live, false, .full, 0, 7, [], 0, 1, 0, 1⟩
def CRY_KEY_STATUS_STATE : Field := ⟨0x2C00104, 4, 2, 0, .const, .ro, .live, false, .full, 0, 3, [], 0, 1, 0, 1⟩
def CRY_KEY_STATUS_TYPE : Field := ⟨0x2C00104, 6, 4, 0, .const, .ro, .live, false, .full, 0, 15, [], 0, 1, 0, 1⟩
def CRY_KEY_ADDR_LO : Field := ⟨0x2C00108, 0, 32, 0, .const, .rw, .live, false, .full, 0, 4294967295, [], 0, 1, 0, 1⟩
def CRY_KEY_ADDR_HI : Field := ⟨0x2C0010C, 0, 32, 0, .const, .rw, .live, false, .full, 0, 4294967295, [], 0, 1, 0, 1⟩
def CRY_KEY_FPRINT_LO : Field := ⟨0x2C00110, 0, 32, 0, .const, .ro, .live, false, .full, 0, 4294967295, [], 0, 1, 0, 1⟩
def CRY_KEY_FPRINT_HI : Field := ⟨0x2C00114, 0, 32, 0, .const, .ro, .live, false, .full, 0, 4294967295, [], 0, 1, 0, 1⟩
def CRY_LA_LOCK_OWNER : Field := ⟨0x2C00200, 0, 8, 0, .const, .ro, .live, false, .full, 0, 255, [], 0, 1, 0, 1⟩
def CRY_LA_LOCK_ACQUIRE : Field := ⟨0x2C00200, 8, 1, 0, .const, .w1s, .live, false, .full, 0, 1, [], 0, 1, 0, 1⟩
def CRY_LA_LOCK_RELEASE : Field := ⟨0x2C00200, 9, 1, 0, .const, .w1s, .live, false, .full, 0, 1, [], 0, 1, 0, 1⟩
def CRY_LA_LOCK_FORCE : Field := ⟨0x2C00200, 10, 1, 0, .const, .w1s, .live, false, .full, 0, 1, [], 0, 1, 0, 1⟩
def CRY_LA_LOCK_KEY : Field := ⟨0x2C00200, 16, 16, 0, .const, .wo, .live, false, .full, 0, 65535, [], 0, 1, 0, 1⟩
def CRY_LA_CFG_LOCK_TIMEOUT : Field := ⟨0x2C00204, 0, 14, 1000, .const, .rw, .live, true, .full, 1, 10000, [], 0, 1, 0, 1⟩
def CRY_LA_RING_LO : Field := ⟨0x2C00208, 0, 32, 0, .const, .rw, .live, false, .full, 0, 4294967295, [], 0, 1, 0, 1⟩
def CRY_LA_RING_HI : Field := ⟨0x2C0020C, 0, 32, 0, .const, .rw, .live, false, .full, 0, 4294967295, [], 0, 1, 0, 1⟩
def CRY_LA_RING_SIZE : Field := ⟨0x2C00210, 0, 9, 0, .const, .rw, .live, false, .full, 1, 256, [], 0, 1, 0, 1⟩
def CRY_LA_PROD : Field := ⟨0x2C00214, 0, 8, 0, .const, .rw, .live, false, .full, 0, 255, [], 0, 1, 0, 1⟩
def CRY_LA_CONS : Field := ⟨0x2C00218, 0, 8, 0, .const, .ro, .live, false, .full, 0, 255, [], 0, 1, 0, 1⟩
def CRY_LA_CONS_IDLE : Field := ⟨0x2C00218, 8, 1, 1, .const, .ro, .live, false, .full, 0, 1, [], 0, 1, 0, 1⟩
def CRY_RET_ACC_NSID : Field := ⟨0x2C00300, 0, 13, 0, .const, .rw, .live, false, .full, 0, 8191, [], 0, 1, 0, 1⟩
def CRY_RET_ACC_OP : Field := ⟨0x2C00300, 16, 3, 0, .const, .rw, .live, false, .full, 0, 7, [], 0, 1, 0, 1⟩
def CRY_RET_ACC_GO : Field := ⟨0x2C00300, 31, 1, 0, .const, .w1s, .live, false, .full, 0, 1, [], 0, 1, 0, 1⟩
def CRY_RET_STATUS_BUSY : Field := ⟨0x2C00304, 0, 1, 0, .const, .ro, .live, false, .full, 0, 1, [], 0, 1, 0, 1⟩
def CRY_RET_STATUS_STATE : Field := ⟨0x2C00304, 1, 2, 0, .const, .ro, .live, false, .full, 0, 3, [], 0, 1, 0, 1⟩
def CRY_RET_STATUS_HOLD : Field := ⟨0x2C00304, 3, 1, 0, .const, .ro, .live, false, .full, 0, 1, [], 0, 1, 0, 1⟩
def CRY_RET_STATUS_RESULT : Field := ⟨0x2C00304, 4, 3, 0, .const, .ro, .live, false, .full, 0, 7, [], 0, 1, 0, 1⟩
def CRY_RET_UNTIL_LO : Field := ⟨0x2C00308, 0, 32, 0, .const, .rw, .live, false, .full, 0, 4294967295, [], 0, 1, 0, 1⟩
def CRY_RET_UNTIL_HI : Field := ⟨0x2C0030C, 0, 32, 0, .const, .rw, .live, false, .full, 0, 4294967295, [], 0, 1, 0, 1⟩
def CRY_RET_EXPIRY_LO : Field := ⟨0x2C00310, 0, 32, 0, .const, .ro, .live, false, .full, 0, 4294967295, [], 0, 1, 0, 1⟩
def CRY_RET_EXPIRY_HI : Field := ⟨0x2C00314, 0, 32, 0, .const, .ro, .live, false, .full, 0, 4294967295, [], 0, 1, 0, 1⟩
def CRY_RET_LAST_WRITE_LO : Field := ⟨0x2C00318, 0, 32, 0, .const, .ro, .live, false, .full, 0, 4294967295, [], 0, 1, 0, 1⟩
def CRY_RET_LAST_WRITE_HI : Field := ⟨0x2C0031C, 0, 32, 0, .const, .ro, .live, false, .full, 0, 4294967295, [], 0, 1, 0, 1⟩
def CRY_RET_CFG_ERASE_DELAY : Field := ⟨0x2C00320, 0, 14, 168, .const, .rw, .live, true, .full, 24, 8760, [], 0, 1, 0, 1⟩
def CRY_AUDIT_HEAD_LO : Field := ⟨0x2C00400, 0, 32, 0, .const, .ro, .live, false, .mram, 0, 4294967295, [], 0, 1, 0, 1⟩
def CRY_AUDIT_HEAD_HI : Field := ⟨0x2C00404, 0, 32, 0, .const, .ro, .live, false, .mram, 0, 4294967295, [], 0, 1, 0, 1⟩
def CRY_AUDIT_ARCH_LO : Field := ⟨0x2C00408, 0, 32, 0, .const, .rw, .live, false, .mram, 0, 4294967295, [], 0, 1, 0, 1⟩
def CRY_AUDIT_ARCH_HI : Field := ⟨0x2C0040C, 0, 32, 0, .const, .rw, .live, false, .mram, 0, 4294967295, [], 0, 1, 0, 1⟩
def CRY_AUDIT_STATUS_FULL : Field := ⟨0x2C00410, 0, 1, 0, .const, .ro, .live, false, .full, 0, 1, [], 0, 1, 0, 1⟩
def CRY_AUDIT_STATUS_KEY_OWNER : Field := ⟨0x2C00410, 1, 1, 0, .const, .ro, .live, false, .full, 0, 1, [], 0, 1, 0, 1⟩
def CRY_AUDIT_STATUS_CHAIN_BAD : Field := ⟨0x2C00410, 2, 1, 0, .const, .ro, .live, false, .full, 0, 1, [], 0, 1, 0, 1⟩
def CRY_AUDIT_STATUS_CAPACITY : Field := ⟨0x2C00410, 3, 17, 0, .const, .ro, .live, false, .full, 0, 131071, [], 0, 1, 0, 1⟩
def CRY_AUDIT_VERIFY_GO : Field := ⟨0x2C00414, 0, 1, 0, .const, .w1s, .live, false, .full, 0, 1, [], 0, 1, 0, 1⟩
def CRY_AUDIT_VERIFY_BUSY : Field := ⟨0x2C00414, 1, 1, 0, .const, .ro, .live, false, .full, 0, 1, [], 0, 1, 0, 1⟩
def CRY_AUDIT_BAD_LO : Field := ⟨0x2C00418, 0, 32, 0, .const, .ro, .live, false, .full, 0, 4294967295, [], 0, 1, 0, 1⟩
def CRY_AUDIT_BAD_HI : Field := ⟨0x2C0041C, 0, 32, 0, .const, .ro, .live, false, .full, 0, 4294967295, [], 0, 1, 0, 1⟩

/-! Table 17.8 (spec/17_pod_operation.md). -/

def PL_LINK_STATE : Field := ⟨0x3800100, 0, 4, 0, .const, .ro, .live, false, .full, 0, 15, [], 65536, 2, 0, 1⟩
def PL_LINK_WIDTH : Field := ⟨0x3800100, 4, 2, 0, .const, .ro, .live, false, .full, 0, 3, [], 65536, 2, 0, 1⟩
def PL_LINK_POL_INV : Field := ⟨0x3800100, 6, 8, 0, .const, .ro, .live, false, .full, 0, 255, [], 65536, 2, 0, 1⟩
def PL_LINK_REVERSED : Field := ⟨0x3800100, 14, 1, 0, .const, .ro, .live, false, .full, 0, 1, [], 65536, 2, 0, 1⟩
def PL_LINK_DEGRADED : Field := ⟨0x3800100, 15, 1, 0, .const, .ro, .live, false, .full, 0, 1, [], 65536, 2, 0, 1⟩
def PL_LINK_NEIGHBOUR : Field := ⟨0x3800100, 16, 3, 0, .const, .ro, .live, false, .full, 0, 7, [], 65536, 2, 0, 1⟩
def PL_LINK_NEIGHBOUR_VALID : Field := ⟨0x3800100, 19, 1, 0, .const, .ro, .live, false, .full, 0, 1, [], 65536, 2, 0, 1⟩
def PL_LINK_CFG_RETRAIN_LIMIT : Field := ⟨0x3800104, 0, 8, 5, .const, .rw, .live, true, .full, 1, 255, [], 65536, 2, 0, 1⟩
def PL_LINK_CFG_REPLAY_LIMIT : Field := ⟨0x3800104, 8, 4, 4, .const, .rw, .live, true, .full, 1, 15, [], 65536, 2, 0, 1⟩
def PL_LINK_CFG_LANE_REPAIR : Field := ⟨0x3800104, 12, 1, 1, .const, .rw, .live, true, .full, 0, 1, [], 65536, 2, 0, 1⟩

/-! Table 17.9 (spec/17_pod_operation.md). -/

def POD_STATUS_MEMBER : Field := ⟨0x3820100, 0, 3, 0, .const, .ro, .live, false, .full, 0, 7, [], 0, 1, 0, 1⟩
def POD_STATUS_MEMBER_VALID : Field := ⟨0x3820100, 3, 1, 0, .const, .ro, .live, false, .full, 0, 1, [], 0, 1, 0, 1⟩
def POD_STATUS_OWN_NONE : Field := ⟨0x3820100, 4, 1, 0, .const, .ro, .live, false, .full, 0, 1, [], 0, 1, 0, 1⟩
def POD_STATUS_SERVE_SET : Field := ⟨0x3820100, 8, 8, 0, .const, .ro, .live, false, .full, 0, 255, [], 0, 1, 0, 1⟩
def POD_STATUS_REACHABLE : Field := ⟨0x3820100, 16, 8, 0, .const, .ro, .live, false, .full, 0, 255, [], 0, 1, 0, 1⟩
def POD_CFG_DEAD_TIME : Field := ⟨0x3820104, 0, 8, 5, .const, .rw, .live, true, .full, 2, 255, [], 0, 1, 0, 1⟩
def POD_CFG_FENCE_DELAY : Field := ⟨0x3820104, 8, 8, 10, .const, .rw, .live, true, .full, 1, 255, [], 0, 1, 0, 1⟩
def POD_CFG_HEARTBEAT : Field := ⟨0x3820104, 16, 8, 10, .const, .rw, .live, true, .full, 1, 255, [], 0, 1, 0, 1⟩
def POD_LIVE_EPOCH_LO : Field := ⟨0x3820108, 0, 32, 0, .const, .ro, .live, false, .full, 0, 4294967295, [], 0, 1, 0, 1⟩
def POD_LIVE_EPOCH_HI : Field := ⟨0x382010C, 0, 32, 0, .const, .ro, .live, false, .full, 0, 4294967295, [], 0, 1, 0, 1⟩
def POD_CTL_FORCE_OWN : Field := ⟨0x3820110, 0, 1, 0, .const, .w1s, .live, false, .full, 0, 1, [], 0, 1, 0, 1⟩
def POD_CTL_KEY : Field := ⟨0x3820110, 16, 16, 0, .const, .wo, .live, false, .full, 0, 65535, [], 0, 1, 0, 1⟩
def POD_LAUNCH_CTL_ACTION : Field := ⟨0x3820120, 0, 1, 0, .const, .rw, .live, false, .full, 0, 1, [], 0, 1, 0, 1⟩
def POD_LAUNCH_CTL_PROPOSE : Field := ⟨0x3820120, 30, 1, 0, .const, .w1s, .live, false, .full, 0, 1, [], 0, 1, 0, 1⟩
def POD_LAUNCH_CTL_CANCEL : Field := ⟨0x3820120, 31, 1, 0, .const, .w1s, .live, false, .full, 0, 1, [], 0, 1, 0, 1⟩
def POD_LAUNCH_TIME_LO : Field := ⟨0x3820124, 0, 32, 0, .const, .rw, .live, false, .full, 0, 4294967295, [], 0, 1, 0, 1⟩
def POD_LAUNCH_TIME_HI : Field := ⟨0x3820128, 0, 32, 0, .const, .rw, .live, false, .full, 0, 4294967295, [], 0, 1, 0, 1⟩
def POD_LAUNCH_STATUS_STATE : Field := ⟨0x382012C, 0, 3, 0, .const, .ro, .live, false, .full, 0, 7, [], 0, 1, 0, 1⟩
def POD_LAUNCH_STATUS_CAUSE : Field := ⟨0x382012C, 3, 4, 0, .const, .ro, .live, false, .full, 0, 15, [], 0, 1, 0, 1⟩
def POD_LAUNCH_STATUS_REFUSER : Field := ⟨0x382012C, 7, 3, 0, .const, .ro, .live, false, .full, 0, 7, [], 0, 1, 0, 1⟩
def POD_LAUNCH_STATUS_REFUSER_VALID : Field := ⟨0x382012C, 10, 1, 0, .const, .ro, .live, false, .full, 0, 1, [], 0, 1, 0, 1⟩
def POD_MEMBER_STATE : Field := ⟨0x3820140, 0, 3, 0, .const, .ro, .live, false, .full, 0, 7, [], 4, 8, 0, 1⟩
def POD_MEMBER_HOPS : Field := ⟨0x3820140, 3, 3, 0, .const, .ro, .live, false, .full, 0, 7, [], 4, 8, 0, 1⟩
def POD_MEMBER_LINK : Field := ⟨0x3820140, 6, 2, 0, .const, .ro, .live, false, .full, 0, 3, [], 4, 8, 0, 1⟩

/-! Table 18.8 (spec/18_pcie_endpoint.md). -/

def PCIE_WIN_TARGET_LO : Field := ⟨0x400100, 0, 32, 0, .const, .rw, .live, false, .full, 0, 4294967295, [], 16, 16, 0, 1⟩
def PCIE_WIN_TARGET_HI : Field := ⟨0x400104, 0, 32, 0, .const, .rw, .live, false, .full, 0, 4294967295, [], 16, 16, 0, 1⟩
def PCIE_WIN_LEN : Field := ⟨0x400108, 0, 21, 0, .const, .rw, .live, false, .full, 0, 1048576, [], 16, 16, 0, 1⟩
def PCIE_WIN_CTL_EN : Field := ⟨0x40010C, 0, 1, 0, .const, .rw, .live, false, .full, 0, 1, [], 16, 16, 0, 1⟩
def PCIE_WIN_CTL_SPACE : Field := ⟨0x40010C, 1, 1, 0, .const, .rw, .live, false, .full, 0, 1, [], 16, 16, 0, 1⟩
def PCIE_WIN_CTL_WRITE : Field := ⟨0x40010C, 2, 1, 0, .const, .rw, .live, false, .full, 0, 1, [], 16, 16, 0, 1⟩
def PCIE_WIN_STATUS_RANGE_ERR : Field := ⟨0x400200, 0, 1, 0, .const, .w1c, .live, false, .full, 0, 1, [], 0, 1, 0, 1⟩
def PCIE_WIN_STATUS_WRITE_REFUSED : Field := ⟨0x400200, 1, 1, 0, .const, .w1c, .live, false, .full, 0, 1, [], 0, 1, 0, 1⟩
def PCIE_FN_STATUS_BME : Field := ⟨0x400300, 0, 1, 0, .const, .ro, .live, false, .full, 0, 1, [], 4, 34, 0, 1⟩
def PCIE_FN_STATUS_MASTER : Field := ⟨0x400300, 1, 2, 0, .const, .ro, .live, false, .full, 0, 3, [], 4, 34, 0, 1⟩
def PCIE_FN_STATUS_OUTSTANDING : Field := ⟨0x400300, 3, 10, 0, .const, .ro, .live, false, .full, 0, 1023, [], 4, 34, 0, 1⟩
def PCIE_FN_CFG_TENANT : Field := ⟨0x400400, 0, 10, 0, .const, .rw, .live, false, .full, 0, 1023, [], 4, 34, 0, 1⟩
def PCIE_LATE_LOG_TAG : Field := ⟨0x400500, 0, 10, 0, .const, .ro, .live, false, .full, 0, 1023, [], 0, 1, 0, 1⟩
def PCIE_LATE_LOG_FUNCTION : Field := ⟨0x400500, 10, 6, 0, .const, .ro, .live, false, .full, 0, 63, [], 0, 1, 0, 1⟩
def PCIE_LATE_LOG_VALID : Field := ⟨0x400500, 31, 1, 0, .const, .w1c, .live, false, .full, 0, 1, [], 0, 1, 0, 1⟩
def PCIE_LTR_ACTIVE : Field := ⟨0x400510, 0, 16, 10, .const, .rw, .live, true, .full, 1, 65535, [], 0, 1, 0, 1⟩
def PCIE_LTR_IDLE : Field := ⟨0x400510, 16, 16, 3000, .const, .rw, .live, true, .full, 1, 65535, [], 0, 1, 0, 1⟩
def PCIE_LTR_DEV_TOL : Field := ⟨0x400514, 0, 16, 100, .const, .rw, .live, true, .full, 0, 65535, [], 0, 1, 0, 1⟩
def PCIE_LINK_SPEED : Field := ⟨0x400520, 0, 3, 0, .const, .ro, .live, false, .full, 0, 7, [], 0, 1, 0, 1⟩
def PCIE_LINK_WIDTH : Field := ⟨0x400520, 3, 4, 0, .const, .ro, .live, false, .full, 0, 15, [], 0, 1, 0, 1⟩
def PCIE_LINK_FLIT : Field := ⟨0x400520, 7, 1, 0, .const, .ro, .live, false, .full, 0, 1, [], 0, 1, 0, 1⟩

/-! Table 19.3 (spec/19_sequencers_scratchpads_counters.md). -/

def SEQ_STATE : Field := ⟨0x3C00100, 0, 2, 0, .const, .ro, .live, false, .full, 0, 3, [], 4, 16, 0, 1⟩
def SEQ_STATE_CLASS : Field := ⟨0x3C00100, 2, 2, 0, .divFour, .ro, .live, false, .full, 0, 3, [], 4, 16, 0, 1⟩
def SEQ_MBOX_DB : Field := ⟨0x3C00200, 0, 32, 0, .const, .w1s, .live, false, .full, 0, 4294967295, [], 0, 1, 0, 1⟩
def SEQ_MBOX_OWN : Field := ⟨0x3C00204, 0, 32, 0, .const, .ro, .live, false, .full, 0, 4294967295, [], 0, 1, 0, 1⟩
def SEQ_MBOX_DONE : Field := ⟨0x3C00208, 0, 32, 0, .const, .w1c, .live, false, .full, 0, 4294967295, [], 0, 1, 0, 1⟩
def SEQ_ATOM_ADDR : Field := ⟨0x3C00300, 0, 22, 0, .const, .rw, .live, false, .full, 0, 4194303, [], 0, 1, 0, 1⟩
def SEQ_ATOM_CTL_OP : Field := ⟨0x3C00304, 0, 2, 0, .const, .rw, .live, false, .full, 0, 3, [], 0, 1, 0, 1⟩
def SEQ_ATOM_CTL_GO : Field := ⟨0x3C00304, 31, 1, 0, .const, .w1s, .live, false, .full, 0, 1, [], 0, 1, 0, 1⟩
def SEQ_ATOM_OPERAND_LO : Field := ⟨0x3C00308, 0, 32, 0, .const, .rw, .live, false, .full, 0, 4294967295, [], 0, 1, 0, 1⟩
def SEQ_ATOM_OPERAND_HI : Field := ⟨0x3C0030C, 0, 32, 0, .const, .rw, .live, false, .full, 0, 4294967295, [], 0, 1, 0, 1⟩
def SEQ_ATOM_OLD_LO : Field := ⟨0x3C00310, 0, 32, 0, .const, .ro, .live, false, .full, 0, 4294967295, [], 0, 1, 0, 1⟩
def SEQ_ATOM_OLD_HI : Field := ⟨0x3C00314, 0, 32, 0, .const, .ro, .live, false, .full, 0, 4294967295, [], 0, 1, 0, 1⟩
def SEQ_ATOM_STATUS_BUSY : Field := ⟨0x3C00318, 0, 1, 0, .const, .ro, .live, false, .full, 0, 1, [], 0, 1, 0, 1⟩
def SEQ_ATOM_STATUS_RESULT : Field := ⟨0x3C00318, 1, 2, 0, .const, .ro, .live, false, .full, 0, 3, [], 0, 1, 0, 1⟩

/-! Table 19.5 (spec/19_sequencers_scratchpads_counters.md). -/

def PMU_CTL_USER_EN : Field := ⟨0x3E00000, 0, 1, 0, .const, .rw, .live, false, .full, 0, 1, [], 0, 1, 0, 1⟩
def PMU_CTL_FREEZE : Field := ⟨0x3E00000, 1, 1, 0, .const, .rw, .live, false, .full, 0, 1, [], 0, 1, 0, 1⟩
def PMU_BW_CFG_WINDOW : Field := ⟨0x3E00010, 0, 20, 1000, .const, .rw, .live, false, .full, 1, 1000000, [], 0, 1, 0, 1⟩
def PMU_BW_STATUS_VALID : Field := ⟨0x3E00014, 0, 1, 0, .const, .ro, .live, false, .full, 0, 1, [], 0, 1, 0, 1⟩
def PMU_BW_SEQ : Field := ⟨0x3E00018, 0, 32, 0, .const, .ro, .live, false, .full, 0, 4294967295, [], 0, 1, 0, 1⟩
def PMU_SNAP_CTL_GO : Field := ⟨0x3E00020, 0, 1, 0, .const, .w1s, .live, false, .full, 0, 1, [], 0, 1, 0, 1⟩
def PMU_SNAP_CTL_BLOCKS : Field := ⟨0x3E00020, 1, 1, 0, .const, .rw, .live, false, .full, 0, 1, [], 0, 1, 0, 1⟩
def PMU_SNAP_STATUS_BUSY : Field := ⟨0x3E00024, 0, 1, 0, .const, .ro, .live, false, .full, 0, 1, [], 0, 1, 0, 1⟩
def PMU_SNAP_STATUS_VALID : Field := ⟨0x3E00024, 1, 1, 0, .const, .ro, .live, false, .full, 0, 1, [], 0, 1, 0, 1⟩
def PMU_SNAP_STATUS_MISSED : Field := ⟨0x3E00024, 8, 8, 0, .const, .rc, .live, false, .full, 0, 255, [], 0, 1, 0, 1⟩
def PMU_SNAP_TIME_LO : Field := ⟨0x3E00028, 0, 32, 0, .const, .ro, .live, false, .full, 0, 4294967295, [], 0, 1, 0, 1⟩
def PMU_SNAP_TIME_HI : Field := ⟨0x3E0002C, 0, 32, 0, .const, .ro, .live, false, .full, 0, 4294967295, [], 0, 1, 0, 1⟩
def PMU_SNAP_ADDR_LO : Field := ⟨0x3E00030, 0, 32, 0, .const, .rw, .live, false, .full, 0, 4294967295, [], 0, 1, 0, 1⟩
def PMU_SNAP_ADDR_HI : Field := ⟨0x3E00034, 0, 32, 0, .const, .rw, .live, false, .full, 0, 4294967295, [], 0, 1, 0, 1⟩
def PMU_SNAP_COUNT : Field := ⟨0x3E00038, 0, 16, 0, .const, .ro, .live, false, .full, 0, 65535, [], 0, 1, 0, 1⟩
def PMU_T_CYCLE_LO : Field := ⟨0x3E01000, 0, 32, 0, .const, .ro, .live, false, .full, 0, 4294967295, [], 256, 16, 0, 1⟩
def PMU_T_CYCLE_HI : Field := ⟨0x3E01004, 0, 32, 0, .const, .ro, .live, false, .full, 0, 4294967295, [], 256, 16, 0, 1⟩
def PMU_T_EVSEL_EVENT : Field := ⟨0x3E01050, 0, 8, 0, .const, .rw, .live, false, .full, 0, 255, [], 256, 16, 4, 8⟩
def PMU_T_EVSEL_MODE : Field := ⟨0x3E01050, 8, 1, 0, .const, .rw, .live, false, .full, 0, 1, [], 256, 16, 4, 8⟩
def PMU_T_EVSEL_EN : Field := ⟨0x3E01050, 9, 1, 0, .const, .rw, .live, false, .full, 0, 1, [], 256, 16, 4, 8⟩
def PMU_T_CTL_CLEAR : Field := ⟨0x3E01070, 0, 1, 0, .const, .w1s, .live, false, .full, 0, 1, [], 256, 16, 0, 1⟩
def PMU_BW_IN : Field := ⟨0x3E02000, 0, 32, 0, .const, .ro, .live, false, .full, 0, 4294967295, [], 16, 72, 0, 1⟩
def PMU_BW_OUT : Field := ⟨0x3E02004, 0, 32, 0, .const, .ro, .live, false, .full, 0, 4294967295, [], 16, 72, 0, 1⟩
def PMU_BW_PEAK_IN : Field := ⟨0x3E02008, 0, 32, 0, .const, .rc, .live, false, .full, 0, 4294967295, [], 16, 72, 0, 1⟩
def PMU_BW_PEAK_OUT : Field := ⟨0x3E0200C, 0, 32, 0, .const, .rc, .live, false, .full, 0, 4294967295, [], 16, 72, 0, 1⟩

/-! Table 20.5 (spec/20_power_and_clocks.md). -/

def MEM_STATUS_TRAINED : Field := ⟨0x3400100, 0, 8, 0, .const, .ro, .live, false, .full, 0, 255, [], 0, 1, 0, 1⟩
def MEM_STATUS_DISABLED : Field := ⟨0x3400100, 8, 8, 0, .const, .ro, .live, false, .full, 0, 255, [], 0, 1, 0, 1⟩
def MEM_STATUS_DEVICE_LOST : Field := ⟨0x3400100, 16, 8, 0, .const, .ro, .live, false, .full, 0, 255, [], 0, 1, 0, 1⟩
def MEM_STATUS_CAPACITY : Field := ⟨0x3400104, 0, 12, 0, .const, .ro, .live, false, .full, 0, 4095, [], 0, 1, 0, 1⟩

/-! Table 20.6 (spec/20_power_and_clocks.md). -/

def PWR_CTL_MAX_STATE : Field := ⟨0x100100, 0, 2, 3, .const, .rw, .live, true, .full, 0, 3, [], 0, 1, 0, 1⟩
def PWR_IDLE_TILE_IDLE : Field := ⟨0x100104, 0, 10, 20, .const, .rw, .live, true, .full, 1, 1000, [], 0, 1, 0, 1⟩
def PWR_IDLE_CISTERN_IDLE : Field := ⟨0x100104, 10, 10, 10, .const, .rw, .live, true, .full, 1, 1000, [], 0, 1, 0, 1⟩
def PWR_IDLE_SHELF_IDLE : Field := ⟨0x100104, 20, 12, 100, .const, .rw, .live, true, .full, 1, 4095, [], 0, 1, 0, 1⟩
def PWR_CFG_MFD_BANKS_MIN : Field := ⟨0x100108, 0, 5, 4, .const, .rw, .live, true, .full, 1, 16, [], 0, 1, 0, 1⟩
def PWR_STATUS_STATE : Field := ⟨0x100110, 0, 2, 0, .const, .ro, .live, false, .full, 0, 3, [], 0, 1, 0, 1⟩
def PWR_STATUS_TARGET : Field := ⟨0x100110, 2, 2, 0, .const, .ro, .live, false, .full, 0, 3, [], 0, 1, 0, 1⟩
def PWR_STATUS_EXITING : Field := ⟨0x100110, 4, 1, 0, .const, .ro, .live, false, .full, 0, 1, [], 0, 1, 0, 1⟩
def PWR_STATUS_T_MIN : Field := ⟨0x100110, 16, 16, 0, .const, .ro, .live, false, .full, 0, 65535, [], 0, 1, 0, 1⟩
def PWR_WAKE_CAUSE : Field := ⟨0x100114, 0, 3, 0, .const, .ro, .live, false, .full, 0, 7, [], 0, 1, 0, 1⟩
def PWR_DOMAIN_POWERED : Field := ⟨0x100120, 0, 32, 0, .const, .ro, .live, false, .full, 0, 4294967295, [], 4, 5, 0, 1⟩
def PWR_DFAIL_FAILED : Field := ⟨0x100140, 0, 32, 0, .const, .ro, .live, false, .sticky, 0, 4294967295, [], 4, 5, 0, 1⟩
def PWR_THERM_WCTEMP : Field := ⟨0x100200, 0, 8, 95, .const, .rw, .live, true, .full, 60, 110, [], 0, 1, 0, 1⟩
def PWR_THERM_CCTEMP : Field := ⟨0x100200, 8, 8, 105, .const, .rw, .live, true, .full, 65, 114, [], 0, 1, 0, 1⟩
def PWR_THERM_THROTTLE_PCT : Field := ⟨0x100200, 16, 7, 50, .const, .rw, .live, true, .full, 10, 100, [], 0, 1, 0, 1⟩
def PWR_THERM_STATUS_WARN : Field := ⟨0x100204, 0, 1, 0, .const, .ro, .live, false, .full, 0, 1, [], 0, 1, 0, 1⟩
def PWR_THERM_STATUS_THROTTLE : Field := ⟨0x100204, 1, 1, 0, .const, .ro, .live, false, .full, 0, 1, [], 0, 1, 0, 1⟩
def PWR_THERM_STATUS_TRIPPED : Field := ⟨0x100204, 2, 1, 0, .const, .w1c, .live, false, .powerOn, 0, 1, [], 0, 1, 0, 1⟩
def PWR_THERM_STATUS_PACKAGE : Field := ⟨0x100204, 8, 8, 0, .const, .ro, .live, false, .full, 0, 255, [], 0, 1, 0, 1⟩
def PWR_THERM_STATUS_COMPOSITE : Field := ⟨0x100204, 16, 8, 0, .const, .ro, .live, false, .full, 0, 255, [], 0, 1, 0, 1⟩
def PWR_SENSOR_TEMP : Field := ⟨0x100210, 0, 8, 0, .const, .ro, .live, false, .full, 0, 255, [], 4, 6, 0, 1⟩
def PWR_INPUT_VIN : Field := ⟨0x100230, 0, 12, 0, .const, .ro, .live, false, .full, 0, 4095, [], 0, 1, 0, 1⟩
def PWR_INPUT_IIN : Field := ⟨0x100230, 12, 16, 0, .const, .ro, .live, false, .full, 0, 65535, [], 0, 1, 0, 1⟩
def PWR_I3C_FAULT : Field := ⟨0x100240, 0, 1, 0, .const, .ro, .live, false, .full, 0, 1, [], 0, 1, 0, 1⟩
def PWR_I3C_KIND : Field := ⟨0x100240, 1, 2, 0, .const, .ro, .live, false, .full, 0, 3, [], 0, 1, 0, 1⟩
def PWR_I3C_SENSORS : Field := ⟨0x100240, 8, 8, 0, .const, .ro, .live, false, .full, 0, 255, [], 0, 1, 0, 1⟩
def PWR_CLK_LOCK : Field := ⟨0x100250, 0, 20, 0, .const, .ro, .live, false, .full, 0, 1048575, [], 0, 1, 0, 1⟩

/-! Table 21.7 (spec/21_events_and_errors.md). -/

def GLB_EVT_CTL_CORR_INTERVAL : Field := ⟨0x400, 0, 16, 1000, .const, .rws, .live, false, .sticky, 1, 60000, [], 0, 1, 0, 1⟩
def GLB_EVT_ROUTE_INFO : Field := ⟨0x410, 0, 8, 0, .const, .rws, .live, false, .sticky, 0, 255, [], 4, 16, 0, 1⟩
def GLB_EVT_ROUTE_CORRECTED : Field := ⟨0x410, 8, 8, 0, .const, .rws, .live, false, .sticky, 0, 255, [], 4, 16, 0, 1⟩
def GLB_EVT_ROUTE_UNCORRECTED : Field := ⟨0x410, 16, 8, 0, .const, .rws, .live, false, .sticky, 0, 255, [], 4, 16, 0, 1⟩
def GLB_EVT_ROUTE_FATAL : Field := ⟨0x410, 24, 8, 0, .const, .rws, .live, false, .sticky, 0, 255, [], 4, 16, 0, 1⟩
def GLB_FATAL_VALID : Field := ⟨0x480, 0, 1, 0, .const, .w1c, .live, false, .mram, 0, 1, [], 0, 1, 0, 1⟩
def GLB_FATAL_CAUSE : Field := ⟨0x480, 1, 7, 0, .const, .ro, .live, false, .mram, 0, 127, [], 0, 1, 0, 1⟩
def GLB_FATAL_BLOCK : Field := ⟨0x480, 16, 16, 0, .const, .ro, .live, false, .mram, 0, 65535, [], 0, 1, 0, 1⟩
def GLB_FATAL_TIME_LO : Field := ⟨0x484, 0, 32, 0, .const, .ro, .live, false, .mram, 0, 4294967295, [], 0, 1, 0, 1⟩
def GLB_FATAL_TIME_HI : Field := ⟨0x488, 0, 32, 0, .const, .ro, .live, false, .mram, 0, 4294967295, [], 0, 1, 0, 1⟩
def GLB_WDOG_PERIOD : Field := ⟨0x4A0, 0, 16, 0, .const, .rw, .live, false, .full, 0, 65535, [1, 2, 3, 4, 5, 6, 7, 8, 9], 0, 1, 0, 1⟩
def GLB_WDOG_WARNED : Field := ⟨0x4A0, 16, 1, 0, .const, .ro, .live, false, .full, 0, 1, [], 0, 1, 0, 1⟩
def GLB_WDOG_KICK : Field := ⟨0x4A4, 0, 1, 0, .const, .w1s, .live, false, .full, 0, 1, [], 0, 1, 0, 1⟩
def GLB_WDOG_KICK_KEY : Field := ⟨0x4A4, 16, 16, 0, .const, .wo, .live, false, .full, 0, 65535, [], 0, 1, 0, 1⟩
def GLB_FATAL_CFG_HOLD : Field := ⟨0x4B0, 0, 6, 2, .const, .rws, .live, false, .sticky, 0, 60, [], 0, 1, 0, 1⟩
def GLB_HIST_ACC_INDEX : Field := ⟨0x4C0, 0, 8, 0, .const, .rw, .live, false, .full, 0, 255, [], 0, 1, 0, 1⟩
def GLB_HIST_ACC_READ : Field := ⟨0x4C0, 31, 1, 0, .const, .w1s, .live, false, .full, 0, 1, [], 0, 1, 0, 1⟩
def GLB_HIST_STATUS_BUSY : Field := ⟨0x4C4, 0, 1, 0, .const, .ro, .live, false, .full, 0, 1, [], 0, 1, 0, 1⟩
def GLB_HIST_STATUS_VALID : Field := ⟨0x4C4, 1, 1, 0, .const, .ro, .live, false, .full, 0, 1, [], 0, 1, 0, 1⟩
def GLB_HIST_COUNT : Field := ⟨0x4C8, 0, 32, 0, .const, .ro, .live, false, .mram, 0, 4294967295, [], 0, 1, 0, 1⟩
def GLB_HIST_DATA : Field := ⟨0x4E0, 0, 32, 0, .const, .ro, .live, false, .full, 0, 4294967295, [], 4, 8, 0, 1⟩

/-! Table 21.8 (spec/21_events_and_errors.md). -/

def GLB_EVT_BASE_LO : Field := ⟨0x1000, 0, 32, 0, .const, .rws, .live, false, .sticky, 0, 4294967295, [], 32, 256, 0, 1⟩
def GLB_EVT_BASE_HI : Field := ⟨0x1004, 0, 32, 0, .const, .rws, .live, false, .sticky, 0, 4294967295, [], 32, 256, 0, 1⟩
def GLB_EVT_SIZE_SIZE_LOG2 : Field := ⟨0x1008, 0, 5, 6, .const, .rws, .live, false, .sticky, 6, 16, [], 32, 256, 0, 1⟩
def GLB_EVT_SIZE_EN : Field := ⟨0x1008, 31, 1, 0, .const, .rws, .live, false, .sticky, 0, 1, [], 32, 256, 0, 1⟩
def GLB_EVT_PROD : Field := ⟨0x100C, 0, 16, 0, .const, .ro, .live, false, .full, 0, 65535, [], 32, 256, 0, 1⟩
def GLB_EVT_PROD_PHASE : Field := ⟨0x100C, 16, 1, 1, .const, .ro, .live, false, .full, 0, 1, [], 32, 256, 0, 1⟩
def GLB_EVT_CONS : Field := ⟨0x1010, 0, 16, 0, .const, .rw, .live, false, .full, 0, 65535, [], 32, 256, 0, 1⟩
def GLB_EVT_CONS_ARM : Field := ⟨0x1010, 31, 1, 1, .const, .w1s, .live, false, .full, 0, 1, [], 32, 256, 0, 1⟩
def GLB_EVT_COAL_COALESCE : Field := ⟨0x1014, 0, 10, 0, .const, .rws, .live, false, .sticky, 0, 1000, [], 32, 256, 0, 1⟩
def GLB_EVT_LOST : Field := ⟨0x1018, 0, 32, 0, .const, .rc, .live, false, .full, 0, 4294967295, [], 32, 256, 0, 1⟩

/-! Table 22.5 (spec/22_register_map.md). -/

def GLB_DEVICE : Field := ⟨0x40, 0, 16, 38472, .const, .ro, .live, false, .full, 0, 65535, [], 0, 1, 0, 1⟩
def GLB_DEVICE_STEPPING : Field := ⟨0x40, 16, 8, 176, .const, .ro, .live, false, .full, 0, 255, [], 0, 1, 0, 1⟩
def GLB_SERIAL_LO : Field := ⟨0x48, 0, 32, 0, .const, .ro, .live, false, .powerOn, 0, 4294967295, [], 0, 1, 0, 1⟩
def GLB_SERIAL_HI : Field := ⟨0x4C, 0, 32, 0, .const, .ro, .live, false, .powerOn, 0, 4294967295, [], 0, 1, 0, 1⟩
def GLB_VIEW_ACTIVE : Field := ⟨0x50, 0, 1, 0, .const, .rw, .live, false, .full, 0, 1, [], 0, 1, 0, 1⟩
def IMG_FUSE_CTL_INDEX : Field := ⟨0x200080, 0, 2, 0, .const, .rw, .live, false, .full, 0, 3, [], 0, 1, 0, 1⟩
def IMG_FUSE_CTL_PQ : Field := ⟨0x200080, 2, 1, 0, .const, .rw, .live, false, .full, 0, 1, [], 0, 1, 0, 1⟩
def IMG_FUSE_CTL_PROGRAM : Field := ⟨0x200080, 3, 1, 0, .const, .w1s, .live, false, .full, 0, 1, [], 0, 1, 0, 1⟩
def IMG_FUSE_CTL_REVOKE : Field := ⟨0x200080, 4, 1, 0, .const, .w1s, .live, false, .full, 0, 1, [], 0, 1, 0, 1⟩
def IMG_FUSE_CTL_KEY : Field := ⟨0x200080, 16, 16, 0, .const, .wo, .live, false, .full, 0, 65535, [], 0, 1, 0, 1⟩
def IMG_FUSE_STATUS_BUSY : Field := ⟨0x200084, 0, 1, 0, .const, .ro, .live, false, .full, 0, 1, [], 0, 1, 0, 1⟩
def IMG_FUSE_STATUS_RESULT : Field := ⟨0x200084, 1, 3, 0, .const, .ro, .live, false, .full, 0, 7, [], 0, 1, 0, 1⟩
def IMG_FUSE_STATUS_PROGRAMMED : Field := ⟨0x200084, 4, 6, 0, .const, .ro, .live, false, .full, 0, 63, [], 0, 1, 0, 1⟩
def IMG_FUSE_STATUS_REVOKED : Field := ⟨0x200084, 10, 6, 0, .const, .ro, .live, false, .full, 0, 63, [], 0, 1, 0, 1⟩
def IMG_FUSE_STATUS_PQ_SET : Field := ⟨0x200084, 16, 6, 0, .const, .ro, .live, false, .full, 0, 63, [], 0, 1, 0, 1⟩
def IMG_FUSE_HASH : Field := ⟨0x2000C0, 0, 32, 0, .const, .rw, .live, false, .full, 0, 4294967295, [], 4, 12, 0, 1⟩
def ETH_LINK_UP : Field := ⟨0x800100, 0, 8, 0, .const, .ro, .live, false, .full, 0, 255, [], 1048576, 4, 0, 1⟩
def ETH_LINK_MODE : Field := ⟨0x800100, 8, 3, 0, .const, .img, .static, false, .full, 0, 7, [], 1048576, 4, 0, 1⟩

/-! Table 22.6 (spec/22_register_map.md). -/

def FTL_NS_ACC_NSID : Field := ⟨0x1C00300, 0, 13, 0, .const, .rw, .live, false, .full, 0, 8191, [], 0, 1, 0, 1⟩
def FTL_NS_ACC_OP : Field := ⟨0x1C00300, 16, 3, 0, .const, .rw, .live, false, .full, 0, 7, [], 0, 1, 0, 1⟩
def FTL_NS_ACC_GO : Field := ⟨0x1C00300, 31, 1, 0, .const, .w1s, .live, false, .full, 0, 1, [], 0, 1, 0, 1⟩
def FTL_NS_STATUS_BUSY : Field := ⟨0x1C00304, 0, 1, 0, .const, .ro, .live, false, .full, 0, 1, [], 0, 1, 0, 1⟩
def FTL_NS_STATUS_RESULT : Field := ⟨0x1C00304, 1, 3, 0, .const, .ro, .live, false, .full, 0, 7, [], 0, 1, 0, 1⟩
def FTL_NS_STATUS_ASSIGNED : Field := ⟨0x1C00304, 4, 13, 0, .const, .ro, .live, false, .full, 0, 8191, [], 0, 1, 0, 1⟩
def FTL_NS_NSZE_LO : Field := ⟨0x1C00308, 0, 32, 0, .const, .rw, .live, false, .full, 0, 4294967295, [], 0, 1, 0, 1⟩
def FTL_NS_NSZE_HI : Field := ⟨0x1C0030C, 0, 32, 0, .const, .rw, .live, false, .full, 0, 4294967295, [], 0, 1, 0, 1⟩
def FTL_NS_CFG_LBAF : Field := ⟨0x1C00310, 0, 2, 0, .const, .rw, .live, false, .full, 0, 3, [], 0, 1, 0, 1⟩
def FTL_NS_CFG_PI_TYPE : Field := ⟨0x1C00310, 2, 2, 0, .const, .rw, .live, false, .full, 0, 3, [], 0, 1, 0, 1⟩
def FTL_NS_CFG_IU : Field := ⟨0x1C00310, 4, 1, 1, .const, .rw, .live, false, .full, 0, 1, [], 0, 1, 0, 1⟩
def FTL_NS_CFG_LAYOUT : Field := ⟨0x1C00310, 5, 4, 0, .const, .rw, .live, false, .full, 0, 15, [], 0, 1, 0, 1⟩
def FTL_NS_CFG_RETAIN : Field := ⟨0x1C00310, 9, 1, 0, .const, .rw, .live, false, .full, 0, 1, [], 0, 1, 0, 1⟩
def FTL_NS_CFG_HOME : Field := ⟨0x1C00310, 10, 2, 0, .const, .rw, .live, false, .full, 0, 3, [], 0, 1, 0, 1⟩
def FTL_NS_CFG_HOME_EN : Field := ⟨0x1C00310, 12, 1, 0, .const, .rw, .live, false, .full, 0, 1, [], 0, 1, 0, 1⟩
def FTL_NS_CFG_TENANT : Field := ⟨0x1C00310, 13, 10, 0, .const, .rw, .live, false, .full, 0, 1023, [], 0, 1, 0, 1⟩
def FTL_NS_RETAIN_RETAIN_DAYS : Field := ⟨0x1C00314, 0, 16, 0, .const, .rw, .live, false, .full, 0, 65535, [], 0, 1, 0, 1⟩
def FTL_NS_KEY_KEY_SLOT : Field := ⟨0x1C00318, 0, 13, 0, .const, .rw, .live, false, .full, 0, 8191, [], 0, 1, 0, 1⟩
def FTL_NS_KEY_SLOT_EN : Field := ⟨0x1C00318, 13, 1, 0, .const, .rw, .live, false, .full, 0, 1, [], 0, 1, 0, 1⟩

/-! Table 22.1 (spec/22_register_map.md), R556: the common registers, at the base of a block; R558 for GLB, IMG and PWR. -/

end Sys2Proof.Machine.Reg
end

