-- ==== Sys2Proof/Machine/RegTables.lean ====
section
/-! DEFINITION. The register tables as lists, block by block in BAR0 order (Table 0.5), so that a write, a read,
a commit and a reset can go through every field.  Table 22.7. -/

namespace Sys2Proof.Machine.Reg

/-- Table 2.6, IMG. -/
def tab_2_6_IMG : List Field :=
  [IMG_STATUS_RESULT, IMG_STATUS_SLOT, IMG_STATUS_FALLBACK, IMG_STATUS_TRIAL, IMG_STATUS_PQ_VERIFIED, IMG_STATUS_KEY_CLASS, IMG_STATUS_KEY_INDEX, IMG_STATUS_BAD_RECORD, IMG_CTL_STAGE, IMG_CTL_TRIAL_NEXT, IMG_CTL_ACCEPT, IMG_STAGE_ADDR_LO, IMG_STAGE_ADDR_HI, IMG_STAGE_LEN, IMG_STAGE_STATUS_BUSY, IMG_STAGE_STATUS_RESULT, IMG_HASH]
/-- Table 2.8, GLB. -/
def tab_2_8_GLB : List Field :=
  [GLB_COMMIT, GLB_COMMIT_ABORT, GLB_COMMIT_STATUS_PENDING, GLB_COMMIT_STATUS_BUSY, GLB_COMMIT_STATUS_LOCKED, GLB_COMMIT_STATUS_LAST_RESULT, GLB_COMMIT_STATUS_LAST_SOURCE, GLB_COMMIT_STATUS_REJECT_BLOCK, GLB_COMMIT_TIME_LO, GLB_COMMIT_TIME_HI]
/-- Table 3.6, GLB. -/
def tab_3_6_GLB : List Field :=
  [GLB_PRIME_STATUS_STATE, GLB_PRIME_STATUS_FAIL_CAUSE, GLB_PRIME_STATUS_RRS, GLB_PRIME_STATUS_DRAM_INIT_DONE, GLB_PRIME_STATUS_RECOVER_MODE, GLB_PRIME_PROGRESS, GLB_PRIME_PROGRESS_ETA, GLB_PRIME_CTL_SLOT_GROUP, GLB_PRIME_CTL_SLOT_INTERVAL, GLB_PRIME_CTL_ADMIT_TIMEOUT, GLB_PRIME_CTL2_JOIN_TIMEOUT, GLB_RESET_FULL, GLB_RESET_WARM, GLB_RESET_KEY, GLB_RESET_CAUSE_POWER_ON, GLB_RESET_CAUSE_RESET_N, GLB_RESET_CAUSE_WATCHDOG, GLB_RESET_CAUSE_SW_FULL, GLB_RESET_CAUSE_WARM, GLB_RESET_CAUSE_POLICY_FALLBACK, GLB_RESET_CAUSE_SAVE_DONE, GLB_RESET_CAUSE_SAVE_INCOMPLETE, GLB_STRAP_BOOT_MODE, GLB_PRIME_ADMITTED_LO, GLB_PRIME_ADMITTED_HI, GLB_PRIME_DUR]
/-- Table 4.8, WELL. -/
def tab_4_8_WELL : List Field :=
  [WELL_RC_TIMERS_ACK_TIMEOUT, WELL_RC_TIMERS_RETRY_CNT, WELL_RC_TIMERS_RNR_RETRY, WELL_RC_TIMERS_RNR_TIMER, WELL_RC_TIMERS_ACK_COALESCE, WELL_RC_TIMERS_ACK_DELAY, WELL_RC_CC_CNP_INTERVAL, WELL_RC_CC_MD, WELL_RC_CC_DEC_HOLD, WELL_RC_WIN_W_INIT, WELL_RC_WIN_W_MAX, WELL_RC_WIN_AI, WELL_RC_CTL_ECT, WELL_RC_CTL_CNP_EN, WELL_RC_CTL_CC_EN, WELL_RC_CTL_ORD, WELL_RC_CTL_IRD, WELL_RC_CTL_QUARANTINE, WELL_RC_STATUS_QP_OPEN, WELL_CACHE_STATUS_VALID, WELL_CACHE_STATUS_DIRTY, WELL_MISSQ_STATUS_OCCUPANCY, WELL_MISSQ_STATUS_PEAK, WELL_QP_INSPECT_INDEX, WELL_QP_INSPECT_GO, WELL_QP_INSPECT_STATUS_BUSY, WELL_QP_INSPECT_STATUS_VALID, WELL_QP_VIEW]
/-- Table 5.8, WELL. -/
def tab_5_8_WELL : List Field :=
  [WELL_PRD_CTL_T_LIFE, WELL_PRD_CTL_PAYLOAD_MAX, WELL_PRD_CTL_SPRAY, WELL_PRD_CTL_ECT, WELL_PRD_PULL_TIMEOUT, WELL_PRD_PULL_RETRIES, WELL_PRD_PULL_PULL_MAX, WELL_PRD_STATUS_ACCEPTING, WELL_PRD_STATUS_SUSPEND, WELL_PRD_STATUS_HOSTS, WELL_PRD_TABLE_OCCUPANCY, WELL_PRD_TABLE_PEAK, WELL_PRD_START_LO, WELL_PRD_START_HI, WELL_PRD_HOST_ACC_INDEX, WELL_PRD_HOST_ACC_WRITE, WELL_PRD_HOST_ACC_READ, WELL_PRD_HOST_STATUS_BUSY, WELL_PRD_HOST_DATA]
/-- Table 6.10, SUMP. -/
def tab_6_10_SUMP : List Field :=
  [SUMP_REGION_ACC_INDEX, SUMP_REGION_ACC_REVOKE, SUMP_REGION_ACC_WRITE, SUMP_REGION_ACC_READ, SUMP_REGION_STATUS_BUSY, SUMP_REGION_STATUS_STATE, SUMP_REGION_STATUS_DRAIN_TIMEOUT, SUMP_REGION_STATUS_RESULT, SUMP_REGION_CFG_REVOKE_TIMEOUT, SUMP_REGION_DATA0_TENANT, SUMP_REGION_DATA0_REMOTE_WRITE, SUMP_REGION_DATA0_REMOTE_READ, SUMP_REGION_DATA1_LEN, SUMP_REGION_DATA2_R_KEY, SUMP_REGION_DATA3_OFFSET]
/-- Table 7.5, QOS. -/
def tab_7_5_QOS : List Field :=
  [QOS_OVH_PKT_OVH, QOS_OVH_CMD_OVH, QOS_TREE0_LEVELS, QOS_TREE0_NODES1, QOS_TREE1_NODES2, QOS_TREE1_NODES3, QOS_STATUS_OVERSUB, QOS_STATUS_PRIV_COUNT, QOS_STATUS_MIN_LAT_TOL, QOS_DSCP_COLOUR]
/-- Table 7.6, QOS. -/
def tab_7_6_QOS : List Field :=
  [QOS_N_RATE, QOS_N_BURST, QOS_N_CFG_LEN_MODE, QOS_N_CFG_WEIGHT, QOS_N_CFG_PARENT, QOS_N_QUANTUM]
/-- Table 7.7, QOS. -/
def tab_7_7_QOS : List Field :=
  [QOS_T_CIR, QOS_T_CBS, QOS_T_PIR, QOS_T_PBS, QOS_T_CFG_LEN_MODE, QOS_T_CFG_COLOUR_AWARE, QOS_T_CFG_PRIV, QOS_T_CFG_MARKER, QOS_T_CFG_RED_ACTION, QOS_T_CFG_WEIGHT, QOS_T_CFG_PARENT, QOS_T_LAT_LAT_TOL, QOS_T_STATUS_HELD, QOS_T_STATUS_HEAD_COLOUR]
/-- Table 8.8, MFD. -/
def tab_8_8_MFD : List Field :=
  [MFD_AGE_AGE_LIMIT, MFD_HOLD, MFD_HOLD_STALL, MFD_PAUSE_REFRESH, MFD_PART_SIZE, MFD_BORROW, MFD_PART_USE, MFD_PART_PEAK, MFD_PFC_CFG_PFC_EN, MFD_PFC_THR_XOFF, MFD_PFC_THR_XON, MFD_ECC_LOG_CELL, MFD_ECC_LOG_DESC, MFD_ECC_LOG_VALID, MFD_FENCED]
/-- Table 9.10, FTL. -/
def tab_9_10_FTL : List Field :=
  [FTL_MAP_STATUS_RESIDENT, FTL_MAP_STATUS_LOADING, FTL_MAP_BYTES_LO, FTL_MAP_BYTES_HI, FTL_CKPT_CKPT_MAX, FTL_CKPT_ROTATE, FTL_CKPT_SEQ_LO, FTL_CKPT_SEQ_HI, FTL_FLOAT_HIGH, FTL_FLOAT_LOW, FTL_FLOAT_CRIT, FTL_DRAW_STATUS_MODE, FTL_DRAW_STATUS_FREE, FTL_HEAT_HOT_LIMIT, FTL_HEAT_WARM_LIMIT, FTL_HEAT2_COLD_LIMIT, FTL_ASSEMBLY_ASSEMBLY_WAIT, FTL_ASSEMBLY_MERGE_WAIT, FTL_TANK_CFG_OPEN_IDLE, FTL_TANK_COUNT, FTL_TANK_ENTRIES]
/-- Table 10.6, FTL. -/
def tab_10_6_FTL : List Field :=
  [FTL_WEAR_LEVEL_SPREAD, FTL_WEAR_LEVEL_STOP, FTL_RETIRE_EOL_PCT, FTL_RETIRE_CISTERN_MAX, FTL_RETIRE_SPARE_THRESH, FTL_REFRESH_REFRESH_PRED, FTL_REFRESH_URGENT_PRED, FTL_REFRESH_RETRY_TRIGGER, FTL_REFRESH_SCAN, FTL_MEDIA_STATUS_SPREAD, FTL_MEDIA_STATUS_LEVELLING, FTL_MEDIA_STATUS_AGE_ESTIMATED, FTL_MEDIA_STATUS_SPARE_PCT, FTL_MEDIA_STATUS_READ_ONLY, FTL_THR_INFO_NA, FTL_THR_INFO_NT, FTL_THR_INFO_NE, FTL_THR_INFO_NL, FTL_THR_INFO_NR, FTL_BLOCK_SEL_BLOCK, FTL_BLOCK_SEL_DIE, FTL_BLOCK_ACC_CISTERN, FTL_BLOCK_ACC_RETIRE, FTL_BLOCK_ACC_READ, FTL_BLOCK_STATUS_BUSY, FTL_BLOCK_STATUS_RESULT, FTL_BLOCK_DATA0_RECORD, FTL_BLOCK_DATA1_TANK]
/-- Table 11.10, PAR. -/
def tab_11_10_PAR : List Field :=
  [PAR_REBUILD_CFG_RATE, PAR_REBUILD_CFG_CRIT_RATE, PAR_GRACE, PAR_REBUILD_STATUS_ACTIVE, PAR_REBUILD_STATUS_CRITICAL, PAR_REBUILD_STATUS_CISTERN, PAR_REBUILD_STATUS_QUEUED, PAR_REBUILD_LEFT_TANKS_LEFT, PAR_REBUILD_DONE_TANKS_DONE, PAR_REBUILD_ETA, PAR_REDUNDANCY0_DEGRADED, PAR_REDUNDANCY1_CRITICAL_TANKS, PAR_CSTATE_STATE, PAR_CSTATE_GRACE_LEFT, PAR_CSTATE_FAIL, PAR_LOST_STATUS_COUNT, PAR_LOST_STATUS_OVERFLOW, PAR_LOST_GEN_GENERATION, PAR_LOST_ACC_INDEX, PAR_LOST_ACC_READ, PAR_LOST_ACC_STATUS_BUSY, PAR_LOST_ACC_STATUS_VALID, PAR_LOST_DATA]
/-- Table 12.6, TIME. -/
def tab_12_6_TIME : List Field :=
  [TIME_NOW_LO, TIME_NOW_HI, TIME_MONO_LO, TIME_MONO_HI, TIME_SECURE_LO, TIME_SECURE_HI, TIME_STATUS_SERVO, TIME_STATUS_SOURCE, TIME_STATUS_EVER_LOCKED, TIME_STATUS_COORD, TIME_STATUS_PRD_TIME_OK, TIME_STATUS_STEP_REFUSED, TIME_STATUS_PTP_PORT, TIME_OFFSET_PTP_OFFSET, TIME_PEER_OFFSET, TIME_PTP_CFG_DOMAIN, TIME_PTP_CFG_TRANSPORT, TIME_PTP_CFG_ONE_STEP, TIME_PTP_CFG_P2P, TIME_PTP_CFG_BC, TIME_PTP_CFG_LOG_SYNC_NEG, TIME_PTP_PORTS_PORT_EN, TIME_SERVO_STEP_THRESH, TIME_SERVO_SLEW_MAX, TIME_SERVO_HOLD_PPB, TIME_SRC_CFG_PEER_EN, TIME_SRC_CFG_PPS_EN, TIME_SRC_CFG_REF10_EN, TIME_SRC_CFG_PPS_OUT_EN, TIME_TOD_LO, TIME_TOD_HI, TIME_STEP_OVR_ALLOW, TIME_STEP_OVR_KEY, TIME_WIN_CFG_SLOTS, TIME_WIN_CFG_SETS, TIME_WIN_CFG_SLOT_LEN, TIME_WIN_CFG_GUARD, TIME_WIN_OPS_ERASE_BOUND, TIME_WIN_OPS_READ_BOUND, TIME_WIN_IDLE_IDLE_WAIT, TIME_WIN_OFFSET, TIME_WIN_STATUS_UNCOORD, TIME_WIN_STATUS_CAUSE, TIME_WIN_STATUS_SLOT, TIME_WIN_DRAW_LO, TIME_WIN_DRAW_HI]
/-- Table 12.7, TIME. -/
def tab_12_7_TIME : List Field :=
  [TIME_LAUNCH_TIME_LO, TIME_LAUNCH_TIME_HI, TIME_LAUNCH_PERIOD, TIME_LAUNCH_CTL_ACTION, TIME_LAUNCH_CTL_ARG, TIME_LAUNCH_CTL_ARM, TIME_LAUNCH_CTL_CANCEL, TIME_LAUNCH_STATUS_STATE, TIME_LAUNCH_STATUS_REARM_REFUSED, TIME_LAUNCH_FIRED_LO, TIME_LAUNCH_FIRED_HI, TIME_LAUNCH_MISSED]
/-- Table 13.12, SKL. -/
def tab_13_12_SKL : List Field :=
  [SKL_LINK_STATE, SKL_LINK_WIDTH, SKL_LINK_POL_INV, SKL_LINK_REVERSED, SKL_LINK_DEGRADED, SKL_LINK_BRIDGE_PORT, SKL_LINK_CFG_RETRAIN_LIMIT, SKL_LINK_CFG_REPLAY_LIMIT, SKL_LINK_CFG_LANE_REPAIR, SKL_TIMEOUT0_READ_TO, SKL_TIMEOUT0_PROG_TO, SKL_TIMEOUT1_ERASE_TO, SKL_TIMEOUT1_ADMIN_TO, SKL_RETRY_PROG_RETRIES, SKL_ID_SERIAL_LO, SKL_ID_SERIAL_HI, SKL_ID_GEN_GENERATION, SKL_ID_GEOM_DIES, SKL_ID_GEOM_VERSION, SKL_EPOCH_LO, SKL_EPOCH_HI, SKL_EPOCH_STATUS_WRITERS, SKL_EPOCH_STATUS_FENCED, SKL_STATUS_OUTCOME, SKL_STATUS_TEMP, SKL_STATUS_TAGS_OUT, SKL_LATE_LOG_TAG, SKL_LATE_LOG_OPCODE, SKL_LATE_LOG_VALID]
/-- Table 14.6, SLOT. -/
def tab_14_6_SLOT : List Field :=
  [SLOT_CFG_RSENSE, SLOT_CFG_UV, SLOT_INPUT_VIN, SLOT_PG_LO, SLOT_PG_HI, SLOT_FAULTED_LO, SLOT_FAULTED_HI, SLOT_SELFTEST_FAIL]
/-- Table 14.7, SLOT. -/
def tab_14_7_SLOT : List Field :=
  [SLOT_CTL_EN, SLOT_CTL_FAULT_CLR, SLOT_CTL_ATTN, SLOT_CTL_AUTO_RETRY, SLOT_LIMIT_ILIM, SLOT_LIMIT_FT, SLOT_LIMIT_FAULT_T, SLOT_TIMING_SLEW, SLOT_TIMING_RETRY, SLOT_TIMING_DEBOUNCE, SLOT_STATUS_STATE, SLOT_STATUS_PG, SLOT_STATUS_PRSNT, SLOT_STATUS_REV_BLOCK, SLOT_STATUS_JOINED, SLOT_STATUS_FAULT_CAUSE, SLOT_STATUS_RETRIES_LEFT, SLOT_STATUS_HOLDOFF_LEFT, SLOT_SENSE_VOUT, SLOT_SENSE_IOUT, SLOT_HIST_SEEN, SLOT_HIST_FAULTS, SLOT_HIST_PEAK]
/-- Table 15.6, SUMP. -/
def tab_15_6_SUMP : List Field :=
  [SUMP_CFG_FLOAT, SUMP_CFG_HIGH, SUMP_CFG_LOW, SUMP_HOLDUP_CFG_CAP, SUMP_HOLDUP_CFG_ETA, SUMP_HOLDUP_CFG_CTLRS, SUMP_HOLDUP_CFG_P_CIST, SUMP_HOLDUP_CFG2_VMIN, SUMP_HOLDUP_CFG2_DIV, SUMP_SAVE_CFG_DIE_RATE, SUMP_STATUS_SINGLE, SUMP_STATUS_MONITOR, SUMP_STATUS_EVER_CHARGED, SUMP_STATUS_BP, SUMP_STATUS_MIRROR_STALE, SUMP_STATUS_SAVE_LOST, SUMP_STATUS_FLOAT_EFF, SUMP_STATUS_SHUT_DONE, SUMP_STATUS_SHUT_RESULT, SUMP_OCC_OCCUPIED, SUMP_RESV_RESERVED, SUMP_ENERGY_E_AVAIL, SUMP_ENERGY_E_REQ, SUMP_BANK_VBANK, SUMP_RATE_R_SAVE, SUMP_RATE_F_PLSA, SUMP_CTL_SHUTDOWN, SUMP_CTL_FORCE_TAKEOVER, SUMP_CTL_KEY, SUMP_LAST_SAVE_RESULT, SUMP_LAST_SAVE_DUR_DURATION]
/-- Table 16.10, CRY. -/
def tab_16_10_CRY : List Field :=
  [CRY_KEY_ACC_SLOT, CRY_KEY_ACC_OP, CRY_KEY_ACC_TYPE, CRY_KEY_ACC_GO, CRY_KEY_STATUS_BUSY, CRY_KEY_STATUS_RESULT, CRY_KEY_STATUS_STATE, CRY_KEY_STATUS_TYPE, CRY_KEY_ADDR_LO, CRY_KEY_ADDR_HI, CRY_KEY_FPRINT_LO, CRY_KEY_FPRINT_HI, CRY_LA_LOCK_OWNER, CRY_LA_LOCK_ACQUIRE, CRY_LA_LOCK_RELEASE, CRY_LA_LOCK_FORCE, CRY_LA_LOCK_KEY, CRY_LA_CFG_LOCK_TIMEOUT, CRY_LA_RING_LO, CRY_LA_RING_HI, CRY_LA_RING_SIZE, CRY_LA_PROD, CRY_LA_CONS, CRY_LA_CONS_IDLE, CRY_RET_ACC_NSID, CRY_RET_ACC_OP, CRY_RET_ACC_GO, CRY_RET_STATUS_BUSY, CRY_RET_STATUS_STATE, CRY_RET_STATUS_HOLD, CRY_RET_STATUS_RESULT, CRY_RET_UNTIL_LO, CRY_RET_UNTIL_HI, CRY_RET_EXPIRY_LO, CRY_RET_EXPIRY_HI, CRY_RET_LAST_WRITE_LO, CRY_RET_LAST_WRITE_HI, CRY_RET_CFG_ERASE_DELAY, CRY_AUDIT_HEAD_LO, CRY_AUDIT_HEAD_HI, CRY_AUDIT_ARCH_LO, CRY_AUDIT_ARCH_HI, CRY_AUDIT_STATUS_FULL, CRY_AUDIT_STATUS_KEY_OWNER, CRY_AUDIT_STATUS_CHAIN_BAD, CRY_AUDIT_STATUS_CAPACITY, CRY_AUDIT_VERIFY_GO, CRY_AUDIT_VERIFY_BUSY, CRY_AUDIT_BAD_LO, CRY_AUDIT_BAD_HI]
/-- Table 17.8, PL. -/
def tab_17_8_PL : List Field :=
  [PL_LINK_STATE, PL_LINK_WIDTH, PL_LINK_POL_INV, PL_LINK_REVERSED, PL_LINK_DEGRADED, PL_LINK_NEIGHBOUR, PL_LINK_NEIGHBOUR_VALID, PL_LINK_CFG_RETRAIN_LIMIT, PL_LINK_CFG_REPLAY_LIMIT, PL_LINK_CFG_LANE_REPAIR]
/-- Table 17.9, POD. -/
def tab_17_9_POD : List Field :=
  [POD_STATUS_MEMBER, POD_STATUS_MEMBER_VALID, POD_STATUS_OWN_NONE, POD_STATUS_SERVE_SET, POD_STATUS_REACHABLE, POD_CFG_DEAD_TIME, POD_CFG_FENCE_DELAY, POD_CFG_HEARTBEAT, POD_LIVE_EPOCH_LO, POD_LIVE_EPOCH_HI, POD_CTL_FORCE_OWN, POD_CTL_KEY, POD_LAUNCH_CTL_ACTION, POD_LAUNCH_CTL_PROPOSE, POD_LAUNCH_CTL_CANCEL, POD_LAUNCH_TIME_LO, POD_LAUNCH_TIME_HI, POD_LAUNCH_STATUS_STATE, POD_LAUNCH_STATUS_CAUSE, POD_LAUNCH_STATUS_REFUSER, POD_LAUNCH_STATUS_REFUSER_VALID, POD_MEMBER_STATE, POD_MEMBER_HOPS, POD_MEMBER_LINK]
/-- Table 18.8, PCIE. -/
def tab_18_8_PCIE : List Field :=
  [PCIE_WIN_TARGET_LO, PCIE_WIN_TARGET_HI, PCIE_WIN_LEN, PCIE_WIN_CTL_EN, PCIE_WIN_CTL_SPACE, PCIE_WIN_CTL_WRITE, PCIE_WIN_STATUS_RANGE_ERR, PCIE_WIN_STATUS_WRITE_REFUSED, PCIE_FN_STATUS_BME, PCIE_FN_STATUS_MASTER, PCIE_FN_STATUS_OUTSTANDING, PCIE_FN_CFG_TENANT, PCIE_LATE_LOG_TAG, PCIE_LATE_LOG_FUNCTION, PCIE_LATE_LOG_VALID, PCIE_LTR_ACTIVE, PCIE_LTR_IDLE, PCIE_LTR_DEV_TOL, PCIE_LINK_SPEED, PCIE_LINK_WIDTH, PCIE_LINK_FLIT]
/-- Table 19.3, SEQ. -/
def tab_19_3_SEQ : List Field :=
  [SEQ_STATE, SEQ_STATE_CLASS, SEQ_MBOX_DB, SEQ_MBOX_OWN, SEQ_MBOX_DONE, SEQ_ATOM_ADDR, SEQ_ATOM_CTL_OP, SEQ_ATOM_CTL_GO, SEQ_ATOM_OPERAND_LO, SEQ_ATOM_OPERAND_HI, SEQ_ATOM_OLD_LO, SEQ_ATOM_OLD_HI, SEQ_ATOM_STATUS_BUSY, SEQ_ATOM_STATUS_RESULT]
/-- Table 19.5, PMU. -/
def tab_19_5_PMU : List Field :=
  [PMU_CTL_USER_EN, PMU_CTL_FREEZE, PMU_BW_CFG_WINDOW, PMU_BW_STATUS_VALID, PMU_BW_SEQ, PMU_SNAP_CTL_GO, PMU_SNAP_CTL_BLOCKS, PMU_SNAP_STATUS_BUSY, PMU_SNAP_STATUS_VALID, PMU_SNAP_STATUS_MISSED, PMU_SNAP_TIME_LO, PMU_SNAP_TIME_HI, PMU_SNAP_ADDR_LO, PMU_SNAP_ADDR_HI, PMU_SNAP_COUNT, PMU_T_CYCLE_LO, PMU_T_CYCLE_HI, PMU_T_EVSEL_EVENT, PMU_T_EVSEL_MODE, PMU_T_EVSEL_EN, PMU_T_CTL_CLEAR, PMU_BW_IN, PMU_BW_OUT, PMU_BW_PEAK_IN, PMU_BW_PEAK_OUT]
/-- Table 20.5, MEM. -/
def tab_20_5_MEM : List Field :=
  [MEM_STATUS_TRAINED, MEM_STATUS_DISABLED, MEM_STATUS_DEVICE_LOST, MEM_STATUS_CAPACITY]
/-- Table 20.6, PWR. -/
def tab_20_6_PWR : List Field :=
  [PWR_CTL_MAX_STATE, PWR_IDLE_TILE_IDLE, PWR_IDLE_CISTERN_IDLE, PWR_IDLE_SHELF_IDLE, PWR_CFG_MFD_BANKS_MIN, PWR_STATUS_STATE, PWR_STATUS_TARGET, PWR_STATUS_EXITING, PWR_STATUS_T_MIN, PWR_WAKE_CAUSE, PWR_DOMAIN_POWERED, PWR_DFAIL_FAILED, PWR_THERM_WCTEMP, PWR_THERM_CCTEMP, PWR_THERM_THROTTLE_PCT, PWR_THERM_STATUS_WARN, PWR_THERM_STATUS_THROTTLE, PWR_THERM_STATUS_TRIPPED, PWR_THERM_STATUS_PACKAGE, PWR_THERM_STATUS_COMPOSITE, PWR_SENSOR_TEMP, PWR_INPUT_VIN, PWR_INPUT_IIN, PWR_I3C_FAULT, PWR_I3C_KIND, PWR_I3C_SENSORS, PWR_CLK_LOCK]
/-- Table 21.7, GLB. -/
def tab_21_7_GLB : List Field :=
  [GLB_EVT_CTL_CORR_INTERVAL, GLB_EVT_ROUTE_INFO, GLB_EVT_ROUTE_CORRECTED, GLB_EVT_ROUTE_UNCORRECTED, GLB_EVT_ROUTE_FATAL, GLB_FATAL_VALID, GLB_FATAL_CAUSE, GLB_FATAL_BLOCK, GLB_FATAL_TIME_LO, GLB_FATAL_TIME_HI, GLB_WDOG_PERIOD, GLB_WDOG_WARNED, GLB_WDOG_KICK, GLB_WDOG_KICK_KEY, GLB_FATAL_CFG_HOLD, GLB_HIST_ACC_INDEX, GLB_HIST_ACC_READ, GLB_HIST_STATUS_BUSY, GLB_HIST_STATUS_VALID, GLB_HIST_COUNT, GLB_HIST_DATA]
/-- Table 21.8, GLB. -/
def tab_21_8_GLB : List Field :=
  [GLB_EVT_BASE_LO, GLB_EVT_BASE_HI, GLB_EVT_SIZE_SIZE_LOG2, GLB_EVT_SIZE_EN, GLB_EVT_PROD, GLB_EVT_PROD_PHASE, GLB_EVT_CONS, GLB_EVT_CONS_ARM, GLB_EVT_COAL_COALESCE, GLB_EVT_LOST]
/-- Table 22.5, GLB. -/
def tab_22_5_GLB : List Field :=
  [GLB_DEVICE, GLB_DEVICE_STEPPING, GLB_SERIAL_LO, GLB_SERIAL_HI, GLB_VIEW_ACTIVE]
/-- Table 22.5, IMG. -/
def tab_22_5_IMG : List Field :=
  [IMG_FUSE_CTL_INDEX, IMG_FUSE_CTL_PQ, IMG_FUSE_CTL_PROGRAM, IMG_FUSE_CTL_REVOKE, IMG_FUSE_CTL_KEY, IMG_FUSE_STATUS_BUSY, IMG_FUSE_STATUS_RESULT, IMG_FUSE_STATUS_PROGRAMMED, IMG_FUSE_STATUS_REVOKED, IMG_FUSE_STATUS_PQ_SET, IMG_FUSE_HASH]
/-- Table 22.5, ETH. -/
def tab_22_5_ETH : List Field :=
  [ETH_LINK_UP, ETH_LINK_MODE]
/-- Table 22.6, FTL. -/
def tab_22_6_FTL : List Field :=
  [FTL_NS_ACC_NSID, FTL_NS_ACC_OP, FTL_NS_ACC_GO, FTL_NS_STATUS_BUSY, FTL_NS_STATUS_RESULT, FTL_NS_STATUS_ASSIGNED, FTL_NS_NSZE_LO, FTL_NS_NSZE_HI, FTL_NS_CFG_LBAF, FTL_NS_CFG_PI_TYPE, FTL_NS_CFG_IU, FTL_NS_CFG_LAYOUT, FTL_NS_CFG_RETAIN, FTL_NS_CFG_HOME, FTL_NS_CFG_HOME_EN, FTL_NS_CFG_TENANT, FTL_NS_RETAIN_RETAIN_DAYS, FTL_NS_KEY_KEY_SLOT, FTL_NS_KEY_SLOT_EN]

/-- Every field of every table but the common registers, in BAR0 block order. -/
def tables : List (List Field) :=
  [tab_2_8_GLB,
   tab_3_6_GLB,
   tab_21_7_GLB,
   tab_21_8_GLB,
   tab_22_5_GLB,
   tab_20_6_PWR,
   tab_2_6_IMG,
   tab_22_5_IMG,
   tab_12_6_TIME,
   tab_12_7_TIME,
   tab_18_8_PCIE,
   tab_22_5_ETH,
   tab_4_8_WELL,
   tab_5_8_WELL,
   tab_7_5_QOS,
   tab_7_6_QOS,
   tab_7_7_QOS,
   tab_8_8_MFD,
   tab_9_10_FTL,
   tab_10_6_FTL,
   tab_22_6_FTL,
   tab_11_10_PAR,
   tab_13_12_SKL,
   tab_14_6_SLOT,
   tab_14_7_SLOT,
   tab_16_10_CRY,
   tab_6_10_SUMP,
   tab_15_6_SUMP,
   tab_20_5_MEM,
   tab_17_8_PL,
   tab_17_9_POD,
   tab_19_3_SEQ,
   tab_19_5_PMU]

/-- The 64-bit values (R12): low word and high word. -/
def pairs : List (Field × Field) :=
  [(IMG_STAGE_ADDR_LO, IMG_STAGE_ADDR_HI),
   (GLB_COMMIT_TIME_LO, GLB_COMMIT_TIME_HI),
   (GLB_PRIME_ADMITTED_LO, GLB_PRIME_ADMITTED_HI),
   (WELL_PRD_START_LO, WELL_PRD_START_HI),
   (FTL_MAP_BYTES_LO, FTL_MAP_BYTES_HI),
   (FTL_CKPT_SEQ_LO, FTL_CKPT_SEQ_HI),
   (TIME_NOW_LO, TIME_NOW_HI),
   (TIME_MONO_LO, TIME_MONO_HI),
   (TIME_SECURE_LO, TIME_SECURE_HI),
   (TIME_TOD_LO, TIME_TOD_HI),
   (TIME_WIN_DRAW_LO, TIME_WIN_DRAW_HI),
   (TIME_LAUNCH_TIME_LO, TIME_LAUNCH_TIME_HI),
   (TIME_LAUNCH_FIRED_LO, TIME_LAUNCH_FIRED_HI),
   (SKL_ID_SERIAL_LO, SKL_ID_SERIAL_HI),
   (SKL_EPOCH_LO, SKL_EPOCH_HI),
   (SLOT_PG_LO, SLOT_PG_HI),
   (SLOT_FAULTED_LO, SLOT_FAULTED_HI),
   (CRY_KEY_ADDR_LO, CRY_KEY_ADDR_HI),
   (CRY_KEY_FPRINT_LO, CRY_KEY_FPRINT_HI),
   (CRY_LA_RING_LO, CRY_LA_RING_HI),
   (CRY_RET_UNTIL_LO, CRY_RET_UNTIL_HI),
   (CRY_RET_EXPIRY_LO, CRY_RET_EXPIRY_HI),
   (CRY_RET_LAST_WRITE_LO, CRY_RET_LAST_WRITE_HI),
   (CRY_AUDIT_HEAD_LO, CRY_AUDIT_HEAD_HI),
   (CRY_AUDIT_ARCH_LO, CRY_AUDIT_ARCH_HI),
   (CRY_AUDIT_BAD_LO, CRY_AUDIT_BAD_HI),
   (POD_LIVE_EPOCH_LO, POD_LIVE_EPOCH_HI),
   (POD_LAUNCH_TIME_LO, POD_LAUNCH_TIME_HI),
   (PCIE_WIN_TARGET_LO, PCIE_WIN_TARGET_HI),
   (SEQ_ATOM_OPERAND_LO, SEQ_ATOM_OPERAND_HI),
   (SEQ_ATOM_OLD_LO, SEQ_ATOM_OLD_HI),
   (PMU_SNAP_TIME_LO, PMU_SNAP_TIME_HI),
   (PMU_SNAP_ADDR_LO, PMU_SNAP_ADDR_HI),
   (PMU_T_CYCLE_LO, PMU_T_CYCLE_HI),
   (GLB_FATAL_TIME_LO, GLB_FATAL_TIME_HI),
   (GLB_EVT_BASE_LO, GLB_EVT_BASE_HI),
   (GLB_SERIAL_LO, GLB_SERIAL_HI),
   (FTL_NS_NSZE_LO, FTL_NS_NSZE_HI)]

end Sys2Proof.Machine.Reg
end

