-- ==== Sys2Proof/Machine/State.lean ====
section
/-! DEFINITION. The state of the block: plain data, one structure for each block of the spec, the queue of waiting
commands, what has been sent, and the state after reset.  Types and `State.reset` only; every operation stands in
another file of this folder.  INVENTORY.md lists each piece with its rule. -/

namespace Sys2Proof.Machine

/-- Why a run stops with a fault.  No command of this block ends in one: the block reports errors in registers,
events, status codes and refusals of its own, all of which are next states.  The constructor is kept for the host's
interface. -/
inductive Fault where
  /-- Raised by nothing: the spec gives the block no stop. Safe. -/
  | none
  deriving DecidableEq, Repr

/-- Why a command has no meaning. -/
inductive Refusal where
  /-- Raised by an arm of `exec` whose command is not modelled. Safe. -/
  | notModelled (mnemonic : String)
  deriving DecidableEq, Repr

/-! ### Registers (R11-R15, R71-R73, R128) -/

/-- The register file.  `active` lists the fields that do not hold their reset value of the tables, by bit address
(`Field.key`); `shadow` the written shadows of shadowed live fields that no commit has taken (R73, R74); `counts` the
counters by BAR0 offset, with WRAP (R128); `readLatch` the latched high words by offset and `writeLatch` the low words
that wait for their high word (R12). -/
structure Regs where
  active : Tab W32 := []
  shadow : Tab W32 := []
  counts : Tab (BitVec 48 × Bool) := []
  readLatch : Tab W32 := []
  writeLatch : Tab W32 := []
  deriving DecidableEq, Repr

/-! ### Priming, the image and commits (chapters 2, 3) -/

/-- A reset that waits for the save before it (R97). -/
inductive ResetKind where
  | powerOn | resetN | watchdog | softFull | warm
  deriving DecidableEq, Repr

/-- Priming beside its registers (R77-R98): whether the input is in range, RESET_N low, image recovery mode (R68),
stopped at the end of ROM with JTAG (R82), stopped by PWRFAIL_N (R96), in a warm reset until STRUCT ends (R98), a full
start, the kept sump of a warm reset (R98), the endpoint answering requests (R77, R78), when the state was entered (R80), the reset
that waits for a save (R97), when RESET_N fell (monotonic), a thermal trip's reset (R578), the blocks that drain before they stop, by code (R72), and the versions that recovery has to place again
(R91). -/
structure Prim where
  powered : Bool := true
  resetNLow : Bool := false
  recovery : Bool := false
  jtagStop : Bool := false
  pwrStop : Bool := false
  warm : Bool := false
  keptSump : Bool := false
  answering : Bool := false
  enteredAt : Nat := 0
  waiting : Option ResetKind := none
  resetNAt : Nat := 0
  tripHeld : Bool := false
  stopping : List Nat := []
  toPlace : Nat := 0
  deriving DecidableEq, Repr

/-- The static parameters of Table 2.5 as the booted image sets them, and the POD section (R64). -/
structure Params where
  ethMode : List Nat := [1, 1, 1, 1]
  laneMap : List Nat := []
  sklEnable : Nat := 0
  peerMode : Nat := 0
  dram : List Nat := []
  sumpBanks : Nat := 16
  mfdPart : List Nat := []
  levels : Nat := 1
  nodes : List Nat := [1, 0, 0, 0]
  pumpMask : Nat := 0xFFFF
  layouts : List Nat := []
  spare : Nat := 2
  overprovision : Nat := 100
  memberFloat : Nat := 64
  mramSize : List Nat := [512, 256, 192, 32, 32]
  mramHostWrite : List Bool := [false, false, false, false, true]
  rcQpMax : Nat := 65536
  prdEnable : Bool := false
  prdPort : Nat := 0
  pagesPerBlock : Nat := 0
  blocksPerDie : Nat := 0
  diesMax : Nat := 0
  peLimit : Nat := 0
  thr : List Byte := []
  podSection : Bool := false
  podId : Nat := 0
  ptpDomain : Nat := 0
  members : List (Nat × Nat × Nat × Nat × Nat) := []
  deriving DecidableEq, Repr

/-- One POLICY record (R61): its index in the image, offset, mask and value. -/
structure PolicyRec where
  index : Nat
  off : Nat
  mask : W32
  value : W32
  deriving DecidableEq, Repr

/-- The image as booted: header facts, parameters, POLICY and KEYS records (R54, R57, R61, R63). -/
structure Booted where
  params : Params := {}
  policy : List PolicyRec := []
  keys : List (List Byte) := []
  svn : Nat := 0
  epoch : Nat := 0
  provision : Bool := false
  digest : BitVec 384 := 0
  patchVersion : Nat := 0
  patchDigest : BitVec 384 := 0
  steppings : List Nat := []
  ucodeMin : Nat := 0
  ucodeMax : Nat := 0
  deriving DecidableEq, Repr

/-- A fuse operation under way (R563): the owner slot, revoke or program, the PQ fuse, the hash, and its result. -/
structure FusePlan where
  index : Nat
  revoke : Bool
  pq : Bool
  hash : BitVec 384
  result : Nat
  deriving DecidableEq, Repr

/-- The boot flash, the fuse block, the booted image, the slots whose POLICY was refused since the last other full
reset (slot, with the failing record's index, R67), the staged copy (R69) and the fuse operation under way (R563). -/
structure Img where
  nor : Nor := {}
  fuses : Fuses := {}
  booted : Option Booted := none
  policyFailed : Tab Nat := []
  staged : Option (List Byte) := none
  fusePlan : Option FusePlan := none
  deriving DecidableEq, Repr

/-- Where a commit point comes from (R74, R466): `GLB_COMMIT`, a launch register, a pod launch. -/
inductive CommitSource where
  | write | launch | pod
  deriving DecidableEq, Repr

/-- The commit machinery beside its registers (R74-R76): of the commit under way the block that refused it (its code) and its source, and
the commit point that is held. -/
structure Commit where
  refused : Option Nat := none
  source : CommitSource := .write
  held : Option CommitSource := none
  deriving DecidableEq, Repr

/-! ### Events (chapter 21) -/

/-- An event record (Table 21.2). -/
structure EvtRecord where
  seq : Nat
  severity : Nat
  phase : Bool := false
  lostBefore : Bool := false
  history : Bool := false
  suppressed : Bool := false
  block : Nat
  offset : Nat
  arg0 : Nat
  arg1 : Nat
  shelf : Nat
  deriving DecidableEq, Repr

/-- Events beside their registers: the number of the next event (kept in MRAM, R545), the rings that lost a record
since the last one written (R547), the records that wait (with their ring) while PF0 may not master or STRUCT has not
ended (R554), the folding of CORRECTED events by OFFSET (monotonic time of the last one, occurrences since, R549), the
history, newest first (R550), the rings whose message waits for COALESCE with the (monotonic) time it is due (R548), when the
steps of a fatal cause began (R551), and when the watchdog's count began (R552). -/
structure Evt where
  seq : Nat := 0
  lostBefore : List Nat := []
  queue : List (Nat × EvtRecord) := []
  folded : Tab (Nat × Nat) := []
  history : List EvtRecord := []
  coalescing : Tab Nat := []
  fatalAt : Option Nat := none
  kickAt : Nat := 0
  deriving DecidableEq, Repr

/-! ### PCIe endpoint (chapter 18) -/

/-- One MSI-X vector (R487): masked at reset, its pending bit, address and data. -/
structure MsixVec where
  masked : Bool := true
  pending : Bool := false
  addr : Nat := 0
  data : Nat := 0
  deriving DecidableEq, Repr

/-- One function beside its registers (R483, R487, R492, R497, R501): what its configuration space enables, its
vectors, and for PF1 and a VF the NVMe controller's enable, ready and fatal status, shutdown status and the tenant it
was enabled with (R494), the Interrupt Coalescing feature with what it holds back (R176), and for a VF whether Virtualization Management
has put it offline (R495). -/
structure PcieFn where
  bme : Bool := false
  memEnable : Bool := false
  msixEnable : Bool := false
  msixMask : Bool := false
  vecs : Tab MsixVec := []
  mps : Nat := 0
  mrrs : Nat := 2
  extTag : Bool := true
  tag10 : Bool := false
  relaxed : Bool := true
  noSnoop : Bool := true
  cplTimeout : Nat := 0
  ltrEnable : Bool := false
  d3hot : Bool := false
  scratch : Tab W32 := []
  ccEn : Bool := false
  rdy : Bool := false
  cfs : Bool := false
  shst : Nat := 0
  tenant : Nat := 0
  coalThr : Nat := 0
  coalTime : Nat := 0
  coalHeld : Tab Nat := []
  offline : Bool := false
  deriving DecidableEq, Repr

/-- What an upstream read is for (R496): entries of a submission queue, a command's data from an offset on, or a list that its data
pointer names (PRP list, or SGL segment). -/
inductive PcieUse where
  | queue (sq : Nat)
  | data (cmd off : Nat)
  | list (cmd : Nat)
  deriving DecidableEq, Repr

/-- An upstream read that waits for a tag or for cells (R496, R498): function, use, address and bytes. -/
structure PcieRead where
  fn : Nat
  use : PcieUse
  addr : Nat
  len : Nat
  deriving DecidableEq, Repr

/-- An outstanding read of the master engine (R498, R502): the read, the bytes still owed, the timeout it was issued under (ns), when
(monotonic), and the data received so far. -/
structure PcieTag where
  rd : PcieRead
  left : Nat
  timeout : Nat
  at_ : Nat
  data : List Byte := []
  deriving DecidableEq, Repr

/-- The SPDM responder's negotiation (R508): how far it has come (1 version, 2 capabilities, 3 algorithms), and what has been
exchanged since, for the signatures. -/
structure Spdm where
  phase : Nat := 0
  transcript : List Nat := []
  deriving DecidableEq, Repr

/-- The endpoint beside its registers (chapter 18): functions by number, outstanding and quarantined tags (with the
function and the end of the quarantine), reads that wait for a tag, whether the link is up and PERST_N low, VF Enable and NumVFs (R493), the last
LTR value sent with the monotonic time (R506), and the responder. -/
structure Pcie where
  fns : Tab PcieFn := []
  tags : Tab PcieTag := []
  quarantined : Tab (Nat × Nat) := []
  waiting : List PcieRead := []
  linkUp : Bool := false
  perstLow : Bool := false
  vfEnable : Bool := false
  numVfs : Nat := 0
  lastLtr : Option (Nat × Nat) := none
  spdm : Spdm := {}
  deriving DecidableEq, Repr

/-! ### Time (chapter 12) -/

/-- A unit's window state (R339); a unit not listed is QUIET. -/
inductive UnitState where
  | draw | overrun
  deriving DecidableEq, Repr

/-- TIME beside its registers: shelf time (64 bits of ns, R9), the monotonic counter, secure time (R325-R327), the media shelf time and the secure
time last recorded in MRAM (R290, R327), the media time recorded when the last reset struck with the monotonic time of it (R290), the monotonic time of the
last valid measurement and whether the offset is unbounded (R332), the last offset's size, since when (monotonic) the
time offset has stayed at or below 2 µs (R333), the armed step override (monotonic, R328), the source's offset in ns,
the window units in DRAW or OVERRUN by number 8 × cistern + set (R338, R339) with the shelf time they entered, the
shelf time the current slot began, when (monotonic) each source last gave a valid measurement (R331), the TIME_TOD that 1PPS edges count
from with the edges since, the grandmaster's attributes (R330), the shelf time from which COORD may return (R333), schedule mismatch and unplaceable layouts (R342, R345), the intents for the next
slot of this controller and its partner (R345; `none`: not arrived), the operations under way in each unit, and the units of the current slot that wait for an OVERRUN to end (R344). -/
structure Tm where
  shelf64 : W64 := 0
  mono : Nat := 0
  secure : Nat := 0
  recorded : Nat := 0
  mediaBase : Nat := 0
  baseAt : Nat := 0
  floor : Nat := 0
  lastGood : Option Nat := none
  unbounded : Bool := true
  lastOffset : Nat := 0
  goodSince : Option Nat := none
  overrideAt : Option Nat := none
  units : Tab (UnitState × Nat) := []
  slotStart : Nat := 0
  measured : Tab Nat := []
  pps : Option (Nat × Nat) := none
  gm : PtpGm := {}
  coordFrom : Option Nat := none
  mismatch : Bool := false
  unplaceable : Bool := false
  intentMine : Option (List Nat) := none
  intentPeer : Option (List Nat) := none
  busyUnits : Tab Nat := []
  pendingDraw : List Nat := []
  deriving DecidableEq, Repr

/-- Shelf time as a number of ns, below 2^64 (R9). -/
def Tm.shelf (t : Tm) : Nat := t.shelf64.toNat

/-! ### Ciphers, vault, audit (chapter 16) -/

/-- A vault slot (R431, R432, R436): EMPTY 0, PENDING 1, LOADED 2; type, key, fingerprint, DESTROYED mark. -/
structure VaultSlot where
  state : Nat := 0
  type : Nat := 0
  key : List Byte := []
  fprint : Nat := 0
  destroyed : Bool := false
  deriving DecidableEq, Repr

/-- Why a key was destroyed (Table 16.8, DETAIL). -/
inductive KeyCause where
  | vault | nsDelete | format | expiry | peer
  deriving DecidableEq, Repr

/-- DETAIL of an audit record (Table 16.8): an admin command's dwords and status; a register write's offset, value and
result; a key's fingerprint and the cause; retention states old and new with EXPIRY and HOLD_UNTIL; shelf time before
and after a step. -/
inductive AuditDetail where
  | empty
  | admin (dwords : List Nat) (status : Nat)
  | register (off value : Nat) (refused : Bool)
  | keyDestroy (fprint : Nat) (cause : KeyCause)
  | retention (old new expiry holdUntil : Nat)
  | timeStep (before after : Nat)
  deriving DecidableEq, Repr

/-- What the audit key's MAC covers: bytes 0x00 to 0x6F of a record (R450). -/
structure AuditBody where
  seq : Nat
  secure : Nat
  shelf : Nat
  type : Nat
  actorKind : Nat
  refused : Bool
  actor : Nat
  nsid : Nat
  slot : Nat
  detail : AuditDetail
  prevMac : BitVec 128
  deriving DecidableEq, Repr

/-- An audit record (Table 16.8). -/
structure AuditRec where
  body : AuditBody
  mac : BitVec 128
  deriving DecidableEq, Repr

/-- A vault operation under way (Table 16.3). -/
structure KeyOp where
  op : Nat
  slot : Nat
  type : Nat := 0
  addr : Nat := 0
  deriving DecidableEq, Repr

/-- CRY beside its registers: the vault, the destroyed-fingerprint list, oldest first (R436), the audit ring, newest
first (R450), the vault key pair (R434), the vault operation under way, the HEAD that a verification runs to (R452), the key caches of the XTS and
GCM cores (R439), a RELEASE that waits for an idle ring and the monotonic time of the last PROD write or busy ring
(R441), and the IV counters of PRD and the look-aside engine with the next unreserved range of each (R150, R443). -/
structure Cry where
  vault : Tab VaultSlot := []
  destroyed : List Nat := []
  audit : List AuditRec := []
  keyOp : Option KeyOp := none
  verifyTo : Nat := 0
  xtsCache : Tab (List Nat) := []
  gcmCache : Tab (List Nat) := []
  laReleasing : Bool := false
  laIdleSince : Nat := 0
  ivPrd : Nat := 0
  ivPrdNext : Nat := 0
  ivLa : Nat := 0
  ivLaNext : Nat := 0
  vaultPriv : Nat := 0
  vaultPub : List Byte := []
  deriving DecidableEq, Repr

/-! ### Memories (R45, R84, R515) -/

/-- Memory by byte address (`Host.Cell`s with strictly rising addresses); an unlisted byte reads 0 (R84). -/
abbrev Memory := List Host.Cell

/-- The byte-addressed memories: DRAM and its trained size, MRAM, and the buffer SRAM that BAR2 maps. -/
structure Mem where
  dram : Memory := []
  dramBytes : Nat := 0
  mram : Memory := []
  bar2 : Memory := []
  deriving DecidableEq, Repr

/-! ### Namespaces (chapter 6, R446) -/

/-- A registrant of a reservation (R174). -/
structure Registrant where
  hostId : Nat
  key : Nat
  deriving DecidableEq, Repr

/-- A namespace: Tables 6.1, 6.2 and 22.6; retention (R446, R447); format and delete under way (R164, R169); its
reservation (R174); functions attached (R165); IUs claimed by writes in flight (R445). -/
structure Ns where
  nsze : Nat
  lbaf : Nat := 0
  piType : Nat := 0
  iu16 : Bool := true
  layout : Nat := 0
  retain : Bool := false
  retainDays : Nat := 0
  tenant : Nat := 0
  owner : Nat := 0
  home : Option Nat := none
  keySlot : Nat := 0
  created : Nat := 0
  retState : Nat := 0
  hold : Bool := false
  holdUntil : Nat := 0
  lastWrite : Nat := 0
  expiringSecs : Nat := 0
  deleting : Bool := false
  deleteBy : Option Nat := none
  awaits : List Nat := []
  format : Option (Nat × Nat × Nat) := none
  formatting : Bool := false
  registrants : List Registrant := []
  resType : Nat := 0
  resHolder : Nat := 0
  resGen : Nat := 0
  ptpl : Bool := false
  attached : List Nat := []
  claims : List Nat := []
  deriving DecidableEq, Repr

/-! ### PRD (chapter 5) -/

/-- An entry of the recent-transaction table (Table 5.6): key, CRC of the SQE, completion dword 0 and status, STATE (1
IN_PROGRESS, 2 DONE), PRD status, EXPIRY (monotonic, in µs), and LINK. -/
structure Recent where
  host : Nat
  gen : Nat
  tid : Nat
  crc : Nat
  dw0 : Nat := 0
  status : Nat := 0
  st : Nat := 1
  prd : Nat := 0
  expiry : Nat := 0
  link : Option Nat := none
  deriving DecidableEq, Repr

/-- PRD beside its registers: the host table, by HOST_IDX, eight words each (Table 5.3), the host access under way, the
recent-transaction table (R138): its ring by position, the newest position of each bucket, how many entries have been inserted and how many
positions reclaimed; whether its start time is set (R141), the old T_LIFE that STALE
judgements still use with the time it ends (R143), the end of the hold after a step (R136), the peer's entries mirrored
here (R144). -/
structure Prd where
  hosts : Tab (List Nat) := []
  access : Option (Nat × Option (List Nat)) := none
  ring : Tab Recent := []
  buckets : Tab Nat := []
  inserted : Nat := 0
  reclaimed : Nat := 0
  started : Bool := false
  oldLife : Option (Nat × Nat) := none
  stepHold : Option Nat := none
  mirrored : List Recent := []
  deriving DecidableEq, Repr


/-! ### Host commands and their controllers (chapters 4 to 7, 18) -/

/-- How a command came: an RC queue pair, a PRD transaction, a submission queue of a PCIe function, the pod member
that forwards it, with that member's number for it, or a mailbox, with its shelf-wide view (R515, R517). -/
inductive Path where
  | rc (qp : Nat)
  | prd (host gen tid : Nat)
  | pcie (fn sq : Nat)
  | forwarded (member ref : Nat)
  | mailbox (m : Nat) (all : Bool)
  deriving DecidableEq, Repr

/-- A walk of the lists that a command's data pointer names over PCIe (Table 18.4): PRP list or SGL segment, where its next bytes lie, how many
there are, the bytes of data not placed yet, and whether it is a last segment. -/
structure PtrWalk where
  prp : Bool
  addr : Nat
  n : Nat
  left : Nat
  last : Bool := false
  deriving DecidableEq, Repr

/-- Where a command stands: its data pointer's lists being fetched (Table 18.4), held by QOS (R189), admitted, waiting for sump slots (R410), its data being fetched or
fetched, its media reads under way, waiting for a map segment (R248), in the sump and waiting for the peer (R413), its
namespace's format or delete under way (R164, R169), forwarded to the owner (R470), a held Asynchronous Event Request
(R177), a held Connect (R180), or held for a balancing move (R173). -/
inductive Stage where
  | pointer | held | admitted | waitSlots | fetching | fetched | reading | waitMap | waitMirror | draining | remote | aer
  | connect | moving
  deriving DecidableEq, Repr

/-- One sector (R22): its data, its protection information, its CRC-32C, and whether it is readable; `good = false` is a poisoned
sector (R257). -/
structure Sector where
  data : List Byte := []
  pi : List Byte := []
  crc : Nat := 0
  good : Bool := true
  deriving DecidableEq, Repr

/-- A sector of a read as its checks leave it (R31, R288, R306): the stored bytes, whether it passed, and whether its stored CRC is the
inverted one (R257), the SECTOR_CRC itself, the IU descriptor, and whether the CRC-32C failed (R288). -/
structure Part where
  stored : List Byte := []
  crc : Nat := 0
  good : Bool := false
  poison : Bool := false
  desc : W64 := 0
  wrong : Bool := false
  deriving DecidableEq, Repr

/-- A range that has been pulled and is not complete (R146): offset, length, when its last PULL was sent (monotonic), PULLs repeated. -/
structure Pull where
  off : Nat
  len : Nat
  at_ : Nat
  again : Nat := 0
  deriving DecidableEq, Repr

/-- What a command keeps of its PRD transaction: ENC, ISSUE_TIME, MSG_LEN, ECE (R131, R153); the port, sub-port, addresses and IP version of its
CMD, its host's entry as it was accepted (R134, R147, R149); ranges pulled, those still to be pulled (R218); read data that fills no packet yet, and the packets of RDATA sent, by number (R147). -/
structure PrdSide where
  enc : Bool := false
  issue : Nat := 0
  msgLen : Nat := 0
  ece : Bool := false
  port : Nat := 0
  sub : Nat := 0
  src : Nat := 0
  dst : Nat := 0
  v6 : Bool := false
  entry : List Nat := []
  asked : List Pull := []
  queued : List (Nat × Nat) := []
  out : Tab (List Byte) := []
  blocks : List Nat := []
  deriving DecidableEq, Repr

/-- A command in the controller: its path, entry, tenant and host, stage, arrival (monotonic), pump tile, pre-colour's
DSCP, bytes moved on the wire and bytes per packet (0 where no packet overhead counts, R196), sump slots reserved and not filled, data fetched by
offset and its bytes so far, sectors read by LBA offset,
whether its queue is lost, so that no completion is sent (R123, R503), its PRD transaction with its key in the recent-transaction
table, for a forwarded command its host's identity (R470), whether its namespace's reservation refused it at admission (R175), the
mirrored frames not acknowledged yet, with the ranges of its LBAs whose peer copy was lost and the ordinals of
their versions (R223, R413), whether data of it has been sent by RDMA Write (R224), and over PCIe the segments of its data buffer with the walk that
finds them. -/
structure Cmd where
  path : Path
  sqe : Sqe
  admin : Bool := false
  tenant : Nat := 0
  ctlr : Nat := 0
  stage : Stage := .held
  arrived : Nat := 0
  pump : Nat := 0
  dscp : Option Nat := none
  slots : Nat := 0
  buf : Tab (List Byte) := []
  fetched : Nat := 0
  got : Tab Sector := []
  dead : Bool := false
  key : Option (Nat × Nat × Nat) := none
  prd : PrdSide := {}
  d : Nat := 0
  u : Nat := 0
  hostId : Nat := 0
  barred : Bool := false
  mirrors : Nat := 0
  mirrorPort : Option Nat := none
  lost : List (Nat × Nat × List Nat) := []
  wrote : Bool := false
  segs : List (Nat × Nat) := []
  walk : Option PtrWalk := none
  deriving DecidableEq, Repr

/-- A host's NVMe controller (an association over fabrics, or a PCIe function): tenant and host identity, features by
FID, held Asynchronous Event Requests, events raised and not yet read (type, information), keep-alive (ns, 0 off) with
the monotonic time it was last restarted, streams enabled per namespace, changed namespaces, reservation notifications
and Error Information entries (R167, R174 to R177). -/
structure Ctlr where
  tenant : Nat := 0
  hostId : Nat := 0
  hostIdSet : Bool := false
  nqn : Nat := 0
  cntlid : Nat := 0
  features : Tab Nat := []
  resvMask : Tab Nat := []
  aers : List Nat := []
  masked : List (Nat × Nat) := []
  waiting : List (Nat × Nat) := []
  kato : Nat := 0
  kaAt : Nat := 0
  streams : Tab Nat := []
  changed : List Nat := []
  resvLog : List (Nat × Nat) := []
  errors : List (Nat × Nat) := []
  failed : Bool := false
  connected : Bool := false
  cc : Nat := 0
  deriving DecidableEq, Repr

/-- A submission queue of a PCIe function: base, size, completion queue, head, tail (R492). -/
structure Sq where
  base : Nat := 0
  size : Nat := 0
  cq : Nat := 0
  head : Nat := 0
  tail : Nat := 0
  deriving DecidableEq, Repr

/-- A completion queue of a PCIe function: base, size, vector, interrupts enabled, tail, phase, host head. -/
structure Cq where
  base : Nat := 0
  size : Nat := 0
  vector : Nat := 0
  ien : Bool := true
  head : Nat := 0
  tail : Nat := 0
  phase : Bool := true
  deriving DecidableEq, Repr

/-- The commands, by number, with the next number; when a pump tile last had work, and when an I/O command last was admitted or in
flight (R535, monotonic); the controllers by number (associations from 64 on, PCIe functions
by function); PCIe queues by 2^16 x function + queue; the changes of the ANA log (R172); the tenant of each host NQN that has connected, with the host's
identity index (R29, Table 4.3). -/
structure HostSide where
  cmds : Tab Cmd := []
  next : Nat := 1
  ctlrs : Tab Ctlr := []
  nextAssoc : Nat := 64
  sqs : Tab Sq := []
  cqs : Tab Cq := []
  pumpLast : Tab Nat := []
  lastIo : Nat := 0
  anaChanges : Nat := 0
  nqns : Tab (Nat × Nat) := []
  deriving DecidableEq, Repr

/-! ### RC queue pairs (chapter 4) -/

/-- A requester read in READ_LIST (Table 4.3): first PSN, packets, bytes, the command, its offset in the command's data, the bytes
received, whether its rest has been reissued since the last progress (R114), and its sump buffer handle. -/
structure ReadEnt where
  psn : Nat
  packets : Nat
  len : Nat
  cmd : Nat
  off : Nat := 0
  got : Nat := 0
  again : Bool := false
  handle : Nat := 0
  deriving DecidableEq, Repr

/-- What a queue pair has still to send, in order (R118): the rest of an RDMA Write message of a command's data, which lies at `addr` under
`key` in the host's memory, `total` bytes in all; or a command's response capsule, whether it follows RDMA Writes, and the key that it
invalidates (R102). -/
inductive SendItem where
  | data (cmd addr key total : Nat) (rest : List Byte)
  | done (cmd cid status : Nat) (dnr : Bool) (dw0 : Nat) (wrote : Bool) (inval : Option Nat)
  deriving DecidableEq, Repr

/-- An RC packet that the controller sends (Table 4.1): acknowledgement and NAKs with PSN and MSN, an RDMA READ request with its RETH, a read
response, an RDMA WRITE with the RETH of the message it belongs to, a response capsule with the key that it invalidates, a CNP. -/
inductive RcOut where
  | ack (psn msn : Nat)
  | nak (code psn msn : Nat)
  | rnr (timer psn msn : Nat)
  | readReq (psn addr key len : Nat)
  | readResponse (pos : Pos) (psn msn : Nat) (data : List Byte)
  | write (pos : Pos) (psn addr key total : Nat) (data : List Byte)
  | response (psn : Nat) (cqe : List Byte) (inval : Option Nat)
  | cnp
  deriving DecidableEq, Repr

/-- What an RC packet takes from its queue pair's context, with the ECN code (R107, R120). -/
structure RcHead where
  destQpn : Nat
  remoteIp : Nat
  localIp : Nat
  mac : Nat
  vlan : Nat
  sport : Nat
  dscp : Nat
  ecn : Nat
  hopLimit : Nat
  deriving DecidableEq, Repr

/-- Connection management messages that the controller sends on QP1 (R104): REP with the local QPN, the first PSN, the responder reads usable and
the requester reads outstanding; REJ with the binding's reason; DREQ; DREP. -/
inductive CmOut where
  | rep (qpn psn ird ord : Nat)
  | rej (reason : Nat)
  | dreq (qpn : Nat)
  | drep (qpn : Nat)
  deriving DecidableEq, Repr

/-- A packet sent and not acknowledged: PSN, bytes counted against CWND, the packet (R113, R121). -/
structure SentPkt where
  psn : Nat
  n : Nat
  pkt : RcOut
  deriving DecidableEq, Repr

/-- The capsule under reception: the bytes so far, and the DSCP of its first packet (R200). -/
structure Capsule where
  bytes : List Byte
  dscp : Nat
  deriving DecidableEq, Repr

/-- A responder read record (R107): the region RDMA Read request that it serves. -/
structure ReadRec where
  psn : Nat
  rkey : Nat
  va : Nat
  len : Nat
  deriving DecidableEq, Repr

/-- A deadline or an acknowledgement that waits for its queue pair's context (R108, R110). -/
inductive Due where
  | ackTimeout | rnrEnd | quarantine | ack
  deriving DecidableEq, Repr

/-- A queue pair (Table 4.2, Table 4.3), the message under reception (a capsule, or a region write's region, offset and bytes left), its responder
read records by index, what it has sent and
not seen acknowledged, the monotonic times of its timers, whether a DREQ has been received or is
outstanding, the responder resources that the host granted (`ord`), and the region writes that the peer has still to hold, with the
acknowledgement that waits for them (R185). -/
structure Qp where
  gen : Nat := 0
  st : Nat := 0
  pmtu : Nat := 5
  pump : Nat := 0
  port : Nat := 0
  subPort : Nat := 0
  tenant : Nat := 0
  qid : Nat := 0
  destQpn : Nat := 0
  remoteIp : Nat := 0
  localIp : Nat := 0
  mac : Nat := 0
  vlan : Nat := 0
  sport : Nat := 0
  tclass : Nat := 0
  hopLimit : Nat := 0
  epsn : Nat := 0
  seqNakSent : Bool := false
  msn : Nat := 0
  nextPsn : Nat := 0
  unaPsn : Nat := 0
  retryCnt : Nat := 0
  rnrRetry : Nat := 0
  timeout : Nat := 0
  left : Nat := 0
  rnrLeft : Nat := 0
  rnrWait : Bool := false
  regionGrant : Bool := false
  cwnd : Nat := 0
  inflight : Nat := 0
  acked : Nat := 0
  tDec : Nat := 0
  tCnp : Nat := 0
  ord : Nat := 0
  sqSize : Nat := 0
  sqhd : Nat := 0
  cmds : Nat := 0
  cntlid : Nat := 0
  hostIdx : Nat := 0
  assoc : Nat := 0
  tLast : Nat := 0
  reads : List ReadEnt := []
  sent : List SentPkt := []
  capsule : Option Capsule := none
  writeAt : Option (Nat × Nat × Nat) := none
  irdHead : Nat := 0
  records : Tab ReadRec := []
  unacked : Nat := 0
  unackedSince : Nat := 0
  lastAck : Nat := 0
  rnrUntil : Nat := 0
  quarUntil : Nat := 0
  dreqSeen : Bool := false
  dreqSent : Bool := false
  mirrorPend : Nat := 0
  ackDue : Bool := false
  sendQueue : List SendItem := []
  fetchQueue : List (Nat × Nat × Nat) := []
  due : List Due := []
  deriving DecidableEq, Repr

/-- A context's place in the cache (R108): last use, and whether it is dirty. -/
structure Cached where
  used : Nat
  dirty : Bool := false
  deriving DecidableEq, Repr

/-- The RC side of the wellhead: queue pairs and generations by index, cached contexts, fetches pending, the four miss
queues (oldest first, each parked packet under a number of its own), and the counts of uses and of parked packets. -/
structure Rc where
  qps : Tab Qp := []
  gens : Tab Nat := []
  cache : Tab Cached := []
  fetching : List Nat := []
  missq : Tab (List (Nat × RcPkt)) := []
  uses : Nat := 0
  parked : Nat := 0
  deriving DecidableEq, Repr

/-! ### Tenant scheduling (chapter 7) -/

/-- A bucket: tokens and the monotonic microsecond up to which it has been refilled. -/
structure Bucket where
  tokens : Nat := 0
  at_ : Nat := 0
  deriving DecidableEq, Repr

/-- QOS beside its registers: held commands by tenant, oldest first; committed and peak buckets by tenant and node buckets by
node, a bucket that is not listed being full; deficits of the children in the yellow pass (tenant t under 4096 + t); the last
child served at each node in the green, yellow and red pass; the child a node's yellow pass is serving; last admission of
the tenants that count as active by it (R208). -/
structure Qos where
  held : Tab (List Nat) := []
  committed : Tab Bucket := []
  peak : Tab Bucket := []
  node : Tab Bucket := []
  deficit : Tab Nat := []
  turn : Tab (Nat × Nat × Nat) := []
  serving : Tab Nat := []
  lastAdmit : Tab Nat := []
  deriving DecidableEq, Repr

/-! ### Flash translation, redundancy, the sump (chapters 9 to 11, 15) -/

/-- What the map names for an IU (Table 9.3); an IU that is not listed is UNMAPPED. -/
inductive MapVal where
  | zero
  | media (v : Nat)
  deriving DecidableEq, Repr

/-- A version or fragment in the sump (R256, R407): identity, arrival ordinal, sectors by index in the IU, the stripe it
is assigned to (0 none), class, layout, the shelf and monotonic times it entered, its slots, how many of them lie in
SRAM, and the pod member whose mirror it belongs to (`none`: this controller's own). -/
structure Version where
  nsid : Nat
  iu : Nat
  order : Nat
  whole : Bool := true
  sectors : Tab Sector
  seq : Nat := 0
  cls : Nat := 1
  layout : Nat := 0
  entered : Nat := 0
  since : Nat := 0
  sram : Nat := 0
  deriving DecidableEq, Repr

/-- Where a placed IU comes from: a version of the sump by its ordinal, a copy of the location V in a source tank, or
padding-free map store content. -/
inductive Source where
  | sump (order : Nat)
  | copy (v tank : Nat)
  deriving DecidableEq, Repr

/-- An IU placed in a stripe: data chunk and sector of the chunk, and its source. -/
structure Placed where
  nsid : Nat
  iu : Nat
  iu16 : Bool
  chunk : Nat
  slot : Nat
  src : Source
  sectors : List Sector := []
  deriving DecidableEq, Repr

/-- A stripe under assembly or being programmed (R252, R258, R309): its tank and index, when assembly began (shelf and
monotonic), what it holds, positions acknowledged and failed copies, and whether resynchronisation commits it (Table 11.3). -/
structure Stripe where
  seq : Nat
  tank : Nat
  index : Nat
  layout : Nat
  cls : Nat
  wtime : Nat
  since : Nat
  ius : List Placed := []
  acked : List Nat := []
  missing : List Nat := []
  resync : Bool := false
  deriving DecidableEq, Repr

/-- A member of a tank (R260): its block, the temperatures at OPEN and FULL, and the retirement mark. -/
structure TankMember where
  cistern : Nat
  die : Nat
  block : Nat
  tempOpen : Int := 0
  tempFull : Int := 0
  marked : Bool := false
  erased : Bool := false
  deriving DecidableEq, Repr

/-- What a tank in DRAW is a source of: draw-down, refresh, levelling (R267, R294, R283). -/
inductive DrawKind where
  | draw | refresh | level
  deriving DecidableEq, Repr

/-- A tank table entry (R260), with the MISSING masks of its degraded stripes, whether this controller wrote it, when it
last received a stripe (monotonic), what it is drawn down for, whether the partner has answered RELEASE (R472), and the stripes begun and not committed (R309). -/
structure Tank where
  st : Nat := 0
  layout : Nat := 0
  cls : Nat := 0
  members : List TankMember := []
  stripes : Nat := 0
  begun : Nat := 0
  valid : Nat := 0
  openAt : Nat := 0
  fullAt : Nat := 0
  readers : Nat := 0
  missing : Tab (List Nat) := []
  mine : Bool := true
  lastStripe : Nat := 0
  kind : DrawKind := .draw
  released : Bool := false
  releaseSent : Bool := false
  releaseAsked : Bool := false
  orphans : List Nat := []
  deriving DecidableEq, Repr

/-- An erase block's record (R278), the tank that holds it, whether it is reserved for the save area (R422). -/
structure Blk where
  pe : Nat := 0
  st : Nat := 0
  unc : Nat := 0
  tank : Option Nat := none
  plsa : Bool := false
  dirty : Bool := false
  deriving DecidableEq, Repr

/-- A run of the map store (R250): its level, the cisterns of its copies, and the segments it covers that have no base copy written
after it. -/
structure Run where
  level : Nat
  copies : List Nat
  segs : List (Nat × Nat) := []
  deriving DecidableEq, Repr

/-- What a META stripe is written for (R249, R250): the delta run of a checkpoint, a merged run, a base copy of a segment, a
run's new copy, or a new copy of the segment directory. -/
inductive MetaUse where
  | delta
  | merge (level : Nat)
  | base (nsid seg : Nat)
  | recopy (run : Nat)
  | directory
  deriving DecidableEq, Repr

/-- What a media read is for (R31, R256, R269): a host command, a composition, a copy, or a departing member's chunk (R318). -/
inductive ReadFor where
  | host (cmd lba : Nat)
  | compose
  | copy (kind : DrawKind)
  | rebuild (member : Nat)
  deriving DecidableEq, Repr

/-- A media read of one IU (R291, R305): its location, the sectors wanted, the retry step of each position read, the
sectors obtained, sectors known to be poisoned, in reconstruction the positions asked and what each has given, sector by
sector in the order of `want`, whether the target itself has been read (R31, R32), the SECTOR_CRC of its sectors where its header has been read (R306), the IU's applied SEQ when it began (R256), and the
fields before HDR_CRC of a chunk header that it has read (R317). -/
structure Job where
  nsid : Nat
  iu : Nat
  v : Nat
  tank : Nat
  want : List Nat
  use : ReadFor
  steps : Tab Nat := []
  got : Tab Sector := []
  poison : List Nat := []
  recon : Bool := false
  asked : List Nat := []
  parts : Tab (List Part) := []
  tried : Bool := false
  heads : Tab Nat := []
  applied : Nat := 0
  front : List Byte := []
  deriving DecidableEq, Repr

/-- A substitution under way (R318): the tank; for each departing member its index, its block and the substitute's; the stripe at hand; when it
began (monotonic); the chunks obtained for that stripe, by member index, and the members whose chunk of it is programmed. -/
structure Subst where
  tank : Nat
  swaps : List (Nat × Nat × Nat)
  stripe : Nat := 0
  since : Nat := 0
  chunks : Tab (List Byte × List Part) := []
  acked : List Nat := []
  deriving DecidableEq, Repr

/-- The resident segments of a namespace's map (R247, R248): all of them, or those listed with their last use; when each last had a base copy, and
the cisterns of its copies (R250). -/
structure Segs where
  all : Bool := true
  loaded : Tab Nat := []
  dirty : List Nat := []
  rotated : Tab Nat := []
  homes : Tab (List Nat) := []
  deriving DecidableEq, Repr

/-- Counts of the SMART log (Table 10.3) and of a slot's extended entry (Table 10.5), by the offset of the field. -/
abbrev Counts := Tab Nat

/-- Flash translation and redundancy beside their registers (chapters 9 to 11): the map and its resident segments, the placement
counter, the sump's versions, stripes under assembly (by class and layout) and being programmed (by SEQ), tanks, blocks,
granted tanks and grants asked for, by class and layout (R471), media reads, the copy debt in thousandths of an IU (R268), the refresh list (tank, urgent), the
journal, the flush under way (records, SEQ covered, whether its run is durable), runs, what META stripes are for and those
that wait for a tank and those to be durable before a checkpoint completes, the cisterns of the segment directory's copies, a CKPT_MAX that a
commit has lowered (R276), the map, the erase counts and the lost list as the last checkpoint holds them (R249, R279, R311), whether some stripe has no
redundancy left (R297), the substitution under way, the JSEQ of the FTL and PAR partitions (R426), dies of a new cistern whose blocks from an index on are still to be erased (R316), the counts of the
SMART log and of each slot (entry 48: reads recovered at each retry step), the commit ring by JSEQ, the lost-stripe list, ends of
graces, cisterns that wait for a slot, swept cisterns, the IUs that the sweeps have found by location (R317), the protection information tags of zeroed IUs (application tag and the first LBA's
reference tag, R171), and the IUs whose composition has to begin again (R256). -/
structure Ftl where
  map : Tab MapVal := []
  segs : Tab Segs := []
  waitSegs : List (Nat × Nat) := []
  placeSeq : Nat := 0
  order : Nat := 0
  versions : List Version := []
  applied : Tab Nat := []
  asm : Tab Stripe := []
  fly : Tab Stripe := []
  tanks : Tab Tank := []
  blocks : Tab Blk := []
  lastSet : Tab (List Nat) := []
  granted : Tab (List Nat) := []
  asking : List Nat := []
  jobs : Tab Job := []
  nextJob : Nat := 1
  debt : Nat := 0
  refresh : Tab Bool := []
  refreshed : Bool := false
  lastScan : Nat := 0
  levelling : Option Nat := none
  journal : List JRec := []
  flushing : Option (Nat × Nat × Bool) := none
  lastCkpt : Nat := 0
  runs : Tab Run := []
  metaUse : Tab MetaUse := []
  metaWait : List MetaUse := []
  metaRedo : List MetaUse := []
  dirCopies : List Nat := []
  ckptHold : Option Nat := none
  ckptMap : Tab MapVal := []
  ckptPe : Tab Nat := []
  ckptLost : List Lost := []
  exposed : Bool := false
  subst : Option Subst := none
  jseq : Nat := 0
  ringSeq : Nat := 0
  unerased : Tab Nat := []
  nextRun : Nat := 1
  smart : Counts := []
  slots : Tab Counts := []
  slotSerial : Tab Nat := []
  healthGen : Nat := 0
  ring : List (Nat × JRec) := []
  lost : List Lost := []
  lostMissed : List Lost := []
  graceAt : Tab Nat := []
  waitingId : Tab Ident := []
  swept : List Nat := []
  found : Tab (Nat × Nat) := []
  zeroTags : Tab (Nat × Nat) := []
  redo : List (Nat × Nat) := []
  deriving DecidableEq, Repr

/-- One copy of the save descriptor (Table 15.3). -/
structure SaveDesc where
  st : Nat := 0
  run : Bool := false
  single : Bool := false
  warm : Bool := false
  saveLost : Bool := false
  seq : Nat := 0
  saveId : Nat := 0
  saveTime : Nat := 0
  dataStripes : Nat := 0
  dirStripes : Nat := 0
  slots : Nat := 0
  resvGen : Nat := 0
  ckptSeq : Nat := 0
  placeSeq : Nat := 0
  deriving DecidableEq, Repr

/-- What started a save (R418). -/
inductive SaveCause where
  | pwrfail | undervoltage | reset | warm
  deriving DecidableEq, Repr

/-- A remote sump region (R182, R183, Table 6.10), with the messages past its key check that still drain (queue pair
indices) and when its revocation began. -/
structure Region where
  st : Nat := 0
  tenant : Nat := 0
  write : Bool := false
  read : Bool := false
  len : Nat := 0
  rkey : Nat := 0
  off : Nat := 0
  gen : Nat := 0
  data : Memory := []
  draining : List Nat := []
  revokedAt : Nat := 0
  deriving DecidableEq, Repr

/-- The sump beside its registers (chapter 15): both copies of the save descriptor, the factory state of MRAM, the save
under way (cause, monotonic start), the completed save that waits for its trigger to clear, the save area's rows
(blocks by cistern, die, block), commands waiting for slots by arrival, the budget of draw-down mode 3 (R411), the
peer's slots, regions and journal records mirrored here, whether a SUSPEND is outstanding and completions are held,
whether the copy back to the peer runs, a shutdown under way, regions (with their key generations) by index, the memory that
revoked regions still hold (index, position in 64 KiB units, bytes), the contents of the saved sump, the input pins. -/
structure Sump where
  descA : Option SaveDesc := none
  descB : Option SaveDesc := none
  factory : Bool := true
  save : Option (SaveCause × Nat) := none
  saved : Option SaveCause := none
  frozen : List Version := []
  saveFails : Tab Nat := []
  saveNext : Nat := 0
  saveBad : Bool := false
  peerLost : List Lost := []
  rows : List (List (Nat × Nat × Nat)) := []
  waiting : List Nat := []
  budget : Option Nat := none
  peerSlots : Nat := 0
  peerVersions : List Version := []
  peerRegions : Tab Region := []
  peerSeq : Nat := 0
  peerStale : Bool := false
  securing : Bool := false
  secured : Bool := false
  copyback : Bool := false
  shutting : Bool := false
  shutDown : Bool := false
  regions : Tab Region := []
  zeroing : List (Nat × Nat × Nat) := []
  pwrfailLow : Bool := false
  inputLow : Bool := false
  deriving DecidableEq, Repr

/-! ### Skalas links and slots (chapters 13, 14) -/

/-- What an outstanding Skalas command is for. -/
inductive Use where
  | identify | status
  | badBlocks (page : Nat)
  | epochSet (epoch writers : Nat)
  | read (job pos : Nat)
  | program (seq pos : Nat)
  | subst (tank stripe member : Nat)
  | save (stripe place pos : Nat)
  | erase (tank pos : Nat)
  | reclaim
  deriving DecidableEq, Repr

/-- An outstanding tag (R373): the command header's fields, its threshold offsets, a PROGRAM's payload (chunk header fields,
IU descriptors, sectors), resends, host priority, when it was issued (monotonic) and its timeout. -/
structure Tag where
  opcode : Nat
  die : Nat := 0
  block : Nat := 0
  page : Nat := 0
  mask : Nat := 0
  count : Nat := 1
  progId : Nat := 0
  epoch : Nat := 0
  retries : Nat := 0
  prio : Bool := false
  offsets : List Int := []
  header : List Byte := []
  payload : List (List Byte) := []
  at_ : Nat
  timeout : Nat
  use : Use
  deriving DecidableEq, Repr

/-- A FLIT of a link (Table 13.4): its sequence number, where a capsule starts in its stream, POISON, and its 236 bytes of capsule stream. -/
structure TxFlit where
  seq : Nat := 0
  start : Nat := 0xFF
  poison : Bool := false
  stream : List Byte := []
  deriving DecidableEq, Repr

/-- A Skalas link beside its registers: tags outstanding, tags quarantined with the end of the quarantine, the program ID
counter (MRAM, R376), the bridge's identity, the bad-block pages still to read, the link layer (next SEQ expected, NAK
sent, replays of one FLIT, credits), when training and RECOVERY began, whether the slot's first training is over, the
last STATUS ALERTS and when it was sent, resent administrative commands, epochs tried at admission (R382), the
operations refused under R383, the identity and bad blocks of a cistern under admission, the last ACK_SEQ heard, and commands that wait for a tag, for room in MEDIA_RX (R218) or for one of
the 8 places of their die (R373, R376), the last read sent (R348), the last moment at which the cistern had been idle, when a tag was last outstanding (R535), the next SEQ to send, the FLITs sent that
are not acknowledged, and those that wait for room in the replay buffer (R358, R359). -/
structure Link where
  tags : Tab Tag := []
  quarantined : Tab (Nat × Nat) := []
  progId : Nat := 0
  ident : Option Ident := none
  badLeft : Nat := 0
  rxSeq : Nat := 0
  nakSent : Bool := false
  replays : Nat := 0
  command : Nat := 0
  program : Nat := 0
  replayFlits : Nat := 0
  trainAt : Nat := 0
  retrained : Bool := false
  recoveryAt : Nat := 0
  alerts : Nat := 0
  statusAt : Nat := 0
  tempAt : Nat := 0
  epochTries : Nat := 0
  refused : List Tag := []
  newIdent : Option Ident := none
  newBad : List (Nat × Nat) := []
  ackSeq : Nat := 0
  backlog : List Tag := []
  lastRead : Nat := 0
  idleAt : Nat := 0
  lastTag : Nat := 0
  txSeq : Nat := 0
  replay : List TxFlit := []
  txWait : List TxFlit := []
  deriving DecidableEq, Repr

/-- A slot channel beside its registers (chapter 14), with monotonic times: presence, the end of HOLDOFF, when CHECK was entered
or its wait on a driven output began and whether that wait runs, VOUT within 0.3 V of VIN in RAMP and since when, SLOT_RST_N
high, and the time of ON. -/
structure Chan where
  present : Bool := false
  holdoff : Nat := 0
  checkAt : Nat := 0
  waiting : Bool := false
  ramped : Bool := false
  rampedAt : Nat := 0
  rstHigh : Bool := false
  onAt : Nat := 0
  deriving DecidableEq, Repr

/-- Slots and links: the channels, the links, the feed below UV (R397), the slots that
the peer's channels hold ON (R416), the slot groups that are still to start, in order, with the
number of the first, the slots that come after the last group (R87, R96), and whether priming is a full start. -/
structure Shelf where
  chans : Tab Chan := []
  links : Tab Link := []
  feedLow : Bool := false
  peerOn : List Nat := []
  groups : List (List Nat) := []
  nextGroup : Nat := 0
  late : List Nat := []
  fullStart : Bool := true
  deriving DecidableEq, Repr

/-! ### The pod (chapter 17) -/

/-- What a Brontanto frame carries: a message of this controller, or the payload of a frame that it relays (R457). -/
inductive PodBody where
  | msg (m : PodMsg)
  | bytes (l : List Byte)
  deriving DecidableEq, Repr

/-- A Brontanto frame to be sent (Table 17.1): TYPE, SRC, DEST, HOPS and what it carries. -/
structure PodSend where
  type : Nat
  src : Nat
  dest : Nat
  hops : Nat := 7
  body : PodBody
  deriving DecidableEq, Repr

/-- A Brontanto frame that has been sent under a SEQ, with POISON (R455). -/
structure PodTx where
  seq : Nat
  poison : Bool := false
  send : PodSend
  deriving DecidableEq, Repr

/-- A peer link beside its registers (R455, R456): the last SEQ received in order, the credit received and the credit still to be returned
(256-byte units), whether frames are discarded until a resend, when RECOVERY began (monotonic); the last SEQ sent, the frames sent that are not
acknowledged, and how often the first of them has been sent again. -/
structure PeerLink where
  rxSeq : Nat := 0
  txSeq : Nat := 0
  unacked : List PodTx := []
  resends : Nat := 0
  credit : Nat := 0
  owed : Nat := 0
  discarding : Bool := false
  recoveryAt : Nat := 0
  deriving DecidableEq, Repr

/-- A pod member as heard (R459): its last HELLO, when a frame last came from it (monotonic), over which link and how far. -/
structure Heard where
  hello : Option Hello := none
  at_ : Nat := 0
  hopsA : Nat := 0
  hopsB : Nat := 0
  deriving DecidableEq, Repr

/-- A pod launch as its PREPARE gives it (R466): its coordinator, the launch time, the live epoch it leads to, ACTION SNAPSHOT, and the
proposed values by bit address. -/
structure Launch where
  coord : Nat
  time : Nat
  epoch : Nat
  snapshot : Bool := false
  values : List (Nat × W32) := []
  deriving DecidableEq, Repr

/-- The pod beside its registers: links, members heard, recorded epochs by cistern (R474), the pair
key agreed, the launch this member has agreed to (R467), the PREPAREs it holds, the launch it coordinates with the members whose answer
is missing (R468), whether GO was sent or received; fencing (when it begins, for
side 1, the cisterns still to fence, whether a second round ran, whether the partner is fenced and its place is still to be taken);
namespaces moving, with the partner; namespaces taken over, with the highest ordinal of the versions mirrored from the failed peer while any is not
placed yet (R173); whether a joining member has taken the live set; when HELLO was last sent. -/
structure Pod where
  links : Tab PeerLink := []
  heard : Tab Heard := []
  epochs : Tab Nat := []
  pairKey : Bool := false
  ownEpoch : Nat := 0
  engaged : Option Launch := none
  heldPrepare : List Launch := []
  proposal : Option Launch := none
  awaiting : List Nat := []
  go : Bool := false
  fenceAt : Option Nat := none
  fencing : List Nat := []
  fenceRound : Nat := 0
  fenced : Bool := false
  moving : Tab Nat := []
  adopting : Tab Nat := []
  takeover : Bool := false
  liveDone : Bool := false
  helloAt : Nat := 0
  deriving DecidableEq, Repr

/-! ### Performance counters (chapter 19) -/

/-- The PMU beside its registers: for how many ns each tile has been powered and not frozen (R523), the words of the last
snapshot by PMU offset from 0x1000 (R528), the block counters latched for the copy under way, and when the bandwidth window
began (R527, monotonic). -/
structure Pmu where
  tileNs : Tab Nat := []
  snap : Tab Nat := []
  latched : Tab (BitVec 48 × Bool) := []
  windowAt : Nat := 0
  deriving DecidableEq, Repr

/-! ### Sequencers (chapter 19) -/

/-- How a mailbox ends (Table 19.2): STATUS, and for a command that has run its status and dword 0. -/
structure MboxEnd where
  st : Nat
  cqe : Option (Nat × Nat) := none
  deriving DecidableEq, Repr

/-- The sequencers beside their registers and the scratchpads and mailboxes of BAR2 (R515 to R518): mailboxes that wait for one of the
four places, in doorbell order; those being worked on, with their end once there is one; and the data
that goes into each one's data area. -/
structure Seq where
  waiting : List Nat := []
  running : Tab (Option MboxEnd) := []
  data : Tab (List Byte) := []
  deriving DecidableEq, Repr

/-! ### What the block sends -/

/-- A PRD packet that is sent (R129, R130): the manifold port that it leaves by, IP version and addresses, UDP source port and checksum, ECN code
(R153), and the bytes of the UDP payload. -/
structure PrdOut where
  port : Nat
  v6 : Bool
  src : Nat
  dst : Nat
  sport : Nat
  cksum : Nat
  ecn : Nat
  bytes : List Byte
  deriving DecidableEq, Repr

/-- Everything that leaves the block. -/
inductive Out where
  /-- The seven-byte UART record of R79: state code and fail cause. -/
  | uart (bytes : List Byte)
  /-- A BAR0 read's completion (R11-R14): the `n` addressed bytes as a little-endian number. -/
  | readData (off n : Nat) (value : W32)
  /-- Unsupported Request from a function (R489). -/
  | unsupported (fn : Nat)
  /-- An MSI-X message (R487, R548). -/
  | msix (fn vector : Nat)
  /-- An event record written to a ring at an index, which stands at that bus address (R547). -/
  | ring (r index addr : Nat) (rec : EvtRecord)
  /-- An RC packet of a queue pair (R102). -/
  | rc (qp : Nat) (head : RcHead) (p : RcOut)
  /-- A connection management message (R104) for the host's queue pair `hostQpn`, by a manifold port. -/
  | cm (qp port hostQpn : Nat) (m : CmOut)
  /-- A PRD packet (Table 5.2). -/
  | prd (p : PrdOut)
  /-- A FLIT on a Skalas link (Table 13.1, R358): its 236 bytes of capsule stream and 6 of link control; PCIe 6.0 defines the CRC and FEC
  that follow. -/
  | flit (link : Nat) (bytes : List Byte)
  /-- A Brontanto frame on a peer link (R456): the 24 bytes of its header (Table 17.1), the first bytes of a CONTROL payload (Table 17.4), what
  it carries, and POISON. -/
  | bront (link : Nat) (head start : List Byte) (p : PodSend) (poison : Bool)
  /-- A frame sent on a manifold port (R224), or ended as Table 8.6 says. -/
  | frame (port id : Nat)
  | stomp (port id : Nat)
  /-- A PFC frame (R232): port, priority, quanta. -/
  | pfc (port prio quanta : Nat)
  /-- A slot's pins (Table 14.1): SLOT_PG, SLOT_RST_N. -/
  | slotPins (slot : Nat) (pg rst : Bool)
  /-- A PTP message: Sync or Announce on a port (R330), a time exchange answer (R331). -/
  | ptpSync (port : Nat) (time : PtpTime) (gm : PtpGm)
  | gpio (pin : Nat) (level : Bool)
  /-- A data object of the DOE mailbox (R508): response code and its fields. -/
  | spdm (code : Nat) (fields : List Nat)
  /-- A PCIe completion or message of the endpoint: configuration data, Request Retry Status, BAR data, LTR. -/
  | config (fn off : Nat) (value : Nat)
  | retryStatus (fn : Nat)
  | barData (fn off : Nat) (data : List Byte) (ep : Bool := false)
  | ltr (us : Nat)
  /-- A master-engine request (R496): function, tag, attributes (2 Relaxed Ordering, 1 No Snoop, R497), address, length or data. -/
  | masterRead (fn tag attr addr len : Nat)
  | masterWrite (fn attr addr : Nat) (data : List Byte)
  /-- AER report (R510): function and the error's bit of the Uncorrectable Error Status register. -/
  | aer (fn code : Nat)
  /-- THERM_N and PWR pins (R539). -/
  | thermN (low : Bool)
  deriving DecidableEq, Repr

/-! ### The manifold (chapter 8) -/

/-- A run of consecutive cells (R212): the address of the first, how many, and whether they are borrowed from SHARED (R217). -/
structure CellRun where
  addr : Nat
  n : Nat
  borrowed : Bool := false
  deriving DecidableEq, Repr

/-- Cells that a partition holds for something other than a queued frame: data that has been solicited (R218), a parked packet (R110). -/
structure Hold where
  part : Nat
  runs : List CellRun
  deriving DecidableEq, Repr

/-- A frame (Table 8.4): its length in bytes, the chain of its cells, partition, source, destinations, copies done, whether complete, tail
mark, whether counted in STOMPED, class, whether it is a Brontanto header alone, completion time (monotonic), priority; and what it carries: the stripe member or the command that it is a copy for, the
Skalas capsule for each destination link by its tag, and what leaves with it otherwise. -/
structure Frame where
  len : Nat
  runs : List CellRun := []
  part : Nat
  src : Nat := 0
  dests : List Nat
  done : List Nat := []
  complete : Bool := true
  bad : Bool := false
  stomped : Bool := false
  urgent : Bool := false
  bare : Bool := false
  tComplete : Nat := 0
  prio : Nat := 0
  stripe : Option (Nat × Nat) := none
  cmd : Option (Nat × Nat × Nat) := none
  caps : List (Nat × Nat) := []
  pod : Option PodSend := none
  outs : List Out := []
  deriving DecidableEq, Repr

/-- The manifold beside its registers: frames by number, the frame each port is transmitting, frames that wait for cells, other cells held
(by what for: `Mfd` keys), fenced cells (R237) as runs, ports without link (with the time of the loss), ports whose hold has expired or that
stall, received PFC pauses (port and priority, with their end), priorities above XOFF, and the
frame that each port is receiving. -/
structure Mfd where
  frames : Tab Frame := []
  next : Nat := 0
  sending : Tab Nat := []
  waiting : List Frame := []
  held : Tab Hold := []
  fenced : List (Nat × Nat) := []
  down : Tab Nat := []
  expired : List Nat := []
  stalled : List Nat := []
  paused : Tab Nat := []
  xoff : Tab Nat := []
  receiving : Tab Nat := []
  deriving DecidableEq, Repr

/-! ### The state -/

/-- The whole state; `pending` is the queue of waiting commands, first in first out, `out` what has been sent, newest
first, `freeCtr` numbers the free values (`Config.freeBits`). -/
structure State where
  regs : Regs := {}
  prim : Prim := {}
  img : Img := {}
  commit : Commit := {}
  evt : Evt := {}
  pcie : Pcie := {}
  tm : Tm := {}
  cry : Cry := {}
  mem : Mem := {}
  ns : Tab Ns := []
  prd : Prd := {}
  host : HostSide := {}
  rc : Rc := {}
  qos : Qos := {}
  mfd : Mfd := {}
  ftl : Ftl := {}
  sump : Sump := {}
  shelf : Shelf := {}
  pod : Pod := {}
  pmu : Pmu := {}
  seq : Seq := {}
  out : List Out := []
  freeCtr : Nat := 0
  pending : List Instr := []
  deriving DecidableEq, Repr

/-- The block right after a power-on reset: AON, every register at its table's value, nothing in its memories. -/
def State.reset : State := {}

end Sys2Proof.Machine
end

