-- ==== Sys2Proof/Machine/Ops.lean ====
section
/-! DEFINITION. The named operations over the register file, the outbox and the free values, which every
meaning shares.  Nothing else reads or writes `State.regs`. -/

namespace Sys2Proof.Machine

/-! ### Blocks (Table 0.5, R16, R556) -/

/-- BAR0 base of a block (Table 0.5). -/
def blockBase : Block → Nat
  | .glb => 0
  | .pwr => 0x100000
  | .img => 0x200000
  | .time => 0x300000
  | .pcie => 0x400000
  | .eth n => 0x800000 + 0x100000 * n.val
  | .well => 0xC00000
  | .qos => 0x1000000
  | .mfd => 0x1400000
  | .pump n => 0x1800000 + 0x40000 * n.val
  | .ftl => 0x1C00000
  | .par => 0x2000000
  | .skl n => 0x2400000 + 0x10000 * n.val
  | .slot => 0x2800000
  | .cry => 0x2C00000
  | .sump => 0x3000000
  | .mem => 0x3400000
  | .pla => 0x3800000
  | .plb => 0x3810000
  | .pod => 0x3820000
  | .seq => 0x3C00000
  | .pmu => 0x3E00000

/-- Base of a block's common registers: base + C (R556). -/
def commonBase : Block → Nat
  | .img => 0x20F000
  | .pmu => 0x3E0F000
  | b => blockBase b

/-- The block number of REJECT_BLOCK and of event records: base shifted right by 16 (Table 2.8, Table 21.2). -/
def blockCode (b : Block) : Nat := blockBase b / 0x10000

/-- The block that a BAR0 offset falls in (Table 0.5): the ranges run from one base to the next. -/
def blockAt (off : Nat) : Option Block :=
  if off < 0x100000 then some .glb
  else if off < 0x200000 then some .pwr
  else if off < 0x300000 then some .img
  else if off < 0x400000 then some .time
  else if off < 0x800000 then some .pcie
  else if h : off < 0xC00000 then
    if h' : 0x800000 ≤ off then some (.eth ⟨(off - 0x800000) / 0x100000, by omega⟩) else none
  else if off < 0x1000000 then some .well
  else if off < 0x1400000 then some .qos
  else if off < 0x1800000 then some .mfd
  else if h : off < 0x1C00000 then
    if h' : 0x1800000 ≤ off then some (.pump ⟨(off - 0x1800000) / 0x40000, by omega⟩) else none
  else if off < 0x2000000 then some .ftl
  else if off < 0x2400000 then some .par
  else if h : off < 0x2700000 then
    if h' : 0x2400000 ≤ off then some (.skl ⟨(off - 0x2400000) / 0x10000, by omega⟩) else none
  else if off < 0x2800000 then none
  else if off < 0x2C00000 then some .slot
  else if off < 0x3000000 then some .cry
  else if off < 0x3400000 then some .sump
  else if off < 0x3800000 then some .mem
  else if off < 0x3810000 then some .pla
  else if off < 0x3820000 then some .plb
  else if off < 0x3C00000 then some .pod
  else if off < 0x3E00000 then some .seq
  else if off < 0x4000000 then some .pmu
  else none

/-- Every block, in BAR0 order. -/
def allBlocks : List Block :=
  [.glb, .pwr, .img, .time, .pcie] ++ (List.finRange 4).map .eth ++ [.well, .qos, .mfd] ++
  (List.finRange 16).map .pump ++ [.ftl, .par] ++ (List.finRange 48).map .skl ++
  [.slot, .cry, .sump, .mem, .pla, .plb, .pod, .seq, .pmu]

/-- GLB, IMG and PWR cannot be stopped (R558). -/
def alwaysRuns : Block → Bool
  | .glb | .img | .pwr => true
  | _ => false

/-! ### The common registers (Table 22.1) -/

/-- A bit of a common register that is not shadowed. -/
def commonField (b : Block) (off lo width reset : Nat) (acc : Access) (dom : Domain) : Field :=
  ⟨commonBase b + off, lo, width, reset, .const, acc, .live, false, dom, 0, 2 ^ width - 1, [], 0, 1, 0, 1⟩

def fRun (b : Block) : Field := commonField b 4 0 1 (if alwaysRuns b then 1 else 0) .rw .full
def fReset (b : Block) : Field := commonField b 4 1 1 0 .w1s .full
def fStopped (b : Block) : Field := commonField b 8 0 1 (if alwaysRuns b then 0 else 1) .ro .full
def fResetting (b : Block) : Field := commonField b 8 1 1 0 .ro .full
def fGated (b : Block) : Field := commonField b 8 2 1 0 .ro .full
/-- An error bit: 0 QWRITE, 1 RANGE, 2 NOT_STOPPED, 8 and 9 those of Table 22.2. -/
def fErr (b : Block) (bit : Nat) : Field := commonField b 12 bit 1 0 .w1c .full
def fEvtEn (b : Block) : Field := commonField b 16 0 4 0xF .rws .sticky
def fEvtPend (b : Block) : Field := commonField b 20 0 4 0 .w1c .full
def fBlockId (b : Block) : Field := commonField b 0 0 16 (blockCode b) .ro .full
def fBlockRev (b : Block) : Field := commonField b 0 16 8 1 .ro .full

/-- The fields of a block's common registers. -/
def commonFields (b : Block) : List Field :=
  [fBlockId b, fBlockRev b, fRun b, fReset b, fStopped b, fResetting b, fGated b, fErr b 0, fErr b 1, fErr b 2,
   fErr b 8, fErr b 9, fEvtEn b, fEvtPend b]

/-! ### Reading and writing fields -/

/-- What a field holds: its active value, the reset value of its table where nothing has been written (R73). -/
def State.field (s : State) (f : Field) : W32 := Tab.getD f.key (BitVec.ofNat 32 f.reset) s.regs.active

/-- A field as a number. -/
def State.rd (s : State) (f : Field) : Nat := (s.field f).toNat

/-- Is the field not 0? -/
def State.is (s : State) (f : Field) : Bool := s.rd f != 0

/-- A number cut to a field's width. -/
def clip (f : Field) (v : Nat) : W32 := BitVec.ofNat 32 (v % 2 ^ f.width)

/-- Set a field's active value. -/
def State.wr (s : State) (f : Field) (v : Nat) : State :=
  { s with regs := { s.regs with active := Tab.put f.key (clip f v) s.regs.active } }

/-- Set a one-bit field from a truth value. -/
def State.wrB (s : State) (f : Field) (b : Bool) : State := s.wr f (if b then 1 else 0)

/-- A 64-bit value held in two words (R12). -/
def State.rd64 (s : State) (lo hi : Field) : Nat := s.rd lo + 2 ^ 32 * s.rd hi

/-- Set both words of a 64-bit value. -/
def State.wr64 (s : State) (lo hi : Field) (v : Nat) : State := (s.wr lo (v % 2 ^ 32)).wr hi (v / 2 ^ 32)

/-- Raise a high-water field (R14). -/
def State.peak (s : State) (f : Field) (v : Nat) : State := if s.rd f < v then s.wr f v else s

/-- Set an index-th bit of a 48-bit map held in two words. -/
def State.wrBit (s : State) (lo hi : Field) (i : Nat) (b : Bool) : State :=
  let f := if i < 32 then lo else hi
  let m := 2 ^ (i % 32)
  let w := s.rd f
  let was := w / m % 2 == 1
  if b == was then s else if b then s.wr f (w + m) else s.wr f (w - m)

/-- Bit `i` of a 48-bit map held in two words. -/
def State.rdBit (s : State) (lo hi : Field) (i : Nat) : Bool :=
  (s.rd (if i < 32 then lo else hi)) / 2 ^ (i % 32) % 2 == 1

/-- The shadow of a field: the written shadow, or the active value (R73). -/
def State.shadowOf (s : State) (f : Field) : W32 := Tab.getD f.key (s.field f) s.regs.shadow

/-- Write a field's shadow. -/
def State.wrShadow (s : State) (f : Field) (v : Nat) : State :=
  { s with regs := { s.regs with shadow := Tab.put f.key (clip f v) s.regs.shadow } }

/-! ### The tables as a map (R565) -/

/-- The instance of a field whose register lies at `off`, if `off` is one of its words. -/
def instanceAt (f : Field) (off : Nat) : Option Field :=
  if off < f.off then none
  else
    let d := off - f.off
    if f.c2 ≤ 1 then
      if f.s1 = 0 then (if d = 0 then some f else none)
      else if d % f.s1 = 0 ∧ d / f.s1 < f.c1 then some (f.at (d / f.s1)) else none
    else
      let i := d / f.s1
      let e := d % f.s1
      if i < f.c1 ∧ e % f.s2 = 0 ∧ e / f.s2 < f.c2 then some (f.at2 i (e / f.s2)) else none

/-- The common registers' fields of the block that `off` falls in. -/
def commonAt (off : Nat) : List Field :=
  match blockAt off with
  | none => []
  | some b => (commonFields b).filter fun f => f.off == off

/-- Every field of the word at a BAR0 offset; none where it is unallocated (R13). -/
def fieldsAt (off : Nat) : List Field :=
  commonAt off ++ Reg.tables.flatMap fun t => t.filterMap fun f => instanceAt f off

/-- The field of a bit address. -/
def fieldOfKey (k : Nat) : Option Field := (fieldsAt (k / 32)).find? fun f => f.lo == k % 32

/-- `GLB_COMMIT_STATUS.PENDING`: some shadow differs from its active value (Table 2.8). -/
def State.pendingCommit (s : State) : Bool :=
  s.regs.shadow.any fun e =>
    match fieldOfKey e.1 with
    | none => false
    | some f => s.field f != e.2

/-- Is the block stopped? (R72) -/
def State.stopped (s : State) (b : Block) : Bool := s.is (fStopped b)

/-- Is the block running? -/
def State.running (s : State) (b : Block) : Bool := !s.stopped b

/-- The block of a Skalas link, and of a pump tile. -/
def sklBlock (n : Nat) : Block := if h : n < 48 then .skl ⟨n, h⟩ else .skl 0
def pumpBlock (n : Nat) : Block := if h : n < 16 then .pump ⟨n, h⟩ else .pump 0

/-- May the block begin an operation: it runs, and no stop is under way (R72)? -/
def State.begins (s : State) (b : Block) : Bool := s.running b && !s.prim.stopping.contains (blockCode b)

/-- Set an error bit (Table 22.1, Table 22.2); no event is raised (R559). -/
def State.setErr (s : State) (b : Block) (bit : Nat) : State := s.wr (fErr b bit) 1

/-! ### Counters (R128) -/

/-- A counter's 48-bit count. -/
def State.counter (s : State) (c : Counter) : Nat := (Tab.getD c.off (0, false) s.regs.counts).1.toNat

/-- Has the counter wrapped since WRAP was cleared? -/
def State.wrapped (s : State) (c : Counter) : Bool := (Tab.getD c.off (0, false) s.regs.counts).2

/-- Advance a counter; WRAP is set when it passes 2^48. -/
def State.count (s : State) (c : Counter) (n : Nat := 1) : State :=
  let v := s.counter c + n
  { s with regs := { s.regs with
      counts := Tab.put c.off (BitVec.ofNat 48 v, s.wrapped c || decide (2 ^ 48 ≤ v)) s.regs.counts } }

/-- Set a counter to 0 with WRAP clear. -/
def State.clearCounter (s : State) (c : Counter) : State :=
  { s with regs := { s.regs with counts := Tab.del c.off s.regs.counts } }

/-! ### Outbox, free values -/

/-- Record something sent. -/
def State.send (s : State) (o : Out) : State := { s with out := o :: s.out }

/-- A fresh free value: `w` bits the spec does not give. -/
def State.freeVal (s : State) (w : Nat) : Nat := (Config.freeBits w s.freeCtr).toNat

/-- Use up the free value. -/
def State.freeNext (s : State) : State := { s with freeCtr := s.freeCtr + 1 }

/-! ### Priming states (Table 3.4) -/

/-- Codes of Table 3.4. -/
def stAON : Nat := 0
def stROM : Nat := 1
def stCLOCKS : Nat := 2
def stMEM : Nat := 3
def stSTRUCT : Nat := 4
def stPRIME : Nat := 5
def stRECOVER : Nat := 6
def stPOD : Nat := 7
def stSERVE : Nat := 8
def stISOLATED : Nat := 9
def stHALTED : Nat := 15

/-- The priming state. -/
def State.st (s : State) : Nat := s.rd Reg.GLB_PRIME_STATUS_STATE

/-- Does the controller take pod messages: from POD entry on, and not in ISOLATED (R78, R459)? -/
def State.podTalks (s : State) : Bool := decide (stPOD ≤ s.st ∧ s.st < stISOLATED)

/-- Is the controller serving? -/
def State.serving (s : State) : Bool := s.st == stSERVE

/-- The booted image's parameters; the defaults of Table 2.5 before one is booted. -/
def State.params (s : State) : Params := (s.img.booted.getD {}).params

/-- Has the controller a partner: a dual-controller shelf (R64), judged from the member table by its own serial. -/
def State.selfEntry (s : State) : Option (Nat × (Nat × Nat × Nat × Nat × Nat)) :=
  (s.params.members.zipIdx.find? fun e => e.1.1 == s.img.fuses.serial).map fun e => (e.2, e.1)

/-- This controller's member index in the pod; 0 where there is no POD section. -/
def State.selfIndex (s : State) : Nat :=
  match s.selfEntry with
  | none => 0
  | some e => e.1

/-- The member index of the partner: same shelf, other side (R64). -/
def State.partner (s : State) : Option Nat :=
  match s.selfEntry with
  | none => none
  | some (i, (_, shelf, side, _, _)) =>
    (s.params.members.zipIdx.find? fun e =>
      e.2 != i && e.1.2.1 == shelf && e.1.2.2.1 != side).map fun e => e.2

/-- Is the controller in image recovery mode or HALTED, where only GLB and IMG decode (R68, R78)? -/
def State.minimalDecode (s : State) : Bool := s.prim.recovery || s.st == stHALTED

/-- How BAR0 decodes a block now (R489, R68, R78, R98). -/
inductive Decode where
  | all | ones | none
  deriving DecidableEq, Repr

def State.decodeOf (s : State) (b : Block) : Decode :=
  let small := match b with
    | .glb | .img => true
    | _ => false
  if s.st == stHALTED && !s.prim.answering then .none
  else if s.minimalDecode then (if small then .all else .none)
  else if s.prim.warm then (if small then .all else .ones)
  else if s.st < stPRIME then .none
  else .all

/-! ### What every command ends with -/

def ceilDiv (a b : Nat) : Nat := if b == 0 then 0 else (a + b - 1) / b

/-- Slots of 4 KiB that a region's data takes. -/
def Region.slots (r : Region) : Nat := if r.st == 0 then 0 else ceilDiv r.len 4096

/-- Occupied slots: versions, fragments and regions. -/
def State.heldSlots (s : State) : Nat :=
  (s.ftl.versions.map fun v => v.sectors.length).sum + (s.sump.regions.map fun e => e.2.slots).sum

/-- Occupied slots of the sump: those held, and the memory of revoked regions that is still being zeroed (R186). -/
def State.occupiedSlots (s : State) : Nat := s.heldSlots + (s.sump.zeroing.map fun z => z.2.2 / 4096).sum

/-- Queue pairs that are not FREE (Table 4.8). -/
def State.openQps (s : State) : Nat := s.rc.qps.countE fun _ q => q.st != 0

/-- Set a field that shows `v`, where it does not show it yet. -/
def State.showing (s : State) (f : Field) (v : Nat) : State := if s.rd f == v % 2 ^ f.width then s else s.wr f v

/-- Bring what is shown of the sump's occupied slots (in SERVE) and of the open queue pairs up to date. -/
def State.settle (s : State) : State :=
  let s := s.showing Reg.WELL_RC_STATUS_QP_OPEN s.openQps
  if s.serving then s.showing Reg.SUMP_OCC_OCCUPIED s.occupiedSlots else s

/-- How a command ends: in a next state whose counts are up to date. -/
def settled (s : State) : Host.Outcome State Fault Refusal := .next s.settle

end Sys2Proof.Machine
end

