-- ==== Sys2Proof/Machine/Cells.lean ====
section
/-! DEFINITION. The manifold's cells (R211 to R219): banks, partitions with their borrowing, allocation, and the descriptors of Tables 8.3
and 8.4. -/

namespace Sys2Proof.Machine

/-! ### Banks (R211, R212) -/

/-- Has the domain failed (R532)? -/
def State.domainFailed (s : State) (d : Nat) : Bool := s.rd (Reg.PWR_DFAIL_FAILED.at (d / 32)) / 2 ^ (d % 32) % 2 == 1

/-- Device state (Table 20.2). -/
def State.devState (s : State) : Nat := s.rd Reg.PWR_STATUS_STATE

/-- Cells of a bank. -/
def bankCells : Nat := 16384

/-- Cells of runs. -/
def runCells (l : List CellRun) : Nat := (l.map (·.n)).sum

/-- Cells that a number of bytes takes. -/
def cellsOf (bytes : Nat) : Nat := (bytes + 255) / 256

/-- Cells of a frame that has them. -/
def Frame.cells (f : Frame) : Nat := runCells f.runs

/-- Everything that holds cells. -/
def Mfd.holds (m : Mfd) : List Hold := (m.frames.map fun e => ⟨e.2.part, e.2.runs⟩) ++ m.held.map (·.2)

/-- Manifold banks powered in S1 and deeper: the floor, and enough that those powered are less than 75 % full. -/
def State.mfdBanks (s : State) : Nat :=
  let used := (s.mfd.holds.map fun h => runCells h.runs).sum
  max (s.rd Reg.PWR_CFG_MFD_BANKS_MIN) (4 * used / (3 * bankCells) + 1)

/-- May the allocator take cells of a bank: no bank of the sump, powered, and its domain not failed (R212, R218, R532)? -/
def State.bankServes (s : State) (b : Nat) : Bool :=
  decide (s.params.sumpBanks ≤ b) && !s.domainFailed (60 + b) && (s.devState == 0 || decide (b - s.params.sumpBanks < s.mfdBanks))

/-! ### Partitions (R214, R217) -/

/-- A partition's share. -/
def State.partSize (s : State) (p : Nat) : Nat := s.rd (Reg.MFD_PART_SIZE.at p)

/-- Cells that a partition holds of its own share, and those it has borrowed. -/
def State.partOwn (s : State) (p : Nat) : Nat :=
  ((s.mfd.holds.filter (·.part == p)).map fun h => runCells (h.runs.filter fun r => !r.borrowed)).sum
def State.partBorrowed (s : State) (p : Nat) : Nat :=
  ((s.mfd.holds.filter (·.part == p)).map fun h => runCells (h.runs.filter (·.borrowed))).sum

/-- Cells of SHARED that are lent. -/
def State.lent (s : State) : Nat := (s.mfd.holds.map fun h => runCells (h.runs.filter (·.borrowed))).sum

/-- Fenced cells (R237). -/
def State.fencedCells (s : State) : Nat := (s.mfd.fenced.map (·.2)).sum

/-- Cells that a partition may still borrow: fenced cells come off SHARED first (R237); MISSQ and SHARED never borrow. -/
def State.partBorrow (s : State) (p : Nat) : Nat :=
  if p == 5 || p == 7 then 0
  else min (s.partSize 7 - s.fencedCells - s.lent) (s.rd (Reg.MFD_BORROW.at p) - s.partBorrowed p)

/-- Cells that a partition may still allocate or borrow. -/
def State.partRoom (s : State) (p : Nat) : Nat := (s.partSize p - s.partOwn p) + s.partBorrow p

/-- Show a partition's cells, and those lent from SHARED. -/
def State.showPart (s : State) (p : Nat) : State :=
  let put (s : State) (p n : Nat) : State := (s.wr (Reg.MFD_PART_USE.at p) n).peak (Reg.MFD_PART_PEAK.at p) n
  put (put s p (s.partOwn p + s.partBorrowed p)) 7 s.lent

/-! ### The allocator (R217, R218) -/

/-- Put a run among others, by address. -/
def insertRun (x : Nat × Nat) : List (Nat × Nat) → List (Nat × Nat)
  | [] => [x]
  | y :: t => if x.1 ≤ y.1 then x :: y :: t else y :: insertRun x t

/-- What lies between `lo` and `hi` beside runs in rising order, as (address, cells). -/
def gaps (lo hi : Nat) : List (Nat × Nat) → List (Nat × Nat)
  | [] => if lo < hi then [(lo, hi - lo)] else []
  | (a, n) :: t => (if lo < min a hi then [(lo, min a hi - lo)] else []) ++ gaps (max lo (a + n)) hi t

/-- The first `n` cells of runs. -/
def firstCells : Nat → List (Nat × Nat) → List (Nat × Nat)
  | _, [] => []
  | n, (a, k) :: t => if n == 0 then [] else if n ≤ k then [(a, n)] else (a, k) :: firstCells (n - k) t

/-- Runs in use: held, or fenced. -/
def State.usedRuns (s : State) : List (Nat × Nat) :=
  ((s.mfd.holds.flatMap fun h => h.runs.map fun r => (r.addr, r.n)) ++ s.mfd.fenced).foldr insertRun []

/-- Free cells, those of the lowest-numbered powered bank first (R218). -/
def State.freeRuns (s : State) : List (Nat × Nat) :=
  let used := s.usedRuns
  ((List.range 32).filter s.bankServes).flatMap fun b =>
    gaps (b * bankCells) ((b + 1) * bankCells) (used.filter fun r => r.1 / bankCells == b)

/-- The first `own` cells from the partition's share, the rest borrowed. -/
def markRuns (own : Nat) : List (Nat × Nat) → List CellRun
  | [] => []
  | (a, n) :: t =>
    let k := min own n
    (if k == 0 then [] else [⟨a, k, false⟩]) ++ (if k == n then [] else [⟨a + k, n - k, true⟩]) ++ markRuns (own - k) t

/-- Cells for a partition, from its own share first, then from SHARED; none where it is full. -/
def State.alloc (s : State) (p n : Nat) : Option (List CellRun) :=
  let own := min n (s.partSize p - s.partOwn p)
  let runs := firstCells n s.freeRuns
  if s.partBorrow p < n - own || (runs.map (·.2)).sum < n then none else some (markRuns own runs)

/-! ### What is held without being queued (R110, R218) -/

def holdRead (link tag : Nat) : Nat := 8 * (1024 * link + tag)
def holdRdma (qp psn : Nat) : Nat := 8 * (2 ^ 24 * qp + psn) + 1
def holdPull (cmd off : Nat) : Nat := 8 * (2 ^ 32 * cmd + off) + 2
def holdParked (n : Nat) : Nat := 8 * n + 3
def holdPcie (tag : Nat) : Nat := 8 * tag + 4

/-- Reserve cells of a partition under a key; as it is where the partition is full. -/
def State.holdCells (s : State) (key p n : Nat) : State :=
  match s.alloc p n with
  | none => s
  | some r => ({ s with mfd := { s.mfd with held := Tab.put key ⟨p, r⟩ s.mfd.held } }).showPart p

/-- Give back what is held under a key. -/
def State.freeCells (s : State) (key : Nat) : State :=
  match Tab.find key s.mfd.held with
  | none => s
  | some h => ({ s with mfd := { s.mfd with held := Tab.del key s.mfd.held } }).showPart h.part

/-! ### Descriptors (R219) -/

/-- The addresses of a frame's cells, in order. -/
def Frame.addrs (f : Frame) : List (Nat × Bool) :=
  f.runs.flatMap fun r => (List.range r.n).map fun k => (r.addr + k, r.borrowed)

/-- The descriptor of a frame's cell `k` (Table 8.3); `next` stands for NEXT of the last cell, which is undefined. -/
def Frame.cellDesc (f : Frame) (k next : Nat) : Nat :=
  let l := f.addrs
  let last := k + 1 == l.length
  let bytes := if last then f.len - 256 * k else 256
  (if last then next % 2 ^ 19 else ((l[k + 1]?).map (·.1)).getD 0) + 2 ^ 19 * (bytes - 1) + (if k == 0 then 2 ^ 27 else 0) +
    (if last then 2 ^ 28 else 0) + (if last && f.bad then 2 ^ 29 else 0) + 2 ^ 30 * f.part +
    (if ((l[k]?).map (·.2)).getD false then 2 ^ 33 else 0)

/-- HEAD and TAIL: the first cell, and the last one written so far. -/
def Frame.head (f : Frame) : Nat := (f.runs.head?.map (·.addr)).getD 0
def Frame.tail (f : Frame) : Nat := (f.runs.getLast?.map fun r => r.addr + r.n - 1).getD 0

/-- The frame descriptor (Table 8.4). -/
def Frame.desc (f : Frame) : Nat :=
  f.head + 2 ^ 19 * f.tail + 2 ^ 38 * f.len + 2 ^ 55 * (f.src % 72) +
    (f.dests.zipIdx.map fun e => 2 ^ (62 + 7 * e.2) * (e.1 % 72)).sum + 2 ^ 90 * (f.dests.length - 1) +
    (f.dests.zipIdx.map fun e => if f.done.contains e.1 then 2 ^ (92 + e.2) else 0).sum + (if f.complete then 2 ^ 96 else 0) +
    (if f.urgent then 2 ^ 97 else 0) + 2 ^ 98 * (f.tComplete / us % 2 ^ 30)

end Sys2Proof.Machine
end

