-- ==== Sys2Proof/Machine/QosTree.lean ====
section
/-! DEFINITION. The scheduler's tree, charges, buckets and colours (R194-R200, R206-R208). -/

namespace Sys2Proof.Machine

/-! ### The tree (R194, R195) -/

/-- Nodes that SCHED_TREE creates. -/
def State.nodeCount (s : State) : Nat := ((s.params.nodes.take s.params.levels).foldl (· + ·) 0)

/-- First node of level `k`, and one past its last. -/
def State.levelStart (s : State) (k : Nat) : Nat := (s.params.nodes.take k).foldl (· + ·) 0
def State.inLevel (s : State) (k n : Nat) : Bool :=
  decide (s.levelStart k ≤ n) && decide (n < s.levelStart (k + 1))

/-- The level of a node. -/
def State.levelOf (s : State) (n : Nat) : Nat :=
  ((List.range s.params.levels).find? fun k => s.inLevel k n).getD 0

/-- The bottom level's first node: a tenant's parent at reset (Table 7.1). -/
def State.firstLeafParent (s : State) : Nat := s.levelStart (s.params.levels - 1)

/-- A child's number: node `n` is `n`, tenant `t` is 4096 + t. -/
def tenantChild (t : Nat) : Nat := 4096 + t

/-- The parent of a child. -/
def State.parentOf (s : State) (c : Nat) : Nat :=
  if c < 4096 then s.rd (Reg.QOS_N_CFG_PARENT.at c) else s.rd (Reg.QOS_T_CFG_PARENT.at (c - 4096))

/-- The nodes from a tenant's parent to the root; `none` where a PARENT left by POLICY leads nowhere. -/
def State.pathFrom (s : State) (n : Nat) : Nat → Option (List Nat)
  | 0 => none
  | fuel + 1 =>
    if s.nodeCount ≤ n then none
    else if n == 0 then some [0]
    else (s.pathFrom (s.rd (Reg.QOS_N_CFG_PARENT.at n)) fuel).map fun l => n :: l

def State.tenantPath (s : State) (t : Nat) : Option (List Nat) := s.pathFrom (s.rd (Reg.QOS_T_CFG_PARENT.at t)) 4

/-- The PARENT fields at their reset values (Table 7.1): the first node of the level above. -/
def State.resetParents (s : State) : State :=
  if s.params.levels ≤ 1 then s
  else
    let s := (List.range s.nodeCount).foldl (fun s n =>
      if n == 0 then s else s.wr (Reg.QOS_N_CFG_PARENT.at n) (s.levelStart (s.levelOf n - 1))) s
    (List.range 1024).foldl (fun s t => s.wr (Reg.QOS_T_CFG_PARENT.at t) s.firstLeafParent) s

/-- Is `off` a word of a node that SCHED_TREE does not create (R13)? -/
def State.absentNode (s : State) (off : Nat) : Bool :=
  decide (0x1010000 ≤ off) && decide (off < 0x1010000 + 16 * 3073) && decide (s.nodeCount ≤ (off - 0x1010000) / 16)

/-! ### Charges (R196) -/

/-- The byte-mode charge of a command. -/
def State.byteCharge (s : State) (c : Cmd) : Nat :=
  c.d + (if c.u == 0 then 0 else s.rd Reg.QOS_OVH_PKT_OVH * ((c.d + c.u - 1) / c.u)) + s.rd Reg.QOS_OVH_CMD_OVH

/-- A command's charge in a length mode: bytes, or thousandths of a command. -/
def chargeIn (cmdMode : Bool) (bytes : Nat) : Nat := if cmdMode then 1000 else bytes

/-! ### Buckets (R197 to R199) -/

/-- Which bucket: a tenant's committed or peak bucket, or a node's. -/
inductive BucketId where
  | committed (t : Nat)
  | peak (t : Nat)
  | node (n : Nat)
  deriving DecidableEq, Repr

/-- Owner's length mode, rate and burst fields of a bucket. -/
def BucketId.mode : BucketId → Field
  | .committed t | .peak t => Reg.QOS_T_CFG_LEN_MODE.at t
  | .node n => Reg.QOS_N_CFG_LEN_MODE.at n
def BucketId.rate : BucketId → Field
  | .committed t => Reg.QOS_T_CIR.at t
  | .peak t => Reg.QOS_T_PIR.at t
  | .node n => Reg.QOS_N_RATE.at n
def BucketId.burst : BucketId → Field
  | .committed t => Reg.QOS_T_CBS.at t
  | .peak t => Reg.QOS_T_PBS.at t
  | .node n => Reg.QOS_N_BURST.at n

/-- Is a rate of 0 unlimited in this bucket? -/
def BucketId.free : BucketId → Bool
  | .committed _ => false
  | _ => true

/-- A bucket's size in tokens. -/
def burstTokens (cmdMode : Bool) (burst : Nat) : Nat := burst * (if cmdMode then 1000 else 1024)

def State.bucketCap (s : State) (b : BucketId) : Nat := burstTokens (s.is b.mode) (s.rd b.burst)

def State.bucketOf (s : State) (b : BucketId) : Option Bucket :=
  match b with
  | .committed t => Tab.find t s.qos.committed
  | .peak t => Tab.find t s.qos.peak
  | .node n => Tab.find n s.qos.node

def State.putBucket (s : State) (b : BucketId) (v : Bucket) : State :=
  { s with qos := match b with
    | .committed t => { s.qos with committed := Tab.put t v s.qos.committed }
    | .peak t => { s.qos with peak := Tab.put t v s.qos.peak }
    | .node n => { s.qos with node := Tab.put n v s.qos.node } }

/-- Whole microseconds of the monotonic counter. -/
def State.nowUs (s : State) : Nat := s.tm.mono / us

/-- Tokens held now: the rate for every whole microsecond since the bucket was last brought up to date, saturating (R198). -/
def State.tokens (s : State) (b : BucketId) : Nat :=
  let cap := s.bucketCap b
  let r := s.rd b.rate
  if r == 0 then (if b.free then cap else 0)
  else match s.bucketOf b with
    | none => cap
    | some v => min cap (v.tokens + r * (s.nowUs - v.at_))

/-- Does the bucket hold a charge, clipped to its size (R199)? -/
def State.holds (s : State) (b : BucketId) (charge : Nat) : Bool :=
  (b.free && s.rd b.rate == 0) || decide (min charge (s.bucketCap b) ≤ s.tokens b)

/-- Take a charge, clipped to its size, from the bucket (R201). -/
def State.charge (s : State) (b : BucketId) (charge : Nat) : State :=
  if b.free && s.rd b.rate == 0 then s
  else s.putBucket b ⟨s.tokens b - min charge (s.bucketCap b), s.nowUs⟩

/-! ### Colour (R200) -/

inductive Colour where
  | green | yellow | red
  deriving DecidableEq, Repr

def Colour.code : Colour → Nat
  | .green => 0
  | .yellow => 1
  | .red => 2

/-- The pre-colour of a DSCP; a reserved code left by POLICY counts as red. -/
def State.dscpColour (s : State) (d : Nat) : Colour :=
  match s.rd (Reg.QOS_DSCP_COLOUR.at (d / 16)) / 4 ^ (d % 16) % 4 with
  | 0 => .green
  | 1 => .yellow
  | _ => .red

/-- Classify a tenant's head command with the tokens of this moment. -/
def State.colourOf (s : State) (t : Nat) (c : Cmd) : Colour :=
  let b := chargeIn (s.is (Reg.QOS_T_CFG_LEN_MODE.at t)) (s.byteCharge c)
  let priv := s.is (Reg.QOS_T_CFG_PRIV.at t)
  let pre := match c.dscp with
    | some d => if s.is (Reg.QOS_T_CFG_COLOUR_AWARE.at t) then s.dscpColour d else .green
    | none => .green
  let pre := if !priv && pre == .red then Colour.yellow else pre
  let hasC := s.holds (.committed t) b
  let hasP := s.rd (Reg.QOS_T_PIR.at t) == 0 || s.holds (.peak t) b
  if priv && s.is (Reg.QOS_T_CFG_MARKER.at t) then
    if pre == .green && hasC then .green
    else if pre != .red && hasP then .yellow
    else .red
  else if pre == .red || !hasP then .red
  else if pre == .yellow || !hasC then .yellow
  else .green

/-- The head of a tenant's queue. -/
def State.headOf (s : State) (t : Nat) : Option (Nat × Cmd) :=
  match Tab.getD t [] s.qos.held with
  | [] => none
  | id :: _ => (Tab.find id s.host.cmds).map fun c => (id, c)

/-- HEAD_COLOUR of Table 7.7. -/
def State.headColour (s : State) (t : Nat) : Nat :=
  match s.headOf t with
  | none => 3
  | some (_, c) => (s.colourOf t c).code

/-! ### Status (R207, R208) -/

/-- Committed rate beneath a node of the tenants in its length mode. -/
def State.committedBeneath (s : State) (n : Nat) : Nat :=
  (List.range 1024).foldl (fun r t =>
    if s.is (Reg.QOS_T_CFG_LEN_MODE.at t) == s.is (Reg.QOS_N_CFG_LEN_MODE.at n) && ((s.tenantPath t).getD []).contains n
    then r + s.rd (Reg.QOS_T_CIR.at t) else r) 0

/-- Show OVERSUB and PRIV_COUNT. -/
def State.showQos (s : State) : State :=
  let oversub := (List.range s.nodeCount).any fun n =>
    let r := s.rd (Reg.QOS_N_RATE.at n)
    r != 0 && decide (r < s.committedBeneath n)
  let priv := (List.range 1024).countP fun t => s.is (Reg.QOS_T_CFG_PRIV.at t)
  (s.wrB Reg.QOS_STATUS_OVERSUB oversub).wr Reg.QOS_STATUS_PRIV_COUNT priv

/-- Tenants that count as active (R208). -/
def State.activeTenants (s : State) : List Nat :=
  s.qos.lastAdmit.map (·.1) ++ (s.rc.qps.filter fun e => e.2.st != 0).map fun e => e.2.tenant

/-- The least latency tolerance of an active tenant. -/
def State.minLatTol (s : State) : Nat :=
  (s.activeTenants.map fun t => s.rd (Reg.QOS_T_LAT_LAT_TOL.at t)).foldl min 0xFFFF

def State.showLatTol (s : State) : State := s.wr Reg.QOS_STATUS_MIN_LAT_TOL s.minLatTol

end Sys2Proof.Machine
end

