-- ==== Sys2Proof/Machine/PowerBase.lean ====
section
/-! DEFINITION. Which switchable domains are powered (R533 to R535), and the device-state tolerances (R536). -/

namespace Sys2Proof.Machine

/-- Does a pump tile have work: commands admitted to it? -/
def State.pumpBusy (s : State) (p : Nat) : Bool :=
  s.host.cmds.any fun e => !e.2.admin && e.2.pump == p && e.2.stage != .held

/-- Commands in a pump tile's admission queue. -/
def State.pumpQueue (s : State) (p : Nat) : Nat :=
  s.host.cmds.countE fun _ c => c.stage == .admitted && !c.admin && c.pump == p

/-- The pump tile of PUMP_HOST_MASK that S1 and S2 keep powered. -/
def State.keptPump (s : State) : Nat :=
  ((List.range 16).find? fun p => s.params.pumpMask / 2 ^ p % 2 == 1 && !s.domainFailed (92 + p)).getD 0

/-- Has a sequencer cluster's class work (Table 19.1, Table 20.1)?  The 100 µs after its last work are not followed (log entry 39). -/
def State.clusterBusy (s : State) (k : Nat) : Bool :=
  match k with
  | 0 => (s.host.cmds.any fun e => e.2.admin && e.2.stage != .aer) || !s.seq.running.isEmpty
  | 1 => s.is Reg.PAR_REBUILD_STATUS_ACTIVE
  | 2 => s.pod.engaged.isSome || s.pod.proposal.isSome || !s.pod.fencing.isEmpty || !s.pod.moving.isEmpty
  | _ => s.is Reg.CRY_AUDIT_VERIFY_BUSY

/-- Is the domain powered (Table 20.1, Table 20.2)? -/
def State.domainOn (s : State) (d : Nat) : Bool :=
  let st := s.devState
  let active := s.host.cmds.any fun e => !e.2.admin && e.2.stage != .held
  !s.domainFailed d &&
  (if d < 48 then
      let lk := s.rd (Reg.SKL_LINK_STATE.at d)
      st < 3 && lk != 0 && lk != 9 && s.params.sklEnable / 2 ^ d % 2 == 1
    else if d < 56 then s.params.ethMode.getD ((d - 48) / 2) 0 != 0
    else if d < 60 then s.params.ethMode.getD (d - 56) 0 != 0
    else if d < 92 then st == 0 || d - 60 < s.params.sumpBanks || d - 60 - s.params.sumpBanks < s.mfdBanks
    else if d < 108 then st == 0 || (st < 3 && (s.pumpBusy (d - 92) || d - 92 == s.keptPump))
    else if d < 128 then st == 0 || (st < 3 && active)
    else if d < 132 then s.is Reg.CRY_LA_LOCK_OWNER
    else if d < 140 then st < 3 && s.rd Reg.MEM_STATUS_TRAINED / 2 ^ (d - 132) % 2 == 1
    else if d < 142 then d - 140 < s.params.peerMode
    else if d == 142 then !s.pcie.perstLow
    else st == 0 || (st < 3 && s.clusterBusy (d - 143)))

/-- `PWR_DOMAINn`: domains 32n to 32n + 31; bits above 146 read 0. -/
def State.domainWord (s : State) (n : Nat) : Nat :=
  (List.range 32).foldl (fun w i => if 32 * n + i < 147 && s.domainOn (32 * n + i) then w + 2 ^ i else w) 0

/-- The switchable domain of a block that has one of its own. -/
def blockDomain : Block → Option Nat
  | .skl n => some n
  | .eth n => some (56 + n)
  | .pump n => some (92 + n)
  | .pla => some 140
  | .plb => some 141
  | _ => none

/-- A BAR0 access to a block whose domain is gated by the device state wakes that domain only (R534, R537); the common registers lie
outside it (R557). -/
def State.accessWake (s : State) (b : Block) (off : Nat) : State :=
  if s.devState == 0 || off / 0x20 == commonBase b / 0x20 then s
  else match blockDomain b with
    | none => s
    | some d => if s.domainOn d then s else s.wr Reg.PWR_WAKE_CAUSE 7

/-- Maximum exit latency of a device state, µs (Table 20.2). -/
def exitLatency (st : Nat) : Nat :=
  match st with
  | 0 => 0
  | 1 => 5
  | 2 => 80
  | _ => 2000

/-- T_min (R536), 0xFFFF for no constraint. -/
def State.tMin (s : State) : Nat := min s.minLatTol (s.rd Reg.PCIE_LTR_DEV_TOL)

/-- Does a tolerance allow a state? -/
def tolerates (t st : Nat) : Bool := t == 0xFFFF || decide (exitLatency st ≤ t)

end Sys2Proof.Machine
end

