-- ==== Sys2Proof/Machine/Clock.lean ====
section
/-! DEFINITION. Time passing: the clocks (R325 to R327), and what the PMU counts by time (R523, R524). -/

namespace Sys2Proof.Machine

/-! ### Tile events (R524, Table 19.4) -/

def evCmdStart : Nat := 1
def evCmdDone : Nat := 2
def evMapLookup : Nat := 3
def evMapWait : Nat := 4
def evSumpHit : Nat := 5
def evReconRead : Nat := 6
def evSklRead : Nat := 7
def evSklProgram : Nat := 8
def evAdmitFull : Nat := 0x0A
def evSumpWait : Nat := 0x0B
def evCtxWait : Nat := 0x0C
def evPiError : Nat := 0x0E
def evCrcError : Nat := 0x0F

/-- Is a condition of kind STATE true at a tile?  PARITY_BUSY and XTS_WAIT last no time in this model. -/
def State.tileCond (s : State) (t code : Nat) : Bool :=
  let waits (g : Stage) := s.host.cmds.any fun e => e.2.stage == g && e.2.pump == t
  if code == evMapWait then waits .waitMap
  else if code == evAdmitFull then decide (256 ≤ s.pumpQueue t)
  else if code == evSumpWait then waits .waitSlots
  else if code == evCtxWait then s.rc.fetching.any fun q => (Tab.getD q {} s.rc.qps).pump == t &&
    !((Tab.getD q {} s.rc.qps).sendQueue.isEmpty && (Tab.getD q {} s.rc.qps).fetchQueue.isEmpty)
  else false

/-- The counters that are enabled: (tile, counter). -/
def State.tileCounters (s : State) : List (Nat × Nat) :=
  if s.is Reg.PMU_CTL_FREEZE then []
  else (s.regs.active.filter fun e => e.2 != 0 && decide (0x3E01050 ≤ e.1 / 32) && decide (e.1 / 32 < 0x3E02000) &&
      e.1 % 32 == 9).map fun e => ((e.1 / 32 - 0x3E01000) / 0x100, (e.1 / 32 - 0x3E01000) % 0x100 / 4 - 20)

/-- Event code and mode of a counter. -/
def State.tileEvsel (s : State) (x : Nat × Nat) : Nat × Bool :=
  (s.rd (Reg.PMU_T_EVSEL_EVENT.at2 x.1 x.2), s.is (Reg.PMU_T_EVSEL_MODE.at2 x.1 x.2))

/-- Occurrences of an event of kind PULSE at a tile, in one cycle (R524). -/
def State.tileEvent (s : State) (t code : Nat) (n : Nat := 1) : State :=
  s.tileCounters.foldl (fun s x =>
    let e := s.tileEvsel x
    if x.1 == t && e.1 == code && n != 0 then s.count ((Reg.PMU_CNT_TILE x.2).at t) (if e.2 then 1 else n) else s) s

/-- An event at a tile that the spec does not name (work that is no host command's): a free one of the sixteen. -/
def State.freeTileEvent (s : State) (code : Nat) : State :=
  if s.tileCounters.isEmpty then s else s.freeNext.tileEvent (s.freeVal 4) code

/-- Transitions from false to true of the conditions between `s` and `t` (R524, edge mode). -/
def State.tileEdges (s t : State) : State :=
  t.tileCounters.foldl (fun u x =>
    let e := t.tileEvsel x
    if !e.2 && t.tileCond x.1 e.1 && !s.tileCond x.1 e.1 then u.count ((Reg.PMU_CNT_TILE x.2).at x.1) else u) t

/-! ### Time passing -/

/-- CORE cycles in `d` ns, at 1.6 GHz (Table 20.3). -/
def coreCycles (d : Nat) : Nat := d * 8 / 5

/-- The counters after `d` ns: level-mode counters of conditions that are true count the cycles. -/
def State.accrueCounts (s : State) (d : Nat) : Tab (BitVec 48 × Bool) :=
  s.tileCounters.foldl (fun (c : Tab (BitVec 48 × Bool)) (x : Nat × Nat) =>
    let e := s.tileEvsel x
    if e.2 && s.tileCond x.1 e.1 then
      let k := ((Reg.PMU_CNT_TILE x.2).at x.1).off
      let v := (Tab.getD k (0, false) c).1.toNat + (coreCycles (s.tm.mono + d) - coreCycles s.tm.mono)
      Tab.put k (BitVec.ofNat 48 v, (Tab.getD k (0, false) c).2 || decide (2 ^ 48 ≤ v)) c
    else c) s.regs.counts

/-- The powered time of each tile after `d` ns. -/
def State.accrueTiles (s : State) (d : Nat) : Tab Nat :=
  if s.is Reg.PMU_CTL_FREEZE || d == 0 then s.pmu.tileNs
  else (List.range 16).foldl (fun (t : Tab Nat) i => if s.domainOn (92 + i) then Tab.upd i 0 (· + d) t else t) s.pmu.tileNs

/-- CORE cycles a tile has been powered for (R523). -/
def State.tileCycles (s : State) (t : Nat) : Nat := coreCycles (Tab.getD t 0 s.pmu.tileNs)

/-- The times that the SMART log keeps (Table 10.3), in ns under the offset of their field: an I/O command in flight, SERVE, and the
composite temperature at or above WCTEMP and CCTEMP. -/
def State.accrueSmart (s : State) (d : Nat) : Tab Nat :=
  let add (yes : Bool) (off : Nat) (t : Tab Nat) : Tab Nat := if yes && d != 0 then Tab.upd off 0 (· + d) t else t
  add (s.host.cmds.any fun e => !e.2.admin && e.2.stage != .held) 96 (add s.serving 128
    (add (s.is Reg.PWR_THERM_STATUS_WARN) 192 (add (s.is Reg.PWR_THERM_STATUS_THROTTLE) 196 s.ftl.smart)))

/-- Monotonic and shelf time pass together by `d` ns; secure time follows shelf time upwards (R325-R327). -/
def State.advance (s : State) (d : Nat) : State :=
  { s with
    tm := { s.tm with
      mono := s.tm.mono + d, shelf64 := s.tm.shelf64 + BitVec.ofNat 64 d
      secure := max s.tm.secure (s.tm.shelf64 + BitVec.ofNat 64 d).toNat }
    regs := { s.regs with counts := s.accrueCounts d }
    ftl := { s.ftl with smart := s.accrueSmart d }
    pmu := { s.pmu with tileNs := s.accrueTiles d } }

/-- The clocks have reached at least the monotonic time `t`: the command stands for a moment not before it. -/
def State.atLeast (s : State) (t : Nat) : State := s.advance (t - s.tm.mono)

/-- The clocks have reached at least the shelf time `t`. -/
def State.atShelf (s : State) (t : Nat) : State := s.advance (t - s.tm.shelf)

end Sys2Proof.Machine
end

