-- ==== Sys2Proof/Machine/Flags.lean ====
section
/-! DEFINITION. Status raised on the way out: MSI-X messages and pending bits (R487, R503), events, their rings, folding
and history (chapter 21, R560), and the audit chain (R449-R451). -/

namespace Sys2Proof.Machine

/-! ### MSI-X (R487, R503) -/

/-- A function of the endpoint; at reset nothing is enabled and every vector is masked. -/
def State.fnOf (s : State) (fn : Nat) : PcieFn := Tab.getD fn {} s.pcie.fns

/-- Change a function. -/
def State.updFn (s : State) (fn : Nat) (g : PcieFn → PcieFn) : State :=
  { s with pcie := { s.pcie with fns := Tab.upd fn {} g s.pcie.fns } }

/-- `PCIE_FN_STATUSf.MASTER` codes. -/
def mstRunning : Nat := 0
def mstHalted : Nat := 1
def mstFlr : Nat := 2

/-- May the master engine send for this function (R496, R503)? -/
def State.canMaster (s : State) (fn : Nat) : Bool :=
  s.pcie.linkUp && (s.fnOf fn).bme && !(s.fnOf fn).d3hot && s.rd (Reg.PCIE_FN_STATUS_MASTER.at fn) == mstRunning

/-- Signal a vector: the message is sent, or the pending bit records what a mask or a halted master keeps back
(R487, R503).  PF0 signals nothing in image recovery mode (R487).  No command writes the tables of PF1 and the VFs: their vectors count as
unmasked by the host (DESIGN CHOICE). -/
def State.msix (s : State) (fn vector : Nat) : State :=
  let f := s.fnOf fn
  let v := Tab.getD vector {} f.vecs
  if fn == 0 && s.prim.recovery then s
  else if !f.msixEnable then s
  else if (fn == 0 && v.masked) || f.msixMask || !s.canMaster fn then
    s.updFn fn fun f => { f with vecs := Tab.put vector { v with pending := true } f.vecs }
  else (s.send (.msix fn vector)).count Reg.PCIE_CNT_WRITES_ISSUED

/-! ### Events (chapter 21) -/

/-- Severities of Table 21.1. -/
def sevInfo : Nat := 0
def sevCorrected : Nat := 1
def sevUncorrected : Nat := 2
def sevFatal : Nat := 3

/-- ARG0 where there is no instance (R545). -/
def noInstance : Nat := 0xFFFFFFFF

/-- The group of a block (Table 21.3). -/
def eventGroup : Block → Nat
  | .glb | .img | .pwr | .pmu => 0
  | .time => 1
  | .pcie => 2
  | .eth _ | .well | .qos => 3
  | .mfd => 4
  | .pump _ => 5
  | .ftl => 6
  | .par => 7
  | .skl _ => 8
  | .slot => 9
  | .sump => 10
  | .mem => 11
  | .pla | .plb | .pod => 12
  | .seq => 13
  | .cry => 14

/-- Group NOTICE (Table 21.3). -/
def groupNotice : Nat := 15

/-- The route field of a severity (Table 21.7). -/
def routeField (group severity : Nat) : Field :=
  (match severity with
   | 0 => Reg.GLB_EVT_ROUTE_INFO
   | 1 => Reg.GLB_EVT_ROUTE_CORRECTED
   | 2 => Reg.GLB_EVT_ROUTE_UNCORRECTED
   | _ => Reg.GLB_EVT_ROUTE_FATAL).at group

/-- A record of ring `r` is lost: LOST advances, saturating, and the next record written says so (R547). -/
def State.loseRecord (s : State) (r : Nat) : State :=
  let s := s.wr (Reg.GLB_EVT_LOST.at r) (min (2 ^ 32 - 1) (s.rd (Reg.GLB_EVT_LOST.at r) + 1))
  { s with evt := { s.evt with lostBefore := r :: s.evt.lostBefore.filter (· != r) } }

/-- Send ring `r`'s message and disarm it (R548). -/
def State.ringMessage (s : State) (r : Nat) : State :=
  let s := (s.msix 0 (1 + r)).wr (Reg.GLB_EVT_CONS_ARM.at r) 0
  { s with evt := { s.evt with coalescing := Tab.del r s.evt.coalescing } }

/-- A record has been written to ring `r`: its message goes at once, or after COALESCE, where the ring is armed
(R548). -/
def State.ringNotify (s : State) (r : Nat) : State :=
  if !s.is (Reg.GLB_EVT_CONS_ARM.at r) then s
  else if s.rd (Reg.GLB_EVT_COAL_COALESCE.at r) == 0 then s.ringMessage r
  else if Tab.has r s.evt.coalescing then s
  else { s with evt := { s.evt with
    coalescing := Tab.put r (s.tm.mono + s.rd (Reg.GLB_EVT_COAL_COALESCE.at r) * us) s.evt.coalescing } }

/-- Write a record to ring `r` (R547): lost where the ring is disabled or full; else at index PROD with the ring's
phase, which flips when PROD wraps. -/
def State.ringWrite (s : State) (r : Nat) (e : EvtRecord) : State :=
  let size := 2 ^ s.rd (Reg.GLB_EVT_SIZE_SIZE_LOG2.at r)
  let prod := s.rd (Reg.GLB_EVT_PROD.at r)
  let next := (prod + 1) % size
  if !s.is (Reg.GLB_EVT_SIZE_EN.at r) then s.loseRecord r
  else if next == s.rd (Reg.GLB_EVT_CONS.at r) then s.loseRecord r
  else
    let phase := s.is (Reg.GLB_EVT_PROD_PHASE.at r)
    let base := s.rd64 (Reg.GLB_EVT_BASE_LO.at r) (Reg.GLB_EVT_BASE_HI.at r)
    let s := (s.send (.ring r prod (base + 32 * prod)
      { e with phase := phase, lostBefore := s.evt.lostBefore.contains r })).count Reg.PCIE_CNT_WRITES_ISSUED
    let s := { s with evt := { s.evt with lostBefore := s.evt.lostBefore.filter (· != r) } }
    let s := s.wr (Reg.GLB_EVT_PROD.at r) next
    let s := if next == 0 then s.wrB (Reg.GLB_EVT_PROD_PHASE.at r) (!phase) else s
    s.ringNotify r

/-- Do records wait inside the controller: PF0 may not master, or STRUCT of a warm reset has not ended (R554)? -/
def State.eventsWait (s : State) : Bool :=
  s.prim.warm || !(s.fnOf 0).bme

/-- Route a record to ring `r`, through the internal queue of 1,024 while records wait (R554). -/
def State.ringRoute (s : State) (r : Nat) (e : EvtRecord) : State :=
  if s.eventsWait then
    if s.evt.queue.length < 1024 then { s with evt := { s.evt with queue := s.evt.queue ++ [(r, e)] } }
    else s.loseRecord r
  else s.ringWrite r e

/-- Write the records that waited, in order (R554). -/
def State.drainEvents (s : State) : State :=
  if s.eventsWait then s
  else s.evt.queue.foldl (fun s e => s.ringWrite e.1 e.2) { s with evt := { s.evt with queue := [] } }

/-- Keep a record in the history ring of 256, newest first (R550). -/
def State.keepHistory (s : State) (e : EvtRecord) : State :=
  let s := { s with evt := { s.evt with history := (e :: s.evt.history).take 256 } }
  s.wr Reg.GLB_HIST_COUNT (s.rd Reg.GLB_HIST_COUNT + 1)

/-- The SEQ a suppressed record carries: that of the last event issued, 0 when none has been (R560). -/
def State.lastSeq (s : State) : Nat := s.evt.seq - 1

/-- Raise an event (R545-R550, R560): EVT_PEND is set; a disabled severity writes no ring record but an UNCORRECTED
one is kept in the history, SUPPRESSED; a CORRECTED one within CORR_INTERVAL of the last of its OFFSET is folded;
UNCORRECTED and FATAL ones are kept in the history before the ring. -/
def State.raiseIn (s : State) (group : Nat) (severity : Nat) (b : Block) (offset arg0 arg1 : Nat) : State :=
  let s := s.wr (fEvtPend b) (s.rd (fEvtPend b) ||| 2 ^ severity)
  let enabled := severity == sevFatal || s.rd (fEvtEn b) / 2 ^ severity % 2 == 1
  let rec0 : EvtRecord :=
    { seq := s.evt.seq % 2 ^ 32, severity := severity, block := blockCode b, offset := offset,
      arg0 := arg0, arg1 := arg1, shelf := s.tm.shelf, history := decide (sevUncorrected ≤ severity) }
  if !enabled then
    if severity == sevUncorrected then
      s.keepHistory { rec0 with seq := s.lastSeq % 2 ^ 32, suppressed := true }
    else s
  else
    let fkey := blockCode b * 2 ^ 26 + offset
    let last := Tab.find fkey s.evt.folded
    let fold := severity == sevCorrected && (match last with
      | none => false
      | some (t, _) => decide (s.tm.mono < t + s.rd Reg.GLB_EVT_CTL_CORR_INTERVAL * ms))
    if fold then
      { s with evt := { s.evt with folded := Tab.updIf fkey (fun e => (e.1, e.2 + 1)) s.evt.folded } }
    else
      let e := if severity == sevCorrected
        then { rec0 with arg1 := (last.getD (0, 0)).2 + 1 } else rec0
      let s := if severity == sevCorrected
        then { s with evt := { s.evt with folded := Tab.put fkey (s.tm.mono, 0) s.evt.folded } } else s
      let s := { s with evt := { s.evt with seq := s.evt.seq + 1 } }
      let s := if sevUncorrected ≤ severity then s.keepHistory e else s
      s.ringRoute (s.rd (routeField group severity) % 256) e

/-- Raise an event in its block's own group (R546). -/
def State.raise (s : State) (severity : Nat) (b : Block) (offset : Nat) (arg0 : Nat := noInstance)
    (arg1 : Nat := 0) : State :=
  s.raiseIn (eventGroup b) severity b offset arg0 arg1

/-- `n` errors of a unit have been corrected: counted, and each a CORRECTED event whose detail is the counter (Table 21.1, R545); those
beyond the first fold into the next event (R549). -/
def State.corrected (s : State) (b : Block) (c : Counter) (n : Nat) (arg0 : Nat := noInstance) : State :=
  if n == 0 then s
  else
    let s := (s.count c n).raise sevCorrected b c.off arg0
    if s.rd (fEvtEn b) / 2 ^ sevCorrected % 2 == 1 then
      let more (e : Nat × Nat) : Nat × Nat := (e.1, e.2 + (n - 1))
      { s with evt := { s.evt with folded := Tab.updIf (blockCode b * 2 ^ 26 + c.off) more s.evt.folded } }
    else s

/-! ### Errors of the endpoint (R510) -/

/-- Bits of AER's Uncorrectable Error Status (PCIe 6.0; PRESUMED). -/
def aerPoisoned : Nat := 12
def aerTimeout : Nat := 14
def aerUnexpected : Nat := 16
def aerMalformed : Nat := 18
def aerEcrc : Nat := 19
def aerUnsupported : Nat := 20

/-- Set bits of a configuration word that software clears by writing 1. -/
def PcieFn.orWord (f : PcieFn) (off bits : Nat) : PcieFn :=
  { f with scratch := Tab.upd off 0 (fun (w : W32) => w ||| BitVec.ofNat 32 bits) f.scratch }

/-- Report an uncorrectable error of a function: AER's status, and an event of PF0 (R510). -/
def State.aerReport (s : State) (fn bit : Nat) : State :=
  ((s.updFn fn fun f => f.orWord 0x104 (2 ^ bit)).send (.aer fn bit)).raise sevUncorrected .pcie (0x400300 + 4 * fn) fn bit

/-- A request that no part of the endpoint takes (R489): Unsupported Request, counted and reported. -/
def State.unsupportedReq (s : State) (fn : Nat) : State :=
  ((s.send (.unsupported fn)).count Reg.PCIE_CNT_UR_SENT).aerReport fn aerUnsupported

/-- Does a BAR0 access of the management host reach a block: is the block decoded (R489) and not in reset (R558)? -/
def State.reached (s : State) (b : Block) : Bool := s.decodeOf b == .all && !s.is (fResetting b)

/-- What an access comes to that does not reach its block: Unsupported Request where the block is not decoded (R489). -/
def State.unreached (s : State) (b : Block) : State := if s.decodeOf b == .none then s.unsupportedReq 0 else s

/-! ### The audit chain (R449-R451) -/

/-- `CRY_AUDIT_HEAD`: the SEQ of the next record. -/
def State.auditHead (s : State) : Nat := s.rd64 Reg.CRY_AUDIT_HEAD_LO Reg.CRY_AUDIT_HEAD_HI

/-- `CRY_AUDIT_ARCH`. -/
def State.auditArch (s : State) : Nat := s.rd64 Reg.CRY_AUDIT_ARCH_LO Reg.CRY_AUDIT_ARCH_HI

/-- The ring's capacity in records: what the CRY partition leaves behind its fixed areas (R432). -/
def State.auditCapacity (s : State) : Nat := (s.params.mramSize.getD 2 192 * 0x10000 - 0x190000) / 128

/-- FULL (R451): HEAD − ARCH has reached the capacity less 64. -/
def State.auditFull (s : State) : Bool := decide (s.auditCapacity - 64 ≤ s.auditHead - s.auditArch)

/-- Are the 64 records held back used up as well (R451)? -/
def State.auditSpent (s : State) : Bool := decide (s.auditCapacity ≤ s.auditHead - s.auditArch)

/-- Who acted (Table 16.8, ACTOR_KIND and ACTOR). -/
structure Actor where
  kind : Nat
  id : Nat := 0
  deriving DecidableEq, Repr

def actController : Actor := ⟨0, 0⟩
def actManagement : Actor := ⟨1, 0⟩

/-- Record types of Table 16.8. -/
def audChainStart : Nat := 1
def audAdmin : Nat := 2
def audRegister : Nat := 3
def audKeyDestroy : Nat := 4
def audRetention : Nat := 5
def audTimeStep : Nat := 6
def audStepOverride : Nat := 7

/-- Show FULL and CAPACITY in `CRY_AUDIT_STATUS`. -/
def State.auditShow (s : State) : State :=
  (s.wrB Reg.CRY_AUDIT_STATUS_FULL s.auditFull).wr Reg.CRY_AUDIT_STATUS_CAPACITY s.auditCapacity

/-- The 56 bytes of DETAIL (Table 16.8).  DESIGN CHOICE (log entry 56): its parts lie one behind another in the table's order, each in its
own width, and zeros fill the rest. -/
def AuditDetail.bytes (d : AuditDetail) : List Byte :=
  let parts := match d with
    | .empty => []
    | .admin ds st => ds.flatMap (leBytes 4) ++ leBytes 2 st
    | .register o v r => leBytes 4 o ++ leBytes 4 v ++ leBytes 1 (if r then 1 else 0)
    | .keyDestroy f c => leBytes 8 f ++ leBytes 1 (match c with
      | .vault => 0
      | .nsDelete => 1
      | .format => 2
      | .expiry => 3
      | .peer => 4)
    | .retention o n e h => leBytes 1 o ++ leBytes 1 n ++ leBytes 8 e ++ leBytes 8 h
    | .timeStep x y => leBytes 8 x ++ leBytes 8 y
  parts.take 56 ++ zeros (56 - parts.length)

/-- Bytes 0x00 to 0x6F of an audit record (Table 16.8), which its MAC covers. -/
def AuditBody.bytes (b : AuditBody) : List Byte :=
  leBytes 8 b.seq ++ leBytes 8 b.secure ++ leBytes 8 b.shelf ++ leBytes 2 b.type ++ leBytes 1 b.actorKind ++
    leBytes 1 (if b.refused then 1 else 0) ++ leBytes 4 b.actor ++ leBytes 4 b.nsid ++ leBytes 2 b.slot ++ zeros 2 ++
    b.detail.bytes ++ leBytes 16 b.prevMac.toNat

/-- The 128 bytes of an audit record. -/
def AuditRec.bytes (r : AuditRec) : List Byte := r.body.bytes ++ leBytes 16 r.mac.toNat

/-- The AES-256-GMAC tag of a record under the key in slot 0; the IV is the low serial word, then SEQ as a u64 (R450). -/
def State.auditMac (s : State) (b : AuditBody) : BitVec 128 :=
  let keys := aesKeys (nats (Tab.getD 0 {} s.cry.vault).key)
  BitVec.ofNat 128 (leNat (gcmTag keys (nats (leBytes 4 s.img.fuses.serial ++ leBytes 8 b.seq)) (nats b.bytes) []))

/-- Append an audit record (R450), chained on the previous one's MAC. -/
def State.audit (s : State) (type : Nat) (a : Actor) (refused : Bool) (nsid : Nat := 0) (slot : Nat := 0xFFFF)
    (detail : AuditDetail := .empty) : State :=
  let seq := s.auditHead
  let body : AuditBody :=
    { seq := seq, secure := s.tm.secure, shelf := s.tm.shelf, type := type, actorKind := a.kind, refused := refused,
      actor := a.id, nsid := nsid, slot := slot, detail := detail
      prevMac := match s.cry.audit with
        | [] => 0
        | r :: _ => r.mac }
  let r : AuditRec := ⟨body, s.auditMac body⟩
  let s := { s with cry := { s.cry with audit := (r :: s.cry.audit).take s.auditCapacity } }
  let s := s.wr64 Reg.CRY_AUDIT_HEAD_LO Reg.CRY_AUDIT_HEAD_HI (seq + 1)
  (s.count Reg.CRY_CNT_AUDIT_RECORDS).auditShow

/-- Append a controller-originated record, which may use the 64 held back (R451); nothing where those are spent. -/
def State.auditOwn (s : State) (type : Nat) (refused : Bool) (nsid : Nat := 0) (slot : Nat := 0xFFFF)
    (detail : AuditDetail := .empty) : State :=
  if s.auditSpent then s else s.audit type actController refused nsid slot detail

/-- A register write of R449 by the management host is recorded. -/
def State.audited (s : State) (off : Nat) (value : W32) (refused : Bool) (nsid : Nat := 0) (slot : Nat := 0xFFFF) :
    State :=
  s.audit audRegister actManagement refused nsid slot (.register off value.toNat refused)

end Sys2Proof.Machine
end

