-- ==== Sys2Proof/Machine/RegWords.lean ====
section
/-! DEFINITION. A whole BAR0 word written or read: every field of the word by its access code and class
(R11-R15, R71-R76, R558, R559, R562), the 64-bit rule (R12), decoding (R489, R68, R78, R98) and what single
registers add to the general rule. -/

namespace Sys2Proof.Machine

/-- Fields that a row of the table of commands writes: a general register write leaves them to that command. -/
def ownRow : List Field :=
  [Reg.GLB_FATAL_VALID, Reg.SUMP_STATUS_SAVE_LOST, Reg.SLOT_CTL_EN, Reg.SLOT_CTL_AUTO_RETRY, Reg.CRY_LA_PROD,
   Reg.CRY_AUDIT_ARCH_LO, Reg.CRY_AUDIT_ARCH_HI, Reg.PCIE_WIN_CTL_EN, Reg.PMU_BW_CFG_WINDOW, Reg.GLB_EVT_SIZE_EN,
   Reg.GLB_EVT_CONS]

/-- Is the field one of those, or a common register's RUN? -/
def hasOwnRow (f : Field) : Bool :=
  (ownRow.any fun g => g.lo == f.lo && (instanceAt g f.off).isSome) ||
  (match blockAt f.off with
   | none => false
   | some b => f.off == commonBase b + 4)

/-- The other word of a 64-bit field: for a high word its low word; for a low word its high word (R12). -/
def highOf (f : Field) : Option Field :=
  Reg.pairs.findSome? fun p => match instanceAt p.1 f.off with
    | some g => if g.lo == f.lo && p.1.lo == f.lo then instanceAt p.2 (f.off + (p.2.off - p.1.off)) else none
    | none => none

def lowOf (f : Field) : Option Field :=
  Reg.pairs.findSome? fun p => match instanceAt p.2 f.off with
    | some _ => instanceAt p.1 (f.off - (p.2.off - p.1.off))
    | none => none

/-- Does the field's table declare out-of-range writes ignored with RANGE set (R555: Tables 21.7 and 21.8)? -/
def rangeKept (f : Field) : Bool :=
  (0x400 ≤ f.off && f.off < 0x500) || (0x1000 ≤ f.off && f.off < 0x3000)

/-- Is a value inside the field's range and no reserved code? -/
def inRange (f : Field) (v : Nat) : Bool :=
  decide (f.least ≤ v) && decide (v ≤ f.most) && !f.reserved.contains v

/-- The launch register a BAR0 offset lies in (Table 12.7). -/
def launchAt (off : Nat) : Option Nat :=
  if 0x300400 ≤ off && off < 0x300600 then some ((off - 0x300400) / 0x20) else none

/-- Owner code of the management host at the look-aside lock (R441). -/
def laHost : Nat := 1

/-- Write a field that is not shadowed (R562), with what its register adds: launch registers 14 and 15 read as RO to
software (R334) and an armed one keeps its fields (R335); only the holder writes the look-aside ring (R441); the event
registers keep a field set outside its range (R555); bit 3 of EVT_EN reads 1 (Table 22.1); PERIOD arms the watchdog
(R552); offset 0x0400 of PCIE holds nothing (Table 18.8). -/
def State.wrDirect (s : State) (f : Field) (v : Nat) : State :=
  match launchAt f.off with
  | some k =>
    if 14 ≤ k then s
    else if s.rd (Reg.TIME_LAUNCH_STATUS_STATE.at k) == 1 && f.acc == .rw then s.setErr .time 9
    else s.wr f v
  | none =>
    if f.off == 0x400400 then s
    else if f.off == Reg.CRY_LA_RING_LO.off || f.off == Reg.CRY_LA_RING_HI.off || f.off == Reg.CRY_LA_RING_SIZE.off then
      if s.rd Reg.CRY_LA_LOCK_OWNER == laHost then s.wr f v else s.setErr .cry 8
    else if rangeKept f then
      if !inRange f v then s.setErr .glb 1
      else if (f.off % 0x20 == 8 && 0x1000 ≤ f.off && f.lo == 0) && s.rd { f with lo := 31, width := 1, reset := 0 } == 1
          && v != s.rd f then s.setErr .glb 1
      else if (f.off % 0x20 == 0 && 0x1000 ≤ f.off) && v % 4096 != 0 then s.setErr .glb 1
      else if f.key == Reg.GLB_WDOG_PERIOD.key then
        { (s.wr f v).wr Reg.GLB_WDOG_WARNED 0 with evt := { s.evt with kickAt := s.tm.mono } }
      else s.wr f v
    else if f.acc == .rws && f.width == 4 && f.lo == 0 && (blockAt f.off).any (fun b => f.off == commonBase b + 16) then
      s.wr f (v ||| 8)
    else s.wr f v

/-- A value reaches an RW or RWS field of class live: its shadow, or the field itself where not shadowed (R562); while
a pod launch is agreed, shadows keep and LIVE_LOCKED is set (R76). -/
def State.wrLive (s : State) (f : Field) (v : Nat) : State :=
  if f.shadowed then
    if s.is Reg.GLB_COMMIT_STATUS_LOCKED then s.setErr .glb 9 else s.wrShadow f v
  else s.wrDirect f v

/-- Both words of a 64-bit value by R12: a low word waits for its high word.  A high word written with no low word waiting takes effect
alone and the low word stays: R12 does not say (DESIGN CHOICE: log entry 57). -/
def State.wrPaired (s : State) (f : Field) (v : Nat) (put : State → Field → Nat → State) : State :=
  match highOf f with
  | some _ => { s with regs := { s.regs with writeLatch := Tab.put f.off (BitVec.ofNat 32 v) s.regs.writeLatch } }
  | none =>
    match lowOf f with
    | none => put s f v
    | some l =>
      match Tab.find l.off s.regs.writeLatch with
      | none => put s f v
      | some w =>
        put (put { s with regs := { s.regs with writeLatch := Tab.del l.off s.regs.writeLatch } } l w.toNat) f v

/-- Write one field of a word from the bits of the value (R14, R15, R72). -/
def State.wrField (s : State) (b : Block) (value : W32) (f : Field) : State :=
  let v := value.toNat / 2 ^ f.lo % 2 ^ f.width
  if hasOwnRow f then s
  else match f.acc with
    | .ro | .img | .rc | .wo | .w1s => s
    | .w1c => s.wr f (s.rd f - (s.rd f &&& v))
    | .rw | .rws =>
      match f.cls with
      | .static => s
      | .quiescent =>
        if s.stopped b then s.wrPaired f v fun s f v => s.wr f v else s.setErr b 0
      | .live => s.wrPaired f v State.wrLive

/-- A WRAP bit written 1 is cleared (R128). -/
def State.wrWrap (s : State) (off : Nat) (value : W32) : State :=
  match Reg.counters.find? fun c => decide (c.off + 4 ≤ off) &&
      (if c.stride = 0 then off == c.off + 4
       else (off - (c.off + 4)) % c.stride == 0 && decide ((off - (c.off + 4)) / c.stride < c.count)) with
  | none => s
  | some _ =>
    if value.toNat / 2 ^ 31 == 1 then
      { s with regs := { s.regs with counts := Tab.updIf (off - 4) (fun e => (e.1, false)) s.regs.counts } }
    else s

/-- PF0's MSI-X table lies at 0x060_0000 of BAR0 (R487): address, data and mask; a vector unmasked with its pending
bit set is signalled. -/
def State.wrMsixTable (s : State) (off : Nat) (value : W32) : State :=
  let k := (off - 0x600000) / 16
  let v := Tab.getD k {} (s.fnOf 0).vecs
  let v' : MsixVec := match (off / 4) % 4 with
    | 0 => { v with addr := v.addr / 2 ^ 32 * 2 ^ 32 + value.toNat }
    | 1 => { v with addr := v.addr % 2 ^ 32 + 2 ^ 32 * value.toNat }
    | 2 => { v with data := value.toNat }
    | _ => { v with masked := value.toNat % 2 == 1 }
  let s := s.updFn 0 fun f => { f with vecs := Tab.put k v' f.vecs }
  if v.masked && !v'.masked && v'.pending then
    (s.updFn 0 fun f => { f with vecs := Tab.put k { v' with pending := false } f.vecs }).msix 0 k
  else s

/-- Is the offset one of the FTL namespace registers, each write of which is audited (R449, R564)? -/
def nsRegister (off : Nat) : Bool := decide (0x1C00300 ≤ off ∧ off < 0x1C0031C)

/-- Every field of the word, in table order (the word of an allocated, running or stopped block). -/
def State.wrFields (s : State) (b : Block) (off : Nat) (value : W32) : State :=
  (fieldsAt off).foldl (fun s f => s.wrField b value f) (s.wrWrap off value)

/-- A write to a block that BAR0 decodes. -/
def State.wrDecoded (s : State) (b : Block) (off : Nat) (value : W32) : State :=
  if s.is (fResetting b) && off / 0x20 != commonBase b / 0x20 then s
  else if s.absentNode off then s
  else if decide (0x600000 ≤ off ∧ off < 0x608000) then s.wrMsixTable off value
  else if nsRegister off then
    if s.auditFull then s.setErr .cry 9
    else (s.wrFields b off value).audited off value false
  else s.wrFields b off value

/-- A whole-word BAR0 write (R11-R15): Unsupported Request where the block is not decoded (R489), discarded during a
warm reset (R98) and while the block resets (R558), ignored at an unallocated offset (R13). -/
def State.writeWord (s : State) (off : Nat) (value : W32) : State :=
  match blockAt off with
  | none => s
  | some b =>
    match s.decodeOf b with
    | .none => s.unsupportedReq 0
    | .ones => s
    | .all => (s.accessWake b off).wrDecoded b off value

/-! ### Reading -/

/-- The value a field shows to a BAR0 read: the clocks, the grace left (R315), what is left of HOLDOFF, HEAD_COLOUR, the powered domains, tile cycles, gated sequencers (Table 19.3) and PENDING are computed, WO reads 0 (R14), a shadowed live
field shows its shadow unless `GLB_VIEW.ACTIVE` (R73). -/
def State.shown (s : State) (f : Field) : Nat :=
  if f.off == Reg.TIME_NOW_LO.off then s.tm.shelf % 2 ^ 32
  else if f.off == Reg.TIME_NOW_HI.off then s.tm.shelf / 2 ^ 32 % 2 ^ 32
  else if f.off == Reg.TIME_MONO_LO.off then s.tm.mono % 2 ^ 32
  else if f.off == Reg.TIME_MONO_HI.off then s.tm.mono / 2 ^ 32 % 2 ^ 32
  else if f.off == Reg.TIME_SECURE_LO.off then s.tm.secure % 2 ^ 32
  else if f.off == Reg.TIME_SECURE_HI.off then s.tm.secure / 2 ^ 32 % 2 ^ 32
  else if decide (0x2000200 ≤ f.off ∧ f.off < 0x20002C0) && f.lo == 3 then
    (Tab.getD ((f.off - 0x2000200) / 4) s.tm.mono s.ftl.graceAt - s.tm.mono + sec - 1) / sec
  else if decide (0x2801000 ≤ f.off ∧ f.off < 0x2801600) && f.off % 0x20 == 0x0C && f.lo == 16 then
    (if s.rd { f with lo := 0, width := 3, reset := 0 } != 5 then 0
     else ((Tab.getD ((f.off - 0x2801000) / 0x20) {} s.shelf.chans).holdoff - s.tm.mono) / ms % 65536)
  else if decide (0x1020000 ≤ f.off ∧ f.off < 0x1028000) && f.off % 0x20 == 0x18 && f.lo == 20 then
    s.headColour ((f.off - 0x1020000) / 0x20)
  else if decide (0x100120 ≤ f.off ∧ f.off < 0x100134) then s.domainWord ((f.off - 0x100120) / 4)
  else if decide (0x3E01000 ≤ f.off ∧ f.off < 0x3E02000) && f.off % 0x100 == 0 then
    s.tileCycles ((f.off - 0x3E01000) / 0x100) % 2 ^ 32
  else if decide (0x3E01000 ≤ f.off ∧ f.off < 0x3E02000) && f.off % 0x100 == 4 then
    s.tileCycles ((f.off - 0x3E01000) / 0x100) / 2 ^ 32 % 2 ^ 32
  else if decide (0x3C00100 ≤ f.off ∧ f.off < 0x3C00140) && f.lo == 0 && s.rd f == 0 &&
      !s.domainOn (143 + (f.off - 0x3C00100) / 16) then 2
  else if f.lo == 2 && (blockAt f.off).any (fun b => f.off == commonBase b + 8) then
    (if ((blockAt f.off).bind blockDomain).any (fun d => !s.domainOn d) then 1 else 0)
  else if f.key == Reg.GLB_COMMIT_STATUS_PENDING.key then (if s.pendingCommit then 1 else 0)
  else if f.acc == .wo then 0
  else if f.shadowed && !s.is Reg.GLB_VIEW_ACTIVE then (s.shadowOf f).toNat
  else s.rd f

/-- The word of a counter at `off`, low or high (R128). -/
def State.counterWord (s : State) (off : Nat) : Option Nat :=
  match Tab.find off s.regs.counts with
  | some (c, _) => some (c.toNat % 2 ^ 32)
  | none =>
    match Tab.find (off - 4) s.regs.counts with
    | some (c, w) => if off < 4 then none else some (c.toNat / 2 ^ 32 + if w then 2 ^ 31 else 0)
    | none => none

/-- A word of PF0's MSI-X table: address, data and mask of a vector (R487). -/
def State.msixTableWord (s : State) (off : Nat) : Nat :=
  let v := Tab.getD ((off - 0x600000) / 16) {} (s.fnOf 0).vecs
  match off / 4 % 4 with
  | 0 => v.addr % 2 ^ 32
  | 1 => v.addr / 2 ^ 32
  | 2 => v.data
  | _ => if v.masked then 1 else 0

/-- A word of PF0's pending-bit array, at BAR0 0x061_0000 (R487). -/
def State.msixPendingWord (s : State) (off : Nat) : Nat :=
  (((s.fnOf 0).vecs.filter fun e => e.2.pending && e.1 / 32 == (off - 0x610000) / 4).map fun e => 2 ^ (e.1 % 32)).sum

/-- The word at a BAR0 offset: its fields, or a counter's word; 0 where unallocated (R13) and while the block resets (R558); the last
snapshot's words (R528); PF0's MSI-X table and pending bits (R487). -/
def State.wordAt (s : State) (off : Nat) : W32 :=
  match blockAt off with
  | none => 0
  | some b =>
    if decide (0x3E03000 ≤ off ∧ off < 0x3E05000) then BitVec.ofNat 32 (Tab.getD (off - 0x3E02000) 0 s.pmu.snap)
    else if (s.is (fResetting b) && off / 0x20 != commonBase b / 0x20) || s.absentNode off then 0
    else if decide (0x600000 ≤ off ∧ off < 0x608000) then BitVec.ofNat 32 (s.msixTableWord off)
    else if decide (0x610000 ≤ off ∧ off < 0x610100) then BitVec.ofNat 32 (s.msixPendingWord off)
    else match s.counterWord off with
      | some w => BitVec.ofNat 32 w
      | none => BitVec.ofNat 32 ((fieldsAt off).foldl (fun w f => w + s.shown f * 2 ^ f.lo) 0)

/-- The word, the user page standing for PMU offsets from 0x1000 on while USER_EN is 1 (R526). -/
def State.word (s : State) (off : Nat) : W32 :=
  if decide (0x3F00000 ≤ off ∧ off < 0x3F04000) then
    (if s.is Reg.PMU_CTL_USER_EN then s.wordAt (off - 0xFF000) else 0)
  else s.wordAt off

/-- A high word read before any low-word read has latched it reads as it stands, on which R12 is silent (DESIGN CHOICE: log entry 57).
What a BAR0 read of the word returns: the word; the latched high word where a low-word read latched one (R12); all
ones during a warm reset (R98); `none`: Unsupported Request (R489). -/
def State.readWord (s : State) (off : Nat) : Option W32 :=
  match blockAt off with
  | none => some 0
  | some b =>
    match s.decodeOf b with
    | .none => none
    | .ones => some 0xFFFFFFFF
    | .all => some ((Tab.find off s.regs.readLatch).getD (s.word off))

/-- The register that holds a byte: its aligned word (R11). -/
def regOf (off : Nat) : Nat := off / 4 * 4

/-- The `n` bytes of a word that a read from byte offset `off` addresses (R11). -/
def addressed (off n : Nat) (w : W32) : W32 := BitVec.ofNat 32 (w.toNat / 2 ^ (8 * (off % 4)) % 2 ^ (8 * n))

/-- Send a read's completion: the addressed bytes of the register. -/
def State.answerRead (s : State) (off n : Nat) : State :=
  match s.readWord (regOf off) with
  | none => s.unsupportedReq 0
  | some w => ((blockAt (regOf off)).elim s fun b => s.accessWake b (regOf off)).send (.readData off n (addressed off n w))

end Sys2Proof.Machine
end

