-- ==== Sys2Proof/Machine/Operands.lean ====
section
/-! DEFINITION. The operand forms: little-endian numbers in byte strings (R8, R49), record walks and the fields of
what arrives with a command, the entries of NVMe (64 and 16 bytes), and the UDP checksum. -/

namespace Sys2Proof.Machine

/-- The number a little-endian byte string holds. -/
def le : List Byte → Nat
  | [] => 0
  | b :: bs => b.toNat + 256 * le bs

/-- `n` bytes from offset `o`. -/
def slice (bs : List Byte) (o n : Nat) : List Byte := (bs.drop o).take n

/-- The `n`-byte little-endian number at offset `o`. -/
def leAt (bs : List Byte) (o n : Nat) : Nat := le (slice bs o n)

/-- The `n`-byte little-endian numbers that a payload holds one after another, `c` of them. -/
def leList (bs : List Byte) (n : Nat) : Nat → List Nat
  | 0 => []
  | c + 1 => le (bs.take n) :: leList (bs.drop n) n c

/-- A byte read as a signed number. -/
def signed8 (b : Byte) : Int := b.toInt

/-- Are the numbers strictly ascending? -/
def ascending : List Int → Bool
  | a :: b :: t => decide (a < b) && ascending (b :: t)
  | _ => true

/-- Are the numbers all distinct? -/
def distinct : List Nat → Bool
  | [] => true
  | a :: t => !t.contains a && distinct t

/-- The bytes of a number, most significant first. -/
def beBytes (n v : Nat) : List Byte := (leBytes n v).reverse

/-- The `n`-byte number at offset `o`, most significant byte first. -/
def beAt (bs : List Byte) (o n : Nat) : Nat := le (slice bs o n).reverse

/-- `n` bytes from offset `o`, from pieces kept by offset; none where some are missing. -/
def readBuf (buf : Tab (List Byte)) (o n : Nat) : Nat → Option (List Byte)
  | 0 => if n == 0 then some [] else none
  | fuel + 1 =>
    if n == 0 then some []
    else match buf.find? fun e => decide (e.1 ≤ o ∧ o < e.1 + e.2.length) with
      | none => none
      | some e =>
        let part := (e.2.drop (o - e.1)).take n
        (readBuf buf (o + part.length) (n - part.length) fuel).map (part ++ ·)

/-- The parts of `n` bytes from `o` on that are not held, as (offset, length). -/
def missingParts (buf : Tab (List Byte)) (o n : Nat) : Nat → List (Nat × Nat)
  | 0 => []
  | fuel + 1 =>
    if n == 0 then []
    else match buf.find? fun e => decide (e.1 ≤ o ∧ o < e.1 + e.2.length) with
      | some e =>
        let k := min n (e.1 + e.2.length - o)
        missingParts buf (o + k) (n - k) fuel
      | none =>
        let nxt := (buf.filter fun e => decide (o < e.1)).foldl (fun m e => min m e.1) (o + n)
        let k := min n (nxt - o)
        (o, k) :: missingParts buf (o + k) (n - k) fuel

/-! ### Data structures as fields -/

/-- A data structure as its fields: byte offset, bytes, value. -/
abbrev Fields := List (Nat × Nat × Nat)

/-- What a transfer of `len` bytes from offset `lo` carries of the fields: each cut to it, and moved down. -/
def cutFields (fs : Fields) (lo len : Nat) : Fields :=
  fs.filterMap fun f =>
    let a := max f.1 lo
    let b := min (f.1 + f.2.1) (lo + len)
    if b ≤ a then none else some (a - lo, b - a, f.2.2 / 256 ^ (a - f.1) % 256 ^ (b - a))

/-- The first `len` bytes of a structure: those that no field names are 0. -/
def fieldBytes (len : Nat) (fs : Fields) : List Byte :=
  (cutFields fs 0 len).foldl (fun bs f => bs.take f.1 ++ leBytes f.2.1 f.2.2 ++ bs.drop (f.1 + f.2.1)) (zeros len)

/-! ### Entries of NVMe (NVMe Base 2.0) -/

/-- The 64 bytes of a submission entry. -/
def sqeBytes (q : Sqe) : List Byte :=
  leBytes 1 q.opcode ++ leBytes 1 (q.fuse % 4 + 4 * (q.rsvd % 16) + 64 * q.psdt) ++ leBytes 2 q.cid ++ leBytes 4 q.nsid ++ leBytes 4 q.cdw2 ++
  leBytes 4 q.cdw3 ++ leBytes 8 q.mptr ++ leBytes 8 q.addr ++ leBytes 3 q.len ++ leBytes 4 q.key ++ leBytes 1 q.sglType ++
  leBytes 4 q.cdw10 ++ leBytes 4 q.cdw11 ++ leBytes 4 q.cdw12 ++ leBytes 4 q.cdw13 ++ leBytes 4 q.cdw14 ++ leBytes 4 q.cdw15

/-- The submission entry that 64 bytes spell. -/
def sqeOf (b : List Byte) : Sqe :=
  let f := leAt b 1 1
  { opcode := leAt b 0 1, fuse := f % 4, rsvd := f / 4 % 16, psdt := f / 64, cid := leAt b 2 2, nsid := leAt b 4 4
    cdw2 := leAt b 8 4, cdw3 := leAt b 12 4, mptr := leAt b 16 8, addr := leAt b 24 8, len := leAt b 32 3, key := leAt b 35 4
    sglType := leAt b 39 1, cdw10 := leAt b 40 4, cdw11 := leAt b 44 4, cdw12 := leAt b 48 4, cdw13 := leAt b 52 4
    cdw14 := leAt b 56 4, cdw15 := leAt b 60 4 }

/-- The 16 bytes of a completion entry; `status` is SCT × 256 + SC. -/
def cqeBytes (dw0 sqhd sqid cid status : Nat) (dnr phase : Bool) : List Byte :=
  leBytes 8 dw0 ++ leBytes 2 sqhd ++ leBytes 2 sqid ++ leBytes 2 cid ++
    leBytes 2 ((if phase then 1 else 0) + 2 * (status % 2048) + if dnr then 32768 else 0)

/-! ### The UDP checksum (R130) -/

/-- The ones' complement sum of 16-bit words, a last odd byte being padded with 0. -/
def sum16 : List Byte → Nat → Nat
  | [], a => a
  | [x], a => let v := a + 256 * x.toNat; v % 65536 + v / 65536
  | x :: y :: t, a => let v := a + 256 * x.toNat + y.toNat; sum16 t (v % 65536 + v / 65536)

/-- The sum over the pseudo header, the UDP header with the checksum given, and the UDP payload. -/
def udpSum (v6 : Bool) (src dst sport dport cksum : Nat) (bs : List Byte) : Nat :=
  let n := 8 + bs.length
  let pseudo := if v6 then beBytes 16 src ++ beBytes 16 dst ++ beBytes 4 n ++ beBytes 4 17 else beBytes 4 src ++ beBytes 4 dst ++ beBytes 2 17 ++ beBytes 2 n
  sum16 (pseudo ++ beBytes 2 sport ++ beBytes 2 dport ++ beBytes 2 n ++ beBytes 2 cksum ++ bs) 0

/-- The checksum of a packet that is sent: 0 is sent as 65,535. -/
def udpChecksum (v6 : Bool) (src dst sport dport : Nat) (bs : List Byte) : Nat :=
  let c := 65535 - udpSum v6 src dst sport dport 0 bs
  if c == 0 then 65535 else c

end Sys2Proof.Machine
end

