-- ==== Sys2Proof/Machine/ImageCheck.lean ====
section
/-! DEFINITION. The check of a shelf image (R46-R66): records, sections, keys, signatures, compatibility, patch and
parameter ranges, each failure with its result code of Table 2.7 and the index of the failing record. -/

namespace Sys2Proof.Machine

/-- Result codes of Table 2.7. -/
def imgNone : Nat := 0
def imgOk : Nat := 1
def imgNoValid : Nat := 2
def imgFormat : Nat := 3
def imgCrc : Nat := 4
def imgSignature : Nat := 5
def imgKeyRevoked : Nat := 6
def imgRollback : Nat := 7
def imgStepping : Nat := 8
def imgPatch : Nat := 9
def imgParam : Nat := 10
def imgKeyUnknown : Nat := 11
def imgTrialPending : Nat := 12
def imgDevice : Nat := 13
def imgUcode : Nat := 14

/-- No record index (Table 2.6). -/
def noRecord : Nat := 0xFFFF

/-- A failed check: result code and record index. -/
abbrev ImgFail := Nat × Nat

/-- A failure where the condition does not hold. -/
def failUnless (ok : Bool) (code index : Nat) : Option ImgFail := if ok then none else some (code, index)

/-- Sections of Table 2.3. -/
def secSignature : Nat := 2
def secStructure : Nat := 3
def secMedia : Nat := 4
def secPolicy : Nat := 5
def secKeys : Nat := 6
def secPatch : Nat := 7
def secPod : Nat := 8

/-! ### Records (R49, R50) -/

/-- The largest payload of a record. -/
def recMax : Nat := 16777216

/-- A record as it lies in the image: its TYPE word, its payload, the bytes it takes whole, whether it ends within the bytes that may hold it
and its LENGTH is in range, whether its padding is zero, and whether its CRC is that over TYPE, LENGTH, payload and padding. -/
structure RawRec where
  type : Nat
  payload : List Byte
  bytes : List Byte
  fits : Bool
  padGood : Bool
  crcGood : Bool
  deriving DecidableEq, Repr

/-- Read the record at the front of bytes of which `left` may hold it. -/
def readRec (l : List Byte) (left : Nat) : RawRec :=
  let len := leAt l 4 4
  let body := 8 + (len + 3) / 4 * 4
  let fits := decide (12 ≤ left ∧ len ≤ recMax ∧ body + 4 ≤ left)
  let covered := if fits then l.take body else []
  { type := leAt l 0 4, payload := (covered.drop 8).take len, bytes := if fits then l.take (body + 4) else [], fits := fits
    padGood := (covered.drop (8 + len)).all (· == 0), crcGood := fits && crc32c covered == leAt l body 4 }

/-- The fields of a TYPE word (R50). -/
def typeSection (w : Nat) : Nat := w / 2 ^ 24
def typeInner (w : Nat) : Bool := w / 2 ^ 23 % 2 == 1
def typeCritical (w : Nat) : Bool := w / 2 ^ 22 % 2 == 1
def typeNumber (w : Nat) : Nat := w % 2 ^ 22

/-- The inner records of a section's payload of `left` bytes; one that runs past its end is the last. -/
def readInner : Nat → List Byte → Nat → List RawRec
  | 0, _, _ => []
  | fuel + 1, l, left =>
    if left == 0 then []
    else
      let r := readRec l left
      r :: if r.fits then readInner fuel (l.drop r.bytes.length) (left - r.bytes.length) else []

/-- A section record with its inner records. -/
structure Section where
  head : RawRec
  inner : List RawRec
  deriving DecidableEq, Repr

def Section.code (c : Section) : Nat := typeSection c.head.type

/-- The sections after HEADER, up to IMAGE_LEN. -/
def readSections : Nat → List Byte → Nat → List Section
  | 0, _, _ => []
  | fuel + 1, l, left =>
    if left == 0 then []
    else
      let r := readRec l left
      { head := r, inner := readInner (r.payload.length / 12 + 1) r.payload r.payload.length } ::
        if r.fits then readSections fuel (l.drop r.bytes.length) (left - r.bytes.length) else []

/-- The HEADER payload (Table 2.4). -/
structure Header where
  magic : Nat
  format : Nat
  hybrid : Bool
  provision : Bool
  imageLen : Nat
  svn : Nat
  epoch : Nat
  buildTime : Nat
  device : Nat
  steppings : List Nat
  ucodeMin : Nat
  ucodeMax : Nat
  name : List Byte
  deriving DecidableEq, Repr

def readHeader (p : List Byte) : Header :=
  { magic := leAt p 0 4, format := leAt p 4 2, hybrid := leAt p 6 2 % 2 == 1, provision := leAt p 6 2 / 2 % 2 == 1
    imageLen := leAt p 8 4, svn := leAt p 12 4, epoch := leAt p 16 8, buildTime := leAt p 24 8, device := leAt p 32 4
    steppings := (slice p 36 4).map BitVec.toNat, ucodeMin := leAt p 40 4, ucodeMax := leAt p 44 4, name := slice p 48 32 }

/-- A shelf image as read from the bytes of a slot or of a staged copy: the HEADER record, its payload's fields, and the sections up to
IMAGE_LEN, where the image ends (R52). -/
structure Image where
  headRec : RawRec
  header : Header
  sections : List Section
  deriving DecidableEq, Repr

/-- Read an image from bytes of which there are `room`; HEADER's LENGTH places the records after it. -/
def readImage (l : List Byte) (room : Nat) : Image :=
  let r := readRec l room
  let h := readHeader r.payload
  { headRec := r, header := h
    sections := readSections (h.imageLen / 12) (l.drop r.bytes.length) (h.imageLen - r.bytes.length) }

/-- The image digest (R54): SHA-384 over the bytes of every record but the SIGNATURE section record. -/
def Image.digest (im : Image) : BitVec 384 :=
  sha384 (im.headRec.bytes ++ (im.sections.filter fun c => c.code != secSignature).flatMap fun c => c.head.bytes)

/-- Is the inner record's number one the chapter gives its section (R51)?  The records of SIGNATURE and POD are critical (R55, R64): without
the bit their TYPE is not one that the chapter gives (DEDUCED, log entry 55). -/
def knownInner (sec n : Nat) (critical : Bool) : Bool :=
  if sec == secSignature then critical && decide (1 ≤ n ∧ n ≤ 4)
  else if sec == secStructure then decide (1 ≤ n ∧ n ≤ 17)
  else if sec == secMedia then decide (1 ≤ n ∧ n ≤ 5)
  else if sec == secPolicy || sec == secKeys then true
  else if sec == secPatch then decide (1 ≤ n ∧ n ≤ 3)
  else if sec == secPod then critical && decide (1 ≤ n ∧ n ≤ 3)
  else false

/-- Step 3 of R66 on the inner records of a section, from index `idx`, numbers `seen` before them (R49-R52). -/
def scanInner (sec idx : Nat) (seen : List Nat) : List RawRec → Option ImgFail
  | [] => none
  | r :: rs =>
    let n := typeNumber r.type
    if !r.fits then some (imgFormat, idx)
    else if !r.crcGood then some (imgCrc, idx)
    else if !r.padGood || typeSection r.type != sec || !typeInner r.type then some (imgFormat, idx)
    else if !knownInner sec n (typeCritical r.type) && typeCritical r.type then some (imgFormat, idx)
    else if sec != secPolicy && sec != secKeys && seen.contains n then some (imgFormat, idx)
    else scanInner sec (idx + 1) (n :: seen) rs

/-- Step 3 of R66 on the sections after HEADER, in image order (R50, R52). -/
def scanSections (idx last : Nat) : List Section → Option ImgFail
  | [] => none
  | c :: cs =>
    if !c.head.fits then some (imgFormat, idx)
    else if !c.head.crcGood then some (imgCrc, idx)
    else if !c.head.padGood || c.head.type != c.code * 2 ^ 24 || decide (c.code ≤ last) || decide (secPod < c.code) then some (imgFormat, idx)
    else match scanInner c.code (idx + 1) [] c.inner with
      | some f => some f
      | none => scanSections (idx + 1 + c.inner.length) c.code cs

/-- A recognised inner record with its index in the image. -/
structure ImgRec where
  index : Nat
  sec : Nat
  num : Nat
  payload : List Byte
  deriving DecidableEq, Repr

/-- The recognised inner records of a section (R51 skips the others). -/
def innerRecs (sec idx : Nat) : List RawRec → List ImgRec
  | [] => []
  | r :: rs =>
    if knownInner sec (typeNumber r.type) (typeCritical r.type) then
      ⟨idx, sec, typeNumber r.type, r.payload⟩ :: innerRecs sec (idx + 1) rs
    else innerRecs sec (idx + 1) rs

/-- The recognised inner records of the sections, in image order. -/
def sectionRecs (idx : Nat) : List Section → List ImgRec
  | [] => []
  | c :: cs => innerRecs c.code (idx + 1) c.inner ++ sectionRecs (idx + 1 + c.inner.length) cs

/-- All recognised inner records of an image; HEADER is record 0. -/
def imageRecs (im : Image) : List ImgRec := sectionRecs 1 im.sections

/-- The record of a section and number. -/
def findRec (rs : List ImgRec) (sec num : Nat) : Option ImgRec := rs.find? fun r => r.sec == sec && r.num == num

/-- The index of a record, none where it is missing. -/
def recIndex (rs : List ImgRec) (sec num : Nat) : Nat :=
  match findRec rs sec num with
  | some r => r.index
  | none => noRecord

/-- A record's payload, if it is there. -/
def recPayload (rs : List ImgRec) (sec num : Nat) : Option (List Byte) := (findRec rs sec num).map ImgRec.payload

/-- Steps 1 and 2 of R66: the HEADER record, IMAGE_LEN and SVN; `room` is what the slot or the staged copy holds.  A HEADER whose LENGTH
places its CRC outside them has no correct CRC (DEDUCED, log entry 55). -/
def checkHeader (im : Image) (room : Nat) : Option ImgFail :=
  let h := im.header
  failUnless im.headRec.crcGood imgCrc 0 <|>
  failUnless (im.headRec.type == 0x1000000 && im.headRec.payload.length == 80 && h.magic == 0x4D495657) imgFormat 0 <|>
  failUnless (decide (80 ≤ h.imageLen ∧ h.imageLen ≤ 33554432 ∧ h.imageLen ≤ room ∧ h.svn ≤ 64)) imgFormat 0

/-- The end of step 3: a required section missing (R52). -/
def checkRequired (im : Image) : Option ImgFail :=
  failUnless ([secSignature, secStructure, secMedia, secPolicy].all fun c => im.sections.any fun x => x.code == c)
    imgFormat noRecord

/-- The slots eligible to sign (R56): owner slots where any is programmed, else vendor slots, each with its class
(1 owner) and number. -/
def eligibleKeys (f : Fuses) : List (Nat × Nat × FuseSlot) :=
  let own := f.owner.zipIdx.map fun e => (1, e.2, e.1)
  let ven := f.vendor.zipIdx.map fun e => (0, e.2, e.1)
  (if own.any (fun e => e.2.2.programmed) then own else ven).filter fun e => e.2.2.programmed

/-- The hash that a slot with or without its PQ fuse holds of the image's keys (R56). -/
def keyHash (rs : List ImgRec) (pq : Bool) : BitVec 384 :=
  sha384 ((recPayload rs secSignature 1).getD [] ++ if pq then (recPayload rs secSignature 3).getD [] else [])

/-- Does the image's key pair match the slot's hash (R56)? -/
def keyMatches (im : Image) (k : FuseSlot) : Bool :=
  (!k.pq || im.header.hybrid) && keyHash (imageRecs im) k.pq == k.hash

/-- The slot that the image is signed under. -/
def signingKey (f : Fuses) (im : Image) : Option (Nat × Nat × FuseSlot) :=
  (eligibleKeys f).find? fun e => keyMatches im e.2.2 && !e.2.2.revoked

/-- Step 4 of R66: key slot match, then revocation. -/
def checkKey (f : Fuses) (im : Image) (rs : List ImgRec) : Option ImgFail :=
  if !(recPayload rs secSignature 1).any (fun p => p.length == 97) then some (imgKeyUnknown, recIndex rs secSignature 1)
  else if (signingKey f im).isSome then none
  else if (eligibleKeys f).any (fun e => keyMatches im e.2.2) then some (imgKeyRevoked, recIndex rs secSignature 1)
  else some (imgKeyUnknown, recIndex rs secSignature 1)

/-- Do the payloads of records 0x0001 and 0x0002 give a P-384 signature of a digest that verifies (R55)? -/
def ecdsaGood (rs : List ImgRec) (digest : BitVec 384) : Bool :=
  ecdsaVerify (nats ((recPayload rs secSignature 1).getD [])) (nats ((recPayload rs secSignature 2).getD [])) digest.toNat

/-- Do records 0x0003 and 0x0004 give an ML-DSA-87 signature of the digest's 48 bytes that verifies (R55)? -/
def mldsaGood (rs : List ImgRec) (digest : BitVec 384) : Bool :=
  (recPayload rs secSignature 3).any fun key => (recPayload rs secSignature 4).any fun sig =>
    key.length == 2592 && sig.length == 4627 && Config.mldsaVerify key sig (bytesOf (beList 48 digest.toNat))

/-- Step 5 of R66: the signature records that HYBRID asks for (R55), and that each verifies. -/
def checkSignatures (im : Image) (rs : List ImgRec) : Option ImgFail :=
  failUnless (ecdsaGood rs im.digest) imgSignature (recIndex rs secSignature 2) <|>
  (if im.header.hybrid then failUnless (mldsaGood rs im.digest) imgSignature (recIndex rs secSignature 4)
  else
    failUnless ((findRec rs secSignature 3).isNone && (findRec rs secSignature 4).isNone)
      imgSignature (recIndex rs secSignature 3))

/-- Step 7 of R66: the four cases of R53, in their order. -/
def checkCompat (f : Fuses) (h : Header) : Option ImgFail :=
  failUnless (h.device == 0x9648) imgDevice 0 <|>
  failUnless (h.steppings.contains 0xB0) imgStepping 0 <|>
  failUnless (decide (h.ucodeMin ≤ f.romVersion ∧ f.romVersion ≤ h.ucodeMax)) imgUcode 0 <|>
  failUnless (h.format == 1) imgFormat 0

/-- Does the patch signature verify under the key of a programmed, unrevoked vendor slot (R59)? -/
def patchGood (f : Fuses) (rs : List ImgRec) : Bool :=
  (recPayload rs secPatch 2).any fun patch => (recPayload rs secPatch 3).any fun sig =>
    decide (patch.length ≤ 1048576) && (f.vendor.take 2).any fun v =>
      v.programmed && !v.revoked && ecdsaVerify (nats v.pub) (nats sig) (sha384 patch).toNat

/-- Step 8 of R66: the microcode patch (R59). -/
def checkPatch (f : Fuses) (im : Image) (rs : List ImgRec) : Option ImgFail :=
  if !im.sections.any (fun c => c.code == secPatch) then none
  else
    failUnless ((recPayload rs secPatch 1).any fun p => le p == f.romVersion) imgPatch (recIndex rs secPatch 1) <|>
    failUnless ((recPayload rs secPatch 2).any fun p => decide (p.length ≤ 1048576)) imgPatch (recIndex rs secPatch 2) <|>
    failUnless (patchGood f rs) imgPatch (recIndex rs secPatch 3)

/-! ### Parameter ranges (R60, Table 2.5) -/

/-- One layout word: parity D 4-32 with P 1-3, or a mirror of C 2-3 copies. -/
def layoutGood (w : Nat) : Bool :=
  let n := w % 256
  let p := w / 256 % 4
  if w / 1024 % 32 != 0 then false
  else if w / 2 ^ 15 == 1 then p == 0 && decide (2 ≤ n ∧ n ≤ 3)
  else decide (1 ≤ p) && decide (4 ≤ n ∧ n ≤ 32)

/-- Members of a tank of a layout word: D + P, or C. -/
def layoutMembers (w : Nat) : Nat := if w / 2 ^ 15 == 1 then w % 256 else w % 256 + w / 256 % 4

/-- One DRAM_CONFIG word. -/
def dramGood (w : Nat) : Bool :=
  let n := w % 4
  let ty := w / 4 % 4
  let rate := w / 16
  if n == 3 then false
  else if n == 0 then w / 4 == 0
  else (ty == 1 && rate == 64) || (ty == 2 && decide (64 ≤ rate ∧ rate ≤ 88))

/-- Table 10.2, R293: a THRESHOLD_TABLE payload. -/
def thresholdGood (b : List Byte) : Bool :=
  let na := leAt b 2 1
  let nt := leAt b 3 1
  let ne := leAt b 4 1
  let nl := leAt b 5 1
  let nr := leAt b 6 1
  let ageAt := 8
  let tempAt := ageAt + 4 * (na - 1)
  let peAt := tempAt + (nt - 1)
  let edgesEnd := peAt + 2 * (ne - 1)
  let base := (edgesEnd + 3) / 4 * 4
  let recs := na * nt * ne + nr
  decide (8 ≤ b.length) && leAt b 0 2 == 1 &&
  decide (1 ≤ na ∧ na ≤ 16 ∧ 1 ≤ nt ∧ nt ≤ 16 ∧ 1 ≤ ne ∧ ne ≤ 16 ∧ 1 ≤ nl ∧ nl ≤ 15 ∧ nr ≤ 8) &&
  b.length == base + 16 * recs &&
  ascending ((leList (b.drop ageAt) 4 (na - 1)).map Int.ofNat) &&
  ascending ((slice b tempAt (nt - 1)).map signed8) &&
  ascending ((leList (b.drop peAt) 2 (ne - 1)).map Int.ofNat) &&
  (List.range recs).all fun k => (slice b (base + 16 * k + nl) (15 - nl)).all fun x => x == 0

/-- A SCHED_TREE payload (Table 7.1). -/
def schedGood (levels : Nat) (nodes : List Nat) : Bool :=
  decide (1 ≤ levels ∧ levels ≤ 4) && nodes.getD 0 0 == 1 &&
  (List.range 3).all fun k =>
    let n := nodes.getD (k + 1) 0
    if k + 1 < levels then decide (1 ≤ n ∧ n ≤ 1024) else n == 0

/-- An MRAM_PARTITION payload: FTL, PAR, CRY, SUMP, HOST. -/
def mramGood (p : List Byte) : Bool :=
  let size := (List.range 5).map fun k => leAt p (4 * k) 2
  let hw := (List.range 5).map fun k => leAt p (4 * k + 2) 1
  size.foldl (· + ·) 0 == 1024 && decide (64 ≤ size.getD 0 0 ∧ 64 ≤ size.getD 1 0 ∧ 64 ≤ size.getD 2 0 ∧
    8 ≤ size.getD 3 0) && ((hw.take 3).all (· == 0)) && hw.all (fun x => decide (x ≤ 1)) &&
  (List.range 5).all fun k => leAt p (4 * k + 3) 1 == 0

/-- Table 2.5 for one STRUCTURE record by itself. -/
def structureGood (num : Nat) (p : List Byte) : Bool :=
  match num with
  | 1 => p.length == 4 && p.all fun x => decide (x.toNat ≤ 4)
  | 2 => p.length == 32 && (p.all fun x => decide (x.toNat ≤ 31)) && distinct (p.map BitVec.toNat)
  | 3 => p.length == 8 && decide (le p < 2 ^ 48)
  | 4 => p.length == 1 && decide (le p ≤ 2)
  | 5 => p.length == 16 && ((leList p 2 8).all dramGood) && (leList p 2 8).any fun w => w % 4 != 0
  | 6 => p.length == 1 && decide (4 ≤ le p ∧ le p ≤ 24)
  | 7 => p.length == 32
  | 8 => p.length == 9 && schedGood (leAt p 0 1) (leList (p.drop 1) 2 4)
  | 9 => p.length == 2 && le p != 0
  | 10 => p.length % 2 == 0 && decide (2 ≤ p.length ∧ p.length ≤ 32) && (leList p 2 (p.length / 2)).all layoutGood
  | 11 => p.length == 1 && decide (le p ≤ 4)
  | 12 => p.length == 2 && decide (50 ≤ le p ∧ le p ≤ 500)
  | 13 => p.length == 4 && decide (8 ≤ le p ∧ le p ≤ 65536)
  | 14 => p.length == 20 && mramGood p
  | 15 => p.length == 4 && decide (le p ≤ 65536)
  | 16 => p.length == 1 && decide (le p ≤ 1)
  | 17 => p.length == 2 && decide (1024 ≤ le p)
  | _ => true

/-- Table 2.5 for one MEDIA record by itself. -/
def mediaGood (num : Nat) (p : List Byte) : Bool :=
  match num with
  | 1 => p.length == 2 && decide (256 ≤ le p ∧ le p ≤ 4096) && le p % 4 == 0
  | 2 => p.length == 4 && decide (1024 ≤ le p ∧ le p ≤ 1048576)
  | 3 => p.length == 2 && decide (1 ≤ le p ∧ le p ≤ 256)
  | 4 => p.length == 4 && decide (100 ≤ le p ∧ le p ≤ 100000)
  | 5 => thresholdGood p
  | _ => true

/-- A member entry of R64: serial, shelf, side, PLA_PEER, PLB_PEER. -/
abbrev Member := Nat × Nat × Nat × Nat × Nat

def Member.serial (m : Member) : Nat := m.1
def Member.shelf (m : Member) : Nat := m.2.1
def Member.side (m : Member) : Nat := m.2.2.1

/-- The far end named for port 0 (PLA) or 1 (PLB). -/
def Member.peer (m : Member) (port : Nat) : Nat := if port == 0 then m.2.2.2.1 else m.2.2.2.2

/-- The member table of a payload. -/
def memberTable (p : List Byte) : List Member :=
  (List.range (p.length / 12)).map fun i =>
    let e := p.drop (12 * i)
    (leAt e 0 8, leAt e 8 1, leAt e 9 1, leAt e 10 1, leAt e 11 1)

/-- R64: shelf and side in range, serials and places distinct, and every link named from both ends. -/
def membersGood (ms : List Member) : Bool :=
  distinct (ms.map Member.serial) && distinct (ms.map fun m => 2 * m.shelf + m.side) &&
  (ms.zipIdx.all fun e =>
    decide (e.1.shelf ≤ 3 ∧ e.1.side ≤ 1) &&
    [0, 1].all fun port =>
      let v := e.1.peer port
      v == 0xFF || (v / 16 == 0 && v % 8 != e.2 && match ms[v % 8]? with
        | none => false
        | some far => far.peer (v / 8 % 2) == e.2 + 8 * port))

/-- The members reached from a set in at most `fuel` hops. -/
def reach (ms : List Member) (found : List Nat) : Nat → List Nat
  | 0 => found
  | fuel + 1 =>
    let next := found.flatMap fun i => match ms[i]? with
      | none => []
      | some m => ([0, 1].filter fun port => m.peer port != 0xFF).map fun port => m.peer port % 8
    reach ms (found ++ next.filter fun j => !found.contains j).eraseDups fuel

/-- R458: partners joined by PLA, every member connected, and PEER_MODE as the links of the table. DEDUCED (log entry 41):
PEER_MODE is compared with the links that any member uses, since every member boots the same image (R65). -/
def topologyGood (ms : List Member) (peerMode : Nat) : Bool :=
  (ms.zipIdx.all fun a => ms.zipIdx.all fun b =>
    a.2 == b.2 || a.1.shelf != b.1.shelf || a.1.peer 0 == b.2) &&
  (reach ms [0] 8).length == ms.length &&
  peerMode == (if ms.any fun m => m.peer 1 != 0xFF then 2 else if ms.any fun m => m.peer 0 != 0xFF then 1 else 0)

/-- The default cell shares of Table 8.2, scaled by R216. -/
def defaultPartition (sumpBanks : Nat) : List Nat :=
  let part := fun d => d * (32 - sumpBanks) / 16 / 256 * 256
  let six := [part 32768, part 49152, part 49152, part 32768, part 16384, 8192, part 8192]
  six ++ [(32 - sumpBanks) * 16384 - six.foldl (· + ·) 0]

/-- R215. -/
def partitionGood (sumpBanks : Nat) (cells : List Nat) : Bool :=
  cells.foldl (· + ·) 0 == (32 - sumpBanks) * 16384 && cells.getD 5 0 == 8192 && cells.all (fun c => c % 256 == 0) &&
  [0, 1, 2, 3, 4, 6].all fun k => decide (2048 ≤ cells.getD k 0)

/-- A parameter's number, its default where it is absent. -/
def paramOr (rs : List ImgRec) (sec num d : Nat) : Nat :=
  match recPayload rs sec num with
  | some p => le p
  | none => d

/-- A parameter's list of numbers, its default where it is absent. -/
def paramList (rs : List ImgRec) (sec num width : Nat) (d : List Nat) : List Nat :=
  match recPayload rs sec num with
  | some p => leList p width (p.length / width)
  | none => d

/-- The static parameters that an image sets (R60). -/
def imageParams (im : Image) : Params :=
  let rs := imageRecs im
  let banks := paramOr rs secStructure 6 16
  let mram := recPayload rs secStructure 14
  { ethMode := paramList rs secStructure 1 1 [1, 1, 1, 1]
    laneMap := paramList rs secStructure 2 1 (List.range 32)
    sklEnable := paramOr rs secStructure 3 (2 ^ 48 - 1)
    peerMode := paramOr rs secStructure 4 0
    dram := paramList rs secStructure 5 2 []
    sumpBanks := banks
    mfdPart := paramList rs secStructure 7 4 (defaultPartition banks)
    levels := match recPayload rs secStructure 8 with
      | some p => leAt p 0 1
      | none => 1
    nodes := match recPayload rs secStructure 8 with
      | some p => leList (p.drop 1) 2 4
      | none => [1, 0, 0, 0]
    pumpMask := paramOr rs secStructure 9 0xFFFF
    layouts := paramList rs secStructure 10 2 [16 + 2 * 256]
    spare := paramOr rs secStructure 11 2
    overprovision := paramOr rs secStructure 12 100
    memberFloat := paramOr rs secStructure 13 64
    mramSize := match mram with
      | some p => (List.range 5).map fun k => leAt p (4 * k) 2
      | none => [512, 256, 192, 32, 32]
    mramHostWrite := match mram with
      | some p => (List.range 5).map fun k => leAt p (4 * k + 2) 1 == 1
      | none => [false, false, false, false, true]
    rcQpMax := paramOr rs secStructure 15 65536
    prdEnable := paramOr rs secStructure 16 0 == 1
    prdPort := paramOr rs secStructure 17 0
    pagesPerBlock := paramOr rs secMedia 1 0
    blocksPerDie := paramOr rs secMedia 2 0
    diesMax := paramOr rs secMedia 3 0
    peLimit := paramOr rs secMedia 4 0
    thr := (recPayload rs secMedia 5).getD []
    podSection := im.sections.any fun c => c.code == secPod
    podId := paramOr rs secPod 1 0
    ptpDomain := paramOr rs secPod 2 0
    members := memberTable ((recPayload rs secPod 3).getD []) }

/-- A KEYS record: 224 bytes, its zero fields 0 (R63), and the wrapped key's SERIAL and SLOT its own (R435). -/
def keyRecGood (p : List Byte) : Bool :=
  p.length == 224 && decide (leAt p 8 2 < 2 ^ 13) && leAt p 10 2 == 0 && leAt p 20 8 == leAt p 0 8 &&
  leAt p 28 2 == leAt p 8 2

/-- Two KEYS records for the same controller and slot (R63): the index of the second. -/
def keyRepeat (seen : List (Nat × Nat)) : List ImgRec → Option Nat
  | [] => none
  | r :: rs =>
    let k := (leAt r.payload 0 8, leAt r.payload 8 2)
    if seen.contains k then some r.index else keyRepeat (k :: seen) rs

/-- Step 9 of R66 for one record by itself. -/
def recGood (r : ImgRec) : Bool :=
  if r.sec == secStructure then structureGood r.num r.payload
  else if r.sec == secMedia then mediaGood r.num r.payload
  else if r.sec == secPolicy then r.payload.length == 12
  else if r.sec == secKeys then keyRecGood r.payload
  else if r.sec == secPod then
    (match r.num with
     | 1 => r.payload.length == 8
     | 2 => r.payload.length == 1
     | _ => r.payload.length % 12 == 0 && decide (12 ≤ r.payload.length ∧ r.payload.length ≤ 96))
  else true

/-- The first node of a level of SCHED_TREE. -/
def firstNode (p : Params) (k : Nat) : Nat := (p.nodes.take k).foldl (· + ·) 0

/-- The level that the PARENT field in a word of QOS has to name (Table 7.1); none where the word has no such field. -/
def parentLevel (p : Params) (off : Nat) : Option Nat :=
  if 0x1010000 ≤ off && off < 0x101C010 && off % 16 == 8 then
    let n := (off - 0x1010000) / 16
    ((List.range p.levels).find? fun k => decide (0 < k ∧ firstNode p k ≤ n ∧ n < firstNode p (k + 1))).map (· - 1)
  else if 0x1020000 ≤ off && off < 0x1028000 && off % 32 == 16 then some (p.levels - 1)
  else none

/-- The PARENT that POLICY leaves in a word, from the first node of the level that it has to name. -/
def policyParent (start off : Nat) (rs : List ImgRec) : Nat :=
  (rs.filter fun r => leAt r.payload 0 4 == off).foldl (fun v r =>
    let m := leAt r.payload 4 4 / 65536 % 4096
    (v - (v &&& m)) ||| (leAt r.payload 8 4 / 65536 % 4096 &&& m)) start

/-- The first POLICY record of a PARENT that the parent rows of Table 7.1 do not allow (R194). -/
def badParent (p : Params) (rs : List ImgRec) : Option Nat :=
  (rs.find? fun r => match parentLevel p (leAt r.payload 0 4) with
    | none => false
    | some k =>
      let v := policyParent (firstNode p k) (leAt r.payload 0 4) rs
      decide (v < firstNode p k ∨ firstNode p (k + 1) ≤ v)).map (·.index)

/-- Step 9 of R66: parameter ranges, in image order, then the rules over several parameters. -/
def checkParams (im : Image) : Option ImgFail :=
  let rs := imageRecs im
  let p := imageParams im
  ((rs.find? fun r => !recGood r).map fun r => (imgParam, r.index)) <|>
  failUnless ((findRec rs secStructure 5).isSome && [1, 2, 3, 4, 5].all fun n => (findRec rs secMedia n).isSome)
    imgParam noRecord <|>
  failUnless (!p.prdEnable || (findRec rs secStructure 17).isSome) imgParam (recIndex rs secStructure 16) <|>
  failUnless (partitionGood p.sumpBanks p.mfdPart) imgParam (recIndex rs secStructure 7) <|>
  failUnless (decide (p.diesMax * p.blocksPerDie * p.pagesPerBlock * 4 ≤ 2 ^ 34)) imgParam (recIndex rs secMedia 3) <|>
  ((keyRepeat [] (rs.filter fun r => r.sec == secKeys)).map fun i => (imgParam, i)) <|>
  failUnless (p.peerMode == 0 || p.podSection) imgParam (recIndex rs secStructure 4) <|>
  ((badParent p (rs.filter fun r => r.sec == secPolicy)).map fun i => (imgParam, i)) <|>
  (if p.podSection then
    failUnless ([1, 2, 3].all fun n => (findRec rs secPod n).isSome) imgParam noRecord <|>
    failUnless (membersGood p.members && topologyGood p.members p.peerMode) imgParam (recIndex rs secPod 3)
  else none)

/-- The whole check of R66 but for POLICY application: the first failure, in its order. -/
def checkImage (f : Fuses) (room : Nat) (im : Image) : Option ImgFail :=
  let rs := imageRecs im
  checkHeader im room <|>
  scanSections 1 1 im.sections <|>
  checkRequired im <|>
  checkKey f im rs <|>
  checkSignatures im rs <|>
  failUnless (decide (f.svn ≤ im.header.svn)) imgRollback 0 <|>
  checkCompat f im.header <|>
  checkPatch f im rs <|>
  checkParams im

/-! ### The boot flash (R46, Table 2.1) -/

/-- The regions that the controller uses; it reads and writes nothing above them. -/
inductive NorRegion where
  | selector0 | selector1 | slotA | slotB
  deriving DecidableEq, Repr

/-- NOR offset of a region. -/
def NorRegion.base : NorRegion → Nat
  | .selector0 => 0x00000000
  | .selector1 => 0x00008000
  | .slotA => 0x00100000
  | .slotB => 0x02100000

/-- Bytes of a region. -/
def NorRegion.size : NorRegion → Nat
  | .selector0 | .selector1 => 0x1000
  | .slotA | .slotB => 0x2000000

/-- The bytes listed of a region. -/
def norListed (n : Nor) : NorRegion → List Byte
  | .selector0 => n.copy0
  | .selector1 => n.copy1
  | .slotA => n.slotA
  | .slotB => n.slotB

/-- `k` erased bytes. PRESUMED: erased NOR reads as ones (log entry 55). -/
def erased (k : Nat) : List Byte := List.replicate k 0xFF

/-- All bytes of a region. -/
def norRegion (n : Nor) (r : NorRegion) : List Byte :=
  (norListed n r).take r.size ++ erased (r.size - (norListed n r).length)

/-- Erase a region and program bytes from its first on. -/
def norProgram (n : Nor) (r : NorRegion) (l : List Byte) : Nor :=
  match r with
  | .selector0 => { n with copy0 := l.take r.size }
  | .selector1 => { n with copy1 := l.take r.size }
  | .slotA => { n with slotA := l.take r.size }
  | .slotB => { n with slotB := l.take r.size }

/-- The region that holds a NOR offset, `none` where the controller leaves the NOR alone. -/
def norAt (off : Nat) : Option NorRegion :=
  [NorRegion.selector0, .selector1, .slotA, .slotB].find? fun r => decide (r.base ≤ off ∧ off < r.base + r.size)

/-- The region of a slot; false is slot A. -/
def slotRegion (b : Bool) : NorRegion := if b then .slotB else .slotA

/-- The image that a slot's bytes hold. -/
def norSlot (n : Nor) (b : Bool) : Image := readImage (norRegion n (slotRegion b)) (slotRegion b).size

/-- A slot of the boot flash checked. -/
def checkSlot (f : Fuses) (n : Nor) (b : Bool) : Option ImgFail := checkImage f (slotRegion b).size (norSlot n b)

/-- What a booted image leaves with the controller. -/
def bootedOf (serial : Nat) (im : Image) : Booted :=
  let rs := imageRecs im
  let keyRecs := rs.filter fun r => r.sec == secKeys
  { params := imageParams im
    policy := (rs.filter fun r => r.sec == secPolicy).map fun r =>
      { index := r.index, off := leAt r.payload 0 4, mask := BitVec.ofNat 32 (leAt r.payload 4 4),
        value := BitVec.ofNat 32 (leAt r.payload 8 4) }
    keys := (keyRecs.filter fun r => leAt r.payload 0 8 == serial).map fun r => r.payload.drop 12
    svn := im.header.svn
    epoch := im.header.epoch
    provision := im.header.provision
    digest := im.digest
    patchVersion := paramOr rs secPatch 1 0
    patchDigest := match recPayload rs secPatch 2 with
      | some p => sha384 p
      | none => 0
    steppings := im.header.steppings
    ucodeMin := im.header.ucodeMin
    ucodeMax := im.header.ucodeMax }

end Sys2Proof.Machine
end

