-- ==== Sys2Proof/Machine/Mem.lean ====
section
/-! DEFINITION. The byte-addressed memories: one read, one write, ranges of bytes, and the canonical form that every
write keeps: addresses strictly rising and no byte listed that an unlisted address reads as (0, R84). -/

namespace Sys2Proof.Machine

/-- The byte at an address; an unlisted one is 0. -/
def Memory.get (m : Memory) (a : Nat) : Byte := Tab.getD a 0 m

/-- Write a byte; writing 0 takes the entry away. -/
def Memory.set (m : Memory) (a : Nat) (b : Byte) : Memory := if b = 0 then Tab.del a m else Tab.put a b m

/-- `n` bytes from an address. -/
def Memory.read (m : Memory) (a : Nat) : Nat → List Byte
  | 0 => []
  | n + 1 => m.get a :: m.read (a + 1) n

/-- Write bytes from an address on. -/
def Memory.write (m : Memory) (a : Nat) : List Byte → Memory
  | [] => m
  | b :: bs => Memory.write (m.set a b) (a + 1) bs

/-- The canonical form. -/
def Memory.wf (m : Memory) : Bool := Tab.sorted m && m.all fun e => e.2 != 0

/-- BAR2 offset of a mailbox (R515). -/
def mboxBase (m : Nat) : Nat := 0x400000 + m * 0x100000

/-- After a warm reset or a reset of SEQ, every mailbox that the controller owned reads OWNER 0 and STATUS ABORTED (R518). -/
def abortMboxes (bar2 : Memory) : Memory :=
  ((List.range 32).filter fun m => bar2.get (mboxBase m) != 0).foldl (fun (t : Memory) m =>
    (t.set (mboxBase m) 0).set (mboxBase m + 0x10) 3) bar2

/-- Do `n` bytes from `a` lie inside trained DRAM? -/
def State.inDram (s : State) (a n : Nat) : Bool := decide (a + n ≤ s.mem.dramBytes)

/-- Read DRAM. -/
def State.dramRead (s : State) (a n : Nat) : List Byte := s.mem.dram.read a n

/-- Write DRAM. -/
def State.dramWrite (s : State) (a : Nat) (bs : List Byte) : State :=
  { s with mem := { s.mem with dram := s.mem.dram.write a bs } }

end Sys2Proof.Machine
end

