-- ==== Sys2Proof/Machine/Image.lean ====
section
/-! DEFINITION. Choosing the image to boot and replacing it (chapter 2: R48, R66-R70), and the fuse operations
(R57, R563). -/

namespace Sys2Proof.Machine

/-! ### Selector and slots (R48, R70) -/

/-- The fields of a slot selector (Table 2.2). -/
structure Selector where
  seq : Nat := 0
  preferred : Bool := false
  trial : Bool := false
  trialUsed : Bool := false
  deriving DecidableEq, Repr

/-- The 32 bytes of a selector copy. -/
def Selector.bytes (c : Selector) : List Byte :=
  let front := leBytes 4 0x4C455357 ++ leBytes 4 c.seq ++ leBytes 1 (if c.preferred then 1 else 0) ++
    leBytes 1 ((if c.trial then 1 else 0) + if c.trialUsed then 2 else 0) ++ zeros 18
  front ++ leBytes 4 (crc32c front)

/-- The selector that a copy's bytes hold, where MAGIC and CRC are correct (R48). -/
def readSelector (l : List Byte) : Option Selector :=
  if leAt l 0 4 == 0x4C455357 && crc32c (l.take 0x1C) == leAt l 0x1C 4 then
    some { seq := leAt l 4 4, preferred := leAt l 8 1 == 1, trial := leAt l 9 1 % 2 == 1, trialUsed := leAt l 9 1 / 2 % 2 == 1 }
  else none

/-- The two copies as the boot ROM reads them. -/
def norCopies (n : Nor) : Option Selector × Option Selector :=
  (readSelector (norRegion n .selector0), readSelector (norRegion n .selector1))

/-- The governing selector copy: the valid one with the higher SEQ (R48); false is copy 0. -/
def norGoverning (n : Nor) : Option Bool :=
  match norCopies n with
  | (some a, some b) => some (decide (a.seq < b.seq))
  | (some _, none) => some false
  | (none, some _) => some true
  | (none, none) => none

/-- The governing copy's content. -/
def norSelector (n : Nor) : Selector :=
  match norGoverning n with
  | none => {}
  | some b => ((if b then (norCopies n).2 else (norCopies n).1).getD {})

/-- Rewrite the copy that does not govern (R48), SEQ one higher (R47). -/
def norRewrite (n : Nor) (f : Selector → Selector) : Nor :=
  let c := { f (norSelector n) with seq := ((norSelector n).seq + 1) % 2 ^ 32 }
  norProgram n (if norGoverning n == some false then .selector1 else .selector0) c.bytes

/-- A slot's number. -/
def slotNum (b : Bool) : Nat := if b then 1 else 0

/-- A slot's check as the boot ROM finds it: a POLICY refusal of STRUCT counts as its failure (R67). -/
def State.slotFails (s : State) (b : Bool) : Option ImgFail :=
  match Tab.find (slotNum b) s.img.policyFailed with
  | some i => some (imgParam, i)
  | none => checkSlot s.img.fuses s.img.nor b

/-- The boot ROM's choice (R66-R70): the slot to boot, if any, with FALLBACK and TRIAL; the preferred slot's failure;
the record index of the slot checked last; the boot flash after. -/
structure RomChoice where
  slot : Option Bool
  fallback : Bool
  trial : Bool
  first : Option ImgFail
  last : Nat
  nor : Nor
  deriving DecidableEq, Repr

/-- Check the preferred slot, then the other; TRIAL_USED is set when the trial slot is booted; an unaccepted trial is abandoned for the other
slot at once (R70).  DESIGN CHOICE (log entry 55): where that other slot fails its check too, no slot is booted and the selector stays as it
was; the spec does not say what follows. -/
def State.romChoice (s : State) : RomChoice :=
  let n := s.img.nor
  let sel := (norSelector n)
  let pref := if (norGoverning n).isSome then sel.preferred else false
  if (norGoverning n).isSome && sel.trial && sel.trialUsed then
    let first := (Tab.find (slotNum pref) s.img.policyFailed).map fun i => (imgParam, i)
    match s.slotFails (!pref) with
    | none =>
      { slot := some (!pref), fallback := true, trial := false, first := first, last := noRecord
        nor := norRewrite n fun c => { c with preferred := !pref, trial := false, trialUsed := false } }
    | some f => { slot := none, fallback := false, trial := false, first := some f, last := f.2, nor := n }
  else
    let trial := (norGoverning n).isSome && sel.trial
    let n' := if trial then norRewrite n fun c => { c with trialUsed := true } else n
    match s.slotFails pref with
    | none => { slot := some pref, fallback := false, trial := trial, first := none, last := noRecord, nor := n' }
    | some f =>
      match s.slotFails (!pref) with
      | none =>
        { slot := some (!pref), fallback := true, trial := false, first := some f, last := noRecord, nor := n }
      | some g => { slot := none, fallback := false, trial := false, first := some f, last := g.2, nor := n }

/-- Show a digest in `IMG_HASH0`-`IMG_HASH11`, bytes 0-3 (its most significant) in `IMG_HASH0` (R54). -/
def State.showHash (s : State) (d : BitVec 384) : State :=
  (List.range 12).foldl (fun s k =>
    let w := d.toNat / 2 ^ (32 * (11 - k)) % 2 ^ 32
    s.wr (Reg.IMG_HASH.at k) (w % 256 * 2 ^ 24 + w / 2 ^ 8 % 256 * 2 ^ 16 + w / 2 ^ 16 % 256 * 2 ^ 8 + w / 2 ^ 24)) s

/-- The static fields read back what the image sets (R60). -/
def State.showParams (s : State) : State :=
  let p := s.params
  let s := (List.range 4).foldl (fun s n => s.wr (Reg.ETH_LINK_MODE.at n) (p.ethMode.getD n 0)) s
  let s := s.wr Reg.QOS_TREE0_LEVELS p.levels
  let s := s.wr Reg.QOS_TREE0_NODES1 (p.nodes.getD 1 0)
  let s := s.wr Reg.QOS_TREE1_NODES2 (p.nodes.getD 2 0)
  let s := s.wr Reg.QOS_TREE1_NODES3 (p.nodes.getD 3 0)
  let s := (List.range 8).foldl (fun s k => s.wr (Reg.MFD_PART_SIZE.at k) (p.mfdPart.getD k 0)) s
  let least := (p.layouts.map layoutMembers).foldl min 35
  let s := s.wr Reg.FTL_TANK_ENTRIES (48 * p.diesMax * p.blocksPerDie / least + 1024)
  let s := s.wr Reg.FTL_THR_INFO_NA (leAt p.thr 2 1)
  let s := s.wr Reg.FTL_THR_INFO_NT (leAt p.thr 3 1)
  let s := s.wr Reg.FTL_THR_INFO_NE (leAt p.thr 4 1)
  let s := s.wr Reg.FTL_THR_INFO_NL (leAt p.thr 5 1)
  let s := s.wr Reg.FTL_THR_INFO_NR (leAt p.thr 6 1)
  s.resetParents.auditShow

/-- Fill `IMG_STATUS`. -/
def State.showImage (s : State) (result : Nat) (slot fallback trial pq : Bool) (cls idx bad : Nat) : State :=
  let s := s.wr Reg.IMG_STATUS_RESULT result
  let s := s.wrB Reg.IMG_STATUS_SLOT slot
  let s := s.wrB Reg.IMG_STATUS_FALLBACK fallback
  let s := s.wrB Reg.IMG_STATUS_TRIAL trial
  let s := s.wrB Reg.IMG_STATUS_PQ_VERIFIED pq
  let s := s.wr Reg.IMG_STATUS_KEY_CLASS cls
  let s := s.wr Reg.IMG_STATUS_KEY_INDEX idx
  s.wr Reg.IMG_STATUS_BAD_RECORD bad

/-- Boot the chosen image: `IMG_STATUS` by R67, the digest, the parameters latched. -/
def State.bootImage (s : State) (c : RomChoice) (b : Bool) (im : Image) : State :=
  let key := (signingKey s.img.fuses im).getD (0, 0, {})
  let s := { s with img := { s.img with nor := c.nor, booted := some (bootedOf s.img.fuses.serial im) } }
  let result := match c.first with
    | some f => f
    | none => (imgOk, noRecord)
  ((s.showImage result.1 b c.fallback c.trial im.header.hybrid key.1 key.2.1 result.2).showHash im.digest).showParams

/-- Make the choice of `romChoice` good; `false`: no slot passes (R68). -/
def State.romBoot (s : State) : State × Bool :=
  let c := s.romChoice
  match c.slot with
  | none =>
    ({ s with img := { s.img with nor := c.nor, booted := none } }.showImage imgNoValid false false false false 0 0
      c.last, false)
  | some b =>
    (s.bootImage c b (norSlot s.img.nor b), true)

/-! ### Replacing the image (R69, R70) -/

/-- The bits of a command's word that the general write applies, then the trigger's own effect. -/
def State.imgWrite (s : State) (off : Nat) (value : W32) : State := s.writeWord off value

/-- The slot not booted (R69). -/
def State.targetSlot (s : State) : Bool := !s.is Reg.IMG_STATUS_SLOT

/-- The copy to stage: `IMG_STAGE_LEN` bytes of DRAM from `IMG_STAGE_ADDR`, or of BAR2's staging memory in recovery mode (R69). -/
def State.stagedBytes (s : State) : List Byte :=
  let a := s.rd64 Reg.IMG_STAGE_ADDR_LO Reg.IMG_STAGE_ADDR_HI
  let n := min 33554432 (s.rd Reg.IMG_STAGE_LEN)
  if s.prim.recovery then s.mem.bar2.read a n else s.dramRead a n

/-- IMAGE_STAGE (R69, R70): ignored while a staging is in progress; refused TRIAL_PENDING during a trial boot;
otherwise the staged copy is taken and BUSY set. -/
def execImageStage (s : State) : Host.Outcome State Fault Refusal :=
  settled (
    if !s.reached .img then s.unreached .img
    else if s.is Reg.IMG_STAGE_STATUS_BUSY then s
    else if s.is Reg.IMG_STATUS_TRIAL then s.wr Reg.IMG_STAGE_STATUS_RESULT imgTrialPending
    else
      let t := (s.wr Reg.IMG_STAGE_STATUS_BUSY 1).wr Reg.IMG_STAGE_STATUS_RESULT imgNone
      { t with img := { t.img with staged := some s.stagedBytes } })

/-- Finish a staging: the staged copy checked by R66, the target slot programmed and read back; a slot that does not read back is left
erased. -/
def State.stageDone (s : State) (readBackGood : Bool) : State :=
  let l := s.img.staged.getD []
  let s := s.wr Reg.IMG_STAGE_STATUS_BUSY 0
  match checkImage s.img.fuses l.length (readImage l l.length) with
  | some f => { s.wr Reg.IMG_STAGE_STATUS_RESULT f.1 with img := { s.img with staged := none } }
  | none =>
    let kept := if readBackGood then l else []
    let s := { s with img := { s.img with nor := norProgram s.img.nor (slotRegion s.targetSlot) kept, staged := none } }
    if readBackGood then s.wr Reg.IMG_STAGE_STATUS_RESULT imgOk
    else (s.wr Reg.IMG_STAGE_STATUS_RESULT (s.freeVal 4)).freeNext

/-- STAGING_DONE (R69).  A slot that does not read back holds no image; the result then is a free value, since the
spec names no code for it. -/
def execStagingDone (readBackGood : Bool) (s : State) : Host.Outcome State Fault Refusal :=
  settled (if s.is Reg.IMG_STAGE_STATUS_BUSY then s.stageDone readBackGood else s)

/-- TRIAL_NEXT (R69 step 5): with a staged slot, both selector copies show PREFERRED = target and TRIAL. -/
def execTrialNext (s : State) : Host.Outcome State Fault Refusal :=
  settled (
    if !s.reached .img then s.unreached .img
    else if s.is Reg.IMG_STAGE_STATUS_BUSY || s.rd Reg.IMG_STAGE_STATUS_RESULT != imgOk then s
    else
      let f := fun c : Selector => { c with preferred := s.targetSlot, trial := true, trialUsed := false }
      { s with img := { s.img with nor := norRewrite (norRewrite s.img.nor f) f } })

/-- A register write of R449 that the audit chain covers: refused with AUDIT_FULL while the ring is full (R451), else
done and recorded. -/
def State.auditedWrite (s : State) (off : Nat) (value : W32) (refused : Bool) (f : State → State) : State :=
  if s.auditFull then s.setErr .cry 9 else (f s).audited off value refused

/-- Accept the running trial (R70): TRIAL and TRIAL_USED cleared, the security version counter raised. -/
def State.acceptImage (s : State) : State :=
  let svn := (s.img.booted.getD {}).svn
  let fuses := { s.img.fuses with svn := max s.img.fuses.svn svn }
  let nor := norRewrite s.img.nor fun c => { c with trial := false, trialUsed := false }
  { s.wr Reg.IMG_STATUS_TRIAL 0 with img := { s.img with fuses := fuses, nor := nor } }

/-- IMAGE_ACCEPT (R70, R449). -/
def execImageAccept (s : State) : Host.Outcome State Fault Refusal :=
  settled (if !s.reached .img then s.unreached .img else if s.img.booted.isNone then s else s.auditedWrite 0x200010 4 false State.acceptImage)

/-! ### Fuses (R56, R57, R563) -/

/-- One bit for each key slot, vendor slots 0-1 then owner slots 0-3 (Table 22.5). -/
def fuseBits (f : Fuses) (p : FuseSlot → Bool) : Nat :=
  ((f.vendor.take 2).zipIdx.foldl (fun a e => a + if p e.1 then 2 ^ e.2 else 0) 0) +
  ((f.owner.take 4).zipIdx.foldl (fun a e => a + if p e.1 then 2 ^ (e.2 + 2) else 0) 0)

/-- The registers that show the part's identity: serial number, fuses (Table 22.5). -/
def State.showIdentity (s : State) : State :=
  let f := s.img.fuses
  let s := s.wr64 Reg.GLB_SERIAL_LO Reg.GLB_SERIAL_HI f.serial
  let s := s.wr Reg.IMG_FUSE_STATUS_PROGRAMMED (fuseBits f FuseSlot.programmed)
  let s := s.wr Reg.IMG_FUSE_STATUS_REVOKED (fuseBits f FuseSlot.revoked)
  s.wr Reg.IMG_FUSE_STATUS_PQ_SET (fuseBits f FuseSlot.pq)

/-- Result codes of `IMG_FUSE_STATUS` (Table 22.5). -/
def fuseOk : Nat := 0
def fuseNotProvision : Nat := 1
def fuseAlready : Nat := 2
def fuseNotProgrammed : Nat := 3

/-- The digest that `IMG_FUSE_HASH0`-`HASH11` hold, bytes 0-3 in HASH0. -/
def State.fuseHash (s : State) : BitVec 384 :=
  BitVec.ofNat 384 ((List.range 12).foldl (fun a k =>
    let w := s.rd (Reg.IMG_FUSE_HASH.at k)
    a * 2 ^ 32 + (w % 256 * 2 ^ 24 + w / 2 ^ 8 % 256 * 2 ^ 16 + w / 2 ^ 16 % 256 * 2 ^ 8 + w / 2 ^ 24)) 0)

/-- Start a fuse operation with its outcome decided (R57, R563). -/
def State.fuseStart (s : State) (revoke : Bool) : State :=
  let i := s.rd Reg.IMG_FUSE_CTL_INDEX
  let programmed := (s.img.fuses.owner.getD i {}).programmed
  let result :=
    if !(s.img.booted.getD {}).provision then fuseNotProvision
    else if revoke then (if programmed then fuseOk else fuseNotProgrammed)
    else if programmed then fuseAlready else fuseOk
  let plan : FusePlan :=
    { index := i, revoke := revoke, pq := s.is Reg.IMG_FUSE_CTL_PQ, hash := s.fuseHash, result := result }
  let s := { s.wr Reg.IMG_FUSE_STATUS_BUSY 1 with img := { s.img with fusePlan := some plan } }
  s

/-- An `IMG_FUSE_CTL` write with PROGRAM or REVOKE: nothing without KEY 0x9648 or while BUSY; audited in every case
(R449). -/
def State.fuseWrite (s : State) (value : W32) (revoke : Bool) : State :=
  let s := s.imgWrite 0x200080 value
  if !s.reached .img || value.toNat / 2 ^ 16 != 0x9648 || s.is Reg.IMG_FUSE_STATUS_BUSY then s
  else if s.auditFull then s.setErr .cry 9
  else
    let s := s.fuseStart revoke
    let refused := match s.img.fusePlan with
      | some p => p.result != fuseOk
      | none => false
    s.audited 0x200080 value refused

/-- FUSE_PROGRAM (R57, R563). -/
def execFuseProgram (value : W32) (s : State) : Host.Outcome State Fault Refusal :=
  settled (s.fuseWrite value false)

/-- FUSE_REVOKE (R57, R563). -/
def execFuseRevoke (value : W32) (s : State) : Host.Outcome State Fault Refusal :=
  settled (s.fuseWrite value true)

/-- A list with entry `i` changed, lengthened with blank slots to hold it. -/
def setFuse (l : List FuseSlot) (i : Nat) (f : FuseSlot → FuseSlot) : List FuseSlot :=
  ((List.range (max l.length (i + 1))).map fun k => l.getD k {}).modify i f

/-- Blow the fuses of a plan that ends OK. -/
def State.fuseApply (s : State) (p : FusePlan) : State :=
  if p.result != fuseOk then s
  else
    let f : FuseSlot → FuseSlot := fun k =>
      if p.revoke then { k with revoked := true }
      else { k with programmed := true, hash := p.hash, pq := p.pq }
    { s with img := { s.img with fuses := { s.img.fuses with owner := setFuse s.img.fuses.owner p.index f } } }

/-- FUSE_OP_DONE (R563): BUSY clears and RESULT is set. -/
def execFuseOpDone (s : State) : Host.Outcome State Fault Refusal :=
  settled (match s.img.fusePlan with
    | none => s
    | some p =>
      let s := { s.fuseApply p with img := { (s.fuseApply p).img with fusePlan := none } }
      ((s.wr Reg.IMG_FUSE_STATUS_BUSY 0).wr Reg.IMG_FUSE_STATUS_RESULT p.result).showIdentity)

end Sys2Proof.Machine
end

