-- ==== Sys2Proof/Machine/Journal.lean ====
section
/-! DEFINITION. Journal records as bytes (Tables 11.3 and 15.4, R426) and entries of the lost-stripe list (Table 11.8). -/

namespace Sys2Proof

open Sys2Proof.Machine (leBytes zeros crc32c)

/-- A Brontanto header before its HCRC (Table 17.1). -/
def brontFront (type hops src dest seq ack len credit : Nat) : List Byte :=
  leBytes 1 type ++ leBytes 1 hops ++ leBytes 1 src ++ leBytes 1 dest ++ leBytes 4 seq ++ leBytes 4 ack ++ leBytes 4 len ++ leBytes 3 credit ++ zeros 1

/-- Are a received frame's HCRC and CRC right (R456)? -/
def PodFrame.crcGood (f : PodFrame) : Bool :=
  f.hcrc.toNat == crc32c (brontFront f.type f.hops f.src.val f.dest f.seq.toNat f.ack.toNat f.payload.length f.credit.toNat) &&
    f.crc.toNat == crc32c f.payload

/-- A byte string with zeros after it, up to a multiple of 8. -/
def padTo8 (l : List Byte) : List Byte := l ++ zeros ((8 - l.length % 8) % 8)

/-- A signed byte. -/
def signedByte (t : Int) : List Byte := leBytes 1 (t % 256).toNat

/-- Bits of a mask. -/
def maskOf (l : List Nat) : Nat := (l.eraseDups.map (2 ^ ·)).sum

/-- TYPE of a record (Table 15.4). -/
def JRec.type : JRec → Nat
  | .stripeCommit .. => 1
  | .mapSet .. => 2
  | .mapMark .. => 3
  | .tankOpen .. => 4
  | .tankState .. => 5
  | .memberSubst .. => 6
  | .blockState .. => 7
  | .checkpoint .. => 8
  | .owner .. => 9
  | .namespace_ .. => 10

/-- A record's body (Tables 11.3 and 15.4). -/
def JRec.body : JRec → List Byte
  | .stripeCommit seq tank index layout missing cls flags epoch =>
    leBytes 8 seq ++ leBytes 4 tank ++ leBytes 2 index ++ leBytes 2 layout ++ leBytes 8 (maskOf missing) ++
      leBytes 1 cls ++ leBytes 1 flags ++ zeros 2 ++ leBytes 4 epoch
  | .mapSet nsid iu v copy =>
    leBytes 2 nsid ++ leBytes 1 (if copy then 1 else 0) ++ leBytes 5 v ++ leBytes 8 iu
  | .mapMark nsid iu seq zero =>
    leBytes 2 nsid ++ zeros 1 ++ leBytes 5 (if zero then 0xFFFFFFFFFE else 0xFFFFFFFFFF) ++ leBytes 8 iu ++ leBytes 8 seq
  | .tankOpen tank layout cls ms time =>
    leBytes 4 tank ++ leBytes 2 layout ++ leBytes 1 cls ++ leBytes 1 ms.length ++ leBytes 8 time ++
      ms.flatMap fun (m : Nat × Nat × Int × Nat) =>
        leBytes 1 m.1 ++ leBytes 1 m.2.1 ++ signedByte m.2.2.1 ++ zeros 1 ++ leBytes 4 m.2.2.2
  | .tankState tank st time temps =>
    leBytes 4 tank ++ leBytes 1 st ++ leBytes 1 temps.length ++ zeros 2 ++ leBytes 8 time ++ temps.flatMap signedByte
  | .memberSubst tank pos cistern die block =>
    leBytes 4 tank ++ leBytes 1 pos ++ leBytes 1 cistern ++ leBytes 1 die ++ zeros 1 ++ leBytes 4 block
  | .blockState cistern die st block =>
    leBytes 1 cistern ++ leBytes 1 die ++ leBytes 1 st ++ zeros 1 ++ leBytes 4 block
  | .checkpoint seq level run => leBytes 8 seq ++ leBytes 1 level ++ zeros 7 ++ leBytes 8 run
  | .owner nsid m seq => leBytes 2 nsid ++ leBytes 1 m ++ zeros 1 ++ leBytes 8 seq
  | .namespace_ nsid action nsze vendor =>
    leBytes 2 nsid ++ leBytes 1 action ++ zeros 1 ++ leBytes 8 nsze ++ vendor

/-- A record in its frame, under its JSEQ (R426). -/
def JRec.frame (r : JRec) (jseq : Nat) : List Byte :=
  let f := leBytes 2 r.type ++ leBytes 2 r.body.length ++ zeros 4 ++ leBytes 8 jseq ++ padTo8 r.body
  f ++ leBytes 4 (crc32c f) ++ zeros 4

/-- Bytes of a record in its frame. -/
def JRec.bytes (r : JRec) : Nat := 24 + (padTo8 r.body).length

/-- The completion header before HCRC (Table 13.6), and whether HCRC is that of R363. -/
def Cpl.front (c : Cpl) : List Byte :=
  leBytes 1 c.opcode.toNat ++ leBytes 1 ((if c.dup then 1 else 0) + if c.alert then 2 else 0) ++ leBytes 2 c.tag.toNat ++
    leBytes 4 c.payloadLen ++ leBytes 2 c.status ++ leBytes 1 c.pageStatus ++ [BitVec.ofInt 8 c.temp] ++ leBytes 4 c.progId.toNat ++
    leBytes 8 c.epoch.toNat ++ leBytes 1 c.writers.toNat ++ zeros 3
def Cpl.hcrcGood (c : Cpl) : Bool := crc32c c.front == c.hcrc.toNat

/-- An entry of the lost-stripe list (Table 11.8). -/
def Lost.bytes (e : Lost) : List Byte :=
  leBytes 4 e.nsid ++ leBytes 4 (e.nlb - 1) ++ leBytes 8 e.slba ++ leBytes 4 e.tank ++ leBytes 2 e.stripe ++
    leBytes 2 e.cause ++ leBytes 8 e.time

end Sys2Proof
end

