-- ==== Sys2Proof/Machine/Mram.lean ====
section
/-! DEFINITION. The MRAM as a translation window shows it (R45, R490): the partitions of Table 1.6, and the records whose place and
format the spec gives: the lost-stripe list and the commit ring (R308), the save descriptor (Table 15.3), the destroyed-fingerprint list and the audit ring (Tables 16.2 and 16.8). -/

namespace Sys2Proof.Machine

/-- The partition that an address lies in, and the offset within it (Table 2.5). -/
def mramAt (sizes : List Nat) (a : Nat) (i : Nat := 0) : Nat × Nat :=
  match sizes with
  | [] => (i, a)
  | n :: rest => if a < n * 0x10000 then (i, a) else mramAt rest (a - n * 0x10000) (i + 1)

/-- Do all the partitions that a range of MRAM touches allow the host to write (R45, R490)? -/
def State.mramWritable (s : State) (a n : Nat) : Bool :=
  let p := (mramAt s.params.mramSize a).1
  let q := (mramAt s.params.mramSize (a + n - 1)).1
  (List.range (q + 1 - p)).all fun i => s.params.mramHostWrite.getD (p + i) false

/-- The 96 bytes of a save descriptor (Table 15.3). -/
def SaveDesc.bytes (d : SaveDesc) : List Byte :=
  let flag := fun (b : Bool) (v : Nat) => if b then v else 0
  let front := leBytes 4 0x504D5553 ++ leBytes 2 1 ++ leBytes 1 d.st ++
    leBytes 1 (flag d.run 1 + flag d.single 2 + flag d.warm 4 + flag d.saveLost 8) ++
    leBytes 8 d.seq ++ leBytes 8 d.saveId ++ leBytes 8 d.saveTime ++ leBytes 4 d.dataStripes ++ leBytes 4 d.dirStripes ++
    leBytes 4 d.slots ++ leBytes 4 d.resvGen ++ leBytes 8 d.ckptSeq ++ leBytes 8 d.placeSeq ++ zeros 28
  front ++ leBytes 4 (crc32c front)

/-- The byte at an offset of the SUMP partition (R425): the descriptor copies; a copy of which none is valid reads as zeros in the factory
state. -/
def State.sumpByte (s : State) (o : Nat) : Option Byte :=
  let copy := fun (d : Option SaveDesc) (k : Nat) => match d with
    | some d => d.bytes[k]?
    | none => if s.sump.factory && decide (k < 96) then some 0 else none
  if o < 4096 then copy s.sump.descA o
  else if o < 8192 then copy s.sump.descB (o - 4096)
  else none

/-- The byte at an offset of the CRY partition (Table 16.2): the destroyed list until it first wraps, and the audit record whose SEQ falls
on the ring's place. -/
def State.cryByte (s : State) (o : Nat) : Option Byte :=
  if o < 0x100000 then none
  else if o < 0x180000 then
    let i := (o - 0x100000) / 8
    if s.cry.destroyed.length < 65536 then
      some (match s.cry.destroyed[i]? with
        | some f => (leBytes 8 f).getD (o % 8) 0
        | none => 0)
    else none
  else if o < 0x190000 then none
  else
    let i := (o - 0x190000) / 128
    match s.cry.audit.find? fun r => r.body.seq % max 1 s.auditCapacity == i with
    | some r => r.bytes[o % 128]?
    | none => none

/-- The byte at an offset of the PAR partition (R308): the lost-stripe list in its first 2 MiB, then the ring of commit records, the record
under JSEQ n at place n modulo its capacity (DESIGN CHOICE, log entry 57). -/
def State.parByte (s : State) (o : Nat) : Option Byte :=
  if o < 0x200000 then (s.ftl.lost[o / 32]?).map fun e => e.bytes.getD (o % 32) 0
  else
    let room := (s.params.mramSize.getD 1 0 * 0x10000 - 0x200000) / 56
    let i := (o - 0x200000) / 56
    (s.ftl.ring.find? fun e => e.1 % max 1 room == i).map fun e => (e.2.frame e.1).getD ((o - 0x200000) % 56) 0

/-- The byte at an MRAM address where the spec places one. -/
def State.mramByte (s : State) (a : Nat) : Option Byte :=
  let p := mramAt s.params.mramSize a
  if s.params.mramHostWrite.getD p.1 false then some (s.mem.mram.get a)
  else match p.1 with
    | 1 => s.parByte p.2
    | 2 => s.cryByte p.2
    | 3 => s.sumpByte p.2
    | 4 => some (s.mem.mram.get a)
    | _ => none

/-- Bytes of MRAM from an address, each that the spec places nowhere free. -/
def State.mramFill (s : State) (free : List Byte) (a : Nat) : List Byte :=
  match free with
  | [] => []
  | b :: rest => (s.mramByte a).getD b :: s.mramFill rest (a + 1)

/-- `n` bytes of MRAM as a window shows them. -/
def State.mramRead (s : State) (a n : Nat) : List Byte := s.mramFill (leBytes n (s.freeVal (8 * n))) a

/-- Records the controller keeps in MRAM (Table 1.6). -/
inductive MramRecord where
  | journal | shelfTime | healthCounts | reservations | lastWrite | programIds
  | lostList | commitRing
  | vault | destroyedList | auditRing | secureTime | ivCounters | expiringTime
  | descriptors | reservationTable | saveResults | history
  | hostRecords
  deriving DecidableEq, Repr

/-- The partition of a record (Table 1.6): 0 FTL, 1 PAR, 2 CRY, 3 SUMP, 4 HOST. -/
def MramRecord.partition : MramRecord → Nat
  | .journal | .shelfTime | .healthCounts | .reservations | .lastWrite | .programIds => 0
  | .lostList | .commitRing => 1
  | .vault | .destroyedList | .auditRing | .secureTime | .ivCounters | .expiringTime => 2
  | .descriptors | .reservationTable | .saveResults | .history => 3
  | .hostRecords => 4

/-- Bytes of the partition of a record. -/
def State.mramArea (s : State) (r : MramRecord) : Nat := s.params.mramSize.getD r.partition 0 * 0x10000

end Sys2Proof.Machine
end

