-- ==== Sys2Proof/Machine/Frames.lean ====
section
/-! DEFINITION. Frames of the manifold (R213, R219 to R229): queueing, the order of service, what a port needs to begin a copy, and the
capsules and pod messages that frames carry (R224, R360, R366, R457).  Ports are those of Table 8.1; sub-port k of Ethernet port p is port
p + 72 k. -/

namespace Sys2Proof.Machine

/-! ### Links to the cisterns -/

def State.linkOf (s : State) (n : Nat) : Link := Tab.getD n {} s.shelf.links

def State.updLink (s : State) (n : Nat) (f : Link → Link) : State :=
  { s with shelf := { s.shelf with links := Tab.upd n {} f s.shelf.links } }

def opIdentify : Nat := 0x01
def opBadBlocks : Nat := 0x02
def opStatus : Nat := 0x03
def opEpochSet : Nat := 0x04
def opRead : Nat := 0x10
def opProgram : Nat := 0x11
def opErase : Nat := 0x12

/-- Link state codes (Table 13.2). -/
def lkDown : Nat := 0
def lkDetect : Nat := 1
def lkActive : Nat := 6
def lkRecovery : Nat := 7
def lkL1 : Nat := 8
def lkFailed : Nat := 9

def State.lk (s : State) (n : Nat) : Nat := s.rd (Reg.SKL_LINK_STATE.at n)

/-! ### Ports (Table 8.1) -/

/-- Ethernet port of a manifold port. -/
def ethOf (port : Nat) : Option Nat := if decide (48 ≤ port % 72 ∧ port % 72 < 52) then some (port % 72 - 48) else none

/-- The manifold port of a sub-port. -/
def ethPort (p sub : Nat) : Nat := 48 + p + 72 * sub

/-- The manifold port of a pump tile. -/
def pumpPort (tile : Nat) : Nat := 56 + tile % 16

/-- Has the port not lost its link, and is it not stalled? -/
def State.portUp (s : State) (port : Nat) : Bool := !Tab.has port s.mfd.down

/-- Show an Ethernet sub-port's link (`ETH_LINK.UP`). -/
def State.showEth (s : State) (port : Nat) (up : Bool) : State :=
  match ethOf port with
  | none => s
  | some n =>
    let f := Reg.ETH_LINK_UP.at n
    let bit := 2 ^ (port / 72)
    let w := s.rd f
    s.wr f (w - (if w / bit % 2 == 1 then bit else 0) + if up then bit else 0)

/-- Has a sub-port link? -/
def State.ethUp (s : State) (port : Nat) : Bool := (ethOf port).any fun n => s.rd (Reg.ETH_LINK_UP.at n) / 2 ^ (port / 72) % 2 == 1

/-- Line rate of a sub-port in Gb/s (Table 2.5, ETH_PORT_MODE). -/
def State.portGbps (s : State) (n : Nat) : Nat :=
  match s.params.ethMode.getD n 0 with
  | 1 => 800
  | 2 => 400
  | 3 => 200
  | 4 => 100
  | _ => 0

/-- Is a source's rate at least a destination's (R221)?  Pumps, the sump and PCIE always qualify; a peer link carries 846.6 Gb/s (R455),
a cistern's link 118 (R353). -/
def State.keepsUp (s : State) (src dst : Nat) : Bool :=
  let rate (p : Nat) : Nat :=
    match ethOf p with
    | some n => 10 * s.portGbps n
    | none => if p < 48 then 1180 else if p < 54 then 8466 else 0
  (ethOf src).isNone && decide (54 ≤ src) || decide (rate dst ≤ rate src)

/-- Is a priority of a port paused by a PFC frame of the link partner (R121)? -/
def State.pausedBy (s : State) (port prio : Nat) : Bool :=
  (Tab.find (8 * port + prio) s.mfd.paused).any fun t => decide (s.tm.mono < t)

/-! ### Copies -/

/-- Copies still to be sent of a frame. -/
def Frame.left (f : Frame) : List Nat := f.dests.filter fun d => !f.done.contains d

/-- Is the frame a multicast one? -/
def Frame.multi (f : Frame) : Bool := decide (1 < f.dests.length)

/-- Credit that a frame takes on a peer link (R456): its payload in 256-byte units; a frame of the header alone takes none. -/
def peerCells (f : Frame) : Nat := if f.bare then 0 else cellsOf f.len

/-- The Skalas command that a copy carries to a link, with its tag. -/
def State.capsuleFor (s : State) (f : Frame) (n : Nat) : Option (Nat × Tag) :=
  match Tab.find n f.caps with
  | none => none
  | some g => (Tab.find g (s.linkOf n).tags).map fun t => (g, t)

/-- Has a cistern's or peer link's port its link in ACTIVE, and is the port not held down? -/
def State.portLinked (s : State) (port : Nat) : Bool :=
  (s.portUp port || s.mfd.stalled.contains port) &&
  (if (ethOf port).isSome then s.ethUp port
   else if port < 48 then s.lk port == lkActive
   else if port < 54 then s.rd (Reg.PL_LINK_STATE.at (port - 52)) == lkActive
   else true)

/-- Has the port link, and room for the copy (R225): the credit of R360 on a cistern's link in ACTIVE, that of R456 on a peer link, no pause
of the frame's priority on an Ethernet port (R121)? -/
def State.portReady (s : State) (f : Frame) (port : Nat) : Bool :=
  s.portLinked port &&
  match ethOf port with
  | some n => (if h : n < 4 then s.begins (.eth ⟨n, h⟩) else false) && !s.pausedBy port f.prio
  | none =>
    if port < 48 then
      s.begins (sklBlock port) && (s.capsuleFor f port).any fun c =>
        if c.2.opcode == opProgram then decide (258 ≤ (s.linkOf port).program) else (s.linkOf port).command != 0
    else if port < 54 then
      s.begins (if port == 52 then .pla else .plb) &&
        decide (peerCells f ≤ (Tab.getD (port - 52) {} s.pod.links).credit)
    else true

/-- May the copy begin: the frame is complete, or its source keeps up with the port (R221)? -/
def State.mayBegin (s : State) (f : Frame) (port : Nat) : Bool :=
  (f.complete || s.keepsUp f.src port) && s.portReady f port

/-- The heads of a port's queues: the first frame of each priority and class (R224). -/
def State.heads (s : State) (port : Nat) : List (Nat × Frame) :=
  (s.mfd.frames.filter fun e => e.2.left.contains port).foldl (fun l e =>
    if l.any fun h => h.2.prio == e.2.prio && h.2.urgent == e.2.urgent then l else l ++ [e]) []

/-- Is `a` served before `b`: higher priorities of a sub-port first, URGENT before NORMAL within one (R224)? -/
def Frame.before (a b : Frame) : Bool :=
  if a.prio != b.prio then decide (b.prio < a.prio) else a.urgent && !b.urgent

/-- The frame that a port serves next. -/
def State.nextOn (s : State) (port : Nat) : Option (Nat × Frame) :=
  ((s.heads port).filter fun e => s.mayBegin e.2 port).foldl (fun (b : Option (Nat × Frame)) e =>
    match b with
    | none => some e
    | some x => if e.2.before x.2 then some e else b) none

/-- A port sends a cell: a stall ends (R230). -/
def State.portSends (s : State) (port : Nat) : State :=
  if s.mfd.stalled.contains port then
    { s with mfd := { s.mfd with stalled := s.mfd.stalled.filter (· != port), down := Tab.del port s.mfd.down
                                 expired := s.mfd.expired.filter (· != port) } }
  else s

/-- Take a copy's credit (R360, R456). -/
def State.takeCredit (s : State) (f : Frame) (port : Nat) : State :=
  if port < 48 then
    match s.capsuleFor f port with
    | none => s
    | some (_, t) => s.updLink port fun l =>
      if t.opcode == opProgram then { l with program := l.program - 258 } else { l with command := l.command - 1 }
  else if port == 52 || port == 53 then
    { s with pod := { s.pod with links := Tab.updIf (port - 52) (fun l => { l with credit := l.credit - peerCells f }) s.pod.links } }
  else s

/-- An idle port begins the next copy it may begin; a stopped MFD begins none (R72). -/
def State.startPort (s : State) (port : Nat) : State :=
  if Tab.has port s.mfd.sending || !s.begins .mfd then s
  else match s.nextOn port with
    | none => s
    | some (id, f) =>
      ({ s with mfd := { s.mfd with sending := Tab.put port id s.mfd.sending } }).portSends port |>.takeCredit f port

/-- The ports that `p` holds of begin what waits for them. -/
def State.startPorts (s : State) (p : Nat → Bool) : State :=
  ((s.mfd.frames.flatMap fun e => e.2.left.filter p).eraseDups).foldl (fun (s : State) n => s.startPort n) s

/-! ### Queueing -/

/-- Is every copy of the frame discarded as it comes: a unicast frame for a port whose hold has ended with the link still down (R229)? -/
def State.discards (s : State) (f : Frame) : Bool :=
  match f.dests with
  | [p] => s.mfd.expired.contains p
  | _ => false

/-- Put a frame that has its cells into the queues of its destinations, which begin it where they are idle. -/
def State.enterFrame (s : State) (f : Frame) : State :=
  let id := s.mfd.next
  let s := ({ s with mfd := { s.mfd with
    next := id + 1, frames := Tab.put id { f with tComplete := if f.complete then s.tm.mono else 0 } s.mfd.frames } }).showPart f.part
  f.dests.foldl (fun (s : State) p => s.startPort p) s

/-- Queue a frame (R219, R225): discarded at once where R229 says so; waiting for cells, behind those that wait already, where its
partition is full (R231). -/
def State.queueFrame (s : State) (f : Frame) : State :=
  if s.discards f then s.count Reg.MFD_CNT_HOLD_DISCARD_CELLS (cellsOf f.len)
  else match if s.mfd.waiting.any fun g => g.part == f.part then none else s.alloc f.part (cellsOf f.len) with
    | none => { s with mfd := { s.mfd with waiting := s.mfd.waiting ++ [f] } }
    | some r => s.enterFrame { f with runs := r }

/-- Frames that wait for cells are queued, in order within each partition, as room returns. -/
def State.admitWaiting (s : State) : State :=
  s.mfd.waiting.foldl (fun (s : State) f => s.queueFrame f) { s with mfd := { s.mfd with waiting := [] } }

/-- HOST_RX cells held by a priority of an Ethernet port (R232). -/
def State.rxHeld (s : State) (n prio : Nat) : Nat :=
  ((s.mfd.frames.filter fun e => e.2.part == 0 && ethOf e.2.src == some n && e.2.prio == prio).map fun e => e.2.cells).sum

/-- Cells of a port-priority have come free: below XON its pause ends, with 0 quanta (R232). -/
def State.rxRelease (s : State) (f : Frame) : State :=
  match ethOf f.src with
  | none => s
  | some n =>
    let k := 8 * n + f.prio
    if f.part == 0 && Tab.has k s.mfd.xoff && decide (s.rxHeld n f.prio < s.rd (Reg.MFD_PFC_THR_XON.at n)) then
      (({ s with mfd := { s.mfd with xoff := Tab.del k s.mfd.xoff } }).send (.pfc n f.prio 0)).count (Reg.MFD_CNT_PAUSE_SENT.at n)
    else s

/-- Take a frame out of the manifold: its cells are free, its copies are no longer sent. -/
def State.freeFrame (s : State) (id : Nat) (f : Frame) : State :=
  ((({ s with mfd := { s.mfd with
    frames := Tab.del id s.mfd.frames, sending := s.mfd.sending.filter fun e => e.2 != id
    receiving := s.mfd.receiving.filter fun e => e.2 != id } }).showPart f.part).rxRelease f).admitWaiting

/-- Mark copies of a frame finished; its cells are freed with the last (R225). -/
def State.markDone (s : State) (id : Nat) (ports : List Nat) : State :=
  match Tab.find id s.mfd.frames with
  | none => s
  | some f =>
    let f := { f with done := f.done ++ ports.filter f.left.contains }
    if f.left.isEmpty then s.freeFrame id f
    else { s with mfd := { s.mfd with
      frames := Tab.put id f s.mfd.frames, sending := s.mfd.sending.filter fun e => e.2 != id || !ports.contains e.1 } }

/-! ### Brontanto frames (R456, Tables 17.1, 17.2, 17.4) -/

/-- State of a peer link. -/
def State.plk (s : State) (k : Nat) : Nat := s.rd (Reg.PL_LINK_STATE.at k)

def State.linkPl (s : State) (k : Nat) : PeerLink := Tab.getD k {} s.pod.links

def State.updPl (s : State) (k : Nat) (f : PeerLink → PeerLink) : State :=
  { s with pod := { s.pod with links := Tab.upd k {} f s.pod.links } }

/-- The frame type that carries a message (Table 17.2). -/
def podType : PodMsg → Nat
  | .mirror .. | .mirrorAck .. => 1
  | .forward .. => 2
  | .time .. => 4
  | .hello .. => 5
  | .ackOnly .. => 6
  | _ => 3

/-- Code and sub-code of a CONTROL message (Table 17.4). -/
def controlCode : PodMsg → Option (Nat × Nat)
  | .joinRefuse .. => some (1, 0)
  | .liveSet .. => some (2, 0)
  | .liveSetReq => some (2, 1)
  | .prepare .. => some (3, 0)
  | .agree => some (3, 1)
  | .refuse .. => some (3, 2)
  | .go => some (3, 3)
  | .abandon => some (3, 4)
  | .suspend => some (4, 0)
  | .suspendAck => some (4, 1)
  | .leaving => some (5, 0)
  | .intent .. => some (6, 0)
  | .grantReq .. => some (7, 0)
  | .grant .. | .grantRefuse .. => some (7, 1)
  | .copyMap .. => some (8, 0)
  | .release .. | .released .. => some (8, 1)
  | .handover .. => some (9, 0)
  | .epochNote .. => some (10, 0)
  | .keyCopy .. => some (11, 0)
  | _ => none

/-- Sectors of mirrored versions. -/
def versionSectors (vs : List MirrorVersion) : Nat := (vs.map fun v => v.sectors.length).sum

/-- Payload bytes of MIRROR: its data, its journal records in their frames (R426), and 64 bytes for each other record. -/
def mirrorLen (f : MirrorFrame) : Nat :=
  ((f.versions.flatMap (·.sectors)).map fun e => e.2.length).sum + (f.regions.map fun r => r.bytes.length).sum +
    (f.records.map JRec.bytes).sum + 64 * (f.recents.length + f.reservations.length) + 8 * f.released.length +
    16 * f.lastWrites.length + 32 * (f.lost.getD []).length

/-- Payload bytes of a FORWARD frame. -/
def fwdLen : FwdMsg → Nat
  | .command _ => 128
  | .data _ _ b => 16 + b.length
  | .readData _ _ b => 16 + b.length
  | _ => 64

/-- Payload bytes of a message.  The spec gives the layout of few: those sizes are a DESIGN CHOICE (log entry 58). -/
def podLen : PodMsg → Nat
  | .ackOnly .. => 0
  | .mirror f => min 65792 (max 64 (mirrorLen f))
  | .forward f => min 65792 (fwdLen f)
  | .hello .. | .handover .. => 256
  | .liveSet _ v | .prepare _ _ _ v => min 65792 (32 + 8 * v.length)
  | .keyCopy _ _ _ d => min 65792 (128 + 48 * d.length)
  | _ => 64

/-- Payload bytes of a frame. -/
def PodBody.len : PodBody → Nat
  | .msg m => podLen m
  | .bytes l => l.length

/-- Credit that a frame returns. -/
def PodBody.credit : PodBody → Nat
  | .msg (.ackOnly _ n) => n
  | _ => 0

/-- The first bytes of a CONTROL payload: code, sub-code, body length. -/
def PodBody.start : PodBody → List Byte
  | .msg m => (controlCode m).elim [] fun c => leBytes 1 c.1 ++ leBytes 1 c.2 ++ leBytes 2 (podLen m - 4)
  | .bytes _ => []

/-- A frame's header, with the last SEQ received in order. -/
def State.brontHead (s : State) (k : Nat) (t : PodTx) : List Byte :=
  let f := brontFront t.send.type t.send.hops t.send.src t.send.dest t.seq (s.linkPl k).rxSeq t.send.body.len t.send.body.credit
  f ++ leBytes 4 (crc32c f)

/-- Put a frame on a peer link. -/
def State.transmitPod (s : State) (k : Nat) (t : PodTx) : State := s.send (.bront k (s.brontHead k t) t.send.body.start t.send t.poison)

/-- Send a frame under the next SEQ, kept until it is acknowledged; an ACK frame bears the last SEQ sent and is not kept. -/
def State.sendPod (s : State) (k : Nat) (p : PodSend) (poison : Bool) : State :=
  let n := (s.linkPl k).txSeq
  if p.type == 6 then s.transmitPod k { seq := n, poison := poison, send := p }
  else
    let t : PodTx := { seq := (n + 1) % 2 ^ 32, poison := poison, send := p }
    (s.updPl k fun l => { l with txSeq := t.seq, unacked := l.unacked ++ [t] }).transmitPod k t

/-- Send every frame again that is not acknowledged (R456). -/
def State.resendPod (s : State) (k : Nat) : State := (s.linkPl k).unacked.foldl (fun (s : State) t => s.transmitPod k t) s

/-- The message that a frame carries to a member, from this controller. -/
def State.podSend (s : State) (m : Nat) (msg : PodMsg) : PodSend :=
  { type := podType msg, src := s.selfIndex, dest := if 4 ≤ podType msg then 0xFF else m, body := .msg msg }

/-! ### Capsules and FLITs (R358, R359, R362, R366) -/

/-- The bytes that follow a command's header (Table 13.7): an EPOCH_SET's new epoch and mask, a PROGRAM's chunk header and data. -/
def Tag.payloadBytes (t : Tag) : List Byte :=
  match t.use with
  | .epochSet e w => leBytes 8 e ++ leBytes 1 w ++ zeros 7
  | _ => t.header ++ t.payload.flatten

/-- The capsule of a command under a tag (Table 13.5): fields that the opcode does not use are 0. -/
def Tag.capsule (t : Tag) (tag : Nat) : List Byte :=
  let pay := t.payloadBytes
  let read := t.opcode == opRead
  let flags := (if 0 < t.retries then 1 else 0) + (if read && t.prio then 2 else 0)
  let count := if read then t.count + 16 * t.mask else if t.opcode == opProgram then 4 else 0
  let front := leBytes 1 t.opcode ++ leBytes 1 flags ++ leBytes 2 tag ++ leBytes 4 pay.length ++ leBytes 8 t.epoch ++ leBytes 2 t.die ++
    leBytes 2 t.page ++ leBytes 4 t.block ++ leBytes 4 t.progId ++ leBytes 1 count ++
    (List.range 15).map fun i => BitVec.ofInt 8 (t.offsets.getD i 0)
  front ++ leBytes 4 (crc32c front) ++ pay

/-- A capsule cut into FLITs of 236 bytes of stream (R358): it starts in the first, the rest of the last is zeros, which a capsule that is
poisoned marks. -/
def flitsOf (poison : Bool) (bytes : List Byte) : List TxFlit :=
  let n := (bytes.length + 235) / 236
  (List.range n).map fun i =>
    let part := (bytes.drop (236 * i)).take 236
    { start := if i == 0 then 0 else 0xFF, poison := poison && i + 1 == n, stream := part ++ zeros (236 - part.length) }

/-- A FLIT's bytes: its stream and the link control field (Table 13.4), with the last SEQ received in order. -/
def State.flitBytes (s : State) (n : Nat) (nak : Bool) (f : TxFlit) : List Byte :=
  let ack := ((s.linkOf n).rxSeq + 1023) % 1024
  f.stream ++ leBytes 6 (f.seq + ack * 2 ^ 10 + (if nak then 2 ^ 20 else 0) + (if f.poison then 2 ^ 21 else 0) + f.start * 2 ^ 22 + 3 * 2 ^ 30)

/-- Send a NOP FLIT, under the SEQ of the last FLIT that bore a capsule: an acknowledgement, or a NAK (R359). -/
def State.sendNop (s : State) (n : Nat) (nak : Bool) : State :=
  s.send (.flit n (s.flitBytes n nak { seq := ((s.linkOf n).txSeq + 1023) % 1024, stream := zeros 236 }))

/-- Send FLITs. -/
def State.sendFlits (s : State) (n : Nat) (l : List TxFlit) : State := l.foldl (fun (s : State) f => s.send (.flit n (s.flitBytes n false f))) s

/-- FLITs that the controller's replay buffer of a link holds; sequence numbers count modulo 1,024. -/
def replayRoom : Nat := min 1023 (512 + Config.replayExtra)

/-- Send what waits, as far as the replay buffer has room. -/
def State.pumpFlits (s : State) (n : Nat) : State :=
  let l := s.linkOf n
  let k := replayRoom - l.replay.length
  let go := (l.txWait.take k).zipIdx.map fun e => { e.1 with seq := (l.txSeq + e.2) % 1024 }
  if go.isEmpty then s
  else
    let s := s.updLink n fun l =>
      { l with txSeq := (l.txSeq + go.length) % 1024, replay := l.replay ++ go, txWait := l.txWait.drop k }
    s.sendFlits n go

/-- The FLITs up to an acknowledged one are kept no longer. -/
def State.ackFlits (s : State) (n ack : Nat) : State :=
  match (s.linkOf n).replay.findIdx? fun f => f.seq == ack with
  | none => s
  | some i => (s.updLink n fun l => { l with replay := l.replay.drop (i + 1) }).pumpFlits n

/-- Send every FLIT again that is not acknowledged (R359, R361). -/
def State.replayFlits (s : State) (n : Nat) : State := s.sendFlits n (s.linkOf n).replay

/-- Send the capsule of a copy for a link, poisoned or not (R366). -/
def State.sendCapsule (s : State) (f : Frame) (n : Nat) (poison : Bool) : State :=
  match s.capsuleFor f n with
  | none => s
  | some (g, t) => (s.updLink n fun l => { l with txWait := l.txWait ++ flitsOf poison (t.capsule g) }).pumpFlits n

/-- The poisoned or stomped end of a copy under transmission (Table 8.6), counted where a cistern's or a peer link carries it (Table 13.11). -/
def State.stompCopy (s : State) (port id : Nat) : State :=
  let s := s.send (.stomp port id)
  match Tab.find id s.mfd.frames with
  | none => s
  | some f =>
    if port < 48 then (if s.lk port == lkActive then (s.sendCapsule f port true).count (Reg.SKL_CNT_POISONED.at port) else s)
    else match f.pod with
      | none => s
      | some p =>
        if s.plk (port - 52) == lkActive then (s.sendPod (port - 52) p true).count (Reg.PL_CNT_POISONED_TX.at (port - 52)) else s

/-- A copy under transmission is cut: it is ended as Table 8.6 gives (R228). -/
def State.cutCopy (s : State) (port : Nat) : State :=
  match Tab.find port s.mfd.sending with
  | none => s
  | some id => ({ s with mfd := { s.mfd with sending := Tab.del port s.mfd.sending } }).stompCopy port id

/-- Tail-mark a frame (R222): counted in TAIL_MARKED, and in STOMPED where its transmission has begun; each copy under transmission ends
as Table 8.6 gives when its port is done with it. -/
def State.tailMark (s : State) (id : Nat) : State :=
  match Tab.find id s.mfd.frames with
  | none => s
  | some f =>
    if f.bad then s
    else
      let begun := !f.done.isEmpty || s.mfd.sending.any fun e => e.2 == id
      let f := { f with bad := true, complete := true, stomped := begun, tComplete := if f.complete then f.tComplete else s.tm.mono }
      let s := ({ s with mfd := { s.mfd with frames := Tab.put id f s.mfd.frames
                                             receiving := s.mfd.receiving.filter fun e => e.2 != id } }).count Reg.MFD_CNT_TAIL_MARKED
      let s := if begun then s.count Reg.MFD_CNT_STOMPED else s
      f.left.foldl (fun (s : State) p => s.startPort p) s

/-! ### Ports without link (R222, R228, R229) -/

/-- Tail-mark the frames of a source that was lost before their last cell (R222). -/
def State.markSource (s : State) (port : Nat) : State :=
  (s.mfd.frames.filter fun e => e.2.src == port && !e.2.complete).foldl (fun (s : State) e => s.tailMark e.1) s

/-- Ports that have a link: the cisterns', Ethernet (with sub-ports) and peer links. -/
def linkedPort (port : Nat) : Bool := decide (port < 54) || ((ethOf port).isSome && decide (port / 72 < 8))

/-- A port is without link: its hold begins (R229). -/
def State.holdPort (s : State) (port : Nat) : State :=
  if Tab.has port s.mfd.down && !s.mfd.stalled.contains port then s
  else { s with mfd := { s.mfd with down := Tab.put port s.tm.mono s.mfd.down
                                    stalled := s.mfd.stalled.filter (· != port) } }

/-- A port loses its link: the frames it was receiving are tail-marked, the copy under transmission is cut and waits in its queue from
its first cell (R228), and the hold begins. -/
def State.portDown (s : State) (port : Nat) : State :=
  if !linkedPort port then s else (((s.showEth port false).markSource port).cutCopy port).holdPort port

/-- A port has its link again. -/
def State.portBack (s : State) (port : Nat) : State :=
  { s with mfd := { s.mfd with down := Tab.del port s.mfd.down, expired := s.mfd.expired.filter (· != port)
                               stalled := s.mfd.stalled.filter (· != port) } }

/-! ### Fenced cells (R237) -/

/-- Take cells out of allocation, those not fenced yet; MFD_FENCED shows how many, with an event at 1,024. -/
def State.fenceCells (s : State) (addr n : Nat) : State :=
  let new := gaps addr (addr + n) (s.mfd.fenced.foldr insertRun [])
  let was := s.fencedCells
  let s := { s with mfd := { s.mfd with fenced := s.mfd.fenced ++ new } }
  let s := s.wr Reg.MFD_FENCED s.fencedCells
  if was < 1024 && 1024 ≤ s.fencedCells then s.raise sevUncorrected .mfd Reg.MFD_FENCED.off noInstance s.fencedCells else s

/-! ### Queues of copies, continued -/

/-- Take a copy out of a port's queue; one under transmission is cut first, and the port goes on. -/
def State.dropCopy (s : State) (id port : Nat) : State :=
  let s := if Tab.find port s.mfd.sending == some id then s.cutCopy port else s
  (s.markDone id [port]).startPort port

/-! ### Capsules (R224, R360, R366) -/

/-- Is it the frame of a mirror layout's stripe, the copy for link `n` still without its command? -/
def Frame.awaits (f : Frame) (seq n : Nat) : Bool :=
  f.stripe.any (fun x => x.1 == seq) && f.left.contains n && !Tab.has n f.caps

/-- Put a command's capsule into the queue of its link: a one-cell frame, or for a PROGRAM the 257 cells of its payload, which in a mirror
layout are queued already; a program is NORMAL, every other command URGENT. -/
def State.queueCapsule (s : State) (n g : Nat) (t : Tag) : State :=
  match t.use with
  | .program seq pos =>
    if s.mfd.frames.any (fun e => e.2.awaits seq n) || s.mfd.waiting.any (·.awaits seq n) then
      let put (f : Frame) : Frame := if f.awaits seq n then { f with caps := Tab.put n g f.caps } else f
      ({ s with mfd := { s.mfd with frames := s.mfd.frames.map fun (e : Nat × Frame) => (e.1, put e.2)
                                    waiting := s.mfd.waiting.map put } }).startPort n
    else s.queueFrame { len := 65792, part := 3, src := pumpPort seq, dests := [n], stripe := some (seq, pos), caps := [(n, g)] }
  | _ => if t.opcode == opProgram then s.queueFrame { len := 65792, part := 3, src := pumpPort n, dests := [n], caps := [(n, g)] }
    else s.queueFrame { len := 48, part := 3, src := pumpPort n, dests := [n], urgent := true, caps := [(n, g)] }

/-- The copy of a stripe member for a link leaves the queues, with the member's position or without: it is never sent later (R226, R229). -/
def State.dropMember (s : State) (seq n : Nat) : State :=
  let has (f : Frame) : Bool := f.left.contains n && f.stripe.any fun x => x.1 == seq
  let drop (f : Frame) : Frame := if has f then { f with done := f.done ++ [n] } else f
  let s := { s with mfd := { s.mfd with waiting := (s.mfd.waiting.map drop).filter fun f => !f.left.isEmpty } }
  (s.mfd.frames.filter fun e => has e.2).foldl (fun (s : State) e => s.dropCopy e.1 n) s

/-- A tag has ended before its capsule was sent: the capsule leaves the queues, and is never sent later. -/
def State.dropCapsule (s : State) (n g : Nat) : State :=
  let has (f : Frame) : Bool := f.left.contains n && Tab.find n f.caps == some g
  let drop (f : Frame) : Frame := if has f then { f with done := f.done ++ [n] } else f
  let s := { s with mfd := { s.mfd with waiting := (s.mfd.waiting.map drop).filter fun f => !f.left.isEmpty } }
  (s.mfd.frames.filter fun e => has e.2).foldl (fun (s : State) e => s.dropCopy e.1 n) s

/-! ### Pod messages (R456, R457, Tables 17.1, 17.2) -/

/-- Is a peer link down: neither ACTIVE nor in RECOVERY? -/
def State.plIsDown (s : State) (k : Nat) : Bool := s.plk k != lkActive && s.plk k != lkRecovery

/-- The manifold port for MIRROR frames: PLA, or PLB only while PLA is down (R457). -/
def State.peerPort (s : State) : Nat := if s.plIsDown 0 && !s.plIsDown 1 then 53 else 52

/-- The manifold port of a message for a member: MIRROR as above; FORWARD and CONTROL by the link with fewer hops, by PLA where both are
equal or the shorter link is down (R457). -/
def State.peerRoute (s : State) (m : Nat) (msg : PodMsg) : Nat :=
  if podType msg == 1 then s.peerPort
  else
    let h := Tab.getD m {} s.pod.heard
    if h.hopsB != 0 && (h.hopsA == 0 || decide (h.hopsB < h.hopsA)) && !s.plIsDown 1 then 53 else 52

/-- Send a message by a peer link's port, as a frame of PEER (Tables 8.2, 17.2). -/
def State.toLink (s : State) (port m : Nat) (msg : PodMsg) : State :=
  s.queueFrame { len := max 1 (podLen msg), bare := podLen msg == 0, part := 4, src := if podType msg == 1 then 55 else 56, dests := [port]
                 urgent := decide (3 ≤ podType msg), pod := some (s.podSend m msg) }

/-- Acknowledge to the neighbour what has been received in order, with credit (R456); without either it asks for a resend. -/
def State.sendAck (s : State) (k give : Nat) : State :=
  s.toLink (52 + k) (s.rd (Reg.PL_LINK_NEIGHBOUR.at k)) (.ackOnly (s.linkPl k).rxSeq give)

/-- Return the credit owed for payloads received, once PEER has room for as much again (R231, R456). -/
def State.returnOwed (s : State) (k : Nat) : State :=
  let n := (s.linkPl k).owed
  if n == 0 || s.plk k != lkActive || s.partRoom 4 < n then s
  else (s.updPl k fun l => { l with owed := 0 }).sendAck k n

/-- Send a message to a member. -/
def State.toPeer (s : State) (m : Nat) (msg : PodMsg) : State := s.toLink (s.peerRoute m msg) m msg

end Sys2Proof.Machine
end

