-- ==== Sys2Proof/Machine/Cry.lean ====
section
/-! DEFINITION. The key vault and its operations (R431-R437), the key caches of the cipher cores (R439), the look-aside
engine (R441-R444) and the archive and check of the audit ring (R451, R452). -/

namespace Sys2Proof.Machine

/-! ### The vault -/

/-- Slot states (Table 16.10, STATE). -/
def slotEmpty : Nat := 0
def slotPending : Nat := 1
def slotLoaded : Nat := 2

/-- Key types of Table 16.1. -/
def keyXts256 : Nat := 1
def keyAes256 : Nat := 2

/-- KEY_LEN that a type requires (Table 16.1); 0 where there is no such type. -/
def keyBytes (type : Nat) : Nat :=
  match type with
  | 1 => 64
  | 2 => 32
  | 3 => 16
  | 4 => 24
  | 5 => 32
  | 6 => 32
  | _ => 0

/-- A slot of the vault. -/
def State.vaultSlot (s : State) (n : Nat) : VaultSlot := Tab.getD n {} s.cry.vault

/-- Set a slot. -/
def State.setSlot (s : State) (n : Nat) (v : VaultSlot) : State :=
  { s with cry := { s.cry with vault := Tab.put n v s.cry.vault } }

/-- Does the slot hold a key of this type (R439)? -/
def State.keyLoaded (s : State) (n type : Nat) : Bool :=
  (s.vaultSlot n).state == slotLoaded && (s.vaultSlot n).type == type

/-- A PRD host entry's word `k` (Table 5.3). -/
def State.prdWord (s : State) (host k : Nat) : Nat := (Tab.getD host [] s.prd.hosts).getD k 0

/-- Show how many host table entries are ENABLED (Table 5.8). -/
def State.showHosts (s : State) : State :=
  s.wr Reg.WELL_PRD_STATUS_HOSTS (s.prd.hosts.countP fun e => e.2.getD 0 0 % 2 == 1)

/-- Does a namespace or an ENABLED PRD host entry name the slot (Table 16.3)? -/
def State.keyInUse (s : State) (n : Nat) : Bool :=
  s.ns.anyE (fun _ ns => ns.keySlot == n) ||
  s.prd.hosts.anyE fun h _ => s.prdWord h 0 % 2 == 1 && s.prdWord h 2 % 2 ^ 13 == n

/-- Is a fingerprint on the destroyed list (R436)? -/
def State.fprintDestroyed (s : State) (f : Nat) : Bool := s.cry.destroyed.contains f

/-- Put a fingerprint on the destroyed list of 65,536; the oldest entry gives way, with an event (R436 step 4). -/
def State.appendDestroyed (s : State) (f : Nat) : State :=
  if s.cry.destroyed.length < 65536 then { s with cry := { s.cry with destroyed := s.cry.destroyed ++ [f] } }
  else
    { s with cry := { s.cry with destroyed := s.cry.destroyed.drop 1 ++ [f] } }.raise sevInfo .cry
      Reg.CRY_KEY_FPRINT_LO.off

/-- Purge a slot's key from every core's cache (R436 step 2). -/
def State.purgeKey (s : State) (n : Nat) : State :=
  { s with cry := { s.cry with
      xtsCache := Tab.mapE (fun _ l => l.filter (· != n)) s.cry.xtsCache
      gcmCache := Tab.mapE (fun _ l => l.filter (· != n)) s.cry.gcmCache } }

/-- Destroy the key of a slot here (R436 steps 1 to 5): purged, zeroed and marked, its fingerprint listed, audited.  A slot that holds
no key loses nothing. -/
def State.destroyHere (s : State) (n : Nat) (a : Actor) (cause : KeyCause) (nsid : Nat := 0) : State :=
  let v := s.vaultSlot n
  if v.state == slotLoaded then
    let s := ((s.purgeKey n).setSlot n { destroyed := true }).appendDestroyed v.fprint
    let s := s.count Reg.CRY_CNT_KEY_DESTROYED
    if s.auditSpent then s else s.audit audKeyDestroy a false nsid n (.keyDestroy v.fprint cause)
  else s.setSlot n { destroyed := v.destroyed }

/-- Destroy the key of a slot (R436 steps 1 to 6): here, and at the peer of a dual-controller shelf. -/
def State.destroyKey (s : State) (n : Nat) (a : Actor) (cause : KeyCause) (nsid : Nat := 0) : State :=
  let t := s.destroyHere n a cause nsid
  if (s.vaultSlot n).state != slotLoaded then t
  else match s.partner with
    | none => t
    | some p => t.toPeer p (.keyDestroy n)

/-- Copy a namespace key to the peer in SERVE, under the pair key, with the destroyed fingerprints that it may lack (R437, R461). -/
def State.copyKey (s : State) (n : Nat) : State :=
  let v := s.vaultSlot n
  match s.partner with
  | none => s
  | some p =>
    if !s.pod.pairKey || v.state != slotLoaded || v.type != keyXts256 || s.rd Reg.POD_STATUS_SERVE_SET / 2 ^ p % 2 == 0 then s
    else s.toPeer p (.keyCopy n v.type v.key [])

/-- A key's fingerprint: the first 8 bytes of HMAC-SHA-384 over its type and bytes under the second device secret (R432). -/
def State.fingerprint (s : State) (type : Nat) (key : List Byte) : Nat :=
  leNat ((hmac384 (nats s.img.fuses.secret) (type :: nats key)).take 8)

/-- A slot LOADED with a key. -/
def State.loaded (s : State) (type : Nat) (key : List Byte) : VaultSlot :=
  { state := slotLoaded, type := type, key := key, fprint := s.fingerprint type key }

/-- A key of a type drawn from the DRBG: free bytes. -/
def State.drawKey (s : State) (type : Nat) : List Byte := leBytes (keyBytes type) (s.freeVal (8 * keyBytes type))

/-- Draw a key of a type into a slot (R433 GENERATE, R440); the peer is given a copy (R437). -/
def State.generateKey (s : State) (n type : Nat) : State :=
  ((s.freeNext.setSlot n (s.loaded type (s.drawKey type))).count Reg.CRY_CNT_KEY_GENERATED).copyKey n

/-- Load an unwrapped key into a slot; the DESTROYED mark is cleared (R436 step 3); the peer is given a copy (R437). -/
def State.importKey (s : State) (n type : Nat) (key : List Byte) : State :=
  ((s.setSlot n (s.loaded type key)).count Reg.CRY_CNT_KEY_IMPORTS).copyKey n

/-! ### Wrapped keys (R434, Table 16.4) -/

/-- The plain fields of a wrapped key. -/
structure WrappedKey where
  formatGood : Bool
  type : Nat
  serial : Nat
  slot : Nat
  keyLen : Nat
  deriving DecidableEq, Repr

def readWrapped (l : List Byte) : WrappedKey :=
  { formatGood := l.length == 212 && leAt l 0 4 == 0x4B525057 && leAt l 4 2 == 1 && leAt l 7 1 == 0 && leAt l 0x75 3 == 0
    type := leAt l 6 1, serial := leAt l 8 8, slot := leAt l 0x10 2, keyLen := leAt l 0x12 2 }

/-- The ASCII text `WV-9648 key wrap`. -/
def wrapInfo : List Nat := [0x57, 0x56, 0x2D, 0x39, 0x36, 0x34, 0x38, 0x20, 0x6B, 0x65, 0x79, 0x20, 0x77, 0x72, 0x61, 0x70]

/-- The plaintext of a wrapped key, where its tag verifies: ECDH with the vault's private key, HKDF, AES-256-GCM (R434 steps 1 to 3). -/
def State.unwrapText (s : State) (l : List Byte) : Option (List Byte) :=
  match ecdh s.cry.vaultPriv (nats (slice l 0x14 97)) with
  | none => none
  | some z =>
    let keys := aesKeys (hkdf384 (nats (slice l 8 8)) z wrapInfo 32)
    let iv := nats (slice l 0x78 12)
    let ct := nats (slice l 0x84 64)
    if gcmTag keys iv (nats (l.take 0x84)) ct == nats (slice l 0xC4 16) then some (bytesOf (gcmCrypt keys iv ct)) else none

/-- The key of a wrapped key: the first KEY_LEN bytes, where the rest are 0 (R434 step 4) and KEY_LEN is that of TYPE. -/
def State.unwrap (s : State) (l : List Byte) : Option (List Byte) :=
  let w := readWrapped l
  if !w.formatGood || w.keyLen != keyBytes w.type then none
  else match s.unwrapText l with
    | none => none
    | some p => if (p.drop w.keyLen).all (· == 0) then some (p.take w.keyLen) else none

/-- The lowest EMPTY slot from 16 upwards (R440). -/
def State.lowestEmpty (s : State) : Option Nat :=
  (List.range 8176).findSome? fun i =>
    if (s.vaultSlot (16 + i)).state == slotEmpty then some (16 + i) else none

/-! ### KEYS records (R435) -/

/-- Treat one of the controller's own KEYS records in STRUCT (R435); slot 0 takes one only before the chain starts, and an AUDIT key alone
(R450, Table 16.1).  A record that does not unwrap is refused as a bad one would be. -/
def State.importRecord (s : State) (l : List Byte) : State :=
  let w := readWrapped l
  let v := s.vaultSlot w.slot
  let refuse := (s.count Reg.CRY_CNT_IMPORT_REFUSED).raise sevUncorrected .cry Reg.CRY_KEY_STATUS_STATE.off w.slot
  if v.state == slotEmpty && v.destroyed then refuse
  else match s.unwrap l with
    | none => refuse
    | some key =>
      let owner (s : State) : State := if w.slot == 0 then s.wr Reg.CRY_AUDIT_STATUS_KEY_OWNER 1 else s
      if v.state == slotLoaded && v.fprint == s.fingerprint w.type key then owner s
      else if v.state == slotLoaded || s.fprintDestroyed (s.fingerprint w.type key) || (w.slot == 0 && s.auditHead != 0) ||
          (w.slot == 0) != (w.type == 6) then refuse
      else owner (s.importKey w.slot w.type key)

/-- Import the KEYS records of the booted image (R85, R435). -/
def State.importKeys (s : State) : State :=
  ((s.img.booted.getD {}).keys).foldl State.importRecord s

/-- At the first priming the vault key pair is generated before any record is imported (R434): its private key is a free value.
DEDUCED (log entry 56): a KEYS record cannot be unwrapped before the pair exists. -/
def State.startVault (s : State) : State :=
  if s.auditHead != 0 || s.cry.vaultPriv != 0 then s
  else
    let d := s.freeVal 383 + 1
    { s.freeNext with cry := { s.cry with vaultPriv := d, vaultPub := bytesOf (p384Public d) } }

/-- At the first priming the audit key is generated where no KEYS record loaded it, and CHAIN_START is written (R450). -/
def State.startChain (s : State) : State :=
  if s.auditHead != 0 then s
  else
    let s := if (s.vaultSlot 0).state == slotLoaded then s
      else
        s.freeNext.setSlot 0 (s.loaded 6 (s.drawKey 6))
    s.audit audChainStart actController false

/-! ### Vault operations (Table 16.3) -/

/-- RESULT codes of `CRY_KEY_STATUS`. -/
def keyOk : Nat := 0
def keyBadSlot : Nat := 1
def keyNotEmpty : Nat := 2
def keyBadRecord : Nat := 3
def keyDestroyed : Nat := 4
def keyWrongDevice : Nat := 5
def keyAuditFull : Nat := 6
def keyInUseResult : Nat := 7

/-- `CRY_KEY_ACC`. -/
def offKeyAcc : Nat := 0x2C00100

/-- Start a vault operation: the word's fields, then GO; nothing while BUSY, or where CRY is not reached. -/
def State.keyStart (s : State) (value : W32) (op : Nat) : State :=
  if !s.reached .cry then s.unreached .cry
  else if s.is Reg.CRY_KEY_STATUS_BUSY then s
  else
    let s := s.writeWord offKeyAcc value
    let k : KeyOp :=
      { op := op, slot := s.rd Reg.CRY_KEY_ACC_SLOT, type := s.rd Reg.CRY_KEY_ACC_TYPE
        addr := s.rd64 Reg.CRY_KEY_ADDR_LO Reg.CRY_KEY_ADDR_HI }
    { s.wr Reg.CRY_KEY_STATUS_BUSY 1 with cry := { (s.wr Reg.CRY_KEY_STATUS_BUSY 1).cry with keyOp := some k } }

/-- KEY_IMPORT (R433, R434): the record is read at `CRY_KEY_ADDR`. -/
def execKeyImport (value : W32) (s : State) : Host.Outcome State Fault Refusal := settled (s.keyStart value 1)

/-- KEY_GENERATE (R433). -/
def execKeyGenerate (value : W32) (s : State) : Host.Outcome State Fault Refusal := settled (s.keyStart value 2)

/-- KEY_DESTROY (R433, R436). -/
def execKeyDestroy (value : W32) (s : State) : Host.Outcome State Fault Refusal := settled (s.keyStart value 3)

/-- KEY_INFO (R433). -/
def execKeyInfo (value : W32) (s : State) : Host.Outcome State Fault Refusal := settled (s.keyStart value 4)

/-- EXPORT_PUB (R433). -/
def execExportPub (value : W32) (s : State) : Host.Outcome State Fault Refusal := settled (s.keyStart value 5)

/-- IMPORT's refusals in the order of Table 16.3, then its effect, on the record at `CRY_KEY_ADDR`. -/
def State.doImport (s : State) (k : KeyOp) : State × Nat :=
  let v := s.vaultSlot k.slot
  let l := s.dramRead k.addr 212
  let w := readWrapped l
  if v.state == slotLoaded then (s, keyNotEmpty)
  else if w.serial != s.img.fuses.serial then (s, keyWrongDevice)
  else match s.unwrap l with
    | none => (s, keyBadRecord)
    | some key =>
      if w.type == 6 || (v.state == slotPending && w.type != keyXts256) then (s, keyBadRecord)
      else if s.fprintDestroyed (s.fingerprint w.type key) then (s, keyDestroyed)
      else (s.importKey k.slot w.type key, keyOk)

/-- GENERATE: into an EMPTY slot; the result for a TYPE that Table 16.1 does not give is a free value. -/
def State.doGenerate (s : State) (k : KeyOp) : State × Nat :=
  if (s.vaultSlot k.slot).state != slotEmpty then (s, keyNotEmpty)
  else if keyBytes k.type == 0 || k.type == 6 then (s.freeNext, s.freeVal 3)
  else (s.generateKey k.slot k.type, keyOk)

/-- DESTROY: refused for a slot in use. -/
def State.doDestroy (s : State) (k : KeyOp) : State × Nat :=
  if s.keyInUse k.slot then (s, keyInUseResult)
  else (s.destroyKey k.slot actManagement .vault, keyOk)

/-- INFO: state, type and fingerprint of the slot. -/
def State.doInfo (s : State) (k : KeyOp) : State × Nat :=
  let v := s.vaultSlot k.slot
  let s := (s.wr Reg.CRY_KEY_STATUS_STATE v.state).wr Reg.CRY_KEY_STATUS_TYPE v.type
  (s.wr64 Reg.CRY_KEY_FPRINT_LO Reg.CRY_KEY_FPRINT_HI v.fprint, keyOk)

/-- EXPORT_PUB: the vault's public key is written to `CRY_KEY_ADDR`. -/
def State.doExport (s : State) (k : KeyOp) : State × Nat :=
  (s.dramWrite k.addr s.cry.vaultPub, keyOk)

/-- Carry out a vault operation (Table 16.3): AUDIT_FULL, BAD_SLOT, then its row. -/
def State.keyRun (s : State) (k : KeyOp) : State × Nat :=
  if k.op == 5 then s.doExport k
  else if k.op != 4 && s.auditFull then (s, keyAuditFull)
  else if k.slot < 16 then (s, keyBadSlot)
  else match k.op with
    | 1 => s.doImport k
    | 2 => s.doGenerate k
    | 3 => s.doDestroy k
    | _ => s.doInfo k

/-- KEY_OP_DONE (R433): the operation's effect, its audit record (R449), BUSY cleared and RESULT set. -/
def execKeyOpDone (s : State) : Host.Outcome State Fault Refusal :=
  settled (if s.stopped .cry then s else match s.cry.keyOp with
    | none => s
    | some k =>
      let r := s.keyRun k
      let t := r.1
      let t := if k.op ≤ 3 && !s.auditFull then
          t.audited offKeyAcc (BitVec.ofNat 32 (k.slot + 2 ^ 16 * k.op + 2 ^ 19 * k.type + 2 ^ 31)) (r.2 != keyOk) 0 k.slot
        else t
      let t := (t.wr Reg.CRY_KEY_STATUS_BUSY 0).wr Reg.CRY_KEY_STATUS_RESULT r.2
      { t with cry := { t.cry with keyOp := none } })

/-! ### Inline cores (R439) -/

/-- A sector's core holds the key afterwards: a core that holds it already and has room, else the least-loaded one, whose full cache of 16 gives up
an entry.  Room, the load and the entry given up are free values. -/
def loadCore (cores : List Nat) (slot pick : Nat) (caches : Tab (List Nat)) : Tab (List Nat) :=
  let room := pick % 2 == 0
  let pick := pick / 2
  if cores.isEmpty || (room && cores.any fun c => (Tab.getD c [] caches).contains slot) then caches
  else
    let c := cores.getD (pick % cores.length) 0
    let l := Tab.getD c [] caches
    let l' := if l.length < 16 then l else l.eraseIdx (pick / cores.length % 16)
    if l.contains slot then caches else Tab.put c (l' ++ [slot]) caches

/-- The cores of a kind, from domain `d` on, that can be chosen: those whose domain has not failed (R532). -/
def State.goodCores (s : State) (d n : Nat) : List Nat := (List.range n).filter fun i => !s.domainFailed (d + i)

/-- A namespace's sector goes through an XTS core. -/
def State.useXts (s : State) (slot : Nat) : State :=
  { s with freeCtr := s.freeCtr + 1, cry := { s.cry with xtsCache := loadCore (s.goodCores 108 12) slot (s.freeVal 17) s.cry.xtsCache } }

/-- A PRD packet goes through a GCM core. -/
def State.useGcm (s : State) (slot : Nat) : State :=
  { s with freeCtr := s.freeCtr + 1, cry := { s.cry with gcmCache := loadCore (s.goodCores 120 8) slot (s.freeVal 17) s.cry.gcmCache } }

/-- The inline XTS transformation of a sector (R438): the tweak is the LBA and the NSID. -/
def State.xts (s : State) (slot nsid lba : Nat) (decrypt : Bool) (data : List Byte) : List Byte :=
  bytesOf (xtsCrypt (nats (s.vaultSlot slot).key) decrypt (nats (leBytes 8 lba ++ leBytes 4 nsid ++ zeros 4)) (nats data))

/-! ### The look-aside lock (R441) -/

/-- Owner codes of R441. -/
def ownerCode : Writer → Nat
  | .host => laHost
  | .seq n => 0x10 + n.val

/-- Is the look-aside ring idle? -/
def State.laIdle (s : State) : Bool := s.is Reg.CRY_LA_CONS_IDLE

/-- Free the lock. -/
def State.laFree (s : State) : State :=
  { s.wr Reg.CRY_LA_LOCK_OWNER 0 with cry := { (s.wr Reg.CRY_LA_LOCK_OWNER 0).cry with laReleasing := false } }

/-- The ring was busy, or PROD written, now. -/
def State.laTouch (s : State) : State := { s with cry := { s.cry with laIdleSince := s.tm.mono } }

/-- Does a write of the look-aside registers reach them: a sequencer's by the inside, the host's where BAR0 decodes them? -/
def State.laReached (s : State) (who : Writer) : Bool :=
  match who with
  | .host => s.reached .cry
  | .seq _ => !s.is (fResetting .cry)

/-- A write of the look-aside registers that does not reach them. -/
def State.laUnreached (s : State) (who : Writer) : State :=
  match who with
  | .host => s.unreached .cry
  | .seq _ => s

/-- LA_ACQUIRE (R441): the writer holds the lock where it was free. -/
def execLaAcquire (who : Writer) (s : State) : Host.Outcome State Fault Refusal :=
  settled (if !s.laReached who then s.laUnreached who
    else if s.rd Reg.CRY_LA_LOCK_OWNER == 0 then (s.wr Reg.CRY_LA_LOCK_OWNER (ownerCode who)).laTouch else s)

/-- LA_RELEASE (R441): from the holder, once the ring is idle. -/
def execLaRelease (who : Writer) (s : State) : Host.Outcome State Fault Refusal :=
  settled (
    if !s.laReached who then s.laUnreached who
    else if s.rd Reg.CRY_LA_LOCK_OWNER != ownerCode who then s
    else if s.laIdle then s.laFree
    else { s with cry := { s.cry with laReleasing := true } })

/-- LA_LOCK_TIMEOUT (R441): an idle holder loses the lock LOCK_TIMEOUT after the ring was last busy. -/
def execLaLockTimeout (s : State) : Host.Outcome State Fault Refusal :=
  settled (
    if s.rd Reg.CRY_LA_LOCK_OWNER == 0 || !s.laIdle then s
    else
      let s := s.atLeast (s.cry.laIdleSince + s.rd Reg.CRY_LA_CFG_LOCK_TIMEOUT * ms)
      (s.laFree.count Reg.CRY_CNT_LOCK_TIMEOUTS).raise sevInfo .cry Reg.CRY_LA_LOCK_OWNER.off)

/-! ### Descriptors (R442-R444) -/

/-- STATUS codes of Table 16.5. -/
def laOk : Nat := 1
def laAuthFail : Nat := 2
def laKeyInvalid : Nat := 3
def laBadDesc : Nat := 4
def laAborted : Nat := 5
def laAddrErr : Nat := 6

/-- The ring's size and the DRAM address of an entry. -/
def State.laSize (s : State) : Nat := s.rd Reg.CRY_LA_RING_SIZE
def State.laEntry (s : State) (i : Nat) : Nat := s.rd64 Reg.CRY_LA_RING_LO Reg.CRY_LA_RING_HI + 128 * i

/-- A descriptor's fields (Table 16.5). -/
structure LaDesc where
  at_ : Nat
  mode : Nat
  decrypt : Bool
  wordGood : Bool
  flags : Nat
  slot : Nat
  src : Nat
  dst : Nat
  aad : Nat
  len : Nat
  aadLen : Nat
  iv : Nat
  tag : Nat
  deriving DecidableEq, Repr

/-- The descriptor at a DRAM address. -/
def State.laDesc (s : State) (a : Nat) : LaDesc :=
  let b := s.dramRead a 128
  { at_ := a, mode := leAt b 0 1 % 16, decrypt := leAt b 0 1 / 16 % 2 == 1
    wordGood := leAt b 0 1 / 32 == 0 && decide (leAt b 1 1 ≤ 1) && decide (leAt b 2 2 < 2 ^ 13)
    flags := leAt b 1 1, slot := leAt b 2 2 % 2 ^ 13, src := leAt b 8 8, dst := leAt b 16 8, aad := leAt b 24 8
    len := leAt b 32 4, aadLen := leAt b 36 4, iv := leAt b 40 16, tag := leAt b 56 16 }

/-- Modes of Table 16.5. -/
def laCbc : Nat := 1
def laCtr : Nat := 2
def laCfb : Nat := 3
def laGcm : Nat := 4
def laGmac : Nat := 5
def laXts : Nat := 6

/-- The LEN rule of the descriptor's mode (Table 16.6), and the bounds of Table 16.5. -/
def laLenGood (d : LaDesc) : Bool :=
  decide (d.len ≤ 16777216 ∧ d.aadLen ≤ 65536) &&
  (if d.mode == laCbc then d.len % 16 == 0
   else if d.mode == laGmac then d.len == 0
   else if d.mode == laXts then decide (16 ≤ d.len)
   else d.mode == laCtr || d.mode == laCfb || d.mode == laGcm)

/-- The key types of the mode (Table 16.6). -/
def laTypeGood (mode type : Nat) : Bool :=
  if mode == laXts then type == 1 || type == 5 else type == 2 || type == 3 || type == 4

/-- Write STATUS of a descriptor. -/
def State.laStatus (s : State) (d : LaDesc) (st : Nat) : State := s.dramWrite (d.at_ + 4) [BitVec.ofNat 8 st]

/-- The next look-aside counter value, its range reserved in MRAM before use (R443). -/
def State.laCounter (s : State) : Nat × State :=
  let c := s.cry.ivLa
  let s := { s with cry := { s.cry with
    ivLa := c + 1
    ivLaNext := if c < s.cry.ivLaNext then s.cry.ivLaNext else c / 2 ^ 32 * 2 ^ 32 + 2 ^ 32 } }
  (c, s)

/-- The IV of an encryption, which the controller chooses (Table 16.6); XTS takes the tweak supplied. -/
def State.laIv (s : State) (d : LaDesc) : Nat × State :=
  if d.decrypt || d.mode == laXts then (d.iv, s)
  else if d.mode == laCbc || d.mode == laCfb then (s.freeVal 128, s.freeNext)
  else
    let r := s.laCounter
    (s.img.fuses.serial % 2 ^ 32 + 2 ^ 32 * (r.1 % 2 ^ 64), r.2)

/-- What a mode gives under a key and the 16 IV bytes: the output, and the tag of GCM and GMAC (R443). -/
def laMode (d : LaDesc) (key iv aad data : List Nat) : List Nat × List Nat :=
  let keys := aesKeys key
  let n := blocks16 data.length
  let iv12 := iv.take 12
  if d.mode == laCbc then (if d.decrypt then cbcDecrypt keys n iv data else cbcEncrypt keys n iv data, [])
  else if d.mode == laCtr then (ctr keys n iv data, [])
  else if d.mode == laCfb then (cfb keys d.decrypt n iv data, [])
  else if d.mode == laXts then (xtsCrypt key d.decrypt iv data, [])
  else
    let out := gcmCrypt keys iv12 data
    (out, gcmTag keys iv12 aad (if d.decrypt then data else out))

/-- Run a descriptor that passed its checks (R443, R444). -/
def State.laCompute (s : State) (d : LaDesc) : State :=
  let iv := s.laIv d
  let t := iv.2
  let out := laMode d (nats (s.vaultSlot d.slot).key) (nats (leBytes 16 iv.1)) (nats (s.dramRead d.aad d.aadLen)) (nats (s.dramRead d.src d.len))
  let tagged := d.mode == laGcm || d.mode == laGmac
  if d.decrypt && tagged && leNat out.2 != d.tag then
    ((t.dramWrite d.dst (zeros d.len)).laStatus d laAuthFail).count Reg.CRY_CNT_LA_AUTH_FAIL
  else
    let t := if d.mode == laGmac then t else t.dramWrite d.dst (bytesOf out.1)
    let t := if d.decrypt then t else t.dramWrite (d.at_ + 40) (leBytes 16 iv.1)
    let t := if tagged && !d.decrypt then t.dramWrite (d.at_ + 56) (bytesOf out.2) else t
    t.laStatus d laOk

/-- One descriptor (R443): BAD_DESC, KEY_INVALID, the key type, ADDR_ERR, then the mode. -/
def State.laOne (s : State) (d : LaDesc) : State :=
  let v := s.vaultSlot d.slot
  if !d.wordGood || d.slot < 16 || !laLenGood d then s.laStatus d laBadDesc
  else if v.state != slotLoaded then s.laStatus d laKeyInvalid
  else if !laTypeGood d.mode v.type then s.laStatus d laBadDesc
  else if !s.inDram d.src d.len || !s.inDram d.dst d.len || !s.inDram d.aad d.aadLen then s.laStatus d laAddrErr
  else s.laCompute d

/-- Set IDLE from the ring. -/
def State.laShow (s : State) : State :=
  s.wrB Reg.CRY_LA_CONS_IDLE (s.rd Reg.CRY_LA_CONS == s.rd Reg.CRY_LA_PROD)

/-- LA_PRODUCER_WRITE (R441, R442): only the holder advances PROD. -/
def execLaProducerWrite (who : Writer) (prod : BitVec 8) (s : State) : Host.Outcome State Fault Refusal :=
  settled (
    if !s.laReached who then s.laUnreached who
    else if s.rd Reg.CRY_LA_LOCK_OWNER == ownerCode who then ((s.wr Reg.CRY_LA_PROD prod.toNat).laShow).laTouch
    else s.setErr .cry 8)

/-- The descriptor at CONS is complete: CONS advances; a waiting RELEASE takes effect once the ring is idle. -/
def State.laAdvance (s : State) : State :=
  let s := (s.wr Reg.CRY_LA_CONS ((s.rd Reg.CRY_LA_CONS + 1) % s.laSize)).laShow.laTouch
  let s := s.count Reg.CRY_CNT_LA_DESCRIPTORS
  if s.laIdle && s.cry.laReleasing then s.laFree else s

/-- LA_DESCRIPTOR_DONE (R442, R443): the next descriptor in ring order completes. -/
def execLaDescriptorDone (s : State) : Host.Outcome State Fault Refusal :=
  settled (
    if s.laIdle || s.stopped .cry then s
    else
      let i := s.rd Reg.CRY_LA_CONS
      let d := s.laDesc (s.laEntry i)
      let s := (s.laOne d).laAdvance
      if d.flags % 2 == 1 then s.raiseIn groupNotice sevInfo .cry Reg.CRY_LA_CONS.off noInstance i else s)

/-- Abort the descriptors from CONS to PROD (R441 FORCE, R444). -/
def State.laAbort (s : State) : Nat → State
  | 0 => s
  | n + 1 =>
    if s.laIdle then s
    else
      let d := s.laDesc (s.laEntry (s.rd Reg.CRY_LA_CONS))
      let s := if d.mode == laGcm && d.decrypt then s.dramWrite d.dst (zeros d.len) else s
      ((s.laStatus d laAborted).laAdvance).laAbort n

/-- LA_FORCE (R441): with KEY 0x9648 the lock is released at once and incomplete descriptors end ABORTED. -/
def execLaForce (value : W32) (s : State) : Host.Outcome State Fault Refusal :=
  settled (if !s.reached .cry then s.unreached .cry
    else if value.toNat / 2 ^ 16 == 0x9648 then (s.laAbort 256).laFree else s)

/-! ### The audit ring's archive and check (R451, R452) -/

/-- AUDIT_ARCH_WRITE (R451): ignored where it lowers ARCH or passes HEAD. -/
def execAuditArchWrite (arch : W64) (s : State) : Host.Outcome State Fault Refusal :=
  settled (
    if !s.reached .cry then s.unreached .cry
    else if arch.toNat < s.auditArch || s.auditHead < arch.toNat then s
    else (s.wr64 Reg.CRY_AUDIT_ARCH_LO Reg.CRY_AUDIT_ARCH_HI arch.toNat).auditShow)

/-- AUDIT_VERIFY (R452): a check from ARCH to HEAD − 1 starts. -/
def execAuditVerify (s : State) : Host.Outcome State Fault Refusal :=
  settled (
    if !s.reached .cry then s.unreached .cry
    else if s.is Reg.CRY_AUDIT_VERIFY_BUSY then s
    else { s.wr Reg.CRY_AUDIT_VERIFY_BUSY 1 with cry := { (s.wr Reg.CRY_AUDIT_VERIFY_BUSY 1).cry with
      verifyTo := s.auditHead } })

/-- The record of a SEQ. -/
def State.auditAt (s : State) (n : Nat) : Option AuditRec := s.cry.audit.find? fun r => r.body.seq == n

/-- Does the record fail its MAC, or its link to the one before (R450, R452)? -/
def State.auditBadAt (s : State) (n : Nat) : Bool :=
  match s.auditAt n with
  | none => true
  | some r =>
    r.mac != s.auditMac r.body ||
    (if n == 0 then r.body.prevMac != 0
     else match s.auditAt (n - 1) with
       | none => false
       | some p => r.body.prevMac != p.mac)

/-- The first failing SEQ of `n` records from `i`. -/
def State.firstBad (s : State) (i : Nat) : Nat → Option Nat
  | 0 => none
  | n + 1 => if s.auditBadAt i then some i else s.firstBad (i + 1) n

/-- AUDIT_VERIFY_DONE (R452): `CRY_AUDIT_BAD` and CHAIN_BAD from the check. -/
def execAuditVerifyDone (s : State) : Host.Outcome State Fault Refusal :=
  settled (
    if !s.is Reg.CRY_AUDIT_VERIFY_BUSY || s.stopped .cry then s
    else
      let t := s.wr Reg.CRY_AUDIT_VERIFY_BUSY 0
      match s.firstBad s.auditArch (s.cry.verifyTo - s.auditArch) with
      | none => t.wr Reg.CRY_AUDIT_STATUS_CHAIN_BAD 0
      | some n => (t.wr64 Reg.CRY_AUDIT_BAD_LO Reg.CRY_AUDIT_BAD_HI n).wr Reg.CRY_AUDIT_STATUS_CHAIN_BAD 1)

end Sys2Proof.Machine
end

