-- ==== Sys2Proof/Machine/Retention.lean ====
section
/-! DEFINITION. Retention-locked namespaces (R445-R447): their states, expiry against secure time, and the operations
of `CRY_RET_ACC`. -/

namespace Sys2Proof.Machine

/-- Retention states (Table 16.10, STATE). -/
def retNone : Nat := 0
def retLocked : Nat := 1
def retExpiring : Nat := 2
def retExpired : Nat := 3

/-- Does this controller own the namespace (R43)? -/
def State.owns (s : State) (n : Ns) : Bool := n.owner == s.selfIndex

/-- A namespace's EXPIRY in ns of secure time (R446). -/
def Ns.expiry (n : Ns) : Nat := max (n.lastWrite + n.retainDays * 86400 * sec) n.holdUntil

/-- Set a namespace. -/
def State.putNs (s : State) (id : Nat) (n : Ns) : State := { s with ns := Tab.put id n s.ns }

/-- A retention state change (Table 16.7): audited by the controller, with an event to the management host; it waits
while the records held back are used up (R451). -/
def State.retChange (s : State) (id : Nat) (n : Ns) (new : Nat) : State :=
  if s.auditSpent then s
  else
    let s := s.putNs id { n with retState := new, expiringSecs := 0 }
    let s := s.auditOwn audRetention false id 0xFFFF (.retention n.retState new n.expiry n.holdUntil)
    s.raise sevInfo .cry Reg.CRY_RET_STATUS_STATE.off id

/-- Judge one namespace against secure time (Table 16.7). -/
def State.retJudge (s : State) (id : Nat) : State :=
  match Tab.find id s.ns with
  | none => s
  | some n =>
    if n.retState == retLocked && !n.hold && decide (n.expiry ≤ s.tm.secure) then s.retChange id n retExpiring
    else if n.retState == retExpiring && (n.hold || decide (s.tm.secure < n.expiry)) then s.retChange id n retLocked
    else s

/-- RETENTION_EXPIRY_CHECK (R446): once per second; time in EXPIRING is accumulated in whole seconds. -/
def execRetentionExpiryCheck (s : State) : Host.Outcome State Fault Refusal :=
  settled (s.ns.foldl (fun s e =>
    match Tab.find e.1 s.ns with
    | none => s
    | some n =>
      if !n.retain || !s.owns n then s
      else
        let s := if n.retState == retExpiring then s.putNs e.1 { n with expiringSecs := n.expiringSecs + 1 } else s
        s.retJudge e.1) s)

/-- ERASE_DELAY_EXPIRY (R446): ERASE_DELAY has elapsed in EXPIRING; the key is destroyed, the namespace EXPIRED. -/
def execEraseDelayExpiry (nsid : Nat) (s : State) : Host.Outcome State Fault Refusal :=
  settled (match Tab.find nsid s.ns with
    | none => s
    | some n =>
      if n.retState != retExpiring || !s.owns n || n.hold || decide (s.tm.secure < n.expiry) || s.auditSpent then s
      else
        let need := s.rd Reg.CRY_RET_CFG_ERASE_DELAY * 3600
        let s := s.advance ((need - n.expiringSecs) * sec)
        let s := s.destroyKey n.keySlot actController .expiry nsid
        (s.retChange nsid n retExpired).count Reg.CRY_CNT_RET_EXPIRED)

/-- RESULT codes of `CRY_RET_STATUS`. -/
def retOk : Nat := 0
def retNotLocked : Nat := 1
def retNotLater : Nat := 2
def retAuditFull : Nat := 3

/-- `CRY_RET_ACC`. -/
def offRetAcc : Nat := 0x2C00300

/-- Show a namespace's retention state (Table 16.10). -/
def State.retShow (s : State) (id : Nat) (result : Nat) : State :=
  let s := (s.wr Reg.CRY_RET_STATUS_BUSY 0).wr Reg.CRY_RET_STATUS_RESULT result
  match Tab.find id s.ns with
  | none => (s.wr Reg.CRY_RET_STATUS_STATE retNone).wr Reg.CRY_RET_STATUS_HOLD 0
  | some n =>
    let s := (s.wr Reg.CRY_RET_STATUS_STATE (if n.retain then n.retState else retNone)).wrB Reg.CRY_RET_STATUS_HOLD n.hold
    let s := s.wr64 Reg.CRY_RET_EXPIRY_LO Reg.CRY_RET_EXPIRY_HI n.expiry
    s.wr64 Reg.CRY_RET_LAST_WRITE_LO Reg.CRY_RET_LAST_WRITE_HI n.lastWrite

/-- RETENTION_READ (R447): reports the namespace named by NSID. -/
def execRetentionRead (value : W32) (s : State) : Host.Outcome State Fault Refusal :=
  settled (let s := s.writeWord offRetAcc value
    let id := s.rd Reg.CRY_RET_ACC_NSID
    let locked := (Tab.getD id { nsze := 0 } s.ns).retain
    if !s.reached .cry then s
    else s.retShow id (if locked then retOk else retNotLocked))

/-- HOLD_SET, HOLD_CLEAR and EXTEND (R447): AUDIT_FULL, NOT_LOCKED, NOT_LATER, then the change, audited. -/
def State.retOp (s : State) (value : W32) (change : Ns → Option Ns) : State :=
  let s := s.writeWord offRetAcc value
  let id := s.rd Reg.CRY_RET_ACC_NSID
  if !s.reached .cry then s
  else if s.auditFull then s.retShow id retAuditFull
  else match Tab.find id s.ns with
    | none => (s.audited offRetAcc value true id).retShow id retNotLocked
    | some n =>
      if !n.retain then (s.audited offRetAcc value true id).retShow id retNotLocked
      else match change n with
        | none => (s.audited offRetAcc value true id).retShow id retNotLater
        | some n' => (((s.putNs id n').audited offRetAcc value false id).retJudge id).retShow id retOk

/-- HOLD_SET (R447). -/
def execHoldSet (value : W32) (s : State) : Host.Outcome State Fault Refusal :=
  settled (s.retOp value fun n => some { n with hold := true })

/-- HOLD_CLEAR (R447). -/
def execHoldClear (value : W32) (s : State) : Host.Outcome State Fault Refusal :=
  settled (s.retOp value fun n => some { n with hold := false })

/-- EXTEND (R447): refused NOT_LATER unless the new HOLD_UNTIL is higher. -/
def execExtend (value : W32) (s : State) : Host.Outcome State Fault Refusal :=
  settled (
    let until_ := s.rd64 Reg.CRY_RET_UNTIL_LO Reg.CRY_RET_UNTIL_HI
    s.retOp value fun n => if n.holdUntil < until_ then some { n with holdUntil := until_ } else none)

end Sys2Proof.Machine
end

