-- ==== Sys2Proof/Machine/Cmds.lean ====
section
/-! DEFINITION. Host commands in the controller: their table, statuses (Table 6.9), lengths of their data, and the context cache of RC queue
pairs (R108). -/

namespace Sys2Proof

/-- The LBA range of an I/O command: SLBA and the number of LBAs. -/
def Sqe.slba (q : Sqe) : Nat := q.cdw10 + 2 ^ 32 * q.cdw11
def Sqe.nlb (q : Sqe) : Nat := q.cdw12 % 0x10000 + 1

/-- FCTYPE of a Fabrics command: the capsule's byte 4, where other commands carry NSID. -/
def Sqe.fctype (q : Sqe) : Nat := q.nsid % 256

/-- PRACT (R168). -/
def Sqe.pract (q : Sqe) : Bool := q.cdw12 / 2 ^ 29 % 2 == 1

/-- Does a packet begin, or end, a message? -/
def Pos.begins : Pos → Bool
  | .first | .only => true
  | .middle | .last => false

def Pos.ends : Pos → Bool
  | .last | .only => true
  | .first | .middle => false

/-- Cells of a parked packet (R110). -/
def RcPkt.cells (p : RcPkt) : Nat := (p.frameBytes + 255) / 256

end Sys2Proof

namespace Sys2Proof.Machine

/-! ### Statuses, SCT x 256 + SC -/

def nvOk : Nat := 0
def nvInvalidOpcode : Nat := 0x001
def nvInvalidField : Nat := 0x002
def nvDataTransfer : Nat := 0x004
def nvInternal : Nat := 0x006
def nvAborted : Nat := 0x007
def nvSqDeletion : Nat := 0x008
def nvInvalidNs : Nat := 0x00B
def nvSglSegment : Nat := 0x00D
def nvSglLength : Nat := 0x00F
def nvSglType : Nat := 0x011
def nvOpDenied : Nat := 0x015
def nvHostIdFormat : Nat := 0x018
def nvPreemptAbort : Nat := 0x01B
def nvWriteProtected : Nat := 0x020
def nvLbaRange : Nat := 0x080
def nvNotReady : Nat := 0x082
def nvResvConflict : Nat := 0x083
def nvFormatInProgress : Nat := 0x084
def nvInsufficient : Nat := 0x115
def nvNsidUnavailable : Nat := 0x116
def nvInvalidPi : Nat := 0x181
def nvReadOnlyRange : Nat := 0x182
def nvWriteFault : Nat := 0x280
def nvUnrecovered : Nat := 0x281
def nvGuard : Nat := 0x282
def nvAppTag : Nat := 0x283
def nvRefTag : Nat := 0x284
def nvCompare : Nat := 0x285
def nvTransition : Nat := 0x303

/-- Do Not Retry of a status (Table 6.9, R167). -/
def dnrOf (st : Nat) : Bool :=
  [nvInvalidOpcode, nvInvalidNs, nvSglLength, nvLbaRange, nvReadOnlyRange, nvUnrecovered, nvGuard, nvAppTag, nvRefTag,
   nvResvConflict, nvSqDeletion].contains st

/-- PRD statuses of Table 5.4. -/
def prdOk : Nat := 0
def prdStale : Nat := 1
def prdFuture : Nat := 2
def prdBusy : Nat := 3
def prdInProgress : Nat := 4
def prdTidReused : Nat := 5
def prdAborted : Nat := 6
def prdTimeLost : Nat := 7

/-! ### The tables -/

def State.cmdOf (s : State) (id : Nat) : Option Cmd := Tab.find id s.host.cmds

def State.updCmd (s : State) (id : Nat) (f : Cmd → Cmd) : State :=
  { s with host := { s.host with cmds := Tab.updIf id f s.host.cmds } }

/-- Move a command on; a tile condition that this makes true is counted (R524). -/
def State.setStage (s : State) (id : Nat) (g : Stage) : State := s.tileEdges (s.updCmd id fun c => { c with stage := g })

def State.ctlrOf (s : State) (n : Nat) : Ctlr := Tab.getD n {} s.host.ctlrs

def State.updCtlr (s : State) (n : Nat) (f : Ctlr → Ctlr) : State :=
  { s with host := { s.host with ctlrs := Tab.upd n {} f s.host.ctlrs } }

def State.qpOf (s : State) (q : Nat) : Qp := Tab.getD q {} s.rc.qps

def State.updQp (s : State) (q : Nat) (f : Qp → Qp) : State :=
  { s with rc := { s.rc with qps := Tab.upd q {} f s.rc.qps } }

/-- The number under which a PRD host's controller state is kept. -/
def prdCtlr (host : Nat) : Nat := 0x100000 + host

/-- Metadata bytes of an LBA format (Table 6.1). -/
def metaBytes (lbaf : Nat) : Nat :=
  match lbaf with
  | 0 => 0
  | 1 => 8
  | _ => 16

/-- Bytes per LBA on the wire (R168, Table 7.2). -/
def wireBytes (n : Ns) (q : Sqe) : Nat := if n.piType != 0 && q.pract then 4096 else 4096 + metaBytes n.lbaf

/-- Bytes that a command's data takes on the wire (Table 7.2). -/
def State.dataLen (s : State) (q : Sqe) : Nat :=
  let n := Tab.getD q.nsid { nsze := 0 } s.ns
  if [0x01, 0x02, 0x05].contains q.opcode then q.nlb * wireBytes n q
  else if q.opcode == 0x09 then 16 * (q.cdw10 % 256 + 1)
  else 0

/-- Bytes that an admin command transfers (NVMe Base 2.0, PRESUMED, log entry 54): a log page's or a directive's dwords, the Identify and
namespace structures, a controller list, feature data. -/
def adminBytes (q : Sqe) : Nat :=
  match q.opcode with
  | 0x02 => 4 * (q.cdw10 / 0x10000 + 0x10000 * (q.cdw11 % 0x10000) + 1)
  | 0x06 => 4096
  | 0x0D => if q.cdw10 % 16 == 0 then 4096 else 0
  | 0x15 => 4096
  | 0x1A => 4 * (q.cdw10 + 1)
  | 0x09 => if q.cdw10 % 256 == 0x81 then (if q.cdw11 % 2 == 1 then 16 else 8) else 0
  | 0x0A => if q.cdw10 % 256 == 0x0E then 8 else if q.cdw10 % 256 == 0x81 then (if q.cdw11 % 2 == 1 then 16 else 8) else 0
  | _ => 0

/-- Bytes that a command takes from its host: write data, ranges and keys, the data of Connect and of admin commands. -/
def State.inLen (s : State) (c : Cmd) : Nat :=
  let q := c.sqe
  if c.admin then
    (if q.opcode == 0x7F then (if q.fctype == 1 then 1024 else 0)
     else if [0x09, 0x0D, 0x15].contains q.opcode then adminBytes q else 0)
  else
    match q.opcode with
    | 0x01 | 0x05 | 0x09 => s.dataLen q
    | 0x0D | 0x11 => 16
    | 0x15 => 8
    | _ => 0

/-- Bytes that a command gives to its host. -/
def State.outLen (s : State) (c : Cmd) : Nat :=
  let q := c.sqe
  if c.admin then (if [0x02, 0x06, 0x0A, 0x1A].contains q.opcode then adminBytes q else 0)
  else
    match q.opcode with
    | 0x02 => s.dataLen q
    | 0x0E => 4 * (q.cdw10 + 1)
    | _ => 0

/-- Sectors of an IU (Table 6.2), and an IU's number in the tables. -/
def Ns.iuLen (n : Ns) : Nat := if n.iu16 then 4 else 1
def iuKey (nsid iu : Nat) : Nat := nsid * 2 ^ 48 + iu

/-! ### The controller's side (R43, R64) -/

/-- This controller's side. -/
def State.side (s : State) : Nat :=
  match s.selfEntry with
  | none => 0
  | some (_, _, _, side, _, _) => side

/-! ### The congestion window and the context cache (R108, R121) -/

/-- PMTU in bytes (Table 4.3). -/
def pmtuBytes (code : Nat) : Nat := 128 * 2 ^ code

/-- PSNs are 24 bits wide. -/
def psnAdd (p n : Nat) : Nat := (p + n) % 2 ^ 24

/-- May the queue pair put `n` more bytes in flight (R121)? -/
def State.windowOpen (s : State) (q : Qp) (n : Nat) : Bool :=
  !s.is Reg.WELL_RC_CTL_CC_EN || q.inflight == 0 || decide (q.inflight + n ≤ q.cwnd)

/-- Show the context cache (Table 4.8). -/
def State.showCache (s : State) : State :=
  (s.wr Reg.WELL_CACHE_STATUS_VALID s.rc.cache.length).wr Reg.WELL_CACHE_STATUS_DIRTY (s.rc.cache.countP fun e => e.2.dirty)

/-- Is a queue pair's context cached? -/
def State.ctxCached (s : State) (qi : Nat) : Bool := Tab.has qi s.rc.cache

/-- A context is used, and changed. -/
def State.touchCtx (s : State) (qi : Nat) : State :=
  ({ s with rc := { s.rc with cache := Tab.put qi ⟨s.rc.uses, true⟩ s.rc.cache, uses := s.rc.uses + 1 } }).showCache

/-- The least recently used cached context. -/
def lruCtx : Tab Cached → Option (Nat × Nat)
  | [] => none
  | (i, c) :: t => match lruCtx t with
    | none => some (i, c.used)
    | some (j, u) => if c.used ≤ u then some (i, c.used) else some (j, u)

/-- Begin to fetch a context (R108): where the cache is full, the least recently used one is evicted for it. -/
def State.fetchCtx (s : State) (qi : Nat) : State :=
  if s.rc.fetching.contains qi then s
  else
    let s := ({ s with rc := { s.rc with fetching := s.rc.fetching ++ [qi] } }).count Reg.WELL_CNT_CACHE_MISS
    if s.rc.cache.length + s.rc.fetching.length ≤ 4096 then s
    else match lruCtx s.rc.cache with
      | none => s
      | some (v, _) =>
        (({ s with rc := { s.rc with cache := Tab.del v s.rc.cache } }).count Reg.WELL_CNT_CACHE_EVICT).showCache

/-- RDMA READ requests that a queue pair may have outstanding (R114). -/
def State.ordOf (s : State) (q : Qp) : Nat := min (s.rd Reg.WELL_RC_CTL_ORD) q.ord

end Sys2Proof.Machine
end

