-- ==== Sys2Proof/Machine/Send.lean ====
section
/-! DEFINITION. Sending on each path: RC packets (R102, R118 to R121), PRD packets (R129, R130, R145 to R153), the master engine's
requests (R496 to R500); soliciting a command's data, sending data and completions; the hosts' asynchronous events (R177). -/

namespace Sys2Proof.Machine

/-! ### RC packets -/

/-- Bytes of a packet beyond the 66 of R110: its extended headers (IBTA, PRESUMED, log entry 58) and its payload. -/
def rcLen : RcOut → Nat
  | .ack .. | .nak .. | .rnr .. => 4
  | .readReq .. => 16
  | .readResponse pos _ _ d => (if pos == .middle then 0 else 4) + d.length
  | .write pos _ _ _ _ d => (if pos.begins then 16 else 0) + d.length
  | .response _ cqe inval => (if inval.isSome then 4 else 0) + cqe.length
  | .cnp => 16

/-- What a packet takes from its queue pair's context, and the ECN code of `WELL_RC_CTL.ECT` (R107, R120). -/
def State.rcHead (s : State) (q : Qp) : RcHead :=
  { destQpn := q.destQpn, remoteIp := q.remoteIp, localIp := q.localIp, mac := q.mac, vlan := q.vlan, sport := q.sport
    dscp := q.tclass / 4, ecn := s.rd Reg.WELL_RC_CTL_ECT, hopLimit := q.hopLimit }

/-- Send an RC packet on a queue pair, whose context is used and changed by it: a frame of HOST_TX for its port and sub-port; T_LAST is the
shelf time of the last packet (Table 4.3). -/
def State.sendRc (s : State) (qi : Nat) (urgent : Bool) (m : RcOut) : State :=
  let q := s.qpOf qi
  let s := s.updQp qi fun q => { q with tLast := s.tm.shelf }
  let s := if s.ctxCached qi then s.touchCtx qi else s
  s.queueFrame { len := 66 + rcLen m, part := 1, src := pumpPort q.pump, dests := [ethPort q.port q.subPort], urgent := urgent
                 prio := q.vlan / 8192 % 8, outs := [.rc qi (s.rcHead q) m] }

/-- Is it data of a command? -/
def SendItem.dataOf (x : SendItem) (cmd : Nat) : Bool :=
  match x with
  | .data c .. => c == cmd
  | .done .. => false

/-- The first response capsule whose command has no data before it, with what is left. -/
def takeDone : List SendItem → List SendItem → Option (SendItem × List SendItem)
  | _, [] => none
  | pre, x :: t =>
    match x with
    | .done cmd .. => if pre.any (·.dataOf cmd) then takeDone (pre ++ [x]) t else some (x, pre ++ t)
    | .data .. => takeDone (pre ++ [x]) t

/-- What a queue pair sends next, with what is left: in order, but where the window holds back a message that has not begun, a response
capsule, which the window never holds (R121). -/
def State.nextSend (s : State) (q : Qp) : Option (SendItem × List SendItem) :=
  match q.sendQueue with
  | [] => none
  | .done c a b d e f g :: t => some (.done c a b d e f g, t)
  | .data c a k total rest :: t =>
    if s.windowOpen q (min rest.length (pmtuBytes q.pmtu)) then some (.data c a k total rest, t)
    else if rest.length < total then none
    else takeDone [] q.sendQueue

/-- A packet takes the next PSN and waits for its acknowledgement. -/
def State.sendPsn (s : State) (qi n : Nat) (urgent : Bool) (m : RcOut) (queue : List SendItem) : State :=
  (s.sendRc qi urgent m).updQp qi fun q =>
    { q with
      nextPsn := psnAdd q.nextPsn 1
      inflight := q.inflight + n
      sent := q.sent ++ [⟨q.nextPsn, n, m⟩]
      lastAck := if q.sent.isEmpty && q.reads.isEmpty then s.tm.mono else q.lastAck
      sendQueue := queue }

/-- The position of `n` bytes in a message of `total`, of which `rest` were left. -/
def posIn (total rest n : Nat) : Pos :=
  if rest == total then (if n == total then .only else .first) else if n == rest then .last else .middle

/-- Send what the queue pair has waiting, as far as the window lets it: each data packet carries at most a PMTU and takes a PSN; a
response capsule follows its command's data (R118, R121), in the NORMAL queue where that data is RDMA Writes (R224).  A context that is
not cached is fetched first (R110). -/
def State.rcDrain (s : State) (qi : Nat) : Nat → State
  | 0 => s
  | fuel + 1 =>
    let q := s.qpOf qi
    if q.st != 3 || q.rnrWait || q.sendQueue.isEmpty then s
    else if !s.ctxCached qi then s.fetchCtx qi
    else match s.nextSend q with
    | none => s
    | some (.data cmd addr key total rest, t) =>
      let n := min rest.length (pmtuBytes q.pmtu)
      let queue := if n == rest.length then t else .data cmd addr key total (rest.drop n) :: t
      (s.sendPsn qi n false (.write (posIn total rest.length n) q.nextPsn addr key total (rest.take n)) queue).rcDrain qi fuel
    | some (.done _ cid status dnr dw0 wrote inval, t) =>
      let hd := (q.sqhd + 1) % (q.sqSize + 1)
      ((s.sendPsn qi 0 (!wrote) (.response q.nextPsn (cqeBytes dw0 hd 0 cid status dnr false) inval) t).updQp qi fun q =>
        { q with cmds := q.cmds - 1, sqhd := hd }).rcDrain qi fuel

/-- Issue the RDMA READ requests that wait, as ORD, the window and HOST_RX allow (R114, R121, R218); those of commands that have ended
are dropped. -/
def State.rcFetch (s : State) (qi : Nat) : Nat → State
  | 0 => s
  | fuel + 1 =>
    let q := s.qpOf qi
    match q.fetchQueue with
    | [] => s
    | (cmd, off, len) :: rest =>
      match s.cmdOf cmd with
      | none => (s.updQp qi fun q => { q with fetchQueue := rest }).rcFetch qi fuel
      | some c =>
        if q.st != 3 || q.rnrWait || decide (s.ordOf q ≤ q.reads.length) || !s.windowOpen q len || (s.alloc 0 (cellsOf len)).isNone then s
        else if !s.ctxCached qi then s.fetchCtx qi
        else
          let packets := (len + pmtuBytes q.pmtu - 1) / pmtuBytes q.pmtu
          let handle := s.freeVal 32
          let s := (s.freeNext.holdCells (holdRdma qi q.nextPsn) 0 (cellsOf len)).sendRc qi false
            (.readReq q.nextPsn (c.sqe.addr + off) c.sqe.key len)
          (s.updQp qi fun q =>
            { q with
              nextPsn := psnAdd q.nextPsn packets
              inflight := q.inflight + len
              reads := q.reads ++ [{ psn := q.nextPsn, packets := packets, len := len, cmd := cmd, off := off, handle := handle }]
              lastAck := if q.sent.isEmpty && q.reads.isEmpty then s.tm.mono else q.lastAck
              fetchQueue := rest }).rcFetch qi fuel

/-- Packets that an item of work may need at most: fuel for the functions above. -/
def rcFuel : Nat := 0x10000

/-- Cut a range into pieces of at most `step` bytes: (offset, length). -/
def pieces (step off len : Nat) : Nat → List (Nat × Nat)
  | 0 => []
  | fuel + 1 => if len == 0 then [] else
      let n := min step len
      (off, n) :: pieces step (off + n) (len - n) fuel

/-! ### The master engine (R496 to R500) -/

/-- Bytes of an upstream request: bounded by `step` (Max_Read_Request_Size or Max_Payload_Size) and the next 4 KiB boundary (R497). -/
def readPieces (step addr len : Nat) : Nat → List (Nat × Nat)
  | 0 => []
  | fuel + 1 => if len == 0 then [] else
      let n := min (min step (4096 - addr % 4096)) len
      (addr, n) :: readPieces step (addr + n) (len - n) fuel

/-- Max_Read_Request_Size and Max_Payload_Size in bytes (R497). -/
def PcieFn.mrrsBytes (f : PcieFn) : Nat := min 4096 (128 * 2 ^ f.mrrs)
def PcieFn.mpsBytes (f : PcieFn) : Nat := min 512 (128 * 2 ^ f.mps)

/-- Attributes of a request: Relaxed Ordering and No Snoop where Device Control enables them (R497). -/
def PcieFn.attr (f : PcieFn) : Nat := (if f.relaxed then 2 else 0) + if f.noSnoop then 1 else 0

/-- The tags a function may use: lowest and how many (R496). -/
def PcieFn.tagRange (f : PcieFn) : Nat × Nat :=
  if f.tag10 then (0x100, 768) else if f.extTag then (0, 256) else (0, 32)

/-- Nanoseconds of a Completion Timeout Value (R501). -/
def cplTimeoutNs (code : Nat) : Nat :=
  match code with
  | 1 => 100 * us
  | 2 => 10 * ms
  | 5 => 55 * ms
  | 6 => 210 * ms
  | 9 => 900 * ms
  | 10 => 3500 * ms
  | 13 => 13 * sec
  | 14 => 64 * sec
  | _ => 50 * ms

/-- The lowest tag a function may use that is neither outstanding nor quarantined (R496, R502). -/
def State.freeTag (s : State) (fn : Nat) : Option Nat :=
  let r := (s.fnOf fn).tagRange
  (List.range r.2).map (· + r.1) |>.find? fun t => !Tab.has t s.pcie.tags && !Tab.has t s.pcie.quarantined

/-- Outstanding reads of a function, shown in `PCIE_FN_STATUSf` (R503). -/
def State.showOutstanding (s : State) (fn : Nat) : State :=
  s.wr (Reg.PCIE_FN_STATUS_OUTSTANDING.at fn) (s.pcie.tags.countE fun _ t => t.rd.fn == fn)

/-- Issue one upstream read under a tag, its cells of PCIE reserved (R496, R498, R501). -/
def State.readAs (s : State) (r : PcieRead) (t : Nat) : State :=
  let f := s.fnOf r.fn
  let e : PcieTag := { rd := r, left := r.len, timeout := cplTimeoutNs f.cplTimeout, at_ := s.tm.mono }
  let s := { s with pcie := { s.pcie with tags := Tab.put t e s.pcie.tags } }.holdCells (holdPcie t) 6 (cellsOf r.len)
  ((s.send (.masterRead r.fn t f.attr r.addr r.len)).count Reg.PCIE_CNT_READS_ISSUED).showOutstanding r.fn

/-- Issue an upstream read, or keep it until its function has a tag and PCIE has cells free; nothing where the function may not send
(R496, R498, R503). -/
def State.masterRead (s : State) (r : PcieRead) : State :=
  let wait : State := { s with pcie := { s.pcie with waiting := s.pcie.waiting ++ [r] } }
  if !s.canMaster r.fn then s
  else if !s.begins .pcie || s.pcie.waiting.any (fun w => w.fn == r.fn) || (s.alloc 6 (cellsOf r.len)).isNone then wait
  else match s.freeTag r.fn with
    | none => wait
    | some t => s.readAs r t

/-- Reads that wait are issued, oldest first, as tags and cells have become free. -/
def State.drainReads (s : State) : State :=
  s.pcie.waiting.foldl (fun (s : State) r => s.masterRead r) { s with pcie := { s.pcie with waiting := [] } }

/-- `len` bytes from offset `off` of a data buffer in segments, as (address, bytes). -/
def dmaRange : List (Nat × Nat) → Nat → Nat → List (Nat × Nat)
  | [], _, _ => []
  | (a, n) :: t, off, len =>
    if len == 0 then []
    else if n ≤ off then dmaRange t (off - n) len
    else
      let k := min (n - off) len
      (a + off, k) :: dmaRange t 0 (len - k)

/-- Write bytes of read data into a command's buffer (R497). -/
def State.dmaWrite (s : State) (fn : Nat) (c : Cmd) (off : Nat) (bytes : List Byte) : State :=
  let f := s.fnOf fn
  let ps := (dmaRange c.segs off bytes.length).flatMap fun r => readPieces f.mpsBytes r.1 r.2 0x4000
  (ps.foldl (fun (x : State × List Byte) p =>
    ((x.1.send (.masterWrite fn f.attr p.1 (x.2.take p.2))).count Reg.PCIE_CNT_WRITES_ISSUED, x.2.drop p.2)) (s, bytes)).1

/-- Read `len` bytes of a command's buffer from offset `off`: each read with the offset that its data has. -/
def State.dmaRead (s : State) (fn id : Nat) (c : Cmd) (off len : Nat) : State :=
  let ps := (dmaRange c.segs off len).flatMap fun r => readPieces (s.fnOf fn).mrrsBytes r.1 r.2 0x4000
  (ps.foldl (fun (x : State × Nat) p =>
    (x.1.masterRead { fn := fn, use := .data id x.2, addr := p.1, len := p.2 }, x.2 + p.2)) (s, off)).1

/-! ### PRD packets (R129, R130, R147 to R153) -/

/-- Payload bytes of a PRD data packet (R148). -/
def State.payloadMax (s : State) : Nat := 1024 * 2 ^ s.rd Reg.WELL_PRD_CTL_PAYLOAD_MAX

/-- The linked ports of a PRD host's mask, with their sub-ports. -/
def State.prdPorts (s : State) (mask : Nat) : List Nat :=
  ((List.range 4).filter fun p => mask / 2 ^ p % 2 == 1).flatMap fun p =>
    ((List.range 8).filter fun k => s.rd (Reg.ETH_LINK_UP.at p) / 2 ^ k % 2 == 1).map fun k => ethPort p k

/-- PORT_MASK and KEY_SLOT of a host's entry (Table 5.3). -/
def PrdSide.mask (p : PrdSide) : Nat := p.entry.getD 1 0 / 2 ^ 24 % 16
def PrdSide.keySlot (p : PrdSide) : Nat := p.entry.getD 2 0 % 8192

/-- Packet types of Table 5.2. -/
def prdCmd : Nat := 1
def prdPull : Nat := 2
def prdWdata : Nat := 3
def prdRdata : Nat := 4
def prdCpl : Nat := 5
def prdProbe : Nat := 6
def prdProbeReply : Nat := 7

/-- The header of Table 5.1 that the controller sends for a command: HOST_IDX, HOST_GEN, TID and ISSUE_TIME are those of its CMD (R131). -/
def State.prdHeader (s : State) (c : Cmd) (type status : Nat) (dup : Bool) (off path len : Nat) (iv : List Byte) : List Byte :=
  let k := c.key.getD (0, 0, 0)
  let flags := (if c.prd.enc then 1 else 0) + (if dup then 4 else 0) + (if c.prd.ece && (type == prdPull || type == prdCpl) then 8 else 0) +
    if c.admin then 16 else 0
  beBytes 1 0x10 ++ beBytes 1 type ++ beBytes 1 flags ++ beBytes 1 status ++ beBytes 2 k.1 ++ beBytes 2 k.2.1 ++ beBytes 8 k.2.2 ++
    beBytes 8 c.prd.issue ++ beBytes 4 c.prd.msgLen ++ beBytes 4 off ++ beBytes 2 len ++ beBytes 1 path ++ beBytes 1 s.side ++ iv

/-- The IV of the next packet: bit 7 of byte 0, the side in bit 6, the send counter in bytes 4 to 11 (R150); zeros without ENC. -/
def State.prdIv (s : State) (enc : Bool) : List Byte :=
  if enc then beBytes 1 (0x80 + 0x40 * (s.side % 2)) ++ zeros 3 ++ beBytes 8 s.cry.ivPrd else zeros 12

/-- Header, payload and trailer: encrypted and tagged under a key (R149), or with the CRC-32C (R129). -/
def prdSeal (key : Option (List Byte)) (iv header payload : List Byte) : List Byte :=
  match key with
  | none => header ++ payload ++ beBytes 4 (crc32c (header ++ payload))
  | some k =>
    let keys := aesKeys (nats k)
    let ct := gcmCrypt keys (nats iv) (nats payload)
    header ++ bytesOf ct ++ bytesOf (gcmTag keys (nats iv) (nats header) ct)

/-- Take the next send counter, its range of 2^32 reserved before use (R150). -/
def State.prdTakeIv (s : State) : State :=
  let n := s.cry.ivPrd + 1
  { s with cry := { s.cry with
    ivPrd := n
    ivPrdNext := if n ≤ s.cry.ivPrdNext then s.cry.ivPrdNext else (n + 2 ^ 32 - 1) / 2 ^ 32 * 2 ^ 32 } }

/-- Send a PRD packet of a command by a manifold port: to the address that its CMD came from, from the address that it was sent to.  Where
the command's key is gone nothing can be sent under it. -/
def State.sendPrd (s : State) (c : Cmd) (type status : Nat) (dup : Bool) (off path port : Nat) (payload : List Byte) : State :=
  let p := c.prd
  if p.enc && !s.keyLoaded p.keySlot keyAes256 then s
  else
    let iv := s.prdIv p.enc
    let bs := prdSeal (if p.enc then some (s.vaultSlot p.keySlot).key else none) iv (s.prdHeader c type status dup off path payload.length iv) payload
    let sport := (Config.prdSource + path) % 65536
    let o : PrdOut := { port := port, v6 := p.v6, src := p.dst, dst := p.src, sport := sport
                        cksum := if p.v6 then udpChecksum true p.dst p.src sport s.params.prdPort bs else 0
                        ecn := s.rd Reg.WELL_PRD_CTL_ECT, bytes := bs }
    let s := if p.enc then s.prdTakeIv.useGcm p.keySlot else s
    s.queueFrame { len := bs.length + (if p.v6 then 70 else 50), part := 1, src := pumpPort c.pump, dests := [port]
                   urgent := type == prdPull || type == prdCpl, outs := [.prd o] }

/-- The port by which a command's CMD came. -/
def Cmd.prdPort (c : Cmd) : Nat := ethPort c.prd.port c.prd.sub

/-- The counter of a PRD status that is sent. -/
def prdCounter (st : Nat) : Option Counter :=
  match st with
  | 1 => some Reg.WELL_CNT_STALE_SENT
  | 2 => some Reg.WELL_CNT_FUTURE_SENT
  | 3 => some Reg.WELL_CNT_BUSY_SENT
  | 4 => some Reg.WELL_CNT_IN_PROGRESS_SENT
  | 5 => some Reg.WELL_CNT_TID_REUSED_SENT
  | 7 => some Reg.WELL_CNT_TIME_LOST_SENT
  | _ => none

/-- Count a PRD status where its CPL is sent: by the controller that the host's CMD came to (DESIGN CHOICE, log entry 57). -/
def State.countPrd (s : State) (st : Nat) : State :=
  match prdCounter st with
  | some c => s.count c
  | none => s

/-- Send a CPL (R151), which is counted by its status (R157): for one other than OK and ABORTED the entry carries the command identifier
alone. -/
def State.sendCpl (s : State) (c : Cmd) (prd : Nat) (dup : Bool) (status dw0 : Nat) : State :=
  let ran := prd == prdOk || prd == prdAborted
  (s.countPrd prd).sendPrd c prdCpl prd dup 0 0 c.prdPort
    (cqeBytes (if ran then dw0 % 2 ^ 32 else 0) 0 0 c.sqe.cid (if ran then status else 0) (ran && dnrOf status) false)

/-- Send RDATA for block `j` of a command's data: the next packet of its PATH and, under SPRAY, of the ports; without SPRAY the spec names
no port: it leaves by the port of the CMD, with PATH 0 (DESIGN CHOICE, log entry 57; R147). -/
def State.sendRdata (s : State) (c : Cmd) (k off : Nat) (payload : List Byte) : State :=
  let ports := s.prdPorts c.prd.mask
  if s.is Reg.WELL_PRD_CTL_SPRAY && !ports.isEmpty then
    s.sendPrd c prdRdata 0 false off (k % 16) (ports.getD (k % ports.length) c.prdPort) payload
  else s.sendPrd c prdRdata 0 false off 0 c.prdPort payload

/-- Read data of a PRD command: what fills a packet is sent (R147). -/
def State.prdData (s : State) (id : Nat) (c : Cmd) (off : Nat) (bytes : List Byte) : State :=
  let out := Tab.put off bytes c.prd.out
  let total := s.outLen c
  let u := max 1 c.u
  let blocks := ((List.range ((bytes.length + u - 1) / u + 1)).map (off / u + ·)).filterMap fun j =>
    if decide (total ≤ j * u) || c.prd.blocks.contains j then none
    else (readBuf out (j * u) (min u (total - j * u)) 0x10000).map fun d => (j, d)
  let s := blocks.zipIdx.foldl (fun (s : State) e => s.sendRdata c (c.prd.blocks.length + e.2) (e.1.1 * u) e.1.2) s
  s.updCmd id fun c => { c with prd := { c.prd with out := out, blocks := c.prd.blocks ++ blocks.map (·.1) } }

/-- Send a PULL for a range (R145). -/
def State.sendPull (s : State) (c : Cmd) (r : Nat × Nat) : State :=
  s.sendPrd c prdPull 0 false 0 0 c.prdPort (beBytes 4 r.1 ++ beBytes 4 r.2)

/-- Send the PULLs that wait, as HOST_RX gives cells for their ranges (R145, R218). -/
def State.pullNext (s : State) (id : Nat) : Nat → State
  | 0 => s
  | fuel + 1 =>
    match s.cmdOf id with
    | none => s
    | some c => match c.prd.queued with
      | [] => s
      | r :: rest =>
        if (s.alloc 0 (cellsOf r.2)).isNone then s
        else
          let s := (s.holdCells (holdPull id r.1) 0 (cellsOf r.2)).sendPull c r
          (s.updCmd id fun c => { c with prd := { c.prd with queued := rest, asked := c.prd.asked ++ [⟨r.1, r.2, s.tm.mono, 0⟩] } }).pullNext id
            fuel

/-- The cells of pulled ranges of a command are free again. -/
def State.freePulls (s : State) (id : Nat) (rs : List Pull) : State :=
  rs.foldl (fun (s : State) r => s.freeCells (holdPull id r.off)) s

/-! ### Soliciting data -/

/-- Frames and requests that wait for cells are queued and sent, as cells have come free (R218, R231, R498). -/
def State.resumeSolicits (s : State) : State :=
  let s := s.admitWaiting
  let s := s.rc.qps.foldl (fun (s : State) (e : Nat × Qp) => if e.2.fetchQueue.isEmpty then s else s.rcFetch e.1 rcFuel) s
  let s := s.host.cmds.foldl (fun (s : State) (e : Nat × Cmd) => if e.2.prd.queued.isEmpty then s else s.pullNext e.1 0x1000) s
  s.drainReads

/-- Ask the host for `len` bytes of a command's data from offset `off` on the command's path: RDMA READ requests of at most
128 KiB (R114), PULLs of at most PULL_MAX (R145), master-engine reads (R496), or the member that forwards (R470). -/
def State.solicit (s : State) (id : Nat) (c : Cmd) (off len : Nat) : State :=
  match c.path with
  | .rc qp =>
    (s.updQp qp fun q =>
      { q with fetchQueue := q.fetchQueue ++ (pieces 131072 off len 0x1000).map fun p => (id, p.1, p.2) }).rcFetch qp rcFuel
  | .prd _ _ _ =>
    (s.updCmd id fun c => { c with prd := { c.prd with
      queued := c.prd.queued ++ pieces (4096 * s.rd Reg.WELL_PRD_PULL_PULL_MAX) off len 0x1000 } }).pullNext id 0x1000
  | .pcie fn _ => s.dmaRead fn id c off len
  | .forwarded m ref => s.toPeer m (.forward (.request ref off len))
  | .mailbox _ _ => s

/-! ### The recent-transaction table, as commands end (R140, R144) -/

/-- Is a command of this opcode recorded in the recent-transaction table (Table 5.5)? -/
def nonIdempotent (c : Cmd) : Bool :=
  !c.admin && [0x01, 0x08, 0x09, 0x0D, 0x11, 0x15].contains c.sqe.opcode

/-- Is the pair in dual-controller write mode (R413)? -/
def State.dual (s : State) : Bool := s.partner.isSome && !s.is Reg.SUMP_STATUS_SINGLE

/-- Send a pod message to the partner. -/
def State.toPartner (s : State) (m : PodMsg) : State :=
  match s.partner with
  | none => s
  | some p => s.toPeer p m

/-- An entry of the recent-transaction table as it is mirrored: its EXPIRY as the time still to run, since the pair's monotonic counters
differ (DEDUCED, log entry 58). -/
def State.mirrorEntry (s : State) (e : Recent) : MirrorRecent :=
  { host := e.host, gen := e.gen, tid := e.tid, crc := e.crc, dw0 := e.dw0, status := e.status, prd := e.prd
    left := e.expiry - s.tm.mono / us, final := e.st == 2 }

/-- The peer is told of a recent transaction (R144). -/
def State.mirrorRecent (s : State) (e : Recent) : State :=
  if s.dual then s.toPartner (.mirror { recents := [s.mirrorEntry e] }) else s

/-- The entry in IN_PROGRESS of a key, with its position. -/
def State.inProgress (s : State) (host gen tid : Nat) : Option (Nat × Recent) :=
  s.prd.ring.find? fun e => e.2.host == host && e.2.gen == gen && e.2.tid == tid && e.2.st == 1

/-- Record a PRD command's final status (R140); the mirror that travels with a write's data has told the peer already (R144). -/
def State.recordDone (s : State) (host gen tid status dw0 prd : Nat) (told : Bool) : State :=
  match s.inProgress host gen tid with
  | none => s
  | some (pos, old) =>
    let e := { old with st := 2, status := status, dw0 := dw0 % 2 ^ 32, prd := prd }
    let s := { s with prd := { s.prd with ring := Tab.put pos e s.prd.ring } }
    if told then s else s.mirrorRecent e

/-- T_life in ns, as STALE is judged: the old value until a raise has settled; a lowering applies at once (R143). -/
def State.judgedLife (s : State) : Nat :=
  let life := s.rd Reg.WELL_PRD_CTL_T_LIFE * ms
  match s.prd.oldLife with
  | some o => if s.tm.mono < o.2 then min life (o.1 * ms) else life
  | none => life

/-- A recorded command ends: its entry leaves IN_PROGRESS (R142). -/
def State.recordEnd (s : State) (c : Cmd) (status dw0 prd : Nat) (told : Bool) : State :=
  match c.key with
  | none => s
  | some (h, g, t) => if nonIdempotent c then s.recordDone h g t status dw0 prd told else s

/-- The completion queue of a PCIe submission queue; queue 0 serves the admin queue. -/
def queueKey (fn q : Nat) : Nat := 0x10000 * fn + q

/-- Signal a completion's interrupt, held back by the Interrupt Coalescing feature for I/O queues (R176, Table 6.6). -/
def State.cqInterrupt (s : State) (fn cq : Nat) (v : Nat) : State :=
  let f := s.fnOf fn
  if cq == 0 || f.coalTime == 0 || f.coalThr == 0 then s.msix fn v
  else
    let held := Tab.getD v 0 f.coalHeld + 1
    if f.coalThr < held then (s.updFn fn fun f => { f with coalHeld := Tab.del v f.coalHeld }).msix fn v
    else s.updFn fn fun f => { f with coalHeld := Tab.put v held f.coalHeld }

/-- Post a CQ entry (R500), without Relaxed Ordering or No Snoop (R497), and signal it. -/
def State.postCq (s : State) (fn sq cid status dw0 : Nat) : State :=
  let q := Tab.getD (queueKey fn sq) {} s.host.sqs
  let k := queueKey fn q.cq
  let c := Tab.getD k {} s.host.cqs
  let nxt := if c.tail == c.size then 0 else c.tail + 1
  let e := cqeBytes dw0 q.head sq cid status (dnrOf status) c.phase
  let s := (s.send (.masterWrite fn 0 (c.base + 16 * c.tail) e)).count Reg.PCIE_CNT_WRITES_ISSUED
  let s := { s with host := { s.host with cqs :=
    (Tab.put k { c with tail := nxt, phase := (if nxt == 0 then !c.phase else c.phase) } s.host.cqs) } }
  if c.ien then s.cqInterrupt fn q.cq c.vector else s

/-! ### The sump's floats (R406 to R412) -/

/-- Slots of 4 KiB in F_eff. -/
def State.floatSlots (s : State) : Nat := s.rd Reg.SUMP_STATUS_FLOAT_EFF * 16384

def State.highFloat (s : State) : Nat := s.floatSlots * s.rd Reg.SUMP_CFG_HIGH / 100
def State.lowFloat (s : State) : Nat := s.floatSlots * s.rd Reg.SUMP_CFG_LOW / 100

/-- Occupied plus reserved slots. -/
def State.slotSum (s : State) : Nat := s.rd Reg.SUMP_OCC_OCCUPIED + s.rd Reg.SUMP_RESV_RESERVED

/-- Back-pressure ends once the sum lies below the low float (R410). -/
def State.bpEnd (s : State) : State :=
  if s.is Reg.SUMP_STATUS_BP && s.slotSum < s.lowFloat then s.wr Reg.SUMP_STATUS_BP 0 else s

/-- Give back slots that a command has reserved and not filled (R410). -/
def State.releaseSlots (s : State) (c : Cmd) : State :=
  if c.slots == 0 then s else (s.wr Reg.SUMP_RESV_RESERVED (s.rd Reg.SUMP_RESV_RESERVED - c.slots)).bpEnd

/-- Advance a SMART count (Table 10.3), by the offset of its field. -/
def State.smart (s : State) (off : Nat) (n : Nat := 1) : State :=
  { s with ftl := { s.ftl with smart := Tab.upd off 0 (· + n) s.ftl.smart } }

/-- Keep the counts of Table 10.3 for a completed command: data units in thousands of 512 bytes, commands, media errors. -/
def State.countCommand (s : State) (c : Cmd) (status : Nat) : State :=
  let n := s.dataLen c.sqe
  let s := if c.admin then s
    else if [0x02, 0x05, 0x0C].contains c.sqe.opcode then
      (s.smart 64).smart 32 (if c.sqe.opcode == 0x0C then 0 else n)
    else if [0x01, 0x08, 0x09].contains c.sqe.opcode then
      (s.smart 80).smart 48 (if c.sqe.opcode == 0x01 then n else 0)
    else s
  let s := if status == nvUnrecovered then s.smart 160 else s
  if status == nvOk then s else
    (s.smart 176).updCtlr c.ctlr fun k => { k with errors := ((c.sqe.cid, status) :: k.errors).take 64 }

/-! ### Sending data, completing -/

/-- Is nothing sent for the command: its queue is lost, or a save has begun or been made? -/
def State.muted (s : State) (c : Cmd) : Bool := c.dead || s.sump.save.isSome || s.sump.saved.isSome

/-- Bytes from an offset on, in pieces that a frame holds. -/
def chunks65536 (off : Nat) (b : List Byte) : List (Nat × List Byte) :=
  (List.range ((b.length + 65535) / 65536)).map fun k => (off + 65536 * k, (b.drop (65536 * k)).take 65536)

/-- Send bytes of a command's data, `off` bytes into it, on its path, before its completion: an RDMA Write message (R118), RDATA (R147), posted
writes (R500), frames to the member that forwards (R470), or the mailbox's data area. -/
def State.sendBytes (s : State) (id off : Nat) (bytes : List Byte) : State :=
  match s.cmdOf id with
  | none => s
  | some c =>
    if bytes.isEmpty || s.muted c then s
    else match c.path with
      | .rc qp => ((s.updCmd id fun c => { c with wrote := true }).updQp qp fun q =>
          { q with sendQueue := q.sendQueue ++ [.data id (c.sqe.addr + off) c.sqe.key bytes.length bytes] }).rcDrain qp rcFuel
      | .prd _ _ _ => s.prdData id c off bytes
      | .pcie fn _ => s.dmaWrite fn c off bytes
      | .forwarded m ref => (chunks65536 off bytes).foldl (fun (s : State) p => s.toPeer m (.forward (.readData ref p.1 p.2))) s
      | .mailbox m _ => { s with seq := { s.seq with data := Tab.put m bytes s.seq.data } }

/-- Send sectors of read data, by index in the command's range. -/
def State.sendData (s : State) (id : Nat) (sectors : List (Nat × List Byte)) : State :=
  sectors.foldl (fun (s : State) e => s.sendBytes id (e.1 * e.2.length) e.2) s

/-- The key that a host has asked to be invalidated (a keyed SGL data block of sub type Fh), which its response capsule names (R102). -/
def invalidates (q : Sqe) : Option Nat := if q.sglType == 0x4F then some q.key else none

/-- Complete a command: it leaves the table, its unused reservation is released, and the completion is sent on its path, after its data
(R118, R147, R500), unless its queue is lost (R123) or a save has begun (Table 15.1 step 2). -/
def State.finish (s : State) (id : Nat) (status : Nat) (dw0 : Nat := 0) (prd : Nat := 0) : State :=
  match s.cmdOf id with
  | none => s
  | some c =>
    let mute := s.muted c
    let s := s.releaseSlots c
    let s := { s with host := { s.host with
      cmds := Tab.del id s.host.cmds
      pumpLast := if c.admin then s.host.pumpLast else Tab.put c.pump s.tm.mono s.host.pumpLast
      lastIo := if c.admin then s.host.lastIo else s.tm.mono } }
    let s := s.countCommand c status
    let s := if c.admin then s else s.tileEvent c.pump evCmdDone
    let s := s.recordEnd c status dw0 prd (c.stage == .waitMirror && status == nvOk)
    let s := if c.prd.asked.isEmpty then s else (s.freePulls id c.prd.asked).resumeSolicits
    match c.path with
    | .rc qp =>
      if mute then s.updQp qp fun q => { q with cmds := q.cmds - 1 }
      else (s.updQp qp fun q => { q with
        sendQueue := q.sendQueue ++ [.done id c.sqe.cid status (dnrOf status) dw0 c.wrote (invalidates c.sqe)] }).rcDrain qp rcFuel
    | .prd _ _ _ =>
      if mute then s else
      (if prd == prdAborted then s.count Reg.WELL_CNT_ABORTED else s).sendCpl c prd false status dw0
    | .pcie fn sq => if mute then s else s.postCq fn sq c.sqe.cid status dw0
    | .forwarded m ref => if mute then s else s.toPeer m (.forward (.done ref status dw0 prd false))
    | .mailbox m _ => { s with seq := { s.seq with running := Tab.put m (some { st := 1, cqe := some (status, dw0) }) s.seq.running } }

/-- Send an NVMe data structure, given by its fields, and complete the command. -/
def State.answer (s : State) (id : Nat) (fields : Fields) : State :=
  match s.cmdOf id with
  | none => s
  | some c => (s.sendBytes id 0 (fieldBytes (s.outLen c) fields)).finish id nvOk

/-! ### Asynchronous events (R177, Table 6.7) -/

/-- Log page of an event type and information (Table 6.7). -/
def eventLog : Nat × Nat → Nat
  | (0, _) => 0x01
  | (1, _) => 0x02
  | (2, 0) => 0x04
  | (2, _) => 0x0C
  | (6, _) => 0x80
  | (_, 0) => 0xC1
  | (_, _) => 0xC2

/-- Asynchronous Event Configuration before a host sets it: every event it can mask is reported. -/
def aecDefault : Nat := 0x907

/-- May the controller's Asynchronous Event Configuration report the event?  SMART and notice events can be masked
(Table 6.6): SMART by bits 0 (available spare, information 02h), 1 (temperature, 01h) and 2 (reliability, 00h), notices by bits 8
and 11. -/
def Ctlr.wants (k : Ctlr) (e : Nat × Nat) : Bool :=
  let cfg := Tab.getD 0x0B aecDefault k.features
  match e with
  | (1, i) => cfg / 2 ^ (2 - i) % 2 == 1
  | (2, 0) => cfg / 2 ^ 8 % 2 == 1
  | (2, _) => cfg / 2 ^ 11 % 2 == 1
  | _ => true

/-- The completion dword 0 of an event: type, information, log page. -/
def eventDw0 (e : Nat × Nat) : Nat := e.1 + 256 * e.2 + 65536 * eventLog e

/-- Raise an event with one controller: once until its log page is read, through a held request where there is one. -/
def State.hostEvent (s : State) (n : Nat) (e : Nat × Nat) : State :=
  let k := s.ctlrOf n
  if !k.wants e || k.masked.contains e then s
  else match k.aers with
    | [] => s.updCtlr n fun k => { k with masked := e :: k.masked, waiting := k.waiting ++ [e] }
    | a :: rest =>
      (s.updCtlr n fun k => { k with masked := e :: k.masked, aers := rest }).finish a nvOk (eventDw0 e)

/-- Raise an event with every controller of a tenant, or with every one (`none`). -/
def State.tenantEvent (s : State) (tenant : Option Nat) (e : Nat × Nat) : State :=
  s.host.ctlrs.foldl (fun (s : State) (k : Nat × Ctlr) =>
    if k.2.connected && (tenant.all fun t => k.2.tenant == t) then s.hostEvent k.1 e else s) s

/-- A Namespace Attribute Changed notice (R177). -/
def State.nsChanged (s : State) (nsid : Nat) : State :=
  let t := (Tab.getD nsid { nsze := 0 } s.ns).tenant
  let s := { s with host := { s.host with ctlrs := s.host.ctlrs.map fun (k : Nat × Ctlr) =>
    if k.2.tenant == t && !k.2.changed.contains nsid then
      (k.1, { k.2 with changed := k.2.changed ++ [nsid] }) else k } }
  s.tenantEvent (some t) (2, 0)

/-- What the ANA log reports has changed (R172). -/
def State.anaChange (s : State) : State := { s with host := { s.host with anaChanges := s.host.anaChanges + 1 } }

/-- A change of ownership ends: an ANA Change notice for the namespace's tenant (R173). -/
def State.anaNotice (s : State) (nsid : Nat) : State :=
  let s := s.anaChange
  s.tenantEvent (some (Tab.getD nsid { nsze := 0 } s.ns).tenant) (2, 3)

end Sys2Proof.Machine
end

