-- ==== Sys2Proof/Machine/Media.lean ====
section
/-! DEFINITION. The media as the controller keeps it: addresses (R244), layouts and positions (R301), erase blocks and
tanks (R259-R262, R278), window units (R338), the map journal (R249, R426), and the issue of
Skalas commands (R362, R373, R376). -/

namespace Sys2Proof.Machine

/-! ### Layouts and positions -/

def layMirror (w : Nat) : Bool := w / 2 ^ 15 == 1

/-- Data chunks of a stripe: D, or 1 for a mirror. -/
def layData (w : Nat) : Nat := if layMirror w then 1 else w % 256

/-- Members of a tank: D + P, or C. -/
def layMembers (w : Nat) : Nat := if layMirror w then w % 256 else w % 256 + w / 256 % 4

/-- Design redundancy (R301): P, or C - 1. -/
def layRedundancy (w : Nat) : Nat := layMembers w - layData w

/-- The map store's layout: three copies (R250). -/
def metaLayout : Nat := 0x8003

/-- The class under which META tanks are kept beside those of Table 9.5. -/
def clsMeta : Nat := 8

/-- The position that member `m` holds in stripe `i` (R301). -/
def posOf (layout m i : Nat) : Nat := if layMirror layout then m else (m + i) % layMembers layout

/-- The member that holds position `p` in stripe `i`. -/
def memberAt (layout p i : Nat) : Nat :=
  if layMirror layout then p else (p + (layMembers layout - i % layMembers layout)) % layMembers layout

/-- The failure group of a slot (R302). -/
def failGroup (c : Nat) : Nat := c / 12

/-! ### Geometry and addresses (R244) -/

def State.pages (s : State) : Nat := s.params.pagesPerBlock

/-- Stripes of a tank: PAGES_PER_BLOCK / 4 (R24). -/
def State.tankStripes (s : State) : Nat := s.pages / 4

/-- A sector address from its parts. -/
def State.addr (s : State) (c die block page sector : Nat) : Nat :=
  c * 2 ^ 34 + ((die * s.params.blocksPerDie + block) * s.pages + page) * 4 + sector

/-- A location's parts. -/
structure Loc where
  cistern : Nat
  die : Nat
  block : Nat
  page : Nat
  sector : Nat
  deriving DecidableEq, Repr

def State.loc (s : State) (v : Nat) : Loc :=
  let r := v % 2 ^ 34
  let b := r / 4 / s.pages
  { cistern := v / 2 ^ 34, die := b / s.params.blocksPerDie, block := b % s.params.blocksPerDie,
    page := r / 4 % s.pages, sector := r % 4 }

/-- An erase block's number in the block table. -/
def blkKey (c die block : Nat) : Nat := (c * 256 + die) * 2 ^ 20 + block

def State.blkOf (s : State) (k : Nat) : Blk := Tab.getD k {} s.ftl.blocks

def State.updBlk (s : State) (k : Nat) (f : Blk → Blk) : State :=
  { s with ftl := { s.ftl with blocks := Tab.upd k {} f s.ftl.blocks } }

/-- Cistern of a block's number. -/
def blkCistern (k : Nat) : Nat := k / 2 ^ 28

def TankMember.key (m : TankMember) : Nat := blkKey m.cistern m.die m.block

/-! ### Cisterns -/

/-- Codes of Table 11.6. -/
def cEmpty : Nat := 0
def cInService : Nat := 1
def cAbsent : Nat := 2
def cRebuilding : Nat := 3
def cWorn : Nat := 4
def cFailed : Nat := 5

def State.cst (s : State) (c : Nat) : Nat := s.rd (Reg.PAR_CSTATE_STATE.at c)

def State.inService (s : State) (c : Nat) : Bool := s.cst c == cInService

/-- The slots. -/
def slots48 : List Nat := List.range 48

/-- Cisterns in service. -/
def State.served (s : State) : List Nat := slots48.filter s.inService

/-- Dies and erase blocks of a cistern, from its identity. -/
def State.dies (s : State) (c : Nat) : Nat := ((s.linkOf c).ident.map (·.dies)).getD 0
def State.blocksPerDie (s : State) (c : Nat) : Nat := ((s.linkOf c).ident.map (·.blocksPerDie)).getD 0
def State.blockCount (s : State) (c : Nat) : Nat := s.dies c * s.blocksPerDie c

/-- May a block be given to a tank? -/
def Blk.free (b : Blk) : Bool := b.st == 0 && b.tank.isNone && !b.plsa && !b.dirty

/-- Blocks of a die that have entered the pool: all, or those below the next one that R316 has to erase. -/
def State.pooled (s : State) (c die : Nat) : Nat := Tab.getD (c * 256 + die) (s.blocksPerDie c) s.ftl.unerased

/-- Free erase blocks of a cistern: those not listed are free with PE 0. -/
def State.freeBlocks (s : State) (c : Nat) : Nat :=
  ((List.range (s.dies c)).map (s.pooled c)).sum - s.ftl.blocks.countE fun k b => blkCistern k == c && !b.free

/-- The cistern's temperature, the highest of the others' where it has given no reading for 10 s (R289). -/
def State.tempRaw (s : State) (c : Nat) : Int := signed8 (BitVec.ofNat 8 (s.rd (Reg.SKL_STATUS_TEMP.at c)))

def State.temp (s : State) (c : Nat) : Int :=
  if s.tm.mono ≤ (s.linkOf c).tempAt + 10 * sec then s.tempRaw c
  else ((s.served.filter (· != c)).map s.tempRaw).foldl max (-128)

/-! ### Window units (R338, R339) -/

/-- Window sets W. -/
def State.sets (s : State) : Nat := 2 ^ s.rd Reg.TIME_WIN_CFG_SETS

def State.unitOf (s : State) (c die : Nat) : Nat := 8 * c + die % s.sets

/-- The slot of a unit. -/
def State.slotOf (s : State) (u : Nat) : Nat :=
  let n := s.rd Reg.TIME_WIN_CFG_SLOTS
  (s.rd (Reg.TIME_WIN_OFFSET.at (u / 8)) + u % 8 * n / s.sets) % n

/-- Is the schedule in coordinated mode?  It leaves it as soon as no placement is found (R342). -/
def State.coordinated (s : State) : Bool := !s.is Reg.TIME_WIN_STATUS_UNCOORD && !s.tm.unplaceable

/-- Is the die's unit in DRAW or OVERRUN? -/
def State.inDraw (s : State) (c die : Nat) : Bool := Tab.has (s.unitOf c die) s.tm.units

/-- The window limit L of a layout (R340). -/
def winLimit (layout : Nat) : Nat := max 1 (layRedundancy layout - 1)

/-! ### Controllers of the shelf (R43, R64, R471) -/

/-- Is a member in SERVE, as `POD_STATUS.SERVE_SET` shows? -/
def State.memberServes (s : State) (m : Nat) : Bool := s.rd Reg.POD_STATUS_SERVE_SET / 2 ^ m % 2 == 1

/-- Is the partner in SERVE? -/
def State.partnerServes (s : State) : Bool := s.partner.any s.memberServes

/-- Does this controller hold the free-block pools (R471)? -/
def State.allocator (s : State) : Bool := s.side == 0 || !s.partnerServes

/-! ### The journal (R249, R251, R426) -/

/-- Bytes that the journal's records take. -/
def State.journalBytes (s : State) : Nat := (s.ftl.journal.map JRec.bytes).sum

/-- The FTL partition of MRAM (Table 1.6), which the model gives to the journal whole. -/
def State.journalArea (s : State) : Nat := s.mramArea .journal

/-- Has the journal no room for `n` more bytes (R251)? -/
def State.journalFull (s : State) (n : Nat) : Bool := decide (s.journalArea < s.journalBytes + n)

/-- Write a journal record, mirrored to the peer (R249, R413). -/
def State.journal (s : State) (r : JRec) : State :=
  let s := { s with ftl := { s.ftl with journal := s.ftl.journal ++ [r], jseq := s.ftl.jseq + 1 } }
  if s.dual then s.toPartner (.mirror { records := [r], seq := s.ftl.placeSeq }) else s

/-- A namespace's reservation as HANDOVER and MIRROR carry it (R473, R174). -/
def State.resvRecord (s : State) (nsid : Nat) (n : Ns) : Handover :=
  { nsid := nsid, seq := s.ftl.placeSeq, resType := n.resType, resHolder := n.resHolder, resGen := n.resGen, ptpl := n.ptpl
    registrants := n.registrants.map fun r => (r.hostId, r.key) }

/-- Commands held for a move go on (R173, R473). -/
def State.releaseMoving (s : State) (p : Nat → Bool) : State :=
  let s := { s with pod := { s.pod with moving := s.pod.moving.filter fun (e : Nat × Nat) => !p e.1 } }
  (s.host.cmds.filter fun e => e.2.stage == .moving && p e.2.sqe.nsid).foldl (fun (s : State) e => s.setStage e.1 .admitted) s

/-- Has a moving namespace no admitted command and no version in the sump? -/
def State.moveDrained (s : State) (nsid : Nat) : Bool :=
  !(s.host.cmds.any fun e => e.2.sqe.nsid == nsid && !([Stage.held, .moving, .aer, .connect].contains e.2.stage) && !e.2.admin) &&
  !(s.ftl.versions.any fun v => v.nsid == nsid)

/-- Hand a drained namespace over (R473 step 3). -/
def State.handOver (s : State) (nsid m : Nat) : State :=
  match Tab.find nsid s.ns with
  | none => s.releaseMoving fun k => k == nsid
  | some n =>
    if !s.moveDrained nsid then s
    else
      let s := (s.toPeer m (.handover (s.resvRecord nsid n))).journal (.owner nsid m s.ftl.placeSeq)
      let s := (s.putNs nsid { n with owner := m }).count Reg.POD_CNT_OWNER_MOVES
      (s.releaseMoving fun k => k == nsid).anaNotice nsid

/-- A command has ended, or a stripe is durable: moves that have drained are handed over (R473 step 2). -/
def State.movesGoOn (s : State) : State := s.pod.moving.foldl (fun (s : State) e => s.handOver e.1 e.2) s

/-- Journal a tank's change of state, with its members' temperatures (Table 15.4). -/
def State.journalTank (s : State) (t st : Nat) : State :=
  s.journal (.tankState t st s.tm.shelf ((Tab.getD t {} s.ftl.tanks).members.map fun (m : TankMember) => s.temp m.cistern))

/-- Capacity of the commit ring: the PAR partition less the 2 MiB of the lost-stripe list, in records of 56 bytes (R308). -/
def State.ringCapacity (s : State) : Nat := (s.mramArea .commitRing - 0x200000) / 56

/-! ### Tanks -/

/-- States of Table 9.6. -/
def tkFree : Nat := 0
def tkOpen : Nat := 1
def tkFull : Nat := 2
def tkDraw : Nat := 3
def tkErasing : Nat := 4
def tkRetired : Nat := 5

def State.tankOf (s : State) (t : Nat) : Tank := Tab.getD t {} s.ftl.tanks

def State.updTank (s : State) (t : Nat) (f : Tank → Tank) : State :=
  { s with ftl := { s.ftl with tanks := Tab.updIf t f s.ftl.tanks } }

/-- The tank that holds a location, through the block table (R246). -/
def State.tankAt (s : State) (v : Nat) : Option Nat :=
  let l := s.loc v
  (s.blkOf (blkKey l.cistern l.die l.block)).tank

/-- Show the tank counts (Table 9.10); a tank that is not listed is FREE. -/
def State.showTanks (s : State) : State :=
  let n := s.rd Reg.FTL_TANK_ENTRIES
  let s := (List.range 6).foldl (fun s k =>
    if k == 0 then s else s.wr (Reg.FTL_TANK_COUNT.at k) (s.ftl.tanks.countE fun _ t => t.st == k)) s
  s.wr (Reg.FTL_TANK_COUNT.at 0) (n - s.ftl.tanks.countE fun _ t => t.st != 0)

/-- The free fraction F in 0.1 % units (R268): free blocks less the spare reserve, over the blocks in service. -/
def State.freeFraction (s : State) : Nat :=
  let total := (s.served.map s.blockCount).sum
  let free := (s.served.map s.freeBlocks).sum
  let spare := if s.served.isEmpty then 0 else s.params.spare * (total / s.served.length)
  if total == 0 then 0 else (free - spare) * 1000 / total

/-- Draw-down mode of Table 9.8. -/
def State.drawMode (s : State) (f : Nat) : Nat :=
  if s.rd Reg.FTL_FLOAT_HIGH ≤ f then 0
  else if s.rd Reg.FTL_FLOAT_LOW ≤ f then 1
  else if s.rd Reg.FTL_FLOAT_CRIT ≤ f then 2
  else 3

/-- Show F and the mode; the budget of R411 starts at 0 on entry to mode 3 and is discarded on leaving it. -/
def State.showDraw (s : State) : State :=
  let f := s.freeFraction
  let m := s.drawMode f
  let s := (s.wr Reg.FTL_DRAW_STATUS_FREE (min 1023 f)).wr Reg.FTL_DRAW_STATUS_MODE m
  { s with sump := { s.sump with budget := if m == 3 then some (s.sump.budget.getD 0) else none } }

/-- The spare reserve left (R285), READ_ONLY and SPARE_PCT. -/
def State.retiredBlocks (s : State) : Nat :=
  s.ftl.blocks.countE fun k b => s.inService (blkCistern k) && b.st == 3

def State.sparePct (s : State) : Nat :=
  let nb := (s.served.map fun c => s.blockCount c - s.ftl.blocks.countE fun k b => blkCistern k == c && b.st == 4).sum
  let vnb := s.params.overprovision * nb
  if vnb == 0 then 0 else (100 * vnb - min (100 * vnb) (100 * 1000 * s.retiredBlocks)) / vnb

def State.showSpare (s : State) : State :=
  let p := s.sparePct
  let was := s.rd Reg.FTL_MEDIA_STATUS_SPARE_PCT
  let low := s.rd Reg.FTL_RETIRE_SPARE_THRESH
  let ro := s.is Reg.FTL_MEDIA_STATUS_READ_ONLY
  let s := (s.wr Reg.FTL_MEDIA_STATUS_SPARE_PCT p).wrB Reg.FTL_MEDIA_STATUS_READ_ONLY (p == 0)
  let s := if p < low && low ≤ was then s.tenantEvent none (1, 2) else s
  if ro == (p == 0) then s else s.ns.foldl (fun s e => s.nsChanged e.1) s

/-- Highest less lowest PE among blocks with STATE 0 to 2 on cisterns in service (R282); an unlisted block has PE 0. -/
def State.spread (s : State) : Nat :=
  let bs := s.ftl.blocks.filter fun e => s.inService (blkCistern e.1) && decide (e.2.st ≤ 2)
  let listed := s.ftl.blocks.countE fun k _ => s.inService (blkCistern k)
  let total := (s.served.map s.blockCount).sum
  let hi := (bs.map fun e => e.2.pe).foldl max 0
  let lo := if listed < total then 0 else (bs.map fun e => e.2.pe).foldl min hi
  hi - lo

/-- Recompute the spread at a tank erase and start or stop levelling (R282, R283). -/
def State.showSpread (s : State) : State :=
  let d := s.spread
  let s := s.wr Reg.FTL_MEDIA_STATUS_SPREAD (min 65535 d)
  if s.rd Reg.FTL_WEAR_LEVEL_SPREAD < d then s.wr Reg.FTL_MEDIA_STATUS_LEVELLING 1
  else if d ≤ s.rd Reg.FTL_WEAR_LEVEL_STOP then s.wr Reg.FTL_MEDIA_STATUS_LEVELLING 0
  else s

/-- Put a tank on the refresh list (R294): raised to urgent, never lowered; a full list drops a normal entry for an
urgent one and ignores a normal trigger. -/
def State.refreshAdd (s : State) (t : Nat) (urgent : Bool) : State :=
  let tk := s.tankOf t
  let l := s.ftl.refresh
  if tk.st != tkFull || !tk.mine then s
  else if Tab.has t l then
    { s with ftl := { s.ftl with refresh := Tab.put t (urgent || Tab.getD t false l) l } }
  else if l.length < 4096 then { s with ftl := { s.ftl with refresh := Tab.put t urgent l } }
  else if !urgent then s
  else match l.first fun _ u => !u with
    | none => s
    | some (k, _) => { s with ftl := { s.ftl with refresh := Tab.put t true (Tab.del k l) } }

/-! ### The sump's occupancy (R406 to R412) -/

/-- Set the occupied slots; BP ends when the sum falls below the low float (R410). -/
def State.setOccupied (s : State) (n : Nat) : State := (s.wr Reg.SUMP_OCC_OCCUPIED n).bpEnd

def State.occupy (s : State) (n : Nat) : State := s.setOccupied (s.rd Reg.SUMP_OCC_OCCUPIED + n)
def State.vacate (s : State) (n : Nat) : State := s.setOccupied (s.rd Reg.SUMP_OCC_OCCUPIED - n)

/-- The applied SEQ kept for an IU (R254). -/
def State.appliedSeq (s : State) (k : Nat) : Nat := Tab.getD k 0 s.ftl.applied

/-- A namespace taken over of which no version mirrored from the failed peer waits any more is reported optimised, with its ANA notice
(R173, R477 step 6). -/
def State.settleAdopted (s : State) : State :=
  let done := (s.pod.adopting.filter fun e => !(s.ftl.versions.any fun v => v.nsid == e.1 && decide (v.order ≤ e.2))).map (·.1)
  if done.isEmpty then s
  else done.foldl (fun (s : State) n => s.anaNotice n)
    { s with pod := { s.pod with adopting := s.pod.adopting.filter fun e => !done.contains e.1 } }

/-- Take versions out of the sump, by ordinal: their slots are vacated, and the IU's applied SEQ goes with the last. -/
def State.removeVersions (s : State) (orders : List Nat) : State :=
  let gone := s.ftl.versions.filter fun v => orders.contains v.order
  let left := s.ftl.versions.filter fun v => !orders.contains v.order
  let s := { s with ftl := { s.ftl with
    versions := left
    applied := s.ftl.applied.filter fun e => left.any fun v => iuKey v.nsid v.iu == e.1 } }
  (s.vacate ((gone.map fun v => v.sectors.length).sum)).settleAdopted

/-- The sump versions that a stripe carries, by ordinal. -/
def Stripe.orders (st : Stripe) : List Nat := st.ius.filterMap fun p => match p.src with
  | .sump o => some o
  | .copy _ _ => none

/-- Is a version superseded: a newer whole version of its IU waits in the sump, or a newer one or a marker has been applied (R36)? -/
def State.outdated (s : State) (v : Version) : Bool :=
  decide (v.seq < s.appliedSeq (iuKey v.nsid v.iu)) ||
  s.ftl.versions.any fun w => w.nsid == v.nsid && w.iu == v.iu && w.whole && decide (v.order < w.order)

/-- Versions leave the stripe that they were assigned to: one that is superseded is released without being programmed (R36), the others
wait to be assigned again. -/
def State.unassign (s : State) (orders : List Nat) : State :=
  let gone := s.ftl.versions.filter fun v => orders.contains v.order && s.outdated v
  ({ s with ftl := { s.ftl with
    versions := s.ftl.versions.map fun (v : Version) => if orders.contains v.order then { v with seq := 0 } else v } }).removeVersions
    (gone.map fun (v : Version) => v.order)

/-- Close an OPEN tank short (R261): it becomes FULL, its remaining pages unprogrammed; the stripe under assembly in it
is taken back, its versions unassigned. -/
def State.closeShort (s : State) (t : Nat) : State :=
  let tk := s.tankOf t
  if tk.st != tkOpen then s
  else
    let gone := s.ftl.asm.filter fun e => e.2.tank == t
    let s := s.unassign (gone.flatMap fun e => e.2.orders)
    let s := { s with ftl := { s.ftl with
      asm := s.ftl.asm.filter fun e => e.2.tank != t
      granted := s.ftl.granted.map fun (e : Nat × List Nat) => (e.1, e.2.filter (· != t)) } }
    let s := s.updTank t fun tk =>
      { tk with st := tkFull, fullAt := s.tm.shelf,
                members := tk.members.map fun (m : TankMember) => { m with tempFull := s.temp m.cistern } }
    let s := (s.journalTank t tkFull).count Reg.FTL_CNT_TANKS_CLOSED_SHORT
    let s := if tk.members.any (·.marked) then s.refreshAdd t true else s
    s.showTanks

/-- Retire a block at once: STATE 3, counted, journalled (Table 10.1). -/
def State.retireNow (s : State) (k : Nat) : State :=
  let s := s.updBlk k fun b => { b with st := 3, tank := none }
  let s := s.journal (.blockState (blkCistern k) (k / 2 ^ 20 % 256) 3 (k % 2 ^ 20))
  (s.count Reg.FTL_CNT_BLOCKS_RETIRED).showSpare

/-- Mark a block for retirement (R284): STATE 2, the mark in its tank, the tank urgent on the refresh list; a free block is
retired at once. -/
def State.markBlock (s : State) (k : Nat) : State :=
  let b := s.blkOf k
  match b.tank with
  | none => if b.st == 0 then s.retireNow k else s
  | some t =>
    if b.st != 1 then s
    else
      let s := s.updBlk k fun b => { b with st := 2 }
      let s := s.journal (.blockState (blkCistern k) (k / 2 ^ 20 % 256) 2 (k % 2 ^ 20))
      let s := s.updTank t fun tk =>
        { tk with members := tk.members.map fun (m : TankMember) => if m.key == k then { m with marked := true } else m }
      s.refreshAdd t true

/-! ### Choosing members (R40, R281, R302, R340) -/

/-- Is a cistern eligible for a new tank (R40)?  Nothing is written to it before its epoch is settled (R382, R474). -/
def State.eligible (s : State) (c : Nat) : Bool :=
  s.inService c && s.rd (Reg.SKL_STATUS_OUTCOME.at c) == 1 && s.params.memberFloat ≤ s.freeBlocks c &&
  decide (0 < s.freeBlocks c) && Tab.has c s.pod.epochs && !s.is (Reg.SKL_EPOCH_STATUS_FENCED.at c)

/-- Lowest unlisted block of a cistern on a die that `ok` permits: it is free with PE 0. -/
def State.freshBlock (s : State) (c : Nat) (ok : Nat → Bool) : Option Nat :=
  ((List.range (s.dies c)).filter ok).findSome? fun d =>
    (Tab.lowestFree s.ftl.blocks (blkKey c d 0) (s.pooled c d))

/-- The entry of least (or greatest) PE in a list of blocks. -/
def bestPe (greatest : Bool) (l : List (Nat × Blk)) : Option (Nat × Blk) :=
  l.foldl (fun best e => match best with
    | none => some e
    | some b => if (if greatest then b.2.pe < e.2.pe else e.2.pe < b.2.pe) then some e else best) none

/-- The block a member gives (R281): the free block of lowest PE in its pool, of highest PE for class 7, on the dies
that `ok` permits. -/
def State.giveBlock (s : State) (c cls : Nat) (ok : Nat → Bool) : Option Nat :=
  let listed := s.ftl.blocks.filter fun e => blkCistern e.1 == c && e.2.free && ok (e.1 / 2 ^ 20 % 256)
  let best := bestPe (cls == 7) listed
  if cls == 7 then
    match best with
    | some e => some e.1
    | none => s.freshBlock c ok
  else
    match best with
    | some e => if e.2.pe == 0 then some e.1 else (s.freshBlock c ok).or (some e.1)
    | none => s.freshBlock c ok

/-- Insert a cistern by falling count of free blocks, lower slot first among equals. -/
def insertByFree (s : State) (c : Nat) : List Nat → List Nat
  | [] => [c]
  | d :: l => if s.freeBlocks d < s.freeBlocks c then c :: d :: l else d :: insertByFree s c l

/-- The members of a tank that share the slot of a unit (R340). -/
def State.slotUse (s : State) (chosen : List Nat) (u : Nat) : Nat :=
  chosen.countP fun k => s.slotOf (s.unitOf (blkCistern k) (k / 2 ^ 20 % 256)) == s.slotOf u

/-- The blocks that a cistern may give beside those chosen: the one R281 prefers, then, under a window limit, the one of each of its
units whose slot has room (R340). -/
def State.offers (s : State) (cls : Nat) (win : Option Nat) (chosen : List Nat) (c : Nat) : List Nat :=
  match win with
  | none => (s.giveBlock c cls fun _ => true).toList
  | some l =>
    let room := fun d => decide (s.slotUse chosen (s.unitOf c d) < l)
    ((s.giveBlock c cls room).toList ++
      (List.range s.sets).filterMap fun w => s.giveBlock c cls fun d => room d && d % s.sets == w).eraseDups

/-- What a choice of members has to keep: at most `group` in a failure group (R302), at most `win` in units that share a slot (R340),
and, where `last` is given, a set of cisterns other than it (R40). -/
structure PlaceRule where
  group : Nat
  win : Option Nat
  last : Option (List Nat)

/-- Is the chosen set another than the one to avoid? -/
def PlaceRule.fresh (r : PlaceRule) (chosen : List Nat) : Bool :=
  r.last.all fun l => !(chosen.all (fun k => l.contains (blkCistern k)) && l.all fun c => chosen.any fun k => blkCistern k == c)

/-- Search the candidates in order, most free blocks first, for `n` members that keep the rule, trying every choice of blocks before
passing a cistern over: it finds a choice wherever one exists. -/
def State.search (s : State) (cls n : Nat) (r : PlaceRule) : List Nat → List Nat → Option (List Nat)
  | chosen, [] => if chosen.length == n && r.fresh chosen then some chosen else none
  | chosen, c :: rest =>
    if chosen.length == n then (if r.fresh chosen then some chosen else none)
    else if chosen.length + rest.length + 1 < n then none
    else
      let inGroup := chosen.countP fun k => failGroup (blkCistern k) == failGroup c
      let here := if r.group ≤ inGroup then none
        else (s.offers cls r.win chosen c).findSome? fun k => s.search cls n r (chosen ++ [k]) rest
      here.or (s.search cls n r chosen rest)

/-- The cisterns a tank may take, most free blocks first (R40). -/
def State.candidates (s : State) (except_ : List Nat) : List Nat :=
  (slots48.filter fun c => s.eligible c && !except_.contains c).foldl (fun l c => insertByFree s c l) []

/-- Members in one failure group at most (R302). -/
def groupLimit (layout : Nat) : Nat := if layMirror layout then 1 else (layMembers layout + 3) / 4

/-- A choice of blocks, whether the groups balance, and whether the window limit holds. The window limit goes before the groups (R340),
the groups before a set not used just before (R302, R40); the last choices are R342's, without the window limit. -/
def State.choosePlace (s : State) (layout cls : Nat) (last : Option (List Nat)) (kept cs : List Nat) : Option (List Nat × Bool × Bool) :=
  let n := layMembers layout
  let wins := if s.coordinated then [some (winLimit layout), none] else [none]
  let rules := wins.flatMap fun w => [groupLimit layout, n].flatMap fun g =>
    [({ group := g, win := w, last := last } : PlaceRule), { group := g, win := w, last := none }]
  rules.findSome? fun r => (s.search cls n r kept cs).map fun l => (l, r.group == groupLimit layout, r.win.isSome || !s.coordinated)

/-- A tank's blocks in position order, whether the groups balance, and whether the window limit holds (R302, R340, R342). -/
def State.chooseMembers (s : State) (layout cls : Nat) : Option (List Nat × Bool × Bool) :=
  s.choosePlace layout cls (Tab.find layout s.ftl.lastSet) [] (s.candidates [])

/-- Key of a class and layout. -/
def clsKey (cls layout : Nat) : Nat := cls * 65536 + layout

/-- Enter a tank into the table as OPEN with the blocks given (R259, Table 15.4 TANK_OPEN). -/
def State.enterTank (s : State) (t layout cls : Nat) (blocks : List Nat) (mine : Bool) : State :=
  let ms := blocks.map fun k =>
    { cistern := blkCistern k, die := k / 2 ^ 20 % 256, block := k % 2 ^ 20, tempOpen := s.temp (blkCistern k)
      : TankMember }
  let s := { s with ftl := { s.ftl with
    tanks := Tab.put t { st := tkOpen, layout := layout, cls := cls, members := ms, openAt := s.tm.shelf,
                         lastStripe := s.tm.mono, mine := mine } s.ftl.tanks
    lastSet := Tab.put layout (blocks.map blkCistern) s.ftl.lastSet } }
  let s := blocks.foldl (fun s k => s.updBlk k fun b => { b with st := 1, tank := some t }) s
  let s := s.journal (.tankOpen t layout cls (ms.map fun m => (m.cistern, m.die, m.tempOpen, m.block)) s.tm.shelf)
  s.showTanks.showDraw

/-- What a choice of members shows: groups that do not balance are counted, with an event (R302); a placement outside the windows ends
coordinated mode (R342). -/
def State.showPlace (s : State) (layout t : Nat) (balanced fits : Bool) : State :=
  let s := if balanced then s else (s.count Reg.PAR_CNT_PLACE_UNBALANCED).raise sevUncorrected .par 0x1038 t layout
  if fits then s else { s with tm := { s.tm with unplaceable := true } }

/-- Ask the allocator for a tank of a class, one at a time, until two are held in advance (R471). -/
def State.askGrant (s : State) (layout cls : Nat) : State :=
  let k := clsKey cls layout
  if s.ftl.asking.contains k || 2 ≤ (Tab.getD k [] s.ftl.granted).length then s
  else match s.chooseMembers layout cls, Tab.lowestFree s.ftl.tanks 0 (s.rd Reg.FTL_TANK_ENTRIES) with
    | some (bs, balanced, fits), some t =>
      let s := s.showPlace layout t balanced fits
      ({ s with ftl := { s.ftl with asking := k :: s.ftl.asking } } : State).toPartner (.grantReq layout cls (bs.map blkCistern))
    | _, _ => s

/-- The allocator has answered. -/
def State.grantAnswered (s : State) (layout cls : Nat) : State :=
  { s with ftl := { s.ftl with asking := s.ftl.asking.filter (· != clsKey cls layout) } }

/-- Open a tank (R27, R40, R259, R262, R471): the allocator takes the blocks itself; the other controller uses a tank granted in
advance, and asks for more. `none` where none can be opened now. -/
def State.openTank (s : State) (layout cls : Nat) : Option Nat × State :=
  match Tab.getD (clsKey cls layout) [] s.ftl.granted with
  | t :: rest =>
    let s := { s with ftl := { s.ftl with granted := Tab.put (clsKey cls layout) rest s.ftl.granted } }
    (some t, if s.allocator then s else s.askGrant layout cls)
  | [] =>
    if !s.allocator then (none, s.askGrant layout cls)
    else match s.chooseMembers layout cls, Tab.lowestFree s.ftl.tanks 0 (s.rd Reg.FTL_TANK_ENTRIES) with
      | some (bs, balanced, fits), some t => (some t, (s.showPlace layout t balanced fits).enterTank t layout cls bs true)
      | _, _ => (none, s)

/-! ### Skalas commands (R360, R362, R373, R376) -/

/-- The completion timeout of an opcode (R373), ns. -/
def State.sklTimeout (s : State) (n op : Nat) : Nat :=
  if op == opRead then s.rd (Reg.SKL_TIMEOUT0_READ_TO.at n) * 100 * us
  else if op == opProgram then s.rd (Reg.SKL_TIMEOUT0_PROG_TO.at n) * 100 * us
  else if op == opErase then s.rd (Reg.SKL_TIMEOUT1_ERASE_TO.at n) * ms
  else s.rd (Reg.SKL_TIMEOUT1_ADMIN_TO.at n) * ms

def State.showTags (s : State) (n : Nat) : State :=
  let l := s.linkOf n
  let s := s.updLink n fun l => { l with lastTag := s.tm.mono }
  s.wr (Reg.SKL_STATUS_TAGS_OUT.at n) (l.tags.length + l.quarantined.length)

/-- Is the command a PROGRAM or an ERASE? -/
def Tag.writes (t : Tag) : Bool := t.opcode == opProgram || t.opcode == opErase

/-- PROGRAM and ERASE operations outstanding on a die of a link; a timed-out one counts until its resends end (R376). -/
def Link.dieWrites (l : Link) (die : Nat) : Nat :=
  (l.tags.countE fun _ t => t.writes && t.die == die) + l.backlog.countP fun t => t.writes && t.die == die && decide (0 < t.retries)

/-- A READ or PROGRAM is issued (Table 19.4); a host command's READ counts at its tile. -/
def State.sklTileEvent (s : State) (t : Tag) : State :=
  if t.opcode == opProgram then s.freeTileEvent evSklProgram
  else if t.opcode != opRead then s
  else
    let cmd := match t.use with
      | .read j _ => match Tab.find j s.ftl.jobs with
        | some x => (match x.use with
          | .host id _ => Tab.find id s.host.cmds
          | _ => none)
        | none => none
      | _ => none
    match cmd with
    | some c => s.tileEvent c.pump evSklRead
    | none => s.freeTileEvent evSklRead

/-- Cells of MEDIA_RX that a READ's answer takes: the header, and for each page its metadata field and the sectors asked for (R365). -/
def Tag.rxCells (t : Tag) : Nat := cellsOf (32 + t.count * (64 + 4096 * ((List.range 4).countP fun k => t.mask / 2 ^ k % 2 == 1)))

/-- May a waiting command be issued: room in MEDIA_RX for a whole READ (R218), fewer than 8 writes outstanding on the die (R376), of which a
resend is one already, no write to a cistern that has refused one under its epoch (R383), no erase from the start of a save on (Table 15.1
step 2)? -/
def State.mayIssueOn (s : State) (n : Nat) (t : Tag) : Bool :=
  if t.opcode == opRead then (s.alloc 2 t.rxCells).isSome
  else if t.opcode == opErase && (s.sump.save.isSome || s.sump.saved.isSome) then false
  else !t.writes || (!s.is (Reg.SKL_EPOCH_STATUS_FENCED.at n) && (decide (0 < t.retries) || decide ((s.linkOf n).dieWrites t.die < 8)))

/-- Issue the commands that wait, in order, each under the lowest tag neither outstanding nor quarantined, with its timeout; a READ first
reserves its cells; the capsule goes into the link's queue. -/
def State.issueWaiting (s : State) (n : Nat) : Nat → State
  | 0 => s
  | fuel + 1 =>
    let l := s.linkOf n
    if !s.begins (sklBlock n) then s else
    match (List.range 1024).find? fun g => !Tab.has g l.tags && !Tab.has g l.quarantined with
    | none => s
    | some g =>
      match l.backlog.findIdx? (s.mayIssueOn n) with
      | none => s
      | some i =>
        match l.backlog[i]? with
        | none => s
        | some t =>
          let t := { t with at_ := s.tm.mono, timeout := s.sklTimeout n t.opcode }
          let s := s.sklTileEvent t
          let s := s.updLink n fun l =>
            { l with tags := Tab.put g t l.tags, backlog := l.backlog.eraseIdx i,
                     lastRead := if t.opcode == opRead then s.tm.mono else l.lastRead,
                     idleAt := if t.opcode == opRead && decide (l.lastRead + s.rd Reg.TIME_WIN_IDLE_IDLE_WAIT * us ≤ s.tm.mono)
                 then s.tm.mono else l.idleAt }
          let s := if t.opcode == opRead then s.holdCells (holdRead n g) 2 t.rxCells else s
          (s.queueCapsule n g t).issueWaiting n fuel

/-- What waits on a link may be issued. -/
def State.issueAll (s : State) (n : Nat) : State := (s.issueWaiting n 1025).showTags n

/-- Cells have come free: reads and other requests that wait for room are issued (R218), and credit withheld is returned (R456). -/
def State.resumeReads (s : State) : State :=
  (slots48.foldl (fun (s : State) n => if (s.linkOf n).backlog.any (s.mayIssueOn n) then s.issueAll n else s) s).resumeSolicits.returnOwed 0 |>.returnOwed 1

/-- Enter RECOVERY, counted (R361): the port has no link until it is over, and a copy under transmission goes on then. -/
def State.recover (s : State) (n : Nat) : State :=
  ((((s.wr (Reg.SKL_LINK_STATE.at n) lkRecovery).count (Reg.SKL_CNT_RECOVERIES.at n)).updLink n fun l =>
    { l with recoveryAt := s.tm.mono, replays := 0 })).holdPort n

/-- Leave a gated device state (R537): CAUSE is recorded, the exit begins, and links in L1 leave it (R357). -/
def State.wake (s : State) (cause : Nat) : State :=
  if s.rd Reg.PWR_STATUS_STATE == 0 then s
  else
    let s := s.wr Reg.PWR_WAKE_CAUSE cause
    if s.is Reg.PWR_STATUS_EXITING then s
    else
      let s := (s.wr Reg.PWR_STATUS_EXITING 1).wr Reg.PWR_STATUS_TARGET 0
      slots48.foldl (fun s n => if s.lk n == lkL1 then s.recover n else s) s

/-- A link enters DETECT (Table 13.2); one whose domain has failed does not train again before a full reset (R532). -/
def State.toDetect (s : State) (n : Nat) : State :=
  s.wr (Reg.SKL_LINK_STATE.at n) (if s.domainFailed n then lkFailed else lkDetect)

/-- Issue a command on a link (R373); a link in L1 leaves it through RECOVERY (R357), the device waking for media work (R537). -/
def State.issue (s : State) (n : Nat) (t : Tag) : State :=
  let s := if s.lk n == lkL1 then s.wake 5 else s
  let s := if s.lk n == lkL1 then s.recover n else s
  let s := s.updLink n fun l => { l with backlog := l.backlog ++ [t] }
  s.issueAll n

/-- Give a PROGRAM or ERASE the next program ID and the epoch, and issue it (R376, R380). -/
def State.issueWrite (s : State) (n : Nat) (t : Tag) : State :=
  let id := ((s.linkOf n).progId + 1) % 2 ^ 32
  let s := s.updLink n fun l => { l with progId := id }
  s.issue n { t with progId := id, epoch := Tab.getD n 0 s.pod.epochs }

end Sys2Proof.Machine
end

