-- ==== Sys2Proof/Machine/Protect.lean ====
section
/-! DEFINITION. Protection information (R22, R168, R170, R171, Table 6.1): the guards, the tags as bytes, what is generated and what
the checks give; a sector with its CRC-32C and its protection information. The formats and the checks are those of NVMe Base 2.0 and
the NVM Command Set, to which R168 refers (PRESUMED, log entry 54). -/

namespace Sys2Proof.Machine

/-! ### Guards (Table 6.1) -/

/-- One bit of the 16-bit guard, most significant first. -/
def crc16Bit (c : BitVec 16) : BitVec 16 := if c.getLsbD 15 then (c <<< 1) ^^^ 0x8BB7#16 else c <<< 1

/-- One byte of the 16-bit guard. -/
def crc16Byte (c : BitVec 16) (b : Byte) : BitVec 16 :=
  let x := c ^^^ (b.setWidth 16 <<< 8)
  crc16Bit (crc16Bit (crc16Bit (crc16Bit (crc16Bit (crc16Bit (crc16Bit (crc16Bit x)))))))

/-- The 16-bit guard. -/
def crc16 (l : List Byte) : Nat := (l.foldl crc16Byte 0).toNat

/-- One bit of the 64-bit guard, least significant first. -/
def crc64Bit (c : BitVec 64) : BitVec 64 := if c.getLsbD 0 then (c >>> 1) ^^^ 0x9A6C9329AC4BC9B5#64 else c >>> 1

/-- One byte of the 64-bit guard. -/
def crc64Byte (c : BitVec 64) (b : Byte) : BitVec 64 :=
  let x := c ^^^ b.setWidth 64
  crc64Bit (crc64Bit (crc64Bit (crc64Bit (crc64Bit (crc64Bit (crc64Bit (crc64Bit x)))))))

/-- The 64-bit guard. -/
def crc64 (l : List Byte) : Nat := (l.foldl crc64Byte 0xFFFFFFFFFFFFFFFF#64 ^^^ 0xFFFFFFFFFFFFFFFF#64).toNat

/-- The guard of an LBA format over a sector's data. -/
def guardOf (lbaf : Nat) (data : List Byte) : Nat :=
  match lbaf with
  | 1 => crc16 data
  | 2 => crc32c data
  | _ => crc64 data

/-- Bytes of the guard and of the reference tag; the application tag takes two, and the storage tag none (R160). -/
def guardBytes (lbaf : Nat) : Nat :=
  match lbaf with
  | 1 => 2
  | 2 => 4
  | _ => 8
def refBytes (lbaf : Nat) : Nat :=
  match lbaf with
  | 1 => 4
  | 2 => 10
  | _ => 6

/-! ### The tags -/

/-- Protection information: guard, application tag, reference tag. -/
structure PiTags where
  guard : Nat
  app : Nat
  ref : Nat
  deriving DecidableEq, Repr

/-- Protection information as the bytes of the metadata field. -/
def piBytes (lbaf : Nat) (t : PiTags) : List Byte := beBytes (guardBytes lbaf) t.guard ++ beBytes 2 t.app ++ beBytes (refBytes lbaf) t.ref

/-- The metadata field's bytes as protection information. -/
def piTags (lbaf : Nat) (bs : List Byte) : PiTags :=
  let g := guardBytes lbaf
  ⟨le (slice bs 0 g).reverse, le (slice bs g 2).reverse, le (slice bs (g + 2) (refBytes lbaf)).reverse⟩

/-- A reference tag of all ones. -/
def refOnes (lbaf : Nat) : Nat := 2 ^ (8 * refBytes lbaf) - 1

end Sys2Proof.Machine

namespace Sys2Proof

/-- PRCHK: the guard (bit 2), the application tag (bit 1) and the reference tag (bit 0) are checked. -/
def Sqe.prchk (q : Sqe) (bit : Nat) : Bool := q.cdw12 / 2 ^ (26 + bit) % 2 == 1

/-- Expected application tag and its mask. -/
def Sqe.appTag (q : Sqe) : Nat := q.cdw15 % 65536
def Sqe.appMask (q : Sqe) : Nat := q.cdw15 / 65536

/-- Initial reference tag: dword 14, with dwords 3 and 2 above it where the format's tag is wider. -/
def Sqe.refTag (q : Sqe) (lbaf : Nat) : Nat := (q.cdw14 + 2 ^ 32 * q.cdw3 + 2 ^ 64 * q.cdw2) % 2 ^ (8 * Machine.refBytes lbaf)

end Sys2Proof

namespace Sys2Proof.Machine

/-- Does the namespace carry protection information? -/
def Ns.hasPi (n : Ns) : Bool := n.piType != 0

/-- The reference tag of the `k`-th LBA after an initial one: incremented for types 1 and 2. -/
def Ns.refAt (n : Ns) (base k : Nat) : Nat := if n.piType == 3 then base else (base + k) % 2 ^ (8 * refBytes n.lbaf)

/-- Does a command's reference tag contradict its namespace's type: type 3 checks none, and type 1 wants the LBA's low bits? -/
def piRefused (n : Ns) (q : Sqe) : Bool :=
  n.hasPi && q.prchk 0 && (n.piType == 3 || (n.piType == 1 && q.refTag n.lbaf != q.slba % 2 ^ (8 * refBytes n.lbaf)))

/-- Protection information generated for data under given tags (PRACT = 1). -/
def Ns.piMade (n : Ns) (app ref : Nat) (data : List Byte) : List Byte :=
  if n.hasPi then piBytes n.lbaf ⟨guardOf n.lbaf data, app, ref⟩ else zeros (metaBytes n.lbaf)

/-- Do the tags switch the checks off: an application tag of 0xFFFF, for type 3 with a reference tag of all ones? -/
def Ns.piOff (n : Ns) (t : PiTags) : Bool := t.app == 0xFFFF && (n.piType != 3 || t.ref == refOnes n.lbaf)

/-- What a command's checks of the protection information of its `k`-th LBA give: `none`, or the status of the first that fails
(R168, Table 6.9). -/
def piCheck (n : Ns) (q : Sqe) (k : Nat) (data pi : List Byte) : Option Nat :=
  let t := piTags n.lbaf pi
  if !n.hasPi || n.piOff t then none
  else if q.prchk 2 && t.guard != guardOf n.lbaf data then some nvGuard
  else if q.prchk 1 && (t.app &&& q.appMask) != (q.appTag &&& q.appMask) then some nvAppTag
  else if q.prchk 0 && t.ref != n.refAt (q.refTag n.lbaf) k then some nvRefTag
  else none

/-- Does stored protection information agree with what a Compare's host sent, in the tags that PRCHK asks for (R167)? -/
def piAgrees (n : Ns) (q : Sqe) (mine theirs : List Byte) : Bool :=
  let a := piTags n.lbaf mine
  let b := piTags n.lbaf theirs
  !n.hasPi || ((!q.prchk 2 || a.guard == b.guard) && (!q.prchk 1 || (a.app &&& q.appMask) == (b.app &&& q.appMask)) &&
    (!q.prchk 0 || a.ref == b.ref))

/-! ### Sectors (R22) -/

/-- A sector as it enters the controller: its CRC-32C is computed over the plaintext (R22). -/
def sectorOf (data pi : List Byte) : Sector := { data := data, pi := pi, crc := crc32c data }

/-- The sector that data with its protection information after it spells. -/
def sectorFrom (bs : List Byte) : Sector := sectorOf (bs.take 4096) (bs.drop 4096)

/-- A sector's data with its protection information after it. -/
def Sector.bytes (x : Sector) : List Byte := x.data ++ x.pi

/-- A CRC stored inverted (R257). -/
def invertCrc (c : Nat) : Nat := 2 ^ 32 - 1 - c % 2 ^ 32

/-- A poisoned sector (R257): zeros, its CRC inverted. -/
def poisonSector : Sector := { data := zeros 4096, crc := invertCrc (crc32c (zeros 4096)), good := false }

/-- Has the command no metadata on the wire (R168)? -/
def piStripped (n : Ns) (q : Sqe) : Bool := n.hasPi && q.pract

/-- The sector that the wire bytes of a command's `k`-th LBA spell; under PRACT its protection information is generated. -/
def wireSector (n : Ns) (q : Sqe) (k : Nat) (d : List Byte) : Sector :=
  let data := d.take 4096
  sectorOf data (if piStripped n q then n.piMade q.appTag (n.refAt (q.refTag n.lbaf) k) data else (d.drop 4096).take (metaBytes n.lbaf))

/-- A sector's bytes on the wire. -/
def Sector.onWire (n : Ns) (q : Sqe) (x : Sector) : List Byte := x.data ++ (if piStripped n q then [] else x.pi)

/-- A sector of zeros under given tags (R171). -/
def zeroSector (n : Ns) (app ref : Nat) : Sector := sectorOf (zeros 4096) (n.piMade app ref (zeros 4096))

/-- The protection information of an LBA that is not written (R170): application tag 0xFFFF, every bit of the reference tag set. -/
def unwrittenPi (n : Ns) (guard : Nat) : List Byte :=
  if n.hasPi then piBytes n.lbaf ⟨guard, 0xFFFF, refOnes n.lbaf⟩ else leBytes (metaBytes n.lbaf) guard

end Sys2Proof.Machine
end

