-- ==== Sys2Proof/Machine/Place.lean ====
section
/-! DEFINITION. Placement: parity (R304), the sump index (R245, R407), fragments and composition (R256, R257), assignment to
stripes (R252, R253, R258), programming (R241, R366), commit and the map (R254, R307-R310), markers (R266, R274, R275). -/

namespace Sys2Proof.Machine

/-! ### GF(2^8) (R304) -/

/-- Multiply by the generator 0x02 modulo 0x11D. -/
def gfDouble (a : Nat) : Nat := if a < 128 then 2 * a else (2 * a) ^^^ 0x11D

/-- Product of two elements. -/
def gfMul (a b : Nat) : Nat :=
  ((List.range 8).foldl (fun (acc : Nat × Nat) i =>
    ((if b / 2 ^ i % 2 == 1 then acc.1 ^^^ acc.2 else acc.1), gfDouble acc.2)) (0, a)).1

/-- g to the power n. -/
def gfPow : Nat → Nat
  | 0 => 1
  | n + 1 => gfDouble (gfPow n)

/-- Inverse: the power 254. -/
def gfInv (a : Nat) : Nat := (List.range 253).foldl (fun x _ => gfMul x a) a

/-- Coefficient of data chunk j in parity r (0 P, 1 Q, 2 Z). -/
def gfCoef (r j : Nat) : Nat := gfPow (r * j % 255)

/-- A byte string with zeros after it, up to a length. -/
def padTo (n : Nat) (a : List Byte) : List Byte := a ++ zeros (n - a.length)

/-- The sum of two byte strings, the shorter one with zeros after it. -/
def xorBytes (a b : List Byte) : List Byte :=
  List.zipWith (fun x y => x ^^^ y) (padTo (max a.length b.length) a) (padTo (max a.length b.length) b)
def scaleBytes (c : Nat) (l : List Byte) : List Byte := l.map fun b => BitVec.ofNat 8 (gfMul c b.toNat)

/-- Parity r of the data chunks' sectors of one row. -/
def parityRow (r : Nat) (ds : List (List Byte)) : List Byte :=
  ds.zipIdx.foldl (fun acc e => xorBytes acc (scaleBytes (gfCoef r e.2) e.1)) (zeros 4096)

/-- Solve for `e` unknowns by elimination (R305). -/
def gfSolve : Nat → List (List Nat × List Byte) → Option (List (List Byte))
  | 0, _ => some []
  | e + 1, rows =>
    match rows.find? fun r => r.1.headD 0 != 0 with
    | none => none
    | some p =>
      let inv := gfInv (p.1.headD 0)
      let pc := p.1.map (gfMul inv)
      let pb := scaleBytes inv p.2
      let rest := (rows.filter (· != p)).map fun r =>
        let h := r.1.headD 0
        ((List.zipWith (fun x y => x ^^^ gfMul h y) r.1 pc).drop 1, xorBytes r.2 (scaleBytes h pb))
      match gfSolve e rest with
      | none => none
      | some xs =>
        some ((List.zip (pc.drop 1) xs).foldl (fun b cx => xorBytes b (scaleBytes cx.1 cx.2)) pb :: xs)

/-- The sector of lost position `lost` from the surviving positions' sectors of its row (R305): a mirror copy, or the
solution over as many parities as data sectors are missing, or a recomputed parity. -/
def rebuildSector (layout lost : Nat) (have_ : List (Nat × List Byte)) : Option (List Byte) :=
  if layMirror layout then have_.head?.map (·.2)
  else
    let d := layData layout
    let unknown := (List.range d).filter fun j => !have_.any fun h => h.1 == j
    let eqs := (have_.filter fun h => decide (d ≤ h.1)).take unknown.length
    let rows := eqs.map fun h =>
      (unknown.map (gfCoef (h.1 - d)),
       (have_.filter fun k => decide (k.1 < d)).foldl
         (fun b k => xorBytes b (scaleBytes (gfCoef (h.1 - d) k.1) k.2)) h.2)
    match gfSolve unknown.length rows with
    | none => none
    | some xs =>
      let data := (List.range d).map fun j =>
        match have_.find? fun h => h.1 == j with
        | some h => h.2
        | none => xs.getD (unknown.idxOf j) []
      if lost < d then some (data.getD lost []) else some (parityRow (lost - d) data)

/-! ### The sump's SRAM -/

/-- SRAM slots still free (R406): sump banks of 1,024 slots each. -/
def State.sramFree (s : State) : Nat :=
  s.params.sumpBanks * 1024 - (s.ftl.versions.map (·.sram)).sum

/-! ### Data in the sump is ciphertext (R407, R438, Table 1.4 step 3) -/

/-- A sector enters the sump: its data is encrypted under its namespace's key, with its LBA and NSID. -/
def State.seal (s : State) (nsid lba : Nat) (x : Sector) : Sector :=
  { x with data := s.xts (Tab.getD nsid { nsze := 0 } s.ns).keySlot nsid lba false x.data }

/-- A sector leaves it for a host. -/
def State.unseal (s : State) (nsid lba : Nat) (x : Sector) : Sector :=
  { x with data := s.xts (Tab.getD nsid { nsze := 0 } s.ns).keySlot nsid lba true x.data }

/-- Sectors of a namespace go through an XTS core (R439). -/
def State.useKey (s : State) (nsid : Nat) : State := s.useXts (Tab.getD nsid { nsze := 0 } s.ns).keySlot

/-- Sectors of an IU, by index in it, as they enter the sump. -/
def State.sealIu (s : State) (nsid iu : Nat) (t : Tab Sector) : Tab Sector :=
  t.map fun e => (e.1, s.seal nsid (iu * (Tab.getD nsid { nsze := 0 } s.ns).iuLen + e.1) e.2)

/-- Several IUs' sectors as they enter the sump. -/
def State.sealIus (s : State) (nsid : Nat) (ius : Tab (Tab Sector)) : Tab (Tab Sector) :=
  ius.map fun e => (e.1, s.sealIu nsid e.1 e.2)

/-- The ciphertext sector that mirrored bytes spell: its CRC-32C is over the plaintext (R22). -/
def State.sealedFrom (s : State) (nsid lba : Nat) (bs : List Byte) : Sector :=
  let x : Sector := { data := bs.take 4096, pi := bs.drop 4096 }
  { x with crc := crc32c (s.unseal nsid lba x).data }

/-! ### The sump index and lookups (R245, R254) -/

/-- A namespace, none deleted. -/
def State.nsOf (s : State) (id : Nat) : Option Ns := Tab.find id s.ns

/-- The layout word of a namespace (Table 2.5, Table 6.2). -/
def State.nsLayout (s : State) (n : Ns) : Nat := s.params.layouts.getD n.layout (16 + 2 * 256)

/-- Does the version still answer lookups: no later marker or location has been applied over it? -/
def State.live (s : State) (v : Version) : Bool :=
  v.seq == 0 || decide (s.appliedSeq (iuKey v.nsid v.iu) ≤ v.seq)

/-- Versions and fragments of an IU in the sump, newest first. -/
def State.versionsOf (s : State) (nsid iu : Nat) : List Version :=
  (s.ftl.versions.filter fun v => v.nsid == nsid && v.iu == iu && s.live v).reverse

/-- What a lookup of one sector finds (R245, Table 9.3). -/
inductive Found where
  | here (sector : Sector)
  | zero
  | unmapped
  | media (v : Nat)
  deriving DecidableEq, Repr

/-- Look up sector `k` of an IU: the sump index first, newest version or fragment that holds it, then the map. -/
def State.lookup (s : State) (nsid iu k : Nat) : Found :=
  let vs := s.versionsOf nsid iu
  match vs.find? fun v => v.whole || Tab.has k v.sectors with
  | some v => .here (s.unseal nsid (iu * (Tab.getD nsid { nsze := 0 } s.ns).iuLen + k) (Tab.getD k {} v.sectors))
  | none =>
    match Tab.find (iuKey nsid iu) s.ftl.map with
    | none => .unmapped
    | some .zero => .zero
    | some (.media v) => .media v

/-- Segment of an IU (R247). -/
def segOf (iu : Nat) : Nat := iu / 1024

/-- Is an IU's segment in DRAM (R248)? -/
def State.resident (s : State) (nsid iu : Nat) : Bool :=
  match Tab.find nsid s.ftl.segs with
  | none => true
  | some g => g.all || Tab.has (segOf iu) g.loaded

/-- Note a use or change of a segment (R248: least recently used; not evicted before a checkpoint covers its update). -/
def State.touchSeg (s : State) (nsid iu : Nat) (change : Bool) : State :=
  match Tab.find nsid s.ftl.segs with
  | none => s
  | some g =>
    let g := if g.all then g else { g with loaded := Tab.updIf (segOf iu) (fun _ => s.tm.mono) g.loaded }
    let g := if change && !g.dirty.contains (segOf iu) then { g with dirty := segOf iu :: g.dirty } else g
    { s with ftl := { s.ftl with segs := Tab.put nsid g s.ftl.segs } }

/-- Ask for a segment that is absent; other lookups are not held (R248, Table 9.4). -/
def State.wantSeg (s : State) (nsid iu : Nat) : State :=
  if s.ftl.waitSegs.contains (nsid, segOf iu) then s
  else { s with ftl := { s.ftl with waitSegs := s.ftl.waitSegs ++ [(nsid, segOf iu)] } }

/-! ### The map -/

/-- A location stops being named by the map: its tank's valid count falls (R270). -/
def State.dropLocation (s : State) (v : Nat) : State :=
  match s.tankAt v with
  | none => s
  | some t => s.updTank t fun tk => { tk with valid := tk.valid - 1 }

/-- Set a map entry, its old location dropped and its new one counted. -/
def State.setMap (s : State) (nsid iu : Nat) (m : Option MapVal) : State :=
  let k := iuKey nsid iu
  let s := match Tab.find k s.ftl.map with
    | some (.media v) => s.dropLocation v
    | _ => s
  let s := { s with ftl := { s.ftl with
    zeroTags := Tab.del k s.ftl.zeroTags
    map := match m with
      | none => Tab.del k s.ftl.map
      | some a => Tab.put k a s.ftl.map } }
  let s := match m with
    | some (.media v) => match s.tankAt v with
      | none => s
      | some t => s.updTank t fun tk => { tk with valid := tk.valid + 1 }
    | _ => s
  s.touchSeg nsid iu true

/-! ### Redundancy (R303, Table 11.1) -/

/-- May a cistern be read: in service, or worn (R286)? -/
def State.readable (s : State) (c : Nat) : Bool :=
  s.inService c || (s.cst c == cWorn && decide (lkActive ≤ s.lk c ∧ s.lk c ≤ lkL1))

/-- Stripes of a tank that are committed, by index in order. -/
def Tank.committed (tk : Tank) : List Nat := (List.range tk.begun).filter fun i => !tk.orphans.contains i

/-- Chunks that the committed stripes of a tank lack: the members away with, stripe by stripe, the positions in MISSING beside them; one
entry stands for every stripe with nothing in MISSING. -/
def State.lacks (s : State) (tk : Tank) : List Nat :=
  let away := tk.members.zipIdx.filter fun e => !s.readable e.1.cistern
  let listed := tk.missing.map fun e => away.length + e.2.countP fun p => !away.any fun a => posOf tk.layout a.2 e.1 == p
  if listed.length < tk.committed.length then away.length :: listed else listed

/-- Chunks that a tank's worst stripe lacks. -/
def State.lacking (s : State) (tk : Tank) : Nat := (s.lacks tk).foldl max 0

/-- Does a tank hold a critical stripe: no redundancy remains, and nothing is lost? -/
def State.holdsCritical (s : State) (tk : Tank) : Bool := (s.lacks tk).contains (layRedundancy tk.layout)

/-- Does a tank hold a degraded stripe? -/
def State.holdsDegraded (s : State) (tk : Tank) : Bool :=
  (s.lacks tk).any fun n => decide (0 < n ∧ n < layRedundancy tk.layout)

/-- Rank of a tank in the order of rebuild (R319): those with a critical stripe first, then by remaining redundancy. -/
def State.rank (s : State) (t : Nat) : Nat :=
  let tk := s.tankOf t
  if s.holdsCritical tk then 0 else 65 + layRedundancy tk.layout - s.lacking tk

/-! ### Lost ranges (R321, R322) -/

/-- Is reliability degraded (R297, bit [2]): a range is lost, or a stripe is without redundancy? -/
def State.unreliable (s : State) : Bool := !s.ftl.lost.isEmpty || s.ftl.exposed

/-- The SMART event that reliability is degraded, where it was not before (`was`) (Table 6.7). -/
def State.reliability (s : State) (was : Bool) : State := if !was && s.unreliable then s.tenantEvent none (1, 0) else s

/-- Show the lost-stripe list; its change goes to the peer (R311). -/
def State.showLost (s : State) : State :=
  let n := s.ftl.lost.length
  let s := if s.dual then s.toPartner (.mirror { lost := some s.ftl.lost }) else s
  let s := (s.wr Reg.PAR_LOST_STATUS_COUNT n).wr Reg.PAR_LOST_GEN_GENERATION
    (s.rd Reg.PAR_LOST_GEN_GENERATION + 1)
  if n < 65536 then s.wr Reg.PAR_LOST_STATUS_OVERFLOW 0 else s

end Sys2Proof.Machine

namespace Sys2Proof

/-- Do two entries belong together: same NSID, tank and stripe, and ranges that touch (R322)? -/
def Lost.joins (e x : Lost) : Bool :=
  x.nsid == e.nsid && x.tank == e.tank && x.stripe == e.stripe && e.slba ≤ x.slba + x.nlb && x.slba ≤ e.slba + e.nlb

/-- Two entries as one, under the older one's cause and time. -/
def Lost.join (e x : Lost) : Lost :=
  { x with slba := min x.slba e.slba, nlb := max (x.slba + x.nlb) (e.slba + e.nlb) - min x.slba e.slba }

/-- Is an entry before another in the list: NSID, then SLBA? -/
def Lost.before (e x : Lost) : Bool := e.nsid < x.nsid || (e.nsid == x.nsid && e.slba < x.slba)

end Sys2Proof

namespace Sys2Proof.Machine

/-- Insert an entry in order of NSID, then SLBA, merged with those that it touches (R322). -/
def insertLost (e : Lost) (l : List Lost) : List Lost :=
  let e := (l.filter e.joins).foldl Lost.join e
  let rest := l.filter fun x => !e.joins x
  rest.filter (fun x => !e.before x) ++ e :: rest.filter (fun x => e.before x)

/-- Is an LBA in a list of lost ranges? -/
def lostHas (l : List Lost) (nsid lba : Nat) : Bool :=
  l.any fun x => x.nsid == nsid && x.slba ≤ lba && lba < x.slba + x.nlb

/-- Put an entry into the list; a full list sets OVERFLOW, with an event, and the range waits for room (R322). -/
def State.putLost (s : State) (e : Lost) : State :=
  let l := insertLost e s.ftl.lost
  if 65536 < l.length then
    let s := { s with ftl := { s.ftl with lostMissed := insertLost e s.ftl.lostMissed } }
    if s.is Reg.PAR_LOST_STATUS_OVERFLOW then s
    else (s.wr Reg.PAR_LOST_STATUS_OVERFLOW 1).raise sevUncorrected .par 0x300
  else ({ s with ftl := { s.ftl with lost := l } }).showLost

/-- Add a lost sector (R321), where it is not lost already: counted, listed, and the tenant's hosts are told (Table 6.7). -/
def State.addLost (s : State) (nsid lba tank stripe cause : Nat) : State :=
  if lostHas s.ftl.lost nsid lba || lostHas s.ftl.lostMissed nsid lba then s
  else
    let was := s.unreliable
    let s := ((s.count Reg.PAR_CNT_LOST_SECTORS).putLost ⟨nsid, lba, 1, tank, stripe, cause, s.tm.shelf⟩).reliability was
    s.tenantEvent (some (Tab.getD nsid { nsze := 0 } s.ns).tenant) (7, 0)

/-- A list of lost ranges without some LBAs: entries are trimmed or split (R322). -/
def trimLost (nsid lba n : Nat) (l : List Lost) : List Lost :=
  l.flatMap fun e =>
    if e.nsid == nsid && lba < e.slba + e.nlb && e.slba < lba + n then
      (if e.slba < lba then [{ e with nlb := lba - e.slba }] else []) ++
      (if lba + n < e.slba + e.nlb then
        [{ e with slba := lba + n, nlb := e.slba + e.nlb - (lba + n) }] else [])
    else [e]

/-- Take LBAs out of the lost-stripe list; once the list has room again the ranges that found none are added (R322). -/
def State.clearLost (s : State) (nsid lba n : Nat) : State :=
  let missed := trimLost nsid lba n s.ftl.lostMissed
  let l := trimLost nsid lba n s.ftl.lost
  let s := { s with ftl := { s.ftl with lostMissed := missed } }
  if l == s.ftl.lost then s
  else
    let s := ({ s with ftl := { s.ftl with lost := l } }).showLost
    if missed.isEmpty || s.is Reg.PAR_LOST_STATUS_OVERFLOW then s
    else missed.foldl (fun (s : State) e => s.putLost e) { s with ftl := { s.ftl with lostMissed := [] } }

/-! ### Stripes under assembly (R252, R253, R258) -/

/-- Sectors of a placed IU. -/
def Placed.len (p : Placed) : Nat := if p.iu16 then 4 else 1

/-- Where the next IU of a size goes in a stripe: a chunk of that size with room, else an empty chunk. -/
def Stripe.room (st : Stripe) (iu16 : Bool) : Option (Nat × Nat) :=
  let used := fun j => ((st.ius.filter fun p => p.chunk == j).map Placed.len).sum
  let kind := fun j => (st.ius.find? fun p => p.chunk == j).map (·.iu16)
  let js := List.range (layData st.layout)
  match js.find? fun j => kind j == some iu16 && used j < 16 with
  | some j => some (j, used j)
  | none => (js.find? fun j => kind j == none).map fun j => (j, 0)

/-- Is every data chunk full? -/
def Stripe.full (st : Stripe) : Bool := (st.ius.map Placed.len).sum == 16 * layData st.layout

/-- The IU descriptor of a slot (R242). -/
def Placed.desc (n : Ns) (p : Placed) : Nat :=
  p.nsid + (match p.src with
    | .sump _ => 0
    | .copy _ _ => 2 ^ 13) + 2 ^ 16 * (p.iu * n.iuLen)

/-- A namespace record, or a blank one. -/
def State.nsOr (s : State) (id : Nat) : Ns := (s.nsOf id).getD { nsze := 0 }

/-- The stored bytes of sector `k` of data chunk `j`: its ciphertext, its protection information after it, which is not
encrypted (R304, R438; where it lies on the media is a DESIGN CHOICE, log entry 54); an empty slot is zeros.  What a META chunk holds is the
controller's own (R250). -/
def Stripe.chunkSector (st : Stripe) (j k : Nat) : List Byte :=
  if st.cls == clsMeta then (List.range 4096).map fun i => Config.metaByte st.seq (4096 * k + i)
  else match st.ius.find? fun p => p.chunk == j && p.slot ≤ k && k < p.slot + p.len with
  | none => zeros 4096
  | some p => (p.sectors.getD (k - p.slot) {}).bytes

/-- A position's sixteen sectors: data, a copy, or parity (R304). -/
def Stripe.posSectors (st : Stripe) (pos : Nat) : List (List Byte) :=
  let d := layData st.layout
  (List.range 16).map fun k =>
    if layMirror st.layout then st.chunkSector 0 k
    else if pos < d then st.chunkSector pos k
    else parityRow (pos - d) ((List.range d).map fun j => st.chunkSector j k)

/-- The IU descriptor of slot `k` of a chunk (R242). -/
def State.headerDesc (s : State) (mine : List Placed) (k : Nat) : Nat :=
  match mine.find? fun p => if p.iu16 then p.slot / 4 == k else p.slot == k with
  | none => 0
  | some p => p.desc (s.nsOr p.nsid)

/-- The SECTOR_CRC of sector `k` of a data chunk (R22): the sector's own, inverted where it is poisoned (R257); an empty slot's is over
its stored zeros. -/
def headerCrc (mine : List Placed) (k : Nat) : Nat :=
  match mine.find? fun p => p.slot ≤ k && k < p.slot + p.len with
  | none => crc32c (zeros 4096)
  | some p => (p.sectors.getD (k - p.slot) {}).crc

/-- A chunk header's bytes from its fields before HDR_CRC and those after it: HDR_CRC covers both (Table 9.1). -/
def headerBytes (front back : List Byte) : List Byte := front ++ leBytes 4 (crc32c (front ++ back)) ++ back

/-- The 256-byte chunk header (Table 9.1, R240, R241). -/
def State.chunkHeader (s : State) (st : Stripe) (pos c : Nat) : List Byte :=
  let parity := !layMirror st.layout && layData st.layout ≤ pos
  let j := if layMirror st.layout then 0 else pos
  let mine := st.ius.filter fun p => p.chunk == j
  let flags := (if parity then 1 else 0) + (if !parity && mine.any (·.iu16) then 2 else 0) +
    (if layMirror st.layout then 4 else 0) + (if st.cls == clsMeta then 8 else 0)
  headerBytes
    (leBytes 2 1 ++ leBytes 1 pos ++ leBytes 1 flags ++ leBytes 4 st.tank ++ leBytes 8 st.seq ++ leBytes 2 st.layout ++
      leBytes 2 st.index ++ leBytes 1 st.cls ++ leBytes 1 s.side ++ zeros 2 ++ leBytes 8 st.wtime ++
      leBytes 4 (Tab.getD c 0 s.pod.epochs) ++ leBytes 8 (s.rd64 Reg.FTL_CKPT_SEQ_LO Reg.FTL_CKPT_SEQ_HI) ++ zeros 16)
    ((List.range 16).flatMap (fun k => leBytes 8 (if parity then 0 else s.headerDesc mine k)) ++
      (if parity || st.cls == clsMeta then (st.posSectors pos).flatMap fun b => leBytes 4 (crc32c b)
       else (List.range 16).flatMap fun k => leBytes 4 (headerCrc mine k)))

/-- Program one position of a stripe (R366, R376): the PROGRAM command, with its capsule's frame (Table 8.1, 257 cells), which a mirror
layout's members share. -/
def State.programPos (s : State) (st : Stripe) (m : TankMember) (pos : Nat) : State :=
  s.issueWrite m.cistern
    { opcode := opProgram, die := m.die, block := m.block, page := 4 * st.index, mask := 15, at_ := 0, timeout := 0,
      header := s.chunkHeader st pos m.cistern, payload := st.posSectors pos, use := .program st.seq pos }

/-- Is a member's capsule discarded at once: a unicast frame for a port whose hold has ended with the link still down (R229)? -/
def State.memberDiscarded (s : State) (layout c : Nat) : Bool := !layMirror layout && s.mfd.expired.contains c

/-- Program the stripe under assembly of a class and layout: it leaves assembly, every member of its tank in service is
programmed, the others are missing, and so is one whose capsule the manifold discards at once, its cells counted (R229).  The chunk of a
mirror layout is one multicast frame (R225).  A stopped PAR begins none (R72). -/
def State.programStripe (s : State) (key : Nat) : State :=
  match if s.begins .par then Tab.find key s.ftl.asm else none with
  | none => s
  | some st =>
    let ms := (s.tankOf st.tank).members.zipIdx
    let lost := ms.countP fun e => s.inService e.1.cistern && s.memberDiscarded st.layout e.1.cistern
    let s := if lost == 0 then s else s.count Reg.MFD_CNT_HOLD_DISCARD_CELLS (257 * lost)
    let sent (c : Nat) : Bool := s.inService c && !s.memberDiscarded st.layout c
    let goes := ms.filter fun e => sent e.1.cistern
    let gone := (ms.filter fun e => !sent e.1.cistern).map fun e => posOf st.layout e.2 st.index
    let st := { st with missing := gone }
    let s := { s with ftl := { s.ftl with asm := Tab.del key s.ftl.asm, fly := Tab.put st.seq st s.ftl.fly } }
    let s := if layMirror st.layout && !goes.isEmpty then s.queueFrame
        { len := 65792, part := 3, src := pumpPort st.seq, dests := goes.map fun e => e.1.cistern, stripe := some (st.seq, 0) } else s
    goes.foldl (fun s e => s.programPos st e.1 (posOf st.layout e.2 st.index)) s

/-- The stripe under assembly of a class and layout, begun in an OPEN tank of that class, or in a tank opened for it: at most one OPEN
tank of a class and layout, two META ones (R252, R262). -/
def State.beginStripe (s : State) (layout cls : Nat) : Option Stripe × State :=
  match Tab.find (clsKey cls layout) s.ftl.asm with
  | some st => (some st, s)
  | none =>
    let opened := s.ftl.tanks.first fun t tk =>
      tk.st == tkOpen && tk.mine && tk.cls == cls && tk.layout == layout && tk.begun < s.tankStripes &&
      !(s.ftl.granted.any fun e => e.2.contains t)
    let held := s.ftl.tanks.countE fun t tk =>
      tk.st == tkOpen && tk.mine && tk.cls == cls && tk.layout == layout && !(s.ftl.granted.any fun e => e.2.contains t)
    let r := match opened with
      | some (t, _) => (some t, s)
      | none => if held < (if cls == clsMeta then 2 else 1) then s.openTank layout cls else (none, s)
    match r.1 with
    | none => (none, r.2)
    | some t =>
      let s := r.2
      let st : Stripe := { seq := s.ftl.placeSeq + 1, tank := t, index := (s.tankOf t).begun, layout := layout,
                           cls := cls, wtime := s.tm.shelf, since := s.tm.mono }
      let s := { s with ftl := { s.ftl with placeSeq := st.seq, asm := Tab.put (clsKey cls layout) st s.ftl.asm } }
      (some st, s.updTank t fun tk => { tk with begun := tk.begun + 1, orphans := tk.orphans ++ [st.index] })

/-- Write one META stripe (R250): begun in the META layout and programmed at once, counted in META_4K; it waits where no META tank
can be opened. -/
def State.writeMeta (s : State) (use : MetaUse) : State :=
  match s.beginStripe metaLayout clsMeta with
  | (none, s) => { s with ftl := { s.ftl with metaWait := s.ftl.metaWait ++ [use] } }
  | (some st, s) =>
    (({ s with ftl := { s.ftl with metaUse := Tab.put st.seq use s.ftl.metaUse } }).programStripe
      (clsKey clsMeta metaLayout)).count Reg.FTL_CNT_META_4K 16

/-- Try again the META stripes that wait. -/
def State.retryMeta (s : State) : State :=
  s.ftl.metaWait.foldl (fun s u => s.writeMeta u) { s with ftl := { s.ftl with metaWait := [] } }

/-- Put one IU into the stripe under assembly of its class, whose SEQ must be above `after` (R253); a stripe without room for
its size is programmed, padded, and the next one begun. Answers whether it was placed, and under which SEQ. -/
def State.placeIu (s : State) (layout cls after : Nat) (p : Placed) : Nat → Option Nat × State
  | 0 => (none, s)
  | fuel + 1 =>
    match s.beginStripe layout cls with
    | (none, s) => (none, s)
    | (some st, s) =>
      let key := clsKey cls layout
      if st.seq ≤ after then (none, s)
      else match st.room p.iu16 with
        | none => ((s.programStripe key).count Reg.FTL_CNT_STRIPES_PADDED).placeIu layout cls after p fuel
        | some (j, k) =>
          let st := { st with ius := st.ius ++ [{ p with chunk := j, slot := k }] }
          let s := { s with ftl := { s.ftl with asm := Tab.put key st s.ftl.asm } }
          let s := match p.src with
            | .sump _ => s.count Reg.FTL_CNT_HOST_IU_4K p.len
            | .copy _ _ => s
          (some st.seq, if st.full then s.programStripe key else s)

/-- Sectors of a tank that the map names, and its capacity in sectors. -/
def State.validSectors (s : State) (t : Nat) : Nat :=
  (s.ftl.map.map fun e => match e.2 with
    | .media v => if s.tankAt v == some t then (s.nsOr (e.1 / 2 ^ 48)).iuLen else 0
    | .zero => 0).sum

def State.tankSectors (s : State) (tk : Tank) : Nat := layData tk.layout * 16 * s.tankStripes

/-- A draw-down candidate (R267): a FULL tank this controller wrote, all members in service. -/
def State.drawable (s : State) (tk : Tank) : Bool :=
  tk.st == tkFull && tk.mine && tk.members.all fun m => s.inService m.cistern

/-- Score of R267, (1 - u) A / (1 + u) in thousandths. -/
def State.score (s : State) (t : Nat) (tk : Tank) : Nat :=
  let c := s.tankSectors tk
  let v := min c (s.validSectors t)
  let a := min ((s.tm.shelf - tk.fullAt) / sec) (2 ^ 24)
  if c + v == 0 then 0 else 1000 * (c - v) * a / (c + v)

/-- Insert by falling score. -/
def insertByScore (e : Nat × Nat) : List (Nat × Nat) → List (Nat × Nat)
  | [] => [e]
  | x :: l => if x.2 < e.2 then e :: x :: l else x :: insertByScore e l

/-- The 64 highest-scoring candidates, best first (R267). -/
def State.bestTanks (s : State) : List Nat :=
  (((s.ftl.tanks.filter fun e => s.drawable e.2).foldl (fun l e => insertByScore (e.1, s.score e.1 e.2) l) []).take 64).map
    (·.1)

/-- The valid fraction u of a tank (R267), in parts of 2^32. -/
def State.validShare (s : State) (t : Nat) : Nat :=
  let c := s.tankSectors (s.tankOf t)
  if c == 0 then 0 else 2 ^ 32 * min c (s.validSectors t) / c

/-- Copy debt of one host IU, in thousandths, by the mean valid fraction of the candidates (R268, Table 9.8). -/
def State.debtPerIu (s : State) : Nat :=
  let f := s.rd Reg.FTL_DRAW_STATUS_FREE
  let hi := s.rd Reg.FTL_FLOAT_HIGH
  let lo := s.rd Reg.FTL_FLOAT_LOW
  let g := match s.drawMode f with
    | 0 => 0
    | 1 => 1000 * (hi - f) / (hi - lo)
    | _ => 2000
  if g == 0 then 0
  else
    let us := s.bestTanks.map s.validShare
    let u := us.sum / max 1 us.length
    if us.isEmpty then 0 else if 16 * (2 ^ 32 - u) ≤ u then 16 * g else g * u / (2 ^ 32 - u)

/-- The highest SEQ of an earlier version or marker of an IU (R253). -/
def State.highestSeq (s : State) (nsid iu : Nat) : Nat :=
  (s.ftl.versions.filter fun v => v.nsid == nsid && v.iu == iu).foldl (fun m v => max m v.seq)
    (s.appliedSeq (iuKey nsid iu))

/-- Assign a whole version that waits to a stripe; a stopped FTL leaves it waiting (R72). -/
def State.assign (s : State) (v : Version) : State :=
  if !s.begins .ftl then s else
  let n := s.nsOr v.nsid
  let p : Placed := { nsid := v.nsid, iu := v.iu, iu16 := n.iu16, chunk := 0, slot := 0, src := .sump v.order,
                      sectors := (List.range n.iuLen).map fun k => Tab.getD k {} v.sectors }
  match s.placeIu v.layout v.cls (s.highestSeq v.nsid v.iu) p 2 with
  | (none, s) => s
  | (some q, s) => { s with ftl := { s.ftl with
      debt := s.ftl.debt + s.debtPerIu
      versions := s.ftl.versions.map fun (w : Version) => if w.order == v.order then { w with seq := q } else w } }

/-- Assign every whole version that waits, in arrival order; those whose tank cannot be opened stay in the sump (R27). -/
def State.assignAll (s : State) : State :=
  if s.st == stISOLATED then s else
  (s.ftl.versions.filter fun v => v.whole && v.seq == 0).foldl (fun s v => s.assign v) s.retryMeta

/-! ### Entering the sump -/

/-- The class of a host version (R263, R264): by its rewrite interval against the media version it replaces, one hotter than
a predecessor in the sump, from its hints where it is a first version. -/
def State.classOf (s : State) (nsid iu : Nat) (hint : Option Nat) : Nat :=
  match s.versionsOf nsid iu with
  | v :: _ => v.cls - 1
  | [] =>
    match Tab.find (iuKey nsid iu) s.ftl.map with
    | some (.media v) =>
      let opened := match s.tankAt v with
        | none => 0
        | some t => (s.tankOf t).openAt
      let d := s.tm.shelf - opened
      if d < s.rd Reg.FTL_HEAT_HOT_LIMIT * sec then 0
      else if d < s.rd Reg.FTL_HEAT_WARM_LIMIT * 60 * sec then 1
      else if d < s.rd Reg.FTL_HEAT2_COLD_LIMIT * 3600 * sec then 2
      else 3
    | _ => hint.getD 1

/-- Hints of a command (R264): a stream identifier, else the DSM access frequency; neither gives none. -/
def heatHint (q : Sqe) : Option Nat :=
  let stream := if q.cdw12 / 2 ^ 20 % 16 == 1 then q.cdw13 / 65536 else 0
  if 1 ≤ stream ∧ stream ≤ 16 then some ((stream - 1) / 4)
  else match q.cdw13 % 16 with
    | 4 | 5 | 8 => some 0
    | 1 => some 1
    | 2 | 3 => some 3
    | _ => none

/-- A new version takes the place of unassigned earlier versions of its IU, which are released unprogrammed (R36). -/
def State.releaseUnassigned (s : State) (nsid iu : Nat) : State :=
  s.removeVersions ((s.ftl.versions.filter fun v => v.nsid == nsid && v.iu == iu && v.seq == 0).map (·.order))

/-- Sector `k` of an IU that the map names as zeros: its protection information is that of the Write Zeroes that zeroed it (R171), whose
tags the model keeps beside the map (DESIGN CHOICE, log entry 54). -/
def State.zeroedSector (s : State) (nsid iu k : Nat) : Sector :=
  let n := s.nsOr nsid
  let t := Tab.getD (iuKey nsid iu) (0, iu * n.iuLen) s.ftl.zeroTags
  zeroSector n t.1 (n.refAt t.2 k)

/-- What a ZERO or UNMAPPED entry contributes to a composition: zeros (R256), with the protection information that a read of the LBA
returns (R170, R171). -/
def State.blankSector (s : State) (nsid iu k : Nat) : Sector :=
  if Tab.find (iuKey nsid iu) s.ftl.map == some .zero then s.zeroedSector nsid iu k
  else
    let n := s.nsOr nsid
    sectorOf (zeros 4096) (unwrittenPi n (guardOf n.lbaf (zeros 4096)))

/-- Compose an IU from its current content, as the sump keeps it, and its fragments (R256): a new whole version; the fragments leave. -/
def State.composeFrom (s : State) (nsid iu : Nat) (current : Tab Sector) : State :=
  let n := s.nsOr nsid
  let frags := s.ftl.versions.filter fun v => v.nsid == nsid && v.iu == iu && !v.whole
  match frags.getLast? with
  | none => s
  | some last =>
    let base := (List.range n.iuLen).map fun k => (k, (Tab.find k current).getD (s.seal nsid (iu * n.iuLen + k) (s.blankSector nsid iu k)))
    let content := frags.foldl (fun c f => f.sectors.foldl (fun c e => Tab.put e.1 e.2 c) c) base
    let used := (frags.map fun f => f.sectors.length).sum
    let sram := min (s.sramFree + (frags.map (·.sram)).sum) n.iuLen
    let v : Version := { last with whole := true, sectors := content, seq := 0, sram := sram,
                                   cls := last.cls }
    let s := { s with ftl := { s.ftl with versions :=
      (s.ftl.versions.filter fun (w : Version) => !(frags.any fun (f : Version) => f.order == w.order)) } }
    let older := s.ftl.versions.filter fun (w : Version) => w.nsid == nsid && w.iu == iu && w.whole && w.seq == 0
    let s := { s with ftl := { s.ftl with versions :=
      (s.ftl.versions.filter fun (w : Version) => decide (w.order < v.order)) ++ [v] ++
      (s.ftl.versions.filter fun (w : Version) => decide (v.order < w.order)) } }
    let s := (s.occupy n.iuLen).vacate used
    s.removeVersions (older.map fun (w : Version) => w.order)

/-- Do the fragments of an IU alone cover it? -/
def State.covered (s : State) (nsid iu : Nat) : Bool :=
  let frags := s.ftl.versions.filter fun v => v.nsid == nsid && v.iu == iu && !v.whole
  (List.range (s.nsOr nsid).iuLen).all fun k => frags.any fun f => Tab.has k f.sectors

/-- Slots that composing an IU takes beyond those of its fragments. -/
def State.extraSlots (s : State) (nsid iu : Nat) : Nat :=
  (s.nsOr nsid).iuLen -
    ((s.ftl.versions.filter fun v => v.nsid == nsid && v.iu == iu && !v.whole).map fun v => v.sectors.length).sum

/-- May an IU be composed now: in SERVE its slots never take occupancy above F_eff (R256, R410)? -/
def State.composable (s : State) (nsid iu : Nat) : Bool :=
  !s.serving || s.extraSlots nsid iu == 0 || decide (s.rd Reg.SUMP_OCC_OCCUPIED + s.extraSlots nsid iu ≤ s.floatSlots)

/-- One IU's part of a write enters the sump (R256, R407): a whole version, or a fragment. -/
def State.enterIu (s : State) (nsid iu : Nat) (sectors : Tab Sector) (hint : Option Nat) : State :=
  let n := s.nsOr nsid
  let whole := sectors.length == n.iuLen
  let cls := s.classOf nsid iu hint
  let s := (if whole then s.releaseUnassigned nsid iu else s).useKey nsid
  let sectors := s.sealIu nsid iu sectors
  let v : Version :=
    { nsid := nsid, iu := iu, order := s.ftl.order + 1, whole := whole, sectors := sectors, cls := cls,
      layout := s.nsLayout n, entered := s.tm.shelf, since := s.tm.mono, sram := min s.sramFree sectors.length }
  let s := { s with ftl := { s.ftl with order := v.order, versions := s.ftl.versions ++ [v] } }
  let s := (s.occupy sectors.length).clearLost nsid (iu * n.iuLen + (sectors.head?.map (·.1)).getD 0) sectors.length
  if !whole && s.covered nsid iu then s.composeFrom nsid iu [] else s

/-- Group sectors by IU: (IU, sector in the IU, content), in LBA order. -/
def groupIus (iuLen slba : Nat) (sectors : List Sector) : Tab (Tab Sector) :=
  sectors.zipIdx.foldl (fun t e =>
    let lba := slba + e.2
    Tab.upd (lba / iuLen) [] (Tab.put (lba % iuLen) e.1) t) []

/-- A write's sectors enter the sump, IU by IU (R35), and are assigned to stripes. -/
def State.enterSump (s : State) (nsid slba : Nat) (sectors : List Sector) (hint : Option Nat) : State :=
  ((groupIus (s.nsOr nsid).iuLen slba sectors).foldl (fun s e => s.enterIu nsid e.1 e.2 hint) s).assignAll

/-! ### Markers (R254, R266) -/

/-- Place a zero or unmapped marker for an IU: unassigned versions are released, the map changes after its journal record, and
the marker's SEQ is kept while versions of the IU remain in the sump. -/
def State.marker (s : State) (nsid iu : Nat) (zero : Bool) : State :=
  let n := s.nsOr nsid
  let s := s.releaseUnassigned nsid iu
  let q := s.ftl.placeSeq + 1
  let s := { s with ftl := { s.ftl with placeSeq := q } }
  let s := s.journal (.mapMark nsid iu q zero)
  let s := s.setMap nsid iu (if zero then some .zero else none)
  let s := if s.ftl.versions.any fun v => v.nsid == nsid && v.iu == iu then
      { s with ftl := { s.ftl with applied := Tab.put (iuKey nsid iu) q s.ftl.applied } } else s
  s.clearLost nsid (iu * n.iuLen) n.iuLen

/-! ### Commit (R254, R307 to R310) -/

/-- The location of a placed IU (R244): its data chunk's member, page and sector; copy 0 in a mirror. -/
def State.placedAt (s : State) (st : Stripe) (p : Placed) : Nat :=
  let tk := s.tankOf st.tank
  match tk.members[memberAt st.layout p.chunk st.index]? with
  | none => 0
  | some m => s.addr m.cistern m.die m.block (4 * st.index + p.slot / 4) (p.slot % 4)

/-- Apply one IU of a committed stripe (R254 for a version, R37 for a copy). -/
def State.applyIu (s : State) (st : Stripe) (p : Placed) : State :=
  let v := s.placedAt st p
  let k := iuKey p.nsid p.iu
  match p.src with
  | .sump o =>
    if !(s.nsOf p.nsid).isSome then s.removeVersions [o]
    else if st.seq < s.appliedSeq k then (s.count Reg.FTL_CNT_SUPERSEDED).removeVersions [o]
    else
      let s := s.journal (.mapSet p.nsid p.iu v false)
      let s := s.setMap p.nsid p.iu (some (.media v))
      let s := { s with ftl := { s.ftl with applied := Tab.put k st.seq s.ftl.applied } }
      s.removeVersions [o]
  | .copy src _ =>
    if !(s.nsOf p.nsid).any s.owns && (s.nsOf p.nsid).isSome then
      s.toPartner (.copyMap p.nsid p.iu src v)
    else if Tab.find k s.ftl.map == some (.media src) then
      let s := if st.cls == 4 || st.cls == 5 then { s with ftl := { s.ftl with debt := s.ftl.debt - 1000 } } else s
      ((s.journal (.mapSet p.nsid p.iu v true)).setMap p.nsid p.iu (some (.media v))).count Reg.FTL_CNT_COPY_IU_4K p.len
    else s.count Reg.FTL_CNT_COPY_SKIPPED

/-- Do commits wait: the journal or the commit ring has no room for the stripe (R251, R308), or a save has begun (Table 15.1 step 2)? -/
def State.commitWaits (s : State) (st : Stripe) : Bool :=
  decide (s.ringCapacity ≤ s.ftl.ring.length) || s.journalFull (40 * st.ius.length) || s.sump.save.isSome || s.sump.saved.isSome

/-- Tanks holding a degraded or critical stripe (Table 11.10); a first stripe without redundancy degrades reliability (Table 6.7). -/
def State.showRedundancy (s : State) : State :=
  let was := s.unreliable
  let used := fun (tk : Tank) => tk.st == tkOpen || tk.st == tkFull || tk.st == tkDraw
  let s := s.wr Reg.PAR_REDUNDANCY0_DEGRADED (s.ftl.tanks.countE fun _ tk => used tk && s.holdsDegraded tk)
  let s := s.wr Reg.PAR_REDUNDANCY1_CRITICAL_TANKS (s.ftl.tanks.countE fun _ tk => used tk && s.holdsCritical tk)
  let bare := s.ftl.tanks.any fun e => used e.2 && (s.lacks e.2).any fun n => decide (0 < n ∧ layRedundancy e.2.layout ≤ n)
  ({ s with ftl := { s.ftl with exposed := bare } }).reliability was

/-- A tank that has committed its last stripe becomes FULL (Table 9.6). -/
def State.fillTank (s : State) (t : Nat) : State :=
  let tk := s.tankOf t
  if tk.st == tkOpen && s.tankStripes ≤ tk.stripes then
    let s := s.updTank t fun tk =>
      { tk with st := tkFull, fullAt := s.tm.shelf
                members := tk.members.map fun (m : TankMember) => { m with tempFull := s.temp m.cistern } }
    (s.journalTank t tkFull).showTanks
  else s

/-- Begin to flush the journal to the map store (R249): every record now in it, as one level-0 run; the SEQ covered is the
highest below which no stripe is still under assembly or uncommitted. -/
def State.beginFlush (s : State) : State :=
  if s.ftl.flushing.isSome || s.ftl.journal.isEmpty || !s.begins .ftl then s
  else
    let first := ((s.ftl.asm.map fun e => e.2.seq) ++ (s.ftl.fly.map fun e => e.1)).foldl min (s.ftl.placeSeq + 1)
    ({ s with ftl := { s.ftl with flushing := some (s.ftl.journal.length, first - 1, false) } }).writeMeta .delta

/-- CKPT_MAX as it governs the next checkpoint: a commit that lowers it takes effect from the one after (R276). -/
def State.ckptMax (s : State) : Nat := s.ftl.ckptHold.getD (s.rd Reg.FTL_CKPT_CKPT_MAX)

/-- The triggers of R249 that follow from how much waits: half of the journal area, half of the commit ring. -/
def State.checkpointIfFull (s : State) : State :=
  if s.journalArea ≤ 2 * s.journalBytes || s.ringCapacity ≤ 2 * s.ftl.ring.length then s.beginFlush else s

/-- Segments that map records touch. -/
def segsOf (l : List JRec) : List (Nat × Nat) :=
  (l.filterMap fun r => match r with
    | .mapSet n iu _ _ => some (n, segOf iu)
    | .mapMark n iu _ _ => some (n, segOf iu)
    | _ => none).eraseDups

/-- Enter a run into the index. -/
def State.addRun (s : State) (r : Run) : State :=
  { s with ftl := { s.ftl with nextRun := s.ftl.nextRun + 1, runs := Tab.put s.ftl.nextRun r s.ftl.runs } }

/-- A map record applied to the map that the map store holds. -/
def storeRecord (t : Tab MapVal) (r : JRec) : Tab MapVal :=
  match r with
  | .mapSet n iu v _ => Tab.put (iuKey n iu) (.media v) t
  | .mapMark n iu _ zero => if zero then Tab.put (iuKey n iu) .zero t else Tab.del (iuKey n iu) t
  | _ => t

/-- What a durable META stripe changes: the delta run is durable, and with it go the segment directory, the block table's erase counts and the lost-stripe list; merged runs
give way to one of the next level; runs whose every segment has a later base copy are discarded; a run, a base copy or the directory has its new copies (R249, R250, R279, R311). -/
def State.metaEffect (s : State) (use : MetaUse) (copies : List Nat) : State :=
  match use with
  | .delta =>
    match s.ftl.flushing with
    | none => s
    | some (n, q, _) =>
      ({ s with ftl := { s.ftl with
        flushing := some (n, q, true), dirCopies := copies, ckptLost := s.ftl.lost
        ckptMap := (s.ftl.journal.take n).foldl storeRecord s.ftl.ckptMap
        ckptPe := s.ftl.blocks.map fun (e : Nat × Blk) => (e.1, e.2.pe) } }).addRun
        { level := 0, copies := copies, segs := segsOf (s.ftl.journal.take n) }
  | .merge l =>
    let old := (s.ftl.runs.filter fun e => e.2.level == l).take 16
    let keys := old.map (·.1)
    ({ s with ftl := { s.ftl with runs := s.ftl.runs.filter fun (e : Nat × Run) => !keys.contains e.1 } }).addRun
      { level := l + 1, copies := copies, segs := (old.flatMap fun (e : Nat × Run) => e.2.segs).eraseDups }
  | .base n g =>
    let runs := (s.ftl.runs.map fun (e : Nat × Run) => (e.1, { e.2 with segs := e.2.segs.filter (· != (n, g)) })).filter
      fun (e : Nat × Run) => !e.2.segs.isEmpty
    let segs := Tab.upd n {} (fun (x : Segs) =>
      { x with rotated := Tab.put g s.tm.mono x.rotated, homes := Tab.put g copies x.homes }) s.ftl.segs
    { s with ftl := { s.ftl with runs := runs, segs := segs } }
  | .recopy k => { s with ftl := { s.ftl with runs := Tab.updIf k (fun r => { r with copies := copies }) s.ftl.runs } }
  | .directory => { s with ftl := { s.ftl with dirCopies := copies } }

/-- A META stripe has committed: what it was written for is done, and copies of runs that are gone need no renewal. -/
def State.metaDurable (s : State) (st : Stripe) : State :=
  match Tab.find st.seq s.ftl.metaUse with
  | none => s
  | some use =>
    let t : State := { s with ftl := { s.ftl with metaUse := Tab.del st.seq s.ftl.metaUse } }
    let s := t.metaEffect use ((s.tankOf st.tank).members.map fun (m : TankMember) => m.cistern)
    { s with ftl := { s.ftl with metaRedo := s.ftl.metaRedo.filter fun u => u != use && (match u with
      | .recopy k => Tab.has k s.ftl.runs
      | _ => true) } }

/-- The share of what recovery places again that lies in committed stripes, in thousandths (R91, Table 3.6). -/
def State.showRecovery (s : State) : State :=
  if s.st != stRECOVER || s.prim.toPlace == 0 then s
  else s.wr Reg.GLB_PRIME_PROGRESS (1000 * (s.prim.toPlace - min s.prim.toPlace s.ftl.versions.length) / s.prim.toPlace)

/-- The commit record of a stripe (Table 11.3): its copies that failed, its class, side and RESYNC, and the epoch. -/
def State.commitRecord (s : State) (st : Stripe) : JRec :=
  .stripeCommit st.seq st.tank st.index st.layout st.missing st.cls (s.side + (if st.resync then 2 else 0))
    (((s.tankOf st.tank).members.head?.map fun m => Tab.getD m.cistern 0 s.pod.epochs).getD 0)

/-- Commit a stripe: the record, its IUs, the counts; a degraded commit closes its tank short and lists it urgent (R310). -/
def State.commitStripe (s : State) (st : Stripe) : State :=
  let s := { s with ftl := { s.ftl with
    fly := Tab.del st.seq s.ftl.fly
    ring := s.ftl.ring ++ [(s.ftl.ringSeq, s.commitRecord st)], ringSeq := s.ftl.ringSeq + 1 } }
  let s := if s.dual then s.toPartner (.mirror { records := [s.commitRecord st], seq := st.seq }) else s
  let s := s.updTank st.tank fun tk =>
    { tk with stripes := tk.stripes + 1, lastStripe := s.tm.mono, orphans := tk.orphans.filter (· != st.index)
              missing := if st.missing.isEmpty then tk.missing else Tab.put st.index st.missing tk.missing }
  let s := s.count Reg.FTL_CNT_STRIPES_COMMITTED
  let s := st.ius.foldl (fun s p => s.applyIu st p) s
  let s := if s.dual && !st.orders.isEmpty then s.toPartner (.mirror { released := st.orders, seq := st.seq }) else s
  let s := if st.cls == clsMeta then s.metaDurable st else s
  let s := if st.missing.isEmpty then s.fillTank st.tank
    else (((s.count Reg.PAR_CNT_STRIPES_DEGRADED).closeShort st.tank).refreshAdd st.tank true).showRedundancy
  s.showRecovery.assignAll.checkpointIfFull

/-- Do not commit a stripe (R309): host versions are placed again, but for superseded ones, which are released (R36); copies are read
again from their sources. -/
def State.abandonStripe (s : State) (st : Stripe) : State :=
  let s := ({ s with ftl := { s.ftl with fly := Tab.del st.seq s.ftl.fly } }).unassign st.orders
  let s := s.closeShort st.tank
  let s := match Tab.find st.seq s.ftl.metaUse with
    | none => s
    | some u => ({ s with ftl := { s.ftl with
        metaUse := Tab.del st.seq s.ftl.metaUse
        metaRedo := if s.ftl.metaRedo.contains u then s.ftl.metaRedo else s.ftl.metaRedo ++ [u] } }).writeMeta u
  s.assignAll

/-- Have all of a stripe's positions answered? -/
def Stripe.settled (st : Stripe) : Bool :=
  (List.range (layMembers st.layout)).all fun p => st.acked.contains p || st.missing.contains p

/-- Settle a stripe whose positions have all answered, some missing (Table 11.4): degraded while redundancy of at least 1
remains, else re-placed. A META stripe with any failure is written again. -/
def State.settleShort (s : State) (st : Stripe) : State :=
  if st.cls == clsMeta || layRedundancy st.layout ≤ st.missing.length then
    (s.count Reg.PAR_CNT_STRIPES_REPLACED).abandonStripe st
  else if s.commitWaits st then s
  else s.commitStripe st

/-- A position of a stripe being programmed has failed without a program failure (R227, R309). -/
def State.copyFailed (s : State) (seq pos : Nat) : State :=
  match Tab.find seq s.ftl.fly with
  | none => s
  | some st =>
    if st.acked.contains pos || st.missing.contains pos then s
    else
      let st := { st with missing := pos :: st.missing }
      let s := { s with ftl := { s.ftl with fly := Tab.put seq st s.ftl.fly } }
      if st.settled then s.settleShort st else s

end Sys2Proof.Machine
end

