-- ==== Sys2Proof/Machine/Reads.lean ====
section
/-! DEFINITION. Media reads: thresholds and retry steps (R289-R292), direct reads and reconstruction (R31, R32, R303, R305,
R306, R347, R348), what a read that fails does (R284, R287, R321), and where its sectors go: to a host command, into a
composed IU (R256), or into a copy (R269, R270). -/

namespace Sys2Proof.Machine

/-! ### Thresholds (R289 to R293, Table 10.2) -/

/-- Counts and starts of THRESHOLD_TABLE. -/
def State.thrNA (s : State) : Nat := leAt s.params.thr 2 1
def State.thrNT (s : State) : Nat := leAt s.params.thr 3 1
def State.thrNE (s : State) : Nat := leAt s.params.thr 4 1
def State.thrNR (s : State) : Nat := leAt s.params.thr 6 1
def State.thrTemp (s : State) : Nat := 8 + 4 * (s.thrNA - 1)
def State.thrPe (s : State) : Nat := s.thrTemp + (s.thrNT - 1)
def State.thrEntry (s : State) : Nat := (s.thrPe + 2 * (s.thrNE - 1) + 3) / 4 * 4
def State.thrRetry (s : State) : Nat := s.thrEntry + 16 * s.thrNA * s.thrNT * s.thrNE

/-- Fifteen signed offsets. -/
def State.thrOffsets (s : State) (o : Nat) : List Int :=
  (List.range 15).map fun i => signed8 (BitVec.ofNat 8 (leAt s.params.thr (o + i) 1))

/-- Media time: shelf time, or, until TIME locks, the time recorded before the reset and what has passed since (R290). -/
def State.mediaNow (s : State) : Nat :=
  if s.is Reg.FTL_MEDIA_STATUS_AGE_ESTIMATED then s.tm.mediaBase + (s.tm.mono - s.tm.baseAt) else s.tm.shelf

/-- A member's age in whole seconds: media time less the write time, the mean of the OPEN and FULL times (R289). -/
def State.memberAge (s : State) (tk : Tank) : Nat :=
  (2 * s.mediaNow - (if tk.st == tkOpen then 2 * tk.openAt else tk.openAt + tk.fullAt)) / (2 * sec)

/-- Twice a member's write temperature (R289). -/
def memberTemp2 (tk : Tank) (m : TankMember) : Int :=
  if tk.st == tkOpen then 2 * m.tempOpen else m.tempOpen + m.tempFull

/-- Entry of the table for a member (R291). -/
def State.thrIndex (s : State) (tk : Tank) (m : TankMember) : Nat :=
  let age := s.memberAge tk
  let dt2 := 2 * s.temp m.cistern - memberTemp2 tk m
  let pe := if s.params.peLimit == 0 then 0 else 1000 * (s.blkOf m.key).pe / s.params.peLimit
  let a := (List.range (s.thrNA - 1)).countP fun i => decide (leAt s.params.thr (8 + 4 * i) 4 ≤ age)
  let t := (List.range (s.thrNT - 1)).countP fun i =>
    decide (2 * signed8 (BitVec.ofNat 8 (leAt s.params.thr (s.thrTemp + i) 1)) ≤ dt2)
  let p := (List.range (s.thrNE - 1)).countP fun i => decide (leAt s.params.thr (s.thrPe + 2 * i) 2 ≤ pe)
  (a * s.thrNT + t) * s.thrNE + p

/-- PRED of a member's entry (R293, R295). -/
def State.thrPred (s : State) (tk : Tank) (m : TankMember) : Nat :=
  leAt s.params.thr (s.thrEntry + 16 * s.thrIndex tk m + 15) 1

/-- Offsets of retry step `k` for a member (R291): step 0 the entry's, later steps the retry record's, added or instead. -/
def State.offsetsFor (s : State) (tk : Tank) (m : TankMember) (k : Nat) : List Int :=
  let e := s.thrOffsets (s.thrEntry + 16 * s.thrIndex tk m)
  if k == 0 then e
  else
    let o := s.thrRetry + 16 * (k - 1)
    let r := s.thrOffsets o
    if leAt s.params.thr (o + 15) 1 % 2 == 1 then List.zipWith (· + ·) e r else r

/-! ### Where a location's stripe lies -/

/-- Do windows keep reads off the die (R347, R348)? -/
def State.drawn (s : State) (m : TankMember) : Bool := s.coordinated && s.inDraw m.cistern m.die

/-- The member of a tank that holds a location. -/
def Tank.memberIdx (tk : Tank) (l : Loc) : Nat :=
  tk.members.findIdx fun m => m.cistern == l.cistern && m.die == l.die && m.block == l.block

/-- Stripe index of a location. -/
def Loc.stripe (l : Loc) : Nat := l.page / 4

/-- The member at a position of a stripe. -/
def Tank.atPos (tk : Tank) (i pos : Nat) : Option TankMember := tk.members[memberAt tk.layout pos i]?

/-- The position that a job's location has in its stripe. -/
def State.jobPos (s : State) (j : Job) : Nat :=
  let l := s.loc j.v
  let tk := s.tankOf j.tank
  posOf tk.layout (tk.memberIdx l) l.stripe

/-- The positions that may serve as sources, quiet data first, then quiet parity, then those in draw-down (R305); not the
lost position, an absent cistern's, or one in MISSING (R303). -/
def State.sources (s : State) (j : Job) : List Nat :=
  let l := s.loc j.v
  let tk := s.tankOf j.tank
  let lost := s.jobPos j
  let missing := Tab.getD l.stripe [] tk.missing
  let ok := (List.range (layMembers tk.layout)).filter fun p =>
    p != lost && !missing.contains p && (tk.atPos l.stripe p).any fun m => s.readable m.cistern
  let quiet := fun p => (tk.atPos l.stripe p).any fun m => !s.drawn m
  ok.filter quiet ++ ok.filter fun p => !quiet p

/-- Sources a reconstruction needs: D, or one copy. -/
def Tank.need (tk : Tank) : Nat := layData tk.layout

/-- Do the members in quiet suffice to reconstruct? -/
def State.quietEnough (s : State) (j : Job) : Bool :=
  let l := s.loc j.v
  let tk := s.tankOf j.tank
  decide (tk.need ≤ (s.sources j).countP fun p => (tk.atPos l.stripe p).any fun m => !s.drawn m)

/-! ### Jobs -/

def State.jobOf (s : State) (k : Nat) : Option Job := Tab.find k s.ftl.jobs

/-- Is it a copy read? -/
def Job.isCopy (j : Job) : Bool :=
  match j.use with
  | .copy _ => true
  | _ => false

def State.updJob (s : State) (k : Nat) (f : Job → Job) : State :=
  { s with ftl := { s.ftl with jobs := Tab.updIf k f s.ftl.jobs } }

/-- The member whose chunk a job of rebuild obtains (R318). -/
def Job.rebuilds (j : Job) : Option Nat :=
  match j.use with
  | .rebuild m => some m
  | _ => none

/-- Is a job queued at the priority of host reads: a host's, or that of rebuild of a critical tank (R320)? -/
def State.atHostPrio (s : State) (j : Job) : Bool :=
  match j.use with
  | .host _ _ => true
  | .rebuild _ => s.holdsCritical (s.tankOf j.tank)
  | _ => false

/-- Ask a position of a job's stripe for the wanted sectors at its retry step (R291, R365); rebuild reads whole chunks. -/
def State.askPos (s : State) (k pos : Nat) : State :=
  match s.jobOf k with
  | none => s
  | some j =>
    let l := s.loc j.v
    let tk := s.tankOf j.tank
    match tk.atPos l.stripe pos with
    | none => s
    | some m =>
      let whole := j.rebuilds.isSome
      let mask := if whole then 15 else (j.want.map fun w => 2 ^ (l.sector + w)).sum
      s.issue m.cistern
        { opcode := opRead, die := m.die, block := m.block, page := l.page, mask := mask, count := if whole then 4 else 1
          at_ := 0, timeout := 0, prio := s.atHostPrio j
          offsets := s.offsetsFor tk m (Tab.getD pos 0 j.steps), use := .read k pos }

/-- Sectors that a position has given, by index in `want`: readable and with a passing check. -/
def Job.goodAt (j : Job) (pos i : Nat) : Bool :=
  match Tab.find pos j.parts with
  | none => false
  | some l => (l[i]?).any fun x => x.good

/-- Rows of the job (indices in `want`) that it has not obtained. -/
def Job.open (j : Job) : List Nat := (List.range j.want.length).filter fun i => !Tab.has (j.want.getD i 0) j.got

/-- Good sources of a row. -/
def Job.have (j : Job) (i : Nat) : Nat := j.asked.countP fun p => j.goodAt p i

/-- A namespace's decryption of a stored sector of an LBA (R438). -/
def State.plain (s : State) (nsid lba : Nat) (stored : List Byte) : List Byte :=
  s.xts (s.nsOr nsid).keySlot nsid lba true (stored.take 4096)

/-- A stored sector as the controller holds it: decrypted, with its protection information. -/
def State.taken (s : State) (nsid lba : Nat) (stored : List Byte) : Sector :=
  sectorOf (s.plain nsid lba stored) ((stored.drop 4096).take (metaBytes (s.nsOr nsid).lbaf))

/-- The sector check (R22, R31): a CRC-32C that is the header's passes; the inverted one marks a poisoned sector (R257). -/
def crcCheck (x : SectorIn) (bytes : List Byte) : Part :=
  let good := crc32c bytes == x.crc.toNat
  let poison := crc32c bytes == invertCrc x.crc.toNat
  { stored := x.stored, crc := x.crc.toNat, desc := x.desc, good := good, poison := poison, wrong := !good && !poison }

/-- NSID and LBA of a sector by its IU descriptor (R242); `k` is its place in the page. -/
def State.described (s : State) (desc : W64) (k : Nat) : Nat × Nat :=
  let nsid := desc.toNat % 2 ^ 13
  (nsid, desc.toNat / 2 ^ 16 + (if (s.nsOr nsid).iu16 then k else 0))

/-- The check of a source of a reconstruction (R306): a data slot's CRC after decryption, where it is described and its namespace's key
slot still exists, and the bridge's report otherwise; parity over the stored bytes. -/
def State.sourceCheck (s : State) (parity : Bool) (k : Nat) (x : SectorIn) : Part :=
  let d := s.described x.desc k
  if parity then crcCheck x x.stored
  else if d.1 == 0 || !(s.nsOf d.1).any (fun n => s.keyLoaded n.keySlot keyXts256) then { stored := x.stored, crc := x.crc.toNat, desc := x.desc, good := true }
  else crcCheck x (s.plain d.1 d.2 x.stored)

/-- The check of the target's own sector (R31, R288): its CRC-32C after decryption and, for a host command, its protection
information. -/
def State.targetCheck (s : State) (j : Job) (w : Nat) (x : SectorIn) : Part :=
  let lba := j.iu * (s.nsOr j.nsid).iuLen + w
  let p := crcCheck x (s.plain j.nsid lba x.stored)
  match j.use with
  | .host id slba => (match s.cmdOf id with
    | some c =>
      let y := s.taken j.nsid lba x.stored
      { p with good := p.good && (piCheck (s.nsOr j.nsid) c.sqe (lba - slba) y.data y.pi).isNone }
    | none => p)
  | _ => p

/-- The sectors that a position of a job's stripe has given, checked (R31, R306). -/
def State.judge (s : State) (k pos : Nat) (l : List SectorIn) : List Part :=
  match s.jobOf k with
  | none => []
  | some j =>
    let layout := (s.tankOf j.tank).layout
    l.zipIdx.map fun e =>
      let w := j.want.getD e.2 0
      if j.recon || j.rebuilds.isSome then
        s.sourceCheck (!layMirror layout && decide (layData layout ≤ pos)) (((s.loc j.v).sector + w) % 4) e.1
      else s.targetCheck j w e.1

/-- Count an event of a slot's extended entry (Table 10.5), by the offset of its field. -/
def State.slotCount (s : State) (c off : Nat) (n : Nat := 1) : State :=
  { s with ftl := { s.ftl with slots := Tab.upd c [] (Tab.upd off 0 (· + n)) s.ftl.slots } }

/-- Answer the partner's RELEASE of a tank once no read of this side holds it (R472). -/
def State.answerRelease (s : State) (t : Nat) : State :=
  let tk := s.tankOf t
  if !tk.releaseAsked || tk.readers != 0 then s
  else (s.toPartner (.released t)).updTank t fun tk => { tk with releaseAsked := false }

/-- End a read of a tank (R272). -/
def State.leaveTank (s : State) (t : Nat) : State :=
  (s.updTank t fun tk => { tk with readers := tk.readers - 1 }).answerRelease t

/-! ### Where the sectors go -/

/-- The check of a command's protection information on its sector at an LBA offset (R168). -/
def State.piOf (s : State) (c : Cmd) (k : Nat) (x : Sector) : Option Nat := piCheck (s.nsOr c.sqe.nsid) c.sqe k x.data x.pi

/-- Sectors of a host command are obtained: those of a Read that are good, and whose protection information passes, are released to the
host at once (R31). -/
def State.hostGive (s : State) (id : Nat) (got : Tab Sector) : State :=
  match s.cmdOf id with
  | none => s
  | some c =>
    let fresh := got.filter fun e => !Tab.has e.1 c.got
    let s := s.updCmd id fun c => { c with got := fresh.foldl (fun t e => Tab.put e.1 e.2 t) c.got }
    if c.sqe.opcode != 0x02 then s
    else
      let good := fresh.filter fun e => e.2.good && (s.piOf c e.1 e.2).isNone
      s.sendData id (good.map fun e => (e.1, e.2.onWire (s.nsOr c.sqe.nsid) c.sqe))

/-- Does a Compare's data equal what is stored, with the protection information that PRCHK asks for (R167)? -/
def State.compares (s : State) (c : Cmd) : Bool :=
  let n := s.nsOr c.sqe.nsid
  let wire := wireBytes n c.sqe
  c.got.all fun e =>
    let mine := slice ((c.buf.map (·.2)).flatten) (e.1 * wire) wire
    mine.take 4096 == e.2.data && (piStripped n c.sqe || piAgrees n c.sqe e.2.pi (mine.drop 4096))

/-- A host command has every sector: it completes; a Compare compares, a Verify only checks. A sector that stays unreadable gives
Unrecovered Read Error, else the first check of protection information that fails gives its status (R31, R168, Table 6.9). -/
def State.hostReadDone (s : State) (id : Nat) : State :=
  match s.cmdOf id with
  | none => s
  | some c =>
    let bad := c.got.any fun e => !e.2.good
    let pi := c.got.findSome? fun e => if e.2.good then s.piOf c e.1 e.2 else none
    let s := if pi.isSome then s.tileEvent c.pump evPiError else s
    (s.finish id (if bad then nvUnrecovered else match pi with
      | some st => st
      | none => if c.sqe.opcode == 0x05 && !s.compares c then nvCompare else nvOk)).movesGoOn

/-- Sectors of a host command are in; with the last of them it completes. -/
def State.hostPart (s : State) (id : Nat) (got : Tab Sector) : State :=
  let s := s.hostGive id got
  match s.cmdOf id with
  | none => s
  | some c => if (List.range c.sqe.nlb).all fun k => Tab.has k c.got then s.hostReadDone id else s

/-- Class of a copy (Table 9.5). -/
def copyClass (kind : DrawKind) (source : Nat) : Nat :=
  match kind with
  | .refresh => 6
  | .level => 7
  | .draw => if source == 0 || source == 1 || source == 4 then 4 else 5

/-- Put a copied IU into the stripe of its class (R269, R270); where no tank can be opened it is read again later. -/
def State.placeCopy (s : State) (j : Job) (kind : DrawKind) (got : Tab Sector) : State :=
  let n := s.nsOr j.nsid
  let tk := s.tankOf j.tank
  let p : Placed :=
    { nsid := j.nsid, iu := j.iu, iu16 := n.iu16, chunk := 0, slot := 0, src := .copy j.v j.tank
      sectors := (List.range n.iuLen).map fun k => s.seal j.nsid (j.iu * n.iuLen + k) (Tab.getD k poisonSector got) }
  (s.placeIu tk.layout (copyClass kind tk.cls) 0 p 2).2

/-- The media read of a composition is in (R256): the current content is the newest whole version, where one has entered meanwhile, or
what a marker has left; where a newer location has been applied the composition begins again, else it is what was read. Without room
below F_eff the fragments stay. -/
def State.composeRead (s : State) (j : Job) (got : Tab Sector) : State :=
  let k := iuKey j.nsid j.iu
  if !s.composable j.nsid j.iu then s else match (s.versionsOf j.nsid j.iu).find? (·.whole) with
  | some v => (s.composeFrom j.nsid j.iu v.sectors).assignAll
  | none => match Tab.find k s.ftl.map with
    | some (.media _) =>
      if s.appliedSeq k == j.applied then (s.composeFrom j.nsid j.iu (s.sealIu j.nsid j.iu got)).assignAll
      else { s with ftl := { s.ftl with redo := s.ftl.redo ++ [(j.nsid, j.iu)] } }
    | _ => (s.composeFrom j.nsid j.iu []).assignAll

/-! ### Rebuild of a chunk (R317, R318) -/

/-- The IU that the sweep, or else the map, names at a location. -/
def State.sweptIu (s : State) (v : Nat) : Option (Nat × Nat) :=
  (Tab.find v s.ftl.found).or ((s.ftl.map.find? fun e => e.2 == .media v).map fun e => (e.1 / 2 ^ 48, e.1 % 2 ^ 48))

/-- The IU in which sector `w` of the chunk at a location lies, and the sector of it. -/
def State.sweptAt (s : State) (l : Loc) (w : Nat) : Option ((Nat × Nat) × Nat) :=
  let at_ (k : Nat) : Option (Nat × Nat) := s.sweptIu (s.addr l.cistern l.die l.block (l.page + w / 4) k)
  match at_ 0 with
  | some x => if (s.nsOr x.1).iu16 then some (x, w % 4) else (at_ (w % 4)).map fun y => (y, 0)
  | none => (at_ (w % 4)).map fun y => (y, 0)

/-- What the target's own chunk has given of row `w`, where its page has been read. -/
def State.ownPart (s : State) (j : Job) (w : Nat) : Option Part :=
  ((Tab.getD (s.jobPos j) [] j.parts)[w]?).bind fun x => if x.stored.isEmpty then none else some x

/-- Does a job's location lie in a parity chunk? -/
def State.inParity (s : State) (j : Job) : Bool :=
  let layout := (s.tankOf j.tank).layout
  !layMirror layout && decide (layData layout ≤ s.jobPos j)

/-- The IU descriptor of row `w` of the target chunk (R317): as its own header has it, or by what the sweep has found; 0 where there is no
IU. -/
def State.rowDesc (s : State) (j : Job) (w : Nat) : W64 :=
  if s.inParity j then 0
  else match s.ownPart j w with
    | some x => x.desc
    | none => match s.sweptAt (s.loc j.v) w with
      | none => 0
      | some (x, _) => BitVec.ofNat 64 (x.1 + (if decide (4 ≤ (s.tankOf j.tank).cls ∧ (s.tankOf j.tank).cls ≤ 7) then 2 ^ 13 else 0) +
          2 ^ 16 * (x.2 * (s.nsOr x.1).iuLen))

/-- SECTOR_CRC of stored bytes at row `w` of the target chunk (R317): after decryption for a described slot, over the stored bytes for another. -/
def State.rowCrc (s : State) (j : Job) (w : Nat) (stored : List Byte) : Nat :=
  let d := s.described (s.rowDesc j w) (w % 4)
  crc32c (if d.1 == 0 then stored else s.plain d.1 d.2 stored)

/-- A stored sector that a job has obtained: rebuild keeps the stored bytes. -/
def State.takenBy (s : State) (j : Job) (w : Nat) (stored : List Byte) : Sector :=
  if j.rebuilds.isSome then { data := stored, crc := s.rowCrc j w stored }
  else s.taken j.nsid (j.iu * (s.nsOr j.nsid).iuLen + w) stored

/-- Row `w` of a rebuilt chunk (R317, R318): as the target itself, or a surviving copy of a mirror, holds it; else as it was reconstructed;
a lost row is zeros with its SECTOR_CRC inverted. -/
def State.rebuiltRow (s : State) (j : Job) (got : Tab Sector) (w : Nat) : Part :=
  let copy := if layMirror (s.tankOf j.tank).layout then
      j.asked.findSome? fun p => ((Tab.getD p [] j.parts)[w]?).bind fun x => if x.good then some x else none
    else none
  match (s.ownPart j w).filter fun x => x.good || x.poison, copy with
  | some x, _ => x
  | none, some x => x
  | none, none =>
    let x := Tab.getD w poisonSector got
    let b := if x.good then x.data else zeros 4096
    let c := s.rowCrc j w b
    { stored := b, desc := s.rowDesc j w, crc := if x.good then c else invertCrc c, good := x.good }

/-- IU_DESC and SECTOR_CRC of a header from its sixteen sectors' descriptors and CRCs (Table 9.1): a chunk of 16 KiB IUs has one descriptor
for each page. -/
def headerBack (iu16 : Bool) (descs crcs : List Nat) : List Byte :=
  ((List.range 16).flatMap fun k => leBytes 8 (if iu16 then (if k < 4 then descs.getD (4 * k) 0 else 0) else descs.getD k 0)) ++
    crcs.flatMap fun c => leBytes 4 c

/-- Does a chunk's header pass HDR_CRC (R241): its fields before HDR_CRC and that word as read, and what its sectors bring of the rest? -/
def headerGood (front : List Byte) (xs : List SectorIn) : Bool :=
  front.length == 64 && xs.length == 16 &&
    leAt front 0x3C 4 == crc32c (front.take 0x3C ++ headerBack (leAt front 3 1 / 2 % 2 == 1) (xs.map fun x => x.desc.toNat) (xs.map fun x => x.crc.toNat))

/-- The fields of a rebuilt chunk's header before HDR_CRC (R317): those of a surviving member, with POS and FLAGS of its own; where no member's
header could be read, what no table tells of the stripe (SEQ, WTIME, EPOCH, CKPT_SEQ) is free. -/
def State.rebuiltFront (s : State) (front : List Byte) (t i pos : Nat) (iu16 : Bool) : List Byte :=
  let tk := s.tankOf t
  let free := leBytes 28 (s.freeVal 224)
  let base := if front.isEmpty then
      leBytes 4 1 ++ leBytes 4 t ++ free.take 8 ++ leBytes 2 tk.layout ++ leBytes 2 i ++ leBytes 1 tk.cls ++ leBytes 1 s.side ++
        zeros 2 ++ free.drop 8 ++ zeros 16
    else front.take 0x3C
  let parity := !layMirror tk.layout && decide (layData tk.layout ≤ pos)
  base.take 2 ++ leBytes 1 pos ++ leBytes 1 ((if parity then 1 else 0) + (if !parity && iu16 then 2 else 0) +
    (if layMirror tk.layout then 4 else 0) + (if tk.cls == clsMeta then 8 else 0)) ++ base.drop 4

/-- A rebuilt chunk's header. -/
def State.rebuiltHeader (s : State) (front : List Byte) (t i pos : Nat) (rows : List Part) : List Byte :=
  let iu16 := rows.any fun x => x.desc.toNat % 2 ^ 13 != 0 && (s.nsOr (x.desc.toNat % 2 ^ 13)).iu16
  headerBytes (s.rebuiltFront front t i pos iu16) (headerBack iu16 (rows.map fun x => x.desc.toNat) (rows.map (·.crc)))

/-- Program the chunks obtained for the stripe at hand, each on its substitute block at the pages of the block that it replaces. -/
def State.programSubst (s : State) (u : Subst) : State :=
  let layout := (s.tankOf u.tank).layout
  (u.swaps.foldl (fun (s : State) w =>
    let c := Tab.getD w.1 ([], []) u.chunks
    s.issueWrite (blkCistern w.2.2)
      { opcode := opProgram, die := w.2.2 / 2 ^ 20 % 256, block := w.2.2 % 2 ^ 20, page := 4 * u.stripe, mask := 15, count := 4
        at_ := 0, timeout := 0, header := s.rebuiltHeader c.1 u.tank u.stripe (posOf layout w.1 u.stripe) c.2
        payload := c.2.map (·.stored), use := .subst u.tank u.stripe w.1 }) s).freeNext

/-- A departing member's chunk has been obtained; with the last of the stripe's they are programmed. -/
def State.rebuildIn (s : State) (j : Job) (m : Nat) (got : Tab Sector) : State :=
  match s.ftl.subst with
  | none => s
  | some u =>
    if u.tank != j.tank || u.stripe != (s.loc j.v).stripe then s
    else
      let u := { u with chunks := Tab.put m (j.front, (List.range 16).map (s.rebuiltRow j got)) u.chunks }
      let s := { s with ftl := { s.ftl with subst := some u } }
      if u.swaps.all fun w => Tab.has w.1 u.chunks then s.programSubst u else s

/-- A job's sectors are in: it ends, and its use takes them. -/
def State.endJob (s : State) (k : Nat) (j : Job) (got : Tab Sector) : State :=
  let s := { s with ftl := { s.ftl with jobs := Tab.del k s.ftl.jobs } }
  let s := s.leaveTank j.tank
  let s := s.touchSeg j.nsid j.iu false
  match j.use with
  | .host id slba =>
    let n := s.nsOr j.nsid
    s.hostPart id (got.map fun (e : Nat × Sector) => (j.iu * n.iuLen + e.1 - slba, e.2))
  | .compose => s.composeRead j got
  | .copy kind => s.placeCopy j kind got
  | .rebuild m => s.rebuildIn j m got

/-- Sectors of a tank that map entries name in some rows (stripe and index in the chunk), on members that are gone there:
(NSID, LBA, stripe). -/
def State.namedInRows (s : State) (t : Nat) (rows : List (Nat × Nat)) (gone : Loc → Bool) : List (Nat × Nat × Nat) :=
  s.ftl.map.flatMap fun e => match e.2 with
    | .zero => []
    | .media v =>
      let l := s.loc v
      if s.tankAt v != some t || !gone l then []
      else
        let n := s.nsOr (e.1 / 2 ^ 48)
        (List.range n.iuLen).filterMap fun k =>
          if rows.contains (l.stripe, l.page % 4 * 4 + l.sector + k) then
            some (e.1 / 2 ^ 48, e.1 % 2 ^ 48 * n.iuLen + k, l.stripe) else none

/-- Is a position an erasure of a row of the job (R303): not a source, or asked without a good sector? -/
def State.erasedAt (s : State) (j : Job) (i pos : Nat) : Bool :=
  !(s.sources j).contains pos || (j.asked.contains pos && !j.goodAt pos i)

/-- Rows that stay unreadable (R31, R287, R321): a read is counted, and every erased data sector of theirs that a map entry names is listed as
lost. -/
def State.loseRows (s : State) (j : Job) (rows : List Nat) : State :=
  let l := s.loc j.v
  let n := s.nsOr j.nsid
  let tk := s.tankOf j.tank
  let rebuild := j.rebuilds.isSome
  let s := if rebuild then s else (s.count Reg.FTL_CNT_READ_UNRECOVERED).slotCount l.cistern 0x48
  let s := if rebuild then s
    else rows.foldl (fun s i => s.addLost j.nsid (j.iu * n.iuLen + j.want.getD i 0) j.tank l.stripe 1) s
  let others := rows.flatMap fun i =>
    s.namedInRows j.tank [(l.stripe, l.page % 4 * 4 + l.sector + j.want.getD i 0)] fun (x : Loc) =>
      s.erasedAt j i (posOf tk.layout (tk.memberIdx x) x.stripe)
  others.foldl (fun s e => s.addLost e.1 e.2.1 j.tank e.2.2 (if rebuild then 0 else 1)) s

/-- A row's sector from its sources, where they are enough: it agrees with its own SECTOR_CRC where the target's header has been read
(R306); a poisoned sector stays so (R257). -/
def State.solveRow (s : State) (j : Job) (i : Nat) : Option Sector :=
  let tk := s.tankOf j.tank
  let w := j.want.getD i 0
  let have_ := j.asked.filterMap fun p => if j.goodAt p i then ((Tab.getD p [] j.parts)[i]?).map fun x => (p, x.stored) else none
  if tk.need ≤ have_.length && !j.poison.contains w then
    match rebuildSector tk.layout (s.jobPos j) have_ with
    | none => none
    | some b =>
      let x := s.takenBy j w b
      if (Tab.find w j.heads).all fun c => c == x.crc then some x else none
  else none

/-- May the target itself be read, where a reconstruction has left rows unreadable (R31, R32): it has not been, and its cistern answers? -/
def State.fallsBack (s : State) (j : Job) : Bool :=
  !j.tried && ((s.tankOf j.tank).atPos (s.loc j.v).stripe (s.jobPos j)).any fun m => s.readable m.cistern

/-- Solve the rows that have sources enough; where some have not, the target itself is read if it has not been, at the step at which its
retry was given up (R31, R32, R292), else they stay unreadable and the job ends. -/
def State.solve (s : State) (k : Nat) (j : Job) : State :=
  let made := j.open.map fun i => (i, j.want.getD i 0, s.solveRow j i)
  let got := made.foldl (fun t e => match e.2.2 with
    | some x => Tab.put e.2.1 x t
    | none => t) j.got
  let lostRows := (made.filter fun e => e.2.2.isNone && !j.poison.contains e.2.1).map (·.1)
  if !lostRows.isEmpty && s.fallsBack j then
    let pos := s.jobPos j
    let s := if Tab.getD pos 0 j.steps == 1 then s.count Reg.FTL_CNT_READ_RETRIED else s
    (s.updJob k fun _ => { j with got := got, recon := false, tried := true }).askPos k pos
  else
    let s := if lostRows.isEmpty then s else s.loseRows j lostRows
    s.endJob k j (made.foldl (fun t e => if e.2.2.isNone then Tab.put e.2.1 poisonSector t else t) got)

/-- Go on with a reconstruction: ask further sources while some row lacks any, in the order of R305; then solve. A stopped PAR begins
none (R72). -/
def State.reconStep (s : State) (k : Nat) : State :=
  match s.jobOf k with
  | none => s
  | some j =>
    let tk := s.tankOf j.tank
    let waiting := j.asked.any fun p => !Tab.has p j.parts
    let lack := (j.open.map fun i => tk.need - j.have i).foldl max 0
    let more := ((s.sources j).filter fun p => !j.asked.contains p).take lack
    if waiting || (j.asked.isEmpty && !s.begins .par) then s
    else if lack == 0 || more.isEmpty then s.solve k j
    else
      let s := s.updJob k fun j => { j with asked := j.asked ++ more }
      more.foldl (fun s p => s.askPos k p) s

/-- Take a reconstruction up again, with what its sources have given. -/
def State.resumeJob (s : State) (k : Nat) : State := (s.updJob k fun j => { j with recon := true }).reconStep k

/-- Begin to reconstruct (R305). -/
def State.reconstruct (s : State) (k : Nat) : State :=
  let s := match (s.jobOf k).map (·.use) with
    | some (.host id _) => (match s.cmdOf id with
      | some c => s.tileEvent c.pump evReconRead
      | none => s)
    | _ => s
  (s.count Reg.PAR_CNT_RECONSTRUCT_READS).resumeJob k

/-- Issue a job: direct, or by reconstruction where the cistern is away or in draw-down and quiet members suffice
(R31, R32, R347, R348); a draw-down copy goes to its own unit. -/
def State.issueJob (s : State) (k : Nat) : State :=
  match s.jobOf k with
  | none => s
  | some j =>
    let l := s.loc j.v
    let tk := s.tankOf j.tank
    let pos := s.jobPos j
    match tk.atPos l.stripe pos with
    | none => s.solve k j
    | some m =>
      if !s.readable m.cistern || (s.drawn m && !j.isCopy && s.quietEnough j) then s.reconstruct k
      else (s.updJob k fun j => { j with tried := true }).askPos k pos

/-- Start a media read: the tank's reader count rises (R272). -/
def State.startJob (s : State) (nsid iu v : Nat) (want : List Nat) (use : ReadFor) : State :=
  match s.tankAt v with
  | none => s
  | some t =>
    let k := s.ftl.nextJob
    let s := { s with ftl := { s.ftl with
      nextJob := k + 1
      jobs := Tab.put k { nsid := nsid, iu := iu, v := v, tank := t, want := want, use := use,
                          applied := s.appliedSeq (iuKey nsid iu) } s.ftl.jobs } }
    (s.updTank t fun tk => { tk with readers := tk.readers + 1 }).issueJob k

/-! ### A position has answered -/

/-- Is the target in draw-down now, and do the quiet members suffice (R292)? A copy read keeps retrying. -/
def State.abandonRetry (s : State) (j : Job) (m : TankMember) : Bool :=
  (match j.use with
   | .copy _ => false
   | _ => true) && j.asked.isEmpty && s.drawn m && s.quietEnough j

/-- The block read is media-uncorrectable (R287): UNC advances, the read is counted, the tank is urgent, the block is marked at 2. -/
def State.mediaBad (s : State) (j : Job) (m : TankMember) : State :=
  let s := s.updBlk m.key fun b => { b with unc := min 3 (b.unc + 1) }
  let s := ((s.count Reg.FTL_CNT_MEDIA_RECONSTRUCTED).slotCount m.cistern 0x40).refreshAdd j.tank true
  if 2 ≤ (s.blkOf m.key).unc then s.markBlock m.key else s

/-- A source of a reconstruction has answered for good: what it gave is kept. -/
def State.partDone (s : State) (k pos : Nat) (l : List Part) : State :=
  (s.updJob k fun j => { j with parts := Tab.put pos l j.parts }).reconStep k

/-- What a read of the target has given is kept: its good sectors, those poisoned, and their SECTOR_CRCs. -/
def State.keepParts (s : State) (j : Job) (l : List Part) : Job :=
  let w (i : Nat) : Nat := j.want.getD i 0
  let own := if j.rebuilds.isSome then { j with parts := Tab.put (s.jobPos j) l j.parts } else j
  { own with
    got := (l.zipIdx.filter fun e => e.1.good && !Tab.has (w e.2) j.got).foldl
      (fun t e => Tab.put (w e.2) (s.takenBy own (w e.2) e.1.stored) t) j.got
    poison := (l.zipIdx.filter fun e => e.1.poison).map fun e => w e.2
    heads := l.zipIdx.foldl (fun t e => if e.1.stored.isEmpty then t else Tab.put (w e.2) e.1.crc t) j.heads }

/-- The sectors that a job has obtained for a host command are released (R31). -/
def State.giveHost (s : State) (j : Job) : State :=
  match j.use with
  | .host id slba => s.hostGive id (j.got.map fun (e : Nat × Sector) => (j.iu * (s.nsOr j.nsid).iuLen + e.1 - slba, e.2))
  | _ => s

/-- A read that needed retry step `step` has succeeded (R291, R294): counted, and the tank listed for refresh from the trigger on. -/
def State.retried (s : State) (j : Job) (m : TankMember) (step : Nat) : State :=
  if step == 0 then s
  else
    let s := ((s.count Reg.FTL_CNT_RETRY_RECOVERED).slotCount m.cistern 0x38).slotCount 48 step
    let r := s.rd Reg.FTL_REFRESH_RETRY_TRIGGER
    if r != 0 && r ≤ step then s.refreshAdd j.tank false else s

/-- A read step of a position has answered with sectors (fewer than asked where pages failed): good sectors are kept, and a host's are
released; where some failed, the next step of R291 follows, else the position is given up: the target's rows are reconstructed, where
that has not been tried. A retry given up for a window (R292) may be gone on with. -/
def State.takeAnswer (s : State) (k pos : Nat) (l : List Part) : State :=
  match s.jobOf k with
  | none => s
  | some j =>
    let tk := s.tankOf j.tank
    match tk.atPos (s.loc j.v).stripe pos with
    | none => s
    | some m =>
      let step := Tab.getD pos 0 j.steps
      let full := (List.range j.want.length).map fun i => l.getD i {}
      let sound := full.all fun x => x.good || x.poison
      let s := match j.use with
        | .host id _ => (match s.cmdOf id with
          | some c => s.tileEvent c.pump evCrcError (full.countP fun (x : Part) => x.wrong)
          | none => s)
        | _ => s
      if j.recon then
        (if full.all (·.good) then (s.retried j m step).partDone k pos full
         else if step < s.thrNR then
          ((if step == 0 then s.count Reg.FTL_CNT_READ_RETRIED else s).updJob k fun j =>
            { j with steps := Tab.put pos (step + 1) j.steps }).askPos k pos
         else (if sound then s else s.mediaBad j m).partDone k pos full)
      else
        let j := s.keepParts j full
        let s := (s.updJob k fun _ => j).giveHost j
        let again (s : State) : State := if j.asked.isEmpty then s.reconstruct k else s.resumeJob k
        if j.open.isEmpty then (s.retried j m step).endJob k j j.got
        else if step < s.thrNR && !s.abandonRetry j m then
          ((if step == 0 then s.count Reg.FTL_CNT_READ_RETRIED else s).updJob k fun j =>
            { j with steps := Tab.put pos (step + 1) j.steps }).askPos k pos
        else if step < s.thrNR then
          again (s.updJob k fun j => { j with steps := Tab.put pos (step + 1) j.steps, tried := false })
        else if sound then s.solve k j
        else again (s.mediaBad j m)

/-- A read ended without an answer (R375): it is reconstructed where that is possible, else issued again; a source is given
up. -/
def State.takeTimeout (s : State) (k pos : Nat) : State :=
  match s.jobOf k with
  | none => s
  | some j =>
    let tk := s.tankOf j.tank
    if j.recon then s.partDone k pos []
    else if tk.need ≤ (s.sources j).length then (if j.asked.isEmpty then s.reconstruct k else s.resumeJob k)
    else if ((tk.atPos (s.loc j.v).stripe pos).any fun m => s.readable m.cistern) then s.askPos k pos
    else s.solve k j

/-! ### Host reads and compositions -/

/-- The content of an LBA that is not written (R170): its data is a free value; its protection information has application tag 0xFFFF
and every bit of the reference tag set. -/
def State.unmappedSector (s : State) (n : Ns) : Sector × State :=
  (sectorOf ((List.range 4096).map fun i => BitVec.ofNat 8 (s.freeVal 32896 / 256 ^ i))
    (unwrittenPi n (s.freeVal 32896 / 2 ^ 32768 % 2 ^ 128)), s.freeNext)

/-- Start a host command's reads over its LBA range (R245, R248): wait for an absent segment; take what the sump and the map
give; start a job for each IU on the media. -/
def State.startRead (s : State) (id : Nat) : State :=
  match s.cmdOf id with
  | none => s
  | some c =>
    let n := s.nsOr c.sqe.nsid
    let ns := c.sqe.nsid
    let lbas := (List.range c.sqe.nlb).map (· + c.sqe.slba)
    let ius := (lbas.map (· / n.iuLen)).eraseDups
    let absent := ius.filter fun iu => !s.resident ns iu
    if !absent.isEmpty then (absent.foldl (fun s iu => s.wantSeg ns iu) s).setStage id .waitMap
    else
      let s := s.setStage id .reading
      let s := ius.foldl (fun s iu => s.touchSeg ns iu false) s
      let r := lbas.foldl (fun (r : State × Tab Sector × Tab (Nat × List Nat)) lba =>
        let s := r.1
        let iu := lba / n.iuLen
        let k := lba % n.iuLen
        match s.lookup ns iu k with
        | .here x => (s, Tab.put (lba - c.sqe.slba) x r.2.1, r.2.2)
        | .zero => (s, Tab.put (lba - c.sqe.slba) (s.zeroedSector ns iu k) r.2.1, r.2.2)
        | .unmapped =>
          let u := s.unmappedSector n
          (u.2, Tab.put (lba - c.sqe.slba) u.1 r.2.1, r.2.2)
        | .media v => (s, r.2.1, Tab.put iu (v, (Tab.getD iu (v, []) r.2.2).2 ++ [k]) r.2.2)) (s, [], [])
      let hits := ius.countP fun iu => lbas.any fun lba => lba / n.iuLen == iu && (match s.lookup ns iu (lba % n.iuLen) with
        | .here _ => true
        | _ => false)
      let s := (r.1.tileEvent c.pump evMapLookup ius.length).tileEvent c.pump evSumpHit hits
      let s := (if r.2.1.isEmpty then s else s.useKey c.sqe.nsid).hostGive id r.2.1
      if r.2.2.isEmpty then s.hostReadDone id
      else r.2.2.foldl (fun s e => s.startJob ns e.1 e.2.1 e.2.2 (.host id c.sqe.slba)) s

/-- Compose an IU whose fragments have waited, or whose space is needed (R256): from the sump's newest whole version, from zeros,
or after a media read, which is counted. -/
def State.compose (s : State) (nsid iu : Nat) : State :=
  let frag := s.ftl.versions.any fun v => v.nsid == nsid && v.iu == iu && !v.whole
  let busy := s.ftl.jobs.any fun e => e.2.nsid == nsid && e.2.iu == iu && e.2.use == .compose
  if !frag || busy || !s.composable nsid iu then s
  else if !s.resident nsid iu then s.wantSeg nsid iu
  else
    match (s.versionsOf nsid iu).find? (·.whole) with
    | some v => (s.composeFrom nsid iu v.sectors).assignAll
    | none =>
      match Tab.find (iuKey nsid iu) s.ftl.map with
      | some (.media v) =>
        (s.count Reg.FTL_CNT_MERGE_READS).startJob nsid iu v (List.range (s.nsOr nsid).iuLen) .compose
      | _ => (s.composeFrom nsid iu []).assignAll

/-- Begin again the compositions whose current content has changed while they read it (R256). -/
def State.recompose (s : State) : State :=
  s.ftl.redo.foldl (fun (s : State) e => s.compose e.1 e.2) { s with ftl := { s.ftl with redo := [] } }

/-- A position has answered (R291, R305, R306). -/
def State.readAnswer (s : State) (k pos : Nat) (l : List Part) : State := (s.takeAnswer k pos l).recompose

/-- A position's read has ended without an answer (R375). -/
def State.readTimeout (s : State) (k pos : Nat) : State := (s.takeTimeout k pos).recompose

/-- The IU whose first fragment is oldest. -/
def State.oldestFragment (s : State) : Option (Nat × Nat) :=
  (s.ftl.versions.find? fun v => !v.whole).map fun v => (v.nsid, v.iu)

/-- While BP is 1, compose IUs one at a time, oldest first fragment first (R256). -/
def State.composeForSpace (s : State) : State :=
  if !s.is Reg.SUMP_STATUS_BP then s
  else match s.oldestFragment with
    | none => s
    | some (n, i) => s.compose n i

end Sys2Proof.Machine
end

