-- ==== Sys2Proof/Machine/Care.lean ====
section
/-! DEFINITION. Cisterns that leave and return (R286, R315, R316), rebuild (R317-R320), the choice of draw-down, refresh and
levelling sources (R267, R283, R296), and when a draw-down operation may be issued (R343, R348). -/

namespace Sys2Proof.Machine

/-! ### Rebuild status (R318 to R320, Table 11.10) -/

/-- The worn cistern whose tanks are being rebuilt: the lowest slot (R286). -/
def State.activeWorn (s : State) : Option Nat := slots48.find? fun c => s.cst c == cWorn

/-- Is the slot's member to be substituted now: rebuilding with its sweep done, or the worn one in turn? -/
def State.departing (s : State) (c : Nat) : Bool :=
  (s.cst c == cRebuilding && s.ftl.swept.contains c) || s.activeWorn == some c

/-- Tanks to substitute: written here, OPEN or FULL, with a departing member (R318). -/
def State.substTanks (s : State) : List Nat :=
  (s.ftl.tanks.filter fun e =>
    (e.2.st == tkOpen || e.2.st == tkFull) && e.2.mine && e.2.members.any fun m => s.departing m.cistern).map (·.1)

/-- The next tank to substitute (R319). -/
def State.nextSubst (s : State) : Option Nat :=
  s.substTanks.foldl (fun best t => match best with
    | none => some t
    | some b => if s.rank t < s.rank b then some t else some b) none

/-- Show progress: ETA is the bytes left over the current rate. -/
def State.showRebuild (s : State) : State :=
  let ts := s.substTanks
  let crit := ts.any fun t => s.holdsCritical (s.tankOf t)
  let waiting := slots48.countP fun c => (s.cst c == cRebuilding || s.cst c == cWorn)
  let cur := match s.nextSubst with
    | none => none
    | some t => ((s.tankOf t).members.find? fun (m : TankMember) => s.departing m.cistern).map fun (m : TankMember) => m.cistern
  let was := s.is Reg.PAR_REBUILD_STATUS_ACTIVE
  let s := if !was && cur.isSome then s.wr Reg.PAR_REBUILD_DONE_TANKS_DONE 0 else s
  let s := (s.wrB Reg.PAR_REBUILD_STATUS_ACTIVE cur.isSome).wrB Reg.PAR_REBUILD_STATUS_CRITICAL crit
  let s := (s.wr Reg.PAR_REBUILD_STATUS_CISTERN (cur.getD 0)).wr Reg.PAR_REBUILD_STATUS_QUEUED
    (if cur.isSome then waiting - 1 else waiting)
  let bytes := (ts.map fun t => (s.tankOf t).stripes * 65536 *
    (s.tankOf t).members.countP fun (m : TankMember) => s.departing m.cistern).sum
  let rate := 100 * 1000 * 1000 *
    (if crit then s.rd Reg.PAR_REBUILD_CFG_CRIT_RATE else s.rd Reg.PAR_REBUILD_CFG_RATE)
  (s.wr Reg.PAR_REBUILD_LEFT_TANKS_LEFT ts.length).wr Reg.PAR_REBUILD_ETA
    (if cur.isSome && rate != 0 then bytes / rate else 0xFFFFFFFF)

/-! ### Leaving service (R261, R309, R315) -/

def State.setCst (s : State) (c v : Nat) : State := s.wr (Reg.PAR_CSTATE_STATE.at c) v

/-- Map the place of a member's block to the place of its substitute. -/
def State.moveLoc (s : State) (old new : Nat) (v : Nat) : Nat :=
  let l := s.loc v
  if blkKey l.cistern l.die l.block == old then
    s.addr (blkCistern new) (new / 2 ^ 20 % 256) (new % 2 ^ 20) l.page l.sector
  else v

/-- The substitutes for a tank's departing members (R318): in service, not members, under R302 and R340, most free blocks first,
blocks by R281. -/
def State.substitutes (s : State) (tk : Tank) : Option (List Nat) :=
  let kept := (tk.members.filter fun m => !s.departing m.cistern).map (·.key)
  (s.choosePlace tk.layout tk.cls none kept (s.candidates (tk.members.map (·.cistern)))).map fun r => r.1.drop kept.length

/-- Begin on the stripe that a substitution has at hand: each departing member's chunk is obtained; past the last there is nothing left
to do. -/
def State.beginSubst (s : State) (u : Subst) (i : Nat) : State :=
  let s : State := { s with ftl := { s.ftl with subst := some { u with stripe := i, chunks := [], acked := [] } } }
  if (s.tankOf u.tank).begun ≤ i then s
  else u.swaps.foldl (fun (s : State) w =>
    s.startJob 0 0 (s.addr (blkCistern w.2.1) (w.2.1 / 2 ^ 20 % 256) (w.2.1 % 2 ^ 20) (4 * i) 0) (List.range 16) (.rebuild w.1)) s

/-- The first committed stripe of a tank from `i` on; past the last, how many were begun. -/
def Tank.stripeFrom (tk : Tank) (i : Nat) : Nat := (tk.committed.find? fun k => decide (i ≤ k)).getD tk.begun

/-- Begin to substitute the next tank (R318, R319), once none of its stripes is under way; a stopped PAR begins none (R72). -/
def State.startSubst (s : State) : State :=
  if s.ftl.subst.isSome || !s.serving || !s.begins .par then s
  else match s.nextSubst with
    | none => s
    | some t =>
      let tk := s.tankOf t
      if (s.ftl.asm.any fun e => e.2.tank == t) || s.ftl.fly.any fun e => e.2.tank == t then s
      else match s.substitutes tk with
        | none => s
        | some new =>
          let going := tk.members.zipIdx.filter fun m => s.departing m.1.cistern
          let swaps := (going.zip new).map fun e => (e.1.2, e.1.1.key, e.2)
          let s := swaps.foldl (fun (s : State) w => s.updBlk w.2.2 fun b => { b with st := 1 }) s
          s.beginSubst { tank := t, swaps := swaps, since := s.tm.mono } (tk.stripeFrom 0)

/-- Abandon the substitution under way: its reads end, and its partly written substitute blocks are to be erased (R316, R318). -/
def State.abandonSubst (s : State) : State :=
  match s.ftl.subst with
  | none => s
  | some u =>
    let jobs := s.ftl.jobs.filter fun e => e.2.rebuilds.isSome
    let s : State := { s with ftl := { s.ftl with
      subst := none, jobs := s.ftl.jobs.filter fun (e : Nat × Job) => e.2.rebuilds.isNone } }
    let s := jobs.foldl (fun (s : State) e => s.leaveTank e.2.tank) s
    u.swaps.foldl (fun (s : State) w => if (s.blkOf w.2.2).st != 1 then s
      else s.updBlk w.2.2 fun b => { b with st := 0, dirty := true }) s

/-- The substitution restarts with other substitutes where `c` is the cistern of one (R318). -/
def State.substLeft (s : State) (c : Nat) : State :=
  if s.ftl.subst.any fun u => u.swaps.any fun w => blkCistern w.2.2 == c then s.abandonSubst.startSubst else s

/-- Set the cistern's state, and what follows from it for placement: stripes being programmed take it as a failed copy
(R309), OPEN tanks that hold it are closed short (R261), map store copies on it are written again (R250). -/
def State.leaveService (s : State) (c v : Nat) : State :=
  let s := s.setCst c v
  let fails := s.ftl.fly.flatMap fun e => ((s.tankOf e.2.tank).members.zipIdx.filter fun m => m.1.cistern == c).map
    fun m => (e.1, posOf e.2.layout m.2 e.2.index)
  let s := fails.foldl (fun s e => s.copyFailed e.1 e.2) s
  let open_ := (s.ftl.tanks.filter fun e => e.2.st == tkOpen && e.2.mine && e.2.members.any fun m => m.cistern == c).map
    (·.1)
  let s := open_.foldl (fun s t => s.closeShort t) s
  let lost := (s.ftl.runs.filter fun e => e.2.copies.contains c).map (fun e => MetaUse.recopy e.1) ++
    (s.ftl.segs.flatMap fun e => (e.2.homes.filter fun h => h.2.contains c).map fun h => MetaUse.base e.1 h.1) ++
    (if s.ftl.dirCopies.contains c then [MetaUse.directory] else [])
  let lost := lost.filter fun u => !s.ftl.metaRedo.contains u
  let s := s.raise sevUncorrected .par (0x2000200 + 4 * c) c v
  let s : State := { s with ftl := { s.ftl with metaRedo := s.ftl.metaRedo ++ lost } }
  let s := lost.foldl (fun s u => s.writeMeta u) s
  ((s.assignAll.showSpare.showSpread.showDraw.showRedundancy).substLeft c).startSubst.showRebuild

/-- A cistern is lost without a hard failure: ABSENT, with its grace (R315); before SERVE its grace has still to start (R89, R96). -/
def State.toAbsent (s : State) (c : Nat) : State :=
  if !s.inService c then s
  else if s.st < stSERVE then s.leaveService c cAbsent
  else
    let g := s.rd Reg.PAR_GRACE
    let s := { s with ftl := { s.ftl with graceAt := Tab.put c (s.tm.mono + g * sec) s.ftl.graceAt } }
    (s.wr (Reg.PAR_CSTATE_GRACE_LEFT.at c) g).leaveService c cAbsent

/-- The sweep of R317 reads the whole map: the segments that are absent are fetched. -/
def State.sweepSegs (s : State) : State :=
  s.ns.foldl (fun (s : State) (e : Nat × Ns) =>
    if (Tab.find e.1 s.ftl.segs).all (·.all) then s
    else (List.range ((e.2.nsze + e.2.iuLen - 1) / e.2.iuLen / 1024 + 1)).foldl (fun (s : State) g =>
      if s.resident e.1 (1024 * g) then s else s.wantSeg e.1 (1024 * g)) s) s

/-- Enter REBUILDING (Table 11.6); the sweep of R317 begins. -/
def State.toRebuilding (s : State) (c : Nat) : State :=
  let s := { s with ftl := { s.ftl with
    graceAt := Tab.del c s.ftl.graceAt, swept := s.ftl.swept.filter (· != c) } }
  (s.sweepSegs.wr (Reg.PAR_CSTATE_GRACE_LEFT.at c) 0).leaveService c cRebuilding

/-- A hard failure (R315): REBUILDING at once. -/
def State.hardFail (s : State) (c : Nat) : State :=
  if s.inService c || s.cst c == cAbsent then s.toRebuilding c else s

/-- Declare a cistern worn where its retired blocks exceed CISTERN_MAX thousandths (R286). -/
def State.checkWorn (s : State) (c : Nat) : State :=
  let retired := s.ftl.blocks.countE fun k b => blkCistern k == c && b.st == 3
  let bad := s.ftl.blocks.countE fun k b => blkCistern k == c && b.st == 4
  if s.inService c && s.rd Reg.FTL_RETIRE_CISTERN_MAX * (s.blockCount c - bad) < 1000 * retired
  then s.leaveService c cWorn else s

/-! ### Return (R316) -/

/-- Is the identity the one the slot's cistern had? -/
def sameIdent (a b : Ident) : Bool := a.serial == b.serial && a.generation == b.generation

/-- Take the slot as new capacity: every block but the factory-bad ones is to be erased before it enters the pool. -/
def State.newCapacity (s : State) (c : Nat) (id : Ident) : State :=
  let s := s.updLink c fun l => { l with ident := some id }
  let s := { s with ftl := { s.ftl with
    unerased := (List.range id.dies).foldl (fun t d => Tab.put (c * 256 + d) 0 t) s.ftl.unerased
    waitingId := Tab.del c s.ftl.waitingId } }
  (s.setCst c cInService).showDraw

/-- A rebuilt cistern with no tank left becomes FAILED: its blocks leave the table, and a waiting cistern takes the slot
(Table 11.6, Table 11.7). -/
def State.checkFailed (s : State) (c : Nat) : State :=
  let held := s.ftl.tanks.any fun e =>
    (e.2.st == tkOpen || e.2.st == tkFull) && e.2.members.any fun m => m.cistern == c
  let due := (s.cst c == cRebuilding && s.ftl.swept.contains c) || s.cst c == cWorn
  if !due || held then s
  else
    let s := { s with ftl := { s.ftl with
      swept := s.ftl.swept.filter (· != c)
      found := s.ftl.found.filter fun (e : Nat × (Nat × Nat)) => e.1 / 2 ^ 34 != c
      unerased := s.ftl.unerased.filter fun (e : Nat × Nat) => e.1 / 256 != c
      blocks := s.ftl.blocks.filter fun (e : Nat × Blk) => blkCistern e.1 != c || e.2.tank.isSome } }
    let s := s.setCst c cFailed
    match Tab.find c s.ftl.waitingId with
    | none => s
    | some id => s.newCapacity c id

/-- Every departing cistern whose tanks are done leaves; the next worn one follows. -/
def State.checkAllFailed (s : State) : State :=
  (slots48.foldl (fun s c => s.checkFailed c) s).showRebuild

/-! ### Member substitution (R318) -/

/-- A tank's member gives way to a substitute: the map's locations follow, the old block leaves the tank. -/
def State.swapMember (s : State) (t pos old new : Nat) : State :=
  let s := (s.updBlk old fun b => { b with tank := none, dirty := true, st := if b.st == 1 then 0 else b.st }).updBlk new
    fun b => { b with st := 1, tank := some t }
  let s := { s with ftl := { s.ftl with map := s.ftl.map.map fun (e : Nat × MapVal) => match e.2 with
    | .media v => (e.1, .media (s.moveLoc old new v))
    | .zero => e } }
  s.updTank t fun tk =>
    { tk with
      members := tk.members.map fun (m : TankMember) => if m.key == old then
        { m with cistern := blkCistern new, die := new / 2 ^ 20 % 256, block := new % 2 ^ 20, marked := false } else m
      missing := (tk.missing.map fun (e : Nat × List Nat) => (e.1, e.2.filter (· != posOf tk.layout pos e.1))).filter
        fun (e : Nat × List Nat) => !e.2.isEmpty }

/-- Put one substitute in place of a member, journalled. -/
def State.replaceMember (s : State) (t pos old new : Nat) : State :=
  (s.journal (.memberSubst t pos (blkCistern new) (new / 2 ^ 20 % 256) (new % 2 ^ 20))).swapMember t pos old new

/-- The tank under substitution has every chunk programmed: its members are replaced, journalled, and counted (R318). -/
def State.substituteTank (s : State) (u : Subst) : State :=
  let s : State := { s with ftl := { s.ftl with subst := none } }
  let s := u.swaps.foldl (fun (s : State) w => s.replaceMember u.tank w.1 w.2.1 w.2.2) s
  let s := s.wr Reg.PAR_REBUILD_DONE_TANKS_DONE (s.rd Reg.PAR_REBUILD_DONE_TANKS_DONE + 1)
  s.showRedundancy.showDraw.checkAllFailed.startSubst

/-- A substitute chunk is programmed (R318): counted; with the last of its stripe the next stripe's turn comes. -/
def State.substAcked (s : State) (t i m : Nat) : State :=
  match s.ftl.subst with
  | none => s
  | some u =>
    if u.tank != t || u.stripe != i || u.acked.contains m || !u.swaps.any (fun w => w.1 == m) then s
    else
      let s := s.count Reg.PAR_CNT_REBUILD_CHUNKS
      let u := { u with acked := m :: u.acked }
      if u.swaps.all fun w => u.acked.contains w.1 then s.beginSubst u ((s.tankOf t).stripeFrom (i + 1))
      else { s with ftl := { s.ftl with subst := some u } }

/-- A substitute's program has failed (R318): its block is retired, and the tank's substitution restarts with another. -/
def State.substFailed (s : State) (t k : Nat) : State :=
  if s.ftl.subst.any fun u => u.tank == t && u.swaps.any fun w => w.2.2 == k then
    (s.retireNow k).abandonSubst.startSubst
  else s

/-! ### Sources (R267, R283, R296) -/

/-- A tank enters DRAW as a source: it leaves the refresh list, and refresh and levelling sources are counted. -/
def State.takeSource (s : State) (t : Nat) (kind : DrawKind) : State :=
  let s := s.updTank t fun tk => { tk with st := tkDraw, kind := kind, released := false, releaseSent := false }
  let s := { s with ftl := { s.ftl with refresh := Tab.del t s.ftl.refresh } }
  let s := s.journalTank t tkDraw
  let s := match kind with
    | .draw => s
    | .refresh => s.count Reg.FTL_CNT_REFRESH_TANKS
    | .level => { s.count Reg.FTL_CNT_LEVEL_TANKS with ftl := { s.ftl with levelling := some t } }
  s.showTanks

/-- Mean PE of a tank's member blocks, in sum. -/
def State.peSum (s : State) (tk : Tank) : Nat := (tk.members.map fun m => (s.blkOf m.key).pe).sum

/-- The levelling source (R283): lowest mean PE, classes 3 and 5 preferred; none while one is in DRAW or levelling rests. -/
def State.levelSource (s : State) : Option Nat :=
  let busy := s.ftl.levelling.any fun t => (s.tankOf t).st == tkDraw && (s.tankOf t).kind == .level
  if !s.is Reg.FTL_MEDIA_STATUS_LEVELLING || busy then none
  else
    let ts := s.ftl.tanks.filter fun e => s.drawable e.2 && !e.2.members.isEmpty
    let pref := ts.filter fun e => e.2.cls == 3 || e.2.cls == 5
    ((if pref.isEmpty then ts else pref).foldl (fun (best : Option (Nat × Tank)) e => match best with
      | none => some e
      | some b => if s.peSum e.2 * b.2.members.length < s.peSum b.2 * e.2.members.length then some e else some b)
      none).map (·.1)

/-- The next source in the order of R296; a draw-down candidate only while there is copy debt or in mode 0, which uses idle
window time; in modes 2 and 3 only the first two kinds and draw-down itself; no levelling under THROTTLE (R539). -/
def State.nextSource (s : State) : Option (Nat × DrawKind) :=
  let mode := s.rd Reg.FTL_DRAW_STATUS_MODE
  let ok := s.ftl.tanks.filter fun e => s.drawable e.2
  let marked := ok.find? fun e => e.2.members.any (·.marked)
  let urgent := ok.find? fun e => Tab.find e.1 s.ftl.refresh == some true
  let normal := if 2 ≤ mode then none
    else match ok.find? fun e => Tab.has e.1 s.ftl.refresh with
      | some e => some (e.1, DrawKind.refresh)
      | none => if s.is Reg.PWR_THERM_STATUS_THROTTLE then none else s.levelSource.map fun t => (t, DrawKind.level)
  let draw := if 0 < s.ftl.debt || mode == 0 then s.bestTanks.head?.map fun t => (t, DrawKind.draw) else none
  match marked, urgent with
  | some e, _ => some (e.1, .draw)
  | none, some e => some (e.1, .refresh)
  | none, none => match draw, normal with
    | some d, some n => if s.ftl.refreshed then some d else some n
    | some d, none => some d
    | none, o => o

/-- Take the next source into DRAW where no source has an IU left to copy; the two kinds that alternate take turns. -/
def State.feedSources (s : State) : State :=
  match s.nextSource with
  | none => s
  | some (t, k) =>
    let turn := decide (k != .draw)
    ({ s with ftl := { s.ftl with refreshed := turn } }).takeSource t k

/-! ### When an operation may be issued (R343, R348) -/

/-- Length of a slot, ns. -/
def State.slotLen (s : State) : Nat := s.rd Reg.TIME_WIN_CFG_SLOT_LEN * 100 * us
def State.guardNs (s : State) : Nat := s.rd Reg.TIME_WIN_CFG_GUARD * us

/-- Has the link an erase or a copy read under way on the die? -/
def State.dieBusy (s : State) (c die : Nat) : Bool :=
  (s.linkOf c).tags.any fun e => e.2.die == die && (match e.2.use with
    | .erase _ _ => true
    | .reclaim => true
    | .read j _ => (s.jobOf j).any Job.isCopy
    | _ => false)

/-- May a draw-down operation of bound `b` ns go to the die now? -/
def State.mayIssue (s : State) (c die b : Nat) : Bool :=
  let l := s.linkOf c
  s.lk c == lkActive && (s.readable c || Tab.has c s.ftl.waitingId) &&
  if s.coordinated then
    match Tab.find (s.unitOf c die) s.tm.units with
    | some (.draw, since) =>
      decide (since + s.guardNs ≤ s.tm.shelf) &&
      decide (s.tm.shelf + b + s.guardNs ≤ s.tm.slotStart + s.slotLen)
    | _ => false
  else
    decide (l.lastRead + s.rd Reg.TIME_WIN_IDLE_IDLE_WAIT * us ≤ s.tm.mono) ||
    (decide (2 ≤ s.rd Reg.FTL_DRAW_STATUS_MODE) && decide (l.idleAt + 100 * ms ≤ s.tm.mono) && !s.dieBusy c die)

def State.eraseBound (s : State) : Nat := s.rd Reg.TIME_WIN_OPS_ERASE_BOUND * us
def State.readBound (s : State) : Nat := s.rd Reg.TIME_WIN_OPS_READ_BOUND * us

/-- Mark a draw-down operation as running in its unit. -/
def State.unitBusy (s : State) (c die : Nat) : State :=
  { s with tm := { s.tm with busyUnits := Tab.upd (s.unitOf c die) 0 (· + 1) s.tm.busyUnits } }

/-- A block of the cistern and die that waits for its erase: a member of an ERASING tank, or a block to be erased before it enters
its pool (R316). -/
def State.eraseWaiting (s : State) (c die : Nat) : Option (Nat × Use) :=
  let member := s.ftl.tanks.findSome? fun e =>
    if e.2.st != tkErasing then none
    else (e.2.members.zipIdx.find? fun m => m.1.cistern == c && m.1.die == die && !m.1.erased &&
        !(s.linkOf c).tags.any fun g => g.2.use == .erase e.1 m.2).map fun m => (m.1.block, Use.erase e.1 m.2)
  member.or (
    let busy := (s.linkOf c).tags.any fun g => g.2.use == .reclaim && g.2.die == die
    if busy then none
    else match s.ftl.blocks.find? fun e => blkCistern e.1 == c && e.1 / 2 ^ 20 % 256 == die && e.2.dirty with
      | some e => some (e.1 % 2 ^ 20, .reclaim)
      | none => (Tab.find (c * 256 + die) s.ftl.unerased).map fun k => (k, .reclaim))

/-- Issue an erase to a die (R269, R367). -/
def State.issueErase (s : State) (c die : Nat) : State :=
  match s.eraseWaiting c die with
  | none => s
  | some (b, use) =>
    (s.unitBusy c die).issueWrite c { opcode := opErase, die := die, block := b, at_ := 0, timeout := 0, use := use }

/-- Is a copy of the location under way: being read, or placed in a stripe not yet committed? -/
def State.copying (s : State) (v : Nat) : Bool :=
  (s.ftl.jobs.any fun e => e.2.v == v && e.2.isCopy) ||
  ((s.ftl.asm.map (·.2)) ++ (s.ftl.fly.map (·.2))).any fun st => st.ius.any fun p => match p.src with
    | .copy w _ => w == v
    | .sump _ => false

/-- The IUs of a tank in DRAW that still need a copy: (NSID, IU, location). -/
def State.copyList (s : State) (t : Nat) : List (Nat × Nat × Nat) :=
  s.ftl.map.filterMap fun e => match e.2 with
    | .media v => if s.tankAt v == some t && !s.copying v then some (e.1 / 2 ^ 48, e.1 % 2 ^ 48, v) else none
    | .zero => none

/-- The next copy that may be read on a die that `ok` permits; a chunk whose cistern has left service is reconstructed (R269). -/
def State.nextCopy (s : State) (debtOnly : Bool) (ok : Nat → Nat → Bool) : Option (Nat × Nat × Nat × Nat) :=
  s.ftl.tanks.findSome? fun e =>
    if e.2.st != tkDraw || !e.2.mine || (debtOnly && e.2.kind != .draw) then none
    else (s.copyList e.1).findSome? fun x =>
      let l := s.loc x.2.2
      if !s.readable l.cistern || ok l.cistern l.die then some (e.1, x) else none

/-- Issue a copy read (R269). -/
def State.issueCopy (s : State) (debtOnly : Bool) (ok : Nat → Nat → Bool) : State :=
  match s.nextCopy debtOnly ok with
  | none => s
  | some (t, nsid, iu, v) =>
    let l := s.loc v
    (s.unitBusy l.cistern l.die).startJob nsid iu v (List.range (s.nsOr nsid).iuLen) (.copy (s.tankOf t).kind)

end Sys2Proof.Machine
end

