-- ==== Sys2Proof/Machine/Save.lean ====
section
/-! DEFINITION. An abandoned write (R123, R35), and the power-loss save (R418-R425, Tables 15.1 to 15.3). -/

namespace Sys2Proof.Machine

/-! ### Write data -/

/-- A command's range of IUs: first, and the one after the last. -/
def iuRange (n : Ns) (slba nlb : Nat) : Nat × Nat := (slba / n.iuLen, (slba + nlb + n.iuLen - 1) / n.iuLen)

/-- IUs of a range. -/
def iusOf (n : Ns) (slba nlb : Nat) : List Nat :=
  let r := iuRange n slba nlb
  (List.range (r.2 - r.1)).map (· + r.1)

/-- The sectors that a command's wire bytes spell, from its LBA offset `k` on (R22, R168). -/
def sectorsOf (n : Ns) (q : Sqe) (k nlb : Nat) (d : List Byte) : List Sector :=
  let wire := wireBytes n q
  (List.range nlb).map fun i => wireSector n q (k + i) (slice d (i * wire) wire)

/-- The check of protection information on data that enters (R168): the first status that fails; none under PRACT, where the
controller generates it. -/
def piEnter (n : Ns) (q : Sqe) (k : Nat) (xs : List Sector) : Option Nat :=
  if piStripped n q then none else xs.zipIdx.findSome? fun e => piCheck n q (k + e.2) e.1.data e.1.pi

/-- The IUs of an abandoned write that have entirely arrived, and whose protection information passes, take effect, the others do not
(R123, R35, R168); unused slots are released. -/
def State.partialWrite (s : State) (id : Nat) (c : Cmd) : State :=
  match s.nsOf c.sqe.nsid with
  | none => s
  | some n =>
    if c.sqe.opcode != 0x01 || c.stage != .fetching then s
    else
      let wire := wireBytes n c.sqe
      let parts := (iusOf n c.sqe.slba c.sqe.nlb).filterMap fun iu =>
        let lo := max c.sqe.slba (iu * n.iuLen)
        let hi := min (c.sqe.slba + c.sqe.nlb) ((iu + 1) * n.iuLen)
        (readBuf c.buf ((lo - c.sqe.slba) * wire) ((hi - lo) * wire) 0x1000).bind fun d =>
          let xs := sectorsOf n c.sqe (lo - c.sqe.slba) (hi - lo) d
          if (piEnter n c.sqe (lo - c.sqe.slba) xs).isSome then none else some (lo, xs)
      let s := (s.releaseSlots c).updCmd id fun c => { c with slots := 0 }
      parts.foldl (fun s p => s.enterSump c.sqe.nsid p.1 p.2 (heatHint c.sqe)) s

/-! ### The save descriptor (R425) -/

/-- The governing copy of the save descriptor: the one of higher SEQ. -/
def State.desc (s : State) : Option SaveDesc :=
  match s.sump.descA, s.sump.descB with
  | some a, some b => if a.seq < b.seq then some b else some a
  | some a, none => some a
  | none, b => b

/-- Rewrite the copy of lower SEQ, advancing SEQ. -/
def State.putDesc (s : State) (f : SaveDesc → SaveDesc) : State :=
  let d := s.desc.getD {}
  let d' := { f d with seq := d.seq + 1 }
  let toB := match s.sump.descA, s.sump.descB with
    | some a, some b => decide (b.seq ≤ a.seq)
    | some _, none => true
    | none, _ => false
  if toB then { s with sump := { s.sump with descB := some d' } }
  else { s with sump := { s.sump with descA := some d' } }

/-- Save descriptor states. -/
def dsClean : Nat := 0
def dsSaving : Nat := 1
def dsSaved : Nat := 2

/-! ### What is saved (R421 to R423) -/

/-- Cisterns in service that hold blocks of the save area (R419, R421). -/
def State.saveCisterns (s : State) : List Nat :=
  s.served.filter fun c => s.ftl.blocks.any fun e => blkCistern e.1 == c && e.2.plsa

/-- K of R421: min(16, N - 1), or 0 where fewer than two cisterns hold blocks of the save area. -/
def State.saveK (s : State) : Nat :=
  if s.saveCisterns.length < 2 then 0 else min 16 (s.served.length - 1)

/-- The data width of the reservation table's rows, which a save uses. -/
def State.rowK (s : State) : Nat := if s.saveK == 0 then 0 else (s.sump.rows.headD []).length - 1

/-- KIND codes of a directory entry. -/
def kindWhole : Nat := 1
def kindFragment : Nat := 2
def kindRegion : Nat := 3

/-- A directory entry (R423); the ORDER and ASSIGNED_SEQ of a region's slot are 0 (DESIGN CHOICE, log entry 57). -/
def dirEntry (id kind at_ order seq : Nat) : List Byte :=
  leBytes 8 (id + kind * 2 ^ 13 + at_ * 2 ^ 16) ++ leBytes 8 order ++ leBytes 8 seq

/-- The slots in save order, each with its directory entry: the sectors of the versions frozen, then the slots of the regions. -/
def State.saveSlots (s : State) : List (List Byte × List Byte) :=
  (s.sump.frozen.flatMap fun v => v.sectors.map fun (e : Nat × Sector) =>
    (e.2.bytes, dirEntry v.nsid (if v.whole then kindWhole else kindFragment) (v.iu * (s.nsOr v.nsid).iuLen + e.1) v.order v.seq)) ++
  s.sump.regions.flatMap fun r => (List.range r.2.slots).map fun k =>
    (r.2.data.read (4096 * k) 4096, dirEntry r.1 kindRegion (4096 * k) 0 0)

/-- Save stripes of data and of one directory copy (R421, R423). -/
def State.dataStripes (s : State) : Nat := ceilDiv (ceilDiv s.heldSlots 16) s.rowK
def State.dirStripes (s : State) : Nat := ceilDiv (ceilDiv (24 * s.heldSlots) 65536) s.rowK

/-- Sixteen sectors from a list. -/
def sixteen (l : List (List Byte)) : List (List Byte) := (List.range 16).map fun k => l.getD k (zeros 4096)

/-- The chunks of save stripe `i`: data chunks of sixteen slots, or of the directory, which is written twice, then the XOR parity. -/
def State.saveChunks (s : State) (i : Nat) : List (List (List Byte)) :=
  let k := s.rowK
  let slots := s.saveSlots
  let n := s.dataStripes
  let data := (List.range k).map fun j =>
    if i < n then sixteen (((slots.map (·.1)).drop (16 * (i * k + j))).take 16)
    else
      let dir := slots.flatMap (·.2)
      let at_ := 65536 * ((i - n) % s.dirStripes * k + j)
      (List.range 16).map fun x => padTo 4096 (slice dir (at_ + 4096 * x) 4096)
  data ++ [(List.range 16).map fun x => data.foldl (fun acc c => xorBytes acc (c.getD x [])) (zeros 4096)]

/-- The header of a save chunk (R423). -/
def State.saveHeader (s : State) (i pos : Nat) (chunk : List (List Byte)) : List Byte :=
  headerBytes
    (leBytes 2 2 ++ leBytes 1 pos ++ leBytes 1 (if i < s.dataStripes then 0 else 1) ++ leBytes 4 i ++
      leBytes 8 (s.desc.getD {}).saveId ++ zeros 44)
    (zeros 128 ++ chunk.flatMap fun b => leBytes 4 (crc32c b))

/-! ### Writing the save stripes (R421, R422) -/

/-- Position in a save stripe of the `e`th block of its row: the parity is at position `i mod (K + 1)`. -/
def savePos (k i e : Nat) : Nat :=
  let p := i % (k + 1)
  if e == p then k else if e < p then e else e - 1

/-- Write save stripe `i` at the next place of the table whose row has lost one cistern at most; a chunk on a cistern not in service is an
erasure. The save is incomplete where no place is left. Places follow each other over the rows (R422); a stripe written again takes the
next place not yet used (DESIGN CHOICE, log entry 57). -/
def State.writeSave (s : State) (i : Nat) : Nat → State
  | 0 => { s with sump := { s.sump with saveBad := true } }
  | fuel + 1 =>
    let k := s.sump.saveNext
    let n := s.sump.rows.length
    match s.sump.rows[k % n]? with
    | none => { s with sump := { s.sump with saveBad := true } }
    | some row =>
      if s.tankStripes ≤ k / n then { s with sump := { s.sump with saveBad := true } }
      else
        let gone := row.countP fun b => !s.inService b.1
        let s : State := { s with sump := { s.sump with saveNext := k + 1, saveFails := Tab.put k gone s.sump.saveFails } }
        if 2 ≤ gone then s.writeSave i fuel
        else
          let chunks := s.saveChunks i
          row.zipIdx.foldl (fun (s : State) b =>
            let pos := savePos (row.length - 1) i b.2
            let chunk := chunks.getD pos []
            if !s.inService b.1.1 then s
            else s.issueWrite b.1.1
              { opcode := opProgram, die := b.1.2.1, block := b.1.2.2, page := 4 * (k / n), mask := 15, count := 4, at_ := 0, timeout := 0
                header := s.saveHeader i pos chunk, payload := chunk, use := .save i k pos }) s

/-- A save chunk could not be programmed: a second one of the same stripe has the stripe written again in the next row (R421). -/
def State.saveChunkFailed (s : State) (i k : Nat) : State :=
  let n := Tab.getD k 0 s.sump.saveFails + 1
  let s : State := { s with sump := { s.sump with saveFails := Tab.put k n s.sump.saveFails } }
  if n == 2 && s.sump.save.isSome then s.writeSave i (s.sump.rows.length + 1) else s

/-- Is any save program not yet acknowledged (Table 15.1 step 5)? -/
def State.savePrograms (s : State) : Bool :=
  let saves (t : Tag) : Bool := match t.use with
    | .save _ _ _ => true
    | _ => false
  s.shelf.links.any fun l => (l.2.tags.any fun e => saves e.2) || l.2.backlog.any saves

/-! ### A save from its trigger to its end (R418, R420) -/

/-- Does the controller take commands: SERVE, with no save under way or done, and no clean stop? -/
def State.accepting (s : State) : Bool :=
  s.serving && s.sump.save.isNone && s.sump.saved.isNone && !s.sump.shutting && !s.sump.shutDown

/-- A save that has been made: the descriptor reads SAVED (Table 15.1 step 6). -/
def State.saveDone (s : State) (cause : SaveCause) (start : Nat) : State :=
  let s := s.putDesc fun d => { d with st := dsSaved }
  let s := s.wr Reg.SUMP_LAST_SAVE_RESULT 1
  let s := s.wr Reg.SUMP_LAST_SAVE_DUR_DURATION ((s.tm.mono - start) / us)
  let s := s.count Reg.SUMP_CNT_SAVES
  { s with sump := { s.sump with save := none, saved := some cause } }

/-- A save that could not be made: the descriptor stays SAVING (R421). -/
def State.saveFailed (s : State) (cause : SaveCause) : State :=
  let s := (s.wr Reg.SUMP_LAST_SAVE_RESULT 2).count Reg.SUMP_CNT_SAVES_INCOMPLETE
  { s with sump := { s.sump with save := none, saved := some cause } }

/-- Data fetches under way are abandoned, their commands with them; of a write, the IUs that have entirely arrived take effect
(Table 15.1 step 3). -/
def State.abandonFetches (s : State) : State :=
  (s.host.cmds.filter fun e => e.2.stage == .fetching).foldl (fun (s : State) e =>
    let t := s.partialWrite e.1 e.2
    { t with host := { t.host with cmds := Tab.del e.1 t.host.cmds } }) s

/-- Begin a save: the descriptor reads SAVING, fetches are abandoned, the slot list is frozen, and every occupied slot and the directory,
twice, are written to the save area. It ends at once where there is nothing to save, or nowhere to save it (R421). -/
def State.beginSave (s : State) (cause : SaveCause) : State :=
  if !s.serving || s.sump.save.isSome || s.sump.saved.isSome then s
  else
    let s := s.wake 6
    let s : State := { s with sump := { s.sump with
      save := some (cause, s.tm.mono), shutting := false, saveFails := [], saveNext := 0, saveBad := false } }
    let s := s.abandonFetches
    let n := s.heldSlots
    let s := s.putDesc fun d =>
      { d with st := dsSaving, warm := decide (cause = .warm), saveId := d.saveId + 1, saveTime := s.tm.shelf,
               dataStripes := s.dataStripes, dirStripes := s.dirStripes, slots := n,
               ckptSeq := s.rd64 Reg.FTL_CKPT_SEQ_LO Reg.FTL_CKPT_SEQ_HI, placeSeq := s.ftl.placeSeq }
    let s : State := { s with sump := { s.sump with frozen := s.ftl.versions } }
    if n == 0 then s.saveDone cause s.tm.mono
    else if s.rowK == 0 then s.saveFailed cause
    else
      let total := s.dataStripes + 2 * s.dirStripes
      (List.range total).foldl (fun (s : State) i => s.writeSave i (s.sump.rows.length + 1))
        (s.count Reg.SUMP_CNT_SAVE_STRIPES total)

end Sys2Proof.Machine
end

