-- ==== Sys2Proof/Machine/Reset.lean ====
section
/-! DEFINITION. Entering priming states (R77-R80), and resets (R97-R99, R583, Table 3.5). -/

namespace Sys2Proof.Machine

/-! ### Priming states -/

/-- Fail causes of Table 3.4. -/
def fcNone : Nat := 0
def fcRegulator : Nat := 1
def fcImage : Nat := 2
def fcClock : Nat := 3
def fcDram : Nat := 4
def fcMram : Nat := 5
def fcSram : Nat := 6
def fcSeq : Nat := 7
def fcSlot : Nat := 8
def fcConfig : Nat := 9
def fcVersion : Nat := 10
def fcNotMember : Nat := 11

/-- The ASCII code of a hexadecimal digit. -/
def hexDigit (d : Nat) : Nat := if d < 10 then 0x30 + d else 0x37 + d

/-- The seven bytes of the UART record (R79): `P`, the state and the cause as two hexadecimal digits each, CR and LF. -/
def uartRecord (st cause : Nat) : List Byte :=
  bytesOf [0x50, hexDigit (st / 16 % 16), hexDigit (st % 16), hexDigit (cause / 16 % 16), hexDigit (cause % 16), 0x0D, 0x0A]

/-- Enter a priming state: the time spent in the one left is shown, STATE and FAIL_CAUSE are set, the UART record of R79 is
written, and an INFO event is raised. -/
def State.enterState (s : State) (st : Nat) (cause : Nat := 0) : State :=
  let was := s.st
  let s := if was ≤ stPOD then s.wr (Reg.GLB_PRIME_DUR.at was) ((s.tm.mono - s.prim.enteredAt) / us) else s
  let s := (s.wr Reg.GLB_PRIME_STATUS_STATE st).wr Reg.GLB_PRIME_STATUS_FAIL_CAUSE cause
  let s := { s with prim := { s.prim with enteredAt := s.tm.mono } }
  (s.send (.uart (uartRecord st cause))).raise sevInfo .glb 0x200 noInstance (st + 256 * cause)

/-- Drive a slot's pins (Table 14.1). -/
def State.slotPins (s : State) (n : Nat) (pg rst : Bool) : State :=
  let s := s.wrB (Reg.SLOT_STATUS_PG.at n) pg
  let s := s.wrBit Reg.SLOT_PG_LO Reg.SLOT_PG_HI n pg
  let s := { s with shelf := { s.shelf with chans := Tab.upd n {} (fun (c : Chan) => { c with rstHigh := rst }) s.shelf.chans } }
  s.send (.slotPins n pg rst)

/-- SLOT states of Table 14.2. -/
def chOff : Nat := 0
def chCheck : Nat := 1
def chRamp : Nat := 2
def chOn : Nat := 3
def chFault : Nat := 4
def chHoldoff : Nat := 5

def State.chan (s : State) (n : Nat) : Chan := Tab.getD n {} s.shelf.chans

def State.updChan (s : State) (n : Nat) (f : Chan → Chan) : State :=
  { s with shelf := { s.shelf with chans := Tab.upd n {} f s.shelf.chans } }

def State.chState (s : State) (n : Nat) : Nat := s.rd (Reg.SLOT_STATUS_STATE.at n)

/-- Set a channel's state, and its FAULTED bit. -/
def State.setChan (s : State) (n st : Nat) : State :=
  (s.wr (Reg.SLOT_STATUS_STATE.at n) st).wrBit Reg.SLOT_FAULTED_LO Reg.SLOT_FAULTED_HI n (st == chFault)

/-- Turn a channel off into OFF or HOLDOFF. -/
def State.chanOff (s : State) (n st : Nat) : State :=
  let was := s.chState n
  let s := s.setChan n st
  let s := (s.wr (Reg.SLOT_STATUS_REV_BLOCK.at n) 0).wr (Reg.SLOT_STATUS_JOINED.at n) 0
  let s := if was == chOn then s.slotPins n false false else s
  if st == chHoldoff then
    let ms100 := s.rd (Reg.SLOT_TIMING_RETRY.at n)
    s.updChan n fun c => { c with holdoff := s.tm.mono + ms100 * 100 * ms }
  else s

/-- HALTED (R78): slot channels off, every Ethernet, Skalas and peer link down, no Request Retry Status. -/
def State.halt (s : State) (cause : Nat) : State :=
  let s := s.enterState stHALTED cause
  let s := s.wr Reg.GLB_PRIME_STATUS_RRS 0
  let s := (List.range 4).foldl (fun (s : State) n => s.wr (Reg.ETH_LINK_UP.at n) 0) s
  let s := (List.range 2).foldl (fun (s : State) n => s.wr (Reg.PL_LINK_STATE.at n) 0) s
  slots48.foldl (fun s n =>
    let s := if s.chState n == chOff then s else s.chanOff n chOff
    s.wr (Reg.SKL_LINK_STATE.at n) lkDown) s

/-! ### Resets (R97, R98, Table 3.5) -/

/-- Status that a warm reset leaves as it is: the PCIe link, the clocks' locks and the image's digest (Table 3.5). -/
def warmStatus (f : Field) : Bool :=
  f.acc == .ro && (blockAt f.off == some .pcie || f.off == Reg.PWR_CLK_LOCK.off || decide (0x200040 ≤ f.off ∧ f.off < 0x200070))

/-- Does a reset keep a field (the reset domains of the tables)?  A warm reset keeps the image, so static fields stay, and returns every RW
field, those of the slot domain included, to its POLICY value (R73). -/
def keepField (k : ResetKind) (keepImg : Bool) (f : Field) : Bool :=
  match f.domain with
  | .mram => true
  | .full => decide (k = .warm) && (f.cls == .static || warmStatus f)
  | .launch => false
  | .sticky => decide (k = .warm)
  | .powerOn => decide (k ≠ .powerOn)
  | .slot => decide (k = .watchdog ∨ k = .softFull) || (decide (k = .warm) && f.acc != .rw)
  | .imgStatus => keepImg || decide (k = .warm)

/-- The register file after a reset: counters are reset by a full reset only (R128). -/
def State.resetRegs (s : State) (k : ResetKind) (keepImg : Bool) : State :=
  { s with regs :=
    { active := s.regs.active.filter fun e => match fieldOfKey e.1 with
        | none => false
        | some f => keepField k keepImg f
      counts := if k = .warm then s.regs.counts else [] } }

/-- Does the reset keep DRAM, buffer SRAM and the sump (a warm one, R98)? -/
def ResetKind.isWarm (k : ResetKind) : Bool := decide (k = .warm)

/-- Does the reset take slot power away (Table 3.5)? -/
def ResetKind.dropsSlots (k : ResetKind) : Bool := decide (k = .powerOn ∨ k = .resetN)

/-- Flash translation after a reset: what MRAM and the media hold stays; work in progress is dropped; the map is brought in on
demand (R248); the blocks of a tank in ERASING are erased again (Table 9.9), and so are those of a substitution; copies still to be written
in the map store are written again (R250). -/
def resetFtl (f : Ftl) (nss : Tab Ns) (warm : Bool) : Ftl :=
  let redo := f.metaRedo.filter fun u => match u with
    | .delta | .merge _ => false
    | _ => true
  { map := f.map, placeSeq := f.placeSeq, order := f.order, nextJob := f.nextJob, lastSet := f.lastSet, zeroTags := f.zeroTags
    blocks := f.blocks.map fun (e : Nat × Blk) =>
      (e.1, if e.2.st == 1 && e.2.tank.isNone && !e.2.plsa then { e.2 with st := 0, dirty := true } else e.2)
    tanks := f.tanks.map fun e => (e.1, { e.2 with
      readers := 0, released := false, releaseSent := false, releaseAsked := false,
      members := e.2.members.map fun (m : TankMember) => { m with erased := false } })
    segs := nss.map fun e =>
      let g := Tab.getD e.1 {} f.segs
      (e.1, { all := false, rotated := if warm then g.rotated else g.rotated.map fun (x : Nat × Nat) => (x.1, 0), homes := g.homes })
    journal := f.journal, jseq := f.jseq, ringSeq := f.ringSeq, runs := f.runs, nextRun := f.nextRun, smart := f.smart
    metaWait := redo, metaRedo := redo, dirCopies := f.dirCopies, ckptMap := f.ckptMap, ckptPe := f.ckptPe, ckptLost := f.ckptLost
    slots := f.slots, slotSerial := f.slotSerial, healthGen := f.healthGen, ring := f.ring, lost := f.lost, lostMissed := f.lostMissed
    unerased := f.unerased }

/-- The sump beside its slots after a reset: MRAM and the save area stay; the mirror area of the peer lies in DRAM (R408),
which a warm reset alone keeps (Table 3.5). -/
def resetSump (u : Sump) (warm : Bool) : Sump :=
  let m : Sump := if warm then u else {}
  { descA := u.descA, descB := u.descB, factory := u.factory, rows := u.rows, frozen := u.frozen
    regions := u.regions, peerSlots := m.peerSlots, peerVersions := m.peerVersions, peerRegions := m.peerRegions
    peerSeq := m.peerSeq, peerLost := m.peerLost, peerStale := u.peerStale, pwrfailLow := u.pwrfailLow, inputLow := u.inputLow }

/-- The ciphers after a reset: vault, audit ring and destroyed list stay (R432, R450); the IV counters resume at the next unreserved
range (R150, R443). -/
def resetCry (c : Cry) : Cry :=
  { vault := c.vault, destroyed := c.destroyed, audit := c.audit, ivPrd := c.ivPrdNext, ivPrdNext := c.ivPrdNext
    ivLa := c.ivLaNext, ivLaNext := c.ivLaNext, vaultPriv := c.vaultPriv, vaultPub := c.vaultPub }

/-- Commands lost to a reset, and controllers: PCIe functions that a warm reset keeps come back with CSTS.RDY at SERVE. -/
def resetHost (h : HostSide) (warm : Bool) : HostSide :=
  { next := h.next, nextAssoc := h.nextAssoc
    ctlrs := if warm then h.ctlrs.filter fun e => e.1 < 64 else []
    sqs := if warm then h.sqs else [], cqs := if warm then h.cqs else [] }

/-- The endpoint after a reset: a warm one keeps the link and what the functions' configuration enables. -/
def resetPcie (p : Pcie) (warm : Bool) : Pcie :=
  if warm then { p with tags := [], quarantined := [], fns := p.fns.map fun e => (e.1, { e.2 with rdy := false, coalHeld := [] }) }
  else { perstLow := p.perstLow }

/-- Slots and links after a reset (R583), with the times of a channel carried over to the clock that starts anew: links go down with their tags dropped; program IDs and identities are kept in MRAM. -/
def resetShelf (h : Shelf) (k : ResetKind) (mono : Nat) : Shelf :=
  let base := if k.isWarm then 0 else mono
  { chans := if k.dropsSlots then [] else h.chans.map fun (e : Nat × Chan) => (e.1,
      { e.2 with rstHigh := false, onAt := e.2.onAt - base, holdoff := e.2.holdoff - base
                 checkAt := e.2.checkAt - base, rampedAt := e.2.rampedAt - base })
    links := h.links.map fun e => (e.1, { progId := e.2.progId, ident := e.2.ident })
    feedLow := h.feedLow, peerOn := h.peerOn, fullStart := !k.isWarm }

/-- The state a reset starts at (Table 3.5). -/
def ResetKind.startsAt : ResetKind → Nat
  | .powerOn | .resetN => stAON
  | .watchdog | .softFull => stROM
  | .warm => stMEM

/-- A reservation whose persistence is off does not outlast a power-on or RESET_N of its namespace's owner (R174). -/
def dropReservation (n : Ns) : Ns := if n.ptpl then n else { n with registrants := [], resType := 0, resHolder := 0 }

/-- Everything but the registers after a reset; the queue pairs' generations lie in their contexts in DRAM (R105, R107). -/
def State.resetBlocks (s : State) (k : ResetKind) : State :=
  let warm := k.isWarm
  { s with
    prim := { powered := s.prim.powered, resetNLow := s.prim.resetNLow, warm := warm
              keptSump := warm && (s.serving || s.prim.keptSump), answering := warm, tripHeld := s.prim.tripHeld, enteredAt := s.tm.mono }
    img := { s.img with booted := if warm then s.img.booted else none, staged := none, fusePlan := none }
    commit := {}
    evt := if warm then { s.evt with fatalAt := none, folded := [], coalescing := [] }
      else { seq := s.evt.seq, history := s.evt.history }
    pcie := resetPcie s.pcie warm
    tm := if warm then { s.tm with units := [], busyUnits := [], intentMine := none, intentPeer := none, lastGood := none, measured := [], pps := none, coordFrom := none,
                                   goodSince := none, unbounded := true, mediaBase := s.tm.recorded, baseAt := s.tm.mono }
      else { secure := s.tm.floor, floor := s.tm.floor, recorded := s.tm.recorded, mediaBase := s.tm.recorded }
    cry := resetCry s.cry
    pmu := if warm then s.pmu else {}
    mem := if warm then { s.mem with bar2 := abortMboxes s.mem.bar2 } else { mram := s.mem.mram }
    ns := s.ns.map fun e => (e.1,
      if k.startsAt == stAON && s.owns e.2 then dropReservation { e.2 with claims := [] } else { e.2 with claims := [] })
    prd := { hosts := if warm then s.prd.hosts else [] }
    host := resetHost s.host warm
    rc := { gens := if warm then s.rc.gens else [] }
    qos := {}, mfd := if warm then { fenced := s.mfd.fenced } else {}, seq := {}
    ftl := resetFtl s.ftl s.ns warm
    sump := resetSump s.sump warm
    shelf := resetShelf s.shelf k s.tm.mono
    pod := { epochs := s.pod.epochs } }

/-- The bit of `GLB_RESET_CAUSE` of a kind. -/
def causeField : ResetKind → Field
  | .powerOn => Reg.GLB_RESET_CAUSE_POWER_ON
  | .resetN => Reg.GLB_RESET_CAUSE_RESET_N
  | .watchdog => Reg.GLB_RESET_CAUSE_WATCHDOG
  | .softFull => Reg.GLB_RESET_CAUSE_SW_FULL
  | .warm => Reg.GLB_RESET_CAUSE_WARM

/-- Is the controller held in reset: no input, RESET_N low, or a thermal trip (R77, R539)? -/
def State.heldInReset (s : State) : Bool := !s.prim.powered || s.prim.resetNLow || s.prim.tripHeld

/-- SAVE_LOST as the descriptor in MRAM holds it: it outlasts resets until it is cleared (R427); MIRROR_STALE as it stands (R415). -/
def State.showSaveLost (s : State) : State :=
  (s.wrB Reg.SUMP_STATUS_SAVE_LOST (s.desc.elim false fun d => d.saveLost)).wrB Reg.SUMP_STATUS_MIRROR_STALE s.sump.peerStale

/-- Perform a reset; priming starts once nothing holds the controller in reset.  A watchdog, software full or warm reset drives SLOT_RST_N low on every slot that is ON (R583); the image's static
fields come back with it (R60), and configuration requests go on completing in a warm one (R98), and a full reset other than that of R67 forgets the slots whose POLICY was refused.  A save that the reset cuts short
reads incomplete (Table 15.6). -/
def State.resetNow (s : State) (k : ResetKind) (keepImg : Bool := false) : State :=
  let s := if s.sump.save.isSome then s.wr Reg.SUMP_LAST_SAVE_RESULT 2 else s
  let on := slots48.filter fun n => s.chState n == chOn
  let s := (s.resetRegs k keepImg).resetBlocks k
  let s := if keepImg then s else if k.isWarm then s else { s with img := { s.img with policyFailed := [] } }
  let s := s.wr (causeField k) 1
  let s := if k.dropsSlots then s else on.foldl (fun s n => s.slotPins n true false) s
  let s := s.showIdentity.auditShow.showSaveLost.showHosts
  let s := if k.isWarm then (s.showParams.wr Reg.GLB_PRIME_STATUS_RRS 0) else s
  if s.heldInReset then s else s.enterState k.startsAt

/-- A warm reset with no image booted or DRAM not trained has nothing to keep: a software full reset. -/
def State.effective (s : State) (k : ResetKind) : ResetKind :=
  if k.isWarm && (s.img.booted.isNone || s.mem.dramBytes == 0) then .softFull else k

/-- Tell every other member that this controller is leaving (R475). -/
def State.sendLeaving (s : State) : State :=
  if !s.params.podSection then s
  else ((List.range s.params.members.length).filter (· != s.selfIndex)).foldl (fun (s : State) m =>
    let k := s.peerRoute m .leaving - 52
    if s.plk k == lkActive then s.sendPod k (s.podSend m .leaving) false else s) s

/-- The outcome of the save before a reset (R97). -/
def State.resetSaved (s : State) (k : ResetKind) (done : Bool) : State :=
  (s.resetNow k).wr (if done then Reg.GLB_RESET_CAUSE_SAVE_DONE else Reg.GLB_RESET_CAUSE_SAVE_INCOMPLETE) 1

/-- Take a reset: LEAVING is sent (R475); in SERVE a save comes first (R97, R418), and the reset waits for it; otherwise it
begins at once. -/
def State.takeReset (s : State) (k : ResetKind) : State :=
  let k := s.effective k
  let s := if k = .powerOn then s else s.sendLeaving
  let s := if k = .resetN then { s with prim := { s.prim with resetNAt := s.tm.mono } } else s
  if k = .powerOn || !s.serving then s.resetNow k
  else if s.sump.save.isSome then { s with prim := { s.prim with waiting := some k } }
  else if s.sump.saved.isSome then s.resetSaved k (s.rd Reg.SUMP_LAST_SAVE_RESULT == 1)
  else
    let s := s.beginSave (if k.isWarm then .warm else .reset)
    if s.sump.save.isSome then { s with prim := { s.prim with waiting := some k } }
    else s.resetSaved k (s.rd Reg.SUMP_LAST_SAVE_RESULT == 1)

end Sys2Proof.Machine
end

