-- ==== Sys2Proof/Machine/Windows.lean ====
section
/-! DEFINITION. The state of the window units (R338-R346): entry to DRAW, OVERRUN and its end, and what the
registers show; the schedules of the members compared (R345, R460). -/

namespace Sys2Proof.Machine

/-- CRC-32C over the TIME_WIN fields. -/
def State.winCrc (s : State) : Nat :=
  crc32c (([Reg.TIME_WIN_CFG_SLOTS, Reg.TIME_WIN_CFG_SETS, Reg.TIME_WIN_CFG_SLOT_LEN, Reg.TIME_WIN_CFG_GUARD, Reg.TIME_WIN_OPS_ERASE_BOUND,
    Reg.TIME_WIN_OPS_READ_BOUND, Reg.TIME_WIN_IDLE_IDLE_WAIT].map (fun f => s.rd f) ++
    (List.range 48).map fun k => s.rd (Reg.TIME_WIN_OFFSET.at k)).flatMap fun v => leBytes 4 v)

/-- Does some member's schedule differ from this one's (R460, R345)? -/
def State.schedulesDiffer (s : State) : Bool :=
  s.pod.heard.any fun e => e.1 != s.selfIndex && s.memberServes e.1 && e.2.hello.any fun h => h.winCrc != s.winCrc

/-- Show the cisterns with a unit in DRAW or OVERRUN (Table 12.6). -/
def State.showUnits (s : State) : State :=
  slots48.foldl (fun s c => s.wrBit Reg.TIME_WIN_DRAW_LO Reg.TIME_WIN_DRAW_HI c
    (s.tm.units.any fun e => e.1 / 8 == c)) s

/-- Units enter DRAW (R339). -/
def State.enterDraw (s : State) (us : List Nat) : State :=
  ({ s with tm := { s.tm with
    pendingDraw := [], units := us.foldl (fun t u => Tab.put u (.draw, s.tm.shelf) t) s.tm.units } }).showUnits

/-- Is some unit in OVERRUN? -/
def State.overrun (s : State) : Bool := s.tm.units.any fun e => e.2.1 == .overrun

/-- A draw-down operation of a die has ended: its unit leaves OVERRUN with the last one, and once none is left the waiting units of
the slot enter DRAW (R344). -/
def State.unitDone (s : State) (c die : Nat) : State :=
  let u := s.unitOf c die
  let n := Tab.getD u 0 s.tm.busyUnits
  let s := { s with tm := { s.tm with
    busyUnits := if n ≤ 1 then Tab.del u s.tm.busyUnits else Tab.put u (n - 1) s.tm.busyUnits } }
  if 1 < n || (Tab.find u s.tm.units).map (·.1) != some UnitState.overrun then s
  else
    let s := { s with tm := { s.tm with units := Tab.del u s.tm.units } }
    if s.overrun || s.tm.pendingDraw.isEmpty then s.showUnits else s.enterDraw s.tm.pendingDraw

/-- The units of the ending slot leave DRAW, or enter OVERRUN with an operation still running, which is counted (R344). -/
def State.endUnits (s : State) : State :=
  let drawn := s.tm.units.filter fun e => e.2.1 == UnitState.draw
  let busy := drawn.filter fun e => Tab.has e.1 s.tm.busyUnits
  let s := { s with tm := { s.tm with
    pendingDraw := []
    units := (s.tm.units.filter fun (e : Nat × (UnitState × Nat)) => e.2.1 == UnitState.overrun || Tab.has e.1 s.tm.busyUnits).map
      fun (e : Nat × (UnitState × Nat)) => (e.1, (UnitState.overrun, e.2.2)) } }
  s.count Reg.TIME_CNT_WIN_OVERRUN busy.length

end Sys2Proof.Machine
end

