-- ==== Sys2Proof/Machine/Qos.lean ====
section
/-! DEFINITION. The family of tenant scheduling: arrival at QOS (R189, R190), the choice of the next command (R203, R204), admission
(R201), with the reservation that a command meets (R175), removal (R193), and what a commit does to the scheduler (R206). -/

namespace Sys2Proof.Machine

/-! ### Eligible commands (R202, R203) -/

/-- A head command that its colour and node buckets let through; `full` where only its pump tile's queue has no room. -/
structure Elig where
  tenant : Nat
  id : Nat
  colour : Colour
  bytes : Nat
  path : List Nat
  full : Bool
  deriving DecidableEq, Repr

/-- The head command of a tenant, where it may be admitted but for its pump tile. -/
def State.eligible1 (s : State) (t : Nat) : Option Elig :=
  match s.headOf t, s.tenantPath t with
  | some (id, c), some path =>
    let col := s.colourOf t c
    let bytes := s.byteCharge c
    if col == .red && !(s.is (Reg.QOS_T_CFG_PRIV.at t) && s.is (Reg.QOS_T_CFG_RED_ACTION.at t)) then none
    else if !(path.all fun n => s.holds (.node n) (chargeIn (s.is (Reg.QOS_N_CFG_LEN_MODE.at n)) bytes)) then none
    else some ⟨t, id, col, bytes, path, decide (256 ≤ s.pumpQueue c.pump)⟩
  | _, _ => none

def State.eligibles (s : State) : List Elig := s.qos.held.filterMap fun e => s.eligible1 e.1

/-- The child of node `n` that a command lies under: the entry before `n` on the way from its tenant to the root. -/
def Elig.childOf (e : Elig) (n : Nat) : Option Nat :=
  let rec go : List Nat → Option Nat
    | a :: b :: r => if b == n then some a else go (b :: r)
    | _ => none
  go (tenantChild e.tenant :: e.path)

/-- Children of a node with a command of the colour beneath them, in ascending order; `full` picks those that only a full pump tile
holds back. -/
def childrenOf (es : List Elig) (n : Nat) (col : Colour) (full : Bool) : List Nat :=
  let cs := (es.filter fun e => e.colour == col && e.full == full).filterMap fun e => e.childOf n
  (cs.foldl (fun (t : Tab Unit) c => Tab.put c () t) []).map (·.1)

/-- The first entry of an ascending list after `p`, going round. -/
def after (p : Option Nat) (l : List Nat) : Option Nat :=
  match p with
  | none => l.head?
  | some p => (l.find? fun k => decide (p < k)).or l.head?

/-- An ascending list as it is met from after `p` on. -/
def turned (p : Option Nat) (l : List Nat) : List Nat :=
  match p with
  | none => l
  | some p => (l.filter fun k => decide (p < k)) ++ (l.filter fun k => decide (k ≤ p))

/-! ### The yellow pass (R204) -/

/-- A child's quantum at its node. -/
def State.quantum (s : State) (n c : Nat) : Nat :=
  let w := if c < 4096 then s.rd (Reg.QOS_N_CFG_WEIGHT.at c) else s.rd (Reg.QOS_T_CFG_WEIGHT.at (c - 4096))
  w * (if s.is (Reg.QOS_N_CFG_LEN_MODE.at n) then 1000 else s.rd (Reg.QOS_N_QUANTUM.at n) * 1024)

/-- One round of visits: a child with an eligible yellow command (its charge in `need`) gains a quantum, having joined with 0, and is
served where its deficit covers the charge; another leaves the pass, or is passed over where only its pump tile is full. -/
def State.drrRound (s : State) (n : Nat) (need : Tab Nat) (blocked : List Nat) : List Nat → Tab Nat → Option Nat × Tab Nat
  | [], d => (none, d)
  | c :: rest, d =>
    match Tab.find c need with
    | none => s.drrRound n need blocked rest (if blocked.contains c then d else Tab.del c d)
    | some b =>
      let have_ := Tab.getD c 0 d + s.quantum n c
      if b ≤ have_ then (some c, Tab.put c (have_ - b) d)
      else s.drrRound n need blocked rest (Tab.put c have_ d)

/-- Rounds until a child is served; a quantum of 1 KiB reaches the largest charge within 4,106 of them (R199). -/
def State.drrRounds (s : State) (n : Nat) (need : Tab Nat) (blocked : List Nat) (order : List Nat) :
    Nat → Tab Nat → Option Nat × Tab Nat
  | 0, d => (none, d)
  | fuel + 1, d =>
    match s.drrRound n need blocked order d with
    | (some c, d) => (some c, d)
    | (none, d) => s.drrRounds n need blocked order fuel d

/-- The child that the yellow pass of a node serves next, and the scheduler after it: the child being served while its deficit
lasts, else the pass goes on after it. -/
def State.drr (s : State) (q : Qos) (n : Nat) (need : Tab Nat) (blocked : List Nat) : Option Nat × Qos :=
  let serve (c : Nat) (d : Tab Nat) : Option Nat × Qos :=
    let (g, _, r) := Tab.getD n (0, 0, 0) q.turn
    (some c, { q with deficit := d, serving := Tab.put n c q.serving, turn := Tab.put n (g, c, r) q.turn })
  let again := match Tab.find n q.serving with
    | none => none
    | some c => match Tab.find c need with
      | none => none
      | some b => let d := Tab.getD c 0 q.deficit
        if b ≤ d then some (c, Tab.put c (d - b) q.deficit) else none
  match again with
  | some (c, d) => serve c d
  | none =>
    let members := (q.deficit.map (·.1)).filter fun c => s.parentOf c == n && c != 0
    let cand := (members.foldl (fun (t : Tab Unit) c => Tab.put c () t) (need.map fun e => (e.1, ()))).map (·.1)
    match s.drrRounds n need blocked (turned ((Tab.find n q.turn).map (·.2.1)) cand) 4200 q.deficit with
    | (none, _) => (none, q)
    | (some c, d) => serve c d

/-- The tenant that a node's pass of a colour comes to, through the levels beneath it, and the scheduler after the choice. -/
def State.pick (s : State) (es : List Elig) (col : Colour) : Nat → Nat → Qos → Option (Nat × Qos)
  | 0, _, _ => none
  | fuel + 1, n, q =>
    let below (c : Nat) (q : Qos) : Option (Nat × Qos) := if 4096 ≤ c then some (c - 4096, q) else s.pick es col fuel c q
    let kids := childrenOf es n col false
    if col == .yellow then
      let need := kids.filterMap fun c => match below c q with
        | none => none
        | some (t, _) => (es.find? fun e => e.tenant == t).map fun e =>
          (c, chargeIn (s.is (Reg.QOS_N_CFG_LEN_MODE.at n)) e.bytes)
      match s.drr q n need (childrenOf es n col true) with
      | (none, _) => none
      | (some c, q) => below c q
    else
      let (g, y, r) := Tab.getD n (0, 0, 0) q.turn
      match after (some (if col == .green then g else r)) kids with
      | none => none
      | some c => below c { q with turn := Tab.put n (if col == .green then (c, y, r) else (g, y, c)) q.turn }

/-- The next command (R203): the passes in order, from the root down. -/
def State.choose (s : State) : Option (Elig × Qos) :=
  let es := s.eligibles
  let open_ := es.filter fun e => !e.full
  let col := if open_.any fun e => e.colour == .green then Colour.green
    else if open_.any fun e => e.colour == .yellow then Colour.yellow else Colour.red
  match s.pick es col 4 0 s.qos with
  | none => none
  | some (t, q) => (open_.find? fun e => e.tenant == t).map fun e => (e, q)

/-- The host identity that reservations know a command by (R174). -/
def State.hostOf (s : State) (c : Cmd) : Nat :=
  match c.path with
  | .forwarded _ _ => c.hostId
  | _ => (s.ctlrOf c.ctlr).hostId

/-! ### Reservations: conflicts (R174, R175) -/

/-- Does the reservation type include every registrant as a holder? -/
def allRegistrants (t : Nat) : Bool := t == 5 || t == 6

def Ns.registered (n : Ns) (host : Nat) : Bool := n.registrants.any fun r => r.hostId == host

def Ns.holds (n : Ns) (host : Nat) : Bool :=
  n.resType != 0 && (if allRegistrants n.resType then n.registered host else n.resHolder == host)

/-- Commands that a reservation treats as reads: Read, Compare, Verify; and as writes: Flush, Write, Write Zeroes, Dataset
Management. -/
def readsData (op : Nat) : Bool := [0x02, 0x05, 0x0C].contains op
def writesData (op : Nat) : Bool := [0x00, 0x01, 0x08, 0x09].contains op

/-- Is a command refused by the reservation (types 1 Write Exclusive, 2 Exclusive Access, 3 and 4 the same for registrants only, 5 and
6 for all registrants)? -/
def Ns.conflicts (n : Ns) (host op : Nat) : Bool :=
  let exclusive := n.resType == 2 || n.resType == 4 || n.resType == 6
  let allowed := if n.resType ≤ 2 then n.holds host else n.registered host
  n.resType != 0 && !allowed && (writesData op || (readsData op && exclusive))

/-- Does its namespace's reservation refuse a command that QOS admits now (R175)? -/
def State.barredNow (s : State) (c : Cmd) : Bool := !c.admin && (s.nsOf c.sqe.nsid).any fun n => n.conflicts (s.hostOf c) c.sqe.opcode

/-! ### Queues -/

/-- Show HELD (Table 7.7). -/
def State.showHeld (s : State) (t : Nat) : State :=
  s.wr (Reg.QOS_T_STATUS_HELD.at t) (Tab.getD t [] s.qos.held).length

/-- Take a command out of its tenant's queue. -/
def State.unhold (s : State) (t id : Nat) : State :=
  let l := (Tab.getD t [] s.qos.held).filter (· != id)
  ({ s with qos := { s.qos with held := if l.isEmpty then Tab.del t s.qos.held else Tab.put t l s.qos.held } }).showHeld t

/-- A command of a tenant is admitted: the tenant counts as active (R208).  A mailbox's command, and one before its queue pair's Connect, is of
no tenant. -/
def State.tenantActs (s : State) (c : Cmd) : State :=
  match c.path with
  | .mailbox _ _ => s
  | _ =>
    if c.ctlr == 0 && c.hostId == 0 then s
    else ({ s with qos := { s.qos with lastAdmit := Tab.put c.tenant s.tm.mono s.qos.lastAdmit } }).showLatTol

/-- A command reaches QOS: held at the end of its tenant's queue; an admin command is admitted at once (R189, R190). -/
def State.hold (s : State) (id : Nat) (c : Cmd) : State :=
  if c.admin then (s.setStage id .admitted).tenantActs c
  else
    let s := s.setStage id .held
    ({ s with qos := { s.qos with held := Tab.put c.tenant (Tab.getD c.tenant [] s.qos.held ++ [id]) s.qos.held } }).showHeld
      c.tenant

/-- Is the command in its tenant's queue? -/
def State.isHeld (s : State) (id : Nat) (c : Cmd) : Bool := c.stage == .held && (Tab.getD c.tenant [] s.qos.held).contains id

/-- Take a held command out of its queue without admitting it. -/
def State.dropHeld (s : State) (id : Nat) (c : Cmd) : State := if s.isHeld id c then s.unhold c.tenant id else s

/-- The same in one of the four cases that REMOVED counts (R193). -/
def State.removeHeld (s : State) (id : Nat) (c : Cmd) : State :=
  if s.isHeld id c then (s.unhold c.tenant id).count (Reg.QOS_CNT_REMOVED.at c.tenant) else s

/-- A recorded command that QOS has not admitted in time: it is not executed, and recorded DONE with STALE (R142). -/
def State.refuseLate (s : State) (id : Nat) (c : Cmd) : State := (s.removeHeld id c).finish id 0 0 prdStale

/-- Refuse the recorded commands whose ISSUE_TIME + T_life has passed. -/
def State.refuseOverdue (s : State) : State :=
  (s.host.cmds.filter fun e => e.2.key.isSome && e.2.stage == .held && nonIdempotent e.2 &&
    decide (e.2.prd.issue + s.judgedLife < s.tm.shelf)).foldl (fun (s : State) e => s.refuseLate e.1 e.2) s

/-- Charge an admitted command (R201). -/
def State.chargeAll (s : State) (e : Elig) : State :=
  let b := chargeIn (s.is (Reg.QOS_T_CFG_LEN_MODE.at e.tenant)) e.bytes
  let marker1 := s.is (Reg.QOS_T_CFG_PRIV.at e.tenant) && s.is (Reg.QOS_T_CFG_MARKER.at e.tenant)
  let s := match e.colour with
    | .green =>
      let s := s.charge (.committed e.tenant) b
      if marker1 then s else s.charge (.peak e.tenant) b
    | .yellow => s.charge (.peak e.tenant) b
    | .red => s
  e.path.foldl (fun s n => s.charge (.node n) (chargeIn (s.is (Reg.QOS_N_CFG_LEN_MODE.at n)) e.bytes)) s

/-- QOS_ADMISSION (R203): the decision taken at the monotonic time `now`; the chosen command leaves its queue, is charged and counted, and
enters its pump tile's queue.  A recorded command whose time has passed is refused instead (R142).  A stopped QOS begins nothing (R72), and
before SERVE it admits no I/O command (R85). -/
def execQosAdmission (now : Nat) (s : State) : Host.Outcome State Fault Refusal :=
  settled (let s := (s.atLeast now).refuseOverdue
    if !s.serving || !s.begins .qos then s
    else match s.choose with
      | none => s
      | some (e, q) =>
        let s := { s with qos := q }
        let s := (s.unhold e.tenant e.id).chargeAll e
        let s := s.count ((match e.colour with
          | .green => Reg.QOS_CNT_GREEN
          | .yellow => Reg.QOS_CNT_YELLOW
          | .red => Reg.QOS_CNT_RED).at e.tenant)
        let s := s.count (Reg.QOS_CNT_CHARGE.at e.tenant) e.bytes
        match s.cmdOf e.id with
        | none => s
        | some c => ((s.updCmd e.id fun c => { c with barred := s.barredNow c }).setStage e.id .admitted).tenantActs c)

/-- TENANT_INACTIVE (R208): 1 s after its last admission. -/
def execTenantInactive (tenant : Fin 1024) (s : State) : Host.Outcome State Fault Refusal :=
  settled (match Tab.find tenant.val s.qos.lastAdmit with
    | none => s
    | some t =>
      let s := s.atLeast (t + sec)
      ({ s with qos := { s.qos with lastAdmit := Tab.del tenant.val s.qos.lastAdmit } }).showLatTol)

/-! ### Commits (R206, R197) -/

/-- A rate and a burst inside R197. -/
def rateGood (cmdMode : Bool) (v : Nat) : Bool := decide (v ≤ if cmdMode then 80000 else 400000)
def burstGood (cmdMode : Bool) (v : Nat) : Bool :=
  decide ((if cmdMode then 1 else 4096) ≤ v) && decide (v ≤ 16777215)

/-- The QOS values with the snapshot in place form a scheduler that can be applied (R206). -/
def State.qosGood (s : State) : Bool :=
  let tenants := (List.range 1024).all fun t =>
    let m := s.is (Reg.QOS_T_CFG_LEN_MODE.at t)
    let cir := s.rd (Reg.QOS_T_CIR.at t)
    let pir := s.rd (Reg.QOS_T_PIR.at t)
    let marker1 := s.is (Reg.QOS_T_CFG_PRIV.at t) && s.is (Reg.QOS_T_CFG_MARKER.at t)
    rateGood m cir && rateGood m pir && burstGood m (s.rd (Reg.QOS_T_CBS.at t)) && burstGood m (s.rd (Reg.QOS_T_PBS.at t)) &&
      (marker1 || pir == 0 || decide (cir ≤ pir)) && s.is (Reg.QOS_T_CFG_WEIGHT.at t) &&
      s.inLevel (s.params.levels - 1) (s.rd (Reg.QOS_T_CFG_PARENT.at t))
  let nodes := (List.range s.nodeCount).all fun n =>
    let m := s.is (Reg.QOS_N_CFG_LEN_MODE.at n)
    rateGood m (s.rd (Reg.QOS_N_RATE.at n)) && burstGood m (s.rd (Reg.QOS_N_BURST.at n)) && s.is (Reg.QOS_N_QUANTUM.at n) &&
      (n == 0 || (s.is (Reg.QOS_N_CFG_WEIGHT.at n) &&
        s.inLevel (s.levelOf n - 1) (s.rd (Reg.QOS_N_CFG_PARENT.at n))))
  let priv := (List.range 1024).countP fun t => s.is (Reg.QOS_T_CFG_PRIV.at t)
  let dscp := (List.range 64).all fun d => s.rd (Reg.QOS_DSCP_COLOUR.at (d / 16)) / 4 ^ (d % 16) % 4 != 3
  tenants && nodes && decide (priv ≤ 32) && dscp

/-- Bring a bucket over a commit: its tokens at the old rate (`s`), clipped to the new size (`t`), full where its owner's LEN_MODE
changed. -/
def State.carryBucket (s t : State) (b : BucketId) : State :=
  if t.is b.mode != s.is b.mode then
    t.putBucket b ⟨t.bucketCap b, t.nowUs⟩
  else if s.rd b.rate == t.rd b.rate && s.rd b.burst == t.rd b.burst then t
  else t.putBucket b ⟨min (s.tokens b) (t.bucketCap b), t.nowUs⟩

/-- What the commit instant does to the scheduler: `s` before the values change, `t` after, `keys` the fields that changed (R206). -/
def State.qosCommit (s t : State) (keys : List Nat) : State :=
  let changed (f : Field) : Bool := keys.contains f.key
  let touched := keys.any fun k => decide (0x1000000 ≤ k / 32) && decide (k / 32 < 0x1400000)
  if !touched then t
  else
    let ts := (List.range 1024).filter fun i => keys.any fun k => (k / 32 - 0x1020000) / 0x20 == i && decide (0x1020000 ≤ k / 32)
    let ns := (List.range s.nodeCount).filter fun i => keys.any fun k =>
      (k / 32 - 0x1010000) / 16 == i && decide (0x1010000 ≤ k / 32)
    let t := ts.foldl (fun t i => s.carryBucket (s.carryBucket t (.committed i)) (.peak i)) t
    let t := ns.foldl (fun t i => s.carryBucket t (.node i)) t
    let zero := (ts.filter fun i => changed (Reg.QOS_T_CFG_PARENT.at i) || changed (Reg.QOS_T_CFG_WEIGHT.at i)).map tenantChild ++
      ns.filter fun i => changed (Reg.QOS_N_CFG_PARENT.at i) || changed (Reg.QOS_N_CFG_WEIGHT.at i)
    let t := { t with qos := { t.qos with
      deficit := t.qos.deficit.map fun (e : Nat × Nat) => if zero.contains e.1 then (e.1, 0) else e } }
    t.showQos.showLatTol

end Sys2Proof.Machine
end

