-- ==== Sys2Proof/Machine/Skalas.lean ====
section
/-! DEFINITION. The family of the Skalas links: training, FLITs and recovery (R352-R361), identity and admission
(R88, R369-R372, R382), completions (R365-R368, R376-R383), and tags (R373-R375). -/

namespace Sys2Proof.Machine

/-! ### Statuses of Table 13.8 -/

def skOk : Nat := 0
def skReadUncorrectable : Nat := 1
def skProgramFail : Nat := 2
def skEraseFail : Nat := 3
def skStaleEpoch : Nat := 4
def skFenced : Nat := 5
def skEpochOld : Nat := 6
def skDupExpired : Nat := 8
def skPoisoned : Nat := 9
def skDieFailed : Nat := 11

/-- Outcomes of `SKL_STATUS`. -/
def ocNone : Nat := 0
def ocAdmitted : Nat := 1
def ocMismatch : Nat := 2
def ocUnresponsive : Nat := 3
def ocFailed : Nat := 4

/-- Set a link's admission outcome, with `GLB_PRIME_ADMITTED`. -/
def State.setOutcome (s : State) (n o : Nat) : State :=
  (s.wr (Reg.SKL_STATUS_OUTCOME.at n) o).wrBit Reg.GLB_PRIME_ADMITTED_LO Reg.GLB_PRIME_ADMITTED_HI n (o == ocAdmitted)

/-- An event of a link (group SKL). -/
def State.sklEvent (s : State) (n severity off arg1 : Nat) : State :=
  if h : n < 48 then s.raise severity (.skl ⟨n, h⟩) off n arg1 else s

/-- Tag `g` of a link has gone: a capsule not yet sent leaves the queues, the cells of a READ come free, and what waited may be issued. -/
def State.afterTag (s : State) (n g : Nat) : State :=
  (((s.dropCapsule n g).freeCells (holdRead n g)).issueAll n).resumeReads

/-! ### Ends of tags -/

/-- A read has ended without an answer. -/
def State.readEnded (s : State) (n : Nat) (t : Tag) (k p : Nat) : State :=
  let s := if (s.jobOf k).any Job.isCopy then s.unitDone n t.die else s
  s.readTimeout k p

/-- A tag ends with its link (R375): programs count as failed copies, erases stay pending, reads are reconstructed. -/
def State.lostTag (s : State) (n : Nat) (t : Tag) : State :=
  match t.use with
  | .read k p => s.readEnded n t k p
  | .program q p => (s.dropMember q n).copyFailed q p
  | .subst _ _ _ => s.substLeft n
  | .save i k _ => s.saveChunkFailed i k
  | .erase _ _ => s.unitDone n t.die
  | .reclaim => s.unitDone n t.die
  | _ => s

/-- Every outstanding tag of a link ends as by timeout: counted, and quarantined for twice its timeout (R373, R374); commands that
waited for a tag are not sent. -/
def State.endTags (s : State) (n : Nat) : State :=
  let l := s.linkOf n
  let s := s.count (Reg.SKL_CNT_TIMEOUTS.at n) l.tags.length
  let s := s.updLink n fun l =>
    { l with
      tags := [], backlog := [], refused := []
      quarantined := l.tags.foldl (fun q e => Tab.put e.1 (e.2.opcode, s.tm.mono + 2 * e.2.timeout) q) l.quarantined }
  let s := (l.tags.foldl (fun (s : State) e => (s.dropCapsule n e.1).freeCells (holdRead n e.1)) s).showTags n
  ((l.tags.map (·.2) ++ l.backlog).foldl (fun s t => s.lostTag n t) s).resumeReads

/-- The link is lost (R361): DOWN, counted, the cistern ABSENT unless the peer's channel holds its slot (R401), its tags ended; it
trains again from DETECT while its slot is on; the port's hold runs (R229). -/
def State.linkLost (s : State) (n : Nat) (stay : Bool := false) : State :=
  let s := ((s.count (Reg.SKL_CNT_LINK_LOSSES.at n)).wr (Reg.SKL_LINK_WIDTH.at n) 0).portDown n
  let s := if (s.chan n).rstHigh then s.toDetect n else s.wr (Reg.SKL_LINK_STATE.at n) lkDown
  let s := s.setOutcome n ocNone
  let s := s.updLink n fun l => { l with retrained := true, newIdent := none, newBad := [], epochTries := 0, trainAt := s.tm.mono }
  (if stay then s else s.toAbsent n).endTags n

/-- The link goes down with its slot (R399); a link that was up is lost. -/
def State.linkOff (s : State) (n : Nat) (stay : Bool := false) : State :=
  let up := decide (lkActive ≤ s.lk n ∧ s.lk n ≤ lkL1)
  let s := if up then s.linkLost n stay else if stay then s.setOutcome n ocNone else (s.setOutcome n ocNone).toAbsent n
  s.wr (Reg.SKL_LINK_STATE.at n) lkDown

/-! ### Training and recovery -/

/-- The bridge's identity is asked for (Table 13.3 step 4). -/
def State.identify (s : State) (n : Nat) : State := s.issue n { opcode := opIdentify, at_ := 0, timeout := 0, use := .identify }

/-- A training link fails for good: FAILED and UNRESPONSIVE, or DETECT again after a loss (Table 13.2). -/
def State.trainFailed (s : State) (n : Nat) : State :=
  if (s.linkOf n).retrained then s.toDetect n
  else (((s.wr (Reg.SKL_LINK_STATE.at n) lkFailed).wr (Reg.SKL_LINK_WIDTH.at n) 0).setOutcome n ocUnresponsive).sklEvent n
    sevUncorrected 0x140 ocUnresponsive

/-- The parameter record of PARAM (R358), in a FLIT of its own: replay buffer, initial credits, 0xFF for the bridge port. -/
def State.sendParams (s : State) (n : Nat) : State :=
  let rec_ := leBytes 2 replayRoom ++ leBytes 4 Config.paramCredits.toNat ++ leBytes 1 0xFF ++ zeros 229
  s.sendFlits n [{ start := 0, stream := rec_ }]

/-- SKL_TRAINING_DONE (R354-R358): ACTIVE with the width, polarity, lane order and port found and the credits granted; a lane lost
without LANE_REPAIR, or every lane, is a failed training. -/
def execSklTrainingDone (link : Fin 48) (t : Trained) (s : State) : Host.Outcome State Fault Refusal :=
  settled (let n := link.val
    let repair := s.is (Reg.SKL_LINK_CFG_LANE_REPAIR.at n)
    if s.lk n < lkDetect || 5 < s.lk n then s
    else if t.lanes == 0 || (t.lanes == 1 && !repair) then s.trainFailed n
    else
      let s := (s.wr (Reg.SKL_LINK_STATE.at n) lkActive).portBack n
      let s := s.wr (Reg.SKL_LINK_WIDTH.at n) (min 2 t.lanes)
      let s := s.wr (Reg.SKL_LINK_POL_INV.at n) t.polInv
      let s := s.wrB (Reg.SKL_LINK_REVERSED.at n) t.reversed
      let s := s.wrB (Reg.SKL_LINK_DEGRADED.at n) (t.lanes == 1)
      let s := s.wr (Reg.SKL_LINK_BRIDGE_PORT.at n) t.port
      let s := if t.lanes == 1 then s.sklEvent n sevUncorrected 0x100 1 else s
      let s := s.updLink n fun l =>
        { l with rxSeq := 0, ackSeq := 0, nakSent := false, replays := 0, command := t.commandCredits
                 program := t.programCredits, replayFlits := t.replayFlits, alerts := 0, txSeq := 0, replay := [], txWait := [] }
      (s.sendParams n).identify n)

/-- SKL_TRAINING_RESTART (R354): back to DETECT, not counted. -/
def execSklTrainingRestart (link : Fin 48) (s : State) : Host.Outcome State Fault Refusal :=
  settled (if lkDetect ≤ s.lk link && s.lk link ≤ 5 then s.wr (Reg.SKL_LINK_STATE.at link) lkDetect else s)

/-- A lane that causes REPLAY_LIMIT replays is dropped (R356): x1 and an event; the link goes down where none is left. -/
def State.dropLane (s : State) (n : Nat) : State :=
  if s.is (Reg.SKL_LINK_CFG_LANE_REPAIR.at n) && s.rd (Reg.SKL_LINK_WIDTH.at n) == 2 then
    (((s.wr (Reg.SKL_LINK_WIDTH.at n) 1).wr (Reg.SKL_LINK_DEGRADED.at n) 1).sklEvent n sevUncorrected 0x100 1).recover n
  else s.linkLost n

/-- A NAK: every FLIT not acknowledged is sent again; after REPLAY_LIMIT replays without progress the link enters RECOVERY (R359). -/
def State.onNak (s : State) (n : Nat) (f : Flit) : State :=
  if (s.linkOf n).replays < s.rd (Reg.SKL_LINK_CFG_REPLAY_LIMIT.at n) then
    ((s.updLink n fun l => { l with replays := l.replays + 1 }).count (Reg.SKL_CNT_REPLAYS.at n)).replayFlits n
  else if f.lane.isSome then s.dropLane n
  else s.recover n

/-- FLIT_RECEIVE (R358-R360): a CRC failure is counted and answered with one NAK; FLITs out of order are discarded until the replay
arrives; one received in order is acknowledged; ACK_SEQ, NAK and credits are taken from every FLIT that is not discarded. -/
def execFlitReceive (link : Fin 48) (f : Flit) (s : State) : Host.Outcome State Fault Refusal :=
  settled (let n := link.val
    let l := s.linkOf n
    if s.lk n != lkActive then s
    else
      let s := s.corrected (.skl (Fin.ofNat 48 n)) (Reg.SKL_CNT_FEC_CORRECTED.at n) f.fecCorrected n
      if !f.crcGood then
        let s := s.count (Reg.SKL_CNT_FLIT_CRC_ERR.at n)
        if l.nakSent then s
        else (s.sendNop n true).updLink n fun l => { l with nakSent := true }
      else if !f.nop && f.seq.toNat != l.rxSeq then s
      else
        let s := if f.nop then s
          else (s.updLink n fun l => { l with rxSeq := (l.rxSeq + 1) % 1024, nakSent := false }).sendNop n false
        let s := if f.ackSeq.toNat == l.ackSeq then s
          else (s.updLink n fun l => { l with ackSeq := f.ackSeq.toNat, replays := 0 }).ackFlits n f.ackSeq.toNat
        let s := if f.nak then s.onNak n f else s
        let s := s.updLink n fun l =>
          { l with command := if f.creditClass == 0 then l.command + f.credit else l.command
                   program := if f.creditClass == 1 then l.program + f.credit else l.program }
        s.startPort n)

/-- SKL_RECOVERY_ENTRY (R361): a loss of lock in ACTIVE, or an exit from L1. -/
def execSklRecoveryEntry (link : Fin 48) (s : State) : Host.Outcome State Fault Refusal :=
  settled (if s.lk link == lkActive || s.lk link == lkL1 then s.recover link else s)

/-- SKL_RECOVERY_DONE (R361): the replay resumes after ACK_SEQ. -/
def execSklRecoveryDone (link : Fin 48) (s : State) : Host.Outcome State Fault Refusal :=
  settled (if s.lk link != lkRecovery then s
    else ((((s.wr (Reg.SKL_LINK_STATE.at link) lkActive).replayFlits link).portBack link).startPort link).issueAll link)

/-- SKL_RETRAIN_LIMIT (R361). -/
def execSklRetrainLimit (link : Fin 48) (s : State) : Host.Outcome State Fault Refusal :=
  settled (if s.lk link != lkRecovery then s
    else (s.atLeast ((s.linkOf link).recoveryAt + s.rd (Reg.SKL_LINK_CFG_RETRAIN_LIMIT.at link) * ms)).linkLost link)

/-- SKL_L1_ENTRY (R357): only in S2 or deeper, and only with no tag outstanding. -/
def execSklL1Entry (link : Fin 48) (s : State) : Host.Outcome State Fault Refusal :=
  settled (if s.lk link == lkActive && 2 ≤ s.rd Reg.PWR_STATUS_STATE && (s.linkOf link).tags.isEmpty &&
      (s.linkOf link).backlog.isEmpty then s.wr (Reg.SKL_LINK_STATE.at link) lkL1 else s)

/-! ### Completions -/

/-- Send STATUS to a bridge. -/
def State.poll (s : State) (n : Nat) : State :=
  (s.issue n { opcode := opStatus, at_ := 0, timeout := 0, use := .status }).updLink n fun l => { l with statusAt := s.tm.mono }

/-- FLAGS.ALERT (R372): a STATUS goes out at the first alert after a STATUS without alerts, then at most once per 1 ms. -/
def State.onAlert (s : State) (n : Nat) (c : Cpl) : State :=
  let l := s.linkOf n
  let waiting := l.tags.any fun e => e.2.use == .status
  if c.alert && c.opcode.toNat != 0x83 && !waiting && (l.alerts == 0 || l.statusAt + ms ≤ s.tm.mono) then s.poll n else s

/-- Take a completion (R363, R374, R385): discarded where its header fails, its tag is quarantined (the first is logged) or unknown;
otherwise the tag is free, the bridge's epoch and writers are noted, and DIE_FAILED is a hard failure (R372). -/
def State.takeCpl (s : State) (n : Nat) (c : Cpl) : Option Tag × State :=
  let l := s.linkOf n
  let g := c.tag.toNat
  if s.lk n != lkActive then (none, s)
  else if !c.hcrcGood then (none, s.count (Reg.SKL_CNT_BAD_CAPSULE.at n))
  else if Tab.has g l.quarantined then
    let s := s.count (Reg.SKL_CNT_LATE_CPL.at n)
    if s.is (Reg.SKL_LATE_LOG_VALID.at n) then (none, s)
    else (none, ((s.wr (Reg.SKL_LATE_LOG_TAG.at n) g).wr (Reg.SKL_LATE_LOG_OPCODE.at n) c.opcode.toNat).wr
      (Reg.SKL_LATE_LOG_VALID.at n) 1)
  else match Tab.find g l.tags with
    | none => (none, s.count (Reg.SKL_CNT_BAD_CAPSULE.at n))
    | some t =>
      if c.opcode.toNat != 0x80 + t.opcode then (none, s.count (Reg.SKL_CNT_BAD_CAPSULE.at n))
      else
        let s := if c.dup then s.count (Reg.SKL_CNT_DUP_CPL.at n) else s
        let s := s.wr64 (Reg.SKL_EPOCH_LO.at n) (Reg.SKL_EPOCH_HI.at n) c.epoch.toNat
        let s := s.wr (Reg.SKL_EPOCH_STATUS_WRITERS.at n) c.writers.toNat
        let s := s.updLink n fun l => { l with tags := Tab.del g l.tags }
        let s := (s.afterTag n g).onAlert n c
        (some t, if c.status == skDieFailed then s.hardFail n else s)

/-- Is the status one that the controller answers with an event (BAD_ADDRESS, BAD_CAPSULE, reserved codes)? -/
def badStatus (st : Nat) : Bool := st == 7 || st == 10 || decide (11 < st)

/-- The event of such a status. -/
def State.badEvent (s : State) (n : Nat) (c : Cpl) : State :=
  if badStatus c.status then s.sklEvent n sevUncorrected 0x140 c.status else s

/-! ### Admission (R88, R316, R369 to R372, R382, R474) -/

/-- Does the identity match the MEDIA section (R369)? -/
def State.geometryMatches (s : State) (id : Ident) : Bool :=
  let p := s.params
  id.pageBytes == 16384 && id.metaBytes == 64 && id.pagesPerBlock == p.pagesPerBlock &&
  decide (id.blocksPerDie ≤ p.blocksPerDie) && decide (id.dies ≤ p.diesMax) && id.nl == leAt p.thr 5 1

/-- Take a fresh cistern into service: its blocks are free but for the factory-bad ones; another serial number clears the slot's
counts (R298). -/
def State.takeFresh (s : State) (n : Nat) (id : Ident) (bad : List (Nat × Nat)) : State :=
  let s := { s with ftl := { s.ftl with
    blocks := (s.ftl.blocks.filter fun (e : Nat × Blk) => blkCistern e.1 != n || e.2.tank.isSome)
    slots := if Tab.find n s.ftl.slotSerial == some id.serial then s.ftl.slots else Tab.del n s.ftl.slots
    slotSerial := Tab.put n id.serial s.ftl.slotSerial } }
  let s := s.updLink n fun l => { l with ident := some id }
  bad.foldl (fun s b => s.updBlk (blkKey n b.1 b.2) fun k => { k with st := 4 }) s

/-- Does any tank hold a block of the slot's former cistern? -/
def State.heldBy (s : State) (n : Nat) : Bool := s.ftl.tanks.any fun e => e.2.members.any fun m => m.cistern == n

/-- Back in service with everything it held; a substitution of its blocks under way is abandoned (Table 11.7). -/
def State.comeBack (s : State) (n : Nat) (id : Ident) : State :=
  let s := if s.ftl.subst.any fun u => u.swaps.any fun w => blkCistern w.2.1 == n then s.abandonSubst else s
  let s := { s with ftl := { s.ftl with
    graceAt := Tab.del n s.ftl.graceAt, swept := s.ftl.swept.filter (· != n)
    found := s.ftl.found.filter fun (e : Nat × (Nat × Nat)) => e.1 / 2 ^ 34 != n } }
  ((s.wr (Reg.PAR_CSTATE_GRACE_LEFT.at n) 0).updLink n fun l => { l with ident := some id }).setCst n cInService

/-- Resolve an admitted cistern by its slot's state (R316, Table 11.7). -/
def State.resolve (s : State) (n : Nat) (id : Ident) (bad : List (Nat × Nat)) : State :=
  let former := (s.linkOf n).ident
  let same := former.any fun f => sameIdent f id
  let wait := fun (s : State) => { s with ftl := { s.ftl with waitingId := Tab.put n id s.ftl.waitingId } }
  let c := s.cst n
  if c == cInService then s
  else if c == cAbsent then
    (if same then (s.comeBack n id).count Reg.PAR_CNT_READMITTED else wait (s.toRebuilding n))
  else if c == cRebuilding || c == cWorn then (if same && c == cRebuilding then s.comeBack n id else if same then s else wait s)
  else if c == cFailed then (s.takeFresh n id bad).newCapacity n id
  else if same then s.comeBack n id
  else if former.isSome && s.heldBy n then wait (s.toRebuilding n)
  else (s.takeFresh n id bad).setCst n cInService

/-- The cistern is admitted (R88): it joins placement, unless PWRFAIL_N has stopped priming (R96). -/
def State.admitted (s : State) (n : Nat) : State :=
  let l := s.linkOf n
  match l.newIdent with
  | none => s
  | some id =>
    if s.prim.pwrStop then s else
    let s := (s.setOutcome n ocAdmitted).updLink n fun l =>
      { l with newIdent := none, newBad := [], epochTries := 0, statusAt := s.tm.mono, tempAt := s.tm.mono }
    let s := (s.resolve n id l.newBad).checkWorn n
    (s.startSubst.showSpare.showSpread.showDraw.showRedundancy).showRebuild.assignAll

/-- Send EPOCH_SET (R381). -/
def State.epochSet (s : State) (n epoch writers : Nat) : State :=
  s.issue n { opcode := opEpochSet, epoch := Tab.getD n 0 s.pod.epochs, at_ := 0, timeout := 0, use := .epochSet epoch writers }

/-- Own writer bit, and the partner's. -/
def State.ownBit (s : State) : Nat := 2 ^ s.side
def State.peerBit (s : State) : Nat := 2 ^ (1 - s.side)

/-- Settle a cistern's epoch at admission (R382, R474): in a shelf with two controllers not before SERVE; side 0 of a serving pair permits both writers, a controller without a
serving partner itself only, and side 1 of a serving pair waits for EPOCH_NOTE; a bridge that only the partner may write, at an
epoch above the recorded one, is left alone while the partner cannot be reached. -/
def State.settleEpoch (s : State) (n : Nat) : State :=
  let rec_ := Tab.getD n 0 s.pod.epochs
  let bridge := s.rd64 (Reg.SKL_EPOCH_LO.at n) (Reg.SKL_EPOCH_HI.at n)
  let writers := s.rd (Reg.SKL_EPOCH_STATUS_WRITERS.at n)
  let next := max rec_ bridge + 1
  if s.st == stISOLATED || (s.partner.isSome && !s.serving) then s.admitted n
  else if s.partnerServes then (if s.side == 0 then s.epochSet n next 3 else s.admitted n)
  else if s.partner.isSome && rec_ < bridge && writers == s.peerBit then
    ({ s with pod := { s.pod with epochs := Tab.del n s.pod.epochs } }.wr Reg.POD_STATUS_OWN_NONE 1).admitted n
  else s.epochSet n next s.ownBit

/-- Go on with an admission: the next page of bad blocks, else the epoch. -/
def State.nextBadPage (s : State) (n page : Nat) : State :=
  let l := s.linkOf n
  if l.badLeft == 0 then s.settleEpoch n
  else s.issue n { opcode := opBadBlocks, page := page, at_ := 0, timeout := 0, use := .badBlocks page }

/-- IDENTIFY_DONE (R88, R369, R371): the identity is shown and compared; a mismatch is marked and raises an event, a match goes on with
the bad-block list. -/
def execIdentifyDone (link : Fin 48) (c : Cpl) (id : Ident) (s : State) : Host.Outcome State Fault Refusal :=
  settled (let n := link.val
    match s.takeCpl n c with
    | (some t, s) =>
      if t.use != .identify then s
      else if c.status != skOk then s.badEvent n c
      else
        let s := s.wr64 (Reg.SKL_ID_SERIAL_LO.at n) (Reg.SKL_ID_SERIAL_HI.at n) id.serial
        let s := s.wr (Reg.SKL_ID_GEN_GENERATION.at n) id.generation
        let s := (s.wr (Reg.SKL_ID_GEOM_DIES.at n) id.dies).wr (Reg.SKL_ID_GEOM_VERSION.at n) id.version
        let s := s.wr64 (Reg.SKL_EPOCH_LO.at n) (Reg.SKL_EPOCH_HI.at n) id.epoch
        let s := s.wr (Reg.SKL_EPOCH_STATUS_WRITERS.at n) id.writers
        if !s.geometryMatches id then (s.setOutcome n ocMismatch).sklEvent n sevUncorrected 0x140 ocMismatch
        else
          let pages := (id.badCount + 1021) / 1022
          (s.updLink n fun l => { l with newIdent := some id, newBad := [], badLeft := pages }).nextBadPage n 0
    | (none, s) => s)

/-- BADBLOCKS_DONE (R280, R371): a page of (die, block) entries. -/
def execBadblocksDone (link : Fin 48) (c : Cpl) (bad : List (Nat × Nat)) (s : State) : Host.Outcome State Fault Refusal :=
  settled (let n := link.val
    match s.takeCpl n c with
    | (some t, s) =>
      match t.use with
      | .badBlocks page =>
        if c.status != skOk then s.badEvent n c
        else (s.updLink n fun l => { l with newBad := l.newBad ++ bad, badLeft := l.badLeft - 1 }).nextBadPage n (page + 1)
      | _ => s
    | (none, s) => s)

/-- CISTERN_STATUS_POLL (R372): once per second, to an admitted cistern. -/
def execCisternStatusPoll (link : Fin 48) (s : State) : Host.Outcome State Fault Refusal :=
  settled (if s.rd (Reg.SKL_STATUS_OUTCOME.at link) != ocAdmitted then s
    else (s.atLeast ((s.linkOf link).statusAt + sec)).poll link)

/-- Band of the temperature histogram (Table 10.5). -/
def tempBand (t : Int) : Nat := if t < 20 then 0 else if 90 ≤ t then 15 else ((t - 15) / 5).toNat

/-- STATUS_DONE (R289, R372): the temperature; a failed bridge or die is a hard failure.  TEMP_MAX is kept with 256 added. -/
def execStatusDone (link : Fin 48) (c : Cpl) (st : CisternStatus) (s : State) : Host.Outcome State Fault Refusal :=
  settled (let n := link.val
    match s.takeCpl n c with
    | (some t, s) =>
      if t.use != .status then s
      else if c.status != skOk then s.badEvent n c
      else
        let s := s.wr (Reg.SKL_STATUS_TEMP.at n) (st.temp % 256).toNat
        let s := s.wr64 (Reg.SKL_EPOCH_LO.at n) (Reg.SKL_EPOCH_HI.at n) st.epoch.toNat
        let s := s.wr (Reg.SKL_EPOCH_STATUS_WRITERS.at n) st.writers.toNat
        let s := s.updLink n fun l => { l with alerts := st.alerts, tempAt := s.tm.mono }
        let s := (s.slotCount n (0x80 + 4 * tempBand st.temp))
        let s := { s with ftl := { s.ftl with
          slots := Tab.upd n [] (Tab.upd 0x0E 0 (max (st.temp + 256).toNat)) s.ftl.slots } }
        if st.failed || 0 < st.failedDies then s.hardFail n else s
    | (none, s) => s)

/-- This controller has been fenced (R476): counted, LEAVING, a warm reset. -/
def State.fenceLost (s : State) : State := (s.count Reg.POD_CNT_FENCE_LOST).takeReset .warm

/-- A current epoch is there for a cistern: writes that waited for it go on, those refused under new program IDs (R383). -/
def State.reissueRefused (s : State) (c : Nat) : State :=
  let e := Tab.getD c 0 s.pod.epochs
  let ts := (s.linkOf c).refused
  let s := s.updLink c fun l =>
    { l with refused := [], backlog := l.backlog.map fun (t : Tag) => if t.writes && t.retries == 0 then { t with epoch := e } else t }
  (ts.foldl (fun (s : State) t => s.issueWrite c { t with retries := 0 }) s).issueAll c

/-- A fencing EPOCH_SET has ended (R476). -/
def State.fenceDone (s : State) (n epoch : Nat) (old : Bool) : State :=
  if !old then
    let left := s.pod.fencing.filter (· != n)
    let s := { s with
      pod := { s.pod with fencing := left, fenced := left.isEmpty, epochs := Tab.put n epoch s.pod.epochs }
      sump := { s.sump with securing := s.sump.securing && !left.isEmpty, secured := s.sump.secured || left.isEmpty } }
    (s.wr (Reg.SKL_EPOCH_STATUS_FENCED.at n) 0).reissueRefused n
  else if s.side == 0 && s.pod.fenceRound == 0 then
    let s := { s with pod := { s.pod with fenceRound := 1, fenced := false, fencing := s.served } }
    s.served.foldl (fun s c => s.epochSet c (Tab.getD c 0 s.pod.epochs + 2) s.ownBit) s
  else s.fenceLost

/-- Has a later EPOCH_SET for the cistern taken the place of the one at `epoch` (R476)? -/
def State.superseded (s : State) (n epoch : Nat) : Bool :=
  let l := s.linkOf n
  (l.tags.map (·.2) ++ l.backlog).any fun t => match t.use with
    | .epochSet e _ => decide (epoch < e)
    | _ => false

/-- EPOCH_SET_DONE (R382, R474, R476): a fence, or the epoch of an admission; EPOCH_OLD is tried once more, then the cistern is not
admitted. -/
def execEpochSetDone (link : Fin 48) (c : Cpl) (s : State) : Host.Outcome State Fault Refusal :=
  settled (let n := link.val
    match s.takeCpl n c with
    | (some t, s) =>
      match t.use with
      | .epochSet e w =>
        if s.pod.fencing.contains n && s.superseded n e then
          (if c.status == skOk then { s with pod := { s.pod with epochs := Tab.put n e s.pod.epochs } }
           else if c.status == skEpochOld then s
           else s.badEvent n c)
        else if s.pod.fencing.contains n then
          (if c.status == skOk then s.fenceDone n e false
           else if c.status == skEpochOld then s.fenceDone n e true
           else s.badEvent n c)
        else if c.status == skOk then
          let s := { s with pod := { s.pod with epochs := Tab.put n e s.pod.epochs } }
          let s := s.wr (Reg.SKL_EPOCH_STATUS_FENCED.at n) 0
          let s := if w == 3 then s.toPartner (.epochNote n e) else s
          (s.admitted n).reissueRefused n
        else if c.status != skEpochOld then s.badEvent n c
        else if (s.linkOf n).epochTries == 0 then
          (s.updLink n fun l => { l with epochTries := 1 }).epochSet n (c.epoch.toNat + 1) w
        else (s.setOutcome n ocFailed).sklEvent n sevUncorrected 0x140 ocFailed
      | _ => s
    | (none, s) => s)

/-! ### Reads, programs, erases -/

/-- READ_DONE (R365, R288, R291): the sectors go to the read's position; a page that did not decode, or a sector whose check fails,
takes the next retry step.  `front` is what a read of a whole chunk brings of its header's first 64 bytes: a header that fails HDR_CRC makes the
chunk unreadable (R241, R303). -/
def execReadDone (link : Fin 48) (c : Cpl) (sectors : List SectorIn) (front : List Byte) (s : State) : Host.Outcome State Fault Refusal :=
  settled (let n := link.val
    match s.takeCpl n c with
    | (some t, s) =>
      match t.use with
      | .read k p =>
        let s := if (s.jobOf k).any Job.isCopy then s.unitDone n t.die else s
        if badStatus c.status || c.status == skDieFailed then (s.badEvent n c).readTimeout k p
        else
          let whole := t.count == 4
          let pageBad := fun i => decide (2 ≤ c.pageStatus / 4 ^ (if whole then i / 4 else 0) % 4)
          let allGood := (List.range sectors.length).all fun i => !pageBad i
          if c.status != skOk || (whole && allGood && !headerGood front sectors) then s.readAnswer k p []
          else
            let s := (s.jobOf k).elim s fun j => s.useKey j.nsid
            let parts := (s.judge k p sectors).zipIdx.map fun (e : Part × Nat) => if pageBad e.2 then {} else e.1
            let wrong := parts.countP fun (x : Part) => x.wrong
            let s := if wrong == 0 then s
              else (s.count Reg.FTL_CNT_CRC_MISMATCH wrong).slotCount n 0x50 wrong
            let s := if whole && allGood then s.updJob k fun j => { j with front := front } else s
            s.readAnswer k p parts
      | _ => s
    | (none, s) => s)

/-- A program has failed for its stripe (R261, R309): no commit; the stripe is placed again, its tank closed short; of a copy target every
stripe not yet committed is copied again (R271). -/
def State.programFailed (s : State) (seq : Nat) : State :=
  match Tab.find seq s.ftl.fly with
  | none => s
  | some st =>
    let others := s.ftl.fly.filter fun e => e.1 != seq && e.2.tank == st.tank && decide (4 ≤ st.cls ∧ st.cls ≤ 7)
    others.foldl (fun (s : State) e => s.abandonStripe e.2) (s.abandonStripe st)

/-- A program failure reported by the NAND (Table 10.1): counted, and the block marked for retirement. -/
def State.nandProgramFail (s : State) (n : Nat) (t : Tag) (seq : Nat) : State :=
  let s := (s.count Reg.FTL_CNT_PROGRAM_FAIL).slotCount n 0x28
  (s.programFailed seq).markBlock (blkKey n t.die t.block)

/-- A write refused under a stale epoch (R383, R476): writes to the cistern stop; fenced by the partner, this controller leaves; a command sent
under an epoch since renewed goes out again at once, and one whose epoch this controller is setting, or the partner may supply, waits for it
(DEDUCED, log entry 44); with nobody to supply an epoch it is a hard failure. -/
def State.epochRefused (s : State) (n : Nat) (t : Tag) (c : Cpl) : State :=
  let s := (s.count (Reg.SKL_CNT_EPOCH_REFUSED.at n)).wr (Reg.SKL_EPOCH_STATUS_FENCED.at n) 1
  let higher := decide (Tab.getD n 0 s.pod.epochs < c.epoch.toNat)
  let l := s.linkOf n
  let renewing := (l.tags.map (·.2) ++ l.backlog).any fun x => match x.use with
    | .epochSet _ _ => true
    | _ => false
  if s.partner.isSome && higher && c.writers.toNat / 2 ^ s.side % 2 == 0 then s.fenceLost
  else if decide (t.epoch < c.epoch.toNat) && Tab.find n s.pod.epochs == some c.epoch.toNat && c.writers.toNat / 2 ^ s.side % 2 == 1 then
    (s.wr (Reg.SKL_EPOCH_STATUS_FENCED.at n) 0).issueWrite n { t with retries := 0 }
  else if renewing || s.partnerServes then s.updLink n fun l => { l with refused := l.refused ++ [t] }
  else s.hardFail n

/-- A position has acknowledged: a stripe with failed copies settles as soon as all have answered (R309). -/
def State.acked (s : State) (seq pos : Nat) : State :=
  match Tab.find seq s.ftl.fly with
  | none => s
  | some st =>
    let st := { st with acked := pos :: st.acked.filter (· != pos) }
    let s := { s with ftl := { s.ftl with fly := Tab.put seq st s.ftl.fly } }
    if st.settled && !st.missing.isEmpty then s.settleShort st else s

/-- PROGRAM_DONE (R318, R368, R421, Table 13.8): of a stripe's chunk, of a substitute's, of a save's. -/
def execProgramDone (link : Fin 48) (c : Cpl) (s : State) : Host.Outcome State Fault Refusal :=
  settled (let n := link.val
    match s.takeCpl n c with
    | (some tag, s) =>
      match tag.use with
      | .program q p =>
        if c.status == skOk then s.acked q p
        else if c.status == skProgramFail || c.status == skDupExpired then s.nandProgramFail n tag q
        else if c.status == skStaleEpoch || c.status == skFenced then
          (if ((Tab.find q s.ftl.fly).any fun st => st.cls == clsMeta) then
            ((s.count (Reg.SKL_CNT_EPOCH_REFUSED.at n)).wr (Reg.SKL_EPOCH_STATUS_FENCED.at n) 1).programFailed q
           else s.epochRefused n tag c)
        else if c.status == skPoisoned then s.issue n tag
        else (s.badEvent n c).programFailed q
      | .subst t i m =>
        if c.status == skOk then (s.substAcked t i m).showRebuild
        else if c.status == skStaleEpoch || c.status == skFenced then s.epochRefused n tag c
        else if c.status == skPoisoned then s.issue n tag
        else
          let k := blkKey n tag.die tag.block
          let nand := c.status == skProgramFail || c.status == skDupExpired
          let s := if nand then (s.count Reg.FTL_CNT_PROGRAM_FAIL).slotCount n 0x28 else s.badEvent n c
          if nand then s.substFailed t k else s.abandonSubst.startSubst
      | .save i k _ =>
        if c.status == skOk then s
        else if c.status == skPoisoned then s.issue n tag
        else s.saveChunkFailed i k
      | _ => s
    | (none, s) => s)

/-- One more erase of a block (R279, Table 10.1): PE advances whether it passed or failed; a block at its rated cycles is retired at once. -/
def State.wearBlock (s : State) (k : Nat) : State :=
  let s := s.updBlk k fun b => { b with pe := min 1048575 (b.pe + 1), unc := 0 }
  let pct := s.rd Reg.FTL_RETIRE_EOL_PCT
  if (s.blkOf k).st < 3 && pct != 0 && s.params.peLimit * pct ≤ 100 * (s.blkOf k).pe then s.retireNow k else s

/-- A member's block is erased; a failed erase marks it for retirement. -/
def State.memberErased (s : State) (tank pos : Nat) (failed : Bool) : State :=
  let s := s.updTank tank fun tk => { tk with members := tk.members.zipIdx.map fun (e : TankMember × Nat) =>
    if e.2 == pos then { e.1 with erased := true, marked := e.1.marked || (s.blkOf e.1.key).st == 3 } else e.1 }
  match if failed then (s.tankOf tank).members[pos]? else none with
  | some m => s.markBlock m.key
  | none => s

/-- A block erased before it enters its pool (R316): into the pool, or retired. -/
def State.reclaimed (s : State) (n : Nat) (t : Tag) (failed : Bool) : State :=
  let k := blkKey n t.die t.block
  let q := n * 256 + t.die
  let s := match Tab.find q s.ftl.unerased with
    | some b =>
      if b != t.block then s
      else { s with ftl := { s.ftl with
        unerased := if s.blocksPerDie n ≤ b + 1 then Tab.del q s.ftl.unerased else Tab.put q (b + 1) s.ftl.unerased } }
    | none => s
  let s := s.updBlk k fun b => { b with dirty := false }
  if 3 ≤ (s.blkOf k).st then s.checkWorn n
  else if failed || (s.blkOf k).st == 2 then (s.retireNow k).checkWorn n
  else (s.updBlk k fun b => { b with st := if b.plsa then b.st else 0 }).showDraw

/-- An erase has ended. -/
def State.eraseEnded (s : State) (n : Nat) (t : Tag) (failed : Bool) : State :=
  let k := blkKey n t.die t.block
  let s := s.unitDone n t.die
  let s := if failed then (s.count Reg.FTL_CNT_ERASE_FAIL).slotCount n 0x30 else s
  let s := if 3 ≤ (s.blkOf k).st then s else s.wearBlock k
  match t.use with
  | .erase tank pos => s.memberErased tank pos failed
  | .reclaim => s.reclaimed n t failed
  | _ => s

/-- ERASE_DONE (R368, Table 13.8): an erase that was not done is issued again while its block waits. -/
def execEraseDone (link : Fin 48) (c : Cpl) (s : State) : Host.Outcome State Fault Refusal :=
  settled (let n := link.val
    match s.takeCpl n c with
    | (some t, s) =>
      if t.opcode != opErase then s
      else if c.status == skOk then s.eraseEnded n t false
      else if c.status == skEraseFail || c.status == skDupExpired then s.eraseEnded n t true
      else if c.status == skStaleEpoch || c.status == skFenced then (s.unitDone n t.die).epochRefused n t c
      else if c.status == skPoisoned then s.issue n t
      else (s.unitDone n t.die).badEvent n c
    | (none, s) => s)

/-! ### Timeouts (R373 to R375) -/

/-- An administrative command that was resent in vain: UNRESPONSIVE at admission, a hard failure in service. -/
def State.adminFailed (s : State) (n : Nat) : State :=
  if s.rd (Reg.SKL_STATUS_OUTCOME.at n) == ocAdmitted then s.hardFail n
  else (s.setOutcome n ocUnresponsive).sklEvent n sevUncorrected 0x140 ocUnresponsive

/-- What a timeout does for the command (R375). -/
def State.afterTimeout (s : State) (n : Nat) (t : Tag) : State :=
  let again := { t with retries := t.retries + 1 }
  let more := decide (t.retries < s.rd (Reg.SKL_RETRY_PROG_RETRIES.at n))
  match t.use with
  | .read k p => s.readEnded n t k p
  | .program q _ => if more then s.issue n again else s.nandProgramFail n t q
  | .erase _ _ => if more then s.issue n again else s.eraseEnded n t true
  | .reclaim => if more then s.issue n again else s.eraseEnded n t true
  | .subst k _ _ => if more then s.issue n again
    else ((s.count Reg.FTL_CNT_PROGRAM_FAIL).slotCount n 0x28).substFailed k (blkKey n t.die t.block)
  | .save i k _ => if more then s.issue n again else s.saveChunkFailed i k
  | .identify => if t.retries == 0 then s.issue n again else s.adminFailed n
  | .status => if t.retries == 0 then s.issue n again else s.adminFailed n
  | .badBlocks _ => if t.retries == 0 then s.issue n again else s.adminFailed n
  | .epochSet _ _ => if t.retries == 0 then s.issue n again else s.adminFailed n

/-- SKL_TAG_TIMEOUT (R373-R375): counted, and the tag quarantined for twice its timeout. -/
def execSklTagTimeout (link : Fin 48) (tag : BitVec 10) (s : State) : Host.Outcome State Fault Refusal :=
  settled (let n := link.val
    match Tab.find tag.toNat (s.linkOf n).tags with
    | none => s
    | some t =>
      let s := (s.atLeast (t.at_ + t.timeout)).count (Reg.SKL_CNT_TIMEOUTS.at n)
      let s := s.updLink n fun l =>
        { l with tags := Tab.del tag.toNat l.tags
                 quarantined := Tab.put tag.toNat (t.opcode, s.tm.mono + 2 * t.timeout) l.quarantined }
      ((s.dropCapsule n tag.toNat).afterTimeout n t).afterTag n tag.toNat)

/-- SKL_TAG_QUARANTINE_END (R374). -/
def execSklTagQuarantineEnd (link : Fin 48) (tag : BitVec 10) (s : State) : Host.Outcome State Fault Refusal :=
  settled (let n := link.val
    match Tab.find tag.toNat (s.linkOf n).quarantined with
    | none => s
    | some (_, t) =>
      ((s.atLeast t).updLink n fun l => { l with quarantined := Tab.del tag.toNat l.quarantined }).issueAll n)

/-- ADMIT_TIMEOUT (R88): no identity within ADMIT_TIMEOUT of SLOT_RST_N release: UNRESPONSIVE, the slot left powered, an event; a first
training that has not reached PARAM ends in FAILED. -/
def execAdmitTimeout (cistern : Fin 48) (s : State) : Host.Outcome State Fault Refusal :=
  settled (let n := cistern.val
    let l := s.linkOf n
    if !(s.chan n).rstHigh || s.rd (Reg.SKL_STATUS_OUTCOME.at n) != ocNone || l.newIdent.isSome then s
    else
      let s := s.atLeast (l.trainAt + s.rd Reg.GLB_PRIME_CTL_ADMIT_TIMEOUT * 10 * ms)
      if s.lk n < lkActive then s.trainFailed n
      else if l.retrained then s
      else (s.setOutcome n ocUnresponsive).sklEvent n sevUncorrected 0x140 ocUnresponsive)

end Sys2Proof.Machine
end

