-- ==== Sys2Proof/Machine/Slots.lean ====
section
/-! DEFINITION. The family of slot power (chapter 14): the channel sequence, limit and fast trip, loss and return of the feed, faults,
retry and removal, and the slot groups of priming (R87). -/

namespace Sys2Proof.Machine

/-! ### Fault causes (Table 14.4) -/

def ftFastTrip : Nat := 1
def ftLimit : Nat := 2
def ftShort : Nat := 3
def ftOpenSense : Nat := 4
def ftBackfeed : Nat := 5
def ftPgLost : Nat := 6
def ftGate : Nat := 7

/-! ### Entering CHECK (R391) -/

/-- Has the slot's place in the grouped power-on of a full start come (R87, R391)? Outside that priming no grouping applies; none comes
once PWRFAIL_N has stopped priming (R96). -/
def State.groupOpen (s : State) (n : Nat) : Bool :=
  let st := s.st
  if st == stHALTED || s.prim.pwrStop then false
  else if !s.shelf.fullStart || stPRIME < st then true
  else st == stPRIME && !(s.shelf.groups.any fun g => g.contains n) && !s.shelf.late.contains n

/-- Enter CHECK where every condition of R391 and the feed's return (R397) hold. -/
def State.tryCheck (s : State) (n : Nat) : State :=
  if s.chState n == chOff && s.is (Reg.SLOT_CTL_EN.at n) && s.params.sklEnable / 2 ^ n % 2 == 1 && (s.chan n).present &&
      s.begins .slot && !s.shelf.feedLow && s.groupOpen n then
    (s.setChan n chCheck).updChan n fun c => { c with checkAt := s.tm.mono, waiting := false, ramped := false }
  else s

/-- Every channel in OFF tries. -/
def State.tryChecks (s : State) : State := slots48.foldl (fun s n => s.tryCheck n) s

/-- Cut slots, in order, into groups of `k` (R87). -/
def groupsOf (k : Nat) (l : List Nat) : Nat → List (List Nat)
  | 0 => []
  | fuel + 1 => if l.isEmpty then [] else l.take (max 1 k) :: groupsOf k (l.drop (max 1 k)) fuel

/-- The slot groups of a full start, as PRIME is entered (R87): enabled slots with a cistern, but those already ON. -/
def State.formGroups (s : State) : State :=
  let all := slots48.filter fun n => s.params.sklEnable / 2 ^ n % 2 == 1 && (s.chan n).present && s.chState n != chOn
  { s with shelf := { s.shelf with groups := groupsOf (s.rd Reg.GLB_PRIME_CTL_SLOT_GROUP) all 48, nextGroup := 0, late := [] } }

/-! ### Faults (R395, R398, R401) -/

/-- Load RETRIES_LEFT from AUTO_RETRY (R398). -/
def State.loadRetries (s : State) (n : Nat) : State :=
  s.wr (Reg.SLOT_STATUS_RETRIES_LEFT.at n) (s.rd (Reg.SLOT_CTL_AUTO_RETRY.at n))

/-- A cause is seen (Table 14.7, SEEN). -/
def State.seeCause (s : State) (n cause : Nat) : State :=
  s.wr (Reg.SLOT_HIST_SEEN.at n) (s.rd (Reg.SLOT_HIST_SEEN.at n) ||| 2 ^ cause)

/-- Turn the gate off into OFF or HOLDOFF, with the link that it takes along. -/
def State.gateOff (s : State) (n st : Nat) (stay : Bool := false) : State :=
  let s := (s.chanOff n st).updChan n fun c => { c with waiting := false, ramped := false }
  (s.wr (Reg.SLOT_SENSE_IOUT.at n) 0).linkOff n stay

/-- Latch a fault (R395, R398, R401): recorded, counted, the gate off; a hard failure of the cistern where no other controller holds
the slot; cleared at once into HOLDOFF where an automatic retry is left. -/
def State.latchFault (s : State) (n cause : Nat) (peerOn : Bool) : State :=
  let s := if s.chState n == chCheck then s.count Reg.SLOT_CNT_PRE_ENABLE_REFUSALS else s
  let s := if cause == ftFastTrip then s.count Reg.SLOT_CNT_FAST_TRIPS
    else if cause == ftLimit then s.count Reg.SLOT_CNT_LIMIT_TIMEOUTS else s
  let s := (s.seeCause n cause).wr (Reg.SLOT_STATUS_FAULT_CAUSE.at n) cause
  let s := s.wr (Reg.SLOT_HIST_FAULTS.at n) (min 255 (s.rd (Reg.SLOT_HIST_FAULTS.at n) + 1))
  let s := if peerOn then s else s.hardFail n
  let s := s.gateOff n chFault peerOn
  let s := s.raise sevUncorrected .slot (0x100C + 0x20 * n) n cause
  let left := s.rd (Reg.SLOT_STATUS_RETRIES_LEFT.at n)
  if s.is (Reg.SLOT_CTL_AUTO_RETRY.at n) && left != 0 then
    (s.wr (Reg.SLOT_STATUS_RETRIES_LEFT.at n) (left - 1)).chanOff n chHoldoff
  else s

/-- Clear a latched fault into HOLDOFF, with the timer started afresh (R398, Table 14.5). -/
def State.clearFault (s : State) (n : Nat) : State :=
  if s.chState n == chFault then (s.wr (Reg.SLOT_STATUS_FAULT_CAUSE.at n) 0).chanOff n chHoldoff else s

/-- A measured current, in 10 mA (Table 14.7). -/
def State.seeCurrent (s : State) (n iout : Nat) : State :=
  (s.wr (Reg.SLOT_SENSE_IOUT.at n) iout).peak (Reg.SLOT_HIST_PEAK.at n) iout

/-- ATTN driven low (R402): 0 off, 1 on, 2 blinking at 1 Hz. -/
def State.attn (s : State) (n : Nat) : Nat :=
  match s.rd (Reg.SLOT_CTL_ATTN.at n) with
  | 3 => if s.chState n == chFault || s.cst n == cFailed then 1 else 0
  | m => m

/-! ### The channel sequence -/

/-- PRSNT_DEBOUNCED (R391, R96): the cistern is present; one inserted in PRIME of a full start joins the groups that have not started,
taken in slot order again, or comes after the last. -/
def execPrsntDebounced (slot : Fin 48) (s : State) : Host.Outcome State Fault Refusal :=
  settled (let n := slot.val
    let fresh := !(s.chan n).present
    let s := (s.updChan n fun c => { c with present := true }).wr (Reg.SLOT_STATUS_PRSNT.at n) 1
    let waits := s.shelf.groups.flatten
    let s := if !fresh || !s.shelf.fullStart || s.st != stPRIME || waits.isEmpty || waits.contains n ||
          s.chState n == chOn || s.params.sklEnable / 2 ^ n % 2 == 0 then s
      else if (s.shelf.groups.head?.getD []).head?.any fun m => decide (n < m) && decide (0 < s.shelf.nextGroup) then
        { s with shelf := { s.shelf with late := s.shelf.late ++ [n] } }
      else
        let all := slots48.filter fun m => m == n || waits.contains m
        { s with shelf := { s.shelf with groups := groupsOf (s.rd Reg.GLB_PRIME_CTL_SLOT_GROUP) all 48 } }
    s.tryCheck n)

/-- SLOT_GROUP_START (R87): the next group's time has come, SLOT_INTERVAL x its number after PRIME entry; its channels enter CHECK
together.  Slots inserted too late for their group form groups of their own after the last one (R96). -/
def execSlotGroupStart (group : Nat) (s : State) : Host.Outcome State Fault Refusal :=
  settled (match s.shelf.groups with
    | [] => s
    | g :: rest =>
      if group != s.shelf.nextGroup || s.st != stPRIME || s.prim.pwrStop then s
      else
        let s := s.atLeast (s.prim.enteredAt + s.rd Reg.GLB_PRIME_CTL_SLOT_INTERVAL * ms * group)
        let rest := if rest.isEmpty then groupsOf (s.rd Reg.GLB_PRIME_CTL_SLOT_GROUP) s.shelf.late 48 else rest
        let late := if rest.any fun g => s.shelf.late.any g.contains then [] else s.shelf.late
        let s := { s with shelf := { s.shelf with groups := rest, nextGroup := group + 1, late := late } }
        g.foldl (fun s n => s.tryCheck n) s)

/-- Enter RAMP (R393). -/
def State.enterRamp (s : State) (n : Nat) (joined : Bool) : State :=
  ((s.setChan n chRamp).wrB (Reg.SLOT_STATUS_JOINED.at n) joined).updChan n fun c =>
    { c with waiting := false, ramped := false }

/-- SLOT_CHECK_DONE (R392): the three tests in order; a driven output that is neither low nor the peer's starts the wait of test 2.  Once PWRFAIL_N has stopped priming no channel goes on to RAMP (R96). -/
def execSlotCheckDone (slot : Fin 48) (m : SlotCheck) (peerOn : Bool) (s : State) : Host.Outcome State Fault Refusal :=
  settled (let n := slot.val
    if s.chState n != chCheck || s.prim.pwrStop then s
    else
      let s := (s.wr (Reg.SLOT_SENSE_VOUT.at n) m.vout).wr Reg.SLOT_INPUT_VIN m.vin
      if !m.senseGood then s.latchFault n ftOpenSense peerOn
      else if 50 ≤ m.vout then
        if m.vin ≤ m.vout + 100 then s.enterRamp n true
        else if (s.chan n).waiting then s
        else s.updChan n fun c => { c with waiting := true, checkAt := s.tm.mono }
      else
        let s := s.atLeast ((s.chan n).checkAt + 800 * us)
        if m.riseMv < 20 then s.latchFault n ftShort peerOn else s.enterRamp n false)

/-- SLOT_BACKFEED_WAIT_END (R392): 100 ms on a driven output have ended. -/
def execSlotBackfeedWaitEnd (slot : Fin 48) (peerOn : Bool) (s : State) : Host.Outcome State Fault Refusal :=
  settled (let n := slot.val
    if s.chState n == chCheck && (s.chan n).waiting then
      (s.atLeast ((s.chan n).checkAt + 100 * ms)).latchFault n ftBackfeed peerOn
    else s)

/-- SLOT_RAMP_DONE (R393): VOUT is within 0.3 V of VIN; gate enhancement is completed. -/
def execSlotRampDone (slot : Fin 48) (s : State) : Host.Outcome State Fault Refusal :=
  settled (let n := slot.val
    if s.chState n == chRamp && !(s.chan n).ramped then
      s.updChan n fun c => { c with ramped := true, rampedAt := s.tm.mono }
    else s)

/-- SLOT_GATE_ENHANCED (R393): enhanced for 1 ms; ON, SLOT_PG asserted, SLOT_RST_N still low. -/
def execSlotGateEnhanced (slot : Fin 48) (s : State) : Host.Outcome State Fault Refusal :=
  settled (let n := slot.val
    if s.chState n == chRamp && (s.chan n).ramped then
      let s := s.atLeast ((s.chan n).rampedAt + ms)
      let s := ((s.setChan n chOn).count Reg.SLOT_CNT_INSERTIONS).updChan n fun c => { c with onAt := s.tm.mono }
      s.slotPins n true false
    else s)

/-- SLOT_GATE_TIMEOUT (R395, Table 14.4): no enhancement 2 ms after the ramp. -/
def execSlotGateTimeout (slot : Fin 48) (peerOn : Bool) (s : State) : Host.Outcome State Fault Refusal :=
  settled (let n := slot.val
    if s.chState n == chRamp && (s.chan n).ramped then
      (s.atLeast ((s.chan n).rampedAt + 2 * ms)).latchFault n ftGate peerOn
    else s)

/-- SLOT_RESET_RELEASE (R87, R583): 1 ms after SLOT_PG, and in PRIME for a slot kept ON through a reset; the link enters DETECT. -/
def execSlotResetRelease (slot : Fin 48) (s : State) : Host.Outcome State Fault Refusal :=
  settled (let n := slot.val
    if s.chState n != chOn || (s.chan n).rstHigh || !s.is (Reg.SLOT_STATUS_PG.at n) || s.st < stPRIME || s.st == stHALTED || s.prim.pwrStop then s
    else
      let s := (s.atLeast ((s.chan n).onAt + ms)).slotPins n true true
      let s := (s.toDetect n).setOutcome n ocNone
      s.updLink n fun l => { l with trainAt := s.tm.mono, retrained := false })

/-! ### Limit, fast trip, reverse current, loss -/

/-- SLOT_LIMIT_TIMEOUT (R394): the fault timer has reached FAULT_T. -/
def execSlotLimitTimeout (slot : Fin 48) (iout : Nat) (peerOn : Bool) (s : State) : Host.Outcome State Fault Refusal :=
  settled (let n := slot.val
    if s.chState n == chRamp || s.chState n == chOn then (s.seeCurrent n iout).latchFault n ftLimit peerOn else s)

/-- FAST_TRIP (R395): armed in RAMP and ON; with a limit timeout in the same cycle both are seen and FAST_TRIP is latched
(Table 14.5). -/
def execFastTrip (slot : Fin 48) (iout : Nat) (limitToo : Bool) (peerOn : Bool) (s : State) :
    Host.Outcome State Fault Refusal :=
  settled (let n := slot.val
    if s.chState n == chRamp || s.chState n == chOn then
      let s := s.seeCurrent n iout
      (if limitToo then s.seeCause n ftLimit else s).latchFault n ftFastTrip peerOn
    else s)

/-- REVERSE_CURRENT (R396): the gate is pulled and REV_BLOCK set, or the gate is enhanced again, and a link that SLOT_PG took down trains again;
the channel stays ON. -/
def execReverseCurrent (slot : Fin 48) (r : Reverse) (s : State) : Host.Outcome State Fault Refusal :=
  settled (let n := slot.val
    if s.chState n != chOn then s
    else match r with
      | .below =>
        if s.is (Reg.SLOT_STATUS_REV_BLOCK.at n) then s
        else (s.wr (Reg.SLOT_STATUS_REV_BLOCK.at n) 1).count Reg.SLOT_CNT_REVERSE_BLOCKS
      | .cleared =>
        let s := s.wr (Reg.SLOT_STATUS_REV_BLOCK.at n) 0
        if s.is (Reg.SLOT_STATUS_PG.at n) then s
        else
          let s := s.slotPins n true (s.chan n).rstHigh
          if (s.chan n).rstHigh && s.lk n == lkDown then
            (s.toDetect n).updLink n fun l => { l with trainAt := s.tm.mono, retrained := true }
          else s)

/-- SLOT_PG_LOSS (R397): SLOT_PG is deasserted; PG_LOST or GATE is latched unless REV_BLOCK or the feed explains it. -/
def execSlotPgLoss (slot : Fin 48) (why : PgLoss) (peerOn : Bool) (s : State) : Host.Outcome State Fault Refusal :=
  settled (let n := slot.val
    if s.chState n != chOn then s
    else if s.is (Reg.SLOT_STATUS_REV_BLOCK.at n) || s.shelf.feedLow then
      (s.slotPins n false (s.chan n).rstHigh).linkOff n peerOn
    else s.latchFault n (match why with
      | .voutLow => ftPgLost
      | .gate => ftGate) peerOn)

/-- SLOT_FEED_UV (R397): every channel in CHECK, RAMP or ON enters OFF without a latch. -/
def execSlotFeedUv (vin : Nat) (s : State) : Host.Outcome State Fault Refusal :=
  settled (if s.rd Reg.SLOT_CFG_UV * 10 ≤ vin then s
    else
      let s := s.wr Reg.SLOT_INPUT_VIN vin
      let s := { s with shelf := { s.shelf with feedLow := true } }
      slots48.foldl (fun s n =>
        if chCheck ≤ s.chState n && s.chState n ≤ chOn then s.gateOff n chOff else s) s)

/-- SLOT_FEED_RESTORED (R397): the feed is back at UV + 0.5 V, and channels may leave OFF. -/
def execSlotFeedRestored (vin : Nat) (s : State) : Host.Outcome State Fault Refusal :=
  settled (if vin < s.rd Reg.SLOT_CFG_UV * 10 + 50 then s
    else
      let s := s.wr Reg.SLOT_INPUT_VIN vin
      { s with shelf := { s.shelf with feedLow := false } }.tryChecks)

/-! ### Removal, clearing and retry -/

/-- SLOT_REMOVAL (R398, R399, R315): the gate is pulled and the pins driven low, whatever the state; the latch clears and HOLDOFF starts,
but a timer that runs goes on and a channel that is OFF stays so; the cistern is absent, and a FAILED one's slot is EMPTY. -/
def execSlotRemoval (slot : Fin 48) (s : State) : Host.Outcome State Fault Refusal :=
  settled (let n := slot.val
    if !(s.chan n).present then s
    else
      let s := ((s.updChan n fun c => { c with present := false }).wr (Reg.SLOT_STATUS_PRSNT.at n) 0).count
        Reg.SLOT_CNT_REMOVALS
      let s := { s with
        shelf := { s.shelf with groups := (s.shelf.groups.map fun (g : List Nat) => g.filter (· != n)), late := s.shelf.late.filter (· != n) }
        ftl := { s.ftl with waitingId := Tab.del n s.ftl.waitingId } }
      let s := s.loadRetries n
      let st := s.chState n
      let s := if st == chFault then s.clearFault n
        else if st == chOff || st == chHoldoff then s
        else s.gateOff n chHoldoff
      let s := (s.wr (Reg.SLOT_SENSE_VOUT.at n) 0).linkOff n
      if s.cst n == cFailed then (s.setCst n cEmpty).updLink n fun l => { l with ident := none } else s)

/-- A write of SLOT_CTLn (R398, R400, R404): not shadowed, at once.  RETRIES_LEFT is loaded; FAULT_CLR clears a latch; EN = 0 turns an
active channel off into HOLDOFF; EN = 1 allows CHECK. -/
def State.slotCtlWrite (s : State) (n : Nat) (value : W32) : State :=
  let s' := s.writeWord (0x2801000 + 0x20 * n) value
  if s.decodeOf .slot != .all || s.is (fResetting .slot) then s'
  else
    let v := value.toNat
    let s := (s'.wr (Reg.SLOT_CTL_EN.at n) (v % 2)).wr (Reg.SLOT_CTL_AUTO_RETRY.at n) (v / 16 % 8)
    let s := s.loadRetries n
    let s := if v / 2 % 2 == 1 then s.clearFault n else s
    let st := s.chState n
    let s := if v % 2 == 0 && (st == chCheck || st == chRamp || st == chOn) then s.gateOff n chHoldoff else s
    s.tryCheck n

/-- FAULT_CLR (R398). -/
def execFaultClr (slot : Fin 48) (value : W32) (s : State) : Host.Outcome State Fault Refusal :=
  settled (s.slotCtlWrite slot value)

/-- SLOT_EN_WRITE (R400). -/
def execSlotEnWrite (slot : Fin 48) (value : W32) (s : State) : Host.Outcome State Fault Refusal :=
  settled (s.slotCtlWrite slot value)

/-- AUTO_RETRY_WRITE (R398). -/
def execAutoRetryWrite (slot : Fin 48) (value : W32) (s : State) : Host.Outcome State Fault Refusal :=
  settled (s.slotCtlWrite slot value)

/-- HOLDOFF_EXPIRY (R398, Table 14.5): OFF, and CHECK at once where R391 holds. -/
def execHoldoffExpiry (slot : Fin 48) (s : State) : Host.Outcome State Fault Refusal :=
  settled (let n := slot.val
    if s.chState n != chHoldoff then s
    else ((s.atLeast (s.chan n).holdoff).setChan n chOff).tryCheck n)

/-- SLOT_ON_SETTLED (R398): ON for 10 s. -/
def execSlotOnSettled (slot : Fin 48) (s : State) : Host.Outcome State Fault Refusal :=
  settled (let n := slot.val
    if s.chState n != chOn then s else (s.atLeast ((s.chan n).onAt + 10 * sec)).loadRetries n)

end Sys2Proof.Machine
end

