-- ==== Sys2Proof/Machine/Events.lean ====
section
/-! DEFINITION. The family of events (chapter 21): rings, history, fatal causes and the watchdog. -/

namespace Sys2Proof.Machine

/-! ### Fatal causes (R551, Table 21.4) -/

def fatalCode : FatalCause → Nat
  | .rail => 1
  | .clock => 2
  | .seqAll => 3
  | .mram => 4
  | .invariant => 5

def ftWatchdog : Nat := 6

/-- The block that raises a cause, and the register that holds its detail. -/
def fatalPlace : FatalCause → Block × Nat
  | .rail => (.pwr, 0x0100230)
  | .clock => (.pwr, 0x0100250)
  | .seqAll => (.seq, 0x3C00100)
  | .mram => (.sump, 0x3000000)
  | .invariant => (.ftl, 0x1C00000)

/-- Steps 1 to 4 of R551: the cause is recorded in GLB_FATAL and the history, vector 0 and the record are sent, LEAVING goes out, and in
SERVE a save is made; a second cause during these steps is kept in the history only. -/
def State.fatal (s : State) (cause : Nat) (b : Block) (off : Nat) : State :=
  if s.evt.fatalAt.isSome then
    s.keepHistory { seq := s.lastSeq % 2 ^ 32, severity := sevFatal, block := blockCode b, offset := off, arg0 := noInstance
                    arg1 := cause, shelf := s.tm.shelf, history := true }
  else
    let s := ((s.wr Reg.GLB_FATAL_VALID 1).wr Reg.GLB_FATAL_CAUSE cause).wr Reg.GLB_FATAL_BLOCK (blockCode b)
    let s := s.wr64 Reg.GLB_FATAL_TIME_LO Reg.GLB_FATAL_TIME_HI s.tm.shelf
    let s := ((s.msix 0 0).raise sevFatal b off noInstance cause).sendLeaving
    let s := { s with evt := { s.evt with fatalAt := some s.tm.mono } }
    s.beginSave .reset

/-- FATAL_ERROR (R551). -/
def execFatalError (cause : FatalCause) (s : State) : Host.Outcome State Fault Refusal :=
  settled (s.fatal (fatalCode cause) (fatalPlace cause).1 (fatalPlace cause).2)

/-- FATAL_HOLD_EXPIRY (R551): HOLD after the cause, a software full reset; with HOLD at 0 it is waited for. -/
def execFatalHoldExpiry (s : State) : Host.Outcome State Fault Refusal :=
  settled (match s.evt.fatalAt with
    | none => s
    | some t =>
      let hold := s.rd Reg.GLB_FATAL_CFG_HOLD
      if hold == 0 then s else (s.atLeast (t + hold * sec)).takeReset .softFull)

/-- FATAL_CLEAR (R553): VALID is W1C; the cause stays readable. -/
def execFatalClear (value : W32) (s : State) : Host.Outcome State Fault Refusal :=
  settled (let s' := s.writeWord 0x480 value
    if s.decodeOf .glb == .all && value.toNat % 2 == 1 then s'.wr Reg.GLB_FATAL_VALID 0 else s')

/-! ### Rings (R547, R548) -/

/-- RING_COALESCE_EXPIRY (R548). -/
def execRingCoalesceExpiry (ring : Fin 256) (s : State) : Host.Outcome State Fault Refusal :=
  settled (match Tab.find ring.val s.evt.coalescing with
    | none => s
    | some t => (s.atLeast t).ringMessage ring)

/-- RING_CONS_WRITE (R548, R555): a CONS outside the ring keeps its value and sets RANGE; ARM arms, and sends the message at once where
records are pending. -/
def execRingConsWrite (ring : Fin 256) (value : W32) (s : State) : Host.Outcome State Fault Refusal :=
  settled (let r := ring.val
    let s' := s.writeWord (0x1010 + 0x20 * r) value
    if s.decodeOf .glb != .all then s'
    else
      let cons := value.toNat % 65536
      let s := if 2 ^ s'.rd (Reg.GLB_EVT_SIZE_SIZE_LOG2.at r) ≤ cons then s'.setErr .glb 1 else s'.wr (Reg.GLB_EVT_CONS.at r) cons
      if value.toNat / 2 ^ 31 == 0 then s
      else
        let s := s.wr (Reg.GLB_EVT_CONS_ARM.at r) 1
        if s.rd (Reg.GLB_EVT_PROD.at r) == s.rd (Reg.GLB_EVT_CONS.at r) then s else s.ringMessage r)

/-- RING_ENABLE (R547, R555): the word's SIZE_LOG2 first, judged by EN as it was; setting EN zeroes PROD and CONS and sets phase 1. -/
def execRingEnable (ring : Fin 256) (value : W32) (s : State) : Host.Outcome State Fault Refusal :=
  settled (let r := ring.val
    let was := s.is (Reg.GLB_EVT_SIZE_EN.at r)
    let s' := s.writeWord (0x1008 + 0x20 * r) value
    if s.decodeOf .glb != .all then s'
    else if value.toNat / 2 ^ 31 == 0 then s'.wr (Reg.GLB_EVT_SIZE_EN.at r) 0
    else if was then s'
    else
      let s := (s'.wr (Reg.GLB_EVT_SIZE_EN.at r) 1).wr (Reg.GLB_EVT_PROD.at r) 0
      (s.wr (Reg.GLB_EVT_PROD_PHASE.at r) 1).wr (Reg.GLB_EVT_CONS.at r) 0)

/-! ### History (R550) -/

/-- The eight words of a record (Table 21.2). -/
def EvtRecord.words (e : EvtRecord) : List Nat :=
  let flag (b : Bool) (v : Nat) : Nat := if b then v else 0
  let flags := flag e.phase 1 + flag e.lostBefore 2 + flag e.history 4 + flag e.suppressed 8
  [e.seq, e.severity + 256 * flags + 65536 * e.block, e.offset, e.arg0, e.arg1 % 2 ^ 32, e.arg1 / 2 ^ 32, e.shelf % 2 ^ 32,
   e.shelf / 2 ^ 32]

/-- HISTORY_READ (R550): the record of INDEX, 0 the newest; VALID says whether there is one. -/
def execHistoryRead (value : W32) (s : State) : Host.Outcome State Fault Refusal :=
  settled (let s' := s.writeWord 0x4C0 value
    if s.decodeOf .glb != .all || value.toNat / 2 ^ 31 == 0 then s'
    else match s.evt.history[value.toNat % 256]? with
      | none => s'.wr Reg.GLB_HIST_STATUS_VALID 0
      | some e =>
        let s := s'.wr Reg.GLB_HIST_STATUS_VALID 1
        e.words.zipIdx.foldl (fun s w => s.wr (Reg.GLB_HIST_DATA.at w.2) w.1) s)

/-! ### The watchdog (R552) -/

/-- WATCHDOG_KICK (R552): KEY and KICK in one write restart the count. -/
def execWatchdogKick (value : W32) (s : State) : Host.Outcome State Fault Refusal :=
  settled (let s' := s.writeWord 0x4A4 value
    if s.decodeOf .glb == .all && value.toNat % 2 == 1 && value.toNat / 65536 == 0x9648 then
      { s'.wr Reg.GLB_WDOG_WARNED 0 with evt := { s'.evt with kickAt := s'.tm.mono } }
    else s')

/-- WATCHDOG_WARN (R552): PERIOD without a kick. -/
def execWatchdogWarn (s : State) : Host.Outcome State Fault Refusal :=
  settled (let p := s.rd Reg.GLB_WDOG_PERIOD
    if p == 0 || s.is Reg.GLB_WDOG_WARNED then s
    else ((s.atLeast (s.evt.kickAt + p * ms)).wr Reg.GLB_WDOG_WARNED 1).raise sevUncorrected .glb 0x4A0)

/-- WATCHDOG_EXPIRY (R552): twice PERIOD without a kick; the steps of a fatal cause, then a watchdog reset. -/
def execWatchdogExpiry (s : State) : Host.Outcome State Fault Refusal :=
  settled (let p := s.rd Reg.GLB_WDOG_PERIOD
    if p == 0 || !s.is Reg.GLB_WDOG_WARNED then s
    else ((s.atLeast (s.evt.kickAt + 2 * p * ms)).fatal ftWatchdog .glb 0x4A0).takeReset .watchdog)

end Sys2Proof.Machine
end

