-- ==== Sys2Proof/Machine/Snapshot.lean ====
section
/-! DEFINITION. Snapshots of the PMU (R528, R529). -/

namespace Sys2Proof.Machine

/-- Is a PMU word a tile counter's or a bandwidth result's?  Event selects are not copied. -/
def snapWord (x : Nat) : Bool := decide (0x2000 ≤ x ∧ x < 0x2480) || (decide (0x1000 ≤ x ∧ x < 0x2000) && decide (x % 0x100 < 0x50))

/-- PMU offsets of the words that may hold something: fields and counters that are listed, and tile cycles. -/
def State.snapOffsets (s : State) : List Nat :=
  let fs := s.regs.active.map fun e => e.1 / 32
  let cs := s.regs.counts.flatMap fun e => [e.1, e.1 + 4]
  let ts := (List.range 16).flatMap fun t => [0x3E01000 + 0x100 * t, 0x3E01004 + 0x100 * t]
  ((fs ++ cs ++ ts).filter fun o => decide (0x3E00000 ≤ o) && snapWord (o - 0x3E00000)).map (· - 0x3E00000)

/-- The words of the copy; a word that is 0 is not listed. -/
def State.snapWords (s : State) : Tab Nat :=
  s.snapOffsets.foldl (fun (t : Tab Nat) x =>
    let w := (s.wordAt (0x3E00000 + x)).toNat
    if w == 0 then t else Tab.put x w t) []

/-- Bytes of the buffer that a block copy needs. -/
def snapBuffer : Nat := 512 * 1024

/-- Take a snapshot; one that arrives during a block copy is counted in MISSED. -/
def State.takeSnapshot (s : State) : State :=
  if s.is Reg.PMU_SNAP_STATUS_BUSY then
    s.wr Reg.PMU_SNAP_STATUS_MISSED (min 255 (s.rd Reg.PMU_SNAP_STATUS_MISSED + 1))
  else
    let s := { s with pmu := { s.pmu with snap := s.snapWords } }
    let s := (s.wr64 Reg.PMU_SNAP_TIME_LO Reg.PMU_SNAP_TIME_HI s.tm.shelf).wr Reg.PMU_SNAP_STATUS_VALID 1
    if !s.is Reg.PMU_SNAP_CTL_BLOCKS then s
    else
      let a := s.rd64 Reg.PMU_SNAP_ADDR_LO Reg.PMU_SNAP_ADDR_HI
      if a % 4096 == 0 && s.inDram a snapBuffer then
        ({ s with pmu := { s.pmu with latched := s.regs.counts } }).wr Reg.PMU_SNAP_STATUS_BUSY 1
      else s.wr Reg.PMU_SNAP_COUNT 0

/-- The always-running counters of the blocks, by BAR0 offset: every one but the PMU's own. -/
def blockCounters : Tab Unit :=
  (Reg.counters.filter fun c => decide (c.off < 0x3E00000)).foldl (fun t c =>
    (List.range c.count).foldl (fun (t : Tab Unit) i => Tab.put (c.at i).off () t) t) []

/-- The eight bytes of a counter in the layout of R128. -/
def counterBytes (c : BitVec 48 × Bool) : List Byte := leBytes 8 (c.1.toNat + if c.2 then 2 ^ 63 else 0)

/-- PMU_SNAPSHOT (R528): `PMU_SNAP_CTL` written; BLOCKS first, then GO. -/
def execPmuSnapshot (value : W32) (s : State) : Host.Outcome State Fault Refusal :=
  settled (let s' := s.writeWord 0x3E00020 value
    if s.decodeOf .pmu == .all && value.toNat % 2 == 1 && s.begins .pmu then s'.takeSnapshot else s')

/-- PMU_BLOCK_COPY_DONE (R528): the latched counters are in DRAM, in ascending BAR0 offset order. -/
def execPmuBlockCopyDone (s : State) : Host.Outcome State Fault Refusal :=
  settled (if !s.is Reg.PMU_SNAP_STATUS_BUSY then s
    else
      let a := s.rd64 Reg.PMU_SNAP_ADDR_LO Reg.PMU_SNAP_ADDR_HI
      let s := blockCounters.zipIdx.foldl (fun (s : State) (e : (Nat × Unit) × Nat) =>
        s.dramWrite (a + 8 * e.2) (counterBytes (Tab.getD e.1.1 (0, false) s.pmu.latched))) s
      ((s.wr Reg.PMU_SNAP_COUNT blockCounters.length).wr Reg.PMU_SNAP_STATUS_BUSY 0))

end Sys2Proof.Machine
end

