-- ==== Sys2Proof/Machine/Commit.lean ====
section
/-! DEFINITION. The family of commits (R74-R76): commit points, what each block checks, what an applied commit does; and the pod's
agreement on a launch (R464 to R468), which shares that check. -/

namespace Sys2Proof.Machine

/-! ### What each block checks (R74) -/

/-- Does a set of bit addresses touch a block? -/
def touches (b : Block) (keys : List Nat) : Bool := keys.any fun k => blockAt (k / 32) == some b

/-- The conditions between fields that a block refuses a commit for, on a state with the values in place (R126, R206, R238, Table 9.8,
Table 10.1, Table 10.2, R404, R429, R480, R543). -/
def State.blockGood (t : State) (b : Block) : Bool :=
  match b with
  | .well => decide (t.rd Reg.WELL_RC_WIN_W_INIT ≤ t.rd Reg.WELL_RC_WIN_W_MAX)
  | .qos => t.qosGood
  | .mfd => (List.range 4).all fun k => decide (t.rd (Reg.MFD_PFC_THR_XON.at k) < t.rd (Reg.MFD_PFC_THR_XOFF.at k))
  | .ftl =>
    let crit := t.rd Reg.FTL_FLOAT_CRIT
    let low := t.rd Reg.FTL_FLOAT_LOW
    let high := t.rd Reg.FTL_FLOAT_HIGH
    let eol := t.rd Reg.FTL_RETIRE_EOL_PCT
    decide (0 < crit ∧ crit < low ∧ low < high ∧ high ≤ 500) &&
    decide (t.rd Reg.FTL_WEAR_LEVEL_STOP < t.rd Reg.FTL_WEAR_LEVEL_SPREAD) &&
    decide (t.rd Reg.FTL_REFRESH_URGENT_PRED < t.rd Reg.FTL_REFRESH_REFRESH_PRED) && (eol == 0 || decide (100 ≤ eol))
  | .slot => slots48.all fun n => decide (t.rd (Reg.SLOT_LIMIT_ILIM.at n) + 10 ≤ t.rd (Reg.SLOT_LIMIT_FT.at n))
  | .sump => decide (t.rd Reg.SUMP_CFG_LOW < t.rd Reg.SUMP_CFG_HIGH)
  | .pod => decide (5 * t.rd Reg.POD_CFG_HEARTBEAT * 10 ≤ t.rd Reg.POD_CFG_DEAD_TIME * 1000)
  | .pwr => decide (t.rd Reg.PWR_THERM_WCTEMP < t.rd Reg.PWR_THERM_CCTEMP)
  | _ => true

/-- The state with values in place. -/
def State.overlay (s : State) (vals : List (Nat × W32)) : State :=
  { s with regs := { s.regs with active := vals.foldl (fun (t : Tab W32) (e : Nat × W32) => Tab.put e.1 e.2 t) s.regs.active } }

/-- The blocks that refuse a set of values, in BAR0 order. -/
def State.refusing (s : State) (vals : List (Nat × W32)) : List Block :=
  let t := s.overlay vals
  let keys := vals.map (·.1)
  let bad := vals.filterMap fun e => match fieldOfKey e.1 with
    | none => none
    | some f => if inRange f e.2.toNat then none else blockAt f.off
  allBlocks.filter fun b => bad.contains b || (touches b keys && !t.blockGood b)

/-! ### Fields that the pod agrees on (R464) -/

/-- The pod-wide fields: shadowed live fields of QOS, WELL, FTL and PAR, and MFD_AGE, MFD_HOLD and CRY_RET_CFG. -/
def podScoped (f : Field) : Bool :=
  f.shadowed &&
  ((match blockAt f.off with
    | some .qos | some .well | some .ftl | some .par => true
    | _ => false) ||
   f.off == Reg.MFD_AGE_AGE_LIMIT.off || f.off == Reg.MFD_HOLD.off || f.off == Reg.CRY_RET_CFG_ERASE_DELAY.off)

def podKey (k : Nat) : Bool := (fieldOfKey k).any podScoped

/-- The live set: the active values of the pod-wide fields, those at their reset value left out. -/
def State.liveSet (s : State) : List (Nat × W32) :=
  s.regs.active.filter fun e => match fieldOfKey e.1 with
    | none => false
    | some f => podScoped f && e.2 != BitVec.ofNat 32 f.reset

def State.liveEpoch (s : State) : Nat := s.rd64 Reg.POD_LIVE_EPOCH_LO Reg.POD_LIVE_EPOCH_HI
def State.setLiveEpoch (s : State) (n : Nat) : State := s.wr64 Reg.POD_LIVE_EPOCH_LO Reg.POD_LIVE_EPOCH_HI n

/-- The other members in SERVE. -/
def State.othersServing (s : State) : List Nat := (List.range 8).filter fun m => m != s.selfIndex && s.memberServes m

/-! ### Applying (R74) -/

/-- A raised T_LIFE: STALE judgements keep the old value until old T_LIFE + 10 ms after the commit instant (R143). -/
def State.raiseLife (s t : State) (at_ : Nat) : State :=
  let old := s.rd Reg.WELL_PRD_CTL_T_LIFE
  if old < t.rd Reg.WELL_PRD_CTL_T_LIFE then
    let judged := match s.prd.oldLife with
      | none => old
      | some o => min o.1 old
    { t with prd := { t.prd with oldLife := some (judged, at_ + (old + 10) * ms) } }
  else t

/-- What new values do besides standing in their fields: the scheduler (R206), T_LIFE (R143), the draw-down mode and spare reserve that
thresholds judge, and a device state whose exit latency a tolerance no longer allows (R538). -/
def State.applyEffects (s t : State) (keys : List Nat) (at_ : Nat) : State :=
  let t := (s.qosCommit t keys)
  let t := s.raiseLife t at_
  let t := if touches .ftl keys then t.showDraw.showSpare else t
  let hold := if t.rd Reg.FTL_CKPT_CKPT_MAX < s.ckptMax then some s.ckptMax else none
  let t : State := if touches .ftl keys then { t with ftl := { t.ftl with ckptHold := hold } } else t
  if tolerates s.tMin s.devState && !tolerates t.tMin t.devState then t.wake 1 else t

/-- The shadows that differ from their active values. -/
def State.pendingShadows (s : State) : Tab W32 :=
  s.regs.shadow.filter fun e => match fieldOfKey e.1 with
    | none => false
    | some f => s.field f != e.2

/-- Give fields new active values; a shadow that equals its active value is no longer listed. -/
def State.applyValues (s : State) (vals : List (Nat × W32)) (time : Nat) : State :=
  let t := s.overlay vals
  let t := { t with regs := { t.regs with shadow := t.pendingShadows } }
  s.applyEffects t (vals.map (·.1)) time

/-! ### Launches of the pod (R466 to R468) -/

/-- STATE and CAUSE of `POD_LAUNCH_STATUS`. -/
def plPreparing : Nat := 1
def plArmed : Nat := 2
def plFired : Nat := 3
def plAbandoned : Nat := 4
def plTime : Nat := 3
def plBusy : Nat := 4
def plYielded : Nat := 5
def plStale : Nat := 9
def plRejected : Nat := 10

def State.showLaunch (s : State) (st cause : Nat) : State :=
  (s.wr Reg.POD_LAUNCH_STATUS_STATE st).wr Reg.POD_LAUNCH_STATUS_CAUSE cause

/-- The launch that this controller has agreed to or coordinates. -/
def State.launch (s : State) : Option Launch := s.pod.engaged.or s.pod.proposal

/-- A launch is over: LOCKED clears, the engagement ends; an abandoned one is counted. -/
def State.closeLaunch (s : State) (st cause : Nat) : State :=
  let s := (s.showLaunch st cause).wr Reg.GLB_COMMIT_STATUS_LOCKED 0
  let s := if st == plAbandoned then s.count Reg.POD_CNT_LAUNCH_ABANDONED else s
  { s with pod := { s.pod with engaged := none, proposal := none, awaiting := [], go := false } }

/-- Tell the members of the launch that it is abandoned, and close it. -/
def State.abandonOwn (s : State) (cause : Nat) : State :=
  (s.othersServing.foldl (fun s m => s.toPeer m .abandon) s).closeLaunch plAbandoned cause

/-- Agree to a launch (R467): the pod-wide shadows go back to their active values, and LOCKED is set; a SNAPSHOT locks nothing. -/
def State.agreeLaunch (s : State) (l : Launch) : State :=
  let s := ({ s with pod := { s.pod with engaged := some l } }).showLaunch plPreparing 0
  let s := if l.snapshot then s else
    ({ s with regs := { s.regs with shadow := s.regs.shadow.filter fun e => !podKey e.1 } }).wr Reg.GLB_COMMIT_STATUS_LOCKED 1
  s.toPeer l.coord .agree

/-- Answer a PREPARE by the first row of R467's table that fits. -/
def State.answerPrepare (s : State) (l : Launch) : State :=
  let refuse (s : State) (cause : Nat) : State := s.toPeer l.coord (.refuse cause)
  let check (s : State) : State :=
    if (s.refusing l.values).isEmpty then s.agreeLaunch l else refuse s plRejected
  if !s.is Reg.TIME_STATUS_COORD then refuse s plTime
  else if s.liveEpoch + 1 != l.epoch then (refuse s plStale).toPeer l.coord .liveSetReq
  else if s.launch.any fun x => decide (x.coord < l.coord) then refuse s plBusy
  else if s.pod.proposal.isSome then check (s.abandonOwn plYielded)
  else if s.pod.engaged.isSome then { s with pod := { s.pod with heldPrepare := s.pod.heldPrepare ++ [l] } }
  else check s

/-- A launch is over, and the PREPAREs held behind it are answered. -/
def State.endLaunch (s : State) (st cause : Nat) : State :=
  let s := s.closeLaunch st cause
  s.pod.heldPrepare.foldl (fun s l => s.answerPrepare l) { s with pod := { s.pod with heldPrepare := [] } }

/-! ### Commit points -/

def crApplied : Nat := 1
def crRejected : Nat := 2
def crAborted : Nat := 3

/-- The first block that refuses a commit of `v` from `src` (R74), R465 included. -/
def State.refuser (s : State) (src : CommitSource) (v : List (Nat × W32)) : Option Block :=
  let lone := decide (src ≠ .pod) && !s.othersServing.isEmpty
  let podPart := if lone then (v.filter fun e => podKey e.1).filterMap fun e => blockAt (e.1 / 32) else []
  let bad := s.refusing v
  allBlocks.find? fun b => bad.contains b || podPart.contains b

/-- The live epoch after a commit of `v` from `src` (R466, R468). -/
def State.epochAfter (s : State) (src : CommitSource) (v : List (Nat × W32)) : Nat :=
  if src = .pod then (s.launch.map (·.epoch)).getD s.liveEpoch
  else if v.any fun e => podKey e.1 then s.liveEpoch + 1 else s.liveEpoch

/-- The commit instant (R74): the snapshot is taken and checked, and every operation begun from here on uses the new values; a
snapshot that a block refuses changes nothing.  BUSY stays 1 until every block has answered, and the outcome is shown then. -/
def State.beginCommit (s : State) (src : CommitSource) : State :=
  let s := (s.wr Reg.GLB_COMMIT_STATUS_BUSY 1).wr64 Reg.GLB_COMMIT_TIME_LO Reg.GLB_COMMIT_TIME_HI s.tm.shelf
  let v := s.pendingShadows
  match s.refuser src v with
  | some b => { s with commit := { s.commit with refused := some (blockCode b), source := src } }
  | none =>
    let e := s.epochAfter src v
    let t := s.applyValues v s.tm.mono
    let t := if e == s.liveEpoch then t else t.setLiveEpoch e
    { t with commit := { t.commit with refused := none, source := src } }

/-- A commit point (R74, R75): it begins, or is held while another is BUSY, or merges into one that is held. -/
def State.commitPoint (s : State) (src : CommitSource) : State :=
  if s.is Reg.GLB_COMMIT_STATUS_BUSY then
    let held := match s.commit.held with
      | none => src
      | some h => if src = .pod then .pod else h
    { s with commit := { s.commit with held := some held } }
  else s.beginCommit src

/-- Every block has answered the commit under way: BUSY clears, RESULT, source and refusing block are shown (R74), and a pod launch
is over. -/
def State.settleCommit (s : State) : State :=
  let c := s.commit
  let s := match c.refused with
    | some b => (s.wr Reg.GLB_COMMIT_STATUS_LAST_RESULT crRejected).wr Reg.GLB_COMMIT_STATUS_REJECT_BLOCK b
    | none => s.wr Reg.GLB_COMMIT_STATUS_LAST_RESULT crApplied
  let s := (s.wr Reg.GLB_COMMIT_STATUS_LAST_SOURCE (if c.source = .write then 0 else 1)).wr Reg.GLB_COMMIT_STATUS_BUSY 0
  if c.source = .pod then s.endLaunch plFired 0 else s

/-- Does a write of `GLB_COMMIT` reach it (R85: from the end of STRUCT)? -/
def State.commitOpen (s : State) : Bool := s.decodeOf .glb == .all && decide (stPRIME ≤ s.st) && !s.prim.warm

/-- Every shadow goes back to its active value (R75).  While a commit is BUSY its values are active already (R74), so the shadows follow
the new ones: which of the two R75 means there it does not say.  DESIGN CHOICE: log entry 57. -/
def State.abortCommit (s : State) : State :=
  ({ s with regs := { s.regs with shadow := [] } }).wr Reg.GLB_COMMIT_STATUS_LAST_RESULT crAborted

/-- A write of `GLB_COMMIT` (R75, R76): ABORT alone where both bits are set; ignored while LOCKED. -/
def State.writeCommit (s : State) (value : W32) : State :=
  let s' := s.writeWord 0x100 value
  if !s.commitOpen then s'
  else if s.is Reg.GLB_COMMIT_STATUS_LOCKED then s'.setErr .glb 9
  else if value.toNat / 2 % 2 == 1 then s'.abortCommit
  else if value.toNat % 2 == 1 then s'.commitPoint .write
  else s'

/-- COMMIT (R74). -/
def execCommit (value : W32) (s : State) : Host.Outcome State Fault Refusal := settled (s.writeCommit value)

/-- COMMIT_ABORT (R75). -/
def execCommitAbort (value : W32) (s : State) : Host.Outcome State Fault Refusal := settled (s.writeCommit value)

/-- COMMIT_APPLY_DONE (R74, R75): the commit under way ends APPLIED or REJECTED; one that is held begins. -/
def execCommitApplyDone (s : State) : Host.Outcome State Fault Refusal :=
  settled (if !s.is Reg.GLB_COMMIT_STATUS_BUSY then s
    else
      let held := s.commit.held
      let s := s.settleCommit
      let s := { s with commit := { s.commit with held := none } }
      match held with
      | none => s
      | some src => s.commitPoint src)

end Sys2Proof.Machine
end

