-- ==== Sys2Proof/Machine/Translation.lean ====
section
/-! DEFINITION. The family of flash translation, media care and rebuild (chapters 9 to 11). -/

namespace Sys2Proof.Machine

/-! ### Map residency (R247, R248) -/

/-- IUs and segments of a namespace. -/
def Ns.ius (n : Ns) : Nat := (n.nsze + n.iuLen - 1) / n.iuLen
def Ns.segments (n : Ns) : Nat := (n.ius + 1023) / 1024

/-- Compare the trained DRAM with the map (R247): MAP_BYTES and RESIDENT. -/
def State.showMap (s : State) : State :=
  let bytes := (s.ns.map fun e => 5 * e.2.ius).sum
  (s.wr64 Reg.FTL_MAP_BYTES_LO Reg.FTL_MAP_BYTES_HI bytes).wrB Reg.FTL_MAP_STATUS_RESIDENT
    (decide (5 * bytes ≤ 4 * s.mem.dramBytes))

/-- LOADING: a resident map with segments still to bring in (R248). -/
def State.showLoading (s : State) : State :=
  s.wrB Reg.FTL_MAP_STATUS_LOADING (s.is Reg.FTL_MAP_STATUS_RESIDENT &&
    s.ns.any fun e => (Tab.find e.1 s.ftl.segs).any fun g => !g.all)

/-- A namespace's residency with every segment listed. -/
def Segs.listed (g : Segs) (n : Nat) : Segs :=
  if g.all then { g with all := false, loaded := (List.range n).map fun k => (k, 0) } else g

/-- The least recently used segment that holds no update still to be covered (R248). -/
def State.lruSegment (s : State) : Option (Nat × Nat) :=
  let held := segsOf s.ftl.journal
  ((s.ns.flatMap fun e =>
    let g := (Tab.getD e.1 {} s.ftl.segs).listed e.2.segments
    (g.loaded.filter fun x => !g.dirty.contains x.1 && !held.contains (e.1, x.1)).map fun x => (e.1, x.1, x.2)).foldl
      (fun (best : Option (Nat × Nat × Nat)) x => match best with
        | none => some x
        | some b => if x.2.2 < b.2.2 then some x else best) none).map fun b => (b.1, b.2.1)

/-- Evict a segment. -/
def State.evict (s : State) (nsid seg : Nat) : State :=
  let g := (Tab.getD nsid {} s.ftl.segs).listed (s.nsOr nsid).segments
  { s with ftl := { s.ftl with segs := Tab.put nsid { g with loaded := Tab.del seg g.loaded } s.ftl.segs } }

/-- Compositions of a segment's IUs whose first fragment has waited long enough. -/
def State.composeWaiting (s : State) (nsid seg : Nat) : State :=
  let wait := s.rd Reg.FTL_ASSEMBLY_MERGE_WAIT * 100 * us
  ((s.ftl.versions.filter fun v => v.nsid == nsid && segOf v.iu == seg && !v.whole &&
    decide (v.since + wait ≤ s.tm.mono)).map (·.iu)).eraseDups.foldl (fun s iu => s.compose nsid iu) s

/-- Make a segment resident; what waited for it goes on. -/
def State.loadSegment (s : State) (nsid seg : Nat) : State :=
  let n := s.nsOr nsid
  let g := Tab.getD nsid {} s.ftl.segs
  let loaded := Tab.put seg s.tm.mono g.loaded
  let g := if g.all then g else if n.segments ≤ loaded.length
    then { g with all := true, loaded := [] } else { g with loaded := loaded }
  let s := { s with ftl := { s.ftl with
    segs := Tab.put nsid g s.ftl.segs, waitSegs := s.ftl.waitSegs.filter (· != (nsid, seg)) } }
  let s := (s.count Reg.FTL_CNT_MAP_FETCH).showLoading
  let s := (s.host.cmds.filter fun e => e.2.stage == .waitMap && e.2.sqe.nsid == nsid).foldl
    (fun s e => s.startRead e.1) s
  s.composeWaiting nsid seg

/-- SEGMENT_FETCH_DONE (R248, Table 9.4): the segment is merged and becomes resident; where the cache has no room, the least recently
used segment leaves first. -/
def execSegmentFetchDone (nsid seg : Nat) (room : Bool) (s : State) : Host.Outcome State Fault Refusal :=
  settled (if !s.ftl.waitSegs.contains (nsid, seg) then s
    else if room then s.loadSegment nsid seg
    else match s.lruSegment with
      | none => s
      | some e => (s.evict e.1 e.2).loadSegment nsid seg)

/-! ### Assembly and composition -/

/-- STRIPE_ASSEMBLY_TIMEOUT (R258): a stripe that is not full is padded, counted and programmed. -/
def execStripeAssemblyTimeout (layout cls : Nat) (s : State) : Host.Outcome State Fault Refusal :=
  settled (match Tab.find (clsKey cls layout) s.ftl.asm with
    | none => s
    | some st =>
      let s := s.atLeast (st.since + s.rd Reg.FTL_ASSEMBLY_ASSEMBLY_WAIT * 100 * us)
      ((s.programStripe (clsKey cls layout)).count Reg.FTL_CNT_STRIPES_PADDED).assignAll)

/-- MERGE_WAIT_EXPIRY (R256): the IU is composed from its current content and its fragments. -/
def execMergeWaitExpiry (nsid iu : Nat) (s : State) : Host.Outcome State Fault Refusal :=
  settled (match s.ftl.versions.find? fun v => v.nsid == nsid && v.iu == iu && !v.whole with
    | none => s
    | some v => (s.atLeast (v.since + s.rd Reg.FTL_ASSEMBLY_MERGE_WAIT * 100 * us)).compose nsid iu)

/-! ### Commit and checkpoints -/

/-- STRIPE_COMMIT (R307, R254): every member not in MISSING has acknowledged; the record is written where the ring and the journal
have room, and the map follows. -/
def execStripeCommit (seq : Nat) (s : State) : Host.Outcome State Fault Refusal :=
  settled (match Tab.find seq s.ftl.fly with
    | none => s
    | some st =>
      if !st.settled || s.commitWaits st then s
      else (if st.missing.isEmpty then s.commitStripe st else s.settleShort st).composeForSpace.movesGoOn)

/-- CHECKPOINT_TRIGGER (R249): CKPT_MAX has passed since the last checkpoint and a record waits. -/
def execCheckpointTrigger (s : State) : Host.Outcome State Fault Refusal :=
  settled (if s.ftl.journal.isEmpty || s.ftl.flushing.isSome then s
    else (s.atLeast (s.ftl.lastCkpt + s.ckptMax * 10 * ms)).beginFlush)

/-- Merge the runs of every level from 0 to 2 that has 16 (R250). -/
def State.mergeRuns (s : State) : State :=
  (List.range 3).foldl (fun s l =>
    let n := s.ftl.runs.countE fun _ r => r.level == l
    let under := (s.ftl.metaUse.any fun e => e.2 == .merge l) || s.ftl.metaWait.contains (.merge l)
    if 16 ≤ n && !under then s.writeMeta (.merge l) else s) s

/-- CHECKPOINT_DONE (R249): the run's three copies are durable, and no copy in the map store is to be written again (R250); the flushed journal space and the commit
records covered are freed, CKPT_SEQ advances, and 16 runs of a level are merged. -/
def execCheckpointDone (s : State) : Host.Outcome State Fault Refusal :=
  settled (match s.ftl.flushing with
    | some (n, q, true) =>
      if !s.ftl.metaRedo.isEmpty then s
      else
        let seq := max q (s.rd64 Reg.FTL_CKPT_SEQ_LO Reg.FTL_CKPT_SEQ_HI)
        let run := s.ftl.nextRun - 1
        let s := { s with ftl := { s.ftl with
          flushing := none, journal := s.ftl.journal.drop n, lastCkpt := s.tm.mono
          ckptHold := none
          ring := s.ftl.ring.filter fun e => match e.2 with
            | .stripeCommit q .. => decide (seq < q)
            | _ => true
          segs := s.ftl.segs.map fun (e : Nat × Segs) => (e.1, { e.2 with dirty := [] }) } }
        let s := s.journal (.checkpoint seq 0 run)
        let s := (s.wr64 Reg.FTL_CKPT_SEQ_LO Reg.FTL_CKPT_SEQ_HI seq).count Reg.FTL_CNT_CKPT_DONE
        s.mergeRuns.checkpointIfFull
    | _ => s)

/-- SEGMENT_ROTATE (R250): ROTATE has passed since the segment's last base copy, and a fresh one is written. -/
def execSegmentRotate (nsid seg : Nat) (s : State) : Host.Outcome State Fault Refusal :=
  settled (if !(s.nsOf nsid).any (fun n => decide (seg < n.segments)) then s
    else
      let last := Tab.getD seg 0 (Tab.getD nsid {} s.ftl.segs).rotated
      (s.atLeast (last + s.rd Reg.FTL_CKPT_ROTATE * 10 * sec)).writeMeta (.base nsid seg))

/-! ### Tanks -/

/-- OPEN_IDLE_EXPIRY (R261): the tank is closed short. -/
def execOpenIdleExpiry (tank : Nat) (s : State) : Host.Outcome State Fault Refusal :=
  settled (let tk := s.tankOf tank
    if tk.st != tkOpen || !tk.mine then s
    else ((s.atLeast (tk.lastStripe + s.rd Reg.FTL_TANK_CFG_OPEN_IDLE * sec)).closeShort tank).assignAll)

/-- DRAWDOWN_COPY_ISSUE (R268, R269): while the debt is positive, a copy read of a draw-down source goes to a die in its window; a
source is chosen where none has anything left to copy. -/
def execDrawdownCopyIssue (s : State) : Host.Outcome State Fault Refusal :=
  settled (if s.ftl.debt == 0 || !s.begins .ftl then s
    else
      let ok := fun (s : State) (c d : Nat) => s.mayIssue c d s.readBound
      let s := if (s.nextCopy true fun _ _ => true).isSome then s else s.feedSources
      s.issueCopy true (ok s))

/-- TANK_DRAW_DONE (R38, R265, R472): no IU of the tank is named by the map or under copy and no read holds it; in a pair, once the
partner has answered RELEASE, which is sent first. -/
def execTankDrawDone (tank : Nat) (s : State) : Host.Outcome State Fault Refusal :=
  settled (let tk := s.tankOf tank
    if tk.st != tkDraw || !tk.mine || s.validSectors tank != 0 || tk.readers != 0 then s
    else if s.partnerServes && !tk.released then
      (if tk.releaseSent then s
       else (s.toPartner (.release tank)).updTank tank fun tk => { tk with releaseSent := true })
    else
      ((s.updTank tank fun tk => { tk with st := tkErasing }).journalTank tank tkErasing).showTanks)

/-- A member's block leaves an ERASING tank: retired where marked, dropped with a FAILED cistern, else back in its pool. -/
def State.releaseBlock (s : State) (m : TankMember) : State :=
  let b := s.blkOf m.key
  if s.cst m.cistern == cFailed || s.cst m.cistern == cEmpty then
    { s with ftl := { s.ftl with blocks := Tab.del m.key s.ftl.blocks } }
  else if b.st == 3 then s.checkWorn m.cistern
  else if m.marked || b.st == 2 then (s.retireNow m.key).checkWorn m.cistern
  else s.updBlk m.key fun b => { b with st := 0, tank := none, unc := 0 }

/-- TANK_ERASE_DONE (R259, R279, R285, R411): every member block is erased or dropped; marked blocks are retired; the tank becomes FREE,
through RETIRED where any was marked. -/
def execTankEraseDone (tank : Nat) (s : State) : Host.Outcome State Fault Refusal :=
  settled (let tk := s.tankOf tank
    let done := tk.members.all fun m => m.erased || s.cst m.cistern == cFailed || s.cst m.cistern == cEmpty
    if tk.st != tkErasing || !done then s
    else
      let marked := tk.members.any fun m => m.marked || (s.blkOf m.key).st == 2 || (s.blkOf m.key).st == 3
      let s := if marked then s.journalTank tank tkRetired else s
      let s := s.journalTank tank tkFree
      let s := tk.members.foldl (fun s m => s.releaseBlock m) s
      let s := { s with ftl := { s.ftl with
        tanks := Tab.del tank s.ftl.tanks
        levelling := if s.ftl.levelling == some tank then none else s.ftl.levelling } }
      let s := { s with sump := { s.sump with
        budget := s.sump.budget.map (· + layData tk.layout * s.tankStripes * 16) } }
      (((s.count Reg.FTL_CNT_TANKS_ERASED).showTanks.showDraw).showSpread).assignAll)

/-- A tank's predicted PRED: the lowest over its members (R295). -/
def State.tankPred (s : State) (tk : Tank) : Nat := (tk.members.map fun m => s.thrPred tk m).foldl min 255

/-- Evaluate every FULL tank written here (R294, R295). -/
def State.scanTanks (s : State) : State :=
  let s := { s with ftl := { s.ftl with lastScan := s.tm.mono } }
  s.ftl.tanks.foldl (fun (s : State) (e : Nat × Tank) =>
    let p := s.tankPred e.2
    if p < s.rd Reg.FTL_REFRESH_URGENT_PRED then s.refreshAdd e.1 true
    else if p < s.rd Reg.FTL_REFRESH_REFRESH_PRED then s.refreshAdd e.1 false
    else s) s

/-- REFRESH_SCAN (R295). -/
def execRefreshScan (s : State) : Host.Outcome State Fault Refusal :=
  settled (let s := s.atLeast (s.ftl.lastScan + s.rd Reg.FTL_REFRESH_SCAN * 60 * sec)
    if s.begins .ftl then s.scanTanks else s)

/-! ### Block inspection (R299) -/

/-- `FTL_BLOCK_STATUS.RESULT` codes. -/
def brOk : Nat := 0
def brBadAddress : Nat := 1
def brAlready : Nat := 2

/-- The triggers of `FTL_BLOCK_ACC`: RETIRE marks the block (Table 10.1), READ copies its record (R278). -/
def State.blockAccess (s : State) (value : W32) : State :=
  let s := s.writeWord 0x1C00224 value
  if s.decodeOf .ftl != .all then s
  else
    let c := s.rd Reg.FTL_BLOCK_ACC_CISTERN
    let d := s.rd Reg.FTL_BLOCK_SEL_DIE
    let b := s.rd Reg.FTL_BLOCK_SEL_BLOCK
    let k := blkKey c d b
    let there := decide (c < 48) && decide (d < s.dies c) && decide (b < s.blocksPerDie c)
    let set := fun (s : State) (r : Nat) => s.wr Reg.FTL_BLOCK_STATUS_RESULT r
    let s := if value.toNat / 2 ^ 30 % 2 == 0 then s
      else if !there then set s brBadAddress
      else if 2 ≤ (s.blkOf k).st then set s brAlready
      else
        let s := set s brOk
        let s := if (s.blkOf k).tank.isNone then s.updBlk k id else s
        (s.markBlock k).checkWorn c
    if value.toNat / 2 ^ 31 == 0 then s
    else if !there then set s brBadAddress
    else
      let r := s.blkOf k
      ((set s brOk).wr Reg.FTL_BLOCK_DATA0_RECORD (r.pe + 2 ^ 20 * r.st + 2 ^ 23 * r.unc)).wr Reg.FTL_BLOCK_DATA1_TANK
        (r.tank.getD 0xFFFFFFFF)

/-- BLOCK_RETIRE (R284, R299). -/
def execBlockRetire (value : W32) (s : State) : Host.Outcome State Fault Refusal := settled (s.blockAccess value)

/-- BLOCK_RECORD_READ (R299). -/
def execBlockRecordRead (value : W32) (s : State) : Host.Outcome State Fault Refusal := settled (s.blockAccess value)

/-! ### Cisterns and rebuild -/

/-- GRACE_EXPIRY (R315): the ABSENT cistern enters REBUILDING. -/
def execGraceExpiry (slot : Fin 48) (s : State) : Host.Outcome State Fault Refusal :=
  settled (match Tab.find slot.val s.ftl.graceAt with
    | none => s
    | some t => if s.cst slot != cAbsent then s else (s.atLeast t).toRebuilding slot)

/-- CISTERN_FAIL (R315, R323): only a cistern IN_SERVICE or ABSENT is declared failed. -/
def execCisternFail (slot : Fin 48) (value : W32) (s : State) : Host.Outcome State Fault Refusal :=
  settled (let s := s.writeWord (0x2000200 + 4 * slot.val) value
    if s.decodeOf .par == .all && value.toNat / 2 ^ 16 % 2 == 1 then s.hardFail slot else s)

/-- The IUs that the map names on a cistern, by location (R317). -/
def State.sweep (s : State) (c : Nat) : Tab (Nat × Nat) :=
  s.ftl.map.foldl (fun t e => match e.2 with
    | .media v => if v / 2 ^ 34 == c then Tab.put v (e.1 / 2 ^ 48, e.1 % 2 ^ 48) t else t
    | .zero => t) s.ftl.found

/-- REBUILD_SWEEP_DONE (R317): what the map names on the cistern is known, once every segment has been fetched, and substitution may begin. -/
def execRebuildSweepDone (slot : Fin 48) (s : State) : Host.Outcome State Fault Refusal :=
  settled (if s.cst slot != cRebuilding || s.ftl.swept.contains slot.val || !s.ftl.waitSegs.isEmpty then s
    else
      let t : State := { s with ftl := { s.ftl with swept := slot.val :: s.ftl.swept, found := s.sweep slot } }
      t.checkAllFailed.startSubst.showRebuild)

/-- Bytes of substituted chunks of a tank, and the rate that rebuild of it keeps to, in 100 MB/s (R320). -/
def State.substBytes (s : State) (u : Subst) : Nat := (s.tankOf u.tank).committed.length * u.swaps.length * 65536
def State.substRate (s : State) (u : Subst) : Nat :=
  if s.holdsCritical (s.tankOf u.tank) then s.rd Reg.PAR_REBUILD_CFG_CRIT_RATE else s.rd Reg.PAR_REBUILD_CFG_RATE

/-- TANK_SUBSTITUTED (R318 to R320): every chunk of the tank under substitution is programmed, no sooner than the rate of R320 lets them;
the new member list is journalled.  Where none is under way, the next begins. -/
def execTankSubstituted (s : State) : Host.Outcome State Fault Refusal :=
  settled (match s.ftl.subst with
    | none => s.startSubst.showRebuild
    | some u =>
      if u.stripe < (s.tankOf u.tank).begun then s
      else ((s.atLeast (u.since + 10 * s.substBytes u / max 1 (s.substRate u))).substituteTank u).showRebuild)

/-- LOST_LIST_READ (R323, Table 11.8): the entry at INDEX is read into the DATA registers. -/
def execLostListRead (value : W32) (s : State) : Host.Outcome State Fault Refusal :=
  settled (let s := s.writeWord 0x2000310 value
    if s.decodeOf .par != .all || value.toNat / 2 ^ 31 == 0 then s
    else match s.ftl.lost[s.rd Reg.PAR_LOST_ACC_INDEX]? with
      | none => s.wr Reg.PAR_LOST_ACC_STATUS_VALID 0
      | some e =>
        let words := [e.nsid, e.nlb - 1, e.slba % 2 ^ 32, e.slba / 2 ^ 32, e.tank, e.stripe + 2 ^ 16 * e.cause,
          e.time % 2 ^ 32, e.time / 2 ^ 32]
        words.zipIdx.foldl (fun s w => s.wr (Reg.PAR_LOST_DATA.at w.2) w.1) (s.wr Reg.PAR_LOST_ACC_STATUS_VALID 1))

end Sys2Proof.Machine
end

