-- ==== Sys2Proof/Machine/Timebase.lean ====
section
/-! DEFINITION. The family of time: the servo and its sources (R325-R333), launch registers (R334-R337), window slots and intents
(R338-R348). -/

namespace Sys2Proof.Machine

/-! ### Launches (R334 to R337) -/

/-- Codes of ACTION (Table 12.3) and of STATE (Table 12.7). -/
def laCommit : Nat := 1
def laSnapshot : Nat := 2
def laGpio : Nat := 3
def laEvent : Nat := 4
def lsArmed : Nat := 1
def lsFired : Nat := 2
def lsLate : Nat := 3
def lsSuspended : Nat := 4
def lsCancelled : Nat := 5
def lsRefused : Nat := 6

/-- The launch registers of the pod protocol (R334, R468). -/
def podCommitLaunch : Nat := 14
def podSnapLaunch : Nat := 15

def State.launchTime (s : State) (k : Nat) : Nat := s.rd64 (Reg.TIME_LAUNCH_TIME_LO.at k) (Reg.TIME_LAUNCH_TIME_HI.at k)
def State.setLaunchTime (s : State) (k t : Nat) : State := s.wr64 (Reg.TIME_LAUNCH_TIME_LO.at k) (Reg.TIME_LAUNCH_TIME_HI.at k) t
def State.launchPeriod (s : State) (k : Nat) : Nat := s.rd (Reg.TIME_LAUNCH_PERIOD.at k) * us
def State.launchArmed (s : State) (k : Nat) : Bool := s.rd (Reg.TIME_LAUNCH_STATUS_STATE.at k) == lsArmed
def State.setLaunchState (s : State) (k st : Nat) : State := s.wr (Reg.TIME_LAUNCH_STATUS_STATE.at k) st

/-- Record a firing: the instant, the count, and the state that follows (R336). -/
def State.markFired (s : State) (st k : Nat) : State :=
  let s := (s.wr64 (Reg.TIME_LAUNCH_FIRED_LO.at k) (Reg.TIME_LAUNCH_FIRED_HI.at k) s.tm.shelf).count Reg.TIME_CNT_LAUNCH_FIRED
  if s.launchPeriod k == 0 then s.setLaunchState k st else s.setLaunchTime k (s.launchTime k + s.launchPeriod k)

/-- The armed registers with a COMMIT action at the time of register `k`: they form one commit point. -/
def State.commitGroup (s : State) (k : Nat) : List Nat :=
  (List.range 16).filter fun j =>
    s.launchArmed j && s.rd (Reg.TIME_LAUNCH_CTL_ACTION.at j) == laCommit && s.launchTime j == s.launchTime k

/-- Number of GPIO balls (R571). -/
def gpioBalls : Nat := 16

/-- Fire register `k`, `st` being the state of a one-shot register afterwards. -/
def State.fire (s : State) (k st : Nat) : State :=
  let action := s.rd (Reg.TIME_LAUNCH_CTL_ACTION.at k)
  let arg := s.rd (Reg.TIME_LAUNCH_CTL_ARG.at k)
  if action == laCommit then
    let g := s.commitGroup k
    let s := g.foldl (fun s j => s.markFired st j) s
    if g.contains podCommitLaunch then (s.showLaunch plFired 0).commitPoint .pod else s.commitPoint .launch
  else
    let s := s.markFired st k
    if action == laSnapshot then
      (if k == podSnapLaunch then s.takeSnapshot.endLaunch plFired 0 else s.takeSnapshot)
    else if action == laGpio then
      (if arg % 256 < gpioBalls then s.send (.gpio (arg % 256) (arg / 256 % 2 == 1)) else s)
    else if action == laEvent then s.raiseIn groupNotice sevInfo .time (Reg.TIME_LAUNCH_TIME_LO.at k).off k arg
    else s

/-- Count occurrences that did not fire. -/
def State.missLaunch (s : State) (k n : Nat) : State :=
  s.wr (Reg.TIME_LAUNCH_MISSED.at k) (min (2 ^ 32 - 1) (s.rd (Reg.TIME_LAUNCH_MISSED.at k) + n))

/-- A one-shot register whose TIME passes while COORD is 0 is suspended, with an event; a pod launch counts as abandoned (R337). -/
def State.suspendLaunch (s : State) (k : Nat) : State :=
  let s := ((s.setLaunchState k lsSuspended).count Reg.TIME_CNT_LAUNCH_SUSPENDED).raise sevUncorrected .time
    (Reg.TIME_LAUNCH_STATUS_STATE.at k).off k
  if 14 ≤ k then s.endLaunch plAbandoned plTime else s

/-- Register `k` falls due (R336, R337). -/
def State.launchDue (s : State) (k st : Nat) : State :=
  if s.is Reg.TIME_STATUS_COORD then s.fire k st
  else if s.launchPeriod k == 0 then s.suspendLaunch k
  else (s.missLaunch k 1).setLaunchTime k (s.launchTime k + s.launchPeriod k)

/-- A step of shelf time has passed the TIME of register `k` (R336): a one-shot register fires LATE; a periodic one misses every passed
occurrence and goes on with the first after the current time. -/
def State.launchPassed (s : State) (k : Nat) : State :=
  if !s.launchArmed k || decide (s.tm.shelf < s.launchTime k) then s
  else
    let p := s.launchPeriod k
    if p == 0 then s.launchDue k lsLate
    else
      let n := (s.tm.shelf - s.launchTime k) / p + 1
      (s.missLaunch k n).setLaunchTime k (s.launchTime k + n * p)

/-- Lead that ARM needs (R335). -/
def armLead : Nat := 10 * us

/-- ARM (R335). -/
def State.armLaunch (s : State) (k : Nat) : State :=
  let action := s.rd (Reg.TIME_LAUNCH_CTL_ACTION.at k)
  if s.launchArmed k then s.wr (Reg.TIME_LAUNCH_STATUS_REARM_REFUSED.at k) 1
  else if laEvent < action || (action == laCommit && s.launchPeriod k != 0) || decide (s.launchTime k < s.tm.shelf + armLead) then
    s.setLaunchState k lsRefused
  else (s.setLaunchState k lsArmed).wr (Reg.TIME_LAUNCH_STATUS_REARM_REFUSED.at k) 0

/-- CANCEL (R335). -/
def State.cancelLaunch (s : State) (k : Nat) : State := if s.launchArmed k then s.setLaunchState k lsCancelled else s

/-- A write of `TIME_LAUNCHk_CTL`: its fields, then CANCEL alone, or ARM; registers 14 and 15 read as RO to software (R334). -/
def State.writeLaunchCtl (s : State) (k : Nat) (value : W32) : State :=
  let s' := s.writeWord (Reg.TIME_LAUNCH_CTL_ARM.at k).off value
  if s.decodeOf .time != .all || 14 ≤ k then s'
  else if value.toNat / 2 ^ 31 == 1 then s'.cancelLaunch k
  else if value.toNat / 2 ^ 30 % 2 == 1 then s'.armLaunch k
  else s'

/-- LAUNCH_ARM (R335). -/
def execLaunchArm (k : Fin 16) (value : W32) (s : State) : Host.Outcome State Fault Refusal := settled (s.writeLaunchCtl k value)

/-- LAUNCH_CANCEL (R335). -/
def execLaunchCancel (k : Fin 16) (value : W32) (s : State) : Host.Outcome State Fault Refusal := settled (s.writeLaunchCtl k value)

/-- Do the clocks run, and is TIME decoded at all (R325)? -/
def State.clocksRun (s : State) : Bool := decide (stMEM ≤ s.st) && !s.minimalDecode

/-- The armed registers that fall due before register `k`: an earlier TIME, or the same one and a lower number (R336). -/
def State.dueBefore (s : State) (k : Nat) : List Nat :=
  let due := (List.range 16).filter fun j => s.launchArmed j &&
    (decide (s.launchTime j < s.launchTime k) || (s.launchTime j == s.launchTime k && decide (j < k)))
  due.foldl (fun l j => l.filter (fun i => decide (s.launchTime i ≤ s.launchTime j)) ++ j ::
    l.filter fun i => decide (s.launchTime j < s.launchTime i)) []

/-- LAUNCH_DUE (R336): shelf time has reached the armed register's TIME; what falls due before it goes first. -/
def execLaunchDue (k : Fin 16) (s : State) : Host.Outcome State Fault Refusal :=
  settled (if !s.launchArmed k then s
    else
      let s := (s.dueBefore k).foldl (fun (s : State) j => if s.launchArmed j then s.launchDue j lsFired else s) (s.atShelf (s.launchTime k))
      if s.launchArmed k && s.launchTime k ≤ s.tm.shelf then s.launchDue k lsFired else s)

/-- The 1PPS output: does an edge leave it at this shelf time, a whole second (Table 12.6)? -/
def State.ppsOut (s : State) : Bool := s.clocksRun && s.is Reg.TIME_SRC_CFG_PPS_OUT_EN && s.tm.shelf % sec == 0

/-! ### Window slots (R338 to R346) -/

def State.slots (s : State) : Nat := s.rd Reg.TIME_WIN_CFG_SLOTS

/-- The units of a slot, on cisterns in service or worn. -/
def State.slotUnits (s : State) (k : Nat) : List Nat :=
  (slots48.filter s.readable).flatMap fun c => ((List.range s.sets).map fun w => 8 * c + w).filter fun u => s.slotOf u == k

/-- Has this controller draw-down work for the unit: a block to erase, or a copy to read (R339)? -/
def State.unitWork (s : State) (u : Nat) : Bool :=
  let c := u / 8
  let mine := fun d => d % s.sets == u % 8
  ((List.range (s.dies c)).any fun d => mine d && (s.eraseWaiting c d).isSome) ||
  s.ftl.tanks.any fun e => e.2.st == tkDraw && e.2.mine && (s.copyList e.1).any fun x =>
    let l := s.loc x.2.2
    l.cistern == c && mine l.die

/-- Can a tank of the layout be placed with the window limit (R340, R342)? -/
def State.placeable (s : State) (layout : Nat) : Bool :=
  let n := layMembers layout
  (s.search 1 n { group := n, win := some (winLimit layout), last := none } [] (s.candidates [])).isSome

/-- The layouts in use: those of namespaces, and the map store's. -/
def State.layoutsUsed (s : State) : List Nat := (metaLayout :: s.ns.map fun e => s.nsLayout e.2).eraseDups

/-- The intent of a unit for the slot that begins (R345): with a partner in SERVE, of this controller as it was sent, or of the partner,
whose missing intent counts as all ones; else work that this controller has. One that was not sent, which the partner takes as all ones,
is the work at hand. -/
def State.intends (s : State) (u : Nat) : Bool :=
  if s.partnerServes then
    s.tm.intentMine.elim (s.unitWork u) (fun l => l.contains u) || s.tm.intentPeer.all fun l => l.contains u
  else s.unitWork u

/-- The slot that holds the current shelf time begins: the ending units leave DRAW or enter OVERRUN, and units with intent enter DRAW,
once no unit is in OVERRUN; a unit without work stays QUIET and is counted (R339, R344, R345). -/
def State.beginSlot (s : State) : State :=
  let start := s.tm.shelf / s.slotLen * s.slotLen
  let k := s.tm.shelf / s.slotLen % s.slots
  let s := s.endUnits.wr Reg.TIME_WIN_STATUS_SLOT k
  let s := { s with tm := { s.tm with
    slotStart := start, unplaceable := s.tm.unplaceable && (k != 0 || !s.layoutsUsed.all s.placeable) } }
  let units := if s.coordinated then s.slotUnits k else []
  let (draw, skip) := units.partition s.intends
  let s := s.count Reg.TIME_CNT_WIN_SKIPPED skip.length
  let s := { s with tm := { s.tm with intentMine := none, intentPeer := none } }
  if s.overrun then ({ s with tm := { s.tm with pendingDraw := draw } }).showUnits else s.enterDraw draw

/-- WINDOW_SLOT_START (R339): the next slot boundary. -/
def execWindowSlotStart (s : State) : Host.Outcome State Fault Refusal :=
  settled (if !s.begins .time then s
    else (s.atShelf ((s.tm.shelf / s.slotLen + 1) * s.slotLen)).beginSlot)

/-- INTENT_SEND (R345): the units of the next slot that this controller has work for. -/
def execIntentSend (s : State) : Host.Outcome State Fault Refusal :=
  settled (if !s.begins .time || !s.partnerServes then s
    else
      let units := (s.slotUnits ((s.tm.shelf / s.slotLen + 1) % s.slots)).filter s.unitWork
      ({ s with tm := { s.tm with intentMine := some units } }).toPartner (.intent units))

/-- INTENT_RECEIVE (R345). -/
def execIntentReceive (units : List Nat) (s : State) : Host.Outcome State Fault Refusal :=
  settled (if !s.partnerServes then s else { s with tm := { s.tm with intentPeer := some units } })

/-- INTENT_DEADLINE (R345): at the slot's end less GUARD an intent that has not arrived is taken as all ones. -/
def execIntentDeadline (s : State) : Host.Outcome State Fault Refusal :=
  settled (if !s.begins .time || !s.partnerServes || s.tm.intentPeer.isSome then s
    else
      let s := s.atShelf ((s.tm.shelf / s.slotLen + 1) * s.slotLen - s.guardNs)
      let all := s.slotUnits ((s.tm.shelf / s.slotLen + 1) % s.slots)
      ({ s with tm := { s.tm with intentPeer := some all } }).count Reg.TIME_CNT_INTENT_MISSING)

/-- Issue one draw-down operation to a die, an erase that waits or a copy read, where R343 or R348 lets it go. -/
def State.drawdownOp (s : State) (c die : Nat) : State :=
  if (s.eraseWaiting c die).isSome then (if s.mayIssue c die s.eraseBound then s.issueErase c die else s)
  else
    let here := fun (k d : Nat) => k == c && d == die && s.mayIssue k d s.readBound
    s.issueCopy false here

/-- DRAWDOWN_OP_ISSUE (R343). -/
def execDrawdownOpIssue (cistern : Fin 48) (die : Nat) (s : State) : Host.Outcome State Fault Refusal :=
  settled (s.drawdownOp cistern die)

/-- IDLE_WAIT_EXPIRY (R348): in uncoordinated mode, a cistern that has been sent no read for IDLE_WAIT receives draw-down operations. -/
def execIdleWaitExpiry (cistern : Fin 48) (s : State) : Host.Outcome State Fault Refusal :=
  settled (if s.coordinated then s
    else
      let s := s.atLeast ((s.linkOf cistern).lastRead + s.rd Reg.TIME_WIN_IDLE_IDLE_WAIT * us)
      (List.range (s.dies cistern)).foldl (fun s d => if s.dieBusy cistern d then s else s.drawdownOp cistern d) s)

/-! ### The servo (R328 to R332) -/

def svFree : Nat := 0
def svLocked : Nat := 1
def svHoldover : Nat := 2

/-- A signed 32-bit field, saturating. -/
def signed32 (x : Int) : Nat := (BitVec.ofInt 32 (max (-2147483648) (min 2147483647 x))).toNat

/-- Set SOURCE; a change is counted. -/
def State.setSource (s : State) (src : Nat) : State :=
  if s.rd Reg.TIME_STATUS_SOURCE == src then s
  else (s.wr Reg.TIME_STATUS_SOURCE src).count Reg.TIME_CNT_SOURCE_CHANGES

/-- Show the PTP offset and keep its size. -/
def State.setOffset (s : State) (x : Int) : State :=
  ({ s with tm := { s.tm with lastOffset := x.natAbs, unbounded := false } }).wr Reg.TIME_OFFSET_PTP_OFFSET (signed32 x)

/-- Does R328 permit a step to this time: no more than 1 s below secure time, or under an override, with room for the record of a step of
more than 1 s (R451)? -/
def State.stepPermitted (s : State) (after : Nat) (size : Nat) : Bool :=
  (decide (s.tm.secure ≤ after + sec) || s.tm.overrideAt.any fun t => decide (s.tm.mono < t + 10 * sec)) &&
  !(decide (sec < size) && s.auditSpent)

/-- A refused step (R328): reported, counted, raised; the source's offset counts as unbounded. -/
def State.refuseStep (s : State) : State :=
  let s := ((s.wr Reg.TIME_STATUS_STEP_REFUSED 1).count Reg.TIME_CNT_STEPS_REFUSED).raise sevUncorrected .time 0x300118
  ({ s with tm := { s.tm with unbounded := true } }).wr Reg.TIME_OFFSET_PTP_OFFSET 0x7FFFFFFF

/-- What follows a step: launches that it passed (R336), and the slot of the new time (R346). -/
def State.afterStep (s : State) : State :=
  let s := (List.range 16).foldl (fun s k => s.launchPassed k) s
  if s.begins .time && s.tm.shelf / s.slotLen * s.slotLen != s.tm.slotStart then s.beginSlot else s

/-- Step shelf time by `off` (R328, R332, R448); `first` is the first lock, which R136 does not count. Answers whether it was taken. -/
def State.stepShelf (s : State) (off : Int) (first : Bool) : Bool × State :=
  let before := s.tm.shelf
  let after := ((before : Int) + off).toNat % 2 ^ 64
  let big := decide (sec < off.natAbs)
  let ok := s.stepPermitted after off.natAbs
  let s := if big then s.auditOwn audTimeStep (!ok) 0 0xFFFF (.timeStep before after) else s
  if !ok then (false, s.refuseStep)
  else
    let back := decide (after + sec < s.tm.secure)
    let s := { s with tm := { s.tm with
      shelf64 := BitVec.ofNat 64 after
      secure := if back then after else max s.tm.secure after
      overrideAt := if back then none else s.tm.overrideAt } }
    let s := ((s.count Reg.TIME_CNT_STEPS).wr Reg.TIME_STATUS_STEP_REFUSED 0).setOffset 0
    let s := if first || off.natAbs ≤ ms then s
      else { s with prd := { s.prd with stepHold := some (s.tm.mono + (s.rd Reg.WELL_PRD_CTL_T_LIFE + 10) * ms) } }
    (true, s.afterStep)

/-- The first lock (R86, R141, R290): the table's start time, and the media's age. -/
def State.firstLock (s : State) : State :=
  let s := (s.wr Reg.TIME_STATUS_SERVO svLocked).wr Reg.TIME_STATUS_EVER_LOCKED 1
  let s := if s.prd.started then s
    else ({ s with prd := { s.prd with started := true } }).wr64 Reg.WELL_PRD_START_LO Reg.WELL_PRD_START_HI s.tm.shelf
  (s.wr Reg.FTL_MEDIA_STATUS_AGE_ESTIMATED 0).scanTanks

/-- How long a source counts as available after a measurement (R332). -/
def sourceHold : Nat := 3 * sec

/-- Is a source of higher preference available? Codes of SOURCE: 1 PTP, 2 and 3 the peers, 4 1PPS. -/
def State.betterSource (s : State) (src : Nat) : Bool :=
  s.tm.measured.any fun e => decide (e.1 < src) && decide (s.tm.mono < e.2 + sourceHold)

/-- A valid measurement of a source (R331, R332): used where no source of higher preference is available; `shown` is the PTP offset it
stands for. -/
def State.measure (s : State) (src : Nat) (off shown : Int) : State :=
  let used := !s.betterSource src
  let s := { s with tm := { s.tm with measured := Tab.put src s.tm.mono s.tm.measured } }
  if !used then s
  else
    let s := { s with tm := { s.tm with lastGood := some s.tm.mono } }
    let left : Int := if src == 2 || src == 3 then shown - off.natAbs else 0
    if s.rd Reg.TIME_STATUS_SERVO == svFree then
      let r := s.stepShelf off true
      if r.1 then ((r.2.setSource src).setOffset left).firstLock else r.2
    else
      let s := (s.setSource src).wr Reg.TIME_STATUS_SERVO svLocked
      if s.rd Reg.TIME_SERVO_STEP_THRESH * us < off.natAbs then
        let r := s.stepShelf off false
        if r.1 then r.2.setOffset left else r.2
      else s.setOffset shown

/-- The PTP domain (R329). -/
def State.ptpDomain (s : State) : Nat := if s.params.podSection then s.params.ptpDomain else s.rd Reg.TIME_PTP_CFG_DOMAIN

/-- Is PTP enabled on a sub-port? -/
def State.ptpPort (s : State) (p : Nat) : Bool := s.rd Reg.TIME_PTP_PORTS_PORT_EN / 2 ^ p % 2 == 1

/-- The master's offset from shelf time in ns (R332). -/
def State.masterOffset (s : State) (m : PtpMsg) : Int := (m.master.total : Int) - s.tm.shelf

/-- PTP_MESSAGE_RECEIVE (R90, R329, R330, R332): on any port that is up, from PRIME on. -/
def execPtpMessageReceive (m : PtpMsg) (s : State) : Host.Outcome State Fault Refusal :=
  settled (let p := 8 * m.port.val + m.subPort.val
    let up := s.rd (Reg.ETH_LINK_UP.at m.port.val) / 2 ^ m.subPort.val % 2 == 1
    if !s.clocksRun || s.st < stPRIME || !up || !s.ptpPort p || !m.supported || m.domain != s.ptpDomain ||
        m.transport != s.rd Reg.TIME_PTP_CFG_TRANSPORT || !m.best then s
    else
      let s := { s with tm := { s.tm with gm := m.gm } }
      (s.wr Reg.TIME_STATUS_PTP_PORT p).measure 1 (s.masterOffset m) (s.masterOffset m))

/-- PTP_SYNC_SEND (R330): a boundary clock's Sync on a master port, with the grandmaster that it announces there. -/
def execPtpSyncSend (port : Fin 32) (s : State) : Host.Outcome State Fault Refusal :=
  settled (let slave := s.rd Reg.TIME_STATUS_SOURCE == 1 && s.rd Reg.TIME_STATUS_PTP_PORT == port.val
    if !s.clocksRun || !s.is Reg.TIME_PTP_CFG_BC || !s.ptpPort port || slave then s
    else s.send (.ptpSync port (.of s.tm.shelf) s.tm.gm))

/-- HOLDOVER_ENTRY (R332): no source has measured for 3 s. -/
def execHoldoverEntry (s : State) : Host.Outcome State Fault Refusal :=
  settled (match s.tm.lastGood with
    | none => s
    | some t =>
      if s.rd Reg.TIME_STATUS_SERVO != svLocked then s
      else ((s.atLeast (t + sourceHold)).wr Reg.TIME_STATUS_SERVO svHoldover).setSource 0)

/-- Codes of `PL_LINK_STATE` follow Table 13.2. -/
def State.plState (s : State) (k : Nat) : Nat := s.rd (Reg.PL_LINK_STATE.at k)

/-- The neighbour of a peer link. -/
def State.neighbour (s : State) (k : Nat) : Option Nat :=
  if s.is (Reg.PL_LINK_NEIGHBOUR_VALID.at k) then some (s.rd (Reg.PL_LINK_NEIGHBOUR.at k)) else none

/-- PEER_TIME_EXCHANGE (R331): the offset to the peer is shown; a peer whose source is PTP is a source. -/
def execPeerTimeExchange (link : Fin 2) (t : PeerTime) (s : State) : Host.Outcome State Fault Refusal :=
  settled (match s.neighbour link with
    | none => s
    | some m =>
      if !s.clocksRun || s.plState link != lkActive then s
      else
        let s := (s.toLink (52 + link) m (.time s.tm.shelf)).wr (Reg.TIME_PEER_OFFSET.at link) (signed32 t.offset)
        match t.ptpOffset with
        | none => s
        | some p =>
          if s.is Reg.TIME_SRC_CFG_PEER_EN && t.source == 1 then s.measure (2 + link) t.offset (p + t.offset.natAbs) else s)

/-- PPS_EDGE (R331): an edge is measured against `TIME_TOD`, once written; later edges stand for whole seconds after it. -/
def execPpsEdge (s : State) : Host.Outcome State Fault Refusal :=
  settled (let tod := s.rd64 Reg.TIME_TOD_LO Reg.TIME_TOD_HI
    if !s.clocksRun || !s.is Reg.TIME_SRC_CFG_PPS_EN || tod == 0 then s
    else
      let n := match s.tm.pps with
        | some (t, n) => if t == tod then n + 1 else 0
        | none => 0
      let off : Int := ((tod + n * sec : Nat) : Int) - s.tm.shelf
      ({ s with tm := { s.tm with pps := some (tod, n) } }).measure 4 off off)

/-- STEP_OVERRIDE (R328, R449): with KEY and ALLOW the override is recorded and armed; another write is recorded as refused; ignored while
the audit ring is full (R451). -/
def execStepOverride (value : W32) (s : State) : Host.Outcome State Fault Refusal :=
  settled (let s' := s.writeWord 0x300140 value
    if s.decodeOf .time != .all then s'
    else if s.auditFull then s'.setErr .cry 9
    else if value.toNat % 2 == 1 && value.toNat / 65536 == 0x9648 then
      { s'.audit audStepOverride actManagement false with tm := { s'.tm with overrideAt := some s'.tm.mono } }
    else s'.audited 0x300140 value true)

/-- STEP_OVERRIDE_LAPSE (R328). -/
def execStepOverrideLapse (s : State) : Host.Outcome State Fault Refusal :=
  settled (match s.tm.overrideAt with
    | none => s
    | some t =>
      let s := s.atLeast (t + 10 * sec)
      { s with tm := { s.tm with overrideAt := none } })

/-- SECURE_TIME_RECORD (R327, R290). -/
def execSecureTimeRecord (s : State) : Host.Outcome State Fault Refusal :=
  settled (if !s.clocksRun then s else { s with tm := { s.tm with floor := s.tm.secure, recorded := s.mediaNow } })

/-! ### The flags (R333, R136) -/

/-- The PTP offset now, in ns: in HOLDOVER the last one grows by HOLD_PPB. -/
def State.ptpOffset (s : State) : Nat :=
  if s.rd Reg.TIME_STATUS_SERVO != svHoldover then s.tm.lastOffset
  else s.tm.lastOffset + s.rd Reg.TIME_SERVO_HOLD_PPB * (s.tm.mono - s.tm.lastGood.getD s.tm.mono) / sec

/-- Offset to the peer on a link, where that member is in SERVE. -/
def State.peerOffset (s : State) (k : Nat) : Nat :=
  if (s.neighbour k).any s.memberServes then (s.field (Reg.TIME_PEER_OFFSET.at k)).toInt.natAbs else 0

/-- The time offset (R332). -/
def State.timeOffset (s : State) : Nat := max s.ptpOffset (max (s.peerOffset 0) (s.peerOffset 1))

/-- Is the servo FREE, or a step refused? -/
def State.timeLost (s : State) : Bool := s.rd Reg.TIME_STATUS_SERVO == svFree || s.tm.unbounded

/-- The cause of uncoordinated mode (Table 12.4). -/
def State.windowCause (s : State) (coord : Bool) : Nat :=
  if s.timeLost then 1
  else if decide (2 * us < s.timeOffset) || (s.begins .time && !coord) then 2
  else if s.tm.mismatch then 3
  else if s.tm.unplaceable then 4
  else if !s.begins .time then 5
  else 0

/-- Follow the conditions of COORD (R333): it falls at once, counted and with an alarm; it returns at the first cycle boundary after 1 s. -/
def State.checkCoord (s : State) : State :=
  let near := !s.timeLost && decide (s.timeOffset ≤ 2 * us)
  let since := if near then some (s.tm.goodSince.getD s.tm.mono) else none
  let good := near && s.begins .time
  let steady := good && since.any fun t => decide (t + sec ≤ s.tm.mono)
  let cycle := s.slotLen * s.slots
  let from_ := if steady then some (s.tm.coordFrom.getD ((s.tm.shelf + cycle - 1) / cycle * cycle)) else none
  let s := { s with tm := { s.tm with goodSince := since, coordFrom := from_ } }
  if s.is Reg.TIME_STATUS_COORD then
    (if good then s
     else ((s.wr Reg.TIME_STATUS_COORD 0).count Reg.TIME_CNT_COORD_LOSSES).raise sevUncorrected .time 0x300300)
  else if from_.any fun b => decide (b ≤ s.tm.shelf) then
    (s.wr Reg.TIME_STATUS_COORD 1).raise sevInfo .time 0x300300
  else s

/-- Show the mode of the windows and its cause. -/
def State.showMode (s : State) : State :=
  let coord := s.is Reg.TIME_STATUS_COORD
  let cause := s.windowCause coord
  (s.wrB Reg.TIME_WIN_STATUS_UNCOORD (!coord || s.tm.mismatch || s.tm.unplaceable)).wr Reg.TIME_WIN_STATUS_CAUSE cause

/-- Why PRD commands are not accepted, as SUSPEND codes it (R136, Table 5.9). -/
def State.prdSuspend (s : State) : Nat :=
  if !s.serving then 4
  else if !s.is Reg.TIME_STATUS_EVER_LOCKED then 1
  else if s.tm.unbounded || decide (100 * us < s.ptpOffset) then 2
  else if s.prd.stepHold.any fun t => decide (s.tm.mono < t) then 3
  else 0

/-- Show whether PRD commands are accepted. -/
def State.showPrd (s : State) : State :=
  let c := s.prdSuspend
  ((s.wr Reg.WELL_PRD_STATUS_SUSPEND c).wrB Reg.WELL_PRD_STATUS_ACCEPTING (c == 0 && s.running .well)).wrB
    Reg.TIME_STATUS_PRD_TIME_OK (c == 0 || c == 4 && s.is Reg.TIME_STATUS_EVER_LOCKED && !s.tm.unbounded &&
      decide (s.ptpOffset ≤ 100 * us) && !(s.prd.stepHold.any fun t => decide (s.tm.mono < t)))

/-- TIME_FLAG_CHECK (R333): COORD, PRD_TIME_OK and what shows them. -/
def execTimeFlagCheck (s : State) : Host.Outcome State Fault Refusal :=
  settled (if !s.clocksRun then s
    else
      let s := if s.rd Reg.TIME_STATUS_SERVO == svHoldover && !s.tm.unbounded
        then s.wr Reg.TIME_OFFSET_PTP_OFFSET (signed32 s.ptpOffset) else s
      s.checkCoord.showMode.showPrd)

end Sys2Proof.Machine
end

