-- ==== Sys2Proof/Machine/HostIo.lean ====
section
/-! DEFINITION. What the host commands share: which commands a path carries (R155, R167), the checks before a command runs
(R165, R169, R172, R173, R175, R179, R440), write protection (R27, R95, R285, R412), forwarding (R470), write data on
its way in (R33, R35, R123, R410), and audited admin commands (R449, R451). -/

namespace Sys2Proof.Machine

/-! ### Paths and opcodes -/

def Path.isPrd : Path → Bool
  | .prd _ _ _ => true
  | _ => false

def Path.isPcie : Path → Bool
  | .pcie _ _ => true
  | _ => false

def Path.isMailbox : Path → Bool
  | .mailbox _ _ => true
  | _ => false

/-- Does a command see what belongs to a tenant: its own, or every one in a mailbox's shelf-wide view (R29, R517)? -/
def sees (c : Cmd) (tenant : Nat) : Bool :=
  (match c.path with
   | .mailbox _ all => all
   | _ => false) || c.tenant == tenant

/-- The function a command came through; 0 on other paths. -/
def Path.fn : Path → Nat
  | .pcie fn _ => fn
  | _ => 0

/-- Opcodes of Table 6.4 that are executed, and those of Table 6.5. -/
def adminOpcodes : List Nat :=
  [0x00, 0x01, 0x02, 0x04, 0x05, 0x06, 0x08, 0x09, 0x0A, 0x0C, 0x0D, 0x15, 0x18, 0x19, 0x1A, 0x1C, 0x7F, 0x80]
def ioOpcodes : List Nat := [0x00, 0x01, 0x02, 0x05, 0x08, 0x09, 0x0C, 0x0D, 0x0E, 0x11, 0x15]

/-- Does the path carry the opcode (Table 5.5 for PRD; no Fabrics commands, Keep Alive or Asynchronous Event Request in a mailbox, R517)? -/
def supported (c : Cmd) : Bool :=
  (if c.admin then adminOpcodes else ioOpcodes).contains c.sqe.opcode &&
  (!c.path.isMailbox || !([0x7F, 0x18, 0x0C].contains c.sqe.opcode)) &&
  (!c.path.isPrd || !c.admin || [0x02, 0x06, 0x0A].contains c.sqe.opcode)

/-- The controller runs a command: it is in the controller, QOS has admitted it and its pump tile runs (R72); mailboxes are worked on from the end of STRUCT. -/
def State.runnable (s : State) (id : Nat) : Option Cmd :=
  match s.cmdOf id with
  | none => none
  | some c => if (s.accepting || c.path.isMailbox) && c.stage == .admitted && (c.admin || s.begins (pumpBlock c.pump)) then some c else none

/-- The command that a row runs: admitted, of the row's set and opcode, with FUSE 0b00. -/
def State.ready (s : State) (id : Nat) (admin : Bool) (op : Nat) : Option Cmd :=
  match s.runnable id with
  | none => none
  | some c => if c.admin == admin && c.sqe.opcode == op && c.sqe.fuse == 0 && supported c then some c else none

/-! ### Statuses beside those of Table 6.9 (NVMe Base 2.0) -/

def nvSequence : Nat := 0x00C
def nvMediaNotReady : Nat := 0x024
def nvCqInvalid : Nat := 0x100
def nvQidInvalid : Nat := 0x101
def nvQueueSize : Nat := 0x102
def nvAerLimit : Nat := 0x105
def nvVectorInvalid : Nat := 0x108
def nvLogPage : Nat := 0x109
def nvQueueDeletion : Nat := 0x10C
def nvNsAttached : Nat := 0x118
def nvNsNotAttached : Nat := 0x11A
def nvCtlrList : Nat := 0x11C
def nvCtlrInvalid : Nat := 0x11F
def nvConnectParam : Nat := 0x182

/-! ### Admin commands and the audit chain (R449, R451) -/

/-- Who sent a command (Table 16.8). -/
def State.actorOf (s : State) (c : Cmd) : Actor :=
  match c.path with
  | .rc _ => ⟨2, (s.ctlrOf c.ctlr).nqn⟩
  | .prd h _ _ => ⟨3, h⟩
  | .pcie fn _ => ⟨4, fn⟩
  | .forwarded m _ => ⟨5, m⟩
  | .mailbox _ _ => actManagement

/-- Admin commands that need no record: Identify, Get Log Page, Get Features, Keep Alive, Asynchronous Event Request and Fabrics
Property Get (fabrics command type 4). -/
def unrecorded (q : Sqe) : Bool :=
  [0x02, 0x06, 0x0A, 0x0C, 0x18].contains q.opcode || (q.opcode == 0x7F && q.fctype == 4)

/-- Record an admin command: dwords 0 and 10 to 15, then its status; done or refused. -/
def State.auditAdmin (s : State) (c : Cmd) (status : Nat) (slot : Nat := 0xFFFF) : State :=
  let q := c.sqe
  s.audit audAdmin (s.actorOf c) (status != nvOk) q.nsid slot
    (.admin [q.opcode + 256 * q.fuse + 65536 * q.cid, q.cdw10, q.cdw11, q.cdw12, q.cdw13, q.cdw14, q.cdw15] status)

/-- Complete a recorded admin command. -/
def State.adminDone (s : State) (id : Nat) (c : Cmd) (status : Nat) (dw0 : Nat := 0) (slot : Nat := 0xFFFF) : State :=
  (if unrecorded c.sqe then s else s.auditAdmin c status slot).finish id status dw0

/-- Complete a recorded admin command with a data structure. -/
def State.adminAnswer (s : State) (id : Nat) (c : Cmd) (fields : Fields) : State :=
  (if unrecorded c.sqe then s else s.auditAdmin c nvOk).answer id fields

/-- Run an admin command: a command that needs a record while the ring is full is refused with Operation Denied (R451); before SERVE a
mailbox runs only Identify, Get Log Page and Get Features (R517). -/
def State.admin (s : State) (id op : Nat) (f : Cmd → State) : State :=
  match s.ready id true op with
  | none => s
  | some c =>
    if !unrecorded c.sqe && s.auditFull then s.finish id nvOpDenied
    else if !s.accepting && !([0x02, 0x06, 0x0A].contains op) then s.adminDone id c nvMediaNotReady
    else f c

/-! ### Namespaces as commands see them -/

/-- Write-protected now: below D+P (or C) cisterns (R27), the bank not yet charged (R95), F_eff below 64 MiB (R412), or the shelf read
only (R285). -/
def State.writeProtected (s : State) (n : Ns) : Bool :=
  !s.is Reg.SUMP_STATUS_EVER_CHARGED || !s.is Reg.SUMP_STATUS_FLOAT_EFF || s.is Reg.FTL_MEDIA_STATUS_READ_ONLY ||
  decide (s.served.length < layMembers (s.nsLayout n))

/-- Retention-locked before expiry (R446). -/
def Ns.locked (n : Ns) : Bool := n.retain && (n.retState == retLocked || n.retState == retExpiring)

/-- IUs wholly inside a range. -/
def wholeIus (n : Ns) (slba nlb : Nat) : List Nat :=
  (iusOf n slba nlb).filter fun iu => decide (slba ≤ iu * n.iuLen ∧ (iu + 1) * n.iuLen ≤ slba + nlb)

/-- Does an IU count as written (R445)? -/
def State.iuWritten (s : State) (nsid : Nat) (n : Ns) (iu : Nat) : Bool :=
  Tab.has (iuKey nsid iu) s.ftl.map || n.claims.contains iu || s.ftl.versions.any fun v => v.nsid == nsid && v.iu == iu

/-! ### Before a command runs -/

/-- What the checks give: run it on a namespace, refuse it, send it to the owner, or hold it while ownership moves (R173). -/
inductive Gate where
  | run (n : Ns)
  | refuse (status : Nat)
  | forward (member : Nat)
  | hold
  deriving DecidableEq, Repr

/-- The namespace of a command, as its tenant and function may see it (R29, R165, R179), an accepted delete hiding it from every command that
it does not await (R164). -/
def State.visible (s : State) (id : Nat) (c : Cmd) : Option Ns :=
  match s.nsOf c.sqe.nsid with
  | none => none
  | some n =>
    let gone := n.deleting && !n.awaits.contains id
    if !sees c n.tenant || gone then none else some n

/-- Checks of ownership and of a format that runs (R169, R170, R172, R173). -/
def State.nsGate (s : State) (id : Nat) (c : Cmd) : Gate :=
  match s.visible id c with
  | none => .refuse nvInvalidNs
  | some n =>
    if Tab.has c.sqe.nsid s.pod.moving then .hold
    else if !s.owns n then (if s.memberServes n.owner then .forward n.owner else .refuse nvTransition)
    else if Tab.has c.sqe.nsid s.pod.adopting then .refuse nvTransition
    else if n.formatting then .refuse nvFormatInProgress
    else .run n

/-- The checks of an I/O command up to its reservation, judged at admission (R175), and its range (Table 6.9): on PCIe the namespace must be
attached; a namespace that is EXPIRED or whose key is not loaded is not ready, but for a deallocate in EXPIRED. -/
def State.ioGate (s : State) (id : Nat) (c : Cmd) : Gate :=
  match s.nsGate id c with
  | .forward m => if c.path.isPcie && !(s.nsOr c.sqe.nsid).attached.contains c.path.fn then .refuse nvInvalidField else .forward m
  | .run n =>
    let expired := n.retain && n.retState == retExpired
    if c.path.isPcie && !n.attached.contains c.path.fn then .refuse nvInvalidField
    else if expired && c.sqe.opcode != 0x09 then .refuse nvNotReady
    else if !expired && !s.keyLoaded n.keySlot keyXts256 then .refuse nvNotReady
    else if c.barred then .refuse nvResvConflict
    else if [0x01, 0x02, 0x05, 0x08, 0x0C].contains c.sqe.opcode && decide (n.nsze < c.sqe.slba + c.sqe.nlb) then
      .refuse nvLbaRange
    else .run n
  | g => g

/-- Send a command to the owner (R470): counted, and the transport stays here. -/
def State.forwardCmd (s : State) (id : Nat) (c : Cmd) (m : Nat) : State :=
  ((s.setStage id .remote).count Reg.POD_CNT_CMD_FORWARDED).toPeer m
    (.forward (.command { ref := id, tenant := c.tenant, hostId := s.hostOf c, admin := c.admin, sqe := c.sqe, dscp := c.dscp, u := c.u
                          prd := c.key.map fun k => (k.1, k.2.1, k.2.2, c.prd.issue), msgLen := c.prd.msgLen }))

/-- Run an I/O command past its checks. -/
def State.io (s : State) (id op : Nat) (f : Cmd → Ns → State) : State :=
  match s.ready id false op with
  | none => s
  | some c =>
    let s0 := s.tileEvent c.pump evCmdStart
    match s.ioGate id c with
    | .refuse st => s0.finish id st
    | .forward m => s0.forwardCmd id c m
    | .hold => s0.setStage id .moving
    | .run n => f c n

/-! ### Write data -/

/-- The claims of a command on a retention-locked namespace are released (R445). -/
def State.dropClaims (s : State) (c : Cmd) : State :=
  match s.nsOf c.sqe.nsid with
  | none => s
  | some n =>
    if !n.retain || n.claims.isEmpty then s
    else
      let mine := iusOf n c.sqe.slba c.sqe.nlb
      s.putNs c.sqe.nsid { n with claims := n.claims.filter fun i => !mine.contains i }

/-- A command that changes the namespace ends: a write's claims have become versions or are released, LAST_WRITE is the secure time of a write's completion
(R446), which the peer mirrors. -/
def State.writeDone (s : State) (id status : Nat) : State :=
  match s.cmdOf id with
  | none => s
  | some c =>
    let s := s.dropClaims c
    let s := match s.nsOf c.sqe.nsid with
      | none => s
      | some n =>
        if n.retain && status == nvOk && c.sqe.opcode != 0x09 then
          let s := s.putNs c.sqe.nsid { n with lastWrite := s.tm.secure }
          if s.dual then s.toPartner (.mirror { lastWrites := [(c.sqe.nsid, s.tm.secure)] }) else s
        else s
    (s.finish id status).movesGoOn

/-- The versions that sectors become in the peer's mirror, under the ordinals that they get here (R407, R413). -/
def mirrorVersions (nsid iuLen : Nat) (orders : List Nat) (ius : Tab (Tab Sector)) : List MirrorVersion :=
  (List.zip ius orders).map fun e =>
    { nsid := nsid, iu := e.1.1, order := e.2, whole := e.1.2.length == iuLen, sectors := e.1.2.map fun x => (x.1, x.2.bytes) }

/-- Versions in frames of at most 64 KiB of data. -/
def packVersions : List MirrorVersion → List MirrorVersion → List (List MirrorVersion)
  | [], cur => if cur.isEmpty then [] else [cur]
  | v :: t, cur =>
    if cur.isEmpty || decide (versionSectors cur + v.sectors.length ≤ 16) then packVersions t (cur ++ [v])
    else cur :: packVersions t [v]

/-- The first LBA of mirrored versions. -/
def firstLba (iuLen : Nat) (vs : List MirrorVersion) : Nat :=
  (vs.head?.map fun v => v.iu * iuLen + (v.sectors.head?.map (·.1)).getD 0).getD 0

/-- The port that a command's data came in by (Table 8.1). -/
def State.dataPort (s : State) (c : Cmd) : Nat :=
  match c.path with
  | .rc qp => ethPort (s.qpOf qp).port (s.qpOf qp).subPort
  | .prd .. => c.prdPort
  | .pcie .. => 54
  | _ => s.peerPort

/-- Queue a frame of a command's write data for SUMP and the peer (R225, R413): SUMP has taken it as it came (R220, R221), the copy for the
peer waits for its link, the same for all of the command's data (R457). `host`: it is data that the host can be asked for again (R223). -/
def State.mirrorData (s : State) (id : Nat) (c : Cmd) (host : Bool) (f : MirrorFrame) : State :=
  let n := s.nsOr c.sqe.nsid
  let src := s.dataPort c
  let port := ((s.cmdOf id).bind (·.mirrorPort)).getD s.peerPort
  (s.updCmd id fun c => { c with mirrorPort := some port }).queueFrame
    { len := max 1 (podLen (.mirror f)), part := if src == 54 then 6 else if src == 52 || src == 53 then 4 else 0, src := src
      dests := [55, port], done := [55]
      cmd := some (id, firstLba n.iuLen f.versions - c.sqe.slba, if host then versionSectors f.versions else 0)
      pod := s.partner.map fun p => s.podSend p (.mirror f) }

/-- The entry that a write leaves in the recent-transaction table, which its mirror brings to the peer with the data (R144). -/
def State.finalEntry (s : State) (c : Cmd) : List MirrorRecent :=
  match c.key with
  | none => []
  | some (h, g, t) => ((s.inProgress h g t).map fun e =>
      s.mirrorEntry { e.2 with st := 2, status := nvOk, prd := prdOk }).toList

/-- The sectors of a write are in the sump: in dual-controller write mode the completion waits for the peer's copy of each frame, else it is
sent (R33, R413). -/
def State.mirrorWrite (s : State) (id : Nat) (c : Cmd) (host : Bool) (vs : List MirrorVersion) : State :=
  if !s.dual then s.writeDone id nvOk
  else
    let ps := if vs.isEmpty then [[]] else packVersions vs []
    let s := s.updCmd id fun c => { c with stage := .waitMirror, mirrors := ps.length }
    ps.zipIdx.foldl (fun (s : State) (e : List MirrorVersion × Nat) => s.mirrorData id c host
      { cmd := some id, versions := e.1, recents := if e.2 + 1 == ps.length then s.finalEntry c else [], seq := s.ftl.placeSeq }) s

def State.regionOf (s : State) (i : Nat) : Region := Tab.getD i {} s.sump.regions

/-- A region as MIRROR brings it, with bytes at an offset. -/
def State.regionRecord (s : State) (i off : Nat) (d : List Byte) : MirrorRegion :=
  let r := s.regionOf i
  { index := Fin.ofNat 64 i, tenant := r.tenant, write := r.write, read := r.read, len := r.len, gen := r.gen, off := off, bytes := d }

/-- Keep a namespace's reservation, and mirror it to the peer (R174). -/
def State.putResv (s : State) (nsid : Nat) (n : Ns) : State :=
  (s.putNs nsid n).toPartner (.mirror { reservations := [s.resvRecord nsid n] })

/-- A namespace under the reservation that HANDOVER or MIRROR brings. -/
def Ns.withResv (n : Ns) (h : Handover) : Ns :=
  { n with resType := h.resType, resHolder := h.resHolder, resGen := h.resGen, ptpl := h.ptpl
           registrants := h.registrants.map fun (r : Nat × Nat) => ⟨r.1, r.2⟩ }

/-- Every slot of the sump, regions included, goes to the peer's mirror area (R415), in frames of at most 64 KiB of data, with the
recent transactions and the reservations that the peer mirrors (R144, R174); the last ends the copy back. -/
def State.mirrorAll (s : State) : State :=
  let vs := packVersions (s.ftl.versions.map fun v =>
    { nsid := v.nsid, iu := v.iu, order := v.order, whole := v.whole, sectors := v.sectors.map fun x => (x.1, x.2.bytes) }) []
  let rs := (s.sump.regions.filter fun e => e.2.st != 0).flatMap fun e =>
    (List.range (e.2.len / 65536)).map fun k => s.regionRecord e.1 (65536 * k) (Memory.read e.2.data (65536 * k) 65536)
  let fs : List MirrorFrame := vs.map (fun v => { versions := v }) ++ rs.map (fun r => { regions := [r] }) ++
    s.prd.ring.map (fun e => { recents := [s.mirrorEntry e.2] }) ++
    (s.ns.filter fun e => s.owns e.2).map (fun e => { reservations := [s.resvRecord e.1 e.2] }) ++
    [{ seq := s.ftl.placeSeq, copyEnd := true }]
  fs.foldl (fun (s : State) f => s.toPartner (.mirror f)) s

/-- A write's data is all here (R22, R33): protection information that fails ends it; else its IUs enter the sump, and the slots
reserved become occupied. -/
def State.writeEnter (s : State) (id : Nat) (c : Cmd) (d : List Byte) : State :=
  let n := s.nsOr c.sqe.nsid
  let xs := sectorsOf n c.sqe 0 c.sqe.nlb d
  match piEnter n c.sqe 0 xs with
  | some st => (s.tileEvent c.pump evPiError).writeDone id st
  | none =>
    let s := (s.releaseSlots c).updCmd id fun c => { c with slots := 0, buf := [] }
    let ius := groupIus n.iuLen c.sqe.slba xs
    let orders := (List.range ius.length).map (s.ftl.order + 1 + ·)
    let s := s.enterSump c.sqe.nsid c.sqe.slba xs (heatHint c.sqe)
    s.mirrorWrite id c true (mirrorVersions c.sqe.nsid n.iuLen orders (s.sealIus c.sqe.nsid ius))

/-- Bytes of a range are held no longer. -/
def cutBytes (buf : Tab (List Byte)) (off len : Nat) : Tab (List Byte) :=
  buf.foldl (fun t e =>
    let hi := off + len
    let t := if e.1 < off then Tab.put e.1 (e.2.take (off - e.1)) t else t
    if e.1 + e.2.length ≤ hi then t else Tab.put (max e.1 hi) (e.2.drop (hi - e.1)) t) []

/-- Put bytes that have arrived among those held, which stay as they are (R145): the pieces now held, and those that are new. -/
def placeBytes (buf : Tab (List Byte)) (off : Nat) (bytes : List Byte) : Tab (List Byte) × List (Nat × List Byte) :=
  let new := (missingParts buf off bytes.length 0x10000).map fun p => (p.1, slice bytes (p.1 - off) p.2)
  (new.foldl (fun t p => Tab.put p.1 p.2 t) buf, new)

/-- Data of a range whose peer copy was lost has come again: it is sent to the peer anew once it is whole (R223). -/
def State.remirror (s : State) (id off : Nat) (bytes : List Byte) : State :=
  match s.cmdOf id with
  | none => s
  | some c =>
    let n := s.nsOr c.sqe.nsid
    let wire := wireBytes n c.sqe
    let buf := (placeBytes c.buf off bytes).1
    let s := s.updCmd id fun c => { c with buf := buf }
    c.lost.foldl (fun (s : State) (l : Nat × Nat × List Nat) =>
      match readBuf buf (l.1 * wire) (l.2.1 * wire) 0x1000 with
      | none => s
      | some d =>
        let ius := groupIus n.iuLen (c.sqe.slba + l.1) (sectorsOf n c.sqe l.1 l.2.1 d)
        let s := s.updCmd id fun c =>
          { c with lost := c.lost.filter (· != l), mirrors := c.mirrors + 1, buf := cutBytes c.buf (l.1 * wire) (l.2.1 * wire) }
        s.mirrorData id c true { cmd := some id, versions := mirrorVersions c.sqe.nsid n.iuLen l.2.2 (s.sealIus c.sqe.nsid ius), seq := s.ftl.placeSeq }) s

/-- A Compare's data is here: it is kept, and the range is read. -/
def State.compareEnter (s : State) (id : Nat) (c : Cmd) (d : List Byte) : State :=
  let n := s.nsOr c.sqe.nsid
  match piEnter n c.sqe 0 (sectorsOf n c.sqe 0 c.sqe.nlb d) with
  | some st => (s.tileEvent c.pump evPiError).finish id st
  | none => (s.updCmd id fun c => { c with buf := [(0, d)] }).startRead id

/-- A write still receiving data whose layout has become unplaceable: Write Fault (R27, Table 6.9). -/
def State.writeFault (s : State) (id : Nat) (c : Cmd) : State := (s.partialWrite id c).writeDone id nvWriteFault

/-- Can a tank of the namespace's layout be opened at all (R27)? -/
def State.placeableNs (s : State) (n : Ns) : Bool := decide (layMembers (s.nsLayout n) ≤ s.served.length)

/-- Is all of a command's data held? -/
def State.dataWhole (s : State) (c : Cmd) : Option (List Byte) := readBuf c.buf 0 (s.inLen c) 0x10000

/-- Data of a command has arrived, `off` bytes into it: it is placed, and the command's data is FETCHED once it is whole; a forwarded
command's goes on to the owner (R470), that of a lost peer copy to the peer (R223). -/
def State.dataIn (s : State) (id off : Nat) (bytes : List Byte) : State :=
  match s.cmdOf id with
  | none => s
  | some c =>
    if c.stage == .waitMirror then s.remirror id off bytes
    else if c.stage != .fetching && c.stage != .remote then s
    else
      let r := placeBytes c.buf off bytes
      let c := { c with buf := r.1, fetched := c.fetched + (r.2.map fun p => p.2.length).sum }
      let s := s.updCmd id fun _ => c
      if c.stage == .remote then (r.2.flatMap fun p => chunks65536 p.1 p.2).foldl (fun (s : State) (p : Nat × List Byte) =>
        s.toPeer (s.nsOr c.sqe.nsid).owner (.forward (.data id p.1 p.2))) s
      else if !c.admin && c.sqe.opcode == 0x01 && !s.placeableNs (s.nsOr c.sqe.nsid) then s.writeFault id c
      else if (s.dataWhole c).isSome then s.setStage id .fetched
      else s

/-- Ask for what is missing of a command's data (R114, R145, R496, R470); data that came with the command needs no request. -/
def State.fetch (s : State) (id : Nat) (c : Cmd) : State :=
  if (s.dataWhole c).isSome then s.setStage id .fetched
  else (missingParts c.buf 0 (s.inLen c) 0x1000).foldl (fun (s : State) r => s.solicit id c r.1 r.2) (s.setStage id .fetching)

/-- Run a command on its data, or have that fetched first. -/
def State.withData (s : State) (id : Nat) (c : Cmd) (f : List Byte → State) : State :=
  match s.dataWhole c with
  | some d => f d
  | none => s.fetch id c

/-- The member that a new command goes on to: an I/O command for a namespace that another member in SERVE owns (R43), which meters it
(R192). -/
def State.foreign (s : State) (id : Nat) (c : Cmd) : Option Nat :=
  if c.admin || !ioOpcodes.contains c.sqe.opcode || c.sqe.fuse != 0 || !s.accepting then none
  else match c.path with
    | .forwarded _ _ | .mailbox _ _ => none
    | _ => match s.ioGate id c with
      | .forward m => some m
      | _ => none

/-- A command is held for QOS (R189), or forwarded to the owner of its namespace. -/
def State.enterCmd (s : State) (id : Nat) (c : Cmd) : State :=
  match s.foreign id c with
  | some m => s.forwardCmd id c m
  | none => s.hold id c

/-- Give a command its number. -/
def State.numberCmd (s : State) (c : Cmd) : State :=
  { s with host := { s.host with cmds := Tab.put s.host.next { c with arrived := s.tm.mono } s.host.cmds, next := s.host.next + 1 } }

/-- A command enters the controller. -/
def State.newCmd (s : State) (c : Cmd) : State := (s.numberCmd c).enterCmd s.host.next { c with arrived := s.tm.mono }

/-- A new command is answered without being given to QOS. -/
def State.refuseNew (s : State) (c : Cmd) (status : Nat) : State :=
  (s.numberCmd { c with stage := .admitted }).finish s.host.next status

/-! ### Ends of commands whose queue or host is lost -/

/-- A command leaves without a completion; one that is recorded is DONE with ABORTED (R142), its NVMe status not being given. -/
def State.dropCmd (s : State) (id : Nat) (c : Cmd) : State :=
  let s := (s.releaseSlots c).dropClaims c
  let s := if c.key.isSome then s.freeNext.recordEnd c (s.freeVal 11) 0 prdAborted false else s
  let s := if c.prd.asked.isEmpty then s else (s.freePulls id c.prd.asked).resumeSolicits
  let s := { s with host := { s.host with cmds := Tab.del id s.host.cmds }
                    sump := { s.sump with waiting := s.sump.waiting.filter (· != id) } }
  let s := s.updCtlr c.ctlr fun k => { k with aers := k.aers.filter (· != id) }
  match c.path with
  | .rc qp => s.updQp qp fun q => { q with cmds := q.cmds - 1 }
  | _ => s

/-- End a command whose queue is lost, at the next stage boundary (R123, R503): held and waiting commands go; a write still fetching
keeps the IUs that have arrived, here or at the owner; what has entered the sump or is being read runs on without a completion. -/
def State.loseCmd (s : State) (id : Nat) (c : Cmd) : State :=
  match c.stage with
  | .held => (match c.path with
    | .rc _ => s.removeHeld id c
    | _ => s.dropHeld id c).dropCmd id c
  | .fetching =>
    let s := s.partialWrite id c
    s.dropCmd id ((s.cmdOf id).getD c)
  | .admitted | .waitSlots | .aer | .connect | .moving | .pointer => s.dropCmd id c
  | .remote => (s.updCmd id fun c => { c with dead := true }).toPeer (s.nsOr c.sqe.nsid).owner (.forward (.abandon id))
  | _ => s.updCmd id fun c => { c with dead := true }

/-- End every command that `p` holds of. -/
def State.loseCmds (s : State) (p : Cmd → Bool) : State :=
  (s.host.cmds.filter fun e => p e.2).foldl (fun s e => s.loseCmd e.1 e.2) s

end Sys2Proof.Machine
end

