-- ==== Sys2Proof/Machine/Io.lean ====
section
/-! DEFINITION. The family of I/O commands (Table 6.5): Flush, Write, Read, Compare, Write Zeroes, Dataset Management, Verify, and
the reservation commands (R174-R176). -/

namespace Sys2Proof.Machine

/-! ### Reads -/

/-- FLUSH (R167): completes at once; it may name every namespace. -/
def execFlush (id : Nat) (s : State) : Host.Outcome State Fault Refusal :=
  settled (match s.ready id false 0x00 with
    | none => s
    | some c =>
      if c.sqe.nsid == 0xFFFFFFFF then (s.tileEvent c.pump evCmdStart).finish id nvOk
      else s.io id 0x00 fun c _ => (s.tileEvent c.pump evCmdStart).finish id nvOk)

/-- READ (R31, R167): at most 512 LBAs. -/
def execRead (id : Nat) (s : State) : Host.Outcome State Fault Refusal :=
  settled (s.io id 0x02 fun c n =>
    let s := s.tileEvent c.pump evCmdStart
    if 512 < c.sqe.nlb then s.finish id nvInvalidField
    else if piRefused n c.sqe then s.finish id nvInvalidPi
    else s.startRead id)

/-- VERIFY (R167): reads and checks without transfer, at most 65,536 LBAs, which NLB cannot exceed. -/
def execVerify (id : Nat) (s : State) : Host.Outcome State Fault Refusal :=
  settled (s.io id 0x0C fun c n =>
    let s := s.tileEvent c.pump evCmdStart
    if piRefused n c.sqe then s.finish id nvInvalidPi else s.startRead id)

/-- COMPARE (R167): the host's data is fetched, then compared with the range. -/
def execCompare (id : Nat) (s : State) : Host.Outcome State Fault Refusal :=
  settled (s.io id 0x05 fun c n =>
    let s := s.tileEvent c.pump evCmdStart
    if 512 < c.sqe.nlb then s.finish id nvInvalidField
    else if piRefused n c.sqe then s.finish id nvInvalidPi
    else s.withData id c (s.compareEnter id c))

/-! ### Writes -/

/-- What refuses a Write or Write Zeroes beyond the checks of every I/O command (Table 6.9, R445): write protection; in a
retention-locked namespace a partial IU, then an IU already written. -/
def State.writeRefusal (s : State) (nsid : Nat) (n : Ns) (slba nlb : Nat) : Option Nat :=
  let ius := iusOf n slba nlb
  if s.writeProtected n then some nvWriteProtected
  else if n.retain && (wholeIus n slba nlb).length != ius.length then some nvInvalidField
  else if n.retain && ius.any (s.iuWritten nsid n) then some nvReadOnlyRange
  else none

/-- Claim a command's IUs on a retention-locked namespace (R445). -/
def State.claim (s : State) (nsid : Nat) (n : Ns) (slba nlb : Nat) : State :=
  if n.retain then s.putNs nsid { n with claims := iusOf n slba nlb ++ n.claims } else s

/-- Wait at the pump for `k` slots, in arrival order (R410); `k` is kept in `slots`, not yet counted as reserved. -/
def State.queueForSlots (s : State) (id : Nat) : State :=
  ({ s with sump := { s.sump with waiting := s.sump.waiting ++ [id] } }).setStage id .waitSlots

/-- WRITE (R167, R410): NLB + 1 at most 512 and STC 0; then the refusals; the command claims its IUs and waits for its slots. -/
def execWrite (id : Nat) (s : State) : Host.Outcome State Fault Refusal :=
  settled (s.io id 0x01 fun c n =>
    let s := s.tileEvent c.pump evCmdStart
    let q := c.sqe
    if 512 < q.nlb || q.cdw12 / 2 ^ 24 % 2 == 1 then s.finish id nvInvalidField
    else match s.writeRefusal q.nsid n q.slba q.nlb with
      | some st => s.finish id st
      | none =>
        if piRefused n q then s.finish id nvInvalidPi
        else (s.claim q.nsid n q.slba q.nlb).queueForSlots id)

/-- Sectors of a range that lie in IUs it covers only in part (R275). -/
def partialSectors (n : Ns) (slba nlb : Nat) : List Nat :=
  ((List.range nlb).map (· + slba)).filter fun lba => !(wholeIus n slba nlb).contains (lba / n.iuLen)

/-- Slots that a command reserves (R410): one for each 4 KiB of a Write; for a Write Zeroes, one for each sector of its fragments. -/
def State.slotsOf (s : State) (c : Cmd) : Nat :=
  if c.sqe.opcode == 0x08 then (partialSectors (s.nsOr c.sqe.nsid) c.sqe.slba c.sqe.nlb).length else c.sqe.nlb

/-- Keep the tags that the protection information of a zeroed IU is generated with (R171). -/
def State.tagZeroed (s : State) (nsid iu : Nat) (n : Ns) (q : Sqe) : State :=
  if !n.hasPi then s
  else
    let t := (q.appTag, n.refAt (q.refTag n.lbaf) (iu * n.iuLen - q.slba))
    { s with ftl := { s.ftl with zeroTags := Tab.put (iuKey nsid iu) t s.ftl.zeroTags } }

/-- A Write Zeroes takes effect (R275): fragments of zeros for parts of IUs, zero markers for whole ones, with protection
information as for PRACT = 1 (R171). -/
def State.zeroRange (s : State) (id : Nat) (c : Cmd) : State :=
  let n := s.nsOr c.sqe.nsid
  let s := (s.releaseSlots c).updCmd id fun c => { c with slots := 0 }
  let frags := (partialSectors n c.sqe.slba c.sqe.nlb).foldl
    (fun (t : Tab (Tab Sector)) lba => Tab.upd (lba / n.iuLen) []
      (Tab.put (lba % n.iuLen) (zeroSector n c.sqe.appTag (n.refAt (c.sqe.refTag n.lbaf) (lba - c.sqe.slba)))) t) []
  let orders := (List.range frags.length).map (s.ftl.order + 1 + ·)
  let s := (frags.foldl (fun (s : State) (e : Nat × Tab Sector) => s.enterIu c.sqe.nsid e.1 e.2 none) s).assignAll
  let s := (wholeIus n c.sqe.slba c.sqe.nlb).foldl (fun s iu => (s.marker c.sqe.nsid iu true).tagZeroed c.sqe.nsid iu n c.sqe) s
  s.checkpointIfFull.mirrorWrite id c false (mirrorVersions c.sqe.nsid n.iuLen orders (s.sealIus c.sqe.nsid frags))

/-- Must a command's markers wait, because the journal has no room for their records (R251)? -/
def State.markersWait (s : State) (markers : Nat) : Bool := markers != 0 && s.journalFull (48 * markers)

/-- WRITE_ZEROES (R171, R275): a command with no part of an IU takes effect at once, another waits for its slots; while the journal has no
room for its markers it waits as it stands (R251). -/
def execWriteZeroes (id : Nat) (s : State) : Host.Outcome State Fault Refusal :=
  settled (s.io id 0x08 fun c n =>
    let t := s.tileEvent c.pump evCmdStart
    let q := c.sqe
    match t.writeRefusal q.nsid n q.slba q.nlb with
    | some st => t.finish id st
    | none =>
      if t.slotsOf c != 0 then (t.claim q.nsid n q.slba q.nlb).queueForSlots id
      else if t.markersWait (wholeIus n q.slba q.nlb).length then s
      else (t.claim q.nsid n q.slba q.nlb).zeroRange id c)

/-- The ranges that a Dataset Management command's data names: (SLBA, LBAs), 16 bytes each, the context attributes ignored. -/
def dsmRanges (d : List Byte) : List (Nat × Nat) :=
  (List.range (d.length / 16)).map fun i => (leAt d (16 * i + 8) 8, leAt d (16 * i + 4) 4)

/-- A deallocate on its ranges (R170, R274): a range beyond NSZE, a read-only shelf, or a retention-locked namespace before expiry refuses it
whole; else unmapped markers for every whole IU, once the journal has room for their records (R251): until then the command waits with its
data.  It completes when its markers are durable, in dual-controller mode at the peer too (R266). -/
def State.deallocate (s : State) (id : Nat) (c : Cmd) (d : List Byte) : State :=
  let n := s.nsOr c.sqe.nsid
  let rs := dsmRanges d
  if rs.any fun r => decide (n.nsze < r.1 + r.2) then s.finish id nvLbaRange
  else if s.is Reg.FTL_MEDIA_STATUS_READ_ONLY then s.finish id nvWriteProtected
  else if n.locked && rs.any (fun r => r.2 != 0) then s.finish id nvOpDenied
  else
    let ius := rs.flatMap fun r => wholeIus n r.1 r.2
    if s.markersWait ius.length then s.updCmd id fun c => { c with stage := .admitted, buf := [(0, d)] }
    else (ius.foldl (fun s iu => s.marker c.sqe.nsid iu false) s).checkpointIfFull.mirrorWrite id c false []

/-- DATASET_MANAGEMENT (R170): its ranges are fetched; without AD nothing is done. -/
def execDatasetManagement (id : Nat) (s : State) : Host.Outcome State Fault Refusal :=
  settled (s.io id 0x09 fun c _ =>
    let s := s.tileEvent c.pump evCmdStart
    if c.sqe.cdw11 / 4 % 2 == 0 then s.finish id nvOk else s.withData id c (s.deallocate id c))

/-! ### Reservations (R174 to R176) -/

/-- Notification types of log page 0x80. -/
def rnPreempted : Nat := 1
def rnReleased : Nat := 2
def rnResPreempted : Nat := 3

/-- Tell a host of a reservation change, unless it has masked the notification for the namespace (R176). -/
def State.notifyResv (s : State) (nsid type host : Nat) : State :=
  s.host.ctlrs.foldl (fun (s : State) (k : Nat × Ctlr) =>
    if k.2.connected && k.2.hostId == host && Tab.getD nsid 0 k.2.resvMask / 2 ^ type % 2 == 0 then
      (s.updCtlr k.1 fun k => { k with resvLog := k.resvLog ++ [(type, nsid)] }).hostEvent k.1 (6, 0)
    else s) s

/-- Notify several hosts. -/
def State.notifyAll (s : State) (nsid type : Nat) (hosts : List Nat) : State :=
  hosts.foldl (fun s h => s.notifyResv nsid type h) s

/-- A registrant's entry. -/
def Ns.registrant (n : Ns) (host : Nat) : Option Registrant := n.registrants.find? fun r => r.hostId == host

/-- Drop registrants; a reservation whose holder goes, or whose last holder goes, is released. -/
def Ns.dropRegs (n : Ns) (gone : Registrant → Bool) : Ns :=
  let left := n.registrants.filter fun r => !gone r
  let kept := if allRegistrants n.resType then !left.isEmpty else left.any fun r => r.hostId == n.resHolder
  { n with registrants := left
           resType := if kept then n.resType else 0
           resHolder := if kept then n.resHolder else 0 }

/-- CPTPL: 0b10 clears and 0b11 sets Persist Through Power Loss. -/
def Ns.cptpl (n : Ns) (q : Sqe) : Ns :=
  match q.cdw10 / 2 ^ 30 with
  | 2 => { n with ptpl := false }
  | 3 => { n with ptpl := true }
  | _ => n

/-- A further registrant, of whom a namespace holds at most 64 (R174). -/
def State.addRegistrant (s : State) (id : Nat) (q : Sqe) (n : Ns) (h key : Nat) : State :=
  if 64 ≤ n.registrants.length then s.finish id nvOpDenied
  else (s.putResv q.nsid { ({ n with registrants := n.registrants ++ [⟨h, key⟩] } : Ns).cptpl q with resGen := n.resGen + 1 }).finish id nvOk

/-- Register, unregister or replace, with the keys CRKEY and NRKEY of the data (R174). -/
def State.resvRegister (s : State) (id : Nat) (c : Cmd) (d : List Byte) : State :=
  let n := s.nsOr c.sqe.nsid
  let q := c.sqe
  let h := s.hostOf c
  let crkey := leAt d 0 8
  let nrkey := leAt d 8 8
  let iekey := q.cdw10 / 8 % 2 == 1
  let put (n' : Ns) : State := s.putResv q.nsid { n'.cptpl q with resGen := n.resGen + 1 }
  match q.cdw10 % 8, n.registrant h with
  | 0, some r => s.finish id (if r.key == nrkey then nvOk else nvResvConflict)
  | 0, none => s.addRegistrant id q n h nrkey
  | 1, none => s.finish id nvResvConflict
  | 1, some r =>
    if !iekey && r.key != crkey then s.finish id nvResvConflict
    else
      let n' := n.dropRegs fun r => r.hostId == h
      let released := n.resType != 0 && n'.resType == 0 && 3 ≤ n.resType
      let s := put n'
      (if released then s.notifyAll q.nsid rnReleased (n'.registrants.map (·.hostId)) else s).finish id nvOk
  | 2, none => if iekey then s.addRegistrant id q n h nrkey else s.finish id nvResvConflict
  | 2, some r =>
    if !iekey && r.key != crkey then s.finish id nvResvConflict
    else (put { n with registrants := n.registrants.map fun (r : Registrant) =>
      if r.hostId == h then { r with key := nrkey } else r }).finish id nvOk
  | _, _ => s.finish id nvInvalidField

/-- RESERVATION_REGISTER (R174): its keys are fetched. -/
def execReservationRegister (id : Nat) (s : State) : Host.Outcome State Fault Refusal :=
  settled (s.io id 0x0D fun c _ =>
    let s := s.tileEvent c.pump evCmdStart
    s.withData id c (s.resvRegister id c))

/-- RESERVATION_REPORT (R174): generation, type, registrants, Persist Through Power Loss; then one entry a registrant in the extended
data structure: controller identifier 0xFFFF, holder mark, key, host identifier. -/
def execReservationReport (id : Nat) (s : State) : Host.Outcome State Fault Refusal :=
  settled (s.io id 0x0E fun c n =>
    let s := s.tileEvent c.pump evCmdStart
    if c.sqe.cdw11 % 2 == 0 then s.finish id nvHostIdFormat
    else s.answer id ([(0, 4, n.resGen), (4, 1, n.resType), (5, 2, n.registrants.length), (9, 1, if n.ptpl then 1 else 0)] ++
      (n.registrants.zipIdx.flatMap fun (e : Registrant × Nat) =>
        [(64 + 64 * e.2, 2, 0xFFFF), (66 + 64 * e.2, 1, if n.holds e.1.hostId then 1 else 0), (72 + 64 * e.2, 8, e.1.key),
         (80 + 64 * e.2, 16, e.1.hostId)])))

/-- Abort every command of some hosts to a namespace that QOS has not yet admitted (R175). -/
def State.abortHeld (s : State) (nsid : Nat) (hosts : List Nat) : State :=
  (s.host.cmds.filter fun e => e.2.stage == .held && e.2.sqe.nsid == nsid && hosts.contains (s.hostOf e.2)).foldl
    (fun s e => (s.removeHeld e.1 e.2).finish e.1 nvPreemptAbort) s

/-- Preempt by a registrant `h` the registrants with the given key, and the reservation where its holder is among them or the
namespace has none of it. -/
def State.preempt (s : State) (id : Nat) (q : Sqe) (n : Ns) (h key : Nat) (abort : Bool) : State :=
  let type := q.cdw10 / 256 % 256
  let every := allRegistrants n.resType && key == 0
  let victims := n.registrants.filter fun r => r.hostId != h && (every || r.key == key)
  let holderKey := ((n.registrant n.resHolder).map (·.key)).getD 0
  let takes := n.resType != 0 && (if allRegistrants n.resType then every else holderKey == key)
  if victims.isEmpty && !takes then s.finish id nvResvConflict
  else
    let hosts := victims.map (·.hostId)
    let left := n.registrants.filter fun r => !hosts.contains r.hostId
    let n' : Ns := { n with registrants := left
                            resType := if takes then type else n.resType
                            resHolder := if takes then h else n.resHolder, resGen := n.resGen + 1 }
    let s := (s.putResv q.nsid n').notifyAll q.nsid rnPreempted hosts
    let s := if takes && type != n.resType then
      s.notifyAll q.nsid rnResPreempted ((left.map (·.hostId)).filter (· != h)) else s
    let s := if abort then s.abortHeld q.nsid hosts else s
    s.finish id nvOk

/-- Acquire, preempt, or preempt and abort, by a registrant with its current key; CRKEY and PRKEY are in the data (R174, R175). -/
def State.resvAcquire (s : State) (id : Nat) (c : Cmd) (d : List Byte) : State :=
  let n := s.nsOr c.sqe.nsid
  let q := c.sqe
  let h := s.hostOf c
  let type := q.cdw10 / 256 % 256
  let keyGood := (n.registrant h).any fun r => q.cdw10 / 8 % 2 == 1 || r.key == leAt d 0 8
  if !keyGood then s.finish id nvResvConflict
  else if type == 0 || 6 < type then s.finish id nvInvalidField
  else match q.cdw10 % 8 with
    | 0 =>
      if n.resType == 0 then (s.putResv q.nsid { n with resType := type, resHolder := h }).finish id nvOk
      else s.finish id (if n.holds h && n.resType == type then nvOk else nvResvConflict)
    | 1 => s.preempt id q n h (leAt d 8 8) false
    | 2 => s.preempt id q n h (leAt d 8 8) true
    | _ => s.finish id nvInvalidField

/-- RESERVATION_ACQUIRE (R175): its keys are fetched. -/
def execReservationAcquire (id : Nat) (s : State) : Host.Outcome State Fault Refusal :=
  settled (s.io id 0x11 fun c _ =>
    let s := s.tileEvent c.pump evCmdStart
    s.withData id c (s.resvAcquire id c))

/-- Release by a holder, or clear by any registrant; CRKEY is in the data (R174). -/
def State.resvRelease (s : State) (id : Nat) (c : Cmd) (d : List Byte) : State :=
  let n := s.nsOr c.sqe.nsid
  let q := c.sqe
  let h := s.hostOf c
  let keyGood := (n.registrant h).any fun r => q.cdw10 / 8 % 2 == 1 || r.key == leAt d 0 8
  let others := (n.registrants.map (·.hostId)).filter (· != h)
  if !keyGood then s.finish id nvResvConflict
  else match q.cdw10 % 8 with
    | 0 =>
      if !n.holds h then s.finish id nvOk
      else if q.cdw10 / 256 % 256 != n.resType then s.finish id nvInvalidField
      else
        let s := s.putResv q.nsid { n with resType := 0, resHolder := 0 }
        (if 3 ≤ n.resType then s.notifyAll q.nsid rnReleased others else s).finish id nvOk
    | 1 =>
      ((s.putResv q.nsid { n with registrants := [], resType := 0, resHolder := 0, resGen := n.resGen + 1 }).notifyAll q.nsid
        rnPreempted others).finish id nvOk
    | _ => s.finish id nvInvalidField

/-- RESERVATION_RELEASE (R174): its key is fetched. -/
def execReservationRelease (id : Nat) (s : State) : Host.Outcome State Fault Refusal :=
  settled (s.io id 0x15 fun c _ =>
    let s := s.tileEvent c.pump evCmdStart
    s.withData id c (s.resvRelease id c))

end Sys2Proof.Machine
end

