-- ==== Sys2Proof/Machine/Namespaces.lean ====
section
/-! DEFINITION. Namespaces: creation (R158-R162, R440), growth (R163), deletion (R164), attachment (R165), Format NVM (R169), and
the namespace registers (R564). -/

namespace Sys2Proof.Machine

/-! ### Capacity (R30) -/

/-- Bytes of raw space that a namespace of this size takes at its layout's efficiency. -/
def rawNeed (layout nsze : Nat) : Nat := ceilDiv (nsze * 4096 * layMembers layout) (layData layout)

/-- Raw bytes of the cisterns in service. -/
def State.rawBytes (s : State) : Nat := (s.served.map fun c => s.blockCount c * s.pages * 16384).sum

/-- Does the allocation, with `extra` raw bytes more, stay within the raw space left after the spare reserve and over-provisioning? -/
def State.capacityGood (s : State) (extra : Nat) : Bool :=
  let used := (s.ns.map fun e => rawNeed (s.nsLayout e.2) e.2.nsze).sum + extra
  let n := s.served.length
  if n == 0 then used == 0 else decide (used * 1000 * n ≤ (n - s.params.spare) * s.rawBytes * (1000 - s.params.overprovision))

/-! ### Creation -/

/-- What a create asks for (R159, Table 6.2, Table 22.6). -/
structure CreateReq where
  nsze : Nat
  ncap : Nat
  lbaf : Nat
  extended : Bool
  pi : Nat
  iu : Nat
  layout : Nat
  retain : Nat
  days : Nat
  deriving DecidableEq, Repr

/-- The first row of Table 6.3 that applies, 1 to 3; 0 none. -/
def State.createRefusal (s : State) (r : CreateReq) : Nat :=
  let layout := s.params.layouts.getD r.layout 0
  if 3 < r.lbaf || (r.lbaf != 0 && !r.extended) || 3 < r.pi || (r.lbaf == 0 && r.pi != 0) || r.nsze == 0 || r.ncap != r.nsze ||
      decide (s.params.layouts.length ≤ r.layout) || 1 < r.iu || 1 < r.retain ||
      (if r.retain == 1 then r.days == 0 || decide (36525 < r.days) else r.days != 0) then 1
  else if 4096 ≤ s.ns.length then 2
  else if s.served.length < layMembers layout + 1 || !s.capacityGood (rawNeed layout r.nsze) then 3
  else 0

/-- Status of a row of Table 6.3. -/
def createStatus (row : Nat) : Nat :=
  match row with
  | 0 => nvOk
  | 1 => nvInvalidField
  | 2 => nvNsidUnavailable
  | _ => nvInsufficient

/-- The lowest free NSID from 1 (R159). -/
def State.freeNsid (s : State) : Nat := ((List.range 4096).find? fun i => !Tab.has (i + 1) s.ns).getD 0 + 1

/-- The member that owns a namespace created on a shelf (R469): this controller where it is the home, else the lowest member there. -/
def State.ownerFor (s : State) (home : Option Nat) : Nat :=
  match s.selfEntry, home with
  | some (i, m), some h =>
    if m.2.1 == h then i else ((s.params.members.zipIdx.find? fun e => e.1.2.1 == h).map (·.2)).getD i
  | _, _ => s.selfIndex

/-- Bytes 3,072 to 3,079 of a namespace's vendor area (Table 6.2). -/
def Ns.vendor (n : Ns) : List Byte :=
  leBytes 1 (if n.iu16 then 1 else 0) ++ leBytes 1 n.layout ++ leBytes 2 (if n.retain then 1 else 0) ++ leBytes 4 n.retainDays

/-- Enter a namespace with its key slot: resident and empty, LOCKED where retention-locked, its LAST_WRITE the creation time (R446),
journalled. -/
def State.createNs (s : State) (id : Nat) (r : CreateReq) (tenant slot : Nat) (home : Option Nat) : State :=
  let n : Ns :=
    { nsze := r.nsze, lbaf := r.lbaf, piType := r.pi, iu16 := r.iu == 1, layout := r.layout, retain := r.retain == 1
      retainDays := r.days, tenant := tenant, owner := s.ownerFor home, home := home, keySlot := slot, created := s.tm.secure
      lastWrite := s.tm.secure, retState := if r.retain == 1 then retLocked else retNone }
  let s := s.putNs id n
  let s := { s with ftl := { s.ftl with segs := Tab.put id { all := true } s.ftl.segs } }
  (s.journal (.namespace_ id 0 r.nsze n.vendor)).showMap

/-- The create data structure (R159; NVMe Base 2.0): NSZE, NCAP, FLBAS with the format's upper bits, DPS, and the vendor area of Table 6.2. -/
def createReq (d : List Byte) : CreateReq :=
  let fl := leAt d 26 1
  { nsze := leAt d 0 8, ncap := leAt d 8 8, lbaf := fl % 16 + 16 * (fl / 32 % 4), extended := fl / 16 % 2 == 1, pi := leAt d 29 1 % 8
    iu := leAt d 3072 1, layout := leAt d 3073 1, retain := leAt d 3074 1, days := leAt d 3076 4 }

/-- Create a namespace as the data asks (R162, R440), for the tenant of the host, on this controller's shelf; a key is generated in the lowest
EMPTY slot.  The NSID is dword 0 of the completion. -/
def State.nsCreate (s : State) (id : Nat) (c : Cmd) (d : List Byte) : State :=
  let r := createReq d
  match s.createRefusal r, s.lowestEmpty with
  | 0, none => s.adminDone id c nvInsufficient
  | 0, some slot =>
    let nsid := s.freeNsid
    let home := s.selfEntry.map fun e => e.2.2.1
    ((s.generateKey slot keyXts256).createNs nsid r c.tenant slot home).adminDone id c nvOk nsid slot
  | row, _ => s.adminDone id c (createStatus row)

/-- NAMESPACE_CREATE (R158): by a host whose tenant permits it; the data structure is fetched. -/
def execNamespaceCreate (id : Nat) (permitted : Bool) (s : State) : Host.Outcome State Fault Refusal :=
  settled (s.admin id 0x0D fun c =>
    if c.sqe.cdw10 % 16 == 1 then s
    else if c.sqe.cdw10 % 16 != 0 then s.adminDone id c nvInvalidField
    else if !permitted then s.adminDone id c nvOpDenied
    else s.withData id c (s.nsCreate id c))

/-! ### Contents -/

/-- Every LBA of a namespace is deallocated: its map, its versions and its lost ranges go (R164, R169). -/
def State.clearNs (s : State) (nsid : Nat) : State :=
  let keys := (s.ftl.map.filter fun e => e.1 / 2 ^ 48 == nsid).map fun e => e.1 % 2 ^ 48
  let s := keys.foldl (fun s iu => s.marker nsid iu false) s
  let s := s.removeVersions ((s.ftl.versions.filter fun v => v.nsid == nsid).map (·.order))
  s.clearLost nsid 0 (s.nsOr nsid).nsze

/-- Has the journal no room yet for the markers that clear a namespace (R251)? -/
def State.clearWaits (s : State) (nsid : Nat) : Bool := s.markersWait (s.ftl.map.countE fun k _ => k / 2 ^ 48 == nsid)

/-- The admitted commands of a namespace: its I/O commands past QOS (R164, R169). -/
def State.nsAdmitted (s : State) (nsid : Nat) : List Nat :=
  (s.host.cmds.filter fun e => e.2.sqe.nsid == nsid && !e.2.admin && !([Stage.held, .pointer, .moving, .remote].contains e.2.stage)).map (·.1)

/-! ### Growth (R163) -/

/-- Raise NSZE and NCAP. -/
def State.growNs (s : State) (id : Nat) (n : Ns) (nsze : Nat) : State :=
  let s := (s.putNs id { n with nsze := nsze }).journal (.namespace_ id 1 nsze n.vendor)
  s.showMap.nsChanged id

/-! ### Deletion (R164) -/

/-- A delete is accepted: admission stops, held commands find no such namespace, and those admitted, with an accepted format, are awaited. -/
def State.beginDelete (s : State) (id : Nat) (n : Ns) (by_ : Option Nat) : State :=
  let s := s.putNs id { n with deleting := true, deleteBy := by_, awaits := s.nsAdmitted id ++ (n.format.map (·.1)).toList }
  (s.host.cmds.filter fun e => e.2.stage == .held && e.2.sqe.nsid == id).foldl
    (fun s e => (s.dropHeld e.1 e.2).finish e.1 nvInvalidNs) s

/-- A namespace leaves, its key slot destroyed first. -/
def State.removeNs (s : State) (id : Nat) (n : Ns) (a : Actor) : State :=
  let s := (s.destroyKey n.keySlot a .nsDelete id).clearNs id
  let s := { s with
    ns := Tab.del id s.ns
    ftl := { s.ftl with segs := Tab.del id s.ftl.segs, waitSegs := s.ftl.waitSegs.filter (·.1 != id)
                        metaWait := s.ftl.metaWait.filter fun u => match u with
                          | .base n _ => n != id
                          | _ => true } }
  (s.journal (.namespace_ id 2 n.nsze n.vendor)).showMap

/-- The namespace an admin command acts on, forwarded to its owner where that is another member (R470). -/
def State.adminNs (s : State) (id : Nat) (c : Cmd) (f : Ns → State) : State :=
  match s.nsGate id c with
  | .refuse st => s.adminDone id c st
  | .forward m => s.forwardCmd id c m
  | .hold => s.setStage id .moving
  | .run n => f n

/-- NAMESPACE_DELETE (R164): refused for a retention-locked namespace before expiry. -/
def execNamespaceDelete (id : Nat) (permitted : Bool) (s : State) : Host.Outcome State Fault Refusal :=
  settled (s.admin id 0x0D fun c =>
    if c.sqe.cdw10 % 16 != 1 then s
    else if !permitted then s.adminDone id c nvOpDenied
    else s.adminNs id c fun n =>
      if n.deleting then s.adminDone id c nvInvalidNs
      else if n.locked then s.adminDone id c nvOpDenied
      else (s.beginDelete c.sqe.nsid n (some id)).setStage id .draining)

/-- NAMESPACE_DELETE_DRAINED (R164): the commands admitted before have completed; the key is destroyed, then the delete completes. -/
def execNamespaceDeleteDrained (nsid : Nat) (s : State) : Host.Outcome State Fault Refusal :=
  settled (match s.nsOf nsid with
    | none => s
    | some n =>
      if !n.deleting || n.awaits.any (fun i => (s.cmdOf i).isSome) then s
      else match n.deleteBy with
        | none =>
          ((s.removeNs nsid n actManagement).wr Reg.FTL_NS_STATUS_BUSY 0).wr Reg.FTL_NS_STATUS_RESULT 0
        | some id => match s.cmdOf id with
          | none => s.removeNs nsid n actController
          | some c => (s.removeNs nsid n (s.actorOf c)).adminDone id c nvOk 0 n.keySlot)

/-! ### Attachment (R165) -/

/-- The controllers that a Controller List names, which over PCIe are functions: their count, then two bytes each (NVMe Base 2.0). -/
def ctlrList (d : List Byte) : List Nat := (List.range (min 2047 (leAt d 0 2))).map fun i => leAt d (2 + 2 * i) 2

/-- Attach a namespace to, or detach it from, functions of its tenant (R165). -/
def State.nsAttach (s : State) (id : Nat) (c : Cmd) (d : List Byte) : State :=
  let q := c.sqe
  match s.visible id c with
  | none => s.adminDone id c nvInvalidNs
  | some n =>
    let fns := ctlrList d
    if fns.isEmpty then s.adminDone id c nvCtlrList
    else if fns.any fun f => (s.fnOf f).tenant != n.tenant then s.adminDone id c nvInvalidNs
    else match q.cdw10 % 16 with
      | 0 =>
        if fns.any n.attached.contains then s.adminDone id c nvNsAttached
        else (s.putNs q.nsid { n with attached := n.attached ++ fns }).adminDone id c nvOk
      | 1 =>
        if !fns.all n.attached.contains then s.adminDone id c nvNsNotAttached
        else (s.putNs q.nsid { n with attached := n.attached.filter fun f => !fns.contains f }).adminDone id c nvOk
      | _ => s.adminDone id c nvInvalidField

/-- NAMESPACE_ATTACHMENT (R165): on PCIe alone; the Controller List is fetched. -/
def execNamespaceAttachment (id : Nat) (s : State) : Host.Outcome State Fault Refusal :=
  settled (s.admin id 0x15 fun c =>
    if !c.path.isPcie then s.adminDone id c nvInvalidOpcode else s.withData id c (s.nsAttach id c))

/-! ### Format NVM (R169) -/

/-- FORMAT_NVM (R169): one namespace; LBAF and protection information within Table 6.1, secure erase none, user data or cryptographic. -/
def execFormatNvm (id : Nat) (s : State) : Host.Outcome State Fault Refusal :=
  settled (s.admin id 0x80 fun c =>
    let w := c.sqe.cdw10
    let lbaf := w % 16
    let pi := w / 32 % 8
    if c.sqe.nsid == 0xFFFFFFFF then s.adminDone id c nvInvalidField
    else s.adminNs id c fun n =>
      if 3 < lbaf || 3 < pi || (lbaf == 0 && pi != 0) || (lbaf != 0 && w / 16 % 2 == 0) || 2 < w / 512 % 8 then
        s.adminDone id c nvInvalidField
      else if n.locked then s.adminDone id c nvOpDenied
      else if n.format.isSome then s.adminDone id c nvFormatInProgress
      else (s.putNs c.sqe.nsid { n with format := some (id, lbaf + 16 * pi, w / 512 % 8) }).setStage id .draining)

/-- FORMAT_START (R169): the commands admitted before have completed; a crypto-erase destroys the key and generates another in the same
slot, as does leaving EXPIRED (R440); every LBA is deallocated; LAST_WRITE is the format time (R446). -/
def execFormatStart (nsid : Nat) (s : State) : Host.Outcome State Fault Refusal :=
  settled (match s.nsOf nsid with
    | none => s
    | some n => match n.format with
      | none => s
      | some (id, fmt, ses) =>
        if n.formatting || !(s.nsAdmitted nsid).isEmpty || s.clearWaits nsid then s
        else
          let a := match s.cmdOf id with
            | some c => s.actorOf c
            | none => actController
          let s := if ses == 0 then s else s.destroyKey n.keySlot a .format nsid
          let s := if ses == 0 && n.retState != retExpired then s else s.generateKey n.keySlot keyXts256
          let n' := { n with formatting := true, lbaf := fmt % 16, piType := fmt / 16, lastWrite := s.tm.secure, claims := [] }
          let s := (s.putNs nsid n').clearNs nsid
          if n.retain && n.retState == retExpired then s.retChange nsid n' retLocked else s)

/-- FORMAT_DONE (R169): the format completes, and commands are served again. -/
def execFormatDone (nsid : Nat) (s : State) : Host.Outcome State Fault Refusal :=
  settled (match s.nsOf nsid with
    | none => s
    | some n => match n.format with
      | none => s
      | some (id, _, _) =>
        if !n.formatting then s
        else
          let s := (s.putNs nsid { n with format := none, formatting := false }).nsChanged nsid
          match s.cmdOf id with
          | none => s
          | some c => s.adminDone id c nvOk 0 n.keySlot)

/-! ### The namespace registers (R564, Table 22.6) -/

def offNsAcc : Nat := 0x1C00300
def nsrOk : Nat := 0
def nsrInvalid : Nat := 1
def nsrDenied : Nat := 4
def nsrNotFound : Nat := 5
def nsrAuditFull : Nat := 6

/-- Set RESULT, and whether the operation was refused. -/
def State.nsResult (s : State) (r : Nat) : State × Bool := (s.wr Reg.FTL_NS_STATUS_RESULT r, r != nsrOk)

/-- A write of `FTL_NS_ACC` that starts operation `op`: AUDIT_FULL while the ring is full; audited with its outcome. -/
def State.nsOp (s : State) (value : W32) (op : Nat) (f : State → Nat → State × Bool) : State :=
  if s.decodeOf .ftl != .all || s.is (fResetting .ftl) then s.writeWord offNsAcc value
  else if s.auditFull then (s.writeWord offNsAcc value).wr Reg.FTL_NS_STATUS_RESULT nsrAuditFull
  else
    let s := (s.accessWake .ftl offNsAcc).wrFields .ftl offNsAcc value
    if value.toNat / 2 ^ 31 == 0 || s.rd Reg.FTL_NS_ACC_OP != op || s.is Reg.FTL_NS_STATUS_BUSY then
      s.audited offNsAcc value false
    else
      let r := f s (s.rd Reg.FTL_NS_ACC_NSID)
      r.1.audited offNsAcc value r.2 (s.rd Reg.FTL_NS_ACC_NSID)

/-- The create request that the registers hold. -/
def State.nsRequest (s : State) : CreateReq :=
  let nsze := s.rd64 Reg.FTL_NS_NSZE_LO Reg.FTL_NS_NSZE_HI
  { nsze := nsze, ncap := nsze, lbaf := s.rd Reg.FTL_NS_CFG_LBAF, extended := true, pi := s.rd Reg.FTL_NS_CFG_PI_TYPE
    iu := s.rd Reg.FTL_NS_CFG_IU, layout := s.rd Reg.FTL_NS_CFG_LAYOUT, retain := s.rd Reg.FTL_NS_CFG_RETAIN
    days := s.rd Reg.FTL_NS_RETAIN_RETAIN_DAYS }

/-- The key slot a create binds (R440): the one named, made PENDING where it is EMPTY, or one that holds a namespace key nobody uses;
else a key is generated in the lowest EMPTY slot. -/
def State.bindSlot (s : State) : Option (Nat × State) :=
  if s.is Reg.FTL_NS_KEY_SLOT_EN then
    let k := s.rd Reg.FTL_NS_KEY_KEY_SLOT
    let v := s.vaultSlot k
    if k < 16 || 8191 < k || s.keyInUse k then none
    else if v.state == slotEmpty then some (k, s.setSlot k { v with state := slotPending })
    else if s.keyLoaded k keyXts256 then some (k, s)
    else none
  else s.lowestEmpty.map fun k => (k, s.generateKey k keyXts256)

/-- NAMESPACE_REG_CREATE (R158, R162, R564). -/
def execNamespaceRegCreate (value : W32) (s : State) : Host.Outcome State Fault Refusal :=
  settled (s.nsOp value 1 fun s id =>
    let r := s.nsRequest
    let nsid := if id == 0 then s.freeNsid else id
    match s.createRefusal r with
    | 0 =>
      if 4096 < nsid then s.nsResult nsrInvalid
      else if (s.nsOf nsid).isSome then s.nsResult 2
      else match s.bindSlot with
        | none => s.nsResult (if s.is Reg.FTL_NS_KEY_SLOT_EN then nsrInvalid else 3)
        | some (slot, t) =>
          let home := if s.is Reg.FTL_NS_CFG_HOME_EN then some (s.rd Reg.FTL_NS_CFG_HOME)
            else s.selfEntry.map fun e => e.2.2.1
          ((t.createNs nsid r (s.rd Reg.FTL_NS_CFG_TENANT) slot home).wr Reg.FTL_NS_STATUS_ASSIGNED nsid).nsResult nsrOk
    | row => s.nsResult row)

/-- NAMESPACE_REG_GROW (R163, R564): a NSZE not above the present one is INVALID_FIELD; the growth is charged under R30. -/
def execNamespaceRegGrow (value : W32) (s : State) : Host.Outcome State Fault Refusal :=
  settled (s.nsOp value 2 fun s id =>
    match s.nsOf id with
    | none => s.nsResult nsrNotFound
    | some n =>
      let nsze := s.rd64 Reg.FTL_NS_NSZE_LO Reg.FTL_NS_NSZE_HI
      let lay := s.nsLayout n
      if n.deleting then s.nsResult nsrNotFound
      else if nsze ≤ n.nsze then s.nsResult nsrInvalid
      else if !s.capacityGood (rawNeed lay nsze - rawNeed lay n.nsze) then s.nsResult 3
      else (s.growNs id n nsze).nsResult nsrOk)

/-- NAMESPACE_REG_DELETE (R164, R564): BUSY until the admitted commands have completed. -/
def execNamespaceRegDelete (value : W32) (s : State) : Host.Outcome State Fault Refusal :=
  settled (s.nsOp value 3 fun s id =>
    match s.nsOf id with
    | none => s.nsResult nsrNotFound
    | some n =>
      if n.deleting then s.nsResult nsrNotFound
      else if n.locked then s.nsResult nsrDenied
      else ((s.beginDelete id n none).wr Reg.FTL_NS_STATUS_BUSY 1, false))

/-- NAMESPACE_REG_READ (R564): every field is filled from the namespace. -/
def execNamespaceRegRead (value : W32) (s : State) : Host.Outcome State Fault Refusal :=
  settled (s.nsOp value 4 fun s id =>
    match s.nsOf id with
    | none => s.nsResult nsrNotFound
    | some n =>
      let s := s.wr64 Reg.FTL_NS_NSZE_LO Reg.FTL_NS_NSZE_HI n.nsze
      let s := ((s.wr Reg.FTL_NS_CFG_LBAF n.lbaf).wr Reg.FTL_NS_CFG_PI_TYPE n.piType).wrB Reg.FTL_NS_CFG_IU n.iu16
      let s := (s.wr Reg.FTL_NS_CFG_LAYOUT n.layout).wrB Reg.FTL_NS_CFG_RETAIN n.retain
      let s := (s.wr Reg.FTL_NS_CFG_HOME (n.home.getD 0)).wrB Reg.FTL_NS_CFG_HOME_EN n.home.isSome
      let s := (s.wr Reg.FTL_NS_CFG_TENANT n.tenant).wr Reg.FTL_NS_RETAIN_RETAIN_DAYS n.retainDays
      let s := (s.wr Reg.FTL_NS_KEY_KEY_SLOT n.keySlot).wr Reg.FTL_NS_KEY_SLOT_EN 1
      (s.wr Reg.FTL_NS_STATUS_ASSIGNED id).nsResult nsrOk)

end Sys2Proof.Machine
end

