-- ==== Sys2Proof/Machine/RcBase.lean ====
section
/-! DEFINITION. Ends of queue pairs and associations (R122, R123), which the fabrics commands and the RC family share. -/

namespace Sys2Proof.Machine

/-! ### States of Table 4.2 -/

def qpFree : Nat := 0
def qpInit : Nat := 1
def qpRtr : Nat := 2
def qpRts : Nat := 3
def qpErr : Nat := 4
def qpQuarantine : Nat := 5

/-- Show the queue pairs that are not FREE (Table 4.8), and with them the active tenants' tolerance (R208). -/
def State.showQps (s : State) : State :=
  (s.wr Reg.WELL_RC_STATUS_QP_OPEN (s.rc.qps.countE fun _ q => q.st != qpFree)).showLatTol

/-- Is the frame a packet of a queue pair? -/
def Frame.ofQp (f : Frame) (qi : Nat) : Bool :=
  f.outs.any fun o => match o with
    | .rc q _ _ => q == qi
    | _ => false

/-- A queue pair's packets that are queued, and not under transmission, are not sent. -/
def State.dropRcFrames (s : State) (qi : Nat) : State :=
  let s := { s with mfd := { s.mfd with waiting := s.mfd.waiting.filter fun f => !f.ofQp qi } }
  (s.mfd.frames.filter fun e => e.2.ofQp qi && !(s.mfd.sending.any fun x => x.2 == e.1)).foldl
    (fun (s : State) e => e.2.left.foldl (fun (s : State) p => s.dropCopy e.1 p) s) s

/-- Enter ERR (R122, R123): nothing more is sent, acknowledged or fetched, its commands end, an event is raised; messages of region writes
end with it (R186). -/
def State.qpToErr (s : State) (qi : Nat) : State :=
  let q := s.qpOf qi
  if q.st == qpFree || q.st == qpErr || q.st == qpQuarantine then s
  else
    let s := q.reads.foldl (fun (s : State) (r : ReadEnt) => s.freeCells (holdRdma qi r.psn)) (s.dropRcFrames qi)
    let s := s.updQp qi fun q =>
      { q with st := qpErr, sendQueue := [], fetchQueue := [], reads := [], sent := [], inflight := 0, capsule := none
               writeAt := none, rnrWait := false, unacked := 0, mirrorPend := 0, ackDue := false, due := [] }
    let s := (s.loseCmds fun c => c.path == .rc qi).resumeReads
    let s := { s with sump := { s.sump with regions := s.sump.regions.map fun (e : Nat × Region) =>
      (e.1, { e.2 with draining := e.2.draining.filter (· != qi) }) } }
    s.showQps.raise sevUncorrected .well 0xC01020 qi

/-- End an association (R122): its queue pairs enter ERR, its controller is no longer connected. -/
def State.endAssoc (s : State) (a : Nat) : State :=
  let s := (s.rc.qps.filter fun e => e.2.assoc == a && a != 0).foldl (fun s e => s.qpToErr e.1) s
  s.updCtlr a fun k => { k with connected := false, kato := 0, aers := [], failed := true }

/-- A queue pair fails: the association goes with it where it is the admin queue pair (R122). -/
def State.qpFail (s : State) (qi : Nat) : State :=
  let q := s.qpOf qi
  let s := s.qpToErr qi
  if q.qid == 0 && q.assoc != 0 then s.endAssoc q.assoc else s

end Sys2Proof.Machine
end

