-- ==== Sys2Proof/Machine/Logs.lean ====
section
/-! DEFINITION. Data structures that admin commands return: Identify (R159-R161, R166, R172, Table 6.4), log pages (Table 6.8, R178,
R187, R297, R298), as fields (byte offset, bytes, value); bytes that no field names are 0. -/

namespace Sys2Proof.Machine

/-- Entries of `step` bytes from an offset on. -/
def entries (base step : Nat) (l : List Fields) : Fields :=
  l.zipIdx.flatMap fun e => e.1.map fun f => (base + step * e.2 + f.1, f.2.1, f.2.2)

/-- Two's complement of a number of degrees in `n` bytes. -/
def twos (n : Nat) (t : Int) : Nat := (t % (256 ^ n : Int)).toNat

/-! ### Identify -/

/-- Namespaces that a command sees, ascending. -/
def State.seen (s : State) (c : Cmd) : List (Nat × Ns) := s.ns.filter fun e => sees c e.2.tenant && !e.2.deleting

/-- Is a namespace active for the command: any on fabrics, an attached one on PCIe (R165)? -/
def activeFor (c : Cmd) (n : Ns) : Bool := !c.path.isPcie || n.attached.contains c.path.fn

/-- Identify Namespace (R159 to R161, R166, R170, R172, Table 6.1, Table 6.2). -/
def State.identNs (s : State) (id : Nat) (n : Ns) : Fields :=
  let awun := n.iuLen - 1
  let state := (if s.writeProtected n then 1 else 0) + (if s.ftl.lost.any fun l => l.nsid == id then 2 else 0)
  [(0, 8, n.nsze), (8, 8, n.nsze), (16, 8, n.nsze), (24, 1, 2), (25, 1, 3), (26, 1, n.lbaf + if n.lbaf == 0 then 0 else 16),
   (27, 1, 1), (28, 1, 0x17), (29, 1, n.piType), (30, 1, 1), (31, 1, 0x7F), (33, 1, 0), (34, 2, awun), (36, 2, awun), (42, 2, 0),
   (92, 4, id), (128, 4, 12 * 2 ^ 16), (132, 4, 12 * 2 ^ 16 + 8), (136, 4, 12 * 2 ^ 16 + 16), (140, 4, 12 * 2 ^ 16 + 16),
   (3072, 1, if n.iu16 then 1 else 0), (3073, 1, n.layout), (3074, 1, if n.retain then 1 else 0), (3076, 4, n.retainDays),
   (3080, 2, n.tenant), (3082, 1, n.owner), (3083, 1, state)]

/-- NVMe controller number that Identify Controller reports: the function, or the association's. -/
def State.cntlidOf (s : State) (c : Cmd) : Nat :=
  match c.path with
  | .pcie fn _ => fn
  | _ => (s.ctlrOf c.ctlr).cntlid

/-- Identify Controller (R160, R166, R167, R168, R172, R174, R539, Tables 6.4 to 6.6). -/
def State.identCtlr (s : State) (c : Cmd) : Fields :=
  let fabrics := !c.path.isPcie
  let oacs := 2 + 8 + 32 + (if c.path == .pcie 1 0 then 128 else 0)
  [(0, 2, 0x1F3B), (2, 2, 0x1F3B), (77, 1, 9), (78, 2, s.cntlidOf c), (80, 4, 0x00020000), (92, 4, 0x900), (96, 4, 1),
   (256, 2, oacs), (259, 1, 7), (260, 1, 3), (261, 1, 6), (262, 1, 63), (263, 1, 0),
   (266, 2, s.rd Reg.PWR_THERM_WCTEMP + 273), (268, 2, s.rd Reg.PWR_THERM_CCTEMP + 273), (342, 1, 10), (343, 1, 0x97),
   (344, 4, 4096), (348, 4, 4096), (512, 1, 0x66), (513, 1, 0x44), (514, 2, 1024), (516, 4, 4096), (520, 2, 0xED), (522, 2, 0),
   (524, 1, 4), (525, 1, 0), (526, 2, 0), (528, 2, 0), (536, 4, if fabrics then 0x100005 else 1)] ++
  (if fabrics then [(320, 2, 0), (1792, 4, 516), (1796, 4, 1), (1800, 2, 0), (1802, 1, 0), (1803, 1, 1)] else [])

/-- The list of up to 1,024 NSIDs above one. -/
def idList (ids : List Nat) (above : Nat) : Fields :=
  entries 0 4 (((ids.filter fun i => decide (above < i)).take 1024).map fun i => [(0, 4, i)])

/-- The data structure of a CNS value, or the status that refuses it (R167, Table 6.4). -/
def State.identify_ (s : State) (id : Nat) (c : Cmd) : Nat × Fields :=
  let q := c.sqe
  let ids := (s.seen c).filter fun e => activeFor c e.2
  let one (all : Bool) (f : Ns → Fields) : Nat × Fields :=
    match s.visible id c with
    | none => if q.nsid == 0xFFFFFFFF then (nvOk, f { nsze := 0 }) else (nvInvalidNs, [])
    | some n => if all || activeFor c n then (nvOk, f n) else (nvOk, [])
  match q.cdw10 % 256 with
  | 0x00 => one false (s.identNs q.nsid)
  | 0x01 => (nvOk, s.identCtlr c)
  | 0x02 => (nvOk, idList (ids.map (·.1)) q.nsid)
  | 0x03 => one false fun _ => [(0, 1, 4), (1, 1, 1), (4, 1, 0)]
  | 0x05 => one false fun n => [(0, 8, 0), (8, 1, 0), (268 + 4 * 1, 4, 0), (268 + 4 * 2, 4, 0x80), (268 + 4 * 3, 4, 0x100),
      (9, 1, if n.piType == 0 then 0 else 1)]
  | 0x06 => (nvOk, [])
  | 0x08 => one false fun _ => [(1, 1, 1), (2, 1, 0x7F), (4, 4, q.nsid), (8, 1, 0)]
  | 0x10 => (nvOk, idList ((s.seen c).map (·.1)) q.nsid)
  | 0x11 => one true (s.identNs q.nsid)
  | 0x1C => (nvOk, [(0, 8, 1)])
  | _ => (nvInvalidField, [])

/-! ### Health (R297, R298) -/

/-- Cisterns present in a slot now. -/
def State.present (s : State) : List Nat := slots48.filter fun c => (s.linkOf c).ident.isSome && s.cst c != cEmpty

/-- A register of degrees as a signed number, and the hottest cistern. -/
def State.degrees (s : State) (f : Field) : Int := signed8 (BitVec.ofNat 8 (s.rd f))
def State.hottest (s : State) : Int := (s.present.map s.tempRaw).foldl max (-273)

/-- Sum of PE over a cistern's blocks with STATE 0 to 2, and how many they are; an unlisted block has PE 0. -/
def State.peOf (s : State) (c : Nat) : Nat × Nat :=
  let bs := s.ftl.blocks.filter fun e => blkCistern e.1 == c
  (((bs.filter fun e => decide (e.2.st ≤ 2)).map fun e => e.2.pe).sum, s.blockCount c - bs.countP fun e => decide (3 ≤ e.2.st))

/-- WEAR_USED (Table 10.5). -/
def State.wearUsed (s : State) (c : Nat) : Nat :=
  let p := s.peOf c
  if p.2 == 0 || s.params.peLimit == 0 then 0 else min 65535 (1000 * p.1 / (p.2 * s.params.peLimit))

/-- The temperatures that Temperature Threshold selects, in kelvins: 0 the composite, 1 the package, 2 the hottest cistern. -/
def State.kelvins (s : State) (sel : Nat) : Int :=
  let pkg := s.degrees Reg.PWR_THERM_STATUS_PACKAGE
  273 + (match sel with
    | 0 => max pkg s.hottest
    | 1 => pkg
    | _ => s.hottest)

/-- Has a Temperature Threshold been crossed (Table 6.6): by any host's over (features 0x400 to 0x402) or under (0x410 to 0x412)
threshold? -/
def State.tempCrossed (s : State) : Bool :=
  s.host.ctlrs.any fun k => [0, 1, 2].any fun sel =>
    ((Tab.find (0x400 + sel) k.2.features).any fun t => decide ((t : Int) ≤ s.kelvins sel)) ||
    ((Tab.find (0x410 + sel) k.2.features).any fun t => decide (s.kelvins sel ≤ (t : Int)))

/-- Critical Warning. -/
def State.warning (s : State) : Nat :=
  let bit (b : Bool) (v : Nat) : Nat := if b then v else 0
  let m := s.rd Reg.SUMP_STATUS_MONITOR
  bit (s.rd Reg.FTL_MEDIA_STATUS_SPARE_PCT < s.rd Reg.FTL_RETIRE_SPARE_THRESH) 1 + bit s.tempCrossed 2 +
    bit s.unreliable 4 + bit (s.is Reg.FTL_MEDIA_STATUS_READ_ONLY) 8 + bit (m == 3 || m == 4) 16

/-- The SMART / Health page (Table 10.3). -/
def State.smartPage (s : State) : Fields :=
  let g (o : Nat) : Nat := Tab.getD o 0 s.ftl.smart
  let kelvin (t : Int) : Nat := (t + 273).toNat
  let pkg := s.degrees Reg.PWR_THERM_STATUS_PACKAGE
  let ts : List Int := s.present.map s.tempRaw
  let mean := if ts.isEmpty then (-273 : Int) else ts.foldl (· + ·) 0 / ts.length
  let units (o : Nat) : Nat := (g o + 511999) / 512000
  [(0, 1, s.warning), (1, 2, kelvin (max pkg s.hottest)), (3, 1, s.rd Reg.FTL_MEDIA_STATUS_SPARE_PCT),
   (4, 1, s.rd Reg.FTL_RETIRE_SPARE_THRESH), (5, 1, min 255 ((s.served.map s.wearUsed).foldl max 0 / 10)), (6, 1, 0),
   (32, 16, units 32), (48, 16, units 48), (64, 16, g 64), (80, 16, g 80), (96, 16, g 96 / (60 * sec)), (112, 16, g 112),
   (128, 16, g 128 / (3600 * sec)), (144, 16, g 144), (160, 16, g 160), (176, 16, g 176), (192, 4, g 192 / (60 * sec)),
   (196, 4, g 196 / (60 * sec)), (200, 2, kelvin pkg), (202, 2, kelvin s.hottest), (204, 2, kelvin mean)]

/-- The entry of a slot (Table 10.5). -/
def State.slotEntry (s : State) (c : Nat) : Fields :=
  let g (o : Nat) : Nat := Tab.getD o 0 (Tab.getD c [] s.ftl.slots)
  let bs := s.ftl.blocks.filter fun e => blkCistern e.1 == c
  let live := bs.filter fun e => decide (e.2.st ≤ 2)
  let p := s.peOf c
  let hi := (live.map fun e => e.2.pe).foldl max 0
  let lo := if live.length < p.2 then 0 else (live.map fun e => e.2.pe).foldl min hi
  let state := match s.rd (Reg.SKL_STATUS_OUTCOME.at c) with
    | 2 => 6
    | 3 => 7
    | _ => s.cst c
  [(0, 8, Tab.getD c 0 s.ftl.slotSerial), (8, 1, state), (0x0A, 2, s.wearUsed c), (0x0C, 2, twos 2 (s.tempRaw c)),
   (0x0E, 2, twos 2 ((g 0x0E : Int) - 256)), (0x10, 4, lo), (0x14, 4, hi), (0x18, 4, if p.2 == 0 then 0 else p.1 / p.2),
   (0x1C, 4, s.blockCount c), (0x20, 4, bs.countP fun e => e.2.st == 4), (0x24, 4, bs.countP fun e => e.2.st == 3),
   (0x28, 8, g 0x28), (0x30, 8, g 0x30), (0x38, 8, g 0x38), (0x40, 8, g 0x40), (0x48, 8, g 0x48), (0x50, 8, g 0x50)] ++
  (List.range 16).map fun b => (0x80 + 4 * b, 4, g (0x80 + 4 * b))

/-- REFRESH_TANKS (0) or LEVEL_TANKS (1) of both controllers (Table 10.4): the partner's is a free value (log entry 57). -/
def State.bothTanks (s : State) (k : Nat) : Nat :=
  s.counter (if k == 0 then Reg.FTL_CNT_REFRESH_TANKS else Reg.FTL_CNT_LEVEL_TANKS) +
    (if s.partner.isSome then (Config.partnerTanks k s.ftl.healthGen).toNat else 0)

/-- The extended health page (Tables 10.4, 10.5). -/
def State.healthPage (s : State) : Fields :=
  let bit (b : Bool) (v : Nat) : Nat := if b then v else 0
  let flags := s.rd Reg.FTL_MEDIA_STATUS_LEVELLING + bit (s.rd Reg.FTL_MEDIA_STATUS_SPARE_PCT < s.rd Reg.FTL_RETIRE_SPARE_THRESH) 2 +
    4 * s.rd Reg.FTL_MEDIA_STATUS_READ_ONLY + 8 * s.rd Reg.FTL_MEDIA_STATUS_AGE_ESTIMATED
  let retry (k : Nat) : Nat := Tab.getD k 0 (Tab.getD 48 [] s.ftl.slots)
  [(0, 2, 1), (2, 2, 48), (4, 2, 256), (8, 4, s.ftl.healthGen), (0x10, 8, s.tm.shelf), (0x18, 1, s.rd Reg.FTL_MEDIA_STATUS_SPARE_PCT),
   (0x19, 1, flags), (0x1A, 2, s.rd Reg.FTL_MEDIA_STATUS_SPREAD), (0x1C, 4, s.params.peLimit), (0x20, 8, s.retiredBlocks),
   (0x28, 8, s.bothTanks 0), (0x30, 8, s.bothTanks 1)] ++
  (List.range 8).map (fun k => (0x40 + 8 * k, 8, retry (k + 1))) ++ entries 256 256 (slots48.map s.slotEntry)

/-! ### Other pages -/

/-- Error Information: up to 64 entries, newest first, of one controller. -/
def State.errorPage (s : State) (k : Ctlr) : Fields :=
  let total := Tab.getD 176 0 s.ftl.smart
  entries 0 64 (k.errors.zipIdx.map fun e => [(0, 8, total - e.2), (10, 2, e.1.1), (12, 2, 2 * e.1.2)])

/-- ANA state codes of NVMe, by R172: inaccessible 3 while this controller is not in SERVE; change 0Fh while ownership moves, a failover's
IUs are being placed (R173), or the owner has left SERVE and the namespace has not been taken over (DEDUCED, log entry 58); optimised 1;
non-optimised 2. -/
def State.anaState (s : State) (id : Nat) (n : Ns) : Nat :=
  if !s.serving then 3
  else if Tab.has id s.pod.moving || Tab.has id s.pod.adopting then 0x0F
  else if s.owns n then 1
  else if s.memberServes n.owner then 2
  else 0x0F

/-- The ANA page: a group for each namespace that the reader sees (R172). -/
def State.anaPage (s : State) (c : Cmd) : Fields :=
  let gs := s.seen c
  [(0, 8, s.host.anaChanges), (8, 2, gs.length)] ++
  entries 16 36 (gs.map fun e => [(0, 4, e.1), (4, 4, 1), (8, 8, s.host.anaChanges), (16, 1, s.anaState e.1 e.2), (32, 4, e.1)])

/-- Lost ranges (R178) that the reader sees. -/
def State.lostPage (s : State) (c : Cmd) : Fields :=
  let l := s.ftl.lost.filter fun e => sees c (s.nsOr e.nsid).tenant
  [(0, 4, l.length), (4, 4, s.rd Reg.PAR_LOST_GEN_GENERATION)] ++
  entries 16 16 (l.map fun e => [(0, 4, e.nsid), (4, 4, e.nlb - 1), (8, 8, e.slba)])

/-- Remote sump regions in VALID (R187) that the reader sees. -/
def State.regionPage (s : State) (c : Cmd) : Fields :=
  entries 0 24 ((s.sump.regions.filter fun e => e.2.st == 1 && sees c e.2.tenant).map fun e =>
    [(0, 1, e.1), (1, 1, (if e.2.write then 1 else 0) + if e.2.read then 2 else 0), (4, 4, e.2.rkey), (8, 8, e.1 * 2 ^ 40),
     (16, 8, e.2.len)])

/-- Commands Supported and Effects: bit [0] for each supported opcode. -/
def effectsPage : Fields :=
  adminOpcodes.map (fun o => (4 * o, 4, 1)) ++ ioOpcodes.map fun o => (1024 + 4 * o, 4, 1)

/-- The NAME of the booted image (Table 2.4). -/
def State.imageName (s : State) : List Byte :=
  if s.img.booted.isSome then (norSlot s.img.nor (s.is Reg.IMG_STATUS_SLOT)).header.name else []

/-- A log page whole, or the status that refuses it (R167, Table 6.8). -/
def State.logPage (s : State) (c : Cmd) : Nat × Fields :=
  let k := s.ctlrOf c.ctlr
  match c.sqe.cdw10 % 256 with
  | 0x01 => (nvOk, s.errorPage k)
  | 0x02 => if c.sqe.nsid == 0 || c.sqe.nsid == 0xFFFFFFFF then (nvOk, s.smartPage) else (nvInvalidField, [])
  | 0x03 => (nvOk, [(0, 1, 1), (8, 8, le (s.imageName.take 8))])
  | 0x04 => (nvOk, idList (if 1024 < k.changed.length then [0xFFFFFFFF] else k.changed) 0)
  | 0x05 => (nvOk, effectsPage)
  | 0x0C => (nvOk, s.anaPage c)
  | 0x80 => (nvOk, match k.resvLog with
    | [] => []
    | e :: r => [(0, 8, 1), (8, 1, e.1), (9, 1, r.length), (12, 4, e.2)])
  | 0xC0 => (nvOk, s.healthPage)
  | 0xC1 => (nvOk, s.lostPage c)
  | 0xC2 => (nvOk, s.regionPage c)
  | _ => (nvLogPage, [])

end Sys2Proof.Machine
end

