-- ==== Sys2Proof/Machine/Admin.lean ====
section
/-! DEFINITION. The family of admin commands (Table 6.4) beside namespace administration: Identify, log pages, features, events,
Abort, Keep Alive, directives, Virtualization Management (R495), the Fabrics commands (R180), PCIe queues (R492), other opcodes. -/

namespace Sys2Proof.Machine

/-! ### Identify, Get Log Page -/

/-- IDENTIFY (R167): the structure that CNS selects. -/
def execIdentify (id : Nat) (s : State) : Host.Outcome State Fault Refusal :=
  settled (s.admin id 0x06 fun c =>
    match s.identify_ id c with
    | (0, fs) => s.answer id fs
    | (st, _) => s.adminDone id c st)

/-- A log page has been read with RAE = 0: the events that name it may be raised again (R177). -/
def State.rearm (s : State) (k lid : Nat) : State :=
  s.updCtlr k fun k => { k with
    masked := k.masked.filter fun e => eventLog e != lid
    changed := if lid == 0x04 then [] else k.changed
    resvLog := if lid == 0x80 then k.resvLog.drop 1 else k.resvLog }

/-- GET_LOG_PAGE (R177): NUMD + 1 dwords from the log page offset. -/
def execGetLogPage (id : Nat) (s : State) : Host.Outcome State Fault Refusal :=
  settled (s.admin id 0x02 fun c =>
    let q := c.sqe
    let lid := q.cdw10 % 256
    let off := q.cdw12 + 2 ^ 32 * q.cdw13
    if off % 4 != 0 then s.adminDone id c nvInvalidField
    else match s.logPage c with
      | (0, fs) =>
        let s := if lid == 0xC0 then { s with ftl := { s.ftl with healthGen := (s.ftl.healthGen + 1) % 2 ^ 32 } } else s
        let s := if c.path.isPrd || q.cdw10 / 2 ^ 15 % 2 == 1 then s else s.rearm c.ctlr lid
        s.answer id (cutFields fs off (adminBytes q))
      | (st, _) => s.adminDone id c st)

/-! ### Features (Table 6.6) -/

/-- I/O queues of a command's controller (R104, R492). -/
def queueLimit (p : Path) : Nat := if p.fn < 2 then 128 else 16

/-- The key under which a temperature threshold is kept; none where TMPSEL or THSEL selects nothing. -/
def thresholdKeys (w : Nat) : List Nat :=
  let sel := w / 0x10000 % 16
  let hs := w / 0x100000 % 4
  if 1 < hs then []
  else if sel == 15 then [0, 1, 2].map fun i => 0x400 + 16 * hs + i
  else if sel ≤ 2 then [0x400 + 16 * hs + sel]
  else []

/-- The value of a feature in dword 0, or a status (R167). -/
def State.getFeature (s : State) (id : Nat) (c : Cmd) : Nat × Nat :=
  let q := c.sqe
  let k := s.ctlrOf c.ctlr
  let stored (d : Nat) : Nat × Nat := (nvOk, Tab.getD (q.cdw10 % 256) d k.features)
  match q.cdw10 % 256 with
  | 0x01 => if c.path.fn == 1 then stored 0 else (nvInvalidField, 0)
  | 0x02 => (nvOk, 0)
  | 0x04 => match thresholdKeys q.cdw11 with
    | [t] => (nvOk, Tab.getD t (if t < 0x410 then 0xFFFF else 0) k.features)
    | _ => (nvInvalidField, 0)
  | 0x05 => (nvOk, 0)
  | 0x07 => stored ((queueLimit c.path - 1) * 0x10001)
  | 0x08 => if c.path.isPcie then (nvOk, (s.fnOf c.path.fn).coalThr + 256 * (s.fnOf c.path.fn).coalTime) else (nvInvalidField, 0)
  | 0x0B => stored aecDefault
  | 0x0F => if c.path.isPcie then (nvInvalidField, 0) else (nvOk, k.kato / ms)
  | 0x82 => if (s.visible id c).isSome then (nvOk, Tab.getD q.nsid 0 k.resvMask) else (nvInvalidNs, 0)
  | 0x83 => match s.visible id c with
    | none => (nvInvalidNs, 0)
    | some n => (nvOk, if n.ptpl then 1 else 0)
  | _ => (nvInvalidField, 0)

/-- GET_FEATURES (R167): Timestamp returns shelf time in ms with Origin 0b001, Host Identifier the 128-bit identifier. -/
def execGetFeatures (id : Nat) (s : State) : Host.Outcome State Fault Refusal :=
  settled (s.admin id 0x0A fun c =>
    match c.sqe.cdw10 % 256 with
    | 0x0E => s.answer id [(0, 6, s.tm.shelf / ms), (6, 1, 2)]
    | 0x81 =>
      if c.sqe.cdw11 % 2 == 0 then s.adminDone id c nvHostIdFormat
      else s.answer id [(0, 16, (s.ctlrOf c.ctlr).hostId)]
    | _ => let r := s.getFeature id c
      s.adminDone id c r.1 r.2)

/-- A keep-alive timeout in ms that R167 allows. -/
def katoGood (t : Nat) : Bool := decide (1000 ≤ t ∧ t ≤ 3600000)

/-- Set a feature, with the data of Host Identifier: the state after it, the status and dword 0. -/
def State.setFeature (s : State) (id : Nat) (c : Cmd) (d : List Byte) : State × Nat × Nat :=
  let q := c.sqe
  let w := q.cdw11
  let k := s.ctlrOf c.ctlr
  let bad : State × Nat × Nat := (s, nvInvalidField, 0)
  let put (keys : List Nat) (v : Nat) : State :=
    s.updCtlr c.ctlr fun k => { k with features := keys.foldl (fun t i => Tab.put i v t) k.features }
  match q.cdw10 % 256 with
  | 0x01 => if c.path.fn == 1 then (put [0x01] w, nvOk, 0) else bad
  | 0x02 => if w % 32 == 0 then (s, nvOk, 0) else bad
  | 0x04 => match thresholdKeys w with
    | [] => bad
    | ks =>
      let t := put ks (w % 0x10000)
      (if t.tempCrossed && !s.tempCrossed then t.tenantEvent none (1, 1) else t, nvOk, 0)
  | 0x05 => if w / 0x10000 % 2 == 0 then (s, nvOk, 0) else bad
  | 0x07 =>
    let n := queueLimit c.path - 1
    if w % 0x10000 == 0xFFFF || w / 0x10000 == 0xFFFF then bad
    else
      let v := min n (w % 0x10000) + 0x10000 * min n (w / 0x10000)
      (put [0x07] v, nvOk, v)
  | 0x08 =>
    if c.path.isPcie then
      (s.updFn c.path.fn fun f => { f with coalThr := w % 256, coalTime := w / 256 % 256 }, nvOk, 0)
    else bad
  | 0x0B => (put [0x0B] w, nvOk, 0)
  | 0x0F =>
    if c.path.isPcie || !katoGood w then bad
    else (s.updCtlr c.ctlr fun k => { k with kato := w * ms, kaAt := s.tm.mono }, nvOk, 0)
  | 0x81 =>
    if w % 2 == 0 then (s, nvHostIdFormat, 0)
    else if k.hostIdSet then (s, nvSequence, 0)
    else (s.updCtlr c.ctlr fun k => { k with hostId := leAt d 0 16, hostIdSet := true }, nvOk, 0)
  | 0x82 =>
    if q.nsid == 0xFFFFFFFF then
      (s.updCtlr c.ctlr fun k => { k with resvMask := (s.seen c).map fun e => (e.1, w) }, nvOk, 0)
    else if (s.visible id c).isSome then
      (s.updCtlr c.ctlr fun k => { k with resvMask := Tab.put q.nsid w k.resvMask }, nvOk, 0)
    else (s, nvInvalidNs, 0)
  | 0x83 => match s.visible id c with
    | none => (s, nvInvalidNs, 0)
    | some n => (s.putResv q.nsid { n with ptpl := w % 2 == 1 }, nvOk, 0)
  | _ => bad

/-- Set a feature, and complete. -/
def State.setFeatures (s : State) (id : Nat) (c : Cmd) (d : List Byte) : State :=
  let r := s.setFeature id c d
  r.1.adminDone id c r.2.1 r.2.2

/-- SET_FEATURES (R167): the data of Host Identifier is fetched. -/
def execSetFeatures (id : Nat) (s : State) : Host.Outcome State Fault Refusal :=
  settled (s.admin id 0x09 fun c => s.withData id c (s.setFeatures id c))

/-! ### Events, Abort, Keep Alive -/

/-- ASYNCHRONOUS_EVENT_REQUEST (R177): up to 8 outstanding; an event that waits completes it at once. -/
def execAsynchronousEventRequest (id : Nat) (s : State) : Host.Outcome State Fault Refusal :=
  settled (s.admin id 0x0C fun c =>
    let k := s.ctlrOf c.ctlr
    match k.waiting with
    | e :: rest => (s.updCtlr c.ctlr fun k => { k with waiting := rest }).adminDone id c nvOk (eventDw0 e)
    | [] =>
      if 8 ≤ k.aers.length then s.adminDone id c nvAerLimit
      else (s.updCtlr c.ctlr fun k => { k with aers := k.aers ++ [id] }).setStage id .aer)

/-- The queue identifier of a command's queue. -/
def State.queueOf (s : State) (c : Cmd) : Nat :=
  match c.path with
  | .rc qp => (s.qpOf qp).qid
  | .pcie _ sq => sq
  | _ => 0

/-- ABORT (R193): the command named is removed if QOS has not admitted it; else dword 0 bit 0 is 1. -/
def execAbort (id : Nat) (s : State) : Host.Outcome State Fault Refusal :=
  settled (s.admin id 0x08 fun c =>
    let w := c.sqe.cdw10
    match s.host.cmds.find? fun e => e.2.ctlr == c.ctlr && e.2.path.isPcie == c.path.isPcie && s.queueOf e.2 == w % 0x10000 &&
        e.2.sqe.cid == w / 0x10000 && e.2.stage == .held with
    | none => s.adminDone id c nvOk 1
    | some e => ((s.removeHeld e.1 e.2).finish e.1 nvAborted).adminDone id c nvOk)

/-- KEEP_ALIVE (R167): restarts the association's timer; fabrics only. -/
def execKeepAlive (id : Nat) (s : State) : Host.Outcome State Fault Refusal :=
  settled (s.admin id 0x18 fun c =>
    if c.path.isPcie then s.adminDone id c nvInvalidOpcode
    else (s.updCtlr c.ctlr fun k => { k with kaAt := s.tm.mono }).adminDone id c nvOk)

/-! ### Directives (Identify and Streams; 16 streams a namespace, R167) -/

/-- Streams of a controller on a namespace: none where disabled, else how many it has allocated. -/
def Ctlr.streamsOf (k : Ctlr) (nsid : Nat) : Option Nat := Tab.find nsid k.streams

/-- Streams of a namespace that no controller but `n` has allocated, of its 16 (Table 6.4). -/
def State.streamsLeft (s : State) (n nsid : Nat) : Nat :=
  16 - ((s.host.ctlrs.filter fun e => e.1 != n && e.2.connected).map fun e => (e.2.streamsOf nsid).getD 0).sum

/-- DIRECTIVE_SEND: Identify enables or disables Streams; Streams releases an identifier or its resources. -/
def execDirectiveSend (id : Nat) (s : State) : Host.Outcome State Fault Refusal :=
  settled (s.admin id 0x19 fun c =>
    let q := c.sqe
    let put (f : Tab Nat → Tab Nat) : State := (s.updCtlr c.ctlr fun k => { k with streams := f k.streams }).adminDone id c nvOk
    if (s.visible id c).isNone then s.adminDone id c nvInvalidNs
    else match q.cdw11 / 256 % 256, q.cdw11 % 256 with
      | 0, 1 =>
        if q.cdw12 / 256 % 256 != 1 then s.adminDone id c nvInvalidField
        else if q.cdw12 % 2 == 1 then put fun t => if Tab.has q.nsid t then t else Tab.put q.nsid 0 t
        else put (Tab.del q.nsid)
      | 1, op =>
        if ((s.ctlrOf c.ctlr).streamsOf q.nsid).isNone then s.adminDone id c nvInvalidField
        else if op == 1 then s.adminDone id c nvOk
        else if op == 2 then put (Tab.put q.nsid 0)
        else s.adminDone id c nvInvalidField
      | _, _ => s.adminDone id c nvInvalidField)

/-- DIRECTIVE_RECEIVE: Identify's supported and enabled directives; Streams' parameters (the granularity is not given), status, or an
allocation of at most those left of the namespace's 16. -/
def execDirectiveReceive (id : Nat) (s : State) : Host.Outcome State Fault Refusal :=
  settled (s.admin id 0x1A fun c =>
    let q := c.sqe
    let k := s.ctlrOf c.ctlr
    match s.visible id c with
    | none => s.adminDone id c nvInvalidNs
    | some n => match q.cdw11 / 256 % 256, q.cdw11 % 256 with
      | 0, 1 => s.adminAnswer id c [(0, 1, 3), (32, 1, if (k.streamsOf q.nsid).isSome then 3 else 1)]
      | 1, op => (match k.streamsOf q.nsid with
        | none => s.adminDone id c nvInvalidField
        | some a =>
          if op == 1 then
            s.freeNext.adminAnswer id c
              [(0, 2, 16), (2, 2, s.streamsLeft c.ctlr q.nsid - a), (4, 2, 0), (16, 4, n.iuLen), (20, 2, s.freeVal 16), (22, 2, a), (24, 2, 0)]
          else if op == 2 then s.adminAnswer id c [(0, 2, 0)]
          else if op == 3 then
            let g := min (s.streamsLeft c.ctlr q.nsid) (q.cdw12 % 0x10000)
            (s.updCtlr c.ctlr fun k => { k with streams := Tab.put q.nsid g k.streams }).adminDone id c nvOk g
          else s.adminDone id c nvInvalidField)
      | _, _ => s.adminDone id c nvInvalidField)

/-! ### PCIe controllers (R492 to R495) -/

/-- Is the function present: PF1, or an enabled VF (R493)? -/
def State.fnPresent (s : State) (fn : Nat) : Bool :=
  fn ≤ 1 || (s.pcie.vfEnable && decide (fn ≤ s.pcie.numVfs + 1))

/-- A PCIe controller is reset: its commands end, its queues and its controller's state go. -/
def State.ctlrReset (s : State) (fn : Nat) : State :=
  let s := s.loseCmds fun c => c.path.isPcie && c.path.fn == fn
  let s := { s with host := { s.host with
    sqs := s.host.sqs.filter fun e => e.1 / 0x10000 != fn
    cqs := s.host.cqs.filter fun e => e.1 / 0x10000 != fn
    ctlrs := Tab.del fn s.host.ctlrs } }
  s.updFn fn fun f => { f with ccEn := false, rdy := false, cfs := false, shst := 0, coalThr := 0, coalTime := 0, coalHeld := [] }

/-- VIRTUALIZATION_MANAGEMENT (R495): on PF1; Secondary Controller Offline (7) and Online (9) for the VF that CNTLID names. -/
def execVirtualizationManagement (id : Nat) (s : State) : Host.Outcome State Fault Refusal :=
  settled (s.admin id 0x1C fun c =>
    let w := c.sqe.cdw10
    let act := w % 16
    let fn := w / 0x10000
    if c.path.fn != 1 then s.adminDone id c nvInvalidOpcode
    else if act != 7 && act != 9 then s.adminDone id c nvInvalidField
    else if fn < 2 || 33 < fn || !s.fnPresent fn then s.adminDone id c nvCtlrInvalid
    else if act == 9 then (s.updFn fn fun f => { f with offline := false }).adminDone id c nvOk
    else ((s.ctlrReset fn).updFn fn fun f => { f with offline := true }).adminDone id c nvOk)

/-- A queue command of PCIe (R167): over fabrics, Invalid Command Opcode. -/
def State.queueOp (s : State) (id op : Nat) (f : Cmd → Nat → State) : State :=
  s.admin id op fun c =>
    if !c.path.isPcie then s.adminDone id c nvInvalidOpcode
    else
      let q := c.sqe.cdw10 % 0x10000
      if q == 0 || decide (queueLimit c.path < q) then s.adminDone id c nvQidInvalid else f c q

/-- Is a queue size, 0-based, one of R492's? -/
def queueSizeGood (n : Nat) : Bool := decide (1 ≤ n ∧ n ≤ 1023)

/-- CREATE_IO_SQ (R492): contiguous, on an existing completion queue. -/
def execCreateIoSq (id : Nat) (s : State) : Host.Outcome State Fault Refusal :=
  settled (s.queueOp id 0x01 fun c q =>
    let size := c.sqe.cdw10 / 0x10000
    let cq := c.sqe.cdw11 / 0x10000
    let k := queueKey c.path.fn q
    if Tab.has k s.host.sqs then s.adminDone id c nvQidInvalid
    else if !queueSizeGood size then s.adminDone id c nvQueueSize
    else if cq == 0 || !Tab.has (queueKey c.path.fn cq) s.host.cqs then s.adminDone id c nvCqInvalid
    else if c.sqe.cdw11 % 2 == 0 then s.adminDone id c nvInvalidField
    else ({ s with host := { s.host with sqs := Tab.put k { base := c.sqe.addr, size := size, cq := cq } s.host.sqs } }).adminDone
      id c nvOk)

/-- End the commands of a deleted submission queue with Command Aborted due to SQ Deletion (Table 6.9). -/
def State.abortQueue (s : State) (fn q : Nat) : State :=
  (s.host.cmds.filter fun e => e.2.path == .pcie fn q).foldl (fun s e =>
    let s := s.dropHeld e.1 e.2
    let s := (s.partialWrite e.1 e.2).dropClaims e.2
    let s := { s with sump := { s.sump with waiting := s.sump.waiting.filter (· != e.1) } }
    s.finish e.1 nvSqDeletion) s

/-- DELETE_IO_SQ (R179): its outstanding commands are aborted. -/
def execDeleteIoSq (id : Nat) (s : State) : Host.Outcome State Fault Refusal :=
  settled (s.queueOp id 0x00 fun c q =>
    let k := queueKey c.path.fn q
    if !Tab.has k s.host.sqs then s.adminDone id c nvQidInvalid
    else
      let s := s.abortQueue c.path.fn q
      ({ s with host := { s.host with sqs := Tab.del k s.host.sqs } }).adminDone id c nvOk)

/-- CREATE_IO_CQ (R492): contiguous, with a vector of the function's MSI-X table (129, or 17 of a VF). -/
def execCreateIoCq (id : Nat) (s : State) : Host.Outcome State Fault Refusal :=
  settled (s.queueOp id 0x05 fun c q =>
    let size := c.sqe.cdw10 / 0x10000
    let v := c.sqe.cdw11 / 0x10000
    let k := queueKey c.path.fn q
    if Tab.has k s.host.cqs then s.adminDone id c nvQidInvalid
    else if !queueSizeGood size then s.adminDone id c nvQueueSize
    else if queueLimit c.path < v then s.adminDone id c nvVectorInvalid
    else if c.sqe.cdw11 % 2 == 0 then s.adminDone id c nvInvalidField
    else
      let cq : Cq := { base := c.sqe.addr, size := size, vector := v, ien := c.sqe.cdw11 / 2 % 2 == 1 }
      ({ s with host := { s.host with cqs := Tab.put k cq s.host.cqs } }).adminDone id c nvOk)

/-- DELETE_IO_CQ: refused while a submission queue uses it. -/
def execDeleteIoCq (id : Nat) (s : State) : Host.Outcome State Fault Refusal :=
  settled (s.queueOp id 0x04 fun c q =>
    let k := queueKey c.path.fn q
    if !Tab.has k s.host.cqs then s.adminDone id c nvQidInvalid
    else if s.host.sqs.any fun e => e.1 / 0x10000 == c.path.fn && e.2.cq == q then s.adminDone id c nvQueueDeletion
    else ({ s with host := { s.host with cqs := Tab.del k s.host.cqs } }).adminDone id c nvOk)

/-- INTERRUPT_COALESCING_TIMEOUT (R176): the aggregation time of a vector's held-back completions expires. -/
def execInterruptCoalescingTimeout (fn : Fin 34) (vector : Nat) (s : State) : Host.Outcome State Fault Refusal :=
  settled (if !Tab.has vector (s.fnOf fn.val).coalHeld then s
    else (s.updFn fn.val fun f => { f with coalHeld := Tab.del vector f.coalHeld }).msix fn.val vector)

/-! ### Fabrics -/

/-- A Fabrics command of a type; on PCIe, Invalid Command Opcode. -/
def State.fabrics (s : State) (id : Nat) (types : List Nat) (f : Cmd → Nat → State) : State :=
  match s.ready id true 0x7F with
  | none => s
  | some c =>
    if !types.contains c.sqe.fctype then s
    else s.admin id 0x7F fun c => match c.path with
      | .rc qp => f c qp
      | _ => s.adminDone id c nvInvalidOpcode

/-- Does a tenant own a remote sump region in VALID (R184)? -/
def State.ownsRegion (s : State) (tenant : Nat) : Bool := s.sump.regions.any fun e => e.2.st == 1 && e.2.tenant == tenant

/-- Bind a queue pair to its association (R29, R104, R184). -/
def State.bindQp (s : State) (qp a tenant sqSize cntlid nqn : Nat) : State :=
  let grant := s.ownsRegion tenant
  let idx := (Tab.getD nqn (0, 0) s.host.nqns).2
  (s.updQp qp fun q =>
    { q with tenant := tenant, assoc := a, cntlid := cntlid, hostIdx := idx, sqSize := sqSize, regionGrant := grant }).showLatTol

/-- Is a queue pair of a failed association of the host still in ERR (R180)? -/
def State.hostInErr (s : State) (host nqn : Nat) : Bool :=
  s.rc.qps.any fun e => e.2.st == qpErr && e.2.assoc != 0 &&
    (s.ctlrOf e.2.assoc).hostId == host && (s.ctlrOf e.2.assoc).nqn == nqn

/-- Connect's parameters: a queue ID and size that differ from the connection's, or a keep-alive timeout out of range on the admin
queue. -/
def connectBad (q : Qp) (e : Sqe) : Bool :=
  let sq := e.cdw11 % 0x10000
  e.cdw10 / 0x10000 != q.qid || sq == 0 || decide ((if q.qid == 0 then 31 else 1023) < sq) ||
    (q.qid == 0 && !katoGood e.cdw12)

/-- The Connect data (NVMe-oF, log entry 54): host identifier, controller ID, and the host NQN, its 256 bytes as a number. -/
def connectHost (d : List Byte) : Nat := leAt d 0 16
def connectCtlr (d : List Byte) : Nat := leAt d 16 2
def connectNqn (d : List Byte) : Nat := leAt d 512 256

/-- Carry out a Connect: the admin queue makes a new association, an I/O queue joins the one whose controller its data names.  The
controller ID is dword 0. -/
def State.connect (s : State) (id : Nat) (c : Cmd) (qp : Nat) (d : List Byte) : State :=
  let e := c.sqe
  let q := s.qpOf qp
  let host := connectHost d
  let nqn := connectNqn d
  let sq := e.cdw11 % 0x10000
  if q.assoc != 0 then s.adminDone id c nvSequence
  else if connectBad q e then s.adminDone id c nvConnectParam
  else if q.qid == 0 then
    let a := s.host.nextAssoc
    let cntlid := 64 + (a - 64) % 65000
    let k : Ctlr := { tenant := c.tenant, hostId := host, hostIdSet := true, nqn := nqn, cntlid := cntlid, connected := true
                      kato := e.cdw12 * ms, kaAt := s.tm.mono }
    let s := { s with host := { s.host with ctlrs := Tab.put a k s.host.ctlrs, nextAssoc := a + 1 } }
    let s := (s.bindQp qp a c.tenant sq cntlid nqn).updCmd id fun c => { c with ctlr := a }
    s.adminDone id { c with ctlr := a } nvOk cntlid
  else match s.host.ctlrs.find? fun k => k.2.connected && k.2.cntlid == connectCtlr d && k.2.hostId == host && k.2.nqn == nqn with
    | none => s.adminDone id c nvConnectParam
    | some k =>
      if k.2.cc % 2 == 0 then s.adminDone id c nvSequence
      else
        let s := (s.bindQp qp k.1 k.2.tenant sq k.2.cntlid nqn).updCmd id fun c => { c with ctlr := k.1 }
        s.adminDone id { c with ctlr := k.1 } nvOk k.2.cntlid

/-- A Connect's data is here (R29, R180): the host's NQN belongs to one tenant for good, with an identity index of its own; while a queue pair
of the host's failed association is in ERR, the Connect is held. -/
def State.connectData (s : State) (id : Nat) (c : Cmd) (d : List Byte) : State :=
  let nqn := connectNqn d
  let s := if Tab.has nqn s.host.nqns then s
    else { s.freeNext with host := { s.host with nqns := Tab.put nqn (c.tenant, s.freeVal 32) s.host.nqns } }
  let c := { c with tenant := (Tab.getD nqn (c.tenant, 0) s.host.nqns).1 }
  let s := s.updCmd id fun k => { k with tenant := c.tenant }
  match c.path with
  | .rc qp => if s.hostInErr (connectHost d) nqn then s.setStage id .connect else s.connect id c qp d
  | _ => s

/-- FABRICS_CONNECT (R180): binds host identity and tenant to the queue pair; the tenant that the host identity belongs to comes with the
command (R29). -/
def execFabricsConnect (id : Nat) (tenant : Fin 1024) (s : State) : Host.Outcome State Fault Refusal :=
  settled (s.fabrics id [1] fun c _ =>
    let c := { c with tenant := tenant.val }
    let s := s.updCmd id fun _ => c
    s.withData id c (s.connectData id c))

/-- Held Connects whose host has no queue pair in ERR any longer are carried out (R180). -/
def State.heldConnects (s : State) : State :=
  (s.host.cmds.filter fun e => e.2.stage == .connect).foldl (fun s e =>
    match e.2.path, s.dataWhole e.2 with
    | .rc qp, some d => if s.hostInErr (connectHost d) (connectNqn d) then s else s.connect e.1 e.2 qp d
    | _, _ => s) s

/-- Controller capabilities (R104, Table 18.4): MQES, CQR, TO, and the NVM command set. -/
def nvmeCap : Nat := 1023 + 2 ^ 16 + 20 * 2 ^ 24 + 2 ^ 37

/-- The properties a host may read: CAP, VS, CC, CSTS. -/
def State.property (s : State) (k : Ctlr) (off : Nat) : Option Nat :=
  match off with
  | 0x00 => some nvmeCap
  | 0x08 => some 0x20000
  | 0x14 => some k.cc
  | 0x1C => some ((if s.serving then k.cc % 2 else 0) + (if k.cc / 2 ^ 14 % 4 != 0 then 8 else 0))
  | _ => none

/-- PROPERTY_GET (R167): the value is dwords 0 and 1 of the completion. -/
def execPropertyGet (id : Nat) (s : State) : Host.Outcome State Fault Refusal :=
  settled (s.fabrics id [4] fun c _ =>
    match s.property (s.ctlrOf c.ctlr) c.sqe.cdw11 with
    | none => s.adminDone id c nvInvalidField
    | some v => s.adminDone id c nvOk v)

/-- PROPERTY_SET (R167): CC can be set; clearing EN ends the controller's I/O commands and its Asynchronous Event Requests. -/
def execPropertySet (id : Nat) (s : State) : Host.Outcome State Fault Refusal :=
  settled (s.fabrics id [0] fun c _ =>
    let k := s.ctlrOf c.ctlr
    let v := c.sqe.cdw12
    if c.sqe.cdw11 != 0x14 then s.adminDone id c nvInvalidField
    else
      let s := if k.cc % 2 == 1 && v % 2 == 0 then s.loseCmds fun e => e.ctlr == c.ctlr && (!e.admin || e.stage == .aer) else s
      (s.updCtlr c.ctlr fun k => { k with cc := v }).adminDone id c nvOk)

/-- DISCONNECT (R122): completes, and the association is torn down. -/
def execDisconnect (id : Nat) (s : State) : Host.Outcome State Fault Refusal :=
  settled (s.fabrics id [8] fun c qp => (s.adminDone id c nvOk).endAssoc (s.qpOf qp).assoc)

/-- AUTHENTICATION_SEND_RECEIVE (R167). -/
def execAuthenticationSendReceive (id : Nat) (s : State) : Host.Outcome State Fault Refusal :=
  settled (s.fabrics id [5, 6] fun c _ => s.adminDone id c nvInvalidField)

/-! ### Everything else -/

/-- UNSUPPORTED_OPCODE (R167): nothing is executed. -/
def execUnsupportedOpcode (id : Nat) (s : State) : Host.Outcome State Fault Refusal :=
  settled (match s.runnable id with
    | none => s
    | some c =>
      let known := supported c && !(c.admin && c.sqe.opcode == 0x7F && !([0, 1, 4, 5, 6, 8].contains c.sqe.fctype))
      if c.sqe.fuse == 0 && known then s
      else
        let st := if c.sqe.fuse != 0 then nvInvalidField else nvInvalidOpcode
        if !c.admin then (s.tileEvent c.pump evCmdStart).finish id st
        else if !unrecorded c.sqe && s.auditFull then s.finish id nvOpDenied
        else s.adminDone id c st)

end Sys2Proof.Machine
end

