-- ==== Sys2Proof/Machine/Data.lean ====
section
/-! DEFINITION. What a command does once its data has been fetched whole. -/

namespace Sys2Proof.Machine

/-- Run an admin command on its data. -/
def State.adminData (s : State) (id : Nat) (c : Cmd) (d : List Byte) : State :=
  match c.sqe.opcode with
  | 0x09 => s.setFeatures id c d
  | 0x0D => s.nsCreate id c d
  | 0x15 => s.nsAttach id c d
  | 0x7F => s.connectData id c d
  | _ => s

/-- Run an I/O command on its data. -/
def State.ioData (s : State) (id : Nat) (c : Cmd) (d : List Byte) : State :=
  match c.sqe.opcode with
  | 0x01 => s.writeEnter id c d
  | 0x05 => s.compareEnter id c d
  | 0x09 => s.deallocate id c d
  | 0x0D => s.resvRegister id c d
  | 0x11 => s.resvAcquire id c d
  | 0x15 => s.resvRelease id c d
  | _ => s

/-- A command whose data is FETCHED goes on. -/
def State.dataReady (s : State) (id : Nat) : State :=
  match s.cmdOf id with
  | none => s
  | some c =>
    if c.stage != .fetched then s
    else match s.dataWhole c with
      | none => s
      | some d => if c.admin then s.adminData id c d else s.ioData id c d

/-- Data of a command has arrived, and with its last the command goes on. -/
def State.arrived (s : State) (id off : Nat) (bytes : List Byte) : State := (s.dataIn id off bytes).dataReady id

/-- Fetch a command's data, or go on where it is here. -/
def State.fetchReady (s : State) (id : Nat) (c : Cmd) : State := (s.fetch id c).dataReady id

end Sys2Proof.Machine
end

