-- ==== Sys2Proof/Machine/Sump.lean ====
section
/-! DEFINITION. The family of the sump: reservations (R410, R411), floats (R409, R412), hold-up (R416, R417), the save's triggers and
end (R418 to R424), the input's supervision (R573), mirroring received from the peer (R413, R415), and the clean stop (R428). -/

namespace Sys2Proof.Machine

/-! ### Reservations (R410, R411) -/

/-- Is the command the first of its pump that waits for slots? -/
def State.firstWaiting (s : State) (id : Nat) (c : Cmd) : Bool :=
  (s.sump.waiting.find? fun i => (s.cmdOf i).any fun d => d.pump == c.pump) == some id

/-- May a reservation of `n` slots be granted now? -/
def State.mayGrant (s : State) (n : Nat) : Bool :=
  s.accepting && s.begins .sump && !s.is Reg.SUMP_STATUS_BP && decide (s.slotSum < s.highFloat) &&
  s.sump.budget.all fun b => decide (n ≤ b)

/-- Enter back-pressure, counted. -/
def State.enterBp (s : State) : State := (s.wr Reg.SUMP_STATUS_BP 1).count Reg.SUMP_CNT_BP_EVENTS

/-- Reserve `n` slots: back-pressure begins once the sum reaches the high float. -/
def State.reserve (s : State) (n : Nat) : State :=
  let s := s.wr Reg.SUMP_RESV_RESERVED (s.rd Reg.SUMP_RESV_RESERVED + n)
  let s := { s with sump := { s.sump with budget := s.sump.budget.map (· - n) } }
  if s.slotSum < s.highFloat then s else s.enterBp.composeForSpace

/-- SUMP_RESERVATION_GRANT (R410): the first request of a pump is granted, and its data is solicited. -/
def execSumpReservationGrant (id : Nat) (s : State) : Host.Outcome State Fault Refusal :=
  settled (match s.cmdOf id with
    | none => s
    | some c =>
      let n := s.slotsOf c
      let zeroed := if c.sqe.opcode == 0x08 then (wholeIus (s.nsOr c.sqe.nsid) c.sqe.slba c.sqe.nlb).length else 0
      if c.stage != .waitSlots || !s.firstWaiting id c || !s.mayGrant n || s.markersWait zeroed then s
      else
        let c := { c with slots := n }
        let s := ({ s with sump := { s.sump with waiting := s.sump.waiting.filter (· != id) } }).updCmd id fun _ => c
        let s := s.reserve n
        if c.sqe.opcode == 0x08 then s.zeroRange id c else s.fetchReady id c)

/-! ### The save area's reservation (R419, R421, R422, R424) -/

/-- Reserve one erased block on each die of each cistern in service that has none. -/
def State.reserveBlocks (s : State) : State :=
  s.served.foldl (fun s c => (List.range (s.dies c)).foldl (fun s d =>
    if s.ftl.blocks.any fun e => e.2.plsa && blkCistern e.1 == c && e.1 / 2 ^ 20 % 256 == d then s
    else match s.giveBlock c 0 fun k => k == d with
      | none => s
      | some k => s.updBlk k fun b => { b with plsa := true }) s) s

/-- Reserved blocks of the cisterns in service, not yet assigned to a row. -/
def State.reservedBlocks (s : State) : List (Nat × List Nat) :=
  s.served.map fun c => (c, (s.ftl.blocks.filter fun e => e.2.plsa && blkCistern e.1 == c).map (·.1))

/-- Choose a row's cisterns: most unassigned blocks first, then the failure group least used in the row, then the lower slot. -/
def chooseRow (pool : List (Nat × List Nat)) : Nat → List Nat → List Nat
  | 0, row => row
  | n + 1, row =>
    let inGroup (c : Nat) : Nat := row.countP fun r => failGroup r == failGroup c
    let best := pool.foldl (fun (b : Option (Nat × List Nat)) e =>
      if e.2.isEmpty || row.contains e.1 then b
      else match b with
        | none => some e
        | some a => if a.2.length < e.2.length || (a.2.length == e.2.length && decide (inGroup e.1 < inGroup a.1)) then some e
            else b) none
    match best with
    | none => row
    | some e => chooseRow pool n (row ++ [e.1])

/-- Build rows one at a time until fewer than K + 1 cisterns have an unassigned block. -/
def buildRows (k : Nat) : Nat → List (Nat × List Nat) → List (List Nat)
  | 0, _ => []
  | fuel + 1, pool =>
    let row := chooseRow pool (k + 1) []
    if row.length < k + 1 then []
    else
      let take (c : Nat) : Nat := ((pool.find? fun e => e.1 == c).bind fun e => e.2.head?).getD 0
      row.map take :: buildRows k fuel (pool.map fun e => if row.contains e.1 then (e.1, e.2.drop 1) else e)

/-- Rows that a pool may give at most. -/
def rowFuel (pool : List (Nat × List Nat)) : Nat := (pool.map fun e => e.2.length).sum

/-- The pool less the cistern with the most reserved blocks. -/
def lessMost (pool : List (Nat × List Nat)) : List (Nat × List Nat) :=
  match pool.foldl (fun (b : Option (Nat × List Nat)) e => match b with
      | none => some e
      | some a => if a.2.length < e.2.length then some e else b) none with
  | none => []
  | some m => pool.filter fun e => e.1 != m.1

/-- Bring the reservation up to date; a changed table is rewritten, and RESV_GEN advances. -/
def State.updateRows (s : State) : State :=
  let s := s.reserveBlocks
  let pool := s.reservedBlocks
  let rows := if s.saveK == 0 then [] else
    (buildRows s.saveK (rowFuel pool) pool).map fun r => r.map fun k => (blkCistern k, k / 2 ^ 20 % 256, k % 2 ^ 20)
  if rows == s.sump.rows then s
  else ({ s with sump := { s.sump with rows := rows } }).putDesc fun d => { d with resvGen := d.resvGen + 1 }

/-- R_save in bytes a second (R419). -/
def State.rSave (s : State) : Nat :=
  let k := s.saveK
  let sum := (s.saveCisterns.map fun c => min 14750000000 (s.dies c * s.rd Reg.SUMP_SAVE_CFG_DIE_RATE * 1000000)).sum
  if k == 0 then 0 else min 200000000000 (k * sum / (k + 1))

/-- F_plsa in bytes (R422). -/
def State.fPlsa (s : State) : Nat :=
  let k := s.saveK
  let pool := lessMost s.reservedBlocks
  if k == 0 then 0 else (buildRows k (rowFuel pool) pool).length * s.tankStripes * k * 65536 * 9 / 10

/-! ### Hold-up (R416, R417) -/

/-- P_hold in W; N_on counts the slots with a channel ON on either side. -/
def State.pHold (s : State) : Nat :=
  (s.rd Reg.SUMP_HOLDUP_CFG_CTLRS + 1) * 340 +
    (slots48.countP fun n => s.chState n == chOn || s.shelf.peerOn.contains n) * s.rd Reg.SUMP_HOLDUP_CFG_P_CIST

/-- E_avail in units of 0.5 nJ (2 × 10^9 to the joule): ETA × CAP × (V_bank² − V_min²) in the registers' units, the voltages in 10 mV. -/
def State.eAvail (s : State) : Nat :=
  let w := s.rd Reg.SUMP_BANK_VBANK
  let v := if w < 32768 then w else 0
  let m := 10 * s.rd Reg.SUMP_HOLDUP_CFG2_VMIN
  s.rd Reg.SUMP_HOLDUP_CFG_ETA * s.rd Reg.SUMP_HOLDUP_CFG_CAP * (v * v - m * m)

/-- Is E_avail at least E_req of `f` bytes?  Never without a save rate. -/
def State.enough (s : State) (f : Nat) : Bool :=
  let r := s.rSave
  r != 0 && decide (2400000000 * s.pHold * (7 * r + 1000 * f) ≤ s.eAvail * 1000 * r)

/-- E_req of `f` bytes in 0.1 J, saturating. -/
def State.eReq (s : State) (f : Nat) : Nat :=
  let r := s.rSave
  if r == 0 then 65535 else min 65535 (12 * s.pHold * (7 * r + 1000 * f) / (1000 * r))

/-- MONITOR codes of Table 15.6. -/
def moUnconfigured : Nat := 0
def moCharging : Nat := 1
def moCharged : Nat := 2
def moLow : Nat := 3
def moReversed : Nat := 4

/-- F_hold in bytes: 0 where the monitor reads UNCONFIGURED or REVERSED. -/
def State.fHold (s : State) : Nat :=
  let m := s.rd Reg.SUMP_STATUS_MONITOR
  if m == moUnconfigured || m == moReversed then 0
  else s.rSave * (s.eAvail - 16800000 * s.pHold) / (2400000000 * s.pHold)

/-- Tell the hosts of each namespace that has become or ceased to be write-protected since `was` (Table 6.7). -/
def State.protectionNotices (s was : State) : State :=
  s.ns.foldl (fun s (e : Nat × Ns) => if s.writeProtected e.2 == was.writeProtected e.2 then s else s.nsChanged e.1) s

/-- 64 MiB. -/
def floatUnit : Nat := 67108864

/-- The float in units that R406 and R409 use: FLOAT, or the SRAM part rounded up where that is more (R408). -/
def State.floatUsed (s : State) : Nat := max (s.rd Reg.SUMP_CFG_FLOAT) ((s.params.sumpBanks + 15) / 16)

/-- Set F_eff: back-pressure begins where more is occupied (R412), and ends where the sum lies below the low float. -/
def State.setFloat (s : State) (n : Nat) : State :=
  let s := s.wr Reg.SUMP_STATUS_FLOAT_EFF n
  if s.is Reg.SUMP_STATUS_BP then s.bpEnd
  else if s.floatSlots < s.rd Reg.SUMP_OCC_OCCUPIED then s.enterBp else s

/-- FLOAT_RECOMPUTE (R409): the reservation of the save area, R_SAVE, F_PLSA and F_eff; it runs where the sump does. -/
def execFloatRecompute (s : State) : Host.Outcome State Fault Refusal :=
  settled (if s.st < stRECOVER || stSERVE < s.st || s.sump.save.isSome || s.sump.saved.isSome then s
    else
      let t := s.updateRows
      let p := t.fPlsa / floatUnit
      let t := (t.wr Reg.SUMP_RATE_R_SAVE (t.rSave / 100000000)).wr Reg.SUMP_RATE_F_PLSA (min 65535 p)
      (t.setFloat (min t.floatUsed (min p (t.fHold / floatUnit)))).protectionNotices s)

/-- HOLDUP_SAMPLE (R416, R417): the input of HOLDUP_MON in mV, and the slots that the peer's channels hold ON, as their outputs show. -/
def execHoldupSample (mv : Int) (peerOn : List Nat) (s : State) : Host.Outcome State Fault Refusal :=
  settled (let s := { s with shelf := { s.shelf with peerOn := peerOn } }
    let v := max (-32768) (min 32767 (mv * s.rd Reg.SUMP_HOLDUP_CFG2_DIV / 1000))
    let t := s.wr Reg.SUMP_BANK_VBANK (v % 65536).toNat
    let f := t.rd Reg.SUMP_CFG_FLOAT * floatUnit
    let m := if t.rd Reg.SUMP_HOLDUP_CFG_CAP == 0 then moUnconfigured
      else if mv < -100 then moReversed
      else if t.enough f then moCharged
      else if t.is Reg.SUMP_STATUS_EVER_CHARGED then moLow
      else moCharging
    let t := (t.wr Reg.SUMP_ENERGY_E_AVAIL (min 65535 (t.eAvail / 200000000))).wr Reg.SUMP_ENERGY_E_REQ (t.eReq f)
    let was := t.rd Reg.SUMP_STATUS_MONITOR
    let t := t.wr Reg.SUMP_STATUS_MONITOR m
    let t := if m == moCharged then t.wr Reg.SUMP_STATUS_EVER_CHARGED 1 else t
    let t := if m == was then t
      else if m == moLow || m == moReversed then t.raise sevUncorrected .sump Reg.SUMP_STATUS_MONITOR.off noInstance m
      else t
    t.protectionNotices s)

/-! ### Triggers of a save, and its end (R418, R420, R573) -/

/-- Is the controller in a priming state, AON to POD? -/
def State.primingNow (s : State) : Bool := decide (s.st ≤ stPOD)

/-- A power-failure trigger: a save in SERVE; priming stops at once (R96); HALTED and ISOLATED are left as they are. -/
def State.powerFails (s : State) (cause : SaveCause) : State :=
  if s.serving then s.beginSave cause
  else if s.primingNow then { s with prim := { s.prim with pwrStop := true } }
  else s

/-- PWRFAIL_N_FALL (R418). -/
def execPwrfailNFall (s : State) : Host.Outcome State Fault Refusal :=
  settled (({ s with sump := { s.sump with pwrfailLow := true } }).powerFails .pwrfail)

/-- INPUT_UNDERVOLTAGE (R573): below 10.5 V for 5 µs. -/
def execInputUndervoltage (s : State) : Host.Outcome State Fault Refusal :=
  settled (({ s with sump := { s.sump with inputLow := true } }).powerFails .undervoltage)

/-- INPUT_BROWNOUT (R573): a power-on reset, held until the input next rises. -/
def execInputBrownout (s : State) : Host.Outcome State Fault Refusal :=
  settled (let t := { s with prim := { s.prim with powered := false } }
    t.takeReset .powerOn)

/-- INPUT_OVERVOLTAGE (R573). -/
def execInputOvervoltage (s : State) : Host.Outcome State Fault Refusal :=
  settled (s.raise sevUncorrected .pwr Reg.PWR_INPUT_VIN.off)

/-- SAVE_COMPLETE (R420): every save program has been acknowledged, at the monotonic time `now`; a stripe for which no row was left makes
the save incomplete; the reset that waited for the save follows (R97). -/
def execSaveComplete (now : Nat) (s : State) : Host.Outcome State Fault Refusal :=
  settled (match s.sump.save with
    | none => s
    | some (cause, start) =>
      if s.savePrograms then s
      else
        let s := s.atLeast now
        let s := if s.sump.saveBad then s.saveFailed cause else s.saveDone cause start
        match s.prim.waiting with
        | none => s
        | some k => s.resetSaved k (s.rd Reg.SUMP_LAST_SAVE_RESULT == 1))

/-- SAVE_TRIGGER_CLEARED (R420): a software full reset follows; it stands for the saved contents' REPLAY. -/
def execSaveTriggerCleared (s : State) : Host.Outcome State Fault Refusal :=
  settled (match s.sump.saved with
    | some SaveCause.pwrfail | some SaveCause.undervoltage =>
      let t : State := { s with sump := { s.sump with pwrfailLow := false, inputLow := false } }
      t.resetNow .softFull
    | _ => s)

/-! ### The peer's mirror held here (R413, R415) -/

/-- A mirrored version as the sump's own entry, ciphertext as it came, its arrival ordinal that of the peer. -/
def mirrorVersion (s : State) (v : MirrorVersion) : Version :=
  { nsid := v.nsid, iu := v.iu, order := v.order, whole := v.whole
    sectors := v.sectors.map fun (e : Nat × List Byte) => (e.1, s.sealedFrom v.nsid (v.iu * (s.nsOr v.nsid).iuLen + e.1) e.2), layout := s.nsLayout (s.nsOr v.nsid)
    entered := s.tm.shelf, since := s.tm.mono }

/-- Bytes and grants of a region that the peer holds. -/
def State.mirrorRegion (s : State) (r : MirrorRegion) : State :=
  let set (p : Region) : Region :=
    { p with st := 1, tenant := r.tenant, write := r.write, read := r.read, len := r.len, gen := r.gen
             data := p.data.write r.off r.bytes }
  let t := if r.gone then Tab.del r.index.val s.sump.peerRegions else Tab.upd r.index.val {} set s.sump.peerRegions
  { s with sump := { s.sump with peerRegions := t } }

/-- A tank of the peer's that is FREE again: its blocks, erased once more (R279), go back to their pools (R471). -/
def State.freePeerTank (s : State) (t : Nat) : State :=
  let s := (s.tankOf t).members.foldl (fun (s : State) m =>
    s.updBlk m.key fun b => { b with pe := b.pe + 1, st := if b.st == 1 then 0 else b.st, tank := none, unc := 0 }) s
  { s with ftl := { s.ftl with tanks := Tab.del t s.ftl.tanks } }.showTanks

/-- A namespace that the peer has created, as its record tells of it (Table 15.4, Table 6.2); the record carries no format, protection
type, tenant or key slot, which are free values (log entry 58). -/
def State.peerNs (s : State) (m id nsze : Nat) (v : List Byte) : State :=
  let n : Ns :=
    { nsze := nsze, lbaf := s.freeVal 2, piType := s.freeNext.freeVal 2, iu16 := leAt v 0 1 == 1, layout := leAt v 1 1
      retain := leAt v 2 1 % 2 == 1, retainDays := leAt v 4 4, tenant := s.freeNext.freeNext.freeVal 10, owner := m
      keySlot := s.freeNext.freeNext.freeNext.freeVal 13, created := s.tm.secure, lastWrite := s.tm.secure
      retState := if leAt v 2 1 % 2 == 1 then retLocked else retNone }
  s.freeNext.freeNext.freeNext.freeNext.putNs id n

/-- A journal record of the peer's is applied to what both controllers hold (R249, R413, R471): its namespaces' map, its tanks, the blocks,
the namespaces. -/
def State.applyPeerRec (s : State) (m : Nat) (r : JRec) : State :=
  let theirs (t : Nat) (f : State → State) : State := if (s.tankOf t).mine then s else f s
  match r with
  | .mapSet nsid iu v _ => s.setMap nsid iu (some (.media v))
  | .mapMark nsid iu _ zero => s.setMap nsid iu (if zero then some .zero else none)
  | .stripeCommit _ t i _ missing _ _ _ => theirs t fun s => s.updTank t fun tk =>
      { tk with stripes := tk.stripes + 1, begun := max tk.begun (i + 1), lastStripe := s.tm.mono
                orphans := (tk.orphans ++ (List.range i).filter (tk.begun ≤ ·)).filter (· != i)
                missing := if missing.isEmpty then tk.missing else Tab.put i missing tk.missing }
  | .tankOpen t layout cls ms time =>
    if Tab.has t s.ftl.tanks then s
    else
      let s := ms.foldl (fun (s : State) x => s.updBlk (blkKey x.1 x.2.1 x.2.2.2) fun b => { b with st := 1, tank := some t }) s
      let ks := ms.map fun x => { cistern := x.1, die := x.2.1, block := x.2.2.2, tempOpen := x.2.2.1 : TankMember }
      let tk : Tank :=
        { st := tkOpen, layout := layout, cls := cls, members := ks, openAt := time, lastStripe := s.tm.mono, mine := false }
      State.showTanks { s with ftl := { s.ftl with tanks := Tab.put t tk s.ftl.tanks } }
  | .tankState t st time temps => theirs t fun s =>
      if st == tkFree then s.freePeerTank t
      else
        let warm (ms : List TankMember) : List TankMember := List.zipWith (fun (x : TankMember) a => { x with tempFull := a }) ms temps
        let full := st == tkFull
        (s.updTank t fun tk =>
          { tk with st := st, fullAt := if full then time else tk.fullAt, members := if full then warm tk.members else tk.members }).showTanks
  | .memberSubst t pos c d b => theirs t fun s =>
      match (s.tankOf t).members[pos]? with
      | none => s
      | some old => s.swapMember t pos old.key (blkKey c d b)
  | .blockState c d st b => s.updBlk (blkKey c d b) fun x => { x with st := st, tank := if st == 3 then none else x.tank }
  | .checkpoint .. => s
  | .owner .. => s
  | .namespace_ id a nsze v =>
    if a == 0 then (if Tab.has id s.ns then s else s.peerNs m id nsze v)
    else match s.nsOf id with
      | none => s
      | some n =>
        if s.owns n then s
        else if a == 1 then (s.putNs id { n with nsze := nsze }).nsChanged id
        else { s with ns := Tab.del id s.ns, ftl := { s.ftl with map := s.ftl.map.filter fun e => e.1 / 2 ^ 48 != id } }

/-- MIRROR_FRAME_RECEIVE (R413, R144): versions enter the mirror, those whose stripe's commit and map records have come leave it;
journal records are applied, recent transactions and reservations kept; an acknowledgement is returned.  The frame that ends a copy back clears STALE (R415). -/
def execMirrorFrameReceive (f : MirrorFrame) (s : State) : Host.Outcome State Fault Refusal :=
  settled (if s.partner.isNone || s.st < stRECOVER || stSERVE < s.st then s
    else
      let vs : List Version := (s.sump.peerVersions ++ f.versions.map (mirrorVersion s)).filter fun v => !f.released.contains v.order
      let recents := f.recents.map fun (r : MirrorRecent) =>
        { host := r.host, gen := r.gen, tid := r.tid, crc := r.crc, dw0 := r.dw0, status := r.status
          st := if r.final then 2 else 1, prd := r.prd, expiry := s.tm.mono / us + r.left : Recent }
      let kept := s.prd.mirrored.filter fun e => decide (s.tm.mono / us < e.expiry) && !(recents.any fun r => r.host == e.host && r.gen == e.gen && r.tid == e.tid)
      let s := { s with
        sump := { s.sump with
          peerVersions := vs
          peerSlots := (vs.map fun (v : Version) => v.sectors.length).sum
          peerSeq := max s.sump.peerSeq f.seq
          peerLost := f.lost.getD s.sump.peerLost }
        prd := { s.prd with mirrored := kept ++ recents } }
      let s := f.regions.foldl (fun s r => s.mirrorRegion r) s
      let s := f.reservations.foldl (fun (s : State) h => match s.nsOf h.nsid with
        | none => s
        | some n => if s.owns n then s else s.putNs h.nsid (n.withResv h)) s
      let s := f.lastWrites.foldl (fun (s : State) w => match s.nsOf w.1 with
        | none => s
        | some n => if s.owns n then s else s.putNs w.1 { n with lastWrite := w.2 }) s
      let s := f.records.foldl (fun (s : State) r => s.applyPeerRec (s.partner.getD 0) r) s
      let s := if f.copyEnd then
          ({ s with sump := { s.sump with peerStale := false } }).wr Reg.SUMP_STATUS_MIRROR_STALE 0
        else s
      match f.cmd with
      | none => s
      | some k => s.toPartner (.mirrorAck k))

/-- SUSPEND (R415): the mirror held here is STALE. -/
def execSuspend (s : State) : Host.Outcome State Fault Refusal :=
  settled (if s.partner.isNone || !s.podTalks then s
    else (({ s with sump := { s.sump with peerStale := true } }).wr Reg.SUMP_STATUS_MIRROR_STALE 1).toPartner .suspendAck)

/-- SUSPEND_ACK (R414): answers a SUSPEND of this controller. -/
def execSuspendAck (s : State) : Host.Outcome State Fault Refusal :=
  settled (if s.sump.securing then { s with sump := { s.sump with securing := false, secured := true } } else s)

/-- MIRROR_COPYBACK_DONE (R415, R478): the peer serves again and has every slot; dual-controller write mode resumes, and both sides may
write every cistern. -/
def execMirrorCopybackDone (s : State) : Host.Outcome State Fault Refusal :=
  settled (if !s.serving || !s.is Reg.SUMP_STATUS_SINGLE || !s.partnerServes || !s.sump.copyback then s
    else
      let s := { s with sump := { s.sump with copyback := false, secured := false } }
      let s := ((s.wr Reg.SUMP_STATUS_SINGLE 0).putDesc fun d => { d with single := false }).mirrorAll
      s.served.foldl (fun (s : State) c => s.epochSet c (Tab.getD c 0 s.pod.epochs + 1) 3) s)

/-! ### Clean stop (R428) -/

def offSumpCtl : Nat := 0x3000130

/-- Program every stripe under assembly, padded where it is not full (R258). -/
def State.padStripes (s : State) : State :=
  s.ftl.asm.foldl (fun s (e : Nat × Stripe) =>
    (if e.2.full then s else s.count Reg.FTL_CNT_STRIPES_PADDED).programStripe e.1) s

/-- Compose every IU that has fragments. -/
def State.composeAll (s : State) : State :=
  ((s.ftl.versions.filter fun v => !v.whole).map fun v => (v.nsid, v.iu)).eraseDups.foldl
    (fun s p => s.compose p.1 p.2) s

/-- SHUTDOWN (R428): nothing outside SERVE, refused while a region is VALID, ignored while under way or after it. -/
def execShutdown (value : W32) (s : State) : Host.Outcome State Fault Refusal :=
  settled (let t := s.writeWord offSumpCtl value
    if s.decodeOf .sump != .all || value.toNat % 2 == 0 || value.toNat / 65536 != 0x9648 then t
    else if !t.serving then t.wr Reg.SUMP_STATUS_SHUT_RESULT 3
    else if t.sump.shutting || t.sump.shutDown then t
    else if t.sump.regions.any fun e => e.2.st == 1 then t.wr Reg.SUMP_STATUS_SHUT_RESULT 2
    else ({ t with sump := { t.sump with shutting := true } }).composeAll.assignAll.padStripes)

/-- Does the journal hold map changes that no checkpoint covers? -/
def State.mapPending (s : State) : Bool :=
  s.ftl.journal.any fun r => match r with
    | .mapSet .. | .mapMark .. => true
    | _ => false

/-- SHUTDOWN_DONE (R428): once every version lies in a committed stripe and a checkpoint covers the map, the descriptor is CLEAN; until
then what is left is placed, padded and flushed. -/
def execShutdownDone (s : State) : Host.Outcome State Fault Refusal :=
  settled (if !s.sump.shutting then s
    else if !s.ftl.versions.isEmpty || !s.ftl.asm.isEmpty || !s.ftl.fly.isEmpty then s.composeAll.assignAll.padStripes
    else if s.ftl.flushing.isSome then s
    else if s.mapPending then s.beginFlush
    else
      let s := { s with sump := { s.sump with shutting := false, shutDown := true } }
      ((s.putDesc fun d => { d with st := dsClean, run := false }).wr Reg.SUMP_STATUS_SHUT_DONE 1).wr
        Reg.SUMP_STATUS_SHUT_RESULT 1)

/-- SAVE_LOST_CLEAR (R427): the flag and its copy in the descriptor. -/
def execSaveLostClear (value : W32) (s : State) : Host.Outcome State Fault Refusal :=
  settled (let t := s.writeWord Reg.SUMP_STATUS_SAVE_LOST.off value
    if s.decodeOf .sump == .all && !s.is (fResetting .sump) && value.toNat / 2 ^ 7 % 2 == 1 then
      (t.wr Reg.SUMP_STATUS_SAVE_LOST 0).putDesc fun d => { d with saveLost := false }
    else t)

end Sys2Proof.Machine
end

