-- ==== Sys2Proof/Machine/Mfd.lean ====
section
/-! DEFINITION. The family of the manifold: copies of frames (R224 to R228), ports without link and stalls (R229, R230), reception and
pause (R121, R222, R231, R232), SECDED (R234 to R236), and
leaving dual-controller write mode (R414). -/

namespace Sys2Proof.Machine

/-! ### Single-controller write mode (R414) -/

/-- Leave dual-controller write mode: no completion is sent until the partner acknowledges SUSPEND, or is fenced. -/
def State.leaveDual (s : State) : State :=
  if !s.dual || s.sump.securing || s.sump.secured then s
  else ({ s with sump := { s.sump with securing := true } }).toPartner .suspend

/-- A peer copy has failed (R227). -/
def State.peerCopyFailed (s : State) : State := (s.count Reg.SUMP_CNT_PEER_COPY_FAILED).leaveDual

/-- Complete the writes whose completion waited for the peer. -/
def State.releaseMirrored (s : State) : State :=
  (s.host.cmds.filter fun e => e.2.stage == .waitMirror).foldl (fun s e => s.writeDone e.1 nvOk) s

/-! ### Ports -/

/-- Sub-ports of an Ethernet port in a mode (Table 2.5). -/
def subPorts (mode : Nat) : Nat := if mode == 0 then 0 else 2 ^ (mode - 1)

/-- Domains of an Ethernet port's MAC and of the lane-quads that a sub-port of it uses (Table 20.1); each quad has four of its eight lanes. -/
def ethDomains (n k mode : Nat) : List Nat :=
  let lanes := 8 / subPorts mode
  (56 + n) :: ((List.range 2).filter fun q => decide (k * lanes < 4 * q + 4 ∧ 4 * q < (k + 1) * lanes)).map fun q => 48 + 2 * n + q

/-- Can a port have link: a sub-port of the port's mode, and no domain of its failed (R90, R532)? -/
def State.portServes (s : State) (port : Nat) : Bool :=
  match ethOf port with
  | some n =>
    let mode := s.params.ethMode.getD n 0
    decide (port / 72 < subPorts mode) && (ethDomains n (port / 72) mode).all fun d => !s.domainFailed d
  | none => if port < 48 then !s.domainFailed port else decide (port < 54) && !s.domainFailed (port + 88)

/-! ### Copies that fail (R223, R227) -/

/-- A stripe member's capsule that will not be sent: its command ends unsent, and the position counts as a failed copy. -/
def State.memberCopyFailed (s : State) (f : Frame) (port seq pos : Nat) : State :=
  let s := match Tab.find port f.caps with
    | none => s
    | some g => s.updLink port fun l => { l with tags := Tab.del g l.tags }
  let s := s.updLink port fun l => { l with backlog := l.backlog.filter fun (t : Tag) => t.use != .program seq pos }
  (s.copyFailed seq pos).issueAll port

/-- The position of a stripe whose member lies on a cistern. -/
def State.memberPos (s : State) (seq c pos : Nat) : Nat :=
  match Tab.find seq s.ftl.fly with
  | none => pos
  | some st =>
    match (s.tankOf st.tank).members.findIdx? fun m => m.cistern == c with
    | none => pos
    | some m => posOf st.layout m st.index

/-- Report a failed copy to the block that enqueued the frame (R227): a stripe member's position, or the peer copy. -/
def State.reportCopy (s : State) (f : Frame) (port : Nat) : State :=
  match f.stripe with
  | some (seq, pos) => s.memberCopyFailed f port seq (s.memberPos seq port pos)
  | none => if f.cmd.isSome then s.peerCopyFailed else s

/-- Ordinals of the versions that a mirrored frame brings. -/
def Frame.orders (f : Frame) : List Nat :=
  match f.pod with
  | some { body := .msg (.mirror m), .. } => m.versions.map (·.order)
  | _ => []

/-- A tail-marked frame of host write data: the peer has discarded it, and the wellhead treats its range as lost and asks for it again
(R223). -/
def State.dataLost (s : State) (f : Frame) : State :=
  match f.cmd with
  | none => s
  | some (id, k, n) =>
    match s.cmdOf id with
    | none => s
    | some c =>
      if n == 0 || c.stage != .waitMirror then s.peerCopyFailed
      else
        let wire := wireBytes (s.nsOr c.sqe.nsid) c.sqe
        let s := s.updCmd id fun c => { c with mirrors := c.mirrors - 1, lost := c.lost ++ [(k, n, f.orders)] }
        s.solicit id c (k * wire) (n * wire)

/-! ### SECDED (R234 to R237) -/

/-- Log an uncorrectable error, if the log is empty. -/
def State.logEcc (s : State) (cell desc : Nat) : State :=
  if s.is Reg.MFD_ECC_LOG_VALID then s
  else ((s.wr Reg.MFD_ECC_LOG_CELL cell).wr Reg.MFD_ECC_LOG_DESC desc).wr Reg.MFD_ECC_LOG_VALID 1

/-- The address of a frame's cell. -/
def Frame.addrOf (f : Frame) (k : Nat) : Nat := ((f.addrs[k]?).map (·.1)).getD f.head

/-- An uncorrectable error in a frame's cell (R235, R237): counted, logged, the cell fenced, the frame tail-marked. -/
def State.cellError (s : State) (id : Nat) (f : Frame) (k : Nat) : State :=
  let a := f.addrOf k
  ((((s.count Reg.MFD_CNT_ECC_UNCORRECTED).logEcc a 0).raise sevUncorrected .mfd Reg.MFD_ECC_LOG_CELL.off noInstance).fenceCells a 1).tailMark
    id

/-- The cells of a frame beyond its cell `k`, which its broken chain no longer reaches. -/
def Frame.beyond (f : Frame) (k : Nat) : List Nat := (f.addrs.drop (k + 1)).map (·.1)

/-- An uncorrectable error in the descriptor of a frame's cell (R236): the frame and those behind it in the port's queue are discarded and
counted, as for a port without link; the cells that the chain no longer reaches are fenced. -/
def State.descError (s : State) (id port : Nat) (f : Frame) (k : Nat) : State :=
  let s := (s.logEcc (f.addrOf k) 1).raise sevUncorrected .mfd Reg.MFD_ECC_LOG_CELL.off noInstance
  let behind := s.mfd.frames.filter fun e =>
    decide (id < e.1) && e.2.left.contains port && e.2.prio == f.prio && e.2.urgent == f.urgent
  let s := s.count Reg.MFD_CNT_DESC_FLUSH_FRAMES (1 + behind.length)
  let s := (f.beyond k).foldl (fun (s : State) a => s.fenceCells a 1) s
  let s := f.left.foldl (fun (s : State) p => (s.dropCopy id p).reportCopy f p) s
  behind.foldl (fun (s : State) e => (s.dropCopy e.1 port).reportCopy e.2 port) s

/-! ### Copies sent (R224, R225) -/

/-- A REP that has been sent brings its queue pair to RTR (Table 4.2). -/
def State.cmSent (s : State) (o : Out) : State :=
  match o with
  | .cm qi _ _ (.rep ..) => if (s.qpOf qi).st == qpInit then s.updQp qi fun q => { q with st := qpRtr } else s
  | _ => s

/-- What leaves with a copy: the Skalas capsule joined to it, a Brontanto frame, or what the frame carries otherwise. -/
def State.emitCopy (s : State) (f : Frame) (port : Nat) : State :=
  if port < 48 then s.sendCapsule f port false
  else if port == 52 || port == 53 then f.pod.elim s fun p => s.sendPod (port - 52) p false
  else f.outs.foldl (fun (s : State) o => (s.send o).cmSent o) s

/-- A copy has been sent whole, or ended as Table 8.6 gives where its frame is tail-marked. -/
def State.finishCopy (s : State) (id port : Nat) : State :=
  match Tab.find id s.mfd.frames with
  | none => s
  | some f =>
    let s := if f.bad then
        let s := if f.stomped then s else s.count Reg.MFD_CNT_STOMPED
        let s := { s with mfd := { s.mfd with frames := Tab.updIf id (fun f => { f with stomped := true }) s.mfd.frames } }
        s.stompCopy port id
      else (s.send (.frame port id)).emitCopy f port
    let s := ((s.portSends port).markDone id [port]).startPort port
    if f.bad && (port == 52 || port == 53) then s.dataLost f else s

/-- MFD_COPY_DONE (R224, R225, R234 to R236): the port has read the rest of the frame that it is sending, and is done with it once the
frame is complete; it goes on with the next of its queues. -/
def execMfdCopyDone (frame port : Nat) (ecc : CopyEcc) (s : State) : Host.Outcome State Fault Refusal :=
  settled (match Tab.find frame s.mfd.frames with
    | none => s
    | some f =>
      if Tab.find port s.mfd.sending != some frame || !f.complete || !s.portLinked port then s
      else
        let s := s.corrected .mfd Reg.MFD_CNT_ECC_CORRECTED ecc.corrected
        match ecc.desc with
        | some k => (s.descError frame port f k).resumeReads
        | none =>
          let s := match ecc.cell with
            | some k => s.cellError frame f k
            | none => s
          (s.finishCopy frame port).resumeReads)

/-- The residue of a frame past the age limit: copies still waiting while one has finished (R226). -/
def State.aged (s : State) (f : Frame) : List Nat :=
  if f.multi && f.complete && !f.done.isEmpty &&
      decide (f.tComplete + s.rd Reg.MFD_AGE_AGE_LIMIT * us ≤ s.tm.mono) then f.left else []

/-- MFD_AGE_CHECK (R226, R227): at the monotonic time `now`; a discarded copy is never sent later. -/
def execMfdAgeCheck (now : Nat) (s : State) : Host.Outcome State Fault Refusal :=
  settled (let s := s.atLeast now
    (s.mfd.frames.foldl (fun (s : State) (e : Nat × Frame) =>
      let gone := s.aged e.2
      if gone.isEmpty then s
      else
        let s := (s.count Reg.MFD_CNT_MC_COPY_FAILED gone.length).count Reg.MFD_CNT_MC_CELLS_AGED (gone.length * e.2.cells)
        gone.foldl (fun (s : State) p => (s.dropCopy e.1 p).reportCopy e.2 p) s) s).resumeReads)

/-! ### Ports without link (R228 to R230) -/

/-- PORT_LINK_DOWN (R228, R229). -/
def execPortLinkDown (port : Nat) (s : State) : Host.Outcome State Fault Refusal := settled (s.portDown port)

/-- PORT_LINK_UP (R229): the queues resume; no port has a link before PRIME starts it (R90), nor in HALTED (R78), nor where its mode or
a failed domain leaves it none; a Skalas or Brontanto link's port follows the link. -/
def execPortLinkUp (port : Nat) (s : State) : Host.Outcome State Fault Refusal :=
  settled (if !s.portServes port || s.st < stPRIME || s.st == stHALTED then s
    else ((s.showEth port true).portBack port).startPort port)

/-- Discard every unicast frame queued for a port, its cells counted (R229). -/
def State.discardPort (s : State) (port : Nat) : State :=
  (s.mfd.frames.filter fun e => e.2.dests == [port]).foldl (fun (s : State) (e : Nat × Frame) =>
    ((s.count Reg.MFD_CNT_HOLD_DISCARD_CELLS e.2.cells).dropCopy e.1 port).reportCopy e.2 port) s

/-- Frames sent on a peer link that its neighbour has not acknowledged are lost with it; a write's among them is a failed peer copy (R227). -/
def State.dropUnacked (s : State) (k : Nat) : State :=
  let l := (s.linkPl k).unacked
  l.foldl (fun (s : State) t => match t.send.body with
    | .msg (.mirror f) => if f.cmd.isSome then s.peerCopyFailed else s
    | _ => s) (s.updPl k fun l => { l with unacked := [] })

/-- PORT_HOLD_EXPIRY (R229): link has not returned by the end of the hold; beyond it, loss of both peer links ends dual-controller
write mode (R414). -/
def execPortHoldExpiry (port : Nat) (s : State) : Host.Outcome State Fault Refusal :=
  settled (match Tab.find port s.mfd.down with
    | none => s
    | some t =>
      if s.mfd.expired.contains port then s
      else
        let s := s.atLeast (t + s.rd Reg.MFD_HOLD * ms)
        let s := { s with mfd := { s.mfd with expired := port :: s.mfd.expired } }
        let s := (s.discardPort port).resumeReads
        let s := if port == 52 || port == 53 then s.dropUnacked (port - 52) else s
        if s.mfd.expired.contains 52 && s.mfd.expired.contains 53 then s.leaveDual else s)

/-- PORT_STALL (R230): a port with link and cells queued has sent nothing for STALL. -/
def execPortStall (port : Nat) (s : State) : Host.Outcome State Fault Refusal :=
  settled (let queued := s.mfd.frames.any fun e => e.2.left.contains port
    if !linkedPort port || !queued || !s.portUp port || !s.is Reg.MFD_HOLD_STALL then s
    else
      let s := (s.count Reg.MFD_CNT_STALL_EVENTS).raise sevUncorrected .mfd Reg.MFD_HOLD_STALL.off port
      { s with mfd := { s.mfd with stalled := port :: s.mfd.stalled, down := Tab.put port s.tm.mono s.mfd.down } })

/-! ### Reception and pause (R121, R222, R231, R232) -/

/-- Is PFC enabled on a priority of an Ethernet port? -/
def State.pfcOn (s : State) (n prio : Nat) : Bool := s.rd (Reg.MFD_PFC_CFG_PFC_EN.at n) / 2 ^ prio % 2 == 1

/-- Send a pause of 65,535 quanta for a priority. -/
def State.pauseSend (s : State) (n prio : Nat) : State :=
  (({ s with mfd := { s.mfd with xoff := Tab.put (8 * n + prio) s.tm.mono s.mfd.xoff } }).send (.pfc n prio 65535)).count
    (Reg.MFD_CNT_PAUSE_SENT.at n)

/-- PFC_REFRESH (R232): REFRESH after the last pause frame, while the count stays at or above XON. -/
def execPfcRefresh (port : Fin 4) (prio : Fin 8) (s : State) : Host.Outcome State Fault Refusal :=
  settled (match Tab.find (8 * port.val + prio.val) s.mfd.xoff with
    | none => s
    | some t =>
      let s := s.atLeast (t + s.rd Reg.MFD_PAUSE_REFRESH * us)
      if s.rxHeld port.val prio.val < s.rd (Reg.MFD_PFC_THR_XON.at port.val) then s
      else s.pauseSend port.val prio.val)

/-- Nanoseconds of PFC quanta, each 512 bit times. -/
def State.quantaNs (s : State) (n q : Nat) : Nat := if s.portGbps n == 0 then 0 else q * 512 / s.portGbps n

/-- PFC_FRAME_RECEIVE (R121): each priority that the frame names is paused for its quanta, or resumes with 0. -/
def execPfcFrameReceive (port : Fin 4) (sub : Fin 8) (quanta : List (Fin 8 × Nat)) (s : State) : Host.Outcome State Fault Refusal :=
  settled (let p := 48 + port.val + 72 * sub.val
    let t := quanta.foldl (fun (t : Tab Nat) (e : Fin 8 × Nat) =>
      if !s.pfcOn port.val e.1.val then t
      else if e.2 == 0 then Tab.del (8 * p + e.1.val) t
      else Tab.put (8 * p + e.1.val) (s.tm.mono + s.quantaNs port.val (e.2 % 65536)) t) s.mfd.paused
    ({ s with mfd := { s.mfd with paused := t } } : State).startPort p)

/-- PFC_PAUSE_EXPIRY (R121): the quanta have elapsed. -/
def execPfcPauseExpiry (port : Fin 4) (sub : Fin 8) (prio : Fin 8) (s : State) : Host.Outcome State Fault Refusal :=
  settled (let k := 8 * (48 + port.val + 72 * sub.val) + prio.val
    match Tab.find k s.mfd.paused with
    | none => s
    | some t =>
      let s := s.atLeast t
      ({ s with mfd := { s.mfd with paused := Tab.del k s.mfd.paused } } : State).startPort (ethPort port.val sub.val))

/-- A port-priority's cells have risen: at XOFF the pause begins (R232). -/
def State.rxTake (s : State) (n prio : Nat) : State :=
  if s.pfcOn n prio && s.rd (Reg.MFD_PFC_THR_XOFF.at n) ≤ s.rxHeld n prio && !Tab.has (8 * n + prio) s.mfd.xoff then s.pauseSend n prio
  else s

/-- More of an incoming frame is in its cells: it is longer, and complete with its last cell (R219). -/
def State.growFrame (s : State) (id : Nat) (f : Frame) (bytes : Nat) (runs : List CellRun) (last : Bool) : State :=
  let f := { f with len := f.len + bytes, runs := f.runs ++ runs, complete := last, tComplete := if last then s.tm.mono else 0 }
  let s := ({ s with mfd := { s.mfd with
    frames := Tab.put id f s.mfd.frames
    receiving := if last then Tab.del f.src s.mfd.receiving else Tab.put f.src id s.mfd.receiving } }).showPart 0
  f.left.foldl (fun (s : State) p => s.startPort p) s

/-- The first bytes of a frame: cells, or nothing where HOST_RX is full (R231). -/
def State.openFrame (s : State) (n src : Nat) (f : EthFrame) (bytes : Nat) (last : Bool) : State :=
  match s.alloc 0 (cellsOf bytes) with
  | none => s.count (Reg.MFD_CNT_RX_DROP.at n)
  | some r =>
    let id := s.mfd.next
    let g : Frame := { len := 0, part := 0, src := src, dests := f.dests, prio := f.prio.val, complete := false }
    let s := { s with mfd := { s.mfd with next := id + 1, frames := Tab.put id g s.mfd.frames } }
    (s.growFrame id g bytes r last).rxTake n f.prio.val

/-- A frame is tail-marked as it comes: its consumers discard it whole (R220). -/
def State.dropBad (s : State) (id : Nat) : State :=
  match Tab.find id s.mfd.frames with
  | none => s
  | some f => (s.tailMark id).markDone id (f.left.filter fun p => decide (54 ≤ p % 72))

/-- Further bytes of the frame that a port is receiving; where HOST_RX is full the frame is dropped. -/
def State.extendFrame (s : State) (n id : Nat) (g : Frame) (bytes : Nat) (last : Bool) : State :=
  match s.alloc 0 (cellsOf (g.len + bytes) - g.cells) with
  | none => (s.dropBad id).count (Reg.MFD_CNT_RX_DROP.at n)
  | some r => (s.growFrame id g bytes r last).rxTake n g.prio

/-- ETH_FRAME_RECEIVE (R220 to R222, R231, R232): bytes of a frame enter HOST_RX, or the frame is dropped where it is full; at its end a
frame that fails its FCS, is short, or was longer than the port's maximum and so truncated, is tail-marked, and its consumers discard
it. -/
def execEthFrameReceive (port : Fin 4) (f : EthFrame) (s : State) : Host.Outcome State Fault Refusal :=
  settled (let n := port.val
    let src := ethPort n f.sub.val
    if s.st < stPRIME || s.st == stHALTED || s.portGbps n == 0 || f.bytes == 0 then s
    else
      let got := if f.first then 0 else ((Tab.find src s.mfd.receiving).bind fun id => Tab.find id s.mfd.frames).elim 0 (·.len)
      let keep := min f.bytes (Config.ethMaxFrame n - got)
      let long := decide (keep < f.bytes)
      let wrong := long || (f.last && (!f.fcsGood || decide (got + keep < 64)))
      let id := (Tab.find src s.mfd.receiving).getD s.mfd.next
      let known := !f.first && Tab.has src s.mfd.receiving
      if !f.first && !known then s
      else
        let s := match if known then Tab.find id s.mfd.frames else none with
          | some g => s.extendFrame n id g keep (f.last || long)
          | none => s.openFrame n src f keep (f.last || long)
        let s := if f.last && !f.fcsGood then s.count Reg.MFD_CNT_RX_FCS_BAD else s
        if wrong then s.dropBad id else s)

end Sys2Proof.Machine
end

