-- ==== Sys2Proof/Machine/Rc.lean ====
section
/-! DEFINITION. The family of RC packets of the wellhead (chapter 4) and of region accesses (R183 to R185). -/

namespace Sys2Proof.Machine

/-! ### Sequence numbers -/

/-- Does PSN `a` lie at or before `b`? -/
def psnLe (a b : Nat) : Bool := decide ((b + 2 ^ 24 - a) % 2 ^ 24 < 2 ^ 23)

/-- The PSN before. -/
def psnPred (p : Nat) : Nat := (p + 2 ^ 24 - 1) % 2 ^ 24

/-! ### The congestion window (R121) -/

/-- Bytes acknowledged or received: the window grows each time they fill it. -/
def State.grow (s : State) (qi n : Nat) : State :=
  let q := s.qpOf qi
  if !s.is Reg.WELL_RC_CTL_CC_EN then s
  else if q.acked + n < q.cwnd then s.updQp qi fun q => { q with acked := q.acked + n }
  else
    let w := min (s.rd Reg.WELL_RC_WIN_W_MAX * 4096) (q.cwnd + s.rd Reg.WELL_RC_WIN_AI * 4096)
    s.updQp qi fun q => { q with acked := 0, cwnd := w }

/-- A CNP, or a marked read response: the window decreases, once in DEC_HOLD. -/
def State.shrink (s : State) (qi : Nat) : State :=
  let q := s.qpOf qi
  if !s.is Reg.WELL_RC_CTL_CC_EN || decide (s.tm.shelf < q.tDec + s.rd Reg.WELL_RC_CC_DEC_HOLD * us) then s
  else
    let w := max 4096 (q.cwnd * (256 - s.rd Reg.WELL_RC_CC_MD) / 256)
    s.updQp qi fun q => { q with cwnd := w, acked := 0, tDec := s.tm.shelf }

/-- A marked request: a CNP to its sender, at most one in CNP_INTERVAL (R120). -/
def State.sendCnp (s : State) (qi : Nat) : State :=
  if !s.is Reg.WELL_RC_CTL_CNP_EN || decide (s.tm.shelf < (s.qpOf qi).tCnp + s.rd Reg.WELL_RC_CC_CNP_INTERVAL * us) then s
  else ((s.sendRc qi true .cnp).count Reg.WELL_CNT_CNP_SENT).updQp qi fun q => { q with tCnp := s.tm.shelf }

/-! ### Entering RTS, acknowledging, refusing -/

/-- RTS (Table 4.2): the timers are copied into the context, and the window is opened. -/
def State.toRts (s : State) (qi : Nat) : State :=
  let retry := s.rd Reg.WELL_RC_TIMERS_RETRY_CNT
  let rnr := s.rd Reg.WELL_RC_TIMERS_RNR_RETRY
  let t := s.rd Reg.WELL_RC_TIMERS_ACK_TIMEOUT
  let w := s.rd Reg.WELL_RC_WIN_W_INIT * 4096
  s.updQp qi fun q => { q with st := qpRts, retryCnt := retry, rnrRetry := rnr, left := retry, rnrLeft := rnr, timeout := t
                               cwnd := w, acked := 0, lastAck := s.tm.mono }

/-- An acknowledgement covers every message received whole: region messages that it covers have drained (R186). -/
def State.regionAcked (s : State) (qi : Nat) : State :=
  let here := ((s.qpOf qi).writeAt.map fun (w : Nat × Nat × Nat) => w.1).getD 64
  { s with sump := { s.sump with regions := s.sump.regions.map fun (e : Nat × Region) =>
    if e.1 == here then e else (e.1, { e.2 with draining := e.2.draining.filter (· != qi) }) } }

/-- Work of a queue pair whose context is not cached waits for the fetch (R108, R110). -/
def State.await (s : State) (qi : Nat) (d : Due) : State :=
  (s.updQp qi fun q => { q with due := if q.due.contains d then q.due else q.due ++ [d] }).fetchCtx qi

/-- Send an acknowledgement of what has been received (R112); while the peer has still to hold region writes, it waits (R185). -/
def State.ackNow (s : State) (qi : Nat) : State :=
  let q := s.qpOf qi
  if q.st != qpRtr && q.st != qpRts then s
  else if q.mirrorPend != 0 then s.updQp qi fun q => { q with ackDue := true }
  else if !s.ctxCached qi then s.await qi .ack
  else
    ((s.sendRc qi true (.ack (psnPred q.epsn) q.msn)).updQp qi fun q => { q with unacked := 0, ackDue := false }).regionAcked qi

/-- A request packet has been executed: acknowledge at once, or coalesce (R112). -/
def State.ackLater (s : State) (qi : Nat) (req : Bool) : State :=
  let s := s.updQp qi fun q =>
    { q with unacked := q.unacked + 1, unackedSince := if q.unacked == 0 then s.tm.mono else q.unackedSince }
  if req || decide (s.rd Reg.WELL_RC_TIMERS_ACK_COALESCE ≤ (s.qpOf qi).unacked) then s.ackNow qi else s

/-- NAK codes of Table 4.5 (IBTA syndromes). -/
def nakSeq : Nat := 0x60
def nakInvalid : Nat := 0x61
def nakAccess : Nat := 0x62
def nakOperational : Nat := 0x63
def nakRnr : Nat := 0x20

/-- The queue pair enters ERR, with a NAK that says why (R116). -/
def State.nakFail (s : State) (qi code : Nat) : State :=
  let q := s.qpOf qi
  (s.qpFail qi).sendRc qi true (.nak code q.epsn q.msn)

/-- EPSN advances by `n` packets. -/
def State.advanceEpsn (s : State) (qi n : Nat) : State :=
  s.updQp qi fun q => { q with epsn := psnAdd q.epsn n, seqNakSent := false }

/-- A message is complete. -/
def State.msgDone (s : State) (qi : Nat) : State := s.updQp qi fun q => { q with msn := psnAdd q.msn 1 }

/-! ### The responder: what a request's PSN says (R111) -/

inductive PsnIs where
  | expected | duplicate | ahead
  deriving DecidableEq, Repr

/-- Against EPSN, modulo 2^24: equal to it, in the 2^23 values below it, or otherwise. -/
def psnIs (q : Qp) (psn : Nat) : PsnIs :=
  if psn == q.epsn then .expected
  else if (q.epsn + 2 ^ 24 - psn) % 2 ^ 24 ≤ 2 ^ 23 then .duplicate else .ahead

/-- An out-of-sequence request: one NAK until EPSN advances. -/
def State.outOfSequence (s : State) (qi : Nat) : State :=
  let q := s.qpOf qi
  if q.seqNakSent then s
  else ((s.sendRc qi true (.nak nakSeq q.epsn q.msn)).count Reg.WELL_CNT_SEQ_NAK_SENT).updQp qi fun q => { q with seqNakSent := true }

/-- A request in PSN order moves a queue pair in RTR to RTS (Table 4.2). -/
def State.firstValid (s : State) (qi : Nat) : State := if (s.qpOf qi).st == qpRtr then s.toRts qi else s

/-! ### Command capsules -/

/-- Is a packet's payload of the length that its position asks for, at the queue pair's PMTU (R116)? -/
def Qp.lengthGood (q : Qp) (pos : Pos) (n : Nat) : Bool :=
  let m := pmtuBytes q.pmtu
  match pos with
  | .first | .middle => n == m
  | .last => decide (1 ≤ n ∧ n ≤ m)
  | .only => decide (n ≤ m)

/-- The command of a capsule that has arrived whole (R104, R117): a submission entry and in-capsule data, where an offset data block finds
it; an I/O queue carries I/O commands and Fabrics commands, the admin queue admin commands. -/
def Qp.command (q : Qp) (qi : Nat) (b : List Byte) (dscp : Nat) : Cmd :=
  let e := sqeOf b
  let inline := b.drop (64 + if e.sglType == 1 then e.addr else 0)
  { path := .rc qi, sqe := e, admin := q.qid == 0 || e.opcode == 0x7F, tenant := q.tenant, ctlr := q.assoc, pump := q.pump
    dscp := some dscp, u := pmtuBytes q.pmtu, buf := if inline.isEmpty then [] else [(0, inline)] }

/-- Hand a command to the pump; before Connect has bound the queue pair, only Connect is carried out. -/
def State.rcCommand (s : State) (qi : Nat) (b : List Byte) (dscp : Nat) : State :=
  let c := (s.qpOf qi).command qi b dscp
  let c := { c with d := s.dataLen c.sqe }
  let s := s.updQp qi fun q => { q with cmds := q.cmds + 1 }
  if c.ctlr == 0 && !(c.sqe.opcode == 0x7F && c.sqe.fctype == 1) then s.refuseNew c nvSequence else s.newCmd c

/-- Would a new capsule exceed SQSIZE + 1 commands, or does it find the pool empty (R115)? -/
def Qp.noRoom (q : Qp) (p : RcPkt) : Bool := p.poolEmpty || decide (q.sqSize + 1 ≤ q.cmds)

/-- Refuse a capsule for now. -/
def State.rnr (s : State) (qi : Nat) : State :=
  let q := s.qpOf qi
  (s.sendRc qi true (.rnr (s.rd Reg.WELL_RC_TIMERS_RNR_TIMER) q.epsn q.msn)).count Reg.WELL_CNT_RNR_NAK_SENT

/-- Execute a SEND at EPSN: the capsule that it begins or goes on with is at most 8,256 bytes long, and holds a submission entry when whole;
its DSCP is that of its first packet (R200). -/
def State.rcSend (s : State) (qi : Nat) (p : RcPkt) (pos : Pos) (d : List Byte) : State :=
  let s := s.firstValid qi
  let q := s.qpOf qi
  let so : Option Capsule :=
    if pos.begins then (if q.capsule.isSome || q.writeAt.isSome then none else some ⟨d, p.dscp.toNat⟩)
    else q.capsule.map fun c => { c with bytes := c.bytes ++ d }
  match so with
  | none => s.nakFail qi nakInvalid
  | some c =>
    if !q.lengthGood pos d.length || decide (8256 < c.bytes.length) || (pos.ends && decide (c.bytes.length < 64)) then s.nakFail qi nakInvalid
    else if pos.begins && q.noRoom p then s.rnr qi
    else
      let s := s.advanceEpsn qi 1
      if pos.ends then
        let s := (s.updQp qi fun q => { q with capsule := none }).msgDone qi
        (s.ackLater qi p.ackReq).rcCommand qi c.bytes c.dscp
      else (s.updQp qi fun q => { q with capsule := some c }).ackLater qi p.ackReq

/-! ### The remote sump region -/

/-- Region states (Table 6.10). -/
def rgInvalid : Nat := 0
def rgValid : Nat := 1
def rgRevoking : Nat := 2

def State.updRegion (s : State) (i : Nat) (f : Region → Region) : State :=
  { s with sump := { s.sump with regions := Tab.upd i {} f s.sump.regions } }

/-- The remote base of a region (R183). -/
def regionBase (i : Nat) : Nat := i * 2 ^ 40

/-- The index that an R_Key names. -/
def rkeyIndex (k : Nat) : Nat := k / 256 % 64

/-- The key check (R184), for a write or a read. -/
def State.keyCheck (s : State) (q : Qp) (write : Bool) (rkey va len : Nat) : Bool :=
  let i := rkeyIndex rkey
  let r := s.regionOf i
  q.regionGrant && r.st == rgValid && r.rkey == rkey && r.tenant == q.tenant && (if write then r.write else r.read) &&
    decide (regionBase i ≤ va ∧ va + len ≤ regionBase i + r.len)

/-- A failed key check. -/
def State.regionRefuse (s : State) (qi : Nat) : State := (s.count Reg.SUMP_CNT_REGION_REFUSED).nakFail qi nakAccess

/-- Write bytes into a region, and to the peer's copy of it (R185). -/
def State.regionWrite (s : State) (qi i off : Nat) (d : List Byte) : State :=
  let s := s.updRegion i fun r => { r with data := r.data.write off d }
  if !s.dual then s
  else (s.toPartner (.mirror { cmd := some (2 ^ 32 + qi), regions := [s.regionRecord i off d] })).updQp qi fun q => { q with mirrorPend := q.mirrorPend + 1 }

/-- Execute an RDMA WRITE at EPSN. -/
def State.rcWrite (s : State) (qi : Nat) (p : RcPkt) (pos : Pos) (rkey va dmaLen : Nat) (d : List Byte) : State :=
  let s := s.firstValid qi
  let q := s.qpOf qi
  let i := rkeyIndex rkey
  let so : Option (Nat × Nat × Nat) :=
    if pos.begins then (if q.capsule.isSome || q.writeAt.isSome then none else some (i, va - regionBase i, dmaLen)) else q.writeAt
  match so with
  | none => s.nakFail qi nakInvalid
  | some (i, off, left) =>
    if !q.lengthGood pos d.length || (if pos.ends then d.length != left else decide (left ≤ d.length)) then s.nakFail qi nakInvalid
    else if pos.begins && !s.keyCheck q true rkey va dmaLen then s.regionRefuse qi
    else if (s.regionOf i).st == rgInvalid then s.regionRefuse qi
    else
      let s := s.updRegion i fun r => { r with draining := if r.draining.contains qi then r.draining else r.draining ++ [qi] }
      let s := (s.regionWrite qi i off d).advanceEpsn qi 1
      let s := s.updQp qi fun q => { q with writeAt := if pos.ends then none else some (i, off + d.length, left - d.length) }
      (if pos.ends then s.msgDone qi else s).ackLater qi p.ackReq

/-- Packets of a read's answer. -/
def readPackets (q : Qp) (len : Nat) : Nat := max 1 ((len + pmtuBytes q.pmtu - 1) / pmtuBytes q.pmtu)

/-- Answer a region READ from its RETH, with the current contents. -/
def State.regionRead (s : State) (qi psn va len i msn : Nat) : State :=
  let q := s.qpOf qi
  let m := pmtuBytes q.pmtu
  let data := (s.regionOf i).data
  (List.range (readPackets q len)).foldl (fun (s : State) k =>
    let n := min m (len - k * m)
    s.sendRc qi false (.readResponse (posIn len (len - k * m) n) (psnAdd psn k) msn (data.read (va - regionBase i + k * m) n))) s

/-- Responder read records that a queue pair may use (Table 4.3, IRD). -/
def State.irdOf (s : State) : Nat := min 16 (s.rd Reg.WELL_RC_CTL_IRD)

/-- What refuses an RDMA READ request: no records usable, the key check, an uncorrectable error in the region (Tables 4.5, 4.8). -/
def State.readRefused (s : State) (qi rkey va len : Nat) (bad : Bool) : Option State :=
  if s.irdOf == 0 then some (s.nakFail qi nakInvalid)
  else if !s.keyCheck (s.qpOf qi) false rkey va len then some (s.regionRefuse qi)
  else if bad then some (s.nakFail qi nakOperational)
  else none

/-- Execute an RDMA READ request at EPSN: it takes the next responder read record, and its responses acknowledge it (R112). -/
def State.rcRead (s : State) (qi psn rkey va len : Nat) (bad : Bool) : State :=
  let s := s.firstValid qi
  let q := s.qpOf qi
  if q.capsule.isSome || q.writeAt.isSome then s.nakFail qi nakInvalid
  else match s.readRefused qi rkey va len bad with
    | some t => t
    | none =>
      let s := ((s.advanceEpsn qi (readPackets q len)).msgDone qi).updQp qi fun q =>
        { q with irdHead := (q.irdHead + 1) % s.irdOf, records := Tab.put q.irdHead ⟨psn, rkey, va, len⟩ q.records }
      s.regionRead qi psn va len (rkeyIndex rkey) (s.qpOf qi).msn

/-- Execute a duplicate RDMA READ request again, from its own RETH (R111). -/
def State.rcReadAgain (s : State) (qi psn rkey va len : Nat) (bad : Bool) : State :=
  match s.readRefused qi rkey va len bad with
  | some t => t
  | none => s.regionRead qi psn va len (rkeyIndex rkey) (s.qpOf qi).msn

/-! ### The requester -/

/-- The PSN that a read's next response carries. -/
def ReadEnt.expects (q : Qp) (r : ReadEnt) : Nat := psnAdd r.psn (r.got / pmtuBytes q.pmtu)

/-- The oldest PSN that has been sent and is not acknowledged. -/
def Qp.oldest (q : Qp) : Nat :=
  match q.sent, q.reads with
  | [], [] => q.nextPsn
  | [], r :: _ => r.expects q
  | e :: _, [] => e.psn
  | e :: _, r :: _ => if psnLe e.psn (r.expects q) then e.psn else r.expects q

/-- UNA_PSN advances: the retry counts are reloaded, and the ACK timer begins again (R113). -/
def State.progress (s : State) (qi : Nat) : State :=
  let q := s.qpOf qi
  let o := q.oldest
  if o == q.unaPsn then s
  else s.updQp qi fun q => { q with unaPsn := o, left := q.retryCnt, rnrLeft := q.rnrRetry, lastAck := s.tm.mono }

/-- Everything sent up to a PSN is acknowledged. -/
def State.ackedTo (s : State) (qi psn : Nat) : State :=
  let q := s.qpOf qi
  let n := ((q.sent.filter fun e => psnLe e.psn psn).map fun e => e.n).sum
  ((s.updQp qi fun q => { q with sent := q.sent.filter fun e => !psnLe e.psn psn, inflight := q.inflight - n }).grow qi n).progress qi

/-- Send on what the queue pair has waiting. -/
def State.rcPump (s : State) (qi : Nat) : State := (s.rcDrain qi rcFuel).rcFetch qi rcFuel

/-- Put a packet among others in PSN order from `base`. -/
def insertPsn (base : Nat) (x : Nat × RcOut) : List (Nat × RcOut) → List (Nat × RcOut)
  | [] => [x]
  | y :: t =>
    if (x.1 + 2 ^ 24 - base) % 2 ^ 24 ≤ (y.1 + 2 ^ 24 - base) % 2 ^ 24 then x :: y :: t else y :: insertPsn base x t

/-- The RDMA READ request for the rest of a read, from the response that it expects next. -/
def State.readRest (s : State) (q : Qp) (r : ReadEnt) : Option (Nat × RcOut) :=
  (s.cmdOf r.cmd).map fun c => (r.expects q, .readReq (r.expects q) (c.sqe.addr + r.off + r.got) c.sqe.key (r.len - r.got))

/-- Go back: send again everything from a PSN on (R113), each counted in RETRANSMIT. -/
def State.goBack (s : State) (qi psn : Nat) : State :=
  let q := s.qpOf qi
  let packets := (q.sent.filter fun e => psnLe psn e.psn).map fun e => (e.psn, e.pkt)
  let reads := (q.reads.filter fun r => psnLe psn (r.expects q)).filterMap fun r => s.readRest q r
  (reads.foldr (insertPsn psn) packets).foldl (fun (s : State) x =>
    (s.sendRc qi (match x.2 with
      | .response .. => true
      | _ => false) x.2).count Reg.WELL_CNT_RETRANSMIT) s

/-- Retries are exhausted (R113, R122). -/
def State.exhausted (s : State) (qi : Nat) : State := (s.count Reg.WELL_CNT_RETRY_EXHAUSTED).qpFail qi

/-- Accept a read response at the PSN that the oldest read expects. -/
def State.responseIn (s : State) (qi : Nat) (r : ReadEnt) (d : List Byte) : State :=
  let n := min d.length (r.len - r.got)
  let last := decide (r.len ≤ r.got + n)
  let s := s.updQp qi fun q =>
    { q with
      reads := if last then q.reads.drop 1 else { r with got := r.got + n, again := false } :: q.reads.drop 1
      inflight := if last then q.inflight - r.len else q.inflight }
  let s := (s.grow qi n).progress qi
  let s := if last then s.freeCells (holdRdma qi r.psn) else s
  ((s.arrived r.cmd (r.off + r.got) (d.take n)).resumeReads).rcPump qi

/-- Read responses in PSN order (R114): the one expected is accepted; the first ahead of it is discarded and the rest of the read asked
for again; others are late. -/
def State.rcResponse (s : State) (qi : Nat) (p : RcPkt) (d : List Byte) : State :=
  let s := if p.ce then s.shrink qi else s
  let q := s.qpOf qi
  let psn := p.psn.toNat
  match q.reads with
  | [] => s.count Reg.WELL_CNT_LATE_RESPONSE
  | r :: _ =>
    let e := r.expects q
    if psn == e then (s.ackedTo qi (psnPred psn)).responseIn qi r d
    else if psnLe psn e || !(q.reads.any fun x => psnLe x.psn psn && !psnLe (psnAdd x.psn x.packets) psn) || r.again then
      s.count Reg.WELL_CNT_LATE_RESPONSE
    else
      match s.readRest q r with
      | none => s
      | some x => (s.sendRc qi false x.2).updQp qi fun q => { q with reads := { r with again := true } :: q.reads.drop 1 }

/-- Nanoseconds of an RNR timer code (IBTA). -/
def rnrNs (code : Nat) : Nat :=
  10 * us * (match code with
    | 0 => 65536 | 1 => 1 | 2 => 2 | 3 => 3 | 4 => 4 | 5 => 6 | 6 => 8 | 7 => 12 | 8 => 16 | 9 => 24 | 10 => 32
    | 11 => 48 | 12 => 64 | 13 => 96 | 14 => 128 | 15 => 192 | 16 => 256 | 17 => 384 | 18 => 512 | 19 => 768 | 20 => 1024
    | 21 => 1536 | 22 => 2048 | 23 => 3072 | 24 => 4096 | 25 => 6144 | 26 => 8192 | 27 => 12288 | 28 => 16384 | 29 => 24576
    | 30 => 32768 | _ => 49152)

/-- A received NAK (R113, R116). -/
def State.rcNak (s : State) (qi : Nat) (psn code timer : Nat) : State :=
  if code == nakSeq then
    let s := s.ackedTo qi (psnPred psn)
    (s.goBack qi psn).rcPump qi
  else if code == nakRnr then
    let s := s.ackedTo qi (psnPred psn)
    let q := s.qpOf qi
    if q.rnrRetry != 7 && q.rnrLeft == 0 then s.exhausted qi
    else s.updQp qi fun q =>
      { q with rnrWait := true, rnrUntil := s.tm.mono + rnrNs timer, rnrLeft := if q.rnrRetry == 7 then 7 else q.rnrLeft - 1 }
  else s.qpFail qi

/-! ### Receiving -/

/-- Process a packet against its cached context. -/
def State.rcProcess (s : State) (p : RcPkt) : State :=
  let qi := p.qpn.toNat % 65536
  let s := (s.updQp qi fun q => { q with tLast := s.tm.shelf }).touchCtx qi
  let q := s.qpOf qi
  let psn := p.psn.toNat
  let rts := q.st == qpRts
  match p.body with
  | .other _ => if rts then s.nakFail qi nakInvalid else s
  | .send pos d =>
    let s := if p.ce then s.sendCnp qi else s
    (match psnIs q psn with
    | .expected => s.rcSend qi p pos d
    | .duplicate => (s.count Reg.WELL_CNT_DUP_REQ).ackNow qi
    | .ahead => s.outOfSequence qi)
  | .write pos rkey va dmaLen d =>
    let s := if p.ce then s.sendCnp qi else s
    (match psnIs q psn with
    | .expected => s.rcWrite qi p pos rkey va dmaLen d
    | .duplicate => (s.count Reg.WELL_CNT_DUP_REQ).ackNow qi
    | .ahead => s.outOfSequence qi)
  | .readReq rkey va len bad =>
    (match psnIs q psn with
    | .expected => s.rcRead qi psn rkey va len bad
    | .duplicate => (s.count Reg.WELL_CNT_DUP_REQ).rcReadAgain qi psn rkey va len bad
    | .ahead => s.outOfSequence qi)
  | .response _ d => if rts then s.rcResponse qi p d else s.count Reg.WELL_CNT_LATE_RESPONSE
  | .ack => if rts then (s.ackedTo qi psn).rcPump qi else s
  | .nak code timer => if rts then s.rcNak qi psn code timer else s
  | .cnp => if rts then (s.count Reg.WELL_CNT_CNP_RECEIVED).shrink qi else s

/-- Show a port's miss queue. -/
def State.showMissq (s : State) (port : Nat) : State :=
  let n := ((Tab.getD port [] s.rc.missq).map fun e => e.2.cells).sum
  (s.wr (Reg.WELL_MISSQ_STATUS_OCCUPANCY.at port) n).peak (Reg.WELL_MISSQ_STATUS_PEAK.at port) n

/-- Park a packet in cells of MISSQ (R214), and fetch its context (R110).  DESIGN CHOICE, log entry 57: a packet that is dropped at a full
miss queue issues no fetch. -/
def State.park (s : State) (p : RcPkt) (qi : Nat) : State :=
  let port := p.port.val
  let q := Tab.getD port [] s.rc.missq
  if decide (2048 < (q.map fun e => e.2.cells).sum + p.cells) || (s.alloc 5 p.cells).isNone then s.count (Reg.WELL_CNT_MISSQ_DROP.at port)
  else
    let n := s.rc.parked
    let s := { s with rc := { s.rc with missq := Tab.put port (q ++ [(n, p)]) s.rc.missq, parked := n + 1 } }.holdCells (holdParked n) 5 p.cells
    (s.showMissq port).fetchCtx qi

/-- A packet for a queue pair in ERR or QUARANTINE is discarded (R103, R114). -/
def State.errDrop (s : State) (p : RcPkt) : State :=
  let s := s.count Reg.WELL_CNT_ERR_STATE_DROP
  match p.body with
  | .response _ _ => s.count Reg.WELL_CNT_LATE_RESPONSE
  | _ => s

/-- What SECDED finds in the cached context of a packet (R109): a corrected error is counted; with an uncorrectable one a clean context is
fetched again, the packet waiting for it, and a dirty one fails its queue pair. -/
def State.rcCached (s : State) (p : RcPkt) (qi : Nat) : State :=
  match p.ctxEcc with
  | .good => s.rcProcess p
  | .corrected => (s.corrected .well Reg.WELL_CNT_CTX_ECC_CORRECTED 1).rcProcess p
  | .uncorrectable =>
    let dirty := (Tab.find qi s.rc.cache).any (·.dirty)
    let s := s.count Reg.WELL_CNT_CTX_ECC_UNCORRECTED
    if dirty then (s.qpFail qi).errDrop p
    else ({ s with rc := { s.rc with cache := Tab.del qi s.rc.cache } }.showCache).park p qi

/-- The checks of R103, and the context; a queue pair in INIT does not receive yet (Table 4.2). -/
def State.rcContext (s : State) (p : RcPkt) : State :=
  let qi := p.qpn.toNat % 65536
  let q := s.qpOf qi
  if !p.icrcGood then s.count Reg.WELL_CNT_ICRC_DROP
  else if q.st == qpFree || q.gen != p.qpn.toNat / 65536 then s.count Reg.WELL_CNT_UNKNOWN_QP_DROP
  else if q.st == qpErr || q.st == qpQuarantine then s.errDrop p
  else if q.st == qpInit then s
  else if s.ctxCached qi && !s.rc.fetching.contains qi then s.rcCached p qi
  else s.park p qi

/-- A packet arrives: before SERVE it is dropped and counted (R90); a stopped WELL takes none (R72); it wakes the device (R537). -/
def State.rcArrive (s : State) (p : RcPkt) : State :=
  if s.st < stSERVE then s.count (Reg.WELL_CNT_PRE_SERVE_DROP.at p.port.val)
  else if !s.accepting || s.stopped .well then s
  else (s.wake 2).rcContext p

/-- RC_SEND_RECEIVE (R111), and packets of the opcodes that Table 4.1 refuses (R102). -/
def execRcSendReceive (p : RcPkt) (s : State) : Host.Outcome State Fault Refusal :=
  settled (match p.body with
    | .send _ _ | .other _ => s.rcArrive p
    | _ => s)

/-- RC_REGION_WRITE_RECEIVE (R184, R185). -/
def execRcRegionWriteReceive (p : RcPkt) (s : State) : Host.Outcome State Fault Refusal :=
  settled (match p.body with
    | .write _ _ _ _ _ => s.rcArrive p
    | _ => s)

/-- RC_REGION_READ_REQUEST (R184). -/
def execRcRegionReadRequest (p : RcPkt) (s : State) : Host.Outcome State Fault Refusal :=
  settled (match p.body with
    | .readReq _ _ _ _ => s.rcArrive p
    | _ => s)

/-- RC_READ_RESPONSE_RECEIVE (R114). -/
def execRcReadResponseReceive (p : RcPkt) (s : State) : Host.Outcome State Fault Refusal :=
  settled (match p.body with
    | .response _ _ => s.rcArrive p
    | _ => s)

/-- RC_ACK_RECEIVE (R113). -/
def execRcAckReceive (p : RcPkt) (s : State) : Host.Outcome State Fault Refusal :=
  settled (match p.body with
    | .ack => s.rcArrive p
    | _ => s)

/-- RC_NAK_RECEIVE (R116). -/
def execRcNakReceive (p : RcPkt) (s : State) : Host.Outcome State Fault Refusal :=
  settled (match p.body with
    | .nak _ _ => s.rcArrive p
    | _ => s)

/-- CNP_RECEIVE (R121). -/
def execCnpReceive (p : RcPkt) (s : State) : Host.Outcome State Fault Refusal :=
  settled (match p.body with
    | .cnp => s.rcArrive p
    | _ => s)

/-! ### Timers -/

/-- The ACK timeout's effect (R113): LEFT is decremented, and everything from UNA_PSN is sent again; with LEFT 0 the queue pair fails. -/
def State.ackExpired (s : State) (qi : Nat) : State :=
  let q := s.qpOf qi
  if q.st != qpRts || q.rnrWait || (q.sent.isEmpty && q.reads.isEmpty) then s
  else if q.left == 0 then s.exhausted qi
  else (s.updQp qi fun q => { q with left := q.left - 1, lastAck := s.tm.mono }).goBack qi q.unaPsn

/-- The end of an RNR wait (R113). -/
def State.rnrExpired (s : State) (qi : Nat) : State :=
  let q := s.qpOf qi
  if q.st != qpRts || !q.rnrWait then s
  else ((s.updQp qi fun q => { q with rnrWait := false, lastAck := s.tm.mono }).goBack qi q.unaPsn).rcPump qi

/-- A queue pair leaves: its index is FREE, and its context is dropped. -/
def State.freeQp (s : State) (qi : Nat) : State :=
  ({ s with rc := { s.rc with qps := Tab.del qi s.rc.qps, cache := Tab.del qi s.rc.cache } }).showCache.showQps

/-- Do what was due once the context is here. -/
def State.dueNow (s : State) (qi : Nat) (d : Due) : State :=
  match d with
  | .ackTimeout => s.ackExpired qi
  | .rnrEnd => s.rnrExpired qi
  | .quarantine => if (s.qpOf qi).st == qpQuarantine then s.freeQp qi else s
  | .ack => s.ackNow qi

/-- A deadline expires: where the context is evicted it is fetched first (R108). -/
def State.deadline (s : State) (qi : Nat) (d : Due) : State := if s.ctxCached qi then s.dueNow qi d else s.await qi d

/-- ACK_COALESCE_TIMEOUT (R112): ACK_DELAY after the oldest unacknowledged request. -/
def execAckCoalesceTimeout (qp : Fin 65536) (s : State) : Host.Outcome State Fault Refusal :=
  settled (
    let q := s.qpOf qp.val
    if q.unacked == 0 || !([qpRtr, qpRts].contains q.st) then s
    else (s.atLeast (q.unackedSince + s.rd Reg.WELL_RC_TIMERS_ACK_DELAY * 100)).ackNow qp.val)

/-- ACK_TIMEOUT (R113): 4.096 us x 2^TIMEOUT without progress.  DESIGN CHOICE, log entry 57: the timer does not run during an RNR wait. -/
def execAckTimeout (qp : Fin 65536) (s : State) : Host.Outcome State Fault Refusal :=
  settled (
    let q := s.qpOf qp.val
    if q.st != qpRts || q.rnrWait || (q.sent.isEmpty && q.reads.isEmpty) then s
    else (s.atLeast (q.lastAck + 4096 * 2 ^ q.timeout)).deadline qp.val .ackTimeout)

/-- RNR_WAIT_END (R113). -/
def execRnrWaitEnd (qp : Fin 65536) (s : State) : Host.Outcome State Fault Refusal :=
  settled (
    let q := s.qpOf qp.val
    if q.st != qpRts || !q.rnrWait then s else (s.atLeast q.rnrUntil).deadline qp.val .rnrEnd)

/-- QP_QUARANTINE_END (R124). -/
def execQpQuarantineEnd (qp : Fin 65536) (s : State) : Host.Outcome State Fault Refusal :=
  settled (
    let q := s.qpOf qp.val
    if q.st != qpQuarantine then s else (s.atLeast q.quarUntil).deadline qp.val .quarantine)

/-- CONTEXT_FETCH_DONE (R108 to R110): the parked packets are processed in order, then what was due, and outbound work that waited goes on; a
context with an uncorrectable error fails its queue pair. -/
def execContextFetchDone (qp : Fin 65536) (ecc : SpEcc) (s : State) : Host.Outcome State Fault Refusal :=
  settled (
    let qi := qp.val
    if !s.rc.fetching.contains qi then s
    else
      let mine (e : Nat × RcPkt) : Bool := e.2.qpn.toNat % 65536 == qi
      let parked := (List.range 4).flatMap fun n => (Tab.getD n [] s.rc.missq).filter mine
      let due := (s.qpOf qi).due
      let s := { s with rc := { s.rc with
        fetching := s.rc.fetching.filter (· != qi)
        missq := s.rc.missq.map fun (e : Nat × List (Nat × RcPkt)) => (e.1, e.2.filter fun p => !mine p)
        cache := Tab.put qi ⟨s.rc.uses, false⟩ s.rc.cache
        uses := s.rc.uses + 1 } }
      let s := ((List.range 4).foldl (fun (s : State) n => s.showMissq n) s).showCache
      let s := parked.foldl (fun (s : State) e => s.freeCells (holdParked e.1)) s
      let s := if due.isEmpty then s else s.updQp qi fun q => { q with due := [] }
      let s := s.corrected .mem Reg.MEM_CNT_ECC_CORRECTED ecc.corrected
      let s := if ecc.bad then
          ((s.count Reg.MEM_CNT_ECC_UNCORRECTED).raise sevUncorrected .mem Reg.MEM_CNT_ECC_UNCORRECTED.off noInstance).qpFail qi
        else s
      let s := parked.foldl (fun (s : State) e => s.rcContext e.2) s
      (due.foldl (fun (s : State) d => s.dueNow qi d) s).rcPump qi)

/-! ### Connection management (R104 to R106) -/

/-- The pump tile that serves the fewest queue pairs and PRD hosts (R42). -/
def State.leastPump (s : State) : Nat :=
  let load (t : Nat) : Nat := (s.rc.qps.countP fun e => e.2.pump == t && e.2.st != qpFree) +
    s.prd.hosts.countP fun h => h.2.getD 0 0 % 2 == 1 && h.2.getD 1 0 / 65536 % 16 == t
  let tiles := (List.range 16).filter fun t => s.params.pumpMask / 2 ^ t % 2 == 1 && !s.domainFailed (92 + t)
  match tiles with
  | [] => 0
  | t :: ts => ts.foldl (fun b t => if load t < load b then t else b) t

/-- Why a REQ is refused: reject reasons of the transport binding (Invalid QID 3, Invalid HSQSIZE 4, No RDMA resources 6).  DESIGN CHOICE,
log entry 57: where several hold, the reason is the first of these in this order. -/
def State.cmRefusal (s : State) (r : CmReq) : Option Nat :=
  if 128 < r.qid then some 3
  else if (if r.qid == 0 then 31 else 1023) < r.hsqSize then some 4
  else if s.params.rcQpMax ≤ (s.rc.qps.countP fun e => e.2.st != qpFree) then some 6
  else none

/-- Send a connection management message: a datagram on QP1, 330 bytes with its headers (log entry 58). -/
def State.sendCm (s : State) (qi pump port hostQpn : Nat) (m : CmOut) : State :=
  s.queueFrame { len := 330, part := 1, src := pumpPort pump, dests := [port], outs := [.cm qi port hostQpn m] }

/-- A connection management message arrives: before SERVE it is dropped and counted (R90). -/
def State.cmArrive (s : State) (port : Nat) (f : State → State) : State :=
  if s.st < stSERVE then s.count (Reg.WELL_CNT_PRE_SERVE_DROP.at port)
  else if !s.accepting || s.stopped .well then s
  else f (s.wake 2)

/-- CM_REQ (R104, R105): refused, or a queue pair takes the lowest free index under the next generation, in INIT until its REP has been
sent. -/
def execCmReq (r : CmReq) (s : State) : Host.Outcome State Fault Refusal :=
  settled (s.cmArrive r.port.val fun s =>
    let port := ethPort r.port.val r.subPort.toNat
    let refuse (reason : Nat) : State := s.sendCm 0 s.leastPump port r.hostQpn.toNat (.rej reason)
    match s.cmRefusal r, Tab.lowestFree s.rc.qps 0 s.params.rcQpMax with
    | some reason, _ => refuse reason
    | none, none => refuse 6
    | none, some qi =>
      let g := Tab.getD qi 0 s.rc.gens
      let gen := if g == 255 then 1 else g + 1
      let psn := s.freeVal 24
      let q : Qp := { gen := gen, st := qpInit, pmtu := r.pmtu, pump := s.leastPump, port := r.port.val, subPort := r.subPort.toNat
                      qid := r.qid, destQpn := r.hostQpn.toNat, remoteIp := r.remoteIp, localIp := r.localIp, mac := r.mac
                      vlan := r.vlan, sport := r.sport, tclass := r.tclass, hopLimit := r.hopLimit, epsn := r.startPsn.toNat
                      nextPsn := psn, unaPsn := psn, ord := r.hostReads, sqSize := r.hsqSize }
      let s := { s with rc := { s.rc with qps := Tab.put qi q s.rc.qps, gens := Tab.put qi gen s.rc.gens } }
      (s.freeNext.showQps).sendCm qi q.pump port q.destQpn (.rep (gen * 65536 + qi) psn s.irdOf (s.ordOf q)))

/-- A queue pair under connection management is in one of some states. -/
def State.qpIn (s : State) (qi : Nat) (sts : List Nat) : Bool := sts.contains (s.qpOf qi).st

/-- CM_RTU (Table 4.2). -/
def execCmRtu (port : Fin 4) (qp : Fin 65536) (s : State) : Host.Outcome State Fault Refusal :=
  settled (s.cmArrive port.val fun s => if s.qpIn qp.val [qpRtr] then s.toRts qp.val else s)

/-- CM_REJ (Table 4.2). -/
def execCmRej (port : Fin 4) (qp : Fin 65536) (s : State) : Host.Outcome State Fault Refusal :=
  settled (s.cmArrive port.val fun s => if s.qpIn qp.val [qpInit] then s.freeQp qp.val else s)

/-- Send a message to a queue pair's host. -/
def State.sendCmQp (s : State) (qi : Nat) (m : CmOut) : State :=
  let q := s.qpOf qi
  s.sendCm qi q.pump (ethPort q.port q.subPort) q.destQpn m

/-- CM_DREQ (R122): answered with DREP. -/
def execCmDreq (port : Fin 4) (qp : Fin 65536) (s : State) : Host.Outcome State Fault Refusal :=
  settled (s.cmArrive port.val fun s =>
    if s.qpIn qp.val [qpFree] then s
    else ((s.sendCmQp qp.val (.drep (s.qpOf qp.val).destQpn)).updQp qp.val fun q => { q with dreqSeen := true }).qpFail qp.val)

/-- CM_DREP (R104): the controller's own DREQ has its answer. -/
def execCmDrep (port : Fin 4) (qp : Fin 65536) (s : State) : Host.Outcome State Fault Refusal :=
  settled (s.cmArrive port.val fun s => if s.qpIn qp.val [qpFree] then s else s.updQp qp.val fun q => { q with dreqSent := false })

/-- CM_TIMEOUT (Table 4.2). -/
def execCmTimeout (qp : Fin 65536) (s : State) : Host.Outcome State Fault Refusal :=
  settled (if s.qpIn qp.val [qpInit, qpRtr] then s.freeQp qp.val else s)

/-! ### Ends -/

/-- QP_FLUSH_DONE (R123, R124): DREQ where the host has sent none, QUARANTINE; held Connects may complete (R180).  DESIGN CHOICE, log entry
57: the end of QUARANTINE is fixed as it begins; a commit that changes `WELL_RC_CTL.QUARANTINE` does not move it. -/
def execQpFlushDone (qp : Fin 65536) (s : State) : Host.Outcome State Fault Refusal :=
  settled (
    let q := s.qpOf qp.val
    if q.st != qpErr then s
    else
      let s := if q.dreqSeen then s else s.sendCmQp qp.val (.dreq q.destQpn)
      let t := s.tm.mono + s.rd Reg.WELL_RC_CTL_QUARANTINE * (10 * ms)
      (s.updQp qp.val fun q => { q with st := qpQuarantine, quarUntil := t, dreqSent := !q.dreqSeen }).heldConnects)

/-- KEEP_ALIVE_EXPIRY (R122). -/
def execKeepAliveExpiry (assoc : Nat) (s : State) : Host.Outcome State Fault Refusal :=
  settled (
    let k := s.ctlrOf assoc
    if !k.connected || k.kato == 0 || assoc < 64 then s else (s.atLeast (k.kaAt + k.kato)).endAssoc assoc)

/-! ### Inspection (R127) -/

/-- The bytes of a context's READ_LIST entry. -/
def ReadEnt.bytes (r : ReadEnt) : List Byte :=
  leBytes 3 r.psn ++ leBytes 2 r.packets ++ leBytes 3 r.len ++ leBytes 4 r.handle ++ leBytes 4 r.cmd

/-- A context as Table 4.3 lays it out. -/
def State.ctxBytes (s : State) (qi : Nat) (q : Qp) : List Byte :=
  let bit (b : Bool) (n : Nat) : Nat := if b then 2 ^ n else 0
  leBytes 4 (q.gen * 65536 + qi) ++ leBytes 1 q.st ++ leBytes 1 q.pmtu ++ leBytes 1 q.pump ++ leBytes 1 (q.port + 4 * q.subPort) ++
  leBytes 2 q.tenant ++ leBytes 2 q.qid ++ leBytes 4 q.destQpn ++ leBytes 16 q.remoteIp ++ leBytes 16 q.localIp ++
  leBytes 6 q.mac ++ leBytes 2 q.vlan ++ leBytes 2 q.sport ++ leBytes 1 (q.tclass / 4 * 4) ++ leBytes 1 q.hopLimit ++
  leBytes 4 (q.epsn + bit q.seqNakSent 24) ++ leBytes 4 q.msn ++ leBytes 4 q.nextPsn ++ leBytes 4 q.unaPsn ++
  leBytes 1 (q.retryCnt + 8 * q.rnrRetry) ++ leBytes 1 q.timeout ++ leBytes 1 (q.left + 8 * q.rnrLeft) ++
  leBytes 1 (bit q.rnrWait 0 + bit q.regionGrant 1) ++ leBytes 4 q.cwnd ++ leBytes 4 q.inflight ++ leBytes 4 q.acked ++
  leBytes 4 q.tDec ++ leBytes 4 q.tCnp ++ leBytes 1 (s.ordOf q) ++ leBytes 1 s.irdOf ++
  leBytes 1 q.reads.length ++ leBytes 1 q.irdHead ++ leBytes 2 q.sqSize ++ leBytes 2 q.sqhd ++ leBytes 2 q.cmds ++
  leBytes 2 q.cntlid ++ leBytes 4 q.hostIdx ++ leBytes 4 q.assoc ++ leBytes 8 q.tLast ++
  q.reads.flatMap (·.bytes)

def offQpInspect : Nat := 0xC01080

/-- QP_INSPECT (R127): GO takes a snapshot of one context into the VIEW registers. -/
def execQpInspect (value : W32) (s : State) : Host.Outcome State Fault Refusal :=
  settled (
    let s := s.writeWord offQpInspect value
    if s.decodeOf .well != .all || value.toNat / 2 ^ 31 == 0 then s
    else
      let qi := value.toNat % 65536
      let q := s.qpOf qi
      let b := if q.st == qpFree then [] else s.ctxBytes qi q
      let s := (List.range 64).foldl (fun (t : State) k => t.wr (Reg.WELL_QP_VIEW.at k) (leAt b (4 * k) 4)) s
      s.wrB Reg.WELL_QP_INSPECT_STATUS_VALID (q.st != qpFree))

end Sys2Proof.Machine
end

