-- ==== Sys2Proof/Machine/Regions.lean ====
section
/-! DEFINITION. The family of the remote sump region's registers (R182 to R188, Table 6.10), the peer's acknowledgements (R413) and
single-controller write mode (R414). -/

namespace Sys2Proof.Machine

def offRegionAcc : Nat := 0x3004000

/-- RESULT codes of Table 6.10. -/
def rrOk : Nat := 0
def rrInUse : Nat := 1
def rrNoSpace : Nat := 2
def rrBadLen : Nat := 4

/-- The sump's DRAM part in 64 KiB units (R408). -/
def State.spillUnits (s : State) : Nat := s.rd Reg.SUMP_CFG_FLOAT * 1024 - s.params.sumpBanks * 64

/-- The pieces of the DRAM part that regions take, as (position, end) in 64 KiB units. -/
def State.regionsTaken (s : State) : List (Nat × Nat) :=
  (s.sump.regions.filterMap fun e => if e.2.st == rgInvalid then none else some (e.2.off, e.2.off + e.2.len / 65536)) ++
  s.sump.zeroing.map fun z => (z.2.1, z.2.1 + z.2.2 / 65536)

/-- The lowest position at which `n` units lie free. -/
def State.placeRegion (s : State) (n : Nat) : Option Nat :=
  let taken := s.regionsTaken
  let free (a : Nat) : Bool := decide (a + n ≤ s.spillUnits) && taken.all fun t => decide (a + n ≤ t.1 ∨ t.2 ≤ a)
  let at_ := (0 :: taken.map fun t => t.2).filter free
  match at_ with
  | [] => none
  | a :: t => some (t.foldl min a)

/-- Bytes that registered regions hold. -/
def State.regionBytes (s : State) : Nat := (s.regionsTaken.map fun t => (t.2 - t.1) * 65536).sum

/-- Where a region of `n` units may lie (R182): the total within 1 GiB and half the float, and slots free for it. -/
def State.regionRoom (s : State) (n : Nat) : Option Nat :=
  let total := s.regionBytes + n * 65536
  if decide (2 ^ 30 < total) || decide (s.floatUsed * floatUnit / 2 < total) || decide (s.floatSlots < s.slotSum + 16 * n) then none
  else s.placeRegion n

/-- Show a region access's outcome. -/
def State.regionResult (s : State) (i r : Nat) : State :=
  (s.wr Reg.SUMP_REGION_STATUS_RESULT r).wr Reg.SUMP_REGION_STATUS_STATE (s.regionOf i).st

/-- A tenant's queue pairs may use regions (R184). -/
def State.grantTenant (s : State) (t : Nat) : State :=
  { s with rc := { s.rc with qps := s.rc.qps.map fun (e : Nat × Qp) =>
    (e.1, if e.2.tenant == t && e.2.assoc != 0 then { e.2 with regionGrant := true } else e.2) } }

/-- A trigger of `SUMP_REGION_ACC`: the word is written, and where the bit is set, SUMP runs and no access or revocation is under way,
the access is carried out. -/
def State.regionAccess (s : State) (value : W32) (bit : Nat) (f : State → Nat → State) : State :=
  let s := s.writeWord offRegionAcc value
  if s.decodeOf .sump != .all || !s.begins .sump || value.toNat / 2 ^ bit % 2 == 0 || s.is Reg.SUMP_REGION_STATUS_BUSY then s
  else f s (value.toNat % 64)

/-- REGION_REGISTER (R182, R183, Table 6.10). -/
def execRegionRegister (value : W32) (s : State) : Host.Outcome State Fault Refusal :=
  settled (s.regionAccess value 30 fun s i =>
    let r := s.regionOf i
    let n := s.rd Reg.SUMP_REGION_DATA1_LEN
    if r.st != rgInvalid || Tab.has i s.sump.peerRegions then s.regionResult i rrInUse
    else if n == 0 || decide (16384 < n) then s.regionResult i rrBadLen
    else match s.regionRoom n with
      | none => s.regionResult i rrNoSpace
      | some off =>
        let gen := (r.gen + 1) % 256
        let t := s.rd Reg.SUMP_REGION_DATA0_TENANT
        let key := gen + 256 * i + 2 ^ 14 * s.freeVal 18
        let s := s.freeNext.updRegion i fun _ =>
          { st := rgValid, tenant := t, write := s.is Reg.SUMP_REGION_DATA0_REMOTE_WRITE
            read := s.is Reg.SUMP_REGION_DATA0_REMOTE_READ, len := n * 65536, rkey := key, off := off, gen := gen }
        let s := ((s.occupy (16 * n)).wr Reg.SUMP_REGION_DATA2_R_KEY key).wr Reg.SUMP_REGION_DATA3_OFFSET off
        let s := if s.dual then s.toPartner (.mirror { regions := [s.regionRecord i 0 []] }) else s
        ((s.grantTenant t).regionResult i rrOk).tenantEvent (some t) (7, 1))

/-- REGION_DESCRIPTOR_READ (Table 6.10). -/
def execRegionDescriptorRead (value : W32) (s : State) : Host.Outcome State Fault Refusal :=
  settled (s.regionAccess value 31 fun s i =>
    let r := if (s.regionOf i).st == rgInvalid then {} else s.regionOf i
    let s := ((s.wr Reg.SUMP_REGION_DATA0_TENANT r.tenant).wrB Reg.SUMP_REGION_DATA0_REMOTE_WRITE r.write).wrB
      Reg.SUMP_REGION_DATA0_REMOTE_READ r.read
    (((s.wr Reg.SUMP_REGION_DATA1_LEN (r.len / 65536)).wr Reg.SUMP_REGION_DATA2_R_KEY r.rkey).wr
      Reg.SUMP_REGION_DATA3_OFFSET r.off).regionResult i rrOk)

/-- REGION_REVOKE (R186): phase 1. -/
def execRegionRevoke (value : W32) (s : State) : Host.Outcome State Fault Refusal :=
  settled (s.regionAccess value 29 fun s i =>
    if (s.regionOf i).st != rgValid then s.regionResult i rrOk
    else
      let s := s.updRegion i fun r => { r with st := rgRevoking, revokedAt := s.tm.mono }
      ((s.wr Reg.SUMP_REGION_STATUS_BUSY 1).wr Reg.SUMP_REGION_STATUS_DRAIN_TIMEOUT 0).regionResult i rrOk)

/-- Phase 2 of a revocation: INVALID, the completion posted, then the tenant's hosts told. -/
def State.regionEnd (s : State) (i : Nat) : State :=
  let r := s.regionOf i
  let s := if s.dual then s.toPartner (.mirror { regions := [{ index := Fin.ofNat 64 i, gone := true }] }) else s
  let s := s.updRegion i fun _ => { gen := r.gen }
  let s := { s with sump := { s.sump with zeroing := s.sump.zeroing ++ [(i, r.off, r.len)] } }
  let s := (s.wr Reg.SUMP_REGION_STATUS_BUSY 0).regionResult i rrOk
  (s.raise sevInfo .sump offRegionAcc i).tenantEvent (some r.tenant) (7, 1)

/-- REGION_DRAIN_END (R186): no message past the key check is left. -/
def execRegionDrainEnd (index : Fin 64) (s : State) : Host.Outcome State Fault Refusal :=
  settled (
    let r := s.regionOf index.val
    if r.st != rgRevoking || !r.draining.isEmpty then s else s.regionEnd index.val)

/-- REGION_REVOKE_TIMEOUT (R186): the queue pairs that still hold messages enter ERR; the drain has ended. -/
def execRegionRevokeTimeout (index : Fin 64) (s : State) : Host.Outcome State Fault Refusal :=
  settled (
    let r := s.regionOf index.val
    if r.st != rgRevoking || r.draining.isEmpty then s
    else
      let s := s.atLeast (r.revokedAt + s.rd Reg.SUMP_REGION_CFG_REVOKE_TIMEOUT * ms)
      let s := (r.draining.foldl (fun (s : State) q => s.qpFail q) s).wr Reg.SUMP_REGION_STATUS_DRAIN_TIMEOUT 1
      s.updRegion index.val fun r => { r with draining := [] })

/-- REGION_ZEROED (R186): the memory returns to the sump. -/
def execRegionZeroed (index : Fin 64) (s : State) : Host.Outcome State Fault Refusal :=
  settled (match s.sump.zeroing.find? fun z => z.1 == index.val with
    | none => s
    | some z =>
      ({ s with sump := { s.sump with zeroing := s.sump.zeroing.erase z } }).vacate (z.2.2 / 4096))

/-! ### The peer's copies -/

/-- A region write's acknowledgement may go once the peer holds every write of its queue pair (R185). -/
def State.regionMirrored (s : State) (qi n : Nat) : State :=
  let s := s.updQp qi fun q => { q with mirrorPend := q.mirrorPend - n }
  let q := s.qpOf qi
  if q.mirrorPend == 0 && q.ackDue then s.ackNow qi else s

/-- MIRROR_ACK_RECEIVE (R413): the peer holds a write; its host's completion, or a region write's acknowledgement, may be sent. -/
def execMirrorAckReceive (cmd : Nat) (s : State) : Host.Outcome State Fault Refusal :=
  settled (
    if 2 ^ 32 ≤ cmd then
      (if (s.qpOf (cmd - 2 ^ 32)).mirrorPend == 0 then s else s.regionMirrored (cmd - 2 ^ 32) 1)
    else match s.cmdOf cmd with
      | none => s
      | some c =>
        if c.stage != .waitMirror || c.mirrors == 0 then s
        else
          let s := s.updCmd cmd fun c => { c with mirrors := c.mirrors - 1 }
          if c.mirrors == 1 && c.lost.isEmpty then s.writeDone cmd nvOk else s)

/-- Is this controller fenced on some cistern (R381, R414)? -/
def State.fencedSelf (s : State) : Bool := (List.range 48).any fun c => s.is (Reg.SKL_EPOCH_STATUS_FENCED.at c)

/-- Enter single-controller write mode (R414): SINGLE is set, counted, and what waited for the peer is released. -/
def State.enterSingle (s : State) : State :=
  if !s.dual then s
  else
    let s := ((s.wr Reg.SUMP_STATUS_SINGLE 1).putDesc fun d => { d with single := true }).count Reg.SUMP_CNT_SINGLE_ENTRIES
    let waiting := s.rc.qps.filter fun (e : Nat × Qp) => e.2.mirrorPend != 0
    (waiting.foldl (fun (s : State) (e : Nat × Qp) => s.regionMirrored e.1 e.2.mirrorPend) s).releaseMirrored

/-- SINGLE_MODE_ENTRY (R414): the pair's position is secured, and this controller is not fenced itself. -/
def execSingleModeEntry (s : State) : Host.Outcome State Fault Refusal :=
  settled (if !s.sump.secured || s.fencedSelf then s else s.enterSingle)

end Sys2Proof.Machine
end

