-- ==== Sys2Proof/Machine/Prd.lean ====
section
/-! DEFINITION. The family of the Polrov Reliable Datagram transport (chapter 5). -/

namespace Sys2Proof.Machine

def sqeCrc (q : Sqe) : Nat := crc32c (sqeBytes q)

/-! ### Hosts (R133, R134, Table 5.3) -/

/-- Fields of an entry's eight words (Table 5.3). -/
def entEnabled (e : List Nat) : Bool := e.getD 0 0 % 2 == 1
def entGcm (e : List Nat) : Bool := e.getD 0 0 / 2 % 2 == 1
def entAdmin (e : List Nat) : Bool := e.getD 0 0 / 4 % 2 == 1
def entGen (e : List Nat) : Nat := e.getD 0 0 / 65536
def entTenant (e : List Nat) : Nat := e.getD 1 0 % 1024
def entPump (e : List Nat) : Nat := e.getD 1 0 / 65536 % 16
def entMask (e : List Nat) : Nat := e.getD 1 0 / 2 ^ 24 % 16
def entKey (e : List Nat) : Nat := e.getD 2 0 % 8192

/-- ADDR, as the number its sixteen bytes spell in network order. -/
def entAddr (e : List Nat) : Nat := ([3, 4, 5, 6].flatMap fun k => leBytes 4 (e.getD k 0)).foldl (fun a b => a * 256 + b.toNat) 0

/-- Does a source address match ADDR within PREFIX_LEN? -/
def entSource (e : List Nat) (src : Nat) : Bool :=
  let n := 128 - min 128 (e.getD 7 0 % 256)
  src / 2 ^ n == entAddr e / 2 ^ n

/-- A host's entry; one that has never been written, or lies beyond the table, is all 0. -/
def State.prdEntry (s : State) (h : Nat) : List Nat := Tab.getD h [] s.prd.hosts

/-! ### Packets as they come (R129 to R131, Table 5.1) -/

/-- The header's fields, and what follows it but for the trailer. -/
structure PrdHdr where
  type : Nat
  enc : Bool
  admin : Bool
  host : Nat
  gen : Nat
  tid : Nat
  issue : Nat
  msgLen : Nat
  off : Nat
  len : Nat
  iv : List Byte
  body : List Byte
  deriving DecidableEq, Repr

/-- A packet's header and payload. -/
def prdHdr (p : PrdPkt) : PrdHdr :=
  let b := p.bytes
  let len := beAt b 0x20 2
  { type := beAt b 1 1, enc := beAt b 2 1 % 2 == 1, admin := beAt b 2 1 / 16 % 2 == 1, host := beAt b 4 2, gen := beAt b 6 2
    tid := beAt b 8 8, issue := beAt b 0x10 8, msgLen := beAt b 0x18 4, off := beAt b 0x1C 4, len := len, iv := slice b 0x24 12
    body := slice b 48 len }

/-- R130: a checksum that is not 0 agrees, VERSION is 1, PAYLOAD_LEN fits the packet, and without ENC the CRC-32C trailer agrees; a CMD's
payload is a submission entry (DEDUCED, log entry 58). -/
def State.prdFormat (s : State) (p : PrdPkt) : Bool :=
  let h := prdHdr p
  let b := p.bytes
  (p.cksum == 0 || udpSum p.v6 p.src.toNat p.dst.toNat p.sport.toNat s.params.prdPort p.cksum.toNat b == 65535) &&
    decide (48 ≤ b.length) && beAt b 0 1 / 16 == 1 && b.length == 48 + h.len + (if h.enc then 16 else 4) &&
    (h.enc || beAt b (48 + h.len) 4 == crc32c (b.take (48 + h.len))) && (h.type != prdCmd || h.len == 64)

/-- R133, against an entry. -/
def prdFrom (p : PrdPkt) (e : List Nat) : Bool :=
  let h := prdHdr p
  entEnabled e && entGen e == h.gen && entSource e p.src.toNat && entMask e / 2 ^ p.port.val % 2 == 1 && (h.enc || !entGcm e)

/-- The payload in clear; none where the tag fails under the entry's key (R149). -/
def State.prdOpen (s : State) (p : PrdPkt) (e : List Nat) : Option (List Byte) :=
  let h := prdHdr p
  if !h.enc then some h.body
  else if !s.keyLoaded (entKey e) keyAes256 then none
  else
    let keys := aesKeys (nats (s.vaultSlot (entKey e)).key)
    if gcmTag keys (nats h.iv) (nats (p.bytes.take 48)) (nats h.body) == nats (slice p.bytes (48 + h.len) 16) then
      some (bytesOf (gcmCrypt keys (nats h.iv) (nats h.body)))
    else none

/-- A packet's checks, before what its type asks for is done with its payload: before SERVE it is dropped and counted (R90); its format (R130),
its host (R133) by the entry `e`, its tag (R149). -/
def State.prdArrive (s : State) (p : PrdPkt) (type : Nat) (e : List Nat) (f : State → List Byte → State) : State :=
  if !s.params.prdEnable then s
  else if s.st < stSERVE then s.count (Reg.WELL_CNT_PRE_SERVE_DROP.at p.port.val)
  else if !s.accepting || s.stopped .well then s
  else
    let s := s.wake 2
    if !s.prdFormat p then s.count Reg.WELL_CNT_PRD_FORMAT_DROP
    else if !prdFrom p e then s.count Reg.WELL_CNT_UNKNOWN_HOST_DROP
    else
      let s := if (prdHdr p).enc then s.useGcm (entKey e) else s
      match s.prdOpen p e with
      | none => s.count Reg.WELL_CNT_AUTH_FAIL
      | some d => if (prdHdr p).type == type then f s d else s

/-! ### The recent-transaction table (R138 to R143) -/

/-- Show the table's occupancy: entries that have not expired. -/
def State.showTable (s : State) : State :=
  let n := s.prd.ring.countP fun e => decide (s.tm.mono / us < e.2.expiry)
  (s.wr Reg.WELL_PRD_TABLE_OCCUPANCY n).peak Reg.WELL_PRD_TABLE_PEAK n

/-- Positions of the ring. -/
def tableSize : Nat := 8388608

def Recent.is (e : Recent) (h g t : Nat) : Bool := e.host == h && e.gen == g && e.tid == t

/-- A key's bucket (R138): bits [23:0] of the CRC-32C of its 12 bytes, as the header has them (DEDUCED, log entry 58). -/
def recentBucket (h g t : Nat) : Nat := crc32c (beBytes 2 h ++ beBytes 2 g ++ beBytes 8 t) % 2 ^ 24

/-- Walk a chain from a position: it ends at an entry whose EXPIRY has passed, or is not earlier than that of the entry linking to it
(R139). -/
def State.walkChain (s : State) (h g t : Nat) : Nat → Option Nat → Option Nat → Option Recent
  | 0, _, _ => none
  | _, none, _ => none
  | fuel + 1, some pos, before =>
    match Tab.find pos s.prd.ring with
    | none => none
    | some e =>
      if decide (e.expiry ≤ s.tm.mono / us) || before.any (fun b => decide (b ≤ e.expiry)) then none
      else if e.is h g t then some e
      else s.walkChain h g t fuel e.link (some e.expiry)

/-- The entry of a key: by its chain, or one mirrored from the peer (R144). -/
def State.recentOf (s : State) (h g t : Nat) : Option Recent :=
  (s.walkChain h g t tableSize (Tab.find (recentBucket h g t) s.prd.buckets) none).or
    (s.prd.mirrored.find? fun e => e.is h g t && decide (s.tm.mono / us < e.expiry))

/-- May an entry's position be reclaimed (R139)? -/
def State.reclaimable (s : State) (e : Recent) : Bool := e.st != 1 && decide (e.expiry ≤ s.tm.mono / us)

/-- How many positions from `n` on can be reclaimed, in insertion order. -/
def State.reclaimFrom (s : State) (n : Nat) : Nat → Nat
  | 0 => n
  | fuel + 1 =>
    if s.prd.inserted ≤ n then n
    else match Tab.find (n % tableSize) s.prd.ring with
      | none => n
      | some e => if s.reclaimable e then s.reclaimFrom (n + 1) fuel else n

/-- Reclaim positions in insertion order. -/
def State.reclaim (s : State) : State :=
  { s with prd := { s.prd with reclaimed := s.reclaimFrom s.prd.reclaimed (s.prd.inserted - s.prd.reclaimed) } }

/-- Is there no position to insert at? -/
def State.tableFull (s : State) : Bool := decide (tableSize ≤ s.prd.inserted - s.reclaim.prd.reclaimed)

/-- What R140 decides. -/
inductive PrdAnswer where
  | refuse (status : Nat)
  | dup (e : Recent)
  | run
  deriving DecidableEq, Repr

/-- R140, for a key, an issue time, whether the command is idempotent, and its SQE's CRC. -/
def State.prdDecide (s : State) (h g t issue : Nat) (idem : Bool) (crc : Nat) : PrdAnswer :=
  let stale := decide (issue + s.judgedLife < s.tm.shelf)
  if s.tm.shelf + ms < issue then .refuse prdFuture
  else if idem then (if stale then .refuse prdStale else .run)
  else match s.recentOf h g t with
    | some e =>
      if e.crc != crc then .refuse prdTidReused
      else if e.st == 1 then .refuse prdInProgress
      else .dup e
    | none =>
      if stale || decide (issue < s.rd64 Reg.WELL_PRD_START_LO Reg.WELL_PRD_START_HI) then .refuse prdStale
      else if s.tableFull then .refuse prdBusy
      else .run

/-- Insert a key as IN_PROGRESS, at the ring's next position and linked to the last entry of its bucket (R138); the peer is told (R144). -/
def State.recordStart (s : State) (h g t crc : Nat) : State :=
  let s := s.reclaim
  let b := recentBucket h g t
  let pos := s.prd.inserted % tableSize
  let e : Recent := { host := h, gen := g, tid := t, crc := crc, expiry := (s.tm.mono + (s.rd Reg.WELL_PRD_CTL_T_LIFE + 10) * ms) / us
                      link := Tab.find b s.prd.buckets }
  let s := { s with prd := { s.prd with
    ring := Tab.put pos e s.prd.ring, buckets := Tab.put b pos s.prd.buckets, inserted := s.prd.inserted + 1 } }
  ((s.count Reg.WELL_CNT_RECORDED).mirrorRecent e).showTable

/-! ### Commands -/

/-- The host identity that reservations know a PRD host by. -/
def prdHostId (h : Nat) : Nat := 2 ^ 128 + h

/-- A PRD host's controller state is kept from its first command on. -/
def State.prdController (s : State) (h : Nat) : State :=
  s.updCtlr (prdCtlr h) fun k =>
    { k with tenant := entTenant (s.prdEntry h), hostId := prdHostId h, hostIdSet := true, cntlid := prdCtlr h }

/-- The command of a packet. -/
def State.prdCommand (s : State) (p : PrdPkt) (q : Sqe) : Cmd :=
  let h := prdHdr p
  let e := s.prdEntry h.host
  { path := .prd h.host h.gen h.tid, sqe := q, admin := h.admin, tenant := entTenant e, ctlr := prdCtlr h.host, pump := entPump e
    dscp := some p.dscp.toNat, key := some (h.host, h.gen, h.tid), d := s.dataLen q, u := s.payloadMax
    prd := { enc := h.enc, issue := h.issue, msgLen := h.msgLen, ece := p.ce, port := p.port.val, sub := p.sub.val, src := p.src.toNat
             dst := p.dst.toNat, v6 := p.v6, entry := e } }

/-- Does a command's MSG_LEN disagree with the length that its entry implies (R132)?  Without its namespace an entry implies none. -/
def State.lengthBad (s : State) (c : Cmd) : Bool :=
  supported c && (c.admin || (s.nsOf c.sqe.nsid).isSome) && s.inLen c + s.outLen c != c.prd.msgLen

/-- Execute an accepted command: an admin command without ADMIN_ALLOWED, or a length that disagrees, ends it. -/
def State.prdRun (s : State) (c : Cmd) (h : Nat) : State :=
  let s := s.prdController h
  if c.admin && !entAdmin (s.prdEntry h) then s.refuseNew c nvInvalidOpcode
  else if s.lengthBad c then s.refuseNew c nvSglLength
  else s.newCmd c

/-- Answer a command that is not executed (R151). -/
def State.prdRefuse (s : State) (c : Cmd) (st : Nat) : State := s.sendCpl c st false 0 0

/-- The member that owns a command's namespace, where it is another one in SERVE (R144). -/
def State.foreignOwner (s : State) (admin : Bool) (q : Sqe) : Option Nat :=
  match s.nsOf q.nsid with
  | none => none
  | some n => if admin || s.owns n || !s.memberServes n.owner then none else some n.owner

/-- PRD_CMD_RECEIVE (R133, R136, R140, R144). -/
def execPrdCmdReceive (p : PrdPkt) (s : State) : Host.Outcome State Fault Refusal :=
  settled (s.prdArrive p prdCmd (s.prdEntry (prdHdr p).host) fun s d =>
    let q := sqeOf d
    let c := s.prdCommand p q
    let s := s.count Reg.WELL_CNT_CMD_RECEIVED
    let h := prdHdr p
    if s.prdSuspend != 0 then s.prdRefuse c prdTimeLost
    else match s.foreignOwner h.admin q with
      | some m =>
        let s := (s.prdController h.host).count Reg.WELL_CNT_FORWARDED
        (s.numberCmd c).forwardCmd s.host.next c m
      | none =>
        let idem := !nonIdempotent c
        (match s.prdDecide h.host h.gen h.tid h.issue idem (sqeCrc q) with
        | .refuse st => s.prdRefuse c st
        | .dup e => (s.count Reg.WELL_CNT_DUP_HIT).sendCpl c e.prd true e.status e.dw0
        | .run => (if idem then s else s.recordStart h.host h.gen h.tid (sqeCrc q)).prdRun c h.host))

/-! ### Write data (R145, R146) -/

/-- Pulled ranges of a command of which no byte is missing now are complete: their cells are free. -/
def State.endPulls (s : State) (id : Nat) (rs : List Pull) : State :=
  if rs.isEmpty then s
  else (s.updCmd id fun c => { c with prd := { c.prd with asked := c.prd.asked.filter fun r => !rs.contains r } }).freePulls id rs |>.resumeReads

/-- The command that a packet's data is for: one of its key that is receiving data (R131). -/
def State.receiver (s : State) (h : PrdHdr) : Option (Nat × Cmd) :=
  s.host.cmds.find? fun e => e.2.path == .prd h.host h.gen h.tid && !e.2.prd.asked.isEmpty

/-- PRD_WDATA_RECEIVE (R131, R134, R145): judged by the entry as its command was accepted; placed by MSG_OFFSET, bytes already held being
ignored; data of a command that this controller has forwarded goes to the owner.  DESIGN CHOICE, log entry 57: a packet that reaches beyond
the command's data is dropped whole, and counted in LATE_DATA. -/
def execPrdWdataReceive (p : PrdPkt) (s : State) : Host.Outcome State Fault Refusal :=
  let h := prdHdr p
  settled (match s.receiver h with
    | none => s.prdArrive p prdWdata (s.prdEntry h.host) fun s _ => s.count Reg.WELL_CNT_LATE_DATA
    | some (id, c) => s.prdArrive p prdWdata c.prd.entry fun s d =>
      let s := if p.ce then s.updCmd id fun c => { c with prd := { c.prd with ece := true } } else s
      if s.inLen c < h.off + d.length then s.count Reg.WELL_CNT_LATE_DATA
      else
        let buf := (placeBytes c.buf h.off d).1
        let whole := c.prd.asked.filter fun r => (missingParts buf r.off r.len 0x1000).isEmpty
        (s.dataIn id h.off d).endPulls id whole |>.dataReady id)

/-- A command whose data does not come is abandoned: IUs entirely in the sump take effect, the others do not (R146). -/
def State.abandonCmd (s : State) (id : Nat) (c : Cmd) : State :=
  let s := ((s.dropHeld id c).partialWrite id c).dropClaims c
  let s := { s with sump := { s.sump with waiting := s.sump.waiting.filter (· != id) } }
  s.freeNext.finish id (s.freeVal 11) 0 prdAborted

/-- Pull the missing parts of a range again, under the cells that it holds. -/
def State.pullAgain (s : State) (id : Nat) (c : Cmd) (r : Pull) : State :=
  let parts := missingParts c.buf r.off r.len 0x1000
  let s := parts.foldl (fun (s : State) x => s.sendPull c x) (s.count Reg.WELL_CNT_REPULL parts.length)
  s.updCmd id fun c => { c with prd := { c.prd with
    asked := c.prd.asked.map fun x => if x == r then { x with at_ := s.tm.mono, again := x.again + 1 } else x } }

/-- PULL_TIMEOUT (R146): the missing parts of the ranges whose time is up are pulled again; with a range's retries exhausted the command is
abandoned, at the owner where it has been forwarded. -/
def execPullTimeout (id : Nat) (s : State) : Host.Outcome State Fault Refusal :=
  settled (match s.cmdOf id with
    | none => s
    | some c => match c.prd.asked with
      | [] => s
      | a :: rest =>
        let life := s.rd Reg.WELL_PRD_PULL_TIMEOUT * us
        let s := s.atLeast (rest.foldl (fun m r => min m r.at_) a.at_ + life)
        let due := c.prd.asked.filter fun r => decide (r.at_ + life ≤ s.tm.mono)
        if due.any fun r => decide (s.rd Reg.WELL_PRD_PULL_RETRIES ≤ r.again) then
          (if c.stage == .remote then
            (s.updCmd id fun c => { c with prd := { c.prd with asked := [], queued := [] } }).freePulls id c.prd.asked |>.toPeer
              (s.nsOr c.sqe.nsid).owner (.forward (.abandon id))
          else s.abandonCmd id c)
        else due.foldl (fun (s : State) r => s.pullAgain id c r) s)

/-- PRD_ADMIT_DEADLINE (R142): a recorded command that QOS has not admitted is not executed. -/
def execPrdAdmitDeadline (id : Nat) (s : State) : Host.Outcome State Fault Refusal :=
  settled (match s.cmdOf id with
    | none => s
    | some c =>
      if c.key.isNone || c.stage != .held || !nonIdempotent c then s
      else
        (s.atShelf (c.prd.issue + s.judgedLife)).refuseLate id c)

/-- PRD_ENTRY_EXPIRY (R139). -/
def execPrdEntryExpiry (host : BitVec 14) (gen : BitVec 16) (tid : BitVec 64) (s : State) : Host.Outcome State Fault Refusal :=
  settled (match s.recentOf host.toNat gen.toNat tid.toNat with
    | none => s
    | some e => (s.atLeast (e.expiry * us)).reclaim.showTable)

/-- T_LIFE_RAISE_SETTLED (R143). -/
def execTLifeRaiseSettled (s : State) : Host.Outcome State Fault Refusal :=
  settled (match s.prd.oldLife with
    | none => s
    | some o =>
      let s := s.atLeast o.2
      { s with prd := { s.prd with oldLife := none } })

/-- PRD_STEP_HOLD_END (R136). -/
def execPrdStepHoldEnd (s : State) : Host.Outcome State Fault Refusal :=
  settled (match s.prd.stepHold with
    | none => s
    | some t =>
      let s := s.atLeast t
      ({ s with prd := { s.prd with stepHold := none } }).showPrd)

/-- PRD_PROBE (R130, Table 5.2): the alarm is on while COORD is 0 (R333). -/
def execPrdProbe (p : PrdPkt) (s : State) : Host.Outcome State Fault Refusal :=
  settled (s.prdArrive p prdProbe (s.prdEntry (prdHdr p).host) fun s _ =>
    let alarm := if s.is Reg.TIME_STATUS_COORD then 0 else 1
    let c := s.prdCommand p { opcode := 0 }
    s.sendPrd c prdProbeReply 0 false 0 0 c.prdPort (beBytes 8 s.tm.shelf ++ beBytes 1 alarm ++ zeros 7))

/-! ### The host table's registers (R134, R156) -/

def offPrdHostAcc : Nat := 0xC02040

/-- A trigger of `WELL_PRD_HOST_ACC`. -/
def State.hostAccess (s : State) (value : W32) (bit : Nat) (write : Bool) : State :=
  let s := s.writeWord offPrdHostAcc value
  if s.decodeOf .well != .all || !s.begins .well || value.toNat / 2 ^ bit % 2 == 0 || s.is Reg.WELL_PRD_HOST_STATUS_BUSY then s
  else
    let data := (List.range 8).map fun k => s.rd (Reg.WELL_PRD_HOST_DATA.at k)
    ({ s with prd := { s.prd with access := some (value.toNat % 16384, if write then some data else none) } }).wr
      Reg.WELL_PRD_HOST_STATUS_BUSY 1

/-- PRD_HOST_WRITE (R134). -/
def execPrdHostWrite (value : W32) (s : State) : Host.Outcome State Fault Refusal := settled (s.hostAccess value 30 true)

/-- PRD_HOST_READ (R156). -/
def execPrdHostRead (value : W32) (s : State) : Host.Outcome State Fault Refusal := settled (s.hostAccess value 31 false)

/-- An entry as written: GEN advances, PUMP is the controller's (R42), reserved bits stay 0. -/
def State.newEntry (s : State) (h : Nat) (d : List Nat) : List Nat :=
  let e := s.prdEntry h
  let gen := if entGen e == 65535 then 1 else entGen e + 1
  let w0 := d.getD 0 0
  let w1 := d.getD 1 0
  let pump := if entEnabled e then entPump e else if w0 % 2 == 1 then s.leastPump else 0
  [w0 % 8 + 65536 * gen, w1 % 1024 + 65536 * pump + 2 ^ 24 * (w1 / 2 ^ 24 % 16), d.getD 2 0 % 8192, d.getD 3 0, d.getD 4 0, d.getD 5 0,
   d.getD 6 0, d.getD 7 0 % 256]

/-- PRD_HOST_ACCESS_DONE (R134): BUSY clears; a write takes effect. -/
def execPrdHostAccessDone (s : State) : Host.Outcome State Fault Refusal :=
  settled (match s.prd.access with
    | none => s
    | some (h, w) =>
      let s := ({ s with prd := { s.prd with access := none } }).wr Reg.WELL_PRD_HOST_STATUS_BUSY 0
      match w with
      | some d =>
        { s with prd := { s.prd with hosts := Tab.put h (s.newEntry h d) s.prd.hosts } }.showHosts
      | none => (List.range 8).foldl (fun (t : State) k => t.wr (Reg.WELL_PRD_HOST_DATA.at k) (s.prdWord h k)) s)

end Sys2Proof.Machine
end

