-- ==== Sys2Proof/Machine/PodBase.lean ====
section
/-! DEFINITION. What the pod's families share: members and who is heard (R459 to R463, R475), fencing (R476) and taking over (R477). -/

namespace Sys2Proof.Machine

/-! ### Members (Table 17.9) -/

/-- STATE codes of `POD_MEMBERm`. -/
def pmUnknown : Nat := 0
def pmJoining : Nat := 1
def pmServe : Nat := 2
def pmIsolated : Nat := 3
def pmFailed : Nat := 4

/-- Set or clear a member's bit of a map. -/
def State.wrMember (s : State) (f : Field) (m : Nat) (b : Bool) : State :=
  let w := s.rd f
  let was := w / 2 ^ m % 2 == 1
  if b == was then s else s.wr f (if b then w + 2 ^ m else w - 2 ^ m)

/-- A member's state. -/
def State.setMember (s : State) (m st : Nat) : State :=
  (s.wr (Reg.POD_MEMBER_STATE.at m) st).wrMember Reg.POD_STATUS_SERVE_SET m (st == pmServe)

/-- A frame of a member has arrived (R475, R476): it is reachable, and side 1 does not fence a partner that it hears. -/
def State.heardFrom (s : State) (m : Nat) : State :=
  let s := { s with pod := { s.pod with
    heard := Tab.upd m {} (fun h => { h with at_ := s.tm.mono }) s.pod.heard
    fenceAt := if s.partner == some m then none else s.pod.fenceAt } }
  s.wrMember Reg.POD_STATUS_REACHABLE m true

/-- Show how a member is reached: hops on the shorter way, and its link. -/
def State.showHops (s : State) (m : Nat) : State :=
  let h := Tab.getD m {} s.pod.heard
  let hops := if h.hopsA == 0 then h.hopsB else if h.hopsB == 0 then h.hopsA else min h.hopsA h.hopsB
  let link := if hops == 0 then 0 else (if h.hopsA == hops then 1 else 0) + (if h.hopsB == hops then 2 else 0)
  (s.wr (Reg.POD_MEMBER_HOPS.at m) hops).wr (Reg.POD_MEMBER_LINK.at m) link

/-- SHA-384 over the live set (R459, R464): fields by bit address, each with its value. -/
def State.liveHash (s : State) : BitVec 384 :=
  sha384 (s.liveSet.flatMap fun e => leBytes 4 e.1 ++ leBytes 4 e.2.toNat)

/-! ### Fencing (R476) -/

/-- Fence the partner on every cistern in service. -/
def State.beginFence (s : State) : State :=
  let cs := s.served
  let s := { s with
    pod := { s.pod with fenceAt := none, fencing := cs, fenceRound := 0, fenced := cs.isEmpty, takeover := true }
    sump := { s.sump with secured := s.sump.secured || cs.isEmpty } }
  cs.foldl (fun (s : State) c => s.epochSet c (Tab.getD c 0 s.pod.epochs + 1) s.ownBit) s

/-- Commands held for an owner that cannot be reached end (R470). -/
def State.endForwarded (s : State) (m : Nat) : State :=
  (s.host.cmds.filter fun e => e.2.stage == .remote && (s.nsOr e.2.sqe.nsid).owner == m).foldl
    (fun (s : State) e => s.finish e.1 nvTransition) s

/-- A member is declared failed (R475): what was forwarded to it or by it ends; a partner's place is taken, side 0 fencing at once and
side 1 after FENCE_DELAY (R476). -/
def State.memberFailed (s : State) (m : Nat) : State :=
  if !s.memberServes m then s.wrMember Reg.POD_STATUS_REACHABLE m false
  else
    let s := (s.setMember m pmFailed).wrMember Reg.POD_STATUS_REACHABLE m false
    let s := (s.endForwarded m).loseCmds fun c => match c.path with
      | .forwarded k _ => k == m
      | _ => false
    if s.partner != some m || !s.serving then s
    else
      let s := (((s.releaseMoving fun _ => true).count Reg.POD_CNT_FAILOVERS).raise sevUncorrected .pod 0x3820100 m).leaveDual
      let s := { s with tm := { s.tm with intentPeer := none }, sump := { s.sump with copyback := false }, ftl := { s.ftl with asking := [] } }
      if s.side == 0 then s.beginFence
      else { s with pod := { s.pod with fenceAt := some (s.tm.mono + s.rd Reg.POD_CFG_FENCE_DELAY * ms) } }

/-! ### Taking over (R477) -/

/-- Namespaces that the partner owns. -/
def State.partnerNs (s : State) : List Nat :=
  match s.partner with
  | none => []
  | some p => (s.ns.filter fun e => e.2.owner == p).map fun e => e.1

/-- Take a namespace's ownership. -/
def State.takeNs (s : State) (nsid : Nat) : State :=
  (s.putNs nsid { s.nsOr nsid with owner := s.selfIndex }).journal (.owner nsid s.selfIndex s.ftl.placeSeq)

/-- Adopt the mirror's versions into this sump, after its own in arrival order; until they are placed, their namespaces are reported
changing (R173). -/
def State.adoptVersions (s : State) : State :=
  let base := s.ftl.order
  let vs := s.sump.peerVersions.map fun (v : Version) => { v with order := base + v.order, seq := 0, since := s.tm.mono }
  let top := vs.foldl (fun m v => max m v.order) base
  let s := { s with
    ftl := { s.ftl with versions := s.ftl.versions ++ vs, order := top + 1 }
    pod := { s.pod with adopting := vs.foldl (fun t (v : Version) => Tab.put v.nsid top t) s.pod.adopting } }
  s.occupy s.sump.peerSlots

/-- Resynchronise tanks (R312): those OPEN are closed short; versions that are not placed are placed again. -/
def State.resyncTanks (s : State) (p : Tank → Bool) : State :=
  (s.ftl.tanks.filter fun e => p e.2 && e.2.st == tkOpen).foldl (fun (s : State) e => s.closeShort e.1) s

/-- The partner's regions become VALID under a new key generation (R188). -/
def State.adoptRegions (s : State) : State :=
  s.sump.peerRegions.foldl (fun (s : State) (e : Nat × Region) =>
    let gen := (e.2.gen + 1) % 256
    let key := gen + 256 * e.1 + 2 ^ 14 * s.freeVal 18
    let off := (s.placeRegion (e.2.len / 65536)).getD 0
    let s := s.freeNext.updRegion e.1 fun _ => { e.2 with st := rgValid, gen := gen, rkey := key, off := off, draining := [] }
    ((s.occupy (e.2.len / 4096)).grantTenant e.2.tenant).tenantEvent (some e.2.tenant) (7, 1)) s

/-- The partner's recent transactions: those under way become DONE with status ABORTED (R144). -/
def State.adoptRecents (s : State) : State :=
  let st := s.freeVal 11
  { s.freeNext with prd := { s.prd with mirrored := s.prd.mirrored.map fun (e : Recent) =>
      if e.st == 1 then { e with st := 2, prd := prdAborted, status := st } else e } }

/-- Steps 2 to 6 of R477. -/
def State.takeOver (s : State) : State :=
  let nss := s.partnerNs
  let s := { s with ftl := { s.ftl with placeSeq := max s.ftl.placeSeq s.sump.peerSeq } }
  let s := nss.foldl (fun (s : State) n => s.takeNs n) s
  let s := nss.foldl (fun (s : State) _ => s.anaChange) s
  let s := (s.adoptVersions.resyncTanks fun t => !t.mine)
  let s := { s with ftl := { s.ftl with tanks := s.ftl.tanks.map fun (e : Nat × Tank) => (e.1, { e.2 with mine := true }) } }
  let s := s.adoptRegions.adoptRecents
  let s := { s with
    pod := { s.pod with takeover := false }
    ftl := { s.ftl with lost := s.sump.peerLost.foldl (fun l e => insertLost e l) s.ftl.lost }
    sump := { s.sump with peerVersions := [], peerSlots := 0, peerRegions := [], peerSeq := 0, peerStale := false, peerLost := [] } }
  let s := (s.wr Reg.SUMP_STATUS_MIRROR_STALE 0).showLost
  ((nss.filter fun n => !Tab.has n s.pod.adopting).foldl (fun (s : State) n => s.anaNotice n) s).assignAll

/-- Has the partner failed and been fenced, its place not yet taken? -/
def State.mayTakeOver (s : State) : Bool := s.serving && s.pod.fenced && s.pod.takeover && !s.partnerServes

/-- FAILOVER_FENCED (R477); behind a STALE mirror only single-controller write mode is entered (R415). -/
def execFailoverFenced (s : State) : Host.Outcome State Fault Refusal :=
  settled (if !s.mayTakeOver then s
    else
      let s := s.enterSingle
      if s.sump.peerStale then s else s.takeOver)

/-- FORCE_TAKEOVER (R415): with KEY, the peer's place is taken behind its STALE mirror, with the persistent internal error event; the
write is audited (R449). -/
def execForceTakeover (value : W32) (s : State) : Host.Outcome State Fault Refusal :=
  settled (
    let t := s.writeWord offSumpCtl value
    if s.decodeOf .sump != .all || value.toNat / 2 % 2 == 0 || value.toNat / 65536 != 0x9648 then t
    else if s.auditFull then t.setErr .cry 9
    else
      let ok := t.mayTakeOver && t.sump.peerStale
      (if ok then t.takeOver.tenantEvent none (0, 3) else t).audited offSumpCtl value !ok)

/-- FENCE_DELAY_EXPIRY (R476): side 1 has not heard the partner. -/
def execFenceDelayExpiry (s : State) : Host.Outcome State Fault Refusal :=
  settled (match s.pod.fenceAt with
    | none => s
    | some t => (s.atLeast t).beginFence)

end Sys2Proof.Machine
end

