-- ==== Sys2Proof/Machine/PodLink.lean ====
section
/-! DEFINITION. The family of Brontanto links, HELLO, joining and members' failures (R455 to R463, R475). -/

namespace Sys2Proof.Machine

/-! ### Links (R455, R456) -/

/-- The register block of a peer link. -/
def plBlock (k : Nat) : Block := if k == 0 then .pla else .plb

/-- Peer links that PEER_MODE enables (R90). -/
def State.plEnabled (s : State) (k : Nat) : Bool := decide (k < s.params.peerMode)

/-- The member table's entry at the far end of a link agrees with PARAM (R455, R64). -/
def State.paramGood (s : State) (k : Nat) (t : PeerTrained) : Bool :=
  match s.selfEntry, s.params.members[t.member.val]? with
  | some (_, me), some far =>
    far.1 == t.serial && (if k == 0 then me.2.2.2.1 else me.2.2.2.2) != 0xFF &&
      (if k == 0 then me.2.2.2.1 else me.2.2.2.2) % 8 == t.member.val
  | _, _ => false

/-- Show a link's width: x8, or x4 under LANE_REPAIR with DEGRADED and an event (R455). -/
def State.showLanes (s : State) (k lanes : Nat) : State :=
  let full := decide (8 ≤ lanes)
  let was := s.is (Reg.PL_LINK_DEGRADED.at k)
  let s := (s.wr (Reg.PL_LINK_WIDTH.at k) (if full then 2 else 1)).wrB (Reg.PL_LINK_DEGRADED.at k) !full
  if full || was then s else s.raise sevUncorrected (plBlock k) (Reg.PL_LINK_STATE.at k).off 1

/-- Can a link run on its working lanes (R455)? -/
def State.lanesGood (s : State) (k lanes : Nat) : Bool :=
  decide (8 ≤ lanes) || (decide (4 ≤ lanes) && s.is (Reg.PL_LINK_CFG_LANE_REPAIR.at k))

/-- A peer link runs: what its neighbour has not acknowledged is sent again, and its queues resume (R456, R229). -/
def State.plRuns (s : State) (k : Nat) : State :=
  (((s.wr (Reg.PL_LINK_STATE.at k) lkActive).resendPod k).portBack (52 + k)).startPort (52 + k)

/-- PEER_LINK_TRAINED (R455): ACTIVE at x8, or at x4 under LANE_REPAIR; a neighbour that the member table does not give leaves the link
down.  Frames that were not acknowledged before a loss of the link are numbered anew. -/
def execPeerLinkTrained (link : Fin 2) (t : PeerTrained) (s : State) : Host.Outcome State Fault Refusal :=
  settled (
    let k := link.val
    if !s.plEnabled k || s.domainFailed (140 + k) || s.st < stPRIME || stISOLATED < s.st || s.stopped (plBlock k) || lkActive ≤ s.plk k then s
    else if !s.lanesGood k t.lanes || !s.paramGood k t then s
    else
      let s := (s.wr (Reg.PL_LINK_POL_INV.at k) t.polInv).wrB (Reg.PL_LINK_REVERSED.at k) t.reversed
      let s := (s.wrB (Reg.PL_LINK_DEGRADED.at k) false).showLanes k t.lanes
      let s := (s.wr (Reg.PL_LINK_NEIGHBOUR.at k) t.member.val).wr (Reg.PL_LINK_NEIGHBOUR_VALID.at k) 1
      let s := s.updPl k fun l =>
        { credit := t.credit, txSeq := l.unacked.length, unacked := l.unacked.zipIdx.map fun e => { e.1 with seq := e.2 + 1 } }
      s.plRuns k)

/-- A link goes through RECOVERY (R455): its port has no link meanwhile. -/
def State.plRecover (s : State) (k : Nat) : State :=
  (((s.wr (Reg.PL_LINK_STATE.at k) lkRecovery).count (Reg.PL_CNT_RECOVERIES.at k)).updPl k fun l =>
    { l with recoveryAt := s.tm.mono, resends := 0 }).holdPort (52 + k)

/-- PEER_LINK_RECOVERY_ENTRY (R455). -/
def execPeerLinkRecoveryEntry (link : Fin 2) (s : State) : Host.Outcome State Fault Refusal :=
  settled (if s.plk link.val != lkActive then s else s.plRecover link.val)

/-- PEER_LINK_RECOVERY_DONE (R455): the link runs again, on the lanes that work; with too few of them it stays in RECOVERY. -/
def execPeerLinkRecoveryDone (link : Fin 2) (lanes : Nat) (s : State) : Host.Outcome State Fault Refusal :=
  settled (if s.plk link.val != lkRecovery || !s.lanesGood link.val lanes then s else (s.showLanes link.val lanes).plRuns link.val)

/-- Members are no longer reached over a link. -/
def State.dropHops (s : State) (k : Nat) : State :=
  let s := { s with pod := { s.pod with heard := s.pod.heard.map fun (e : Nat × Heard) =>
    (e.1, if k == 0 then { e.2 with hopsA := 0 } else { e.2 with hopsB := 0 }) } }
  (List.range 8).foldl (fun (s : State) m => s.showHops m) s

/-- PEER_LINK_LOST (R455): beyond RETRAIN_LIMIT in RECOVERY; its queued frames come under the port-down hold (R229). -/
def execPeerLinkLost (link : Fin 2) (s : State) : Host.Outcome State Fault Refusal :=
  settled (
    let k := link.val
    if s.plk k != lkRecovery then s
    else
      let s := s.atLeast ((Tab.getD k {} s.pod.links).recoveryAt + s.rd (Reg.PL_LINK_CFG_RETRAIN_LIMIT.at k) * ms)
      let s := ((s.wr (Reg.PL_LINK_STATE.at k) lkDown).wr (Reg.PL_LINK_WIDTH.at k) 0).wr (Reg.PL_LINK_NEIGHBOUR_VALID.at k) 0
      let s := (s.count (Reg.PL_CNT_LINK_LOSSES.at k)).raise sevUncorrected (plBlock k) (Reg.PL_LINK_STATE.at k).off 0
      (s.dropHops k).portDown (52 + k))

/-- Relay a frame out of the other link (R457), through PEER. -/
def State.relay (s : State) (k : Nat) (p : PodSend) : State :=
  s.queueFrame { len := max 1 (min 65792 p.body.len), bare := p.body.len == 0, part := 4, src := 52 + k, dests := [53 - k]
                 urgent := decide (3 ≤ p.type), pod := some p }

/-- Frame types that are relayed (R457): FORWARD and CONTROL. -/
def relayed (type : Nat) : Bool := type == 2 || type == 3

/-- Deliver or relay a frame received in order (R457). -/
def State.deliver (s : State) (k : Nat) (f : PodFrame) : State :=
  if f.dest == 0xFF || f.dest == s.selfIndex || !relayed f.type then s.heardFrom f.src.val
  else if f.hops ≤ 1 then s.count (Reg.PL_CNT_HOP_EXPIRED.at k)
  else s.relay k { type := f.type, src := f.src.val, dest := f.dest, hops := f.hops - 1, body := .bytes f.payload }

/-- Frames up to an acknowledged one are kept no longer. -/
def State.ackPod (s : State) (k ack : Nat) : State :=
  match (s.linkPl k).unacked.findIdx? fun t => t.seq == ack with
  | none => s
  | some i => s.updPl k fun l => { l with unacked := l.unacked.drop (i + 1), resends := 0 }

/-- The neighbour asks for a resend; after REPLAY_LIMIT resends without progress the link enters RECOVERY (R456). -/
def State.onPodNak (s : State) (k : Nat) : State :=
  if (s.linkPl k).resends < s.rd (Reg.PL_LINK_CFG_REPLAY_LIMIT.at k) then
    ((s.updPl k fun l => { l with resends := l.resends + 1 }).count (Reg.PL_CNT_REPLAYS.at k)).resendPod k
  else s.plRecover k

/-- ACK and CREDIT of a good frame: an ACK frame that acknowledges nothing new and brings no credit asks for a resend (DESIGN CHOICE, log entry
58). -/
def State.takeAck (s : State) (k : Nat) (f : PodFrame) : State :=
  let was := (s.linkPl k).unacked.length
  let s := (s.ackPod k f.ack.toNat).updPl k fun l => { l with credit := l.credit + f.credit.toNat }
  if f.type == 6 && f.credit == 0 && was != 0 && (s.linkPl k).unacked.length == was then s.onPodNak k else s

/-- A frame received in order: acknowledged, with the credit for its payload; a poisoned one is discarded for good. -/
def State.takeFrame (s : State) (k : Nat) (f : PodFrame) : State :=
  let owed := (s.linkPl k).owed + cellsOf f.payload.length
  let give := if owed ≤ s.partRoom 4 then owed else 0
  let s := (s.updPl k fun l => { l with rxSeq := f.seq.toNat, discarding := false, owed := owed - give }).sendAck k give
  if f.poison then s.count (Reg.PL_CNT_POISONED_RX.at k) else s.deliver k f

/-- BRONTANTO_FRAME_RECEIVE (R456, R457): a bad frame is discarded, and every later one until the sender resends it; frames are delivered once
and in order; ACK and CREDIT are taken from every good frame. -/
def execBrontantoFrameReceive (link : Fin 2) (f : PodFrame) (s : State) : Host.Outcome State Fault Refusal :=
  settled (
    let k := link.val
    if s.plk k != lkActive then s
    else
      let s := s.corrected (plBlock k) (Reg.PL_CNT_FEC_CORRECTED.at k) f.fecCorrected k
      if !f.crcGood then ((s.count (Reg.PL_CNT_CRC_ERR.at k)).updPl k fun l => { l with discarding := true }).sendAck k 0
      else
        let s := (s.takeAck k f).startPort (52 + k)
        if f.type == 6 then s.heardFrom f.src.val
        else if f.seq.toNat == ((s.linkPl k).rxSeq + 1) % 2 ^ 32 then s.takeFrame k f
        else if (s.linkPl k).discarding then s
        else s.sendAck k 0)

/-! ### HELLO (R459, R460) -/

/-- This member's state as HELLO gives it. -/
def State.helloState (s : State) : Nat :=
  if s.serving then pmServe else if s.st == stPOD then pmJoining else if s.st == stISOLATED then pmIsolated else pmFailed

/-- The HELLO that this member sends. -/
def State.hello (s : State) : Hello :=
  let b := s.img.booted.getD {}
  { podId := b.params.podId, serial := s.img.fuses.serial, member := Fin.ofNat 8 s.selfIndex, state := s.helloState
    digest := b.digest, epoch := b.epoch, romVersion := s.img.fuses.romVersion, stepping := 0xB0, liveEpoch := s.liveEpoch
    liveHash := s.liveHash, winCrc := s.winCrc }

/-- HELLO_SEND (R459): every HEARTBEAT, to each neighbour. -/
def execHelloSend (s : State) : Host.Outcome State Fault Refusal :=
  settled (if !s.params.podSection || s.st < stPOD || stISOLATED < s.st || !s.begins .pod then s
    else
      let s := s.atLeast (s.pod.helloAt + s.rd Reg.POD_CFG_HEARTBEAT * (10 * us))
      let s := { s with pod := { s.pod with helloAt := s.tm.mono } }
      ((List.range 2).filter fun k => s.plk k == lkActive).foldl (fun (s : State) k =>
        s.toLink (52 + k) (s.rd (Reg.PL_LINK_NEIGHBOUR.at k)) (.hello s.hello)) s)

/-- The first mismatch of R460 that refuses a member, as a fail cause. -/
def State.helloMismatch (s : State) (h : Hello) : Option Nat :=
  let b := s.img.booted.getD {}
  let known := match s.params.members[h.member.val]? with
    | some m => m.1 == h.serial
    | none => false
  if h.podId != s.params.podId || !known then some fcNotMember
  else if h.digest != b.digest || h.epoch != b.epoch then some fcConfig
  else if h.romVersion < b.ucodeMin || b.ucodeMax < h.romVersion || !b.steppings.contains h.stepping then some fcVersion
  else none

/-- Refuse a member (R460): a joining controller isolates itself, a serving one the other; an ISOLATED one answers the refusal alone (R78). -/
def State.refuseMember (s : State) (h : Hello) (cause : Nat) : State :=
  if s.st == stPOD && h.state == pmServe then
    ((s.toPeer h.member.val (.joinRefuse cause)).count Reg.POD_CNT_JOIN_REFUSED).enterState stISOLATED cause
  else if s.serving then
    ((s.toPeer h.member.val (.joinRefuse cause)).count Reg.POD_CNT_JOIN_REFUSED).setMember h.member.val pmIsolated
  else if s.st == stISOLATED then (s.toPeer h.member.val (.joinRefuse cause)).count Reg.POD_CNT_JOIN_REFUSED
  else s

/-- Members in SERVE whose live set has a hash, this one included (R463). -/
def State.groupOf (s : State) (hash : BitVec 384) : List Nat :=
  (if s.liveHash == hash then [s.selfIndex] else []) ++
  (s.pod.heard.filterMap fun e => if s.memberServes e.1 && e.2.hello.any (fun h => h.liveHash == hash) then some e.1 else none)

/-- Is a member's live set to be adopted (R463)? -/
def State.liveBehind (s : State) (epoch : Nat) (hash : BitVec 384) : Bool :=
  if epoch != s.liveEpoch then decide (s.liveEpoch < epoch)
  else if hash == s.liveHash then false
  else (s.groupOf hash).any fun m => (s.groupOf s.liveHash).all fun k => decide (m < k)

/-- The partner has come into SERVE: the sump is copied back to it first (R415, R478), or side 0 settles the epochs of the pair (R474). -/
def State.partnerUp (s : State) : State :=
  if !s.serving then s
  else if s.is Reg.SUMP_STATUS_SINGLE then { s with sump := { s.sump with copyback := true, secured := false } }
  else if s.side == 0 then s.served.foldl (fun (s : State) c => s.settleEpoch c) s
  else s

/-- Give the partner that joins, under the pair key agreed with it, every namespace key and the destroyed fingerprints (R437, R461). -/
def State.giveKeys (s : State) (m : Nat) : State :=
  let s := { s with pod := { s.pod with pairKey := true } }
  s.cry.vault.foldl (fun (s : State) (e : Nat × VaultSlot) =>
    if e.2.state == slotLoaded && e.2.type == keyXts256 then s.toPeer m (.keyCopy e.1 e.2.type e.2.key s.cry.destroyed) else s) s

/-- A member that passes the checks: its state is taken over, and what follows from it; a joining controller asks the lowest member in
SERVE for the live set (R461), and a partner that asks another member for it is given the keys here. -/
def State.takeHello (s : State) (h : Hello) : State :=
  let m := h.member.val
  let was := s.memberServes m
  let s := if was && h.state != pmServe then s.memberFailed m else s
  let joins := s.serving && s.partner == some m && h.state == pmJoining && s.rd (Reg.POD_MEMBER_STATE.at m) != pmJoining
  let asksMe := (List.range 8).all fun k => decide (s.selfIndex ≤ k) || !s.memberServes k
  let s := if h.state != pmServe && was then s else s.setMember m h.state
  let s := if joins && !was && !asksMe then s.giveKeys m else s
  let s := { s with tm := { s.tm with mismatch := s.schedulesDiffer } }
  let s := if s.partner == some m && h.state == pmServe && !was then s.partnerUp else s
  let first := (List.range 8).all fun k => decide (m ≤ k) || !s.memberServes k
  let s := if s.st == stPOD && h.state == pmServe && !s.pod.liveDone && first then s.toPeer m .liveSetReq else s
  let s := if s.serving && h.state == pmServe && s.liveBehind h.liveEpoch h.liveHash then s.toPeer m .liveSetReq else s
  s.showMode

/-- HELLO (R459 to R463): heard over a link from `hops` away; relayed to the other neighbour; checked. -/
def execHello (link : Fin 2) (hops : Fin 8) (h : Hello) (s : State) : Host.Outcome State Fault Refusal :=
  settled (
    let m := h.member.val
    let k := link.val
    if s.plk k != lkActive || s.st < stPOD || stISOLATED < s.st || s.stopped .pod || m == s.selfIndex then s
    else
      let s := if s.plk (1 - k) == lkActive && hops.val < 7 then
          s.relay k { type := 5, src := m, dest := 0xFF, hops := 7 - hops.val, body := .msg (.hello h) }
        else s
      match s.helloMismatch h with
      | some c => s.refuseMember h c
      | none =>
        let s := s.heardFrom m
        let s := { s with pod := { s.pod with heard := Tab.upd m {} (fun e =>
          if k == 0 then { e with hello := some h, hopsA := hops.val } else { e with hello := some h, hopsB := hops.val }) s.pod.heard } }
        if s.podTalks then (s.showHops m).takeHello h else s.showHops m)

/-- JOIN_REFUSE (R460): the joining controller is ISOLATED. -/
def execJoinRefuse (src : Fin 8) (cause : Nat) (s : State) : Host.Outcome State Fault Refusal :=
  settled (
    let s := if s.podTalks then s.heardFrom src.val else s
    if s.st != stPOD then s else (s.count Reg.POD_CNT_JOIN_REFUSED).enterState stISOLATED cause)

/-! ### The live set (R461, R463) -/

/-- LIVE_SET_REQ (R461): answered by a member in SERVE; a partner that joins is given the keys under the pair key (R437). -/
def execLiveSetReq (src : Fin 8) (s : State) : Host.Outcome State Fault Refusal :=
  settled (if !s.serving then s
    else
      let s := (s.heardFrom src.val).toPeer src.val (.liveSet s.liveEpoch s.liveSet)
      if s.partner != some src.val then s else s.giveKeys src.val)

/-- A live set as values for every pod-scoped field: those not listed go back to their reset values. -/
def State.liveValues (s : State) (values : List (Nat × W32)) : List (Nat × W32) :=
  let mine := values.filter fun e => podKey e.1
  (s.regs.active.filterMap fun e => match fieldOfKey e.1 with
    | none => none
    | some f => if podScoped f && !(mine.any fun v => v.1 == e.1) then some (e.1, BitVec.ofNat 32 f.reset) else none) ++ mine

/-- Commit a live set locally (R74). -/
def State.adoptLive (s : State) (epoch : Nat) (values : List (Nat × W32)) : State :=
  let vals := s.liveValues values
  if (s.refusing vals).isEmpty then (s.applyValues vals s.tm.mono).setLiveEpoch epoch else s

/-- LIVE_SET (R461, R463): taken at a join, with which the pair key is agreed; adopted at a reconnection, counted, with an event. -/
def execLiveSet (src : Fin 8) (epoch : Nat) (values : List (Nat × W32)) (s : State) : Host.Outcome State Fault Refusal :=
  settled (
    if !s.podTalks then s
    else
      let s := s.heardFrom src.val
      if s.st == stPOD then
        let s := s.adoptLive epoch values
        { s with pod := { s.pod with liveDone := true, pairKey := s.pod.pairKey || s.partnerServes } }
      else if s.serving && s.liveEpoch ≤ epoch then
        ((s.adoptLive epoch values).count Reg.POD_CNT_LIVE_RESYNC).raise sevInfo .pod Reg.POD_LIVE_EPOCH_LO.off src.val
      else s)

/-! ### Failures (R475) -/

/-- MEMBER_DEAD_TIME (R475): no frame of a member for DEAD_TIME. -/
def execMemberDeadTime (m : Fin 8) (s : State) : Host.Outcome State Fault Refusal :=
  settled (if s.rd Reg.POD_STATUS_REACHABLE / 2 ^ m.val % 2 == 0 || m.val == s.selfIndex then s
    else (s.atLeast ((Tab.getD m.val {} s.pod.heard).at_ + s.rd Reg.POD_CFG_DEAD_TIME * ms)).memberFailed m.val)

/-- LEAVING (R475). -/
def execLeaving (src : Fin 8) (s : State) : Host.Outcome State Fault Refusal := settled (s.memberFailed src.val)

end Sys2Proof.Machine
end

