-- ==== Sys2Proof/Machine/PodLaunch.lean ====
section
/-! DEFINITION. The family of pod launches (R466 to R468); the answer to a PREPARE stands in Commit.lean with the check it shares. -/

namespace Sys2Proof.Machine

def offPodLaunchCtl : Nat := 0x3820120

/-- Causes of `POD_LAUNCH_STATUS` that only a launch's ends give. -/
def plRefused : Nat := 1
def plNoAnswer : Nat := 2
def plTooLate : Nat := 6
def plGoLate : Nat := 7
def plCancelled : Nat := 8

/-- The launch register that a pod launch arms (R468). -/
def Launch.register (l : Launch) : Nat := if l.snapshot then podSnapLaunch else podCommitLaunch

/-- Arm the pod's launch register at T. -/
def State.armPod (s : State) (l : Launch) : State :=
  let k := l.register
  let s := (s.setLaunchTime k l.time).wr (Reg.TIME_LAUNCH_CTL_ACTION.at k) (if l.snapshot then laSnapshot else laCommit)
  ((s.wr (Reg.TIME_LAUNCH_PERIOD.at k) 0).setLaunchState k lsArmed).showLaunch plArmed 0

/-- Every member has agreed: GO is sent, and the launch is armed here (R468). -/
def State.sendGo (s : State) (l : Launch) : State :=
  let s := s.othersServing.foldl (fun (s : State) m => s.toPeer m .go) s
  ({ s with pod := { s.pod with go := true } }).armPod l

/-- PROPOSE (R466): refused while engaged or coordinating, and where T is less than 2 ms away. -/
def State.propose (s : State) : State :=
  let t := s.rd64 Reg.POD_LAUNCH_TIME_LO Reg.POD_LAUNCH_TIME_HI
  let snap := s.is Reg.POD_LAUNCH_CTL_ACTION
  if s.launch.isSome then s.wr Reg.POD_LAUNCH_STATUS_CAUSE plBusy
  else if t < s.tm.shelf + 2 * ms then s.showLaunch plAbandoned plTooLate
  else
    let vals := if snap then [] else s.pendingShadows.filter fun e => podKey e.1
    let l : Launch := { coord := s.selfIndex, time := t, epoch := s.liveEpoch + 1, snapshot := snap, values := vals }
    let ms_ := s.othersServing
    let s := { s with pod := { s.pod with proposal := some l, awaiting := ms_, go := false } }
    let s := ((s.showLaunch plPreparing 0).count Reg.POD_CNT_LAUNCH_PROPOSED).wr Reg.POD_LAUNCH_STATUS_REFUSER_VALID 0
    let s := if snap then s else s.wr Reg.GLB_COMMIT_STATUS_LOCKED 1
    let s := ms_.foldl (fun (s : State) m => s.toPeer m (.prepare t l.epoch snap vals)) s
    if ms_.isEmpty then s.sendGo l else s

/-- Answer the PREPAREs held, the launch being over. -/
def State.answerHeld (s : State) : State :=
  s.pod.heldPrepare.foldl (fun (s : State) l => s.answerPrepare l) { s with pod := { s.pod with heldPrepare := [] } }

/-- The coordinator abandons its launch and answers the PREPAREs it holds. -/
def State.abandonLaunch (s : State) (cause : Nat) : State := (s.abandonOwn cause).answerHeld

/-- A write of `POD_LAUNCH_CTL`: CANCEL before GO, or PROPOSE. -/
def State.writePodLaunch (s : State) (value : W32) : State :=
  let s := s.writeWord offPodLaunchCtl value
  let v := value.toNat
  if s.decodeOf .pod != .all || !s.begins .pod || !s.serving || !s.is Reg.POD_STATUS_MEMBER_VALID then s
  else if v / 2 ^ 31 == 1 then (if s.pod.proposal.isSome && !s.pod.go then s.abandonLaunch plCancelled else s)
  else if v / 2 ^ 30 % 2 == 1 then s.propose
  else s

/-- POD_LAUNCH_PROPOSE (R466). -/
def execPodLaunchPropose (value : W32) (s : State) : Host.Outcome State Fault Refusal := settled (s.writePodLaunch value)

/-- POD_LAUNCH_CANCEL (R468). -/
def execPodLaunchCancel (value : W32) (s : State) : Host.Outcome State Fault Refusal := settled (s.writePodLaunch value)

/-- PREPARE (R467). -/
def execPrepare (src : Fin 8) (time epoch : Nat) (snapshot : Bool) (values : List (Nat × W32)) (s : State) :
    Host.Outcome State Fault Refusal :=
  settled (if !s.serving then s
    else (s.heardFrom src.val).answerPrepare
      { coord := src.val, time := time, epoch := epoch, snapshot := snapshot, values := values })

/-- AGREE (R468): the last one lets GO be sent. -/
def execAgree (src : Fin 8) (s : State) : Host.Outcome State Fault Refusal :=
  settled (match s.pod.proposal with
    | none => s
    | some l =>
      if s.pod.go || !s.pod.awaiting.contains src.val then s
      else
        let left := s.pod.awaiting.filter (· != src.val)
        let s := ({ s with pod := { s.pod with awaiting := left } }).heardFrom src.val
        if left.isEmpty then s.sendGo l else s)

/-- The cause that `POD_LAUNCH_STATUS` shows for a REFUSE. -/
def refuseCause (c : Nat) : Nat := if [plTime, plBusy, plStale, plRejected].contains c then c else plRefused

/-- REFUSE (R468). -/
def execRefuse (src : Fin 8) (cause : Nat) (s : State) : Host.Outcome State Fault Refusal :=
  settled (if s.pod.proposal.isNone || s.pod.go || !s.pod.awaiting.contains src.val then s
    else
      let s := (s.heardFrom src.val).wr Reg.POD_LAUNCH_STATUS_REFUSER src.val
      (s.wr Reg.POD_LAUNCH_STATUS_REFUSER_VALID 1).abandonLaunch (refuseCause cause))

/-- GO (R468): the proposed values are written into the shadows, and the register is armed. -/
def execGo (src : Fin 8) (s : State) : Host.Outcome State Fault Refusal :=
  settled (match s.pod.engaged with
    | none => s
    | some l =>
      if l.coord != src.val || s.pod.go then s
      else
        let s := s.heardFrom src.val
        let s := { s with
          pod := { s.pod with go := true }
          regs := { s.regs with shadow := l.values.foldl (fun (t : Tab W32) (e : Nat × W32) => Tab.put e.1 e.2 t) s.regs.shadow } }
        s.armPod l)

/-- ABANDON (R468): LOCKED clears, and the proposed values are discarded; a PREPARE of the sender that is held goes too. -/
def execAbandon (src : Fin 8) (s : State) : Host.Outcome State Fault Refusal :=
  settled (
    let s := { s with pod := { s.pod with heldPrepare := s.pod.heldPrepare.filter fun l => l.coord != src.val } }
    if s.podTalks && s.pod.engaged.any fun l => l.coord == src.val && !s.pod.go then s.endLaunch plAbandoned 0 else s)

/-- LAUNCH_ANSWER_DEADLINE (R468): an answer is missing at T - 1 ms. -/
def execLaunchAnswerDeadline (s : State) : Host.Outcome State Fault Refusal :=
  settled (match s.pod.proposal with
    | none => s
    | some l => if s.pod.go then s else (s.atShelf (l.time - ms)).abandonLaunch plNoAnswer)

/-- GO_LATE (R468): neither GO nor ABANDON by T - 100 us. -/
def execGoLate (s : State) : Host.Outcome State Fault Refusal :=
  settled (match s.pod.engaged with
    | none => s
    | some l => if s.pod.go then s else (s.atShelf (l.time - 100 * us)).endLaunch plAbandoned plGoLate)

end Sys2Proof.Machine
end

