-- ==== Sys2Proof/Machine/PodShare.lean ====
section
/-! DEFINITION. The family of what a pair and a pod share: forwarded commands, blocks, copies, moves, epochs, keys (R470 to R474, R437). -/

namespace Sys2Proof.Machine

/-! ### Blocks (R471) -/

/-- One block from each member's pool; none where one has fallen below the member float. -/
def State.takeBlocks (s : State) (cls : Nat) : List Nat → Option (List Nat)
  | [] => some []
  | c :: cs =>
    if !s.eligible c then none
    else match s.giveBlock c cls (fun _ => true), s.takeBlocks cls cs with
      | some k, some ks => some (k :: ks)
      | _, _ => none

/-- GRANT_REQ (R471): the allocator grants a tank for the partner, or refuses. -/
def execGrantReq (src : Fin 8) (layout cls : Nat) (cisterns : List Nat) (s : State) : Host.Outcome State Fault Refusal :=
  settled (if !s.serving || !s.allocator || s.partner != some src.val || !distinct cisterns then s
    else
      let s := s.heardFrom src.val
      match s.takeBlocks cls cisterns, Tab.lowestFree s.ftl.tanks 0 (s.rd Reg.FTL_TANK_ENTRIES) with
      | some ks, some t =>
        let s := s.enterTank t layout cls ks false
        let ms_ := (s.tankOf t).members.map fun m => (m.cistern, m.die, m.block)
        (s.toPartner (.grant t layout cls ms_)).count Reg.POD_CNT_BLOCK_GRANTS
      | _, _ => s.toPartner (.grantRefuse layout cls))

/-- GRANT (R471): the tank is entered as this controller's and may be opened; after a refusal the members are chosen again. -/
def execGrant (src : Fin 8) (tank layout cls : Nat) (members : List (Nat × Nat × Nat)) (refused : Bool) (s : State) :
    Host.Outcome State Fault Refusal :=
  settled (if s.partner != some src.val || !s.serving then s
    else if refused then ((s.heardFrom src.val).grantAnswered layout cls).assignAll
    else
      let s := s.heardFrom src.val
      let s := s.enterTank tank layout cls (members.map fun m => blkKey m.1 m.2.1 m.2.2) true
      let k := clsKey cls layout
      let s := { s with ftl := { s.ftl with granted := Tab.put k (Tab.getD k [] s.ftl.granted ++ [tank]) s.ftl.granted } }
      (((s.count Reg.POD_CNT_BLOCK_GRANTS).grantAnswered layout cls).assignAll).askGrant layout cls)

/-! ### Copies and erases (R472) -/

/-- COPY_MAP (R472): the owner applies R37's location test to a partner's copy and journals the change. -/
def execCopyMap (src : Fin 8) (nsid iu source target : Nat) (s : State) : Host.Outcome State Fault Refusal :=
  settled (if !s.podTalks || s.partner != some src.val || !(s.nsOf nsid).any s.owns then s
    else
      let s := s.heardFrom src.val
      if Tab.find (iuKey nsid iu) s.ftl.map == some (.media source) then
        (s.journal (.mapSet nsid iu target true)).setMap nsid iu (some (.media target))
      else s.count Reg.FTL_CNT_COPY_SKIPPED)

/-- RELEASE (R472): answered once no read of this side holds the tank, the map changes being journalled as they come; the answer lets the
tank's writer erase it. -/
def execRelease (src : Fin 8) (tank : Nat) (answer : Bool) (s : State) : Host.Outcome State Fault Refusal :=
  settled (if !s.podTalks || s.partner != some src.val then s
    else
      let s := s.heardFrom src.val
      if answer then
        (if (s.tankOf tank).releaseSent then s.updTank tank fun tk => { tk with released := true } else s)
      else (s.updTank tank fun tk => { tk with releaseAsked := true }).answerRelease tank)

/-! ### Moves (R473) -/

/-- BALANCING_MOVE_START (R473): admission to the namespace stops, its stripes are committed, and once nothing of it is left HANDOVER is sent. -/
def execBalancingMoveStart (nsid : Nat) (s : State) : Host.Outcome State Fault Refusal :=
  settled (match s.partner with
    | none => s
    | some p =>
      if !s.serving || !s.partnerServes || !(s.nsOf nsid).any s.owns then s
      else
        let fresh := !Tab.has nsid s.pod.moving
        let s := { s with pod := { s.pod with moving := Tab.put nsid p s.pod.moving } }
        let s := if fresh then s.anaChange else s
        let s := if s.ftl.versions.any fun v => v.nsid == nsid then s.composeAll.assignAll.padStripes else s
        s.handOver nsid p)

/-- HANDOVER (R473 step 4): this controller owns the namespace; its placement counter is raised and the commands held are released. -/
def execHandover (src : Fin 8) (h : Handover) (s : State) : Host.Outcome State Fault Refusal :=
  settled (match s.nsOf h.nsid with
    | none => s
    | some n =>
      if !s.podTalks || s.partner != some src.val || n.owner != src.val then s
      else
        let s := s.heardFrom src.val
        let s := { s with ftl := { s.ftl with placeSeq := max s.ftl.placeSeq h.seq } }
        let n := { n with owner := s.selfIndex }
        let s := ((s.putNs h.nsid (n.withResv h)).journal (.owner h.nsid s.selfIndex s.ftl.placeSeq)).count Reg.POD_CNT_OWNER_MOVES
        (s.releaseMoving fun k => k == h.nsid).anaNotice h.nsid)

/-! ### Epochs and keys (R474, R437) -/

/-- EPOCH_NOTE (R474). -/
def execEpochNote (src : Fin 8) (cistern : Fin 48) (epoch : Nat) (s : State) : Host.Outcome State Fault Refusal :=
  settled (if !s.podTalks || s.partner != some src.val then s
    else
      let c := cistern.val
      let s := s.heardFrom src.val
      let s := { s with pod := { s.pod with epochs := Tab.put c epoch s.pod.epochs } }
      ((s.wr (Reg.SKL_EPOCH_STATUS_FENCED.at c) 0).reissueRefused c).assignAll)

/-- A key that the peer has destroyed: the copies held here go too (R436 step 6), and its fingerprint is listed. -/
def State.takeDestroyed (s : State) (f : Nat) : State :=
  if s.cry.destroyed.contains f then s
  else
    let held := (s.cry.vault.filter fun e => e.2.state == slotLoaded && e.2.fprint == f).map (·.1)
    if held.isEmpty then s.appendDestroyed f
    else held.foldl (fun (s : State) n => s.destroyHere n actController .peer) s

/-- KEY_COPY (R437, R461): under the pair key; a destroyed fingerprint is taken over first, and its key never loaded (R436). -/
def execKeyCopy (src : Fin 8) (slot type : Nat) (key : List Byte) (destroyed : List Nat) (s : State) : Host.Outcome State Fault Refusal :=
  settled (if !s.podTalks || s.partner != some src.val || !s.pod.pairKey then s
    else
      let s := s.heardFrom src.val
      let s := destroyed.foldl (fun (s : State) f => s.takeDestroyed f) s
      if s.cry.destroyed.contains (s.fingerprint type key) || slot == 0 || 8191 < slot || (s.vaultSlot slot).state != slotEmpty then s
      else s.setSlot slot (s.loaded type key))

def offPodCtl : Nat := 0x3820110

/-- FORCE_OWN (R474): with KEY, the cisterns left to the partner are taken under a higher epoch, and the shelf's namespaces with them. -/
def execForceOwn (value : W32) (s : State) : Host.Outcome State Fault Refusal :=
  settled (
    let s := s.writeWord offPodCtl value
    if s.decodeOf .pod != .all || value.toNat % 2 == 0 || value.toNat / 65536 != 0x9648 || !s.is Reg.POD_STATUS_OWN_NONE then s
    else
      let s := (s.partnerNs).foldl (fun (s : State) n => s.takeNs n) (s.wr Reg.POD_STATUS_OWN_NONE 0)
      (s.served.filter fun c => !Tab.has c s.pod.epochs).foldl (fun (s : State) c =>
        s.epochSet c (s.rd64 (Reg.SKL_EPOCH_LO.at c) (Reg.SKL_EPOCH_HI.at c) + 1) s.ownBit) s)

/-! ### Forwarding (R470, R144) -/

/-- The command of a FORWARD frame, as the owner holds it. -/
def State.forwarded (s : State) (m : Nat) (f : FwdCmd) : Cmd :=
  { path := .forwarded m f.ref, sqe := f.sqe, admin := f.admin, tenant := f.tenant, hostId := f.hostId, pump := s.leastPump
    d := s.dataLen f.sqe, u := f.u, dscp := f.dscp, key := f.prd.map fun k => (k.1, k.2.1, k.2.2.1)
    prd := { issue := (f.prd.map fun k => k.2.2.2).getD 0, msgLen := f.msgLen } }

/-- A forwarded command arrives at the owner, whose QOS meters it (R192); of a PRD command the owner alone applies R140, and it executes none
while it is suspended (R136) or where MSG_LEN disagrees (R132). -/
def State.forwardIn (s : State) (m : Nat) (f : FwdCmd) : State :=
  let c := s.forwarded m f
  let answer (s : State) (status dw0 prd : Nat) (dup : Bool) : State := s.toPeer m (.forward (.done f.ref status dw0 prd dup))
  match f.prd with
  | none => s.newCmd c
  | some (h, g, t, issue) =>
    let idem := !nonIdempotent c
    let crc := sqeCrc f.sqe
    if s.prdSuspend != 0 then answer s 0 0 prdTimeLost false
    else match s.prdDecide h g t issue idem crc with
      | .refuse st => answer s 0 0 st false
      | .dup e => answer (s.count Reg.WELL_CNT_DUP_HIT) e.status e.dw0 e.prd true
      | .run =>
        let s := if idem then s else s.recordStart h g t crc
        if s.lengthBad c then s.refuseNew c nvSglLength else s.newCmd c

/-- A forwarded command's completion comes back: it is sent to the host on the command's own path, an answer that the owner had recorded as
such. -/
def State.forwardOut (s : State) (ref : Nat) (c : Cmd) (status dw0 prd : Nat) (dup : Bool) : State :=
  if c.path.isPrd && dup then
    let s := (s.freePulls ref c.prd.asked).sendCpl c prd true status dw0
    { s with host := { s.host with cmds := Tab.del ref s.host.cmds } }.resumeSolicits
  else s.finish ref status dw0 prd

/-- A command that the member `m` has forwarded under its number `ref`. -/
def State.forwardedBy (s : State) (m ref : Nat) : Option (Nat × Cmd) := s.host.cmds.find? fun e => e.2.path == .forwarded m ref

/-- The host's data of a forwarded command will not come (R146), or its queue is lost (R123): it is abandoned. -/
def State.abandonForwarded (s : State) (id : Nat) (c : Cmd) : State :=
  if [Stage.held, .admitted, .waitSlots, .fetching, .moving].contains c.stage then s.abandonCmd id c
  else s.updCmd id fun c => { c with dead := true }

/-- FORWARD (R470): a command, the owner's request for its write data, write data, that the data will not come, read data, or its
completion. -/
def execForward (src : Fin 8) (m : FwdMsg) (s : State) : Host.Outcome State Fault Refusal :=
  settled (if !s.accepting || !s.memberServes src.val then s
    else
      let s := s.heardFrom src.val
      let mine (ref : Nat) : Option Cmd := (s.cmdOf ref).filter fun c => c.stage == .remote
      match m with
      | .command f => s.forwardIn src.val f
      | .request ref off len => (match mine ref with
        | none => s
        | some c =>
          if c.dead then s
          else
            let c := { c with buf := cutBytes c.buf off len }
            (s.updCmd ref fun _ => c).solicit ref c off len)
      | .data ref off bytes => (match s.forwardedBy src.val ref with
        | none => s
        | some e => s.arrived e.1 off bytes)
      | .abandon ref => (match s.forwardedBy src.val ref with
        | none => s
        | some e => s.abandonForwarded e.1 e.2)
      | .readData ref off bytes => (match mine ref with
        | none => s
        | some _ => s.sendBytes ref off bytes)
      | .done ref status dw0 prd dup => (match mine ref with
        | none => s
        | some c => s.forwardOut ref c status dw0 prd dup))

end Sys2Proof.Machine
end

