-- ==== Sys2Proof/Machine/PcieBase.lean ====
section
/-! DEFINITION. The master engine's reads (R496 to R502), Bus Master Enable, Function Level Reset and PERST_N (R503 to R505), virtual functions
(R493), NVMe over PCIe (R492, R494), LTR (R506). -/

namespace Sys2Proof.Machine

/-! ### Data pointers (Table 18.4; NVMe Base 2.0, PRESUMED, log entry 54) -/

/-- A data pointer's next bytes, or what is wrong with it. -/
inductive PtrNext where
  | whole (segs : List (Nat × Nat))
  | more (segs : List (Nat × Nat)) (w : PtrWalk)
  | bad (status : Nat)
  deriving DecidableEq, Repr

/-- The list of PRP entries at an address for the `left` bytes of data not placed yet: as many as the page holds, the last one naming the next
list where that is not all. -/
def prpList (addr left : Nat) : PtrWalk := ⟨true, addr, 8 * min ((left + 4095) / 4096) ((4096 - addr % 4096) / 8), left, false⟩

/-- What an entry's PRP1 and PRP2 name of `len` bytes. -/
def prpStart (p1 p2 len : Nat) : PtrNext :=
  let n := min len (4096 - p1 % 4096)
  if n == len then .whole [(p1, n)]
  else if len - n ≤ 4096 then .whole [(p1, n), (p2, len - n)]
  else .more [(p1, n)] (prpList p2 (len - n))

/-- A PRP list has come. -/
def prpMore (w : PtrWalk) (d : List Byte) : PtrNext :=
  let es := (List.range (w.n / 8)).map fun i => leAt d (8 * i) 8
  let own := if 4096 * es.length < w.left then es.length - 1 else es.length
  let segs := (es.take own).zipIdx.map fun e => (e.1, min 4096 (w.left - 4096 * e.2))
  if own == es.length then .whole segs else .more segs (prpList (es.getD own 0) (w.left - 4096 * own))

/-- SGL descriptors, of which `last` tells whether the segment is the last one: data blocks up to `left` bytes, or a segment named by the last
descriptor. -/
def sglMore (last : Bool) (left : Nat) (segs : List (Nat × Nat)) : List (List Byte) → PtrNext
  | [] => if left == 0 then .whole segs else .bad nvSglLength
  | d :: t =>
    let a := leAt d 0 8
    let n := leAt d 8 4
    if left == 0 then .whole segs
    else match leAt d 15 1 with
      | 0x00 => sglMore last (left - n) (segs ++ [(a, min n left)]) t
      | 0x20 | 0x30 =>
        if last || !t.isEmpty || n == 0 || n % 16 != 0 then .bad nvSglSegment else .more segs ⟨false, a, n, left, leAt d 15 1 == 0x30⟩
      | _ => .bad nvSglType

/-- A data pointer as its submission entry has it, for `len` bytes: PSDT 0 names PRP entries, else an SGL descriptor. -/
def ptrStart (q : Sqe) (len : Nat) : PtrNext :=
  if len == 0 then .whole []
  else if q.psdt == 0 then prpStart q.addr (q.len + 2 ^ 24 * q.key + 2 ^ 56 * q.sglType) len
  else sglMore false len [] [slice (sqeBytes q) 24 16]

/-- A list has come: `d` is the bytes of the walk's list. -/
def ptrMore (w : PtrWalk) (d : List Byte) : PtrNext :=
  if w.prp then prpMore w d else sglMore w.last w.left [] ((List.range (w.n / 16)).map fun i => slice d (16 * i) 16)

/-- Go on with a command as its data pointer says: fetch its next list, or give the command, its buffer known, to QOS. -/
def State.pointer (s : State) (id : Nat) (x : PtrNext) : State :=
  match s.cmdOf id with
  | none => s
  | some c => match x with
    | .bad st => (s.setStage id .admitted).finish id st
    | .whole segs =>
      let c := { c with segs := c.segs ++ segs, walk := none, buf := [] }
      (s.updCmd id fun _ => c).enterCmd id c
    | .more segs w =>
      let s := s.updCmd id fun c => { c with segs := c.segs ++ segs, walk := some w, buf := [], stage := .pointer }
      (readPieces (s.fnOf c.path.fn).mrrsBytes w.addr w.n (w.n / 64 + 2)).foldl (fun (s : State) p =>
        s.masterRead { fn := c.path.fn, use := .list id, addr := p.1, len := p.2 }) s

/-- Bytes of a list have come; with the last of them it is read. -/
def State.listArrived (s : State) (id addr : Nat) (d : List Byte) : State :=
  match s.cmdOf id with
  | none => s
  | some c => match c.walk with
    | none => s
    | some w =>
      let buf := Tab.put (addr - w.addr) d c.buf
      let s := s.updCmd id fun c => { c with buf := buf }
      match readBuf buf 0 w.n (w.n / 64 + 2) with
      | none => s
      | some l => s.pointer id (ptrMore w l)

/-! ### Reads and their completions -/

/-- A read is over: its cells are free, and its tag returns to the pool. -/
def State.freeRead (s : State) (t : Nat) (r : PcieRead) : State :=
  (({ s with pcie := { s.pcie with tags := Tab.del t s.pcie.tags } }.freeCells (holdPcie t)).showOutstanding r.fn).resumeSolicits

/-- A command whose data, or the lists that name it, cannot be fetched ends, a write as an abandoned write (R499). -/
def State.fetchFailed (s : State) (id : Nat) : State :=
  match s.cmdOf id with
  | none => s
  | some c =>
    if c.stage == .pointer then s.finish id nvDataTransfer
    else if c.stage != .fetching then s
    else if c.admin then s.adminDone id c nvDataTransfer
    else if c.sqe.opcode == 0x01 then (s.partialWrite id c).writeDone id nvDataTransfer
    else s.finish id nvDataTransfer

/-- A read fails (R499): data already received for it is discarded; a failed queue fetch sets CSTS.CFS. -/
def State.readFails (s : State) (r : PcieRead) : State :=
  match r.use with
  | .data id _ | .list id => s.fetchFailed id
  | .queue _ => s.updFn r.fn fun f => { f with cfs := true }

/-- A submission entry has been fetched: its data pointer is followed. -/
def State.pcieCmd (s : State) (fn sq : Nat) (e : Sqe) : State :=
  let k := queueKey fn sq
  let s := { s with host := { s.host with sqs := Tab.updIf k (fun (q : Sq) =>
    { q with head := if q.head == q.size then 0 else q.head + 1 }) s.host.sqs } }
  let c : Cmd := { path := .pcie fn sq, sqe := e, admin := sq == 0, tenant := (s.fnOf fn).tenant, ctlr := fn, d := s.dataLen e }
  (s.numberCmd c).pointer s.host.next (ptrStart e (s.inLen c + s.outLen c))

/-- The whole of a read has arrived: the consumer acts (R498). -/
def State.readArrived (s : State) (t : PcieTag) : State :=
  match t.rd.use with
  | .data id off => s.arrived id off t.data
  | .list id => s.listArrived id t.rd.addr t.data
  | .queue sq =>
    if !(s.fnOf t.rd.fn).ccEn || (s.fnOf t.rd.fn).cfs then s
    else (List.range (t.data.length / 64)).foldl (fun (s : State) i => s.pcieCmd t.rd.fn sq (sqeOf (slice t.data (64 * i) 64))) s

/-- Read Completion Boundary, bytes. -/
def rcb : Nat := 64

/-- Does a completion carry the address and byte count that its read expects next (R498)? -/
def PcieTag.expects (t : PcieTag) (c : PcieCpl) : Bool :=
  let addr := t.rd.addr + (t.rd.len - t.left)
  let n := c.data.length
  c.lower == addr % 128 && c.owed == t.left && decide (0 < n ∧ n ≤ t.left) && (n == t.left || (addr + n) % rcb == 0)

/-- A completion for a quarantined tag (R502): discarded, counted, and logged where the log is empty. -/
def State.lateCpl (s : State) (tag fn : Nat) : State :=
  let s := s.count Reg.PCIE_CNT_LATE_CPL
  if s.is Reg.PCIE_LATE_LOG_VALID then s
  else ((s.wr Reg.PCIE_LATE_LOG_TAG tag).wr Reg.PCIE_LATE_LOG_FUNCTION fn).wr Reg.PCIE_LATE_LOG_VALID 1

/-- PCIE_COMPLETION_RECEIVE (R498, R499, R502). -/
def execPcieCompletionReceive (c : PcieCpl) (s : State) : Host.Outcome State Fault Refusal :=
  settled (if c.malformed then s.aerReport (c.fn % 34) aerMalformed
    else match Tab.find c.tag s.pcie.tags with
    | none =>
      (match Tab.find c.tag s.pcie.quarantined with
      | some q => s.lateCpl c.tag q.1
      | none => s.aerReport (c.fn % 34) aerUnexpected)
    | some t =>
      if c.fn != t.rd.fn then s.aerReport (c.fn % 34) aerUnexpected
      else if c.status != 0 then (s.freeRead c.tag t.rd).readFails t.rd
      else if c.poisoned then
        (((s.count Reg.PCIE_CNT_POISONED_RX).aerReport c.fn aerPoisoned).freeRead c.tag t.rd).readFails t.rd
      else if !t.expects c then s.aerReport (c.fn % 34) aerUnexpected
      else
        let t' := { t with left := t.left - c.data.length, data := t.data ++ c.data }
        if t'.left == 0 then (s.freeRead c.tag t.rd).readArrived t'
        else { s with pcie := { s.pcie with tags := Tab.put c.tag t' s.pcie.tags } })

/-- PCIE_COMPLETION_TIMEOUT (R502): the read fails, and its tag is quarantined for twice the timeout. -/
def execPcieCompletionTimeout (tag : Fin 1024) (s : State) : Host.Outcome State Fault Refusal :=
  settled (match Tab.find tag.val s.pcie.tags with
    | none => s
    | some t =>
      let s := (s.atLeast (t.at_ + t.timeout)).count Reg.PCIE_CNT_CPL_TIMEOUT
      let s := { s with pcie := { s.pcie with
        quarantined := Tab.put tag.val (t.rd.fn, s.tm.mono + 2 * t.timeout) s.pcie.quarantined } }
      ((s.freeRead tag.val t.rd).aerReport t.rd.fn aerTimeout).readFails t.rd)

/-- PCIE_TAG_QUARANTINE_END (R502): the tag returns to the pool. -/
def execPcieTagQuarantineEnd (tag : Fin 1024) (s : State) : Host.Outcome State Fault Refusal :=
  settled (match Tab.find tag.val s.pcie.quarantined with
    | none => s
    | some q =>
      let s := s.atLeast q.2
      { s with pcie := { s.pcie with quarantined := Tab.del tag.val s.pcie.quarantined } }.drainReads)

/-- POSTED_WRITE_RECEIVE (Table 18.6): discarded; no register or memory is written. -/
def execPostedWriteReceive (fn : Fin 34) (error : PostedError) (s : State) : Host.Outcome State Fault Refusal :=
  settled (match error with
    | .poisoned => (s.count Reg.PCIE_CNT_POISONED_RX).aerReport fn.val aerPoisoned
    | .malformed => s.aerReport fn.val aerMalformed
    | .ecrc => s.aerReport fn.val aerEcrc)

/-! ### Bus Master Enable (R503) -/

/-- Messages that could not be sent go out, once nothing holds them back (R487). -/
def State.flushMsix (s : State) (fn : Nat) : State :=
  ((s.fnOf fn).vecs.filter fun e => e.2.pending).foldl (fun (s : State) (e : Nat × MsixVec) =>
    (s.updFn fn fun f => { f with vecs := Tab.updIf e.1 (fun (v : MsixVec) => { v with pending := false }) f.vecs }).msix fn e.1) s

/-- Bus Master Enable is cleared (R503): the engine stops for the function; the commands of an NVMe controller end and CSTS.CFS is set. -/
def State.clearBme (s : State) (fn : Nat) : State :=
  if !(s.fnOf fn).bme then s
  else
    let s := (s.updFn fn fun f => { f with bme := false }).wr (Reg.PCIE_FN_STATUS_BME.at fn) 0
    let s := if s.rd (Reg.PCIE_FN_STATUS_MASTER.at fn) == mstFlr then s else s.wr (Reg.PCIE_FN_STATUS_MASTER.at fn) mstHalted
    let s := { s with pcie := { s.pcie with waiting := s.pcie.waiting.filter fun (r : PcieRead) => r.fn != fn } }
    if fn == 0 then s
    else (s.loseCmds fun c => c.path.isPcie && c.path.fn == fn).updFn fn fun f => { f with cfs := true }

/-- Bus Master Enable is set: pending messages go out, and for PF0 the records that waited (R554). -/
def State.setBme (s : State) (fn : Nat) : State :=
  if (s.fnOf fn).bme then s
  else
    let s := (s.updFn fn fun f => { f with bme := true }).wr (Reg.PCIE_FN_STATUS_BME.at fn) 1
    let s := if s.rd (Reg.PCIE_FN_STATUS_MASTER.at fn) == mstHalted then s.wr (Reg.PCIE_FN_STATUS_MASTER.at fn) mstRunning else s
    let s := s.flushMsix fn
    if fn == 0 then s.drainEvents else s

/-- BUS_MASTER_CLEAR (R503). -/
def execBusMasterClear (fn : Fin 34) (s : State) : Host.Outcome State Fault Refusal :=
  settled (if s.fnPresent fn.val then s.clearBme fn.val else s)

/-! ### Function Level Reset (R504) -/

/-- The outstanding reads of a function are discarded, their cells freed, their tags quarantined from now on (R502, R504). -/
def State.dropReads (s : State) (fn : Nat) : State :=
  let gone := s.pcie.tags.filter fun (e : Nat × PcieTag) => e.2.rd.fn == fn
  let s := { s with pcie := { s.pcie with
    tags := s.pcie.tags.filter fun (e : Nat × PcieTag) => e.2.rd.fn != fn
    waiting := s.pcie.waiting.filter fun (r : PcieRead) => r.fn != fn
    quarantined := gone.foldl (fun (t : Tab (Nat × Nat)) (e : Nat × PcieTag) =>
      Tab.put e.1 (fn, s.tm.mono + 2 * e.2.timeout) t) s.pcie.quarantined } }
  (gone.foldl (fun (s : State) e => s.freeCells (holdPcie e.1)) s).showOutstanding fn |>.resumeSolicits

/-- One function returns to its reset values. -/
def State.resetFn1 (s : State) (fn : Nat) : State :=
  let s := s.dropReads fn
  let s := if fn == 0 then s else s.ctlrReset fn
  (s.updFn fn fun _ => {}).wr (Reg.PCIE_FN_STATUS_BME.at fn) 0

/-- Every virtual function returns to its reset values. -/
def State.resetVfs (s : State) : State :=
  (List.range 32).foldl (fun (s : State) k =>
    if Tab.has (k + 2) s.pcie.fns || s.pcie.vfEnable then s.resetFn1 (k + 2) else s) s

/-- What the reset of a function does beyond it: PF1 clears VF Enable, PF0 clears every window's EN and stops the event rings. -/
def State.resetFn (s : State) (fn : Nat) : State :=
  let s := s.resetFn1 fn
  if fn == 1 then
    let s := s.resetVfs
    { s with pcie := { s.pcie with vfEnable := false, numVfs := 0 } }
  else if fn == 0 then
    let s := (List.range 16).foldl (fun (s : State) n => s.wr (Reg.PCIE_WIN_CTL_EN.at n) 0) s
    let s := (List.range 256).foldl (fun (s : State) r => s.wr (Reg.GLB_EVT_SIZE_EN.at r) 0) s
    { s with pcie := { s.pcie with spdm := {}, lastLtr := none } }
  else s

/-- A Function Level Reset: MASTER reads FLR until it completes. -/
def State.flr (s : State) (fn : Nat) : State :=
  ((s.count Reg.PCIE_CNT_FLRS).wr (Reg.PCIE_FN_STATUS_MASTER.at fn) mstFlr).resetFn fn

/-- FUNCTION_LEVEL_RESET (R504). -/
def execFunctionLevelReset (fn : Fin 34) (s : State) : Host.Outcome State Fault Refusal :=
  settled (if s.fnPresent fn.val then s.flr fn.val else s)

/-- FLR_DONE (R504). -/
def execFlrDone (fn : Fin 34) (s : State) : Host.Outcome State Fault Refusal :=
  settled (if s.rd (Reg.PCIE_FN_STATUS_MASTER.at fn.val) == mstFlr then s.wr (Reg.PCIE_FN_STATUS_MASTER.at fn.val) mstRunning else s)

/-! ### PERST_N and the link (R81, R482, R505) -/

/-- PERST_N_ASSERTED (R505): every function is reset as by an FLR, and the link goes down. -/
def execPerstNAsserted (s : State) : Host.Outcome State Fault Refusal :=
  settled (let s := ((s.wr (Reg.PCIE_FN_STATUS_MASTER.at 0) mstFlr).wr (Reg.PCIE_FN_STATUS_MASTER.at 1) mstFlr)
    let s := (s.resetFn 0).resetFn 1
    let s := { s with pcie := { s.pcie with perstLow := true, linkUp := false } }
    ((s.wr Reg.PCIE_LINK_SPEED 0).wr Reg.PCIE_LINK_WIDTH 0).wr Reg.PCIE_LINK_FLIT 0)

/-- PERST_N_RELEASE (R81). -/
def execPerstNRelease (s : State) : Host.Outcome State Fault Refusal :=
  settled { s with pcie := { s.pcie with perstLow := false } }

/-- PCIE_LINK_TRAINED (R81, R482): possible while PERST_N is high and the PCIE clock (bit 13 of Table 20.3) is locked; rates 1 to 6, widths
×8, ×4, ×2 and ×1. -/
def execPcieLinkTrained (speed : Fin 7) (width : Nat) (flit : Bool) (s : State) : Host.Outcome State Fault Refusal :=
  settled (if s.pcie.perstLow || s.domainFailed 142 || s.rd Reg.PWR_CLK_LOCK / 2 ^ 13 % 2 == 0 || speed.val == 0 || !([1, 2, 4, 8].contains width) then s
    else
      let s := { s with pcie := { s.pcie with linkUp := true } }
      ((s.wr Reg.PCIE_LINK_SPEED speed.val).wr Reg.PCIE_LINK_WIDTH width).wrB Reg.PCIE_LINK_FLIT flit)

/-! ### Virtual functions (R493) -/

/-- VF Enable is written; NumVFs, 0 to 32, may change only while it is 0. -/
def State.writeVfEnable (s : State) (enable : Bool) : State :=
  if enable == s.pcie.vfEnable then s
  else
    let s := s.resetVfs
    { s with pcie := { s.pcie with vfEnable := enable } }

def State.writeNumVfs (s : State) (n : Nat) : State :=
  if s.pcie.vfEnable || 32 < n then s else { s with pcie := { s.pcie with numVfs := n } }

/-- VF_ENABLE (R493): NumVFs, then VF Enable. -/
def execVfEnable (enable : Bool) (numVfs : Nat) (s : State) : Host.Outcome State Fault Refusal :=
  settled ((s.writeNumVfs numVfs).writeVfEnable enable)

/-! ### NVMe over PCIe (R492, R494) -/

/-- Is the function an NVMe controller that the host can reach: BAR0 decoded, present, in service? -/
def State.nvmeReachable (s : State) (fn : Nat) : Bool :=
  1 ≤ fn && s.fnPresent fn && !(s.fnOf fn).offline && !(s.fnOf fn).d3hot && !s.minimalDecode && (s.prim.warm || decide (stPRIME ≤ s.st))

/-- Make the admin queues of a controller from AQA, ASQ and ACQ, and its state with the tenant of `PCIE_FN_CFGf` (R494). -/
def State.enableCtlr (s : State) (fn : Nat) (cc aqa : W32) (asq acq : Nat) : State :=
  let tenant := s.rd (Reg.PCIE_FN_CFG_TENANT.at fn)
  let k : Ctlr := { tenant := tenant, hostId := fn, hostIdSet := false, cntlid := fn, connected := true, cc := cc.toNat }
  let s := { s with host := { s.host with
    ctlrs := Tab.put fn k s.host.ctlrs
    sqs := Tab.put (queueKey fn 0) { base := asq, size := aqa.toNat % 4096, cq := 0 } s.host.sqs
    cqs := Tab.put (queueKey fn 0) { base := acq, size := aqa.toNat / 65536 % 4096, vector := 0 } s.host.cqs } }
  s.updFn fn fun f => { f with ccEn := true, rdy := s.serving, cfs := false, shst := 0, tenant := tenant }

/-- CC_EN_WRITE (R492): CSTS.RDY follows in SERVE; clearing EN resets the controller; SHN shuts it down. -/
def execCcEnWrite (fn : Fin 34) (cc : W32) (aqa : W32) (asq acq : Nat) (s : State) : Host.Outcome State Fault Refusal :=
  settled (let f := s.fnOf fn.val
    let en := cc.toNat % 2 == 1
    if !s.nvmeReachable fn.val then s
    else if en && !f.ccEn then s.enableCtlr fn.val cc aqa asq acq
    else if !en && f.ccEn then s.ctlrReset fn.val
    else
      let s := s.updFn fn.val fun f => { f with shst := if cc.toNat / 2 ^ 14 % 4 != 0 then 2 else f.shst }
      if f.ccEn then s.updCtlr fn.val fun k => { k with cc := cc.toNat } else s)

/-- The entries of a submission queue from one index to another, as runs of (index, entries). -/
def sqRuns (size a b : Nat) : List (Nat × Nat) :=
  if a ≤ b then (if a == b then [] else [(a, b - a)]) else [(a, size + 1 - a)] ++ (if b == 0 then [] else [(0, b)])

/-- A tail doorbell: the new entries are fetched (R496, R497). -/
def State.fetchSqes (s : State) (fn queue value : Nat) : State :=
  match Tab.find (queueKey fn queue) s.host.sqs with
  | none => s
  | some q =>
    if q.size < value then s
    else
      let s := { s with host := { s.host with sqs := Tab.put (queueKey fn queue) { q with tail := value } s.host.sqs } }
      (sqRuns q.size q.tail value).foldl (fun (s : State) (r : Nat × Nat) =>
        (readPieces (s.fnOf fn).mrrsBytes (q.base + 64 * r.1) (64 * r.2) 0x1000).foldl (fun (s : State) (p : Nat × Nat) =>
          s.masterRead { fn := fn, use := .queue queue, addr := p.1, len := p.2 }) s) s

/-- NVME_DOORBELL (R492, R537): a tail doorbell causes SQ fetches, a head doorbell moves the completion queue's head. -/
def execNvmeDoorbell (fn : Fin 34) (queue : Nat) (cq : Bool) (value : Nat) (s : State) : Host.Outcome State Fault Refusal :=
  settled (let f := s.fnOf fn.val
    if !s.nvmeReachable fn.val || !f.ccEn || !f.rdy || f.cfs then s
    else
      let s := s.wake 3
      if cq then
        { s with host := { s.host with cqs := Tab.updIf (queueKey fn.val queue) (fun (q : Cq) =>
          if q.size < value then q else { q with head := value }) s.host.cqs } }
      else s.fetchSqes fn.val queue value)

/-! ### Latency tolerance (R506) -/

/-- The LTR value in µs: ACTIVE where PF1 or a VF has CC.EN = 1, else IDLE. -/
def State.ltrValue (s : State) : Nat :=
  if s.pcie.fns.any fun e => e.1 != 0 && e.2.ccEn then s.rd Reg.PCIE_LTR_ACTIVE else s.rd Reg.PCIE_LTR_IDLE

/-- LTR_SEND (R506): on a change, no more than one per 10 µs. -/
def execLtrSend (s : State) : Host.Outcome State Fault Refusal :=
  settled (let v := s.ltrValue
    if !s.pcie.linkUp || !(s.fnOf 0).ltrEnable || s.pcie.lastLtr.any fun l => l.1 == v then s
    else
      let s := match s.pcie.lastLtr with
        | none => s
        | some l => s.atLeast (l.2 + 10 * us)
      { s with pcie := { s.pcie with lastLtr := some (v, s.tm.mono) } }.send (.ltr v))

end Sys2Proof.Machine
end

