-- ==== Sys2Proof/Machine/PcieCfg.lean ====
section
/-! DEFINITION. Configuration space (R484 to R487, R493; layouts of PCIe 6.0 and SR-IOV, PRESUMED), the translation windows of BAR4
(R490, R491), and requests that nothing decodes (R489). -/

namespace Sys2Proof.Machine

/-! ### Where the structures lie (Table 18.2) -/

/-- Offset of the MSI-X and of the PCI Express capability. -/
def capMsix (fn : Nat) : Nat := if fn ≤ 1 then 0x50 else 0x40
def capExp (fn : Nat) : Nat := if fn ≤ 1 then 0x60 else 0x50

/-- Extended capabilities of a function: offset, ID, version, next, bytes of the structure. -/
def extCaps (fn : Nat) : List (Nat × Nat × Nat × Nat × Nat) :=
  if fn == 0 then
    [(0x100, 0x0001, 3, 0x148, 0x48), (0x148, 0x000E, 1, 0x150, 8), (0x150, 0x0019, 1, 0x180, 0x30), (0x180, 0x0025, 1, 0x190, 0x10),
     (0x190, 0x0026, 1, 0x1C0, 0x30), (0x1C0, 0x0027, 1, 0x200, 0x40), (0x200, 0x002A, 1, 0x240, 0x40),
     (0x240, 0x0031, 1, 0x260, 0x20), (0x260, 0x0018, 1, 0x270, 8), (0x270, 0x002E, 2, 0, 0x18)]
  else if fn == 1 then
    [(0x100, 0x0001, 3, 0x148, 0x48), (0x148, 0x000E, 1, 0x150, 8), (0x150, 0x0010, 1, 0, 0x40)]
  else [(0x100, 0x0001, 3, 0x148, 0x48), (0x148, 0x000E, 1, 0, 8)]

/-- MSI-X Table Size (Table 18.3). -/
def msixSize (fn : Nat) : Nat := if fn == 0 then 2048 else if fn == 1 then 129 else 17

/-- Writable bits of words that nothing but software reads, with what their fixed bits read: the base address registers of Table 18.1's
functions (R488, R492), Interrupt Line, Link Control, AER masks, severity and control, LTR limits, SR-IOV's page size and VF BAR0. -/
def plainWord (fn off : Nat) : Option (Nat × Nat) :=
  let e := capExp fn
  if off == e + 0x10 then some (0xFFFF, 0)
  else if off == e + 0x30 then some (0xFFFF, 6)
  else if off == 0x108 then some (0x07FFFFF0, 0)
  else if off == 0x10C then some (0x07FFFFF0, 0x00462030)
  else if off == 0x114 then some (0xFFFF, 0x2000)
  else if off == 0x118 then some (0x140, 0xA0)
  else if fn ≤ 1 && off == 0x0C then some (0xFF, if fn == 0 then 0x800000 else 0)
  else if fn ≤ 1 && off == 0x3C then some (0xFF, 0)
  else if fn == 0 then
    match off with
    | 0x10 => some (0xFC000000, 4)
    | 0x14 => some (0xFFFFFFFF, 0)
    | 0x18 => some (0xFC000000, 0xC)
    | 0x1C => some (0xFFFFFFFF, 0)
    | 0x20 => some (0, 0xC)
    | 0x24 => some (0xFFFFFFF0, 0)
    | 0x264 => some (0x1FFF1FFF, 0)
    | _ => none
  else if fn == 1 then
    match off with
    | 0x10 => some (0xFFFF0000, 4)
    | 0x14 => some (0xFFFFFFFF, 0)
    | 0x170 => some (0xFFFFFFFF, 1)
    | 0x174 => some (0xFFFFC000, 4)
    | 0x178 => some (0xFFFFFFFF, 0)
    | _ => none
  else none

/-- What such a word reads: its fixed bits and what software has written, or its reset value. -/
def PcieFn.plain (f : PcieFn) (off mask fixed : Nat) : Nat :=
  let keep := fixed &&& (0xFFFFFFFF ^^^ mask)
  match Tab.find off f.scratch with
  | some w => keep ||| (w.toNat &&& mask)
  | none => fixed

def bitIf (b : Bool) (i : Nat) : Nat := if b then 2 ^ i else 0

/-- Device Control (its lower half) of a function. -/
def PcieFn.devCtl (f : PcieFn) (e : Nat) : Nat :=
  (Tab.getD (e + 8) 0 f.scratch).toNat % 16 + bitIf f.relaxed 4 + 32 * f.mps + bitIf f.extTag 8 + bitIf f.noSnoop 11 + 4096 * f.mrrs

/-- Device Control 2. -/
def PcieFn.devCtl2 (f : PcieFn) (e : Nat) : Nat :=
  f.cplTimeout + bitIf f.ltrEnable 10 + bitIf f.tag10 12 + ((Tab.getD (e + 0x28) 0 f.scratch).toNat &&& 0xFFFFEBF0)

/-- The header's words (Table 18.1). -/
def State.headerWord (s : State) (fn off : Nat) : Option Nat :=
  let f := s.fnOf fn
  let dev := if fn == 0 then 0x96481F3B else if fn == 1 then 0x96491F3B else 0xFFFFFFFF
  match off with
  | 0x00 => some dev
  | 0x04 => some (bitIf f.memEnable 1 + bitIf f.bme 2 + ((Tab.getD 4 0 f.scratch).toNat &&& 0x0540) + 0x100000)
  | 0x08 => some ((if fn == 0 then 0x08800000 else 0x01080200) + 0xB0)
  | 0x2C => some (if fn == 0 then 0x96481F3B else if fn == 1 then 0x96491F3B else 0x964A1F3B)
  | 0x34 => some 0x40
  | _ => if off < 0x40 then some 0 else none

/-- The words of the capabilities below 0x100 (Tables 18.2 and 18.3). -/
def State.capWord (s : State) (fn off : Nat) : Option Nat :=
  let f := s.fnOf fn
  let m := capMsix fn
  let e := capExp fn
  let table := if fn == 0 then 0x600000 else 0x2000
  if fn ≤ 1 && off == 0x40 then some 0x00035001
  else if fn ≤ 1 && off == 0x44 then some (8 + if f.d3hot then 3 else 0)
  else if off == m then
    some (0x11 + 256 * e + 65536 * (msixSize fn - 1) + bitIf f.msixMask 30 + bitIf f.msixEnable 31)
  else if off == m + 4 then some table
  else if off == m + 8 then some (if fn == 0 then 0x610000 else 0x3000)
  else if off == e then some 0x00020010
  else if off == e + 4 then some (2 + 2 ^ 5 + 2 ^ 15 + 2 ^ 28)
  else if off == e + 8 then
    some (f.devCtl e + 65536 * (bitIf (s.pcie.tags.any fun t => t.2.rd.fn == fn) 5 + (Tab.getD (e + 8) 0 f.scratch).toNat / 65536 % 16))
  else if off == e + 0xC then some (6 + 16 * 8 + 2 * 2 ^ 10 + 2 ^ 22)
  else if off == e + 0x10 then
    some (f.plain off 0xFFFF 0 + 65536 * (s.rd Reg.PCIE_LINK_SPEED + 16 * s.rd Reg.PCIE_LINK_WIDTH))
  else if off == e + 0x24 then some (0xF + 2 ^ 11 + 2 ^ 16 + 2 ^ 17)
  else if off == e + 0x28 then some (f.devCtl2 e)
  else if off == e + 0x2C then some 0x7E
  else none

/-- The words of the extended capabilities that the spec gives. -/
def State.extWord (s : State) (fn off : Nat) : Option Nat :=
  let f := s.fnOf fn
  match (extCaps fn).find? fun c => c.1 == off with
  | some c => some (c.2.1 + 65536 * c.2.2.1 + 2 ^ 20 * c.2.2.2.1)
  | none =>
    if off == 0x104 || off == 0x110 then some (Tab.getD off 0 f.scratch).toNat
    else if off == 0x14C then some (if fn == 0 then 256 else 0)
    else if fn != 1 then none
    else match off with
      | 0x154 => some 0
      | 0x158 => some (bitIf s.pcie.vfEnable 0 + ((Tab.getD 0x158 0 f.scratch).toNat &&& 0x18))
      | 0x15C => some 0x00200020
      | 0x160 => some (s.pcie.numVfs + 0x10000)
      | 0x164 => some 0x00010001
      | 0x168 => some 0x964A0000
      | 0x16C => some 1
      | 0x18C => some 0
      | _ => if 0x150 < off && off < 0x190 then some 0 else none

/-- Does a structure of the function hold the word? -/
def inStructure (fn off : Nat) : Bool :=
  (decide (0x40 ≤ off ∧ off < capExp fn + 0x3C)) || (extCaps fn).any fun c => decide (c.1 ≤ off ∧ off < c.1 + c.2.2.2.2)

/-- A word of configuration space: none where a structure holds it and the spec gives it no value. -/
def State.configWord (s : State) (fn off : Nat) : Option Nat :=
  match s.capWord fn off, plainWord fn off with
  | some v, _ => some v
  | none, some p => some ((s.fnOf fn).plain off p.1 p.2)
  | none, none =>
    match s.headerWord fn off, s.extWord fn off with
    | some v, _ => some v
    | none, some v => some v
    | none, none => if inStructure fn off then none else some 0

/-! ### Writing configuration space -/

/-- The mask of a write's bytes. -/
def byteMask (be : BitVec 4) : Nat :=
  (if be.getLsbD 0 then 0xFF else 0) + (if be.getLsbD 1 then 0xFF00 else 0) + (if be.getLsbD 2 then 0xFF0000 else 0) +
  (if be.getLsbD 3 then 0xFF000000 else 0)

/-- Command: Memory Space Enable, Bus Master Enable and the bits that only software reads. -/
def State.writeCommand (s : State) (fn v : Nat) : State :=
  let s := s.updFn fn fun f => { f with memEnable := v / 2 % 2 == 1, scratch := Tab.put 4 (BitVec.ofNat 32 v) f.scratch }
  if v / 4 % 2 == 1 then s.setBme fn else s.clearBme fn

/-- Device Control: a 1 in Initiate Function Level Reset resets the function (R504). -/
def State.writeDevCtl (s : State) (fn v : Nat) : State :=
  if v / 2 ^ 15 % 2 == 1 then s.flr fn
  else s.updFn fn fun f =>
    let e := capExp fn
    let was := (Tab.getD (e + 8) 0 f.scratch).toNat
    { f with relaxed := v / 16 % 2 == 1, mps := v / 32 % 8, extTag := v / 256 % 2 == 1, noSnoop := v / 2048 % 2 == 1
             mrrs := v / 4096 % 8
             scratch := Tab.put (e + 8) (BitVec.ofNat 32 (was / 16 * 16 + v % 16)) f.scratch }

/-- Device Control 2: Completion Timeout Value (R501), LTR Mechanism Enable (PF0, R485), 10-Bit Tag Requester Enable. -/
def State.writeDevCtl2 (s : State) (fn v : Nat) : State :=
  s.updFn fn fun f => { f with cplTimeout := v % 16, ltrEnable := fn == 0 && v / 2 ^ 10 % 2 == 1, tag10 := v / 2 ^ 12 % 2 == 1
                               scratch := Tab.put (capExp fn + 0x28) (BitVec.ofNat 32 v) f.scratch }

/-- MSI-X control; what has become free to go is sent. -/
def State.writeMsixCtl (s : State) (fn v : Nat) : State :=
  (s.updFn fn fun f => { f with msixMask := v / 2 ^ 30 % 2 == 1, msixEnable := v / 2 ^ 31 % 2 == 1 }).flushMsix fn

/-- Write a word, some of its bytes, the others keeping what they read. -/
def State.writeConfig (s : State) (fn off : Nat) (be : BitVec 4) (value : W32) : State :=
  let mask := byteMask be
  let was := (s.configWord fn off).getD 0
  let v := (was &&& (0xFFFFFFFF ^^^ mask)) ||| (value.toNat &&& mask)
  let ones := value.toNat &&& mask
  let e := capExp fn
  let clear (bits : Nat) (s : State) : State := s.updFn fn fun f =>
    { f with scratch := Tab.updIf off (fun (w : W32) => w &&& ~~~(BitVec.ofNat 32 bits)) f.scratch }
  if off == 4 then s.writeCommand fn v
  else if off == 0x44 && fn ≤ 1 then
    (if v % 4 == 1 || v % 4 == 2 then s else (s.updFn fn fun f => { f with d3hot := v % 4 == 3 }).flushMsix fn)
  else if off == capMsix fn then s.writeMsixCtl fn v
  else if off == e + 8 then (clear (ones / 65536 % 16 * 65536) s).writeDevCtl fn (v % 65536)
  else if off == e + 0x28 then s.writeDevCtl2 fn (v % 65536)
  else if off == 0x104 || off == 0x110 then clear ones s
  else if fn == 1 && off == 0x158 then
    (s.updFn 1 fun f => { f with scratch := Tab.put 0x158 (BitVec.ofNat 32 v) f.scratch }).writeVfEnable (v % 2 == 1)
  else if fn == 1 && off == 0x160 then s.writeNumVfs (v % 65536)
  else match plainWord fn off with
    | none => s
    | some p => s.updFn fn fun f => { f with scratch := Tab.put off (BitVec.ofNat 32 (v &&& p.1)) f.scratch }

/-- Does the endpoint answer for a function (R68, R78, R483, R493)? -/
def State.fnAnswers (s : State) (fn : Nat) : Bool := s.fnPresent fn && (fn == 0 || !s.minimalDecode)

/-- CONFIG_REQUEST (R81, R484 to R489): Request Retry Status until STRUCT ends, else the function's configuration space.  `off` is the
word's number. -/
def execConfigRequest (fn : Fin 34) (off : BitVec 10) (write : Option (BitVec 4 × W32)) (s : State) :
    Host.Outcome State Fault Refusal :=
  settled (let a := 4 * off.toNat
    if !s.pcie.linkUp then s
    else if s.is Reg.GLB_PRIME_STATUS_RRS then s.send (.retryStatus fn.val)
    else if !s.fnAnswers fn.val then s.unsupportedReq fn.val
    else match write with
      | some w => s.writeConfig fn.val a w.1 w.2
      | none => (match s.configWord fn.val a with
        | some v => s.send (.config fn.val a v)
        | none => (s.send (.config fn.val a (s.freeVal 32))).freeNext))

/-! ### Requests that nothing decodes (R489) -/

/-- Is a memory request to a BAR of a function decoded? -/
def State.barDecoded (s : State) (fn bar off : Nat) : Bool :=
  let served := s.prim.warm || decide (stPRIME ≤ s.st)
  s.fnAnswers fn && !(s.fnOf fn).d3hot &&
  (if fn != 0 then served && bar == 0 && decide (off < (if fn == 1 then 0x10000 else 0x4000))
   else match bar with
    | 0 => off < 0x4000000 && (match blockAt off with
      | none => served
      | some b => s.decodeOf b != .none)
    | 2 => off < 0x4000000 && (s.prim.recovery || (served && !s.minimalDecode))
    | 4 => off < 2 ^ 36 && served && !s.minimalDecode
    | _ => false)

/-- BAR_REQUEST_UNDECODED (R489). -/
def execBarRequestUndecoded (fn : Fin 34) (bar : Fin 6) (off : Nat) (s : State) : Host.Outcome State Fault Refusal :=
  settled (if s.barDecoded fn.val bar.val off then s else s.unsupportedReq fn.val)

/-! ### Translation windows (R490, R491) -/

/-- Does a window's range lie inside trained DRAM, or inside the 64 MiB of MRAM (R491)? -/
def State.windowFits (s : State) (n space : Nat) : Bool :=
  let t := s.rd64 (Reg.PCIE_WIN_TARGET_LO.at n) (Reg.PCIE_WIN_TARGET_HI.at n)
  t % 4096 == 0 && decide (t + 4096 * s.rd (Reg.PCIE_WIN_LEN.at n) ≤ (if space == 0 then s.mem.dramBytes else 0x4000000))

/-- WINDOW_ENABLE (R491): `PCIE_WINn_CTL` is written, EN set only where the range fits. -/
def execWindowEnable (n : Fin 16) (value : W32) (s : State) : Host.Outcome State Fault Refusal :=
  settled (let s' := s.writeWord (0x40010C + 0x10 * n.val) value
    if s.decodeOf .pcie != .all || s.is (fResetting .pcie) then s'
    else if value.toNat % 2 == 0 then s'.wr (Reg.PCIE_WIN_CTL_EN.at n.val) 0
    else if s'.windowFits n.val (value.toNat / 2 % 2) then s'.wr (Reg.PCIE_WIN_CTL_EN.at n.val) 1
    else (s'.wr (Reg.PCIE_WIN_CTL_EN.at n.val) 0).wr Reg.PCIE_WIN_STATUS_RANGE_ERR 1)

/-- WINDOW_ACCESS (R490): a read (`write` none, `len` bytes) or write at an offset of BAR4. -/
def execWindowAccess (off len : Nat) (write : Option (List Byte)) (s : State) : Host.Outcome State Fault Refusal :=
  settled (let n := off / 2 ^ 32 % 16
    let o := off % 2 ^ 32
    let size := (write.map List.length).getD len
    let space := s.rd (Reg.PCIE_WIN_CTL_SPACE.at n)
    let mapped := s.is (Reg.PCIE_WIN_CTL_EN.at n) && decide (o + size ≤ 4096 * s.rd (Reg.PCIE_WIN_LEN.at n))
    let a := s.rd64 (Reg.PCIE_WIN_TARGET_LO.at n) (Reg.PCIE_WIN_TARGET_HI.at n) + o
    if !s.barDecoded 0 4 off then s.unsupportedReq 0
    else match write with
      | none =>
        if !mapped then s.unsupportedReq 0
        else if space == 0 then s.send (.barData 0 off (s.dramRead a len))
        else (s.send (.barData 0 off (s.mramRead a len))).freeNext
      | some d =>
        if !mapped || !s.is (Reg.PCIE_WIN_CTL_WRITE.at n) || (space == 1 && !s.mramWritable a d.length) then
          s.wr Reg.PCIE_WIN_STATUS_WRITE_REFUSED 1
        else if space == 0 then s.dramWrite a d
        else { s with mem := { s.mem with mram := s.mem.mram.write a d } })

end Sys2Proof.Machine
end

