-- ==== Sys2Proof/Machine/Spdm.lean ====
section
/-! DEFINITION. Attestation over PF0's DOE mailbox (R508, R509): DOE Discovery and an SPDM 1.2 responder.  Request and response codes, field
values of capabilities and algorithms and the order of requests are SPDM 1.2's (PRESUMED). -/

namespace Sys2Proof.Machine

/-! ### Requests and responses -/

/-- Does PF0 answer in its DOE mailbox? -/
def State.doeUp (s : State) : Bool := s.pcie.linkUp && !s.is Reg.GLB_PRIME_STATUS_RRS

/-- DOE_DISCOVERY (R508): object 0 is DOE Discovery, 1 is CMA/SPDM of vendor 1; the answer names vendor, type and the next index. -/
def execDoeDiscovery (index : BitVec 8) (s : State) : Host.Outcome State Fault Refusal :=
  settled (if !s.doeUp then s
    else s.send (.spdm 0 (match index.toNat with
      | 0 => [1, 0, 1]
      | 1 => [1, 1, 0]
      | _ => [0xFFFF, 0xFF, 0])))

/-- ERROR with its code and data. -/
def State.spdmError (s : State) (code : Nat) (data : Nat := 0) : State := s.send (.spdm 0x7F [code, data])

def errInvalid : Nat := 1
def errUnexpected : Nat := 4
def errUnsupported : Nat := 7

/-- Answer a request and keep both for the signatures to come. -/
def State.spdmReply (s : State) (request : List Nat) (code : Nat) (fields : List Nat) : State :=
  { s with pcie := { s.pcie with spdm := { s.pcie.spdm with
    transcript := s.pcie.spdm.transcript ++ request ++ (code :: fields) } } }.send (.spdm code fields)

/-- A request that needs the negotiation to stand at `phase`. -/
def State.spdmAt (s : State) (phase : Nat) (f : State → State) : State :=
  if !s.doeUp then s else if s.pcie.spdm.phase != phase then s.spdmError errUnexpected else f s

/-- The negotiation has come to `phase`. -/
def State.spdmPhase (s : State) (phase : Nat) : State :=
  { s with pcie := { s.pcie with spdm := { s.pcie.spdm with phase := phase } } }

/-- Bytes as numbers. -/
def byteNats (bs : List Byte) : List Nat := bs.map fun b => b.toNat

/-! ### Negotiation -/

/-- GET_VERSION (R508): version 1.2; the negotiation starts anew. -/
def execGetVersion (s : State) : Host.Outcome State Fault Refusal :=
  settled (if !s.doeUp then s
    else
      let s := { s with pcie := { s.pcie with spdm := { phase := 1 } } }
      s.spdmReply [0x84] 0x04 [0x12])

/-- GET_CAPABILITIES (R508): CT exponent 20; CERT_CAP, CHAL_CAP, MEAS_CAP with signature. -/
def execGetCapabilities (s : State) : Host.Outcome State Fault Refusal :=
  settled (s.spdmAt 1 fun s => (s.spdmPhase 2).spdmReply [0xE1] 0x61 [20, 2 + 4 + 16])

/-- ECDSA P-384 and SHA-384 in the bit maps of SPDM. -/
def algP384 : Nat := 0x80
def algSha384 : Nat := 2

/-- NEGOTIATE_ALGORITHMS (R508): of what the requester offers, ECDSA P-384 and SHA-384; measurements in DMTF format, SHA-384. -/
def execNegotiateAlgorithms (asym hash : W32) (s : State) : Host.Outcome State Fault Refusal :=
  settled (s.spdmAt 2 fun s =>
    (s.spdmPhase 3).spdmReply [0xE3, asym.toNat, hash.toNat] 0x63 [1, 4, asym.toNat &&& algP384, hash.toNat &&& algSha384])

/-! ### Certificates -/

/-- The digest of slot 0's chain. -/
def chainDigest : Nat := (sha384 Config.deviceChain).toNat

/-- GET_DIGESTS (R508): slot 0 holds a chain. -/
def execGetDigests (s : State) : Host.Outcome State Fault Refusal :=
  settled (s.spdmAt 3 fun s => s.spdmReply [0x81] 0x01 [1, chainDigest])

/-- GET_CERTIFICATE (R508): a portion of slot 0's chain, and how much is left after it. -/
def execGetCertificate (slot off len : Nat) (s : State) : Host.Outcome State Fault Refusal :=
  settled (s.spdmAt 3 fun s =>
    if slot != 0 || Config.deviceChain.length ≤ off then s.spdmError errInvalid
    else
      let part := (Config.deviceChain.drop off).take len
      s.spdmReply [0x82, slot, off, len] 0x02
        ([0, part.length, Config.deviceChain.length - off - part.length] ++ byteNats part))

/-! ### Signed answers -/

/-- A 384-bit digest as its bytes, most significant first. -/
def digestBytes (d : BitVec 384) : List Nat := (byteNats (leBytes 48 d.toNat)).reverse

/-- The six fuse key slots (Table 18.5, block 4): hash, PQ and revocation fuses. -/
def fuseBlock (f : Fuses) : List Nat :=
  ((List.range 2).map fun i => f.vendor.getD i {}) ++ ((List.range 4).map fun i => f.owner.getD i {}) |>.flatMap
    fun k => digestBytes k.hash ++ [if k.pq then 1 else 0, if k.revoked then 1 else 0]

/-- `IMG_STATUS` as it stands (Table 2.8). -/
def State.imgStatus (s : State) : Nat := (s.wordAt 0x200000).toNat

/-- A SHA-384 digest of numbers taken as bytes. -/
def sha384Nats (d : List Nat) : List Nat := digestBytes (sha384 (d.map fun n => BitVec.ofNat 8 n))

/-- A measurement block of Table 18.5, 1 to 7. -/
def State.measurement (s : State) (i : Nat) : List Nat :=
  let b := s.img.booted.getD {}
  match i with
  | 1 => digestBytes Config.romDigest
  | 2 => digestBytes b.digest
  | 3 => sha384Nats (byteNats (leBytes 4 s.img.fuses.romVersion) ++ digestBytes b.patchDigest)
  | 4 => sha384Nats (fuseBlock s.img.fuses)
  | 5 => byteNats (leBytes 4 s.img.fuses.svn)
  | 6 => byteNats s.cry.vaultPub
  | _ => byteNats (leBytes 4 s.imgStatus)

/-- The indices that a request names: 0 only the count, 0xFF all of them (R509). -/
def measured (index : Nat) : List Nat := if index == 0xFF then [1, 2, 3, 4, 5, 6, 7] else if index == 0 then [] else [index]

/-- Blocks with their index and length. -/
def State.measurements (s : State) (index : Nat) : List Nat :=
  (measured index).flatMap fun i => [i, (s.measurement i).length] ++ s.measurement i

/-- Answer with a fresh nonce and a signature over all that has been exchanged; the transcript starts anew after it. -/
def State.spdmSigned (s : State) (request : List Nat) (code : Nat) (fields : List Nat) : State :=
  let body := fields ++ [s.freeVal 256]
  let sig := Config.sign (s.pcie.spdm.transcript ++ request ++ (code :: body))
  let s := s.freeNext.send (.spdm code (body ++ byteNats sig))
  { s with pcie := { s.pcie with spdm := { s.pcie.spdm with transcript := [] } } }

/-- CHALLENGE (R508): the chain's digest, the summary of all measurements where asked for (0xFF), signed. -/
def execChallenge (slot measurements : Nat) (nonce : BitVec 256) (s : State) : Host.Outcome State Fault Refusal :=
  settled (s.spdmAt 3 fun s =>
    if slot != 0 || (measurements != 0 && measurements != 0xFF) then s.spdmError errInvalid
    else
      let summary := if measurements == 0 then [] else sha384Nats (s.measurements 0xFF)
      s.spdmSigned [0x83, slot, measurements, nonce.toNat] 0x03 ([0, chainDigest] ++ summary))

/-- GET_MEASUREMENTS (R509): the blocks of Table 18.5 in DMTF format, with a signature where asked for. -/
def execGetMeasurements (index : BitVec 8) (signed : Bool) (nonce : BitVec 256) (s : State) : Host.Outcome State Fault Refusal :=
  settled (s.spdmAt 3 fun s =>
    let i := index.toNat
    let fields := (if i == 0 then 7 else (measured i).length) :: s.measurements i
    let request := [0xE0, if signed then 1 else 0, i, nonce.toNat]
    if 7 < i && i != 0xFF then s.spdmError errInvalid
    else if signed then s.spdmSigned request 0x60 fields
    else s.spdmReply request 0x60 fields)

/-- SPDM_UNSUPPORTED (R508): any other request. -/
def execSpdmUnsupported (code : BitVec 8) (s : State) : Host.Outcome State Fault Refusal :=
  settled (if !s.doeUp || [0x84, 0xE1, 0xE3, 0x81, 0x82, 0x83, 0xE0].contains code.toNat then s
    else s.spdmError errUnsupported code.toNat)

end Sys2Proof.Machine
end

