-- ==== Sys2Proof/Machine/Seqs.lean ====
section
/-! DEFINITION. The sequencers, mailboxes and scratchpads (R513 to R522), tile counters and bandwidth windows (R523 to R530). -/

namespace Sys2Proof.Machine

/-! ### Mailboxes (R515 to R518, Table 19.2) -/

/-- A field of a mailbox header: `n` bytes at an offset, little-endian (R8). -/
def State.mbox (s : State) (m off n : Nat) : Nat := le (s.mem.bar2.read (mboxBase m + off) n)

/-- Write a field of a mailbox header. -/
def State.putMbox (s : State) (m off n v : Nat) : State :=
  { s with mem := { s.mem with bar2 := s.mem.bar2.write (mboxBase m + off) (leBytes n v) } }

/-- `n` bytes of a mailbox's data area. -/
def State.mboxData (s : State) (m n : Nat) : List Byte := s.mem.bar2.read (mboxBase m + 0x1000) n

/-- The command in a mailbox: its submission entry, whose data pointers are ignored, and its view (R515, R517). -/
def State.mboxCmd (s : State) (m : Nat) : Cmd :=
  let t := s.mbox m 2 2
  { path := .mailbox m (t / 2 ^ 15 == 1), sqe := sqeOf (s.mem.bar2.read (mboxBase m + 0x20) 64), admin := true, tenant := t % 1024 }

/-- Note how a mailbox ends. -/
def State.endMbox (s : State) (m : Nat) (e : MboxEnd) : State :=
  { s with seq := { s.seq with running := Tab.put m (some e) s.seq.running } }

/-- Take a mailbox into work: NOP and an unknown OP end at once, as does a transfer longer than DATA_LEN; ADMIN becomes a command, with
its data from the data area. -/
def State.startMbox (s : State) (m : Nat) : State :=
  let s := { s with seq := { s.seq with running := Tab.put m none s.seq.running } }
  match s.mbox m 1 1 with
  | 1 =>
    let c := s.mboxCmd m
    let n := s.inLen c
    if s.mbox m 4 4 < n + s.outLen c then s.endMbox m { st := 4 }
    else s.newCmd { c with buf := if n == 0 then [] else [(0, s.mboxData m n)] }
  | 2 => s.endMbox m { st := 1 }
  | _ => s.endMbox m { st := 2 }

/-- Mailboxes are taken in doorbell order, at most four at a time. -/
def State.takeMboxes (s : State) : Nat → State
  | 0 => s
  | fuel + 1 =>
    match s.seq.waiting with
    | [] => s
    | m :: rest =>
      if 4 ≤ s.seq.running.length then s
      else
        let s := { s with seq := { s.seq with waiting := rest } }
        (s.startMbox m).takeMboxes fuel

/-- Does the controller own a mailbox? -/
def State.mboxOwned (s : State) (m : Nat) : Bool := s.rd Reg.SEQ_MBOX_OWN / 2 ^ m % 2 == 1

/-- Show whether the controller owns a mailbox. -/
def State.ownMbox (s : State) (m : Nat) (own : Bool) : State :=
  let w := s.rd Reg.SEQ_MBOX_OWN
  let s := if own == s.mboxOwned m then s else s.wr Reg.SEQ_MBOX_OWN (if own then w + 2 ^ m else w - 2 ^ m)
  s.putMbox m 0 1 (if own then 1 else 0)

/-- One bit of a doorbell write. -/
def State.ringMbox (s : State) (m : Nat) : State :=
  if s.mboxOwned m then s.setErr .seq 8
  else
    let s := (s.ownMbox m true).putMbox m 0x10 1 0
    { s with seq := { s.seq with waiting := s.seq.waiting ++ [m] } }

/-- MAILBOX_DOORBELL (R516, R537): `SEQ_MBOX_DB` is written. -/
def execMailboxDoorbell (value : W32) (s : State) : Host.Outcome State Fault Refusal :=
  settled (let s' := s.writeWord 0x3C00200 value
    if s.decodeOf .seq != .all || !s.begins .seq then s'
    else
      let ms := (List.range 32).filter fun m => value.toNat / 2 ^ m % 2 == 1
      ((ms.foldl (fun (s : State) m => s.ringMbox m) (s'.wake 4)).takeMboxes 32))

/-- MAILBOX_COMPLETE (R516, R517): data and CQE, then STATUS, then OWNER, then the DONE bit and the NOTICE event; the next one is taken. -/
def execMailboxComplete (m : Fin 32) (s : State) : Host.Outcome State Fault Refusal :=
  settled (match Tab.find m.val s.seq.running with
    | none => s
    | some none => s
    | some (some e) =>
      let s := match Tab.find m.val s.seq.data with
        | none => s
        | some d => { s with mem := { s.mem with bar2 := s.mem.bar2.write (mboxBase m.val + 0x1000) d } }
      let s := match e.cqe with
        | none => s
        | some x =>
          let b := cqeBytes x.2 0 0 (s.mboxCmd m.val).sqe.cid x.1 (dnrOf x.1) false
          { s with mem := { s.mem with bar2 := s.mem.bar2.write (mboxBase m.val + 0x60) b } }
      let s := ((s.putMbox m.val 0x10 1 e.st).ownMbox m.val false)
      let s := s.wr Reg.SEQ_MBOX_DONE (s.rd Reg.SEQ_MBOX_DONE ||| 2 ^ m.val)
      let s := (s.count Reg.SEQ_CNT_MBOX_COMPLETED).raiseIn 15 sevInfo .seq Reg.SEQ_MBOX_DONE.off noInstance m.val
      let s := { s with seq := { s.seq with running := Tab.del m.val s.seq.running, data := Tab.del m.val s.seq.data } }
      s.takeMboxes 32)

/-! ### Scratchpads (R519 to R521) -/

/-- Does a BAR2 offset lie in the host area of a scratchpad? -/
def hostArea (off : Nat) : Bool := decide (off < 0x400000 ∧ 0x3C000 ≤ off % 0x40000)

/-- One byte of a BAR2 write: scratchpad, mailbox, or nothing behind the last mailbox (R515, R516, R519). -/
def State.bar2Byte (s : State) (off : Nat) (b : Byte) : State :=
  let put : State := { s with mem := { s.mem with bar2 := s.mem.bar2.set off b } }
  if s.prim.recovery then put
  else if off < 0x400000 then (if hostArea off then put else s.setErr .seq 9)
  else if 0x2400000 ≤ off then s
  else if s.mboxOwned ((off - 0x400000) / 0x100000) then s.setErr .seq 8
  else if off % 0x100000 == 0 then s
  else put

/-- Count what SECDED found in scratchpad words that an access read (R522). -/
def State.spErrors (s : State) (e : SpEcc) (n : Nat) : State :=
  let s := s.corrected .seq Reg.SEQ_CNT_SP_ECC_CORRECTED e.corrected n
  if e.bad then s.count Reg.SEQ_CNT_SP_ECC_UNCORRECTED else s

/-- Does a write take a part of some word, which is then read and written back (R519)? -/
def partWord (off n : Nat) : Bool := off % 4 != 0 || (off + n) % 4 != 0

/-- The bytes that a read of BAR2 finds: nothing stands behind the last mailbox (R515). -/
def State.bar2Read (s : State) (off n : Nat) : List Byte :=
  (List.range n).map fun k => if !s.prim.recovery && decide (0x2400000 ≤ off + k) then 0 else s.mem.bar2.get (off + k)

/-- BAR2_WRITE (R515, R516, R519, R522); in image recovery mode BAR2 is staging memory (R68).  A gated cluster powers up for an access
(R534).  A scratchpad word that is read, by a read or by a partial write, may hold an error; the data of a read with an uncorrectable one
has EP set. -/
def execBar2Write (off : Nat) (a : Bar2Access) (ecc : SpEcc) (s : State) : Host.Outcome State Fault Refusal :=
  settled (if !s.barDecoded 0 2 off then s.unsupportedReq 0
    else
      let pad := !s.prim.recovery && decide (off < 0x400000)
      let gated := pad && !s.domainOn (143 + off / 0x100000) && s.devState != 0
      let s := if gated then s.wr Reg.PWR_WAKE_CAUSE 7 else s
      match a with
      | .read n =>
        let s := if pad then s.spErrors ecc (off / 0x40000) else s
        s.send (.barData 0 off (s.bar2Read off n) (pad && ecc.bad))
      | .write data =>
        let s := if pad && partWord off data.length then s.spErrors ecc (off / 0x40000) else s
        data.zipIdx.foldl (fun (s : State) (e : Byte × Nat) => s.bar2Byte (off + e.2) e.1) s)

/-- The new value of an atomic of `n` bits. -/
def atomic (op old operand n : Nat) : Nat := if op < 2 then (old + operand) % 2 ^ n else operand % 2 ^ n

/-- Carry out a host atomic (R521). -/
def State.hostAtomic (s : State) (op : Nat) : State :=
  let a := s.rd Reg.SEQ_ATOM_ADDR
  let n := if op % 2 == 1 then 8 else 4
  if a % n != 0 then s.wr Reg.SEQ_ATOM_STATUS_RESULT 1
  else if !hostArea a then s.wr Reg.SEQ_ATOM_STATUS_RESULT 2
  else
    let old := le (s.mem.bar2.read a n)
    let operand := s.rd64 Reg.SEQ_ATOM_OPERAND_LO Reg.SEQ_ATOM_OPERAND_HI
    let s := { s with mem := { s.mem with bar2 := s.mem.bar2.write a (leBytes n (atomic op old operand (8 * n))) } }
    (s.wr64 Reg.SEQ_ATOM_OLD_LO Reg.SEQ_ATOM_OLD_HI old).wr Reg.SEQ_ATOM_STATUS_RESULT 0

/-- HOST_ATOMIC (R521): `SEQ_ATOM_CTL` is written; OP first, then GO. -/
def execHostAtomic (value : W32) (s : State) : Host.Outcome State Fault Refusal :=
  settled (let s' := s.writeWord 0x3C00304 value
    if s.decodeOf .seq == .all && s.begins .seq && value.toNat / 2 ^ 31 == 1 then s'.hostAtomic (value.toNat % 4) else s')

/-! ### Sequencers (R514) -/

def sqHalted : Nat := 1

/-- A sequencer halts: counted, an event; with every one halted, the fatal cause SEQ_ALL (R551). -/
def State.haltSeq (s : State) (n : Nat) : State :=
  if s.rd (Reg.SEQ_STATE.at n) == sqHalted then s
  else
    let s := (s.wr (Reg.SEQ_STATE.at n) sqHalted).count Reg.SEQ_CNT_SEQ_HALTS
    let s := s.raise sevUncorrected .seq (Reg.SEQ_STATE.at n).off n
    if (List.range 16).all fun i => s.rd (Reg.SEQ_STATE.at i) == sqHalted then
      s.fatal (fatalCode .seqAll) (fatalPlace .seqAll).1 (fatalPlace .seqAll).2
    else s

/-- SEQUENCER_HALT (R514, R522): its work item starts again elsewhere, with nothing to show for it; a transfer of its DMA engine that fails
costs the work item only. -/
def execSequencerHalt (n : Fin 16) (f : SeqFault) (s : State) : Host.Outcome State Fault Refusal :=
  settled (match f with
    | .fault => s.haltSeq n.val
    | .scratchpad k => (s.spErrors ⟨k, true⟩ n.val).haltSeq n.val
    | .dma e => s.spErrors e n.val)

/-- SEQ_WORK_OVERRUN (R552): treated as an uncorrectable fault of the sequencer. -/
def execSeqWorkOverrun (n : Fin 16) (s : State) : Host.Outcome State Fault Refusal := settled (s.haltSeq n.val)

/-! ### Tile counters and bandwidth windows (R523, R527) -/

/-- TILE_COUNTER_CLEAR (R523): every counter of the tile, WRAP bits and cycles, at one cycle. -/
def execTileCounterClear (t : Fin 16) (value : W32) (s : State) : Host.Outcome State Fault Refusal :=
  settled (let s' := s.writeWord (0x3E01070 + 0x100 * t.val) value
    if s.decodeOf .pmu != .all || s.stopped .pmu || value.toNat % 2 == 0 then s'
    else
      let s := (List.range 8).foldl (fun (s : State) k => s.clearCounter ((Reg.PMU_CNT_TILE k).at t.val)) s'
      { s with pmu := { s.pmu with tileNs := Tab.del t.val s.pmu.tileNs } })

/-- WINDOW in ns. -/
def State.bwWindow (s : State) : Nat := s.rd Reg.PMU_BW_CFG_WINDOW * us

/-- One port's results: bytes in 64-byte units, saturating, and the peaks. -/
def State.putBandwidth (s : State) (p in_ out : Nat) : State :=
  let a := min (2 ^ 32 - 1) (in_ / 64)
  let b := min (2 ^ 32 - 1) (out / 64)
  (((s.wr (Reg.PMU_BW_IN.at p) a).wr (Reg.PMU_BW_OUT.at p) b).peak (Reg.PMU_BW_PEAK_IN.at p) a).peak (Reg.PMU_BW_PEAK_OUT.at p) b

/-- BANDWIDTH_WINDOW_END (R527): the bytes that entered and left each port (port, in, out) come with the command. -/
def execBandwidthWindowEnd (totals : List (Nat × Nat × Nat)) (s : State) : Host.Outcome State Fault Refusal :=
  settled (if s.stopped .pmu then s
    else
      let t := (ceilDiv s.pmu.windowAt s.bwWindow + 1) * s.bwWindow
      let s := s.atLeast t
      let s := (List.range 72).foldl (fun (s : State) p =>
        let e := (totals.find? fun e => e.1 == p).getD (p, 0, 0)
        s.putBandwidth p e.2.1 e.2.2) s
      let s := (s.wr Reg.PMU_BW_SEQ (s.rd Reg.PMU_BW_SEQ + 1)).wr Reg.PMU_BW_STATUS_VALID 1
      { s with pmu := { s.pmu with windowAt := t } })

/-- BANDWIDTH_WINDOW_WRITE (R527, R530): a WINDOW in range discards the window in progress, and the next one starts at the next multiple; one outside it is ignored
and sets RANGE (R559). -/
def execBandwidthWindowWrite (value : W32) (s : State) : Host.Outcome State Fault Refusal :=
  settled (let s' := s.writeWord 0x3E00010 value
    let w := value.toNat % 2 ^ 20
    if s.decodeOf .pmu != .all || s.is (fResetting .pmu) then s'
    else if !inRange Reg.PMU_BW_CFG_WINDOW w then s'.setErr .pmu 1
    else
      let s := (s'.wr Reg.PMU_BW_CFG_WINDOW w).wr Reg.PMU_BW_STATUS_VALID 0
      { s with pmu := { s.pmu with windowAt := ceilDiv s.tm.mono s.bwWindow * s.bwWindow } })

end Sys2Proof.Machine
end

