-- ==== Sys2Proof/Machine/Power.lean ====
section
/-! DEFINITION. Device states (R535 to R538), regulators (R532), thermal limits (R539, R578), clock loss (R540). -/

namespace Sys2Proof.Machine

/-! ### Idle units (R535) -/

/-- A pump tile has been idle for TILE_IDLE. -/
def State.tileIdle (s : State) (p : Nat) : Bool :=
  !s.pumpBusy p && decide (Tab.getD p 0 s.host.pumpLast + s.rd Reg.PWR_IDLE_TILE_IDLE * us ≤ s.tm.mono)

/-- A cistern has been idle for CISTERN_IDLE: no tag on its link, and no draw-down, refresh, levelling or rebuild work for it. -/
def State.cisternIdle (s : State) (c : Nat) : Bool :=
  let l := s.linkOf c
  l.tags.isEmpty && l.backlog.isEmpty && decide (l.lastTag + s.rd Reg.PWR_IDLE_CISTERN_IDLE * ms ≤ s.tm.mono) &&
  !s.is Reg.PAR_REBUILD_STATUS_ACTIVE && !(s.ftl.tanks.any fun e => e.2.st == tkDraw && e.2.members.any fun m => m.cistern == c)

/-- The shelf has been idle for SHELF_IDLE. -/
def State.shelfIdle (s : State) : Bool :=
  !(s.host.cmds.any fun e => !e.2.admin && e.2.stage != .held) &&
  decide (s.host.lastIo + s.rd Reg.PWR_IDLE_SHELF_IDLE * 10 * ms ≤ s.tm.mono) && !s.is Reg.FTL_DRAW_STATUS_MODE &&
  s.ftl.jobs.isEmpty && !s.is Reg.PAR_REBUILD_STATUS_ACTIVE && s.serving && s.sump.save.isNone && s.pod.engaged.isNone &&
  s.pod.proposal.isNone && s.ftl.versions.isEmpty && s.ftl.asm.isEmpty && s.ftl.fly.isEmpty

/-- The idle condition of a device state (Table 20.2). -/
def State.idleFor (s : State) (st : Nat) : Bool :=
  (st < 1 || (List.range 16).all fun p => s.tileIdle p) && (st < 2 || s.served.all fun c => s.cisternIdle c) && (st < 3 || s.shelfIdle)

/-- The target state (R536): the deepest that the tolerance, the idle condition and MAX_STATE allow. -/
def State.deepest (s : State) : Nat :=
  ((List.range 4).filter fun st => tolerates s.tMin st && s.idleFor st && decide (st ≤ s.rd Reg.PWR_CTL_MAX_STATE)).foldl max 0

/-- The counter of entries to a device state. -/
def entriesOf (st : Nat) : Counter :=
  match st with
  | 1 => Reg.PWR_CNT_S1_ENTRIES
  | 2 => Reg.PWR_CNT_S2_ENTRIES
  | _ => Reg.PWR_CNT_S3_ENTRIES

/-- DEVICE_STATE_EVALUATE (R536), at the monotonic time `now`: T_min and the target; entry to a deeper state, or the exit to a shallower
one.  An exit in progress completes first (R538). -/
def execDeviceStateEvaluate (now : Nat) (s : State) : Host.Outcome State Fault Refusal :=
  settled (let s := s.atLeast now
    let s := s.wr Reg.PWR_STATUS_T_MIN s.tMin
    let t := s.deepest
    if s.is Reg.PWR_STATUS_EXITING then s
    else if s.devState < t then ((s.wr Reg.PWR_STATUS_STATE t).wr Reg.PWR_STATUS_TARGET t).count (entriesOf t)
    else if t < s.devState then (s.wake 1).wr Reg.PWR_STATUS_TARGET t
    else s.wr Reg.PWR_STATUS_TARGET t)

/-- DEVICE_STATE_EXIT_DONE (R536): the state left for is reached. -/
def execDeviceStateExitDone (s : State) : Host.Outcome State Fault Refusal :=
  settled (if !s.is Reg.PWR_STATUS_EXITING then s
    else (s.wr Reg.PWR_STATUS_STATE (s.rd Reg.PWR_STATUS_TARGET)).wr Reg.PWR_STATUS_EXITING 0)

/-! ### Regulators (R532) -/

/-- What the loss of a domain does to its unit: a Skalas link fails, a port or peer link goes down, a manifold bank is fenced whole, the
PCIe link drops; other units are simply not powered (`domainOn`) or not chosen (`goodCores`, `leastPump`). -/
def State.unitFails (s : State) (d : Nat) : State :=
  if d < 48 then ((s.linkOff d).wr (Reg.SKL_LINK_STATE.at d) lkFailed).portDown d
  else if d < 60 then
    let n := if d < 56 then (d - 48) / 2 else d - 56
    (List.range (subPorts (s.params.ethMode.getD n 0))).foldl (fun (s : State) k =>
      let p := 48 + n + 72 * k
      if s.portUp p && !s.portServes p then s.portDown p else s) s
  else if d < 92 then (if d - 60 < s.params.sumpBanks then s else s.fenceCells ((d - 60) * bankCells) bankCells)
  else if d == 140 || d == 141 then
    let k := d - 140
    let s := ((s.wr (Reg.PL_LINK_STATE.at k) lkDown).wr (Reg.PL_LINK_WIDTH.at k) 0).wr (Reg.PL_LINK_NEIGHBOUR_VALID.at k) 0
    (s.dropHops k).portDown (52 + k)
  else if d == 142 then { s with pcie := { s.pcie with linkUp := false } }
  else s

/-- A switchable domain fails: gated and marked until the next full reset. -/
def State.domainFails (s : State) (d : Nat) : State :=
  if s.domainFailed d then s
  else
    let f := Reg.PWR_DFAIL_FAILED.at (d / 32)
    let s := (s.wr f (s.rd f + 2 ^ (d % 32))).count Reg.PWR_CNT_DOMAIN_FAILS
    (s.raise sevUncorrected .pwr f.off d).unitFails d

/-- REGULATOR_FAULT (R532): of a switchable domain, or (none) of a rail that is not switchable, which is fatal. -/
def execRegulatorFault (domain : Option (Fin 147)) (s : State) : Host.Outcome State Fault Refusal :=
  settled (match domain with
    | some d => s.domainFails d.val
    | none => s.fatal (fatalCode .rail) (fatalPlace .rail).1 (fatalPlace .rail).2)

/-! ### Thermal limits (R539, R578) -/

/-- WARN or THROTTLE by a limit, with 5 °C of hysteresis. -/
def overLimit (was : Bool) (t : Int) (limit : Nat) : Bool := if was then decide ((limit : Int) - 5 < t) else decide ((limit : Int) ≤ t)

/-- Keep the package temperature and judge the composite (the higher of it and the hottest cistern, Table 10.3). -/
def State.judgeHeat (s : State) (package : Int) : State :=
  let comp := max package s.hottest
  let warn := overLimit (s.is Reg.PWR_THERM_STATUS_WARN) comp (s.rd Reg.PWR_THERM_WCTEMP)
  let thr := overLimit (s.is Reg.PWR_THERM_STATUS_THROTTLE) comp (s.rd Reg.PWR_THERM_CCTEMP)
  let t := if thr && !s.is Reg.PWR_THERM_STATUS_THROTTLE then s.count Reg.PWR_CNT_THROTTLE_EVENTS else s
  let t := (t.wrB Reg.PWR_THERM_STATUS_WARN warn).wrB Reg.PWR_THERM_STATUS_THROTTLE thr
  let t := (t.wr Reg.PWR_THERM_STATUS_PACKAGE (twos 1 package)).wr Reg.PWR_THERM_STATUS_COMPOSITE (twos 1 comp)
  if t.tempCrossed && !s.tempCrossed then t.tenantEvent none (1, 1) else t

/-- I3C_SENSOR_READ (R539): die sensors, the I3C bus unless it is isolated, and the input; a short or open isolates the bus. -/
def execI3cSensorRead (r : Sensors) (s : State) : Host.Outcome State Fault Refusal :=
  settled (let s := r.die.zipIdx.foldl (fun (s : State) (e : Int × Nat) =>
      if e.2 < 6 then s.wr (Reg.PWR_SENSOR_TEMP.at e.2) (twos 1 e.1) else s) s
    let s := (s.wr Reg.PWR_INPUT_VIN r.vin.toNat).wr Reg.PWR_INPUT_IIN r.iin.toNat
    let s := if s.is Reg.PWR_I3C_FAULT then s
      else if r.fault.val == 0 then s.wr Reg.PWR_I3C_SENSORS r.present.toNat
      else ((s.wr Reg.PWR_I3C_FAULT 1).wr Reg.PWR_I3C_KIND r.fault.val).wr Reg.PWR_I3C_SENSORS 0
    s.judgeHeat ((r.die.take 6).foldl max (-128)))

/-- I3C_BUS_RETRY (R539): with the bus good again, its sensors are back. -/
def execI3cBusRetry (found : Option (BitVec 8)) (s : State) : Host.Outcome State Fault Refusal :=
  settled (if !s.is Reg.PWR_I3C_FAULT then s
    else match found with
      | none => s
      | some n => ((s.wr Reg.PWR_I3C_FAULT 0).wr Reg.PWR_I3C_KIND 0).wr Reg.PWR_I3C_SENSORS n.toNat)

/-- THERMAL_TRIP (R539, R578): the package reaches 115 °C; THERM_N goes low and the controller acts as for RESET_N held low, save first. -/
def execThermalTrip (package : Int) (s : State) : Host.Outcome State Fault Refusal :=
  settled (if package < 115 || s.prim.tripHeld then s
    else
      let s := ((s.wr Reg.PWR_THERM_STATUS_PACKAGE (twos 1 package)).wr Reg.PWR_THERM_STATUS_TRIPPED 1).send (.thermN true)
      let s := { s with prim := { s.prim with tripHeld := true } }
      s.takeReset .resetN)

/-- Priming starts at AON, once nothing holds the controller in reset any longer (R77). -/
def State.leaveReset (s : State) : State := if s.heldInReset || s.st != stAON then s else s.enterState stAON

/-- THERMAL_TRIP_RELEASE (R539, R578): the package falls below 95 °C; the controller releases itself. -/
def execThermalTripRelease (package : Int) (s : State) : Host.Outcome State Fault Refusal :=
  settled (if 95 ≤ package || !s.prim.tripHeld then s
    else
      let s := (s.wr Reg.PWR_THERM_STATUS_PACKAGE (twos 1 package)).send (.thermN false)
      let s := { s with prim := { s.prim with tripHeld := false } }
      s.leaveReset)

/-- RESET_N_RELEASE (R77). -/
def execResetNRelease (s : State) : Host.Outcome State Fault Refusal :=
  settled (if !s.prim.resetNLow then s
    else
      let s := { s with prim := { s.prim with resetNLow := false } }
      s.leaveReset)

/-- CLOCK_LOCK_LOSS (R540): a domain that was locked is lost; the fatal cause CLOCK. -/
def execClockLockLoss (k : Fin 20) (s : State) : Host.Outcome State Fault Refusal :=
  settled (let w := s.rd Reg.PWR_CLK_LOCK
    if w / 2 ^ k.val % 2 == 0 then s
    else (s.wr Reg.PWR_CLK_LOCK (w - 2 ^ k.val)).fatal (fatalCode .clock) (fatalPlace .clock).1 (fatalPlace .clock).2)

end Sys2Proof.Machine
end

