-- ==== Sys2Proof/Machine/Policy.lean ====
section
/-! DEFINITION. POLICY records (R61, R62), starting a block (R72, R85, R341), and the per-block reset (R99). -/

namespace Sys2Proof.Machine

/-! ### POLICY (R61) -/

/-- A field that POLICY may set: RW or RWS, and not static. -/
def policyField (f : Field) : Bool := f.cls != .static && (f.acc == .rw || f.acc == .rws)

/-- Does a record's mask cover only bits that POLICY may set? -/
def State.maskGood (s : State) (r : PolicyRec) : Bool :=
  let fs := fieldsAt r.off
  let ok := (fs.filter policyField).foldl (fun (m : Nat) f => m ||| (2 ^ f.width - 1) * 2 ^ f.lo) 0
  !fs.isEmpty && !s.absentNode r.off && (r.mask.toNat &&& ok) == r.mask.toNat

/-- Set the masked bits of the fields that `p` chooses; a 64-bit value is set by its low word and then its high word (R62), bit 3 of
EVT_EN reads 1 (Table 22.1), and a watchdog period counts from now (R552).  Bits of the value outside the mask, against which R61 names
no consequence, are dropped and the record stands (DESIGN CHOICE: log entry 57). -/
def State.applyRec (s : State) (p : Field → Bool) (r : PolicyRec) : State :=
  ((fieldsAt r.off).filter fun f => policyField f && p f && r.mask.toNat / 2 ^ f.lo % 2 ^ f.width != 0).foldl
    (fun (s : State) f =>
      let m := r.mask.toNat / 2 ^ f.lo % 2 ^ f.width
      let v := (s.rd f - (s.rd f &&& m)) ||| (r.value.toNat / 2 ^ f.lo % 2 ^ f.width &&& m)
      let evtEn := (blockAt f.off).any fun b => f.off == commonBase b + 16
      let s := if f.key == Reg.GLB_WDOG_PERIOD.key then { s with evt := { s.evt with kickAt := s.tm.mono } } else s
      s.wrPaired f (if evtEn then v ||| 8 else v) fun s f v => s.wr f v) s

/-- Apply records in image order, each on the fields that `p` chooses; the index of the first that may not be applied ends it. -/
def State.applyPolicy (s : State) (p : Field → Bool) : List PolicyRec → State × Option Nat
  | [] => (s, none)
  | r :: rest => if s.maskGood r then (s.applyRec p r).applyPolicy p rest else (s, some r.index)

/-- The booted image's records. -/
def State.policy (s : State) : List PolicyRec := (s.img.booted.getD {}).policy

/-! ### Starting a block (R72, R341) -/

/-- The conditions on the media window schedule under which TIME starts (R341). -/
def State.scheduleGood (s : State) : Bool :=
  let perSet := s.slots / s.sets
  let fields := [Reg.TIME_WIN_CFG_SLOTS, Reg.TIME_WIN_CFG_SETS, Reg.TIME_WIN_CFG_SLOT_LEN, Reg.TIME_WIN_CFG_GUARD,
    Reg.TIME_WIN_OPS_ERASE_BOUND, Reg.TIME_WIN_OPS_READ_BOUND] ++ slots48.map fun n => Reg.TIME_WIN_OFFSET.at n
  (fields.all fun f => inRange f (s.rd f)) && s.slots % s.sets == 0 &&
    (slots48.all fun n => decide (s.rd (Reg.TIME_WIN_OFFSET.at n) < perSet)) &&
    decide (s.eraseBound + 2 * s.guardNs ≤ s.slotLen) &&
    s.params.layouts.all fun w => decide (ceilDiv (layoutMembers w) (winLimit w) ≤ s.slots)

/-- What was held while the block did not run begins (R72); TIME compares its schedule with the other members' (R345). -/
def State.resume (s : State) (b : Block) : State :=
  match b with
  | .skl n => (s.issueAll n.val).startPort n.val
  | .mfd => s.startPorts fun _ => true
  | .eth n => s.startPorts fun p => ethOf p == some n.val
  | .pla => s.startPort 52
  | .plb => s.startPort 53
  | .slot => s.tryChecks
  | .ftl => s.assignAll
  | .par =>
    let s := (s.ftl.asm.filter fun e => e.2.full).foldl (fun (s : State) e => s.programStripe e.1) s
    (s.ftl.jobs.filter fun e => e.2.recon && e.2.asked.isEmpty).foldl (fun (s : State) e => s.reconStep e.1) s.assignAll
  | .pcie => s.drainReads
  | .seq => s.takeMboxes 4
  | .time => ({ s with tm := { s.tm with mismatch := s.schedulesDiffer } }).checkCoord.showMode
  | .well => s.showPrd
  | _ => s

/-- Start a block: RUN reads 1 and STOPPED 0; TIME with a schedule that R341 refuses stays stopped, RUN reading 0. -/
def State.startBlock (s : State) (b : Block) : State :=
  if b = .time ∧ !s.scheduleGood then (s.setErr .time 8).wr (fRun .time) 0
  else ((s.wr (fRun b) 1).wr (fStopped b) 0).resume b

/-! ### The per-block reset (R99) -/

/-- Blocks whose content lies in memories, links or media that a per-block reset keeps (Table 3.5): their status fields go on showing it. -/
def keepsStatus : Block → Bool
  | .sump | .ftl | .par | .mem | .slot | .pcie => true
  | _ => false

/-- Does a per-block reset keep a field: static, RWS or in MRAM; RUN and the block's status; a status field that goes on showing what is
kept, the recent-transaction table's start and occupancy among them (R141); shelf time and its servo, which run on (R341)? -/
def keptByBlock (b : Block) (f : Field) : Bool :=
  f.cls == .static || f.acc == .rws || f.domain == .mram || f.domain == .sticky ||
  f.off == commonBase b + 4 || f.off == commonBase b + 8 ||
  (f.acc == .ro && (keepsStatus b || (decide (b = .time) && decide (f.off < 0x300200)) || f.off == Reg.WELL_PRD_START_LO.off ||
    f.off == Reg.WELL_PRD_START_HI.off || f.off == Reg.WELL_PRD_TABLE_OCCUPANCY.off))

/-- The fields of a block back at their reset values, its shadows with them. -/
def State.resetBlockRegs (s : State) (b : Block) : State :=
  let stays := fun (k : Nat) => match fieldOfKey k with
    | none => true
    | some f => blockAt f.off != some b || keptByBlock b f
  { s with regs := { s.regs with
      active := s.regs.active.filter fun e => stays e.1
      shadow := s.regs.shadow.filter fun e => blockAt (e.1 / 32) != some b } }

/-- A peer link goes down, with what was heard over it. -/
def State.plDown (s : State) (k : Nat) : State :=
  let s := { s with pod := { s.pod with links := Tab.del k s.pod.links } }
  (s.dropHops k).portDown (52 + k)

/-- Cells held under keys that `p` names are free. -/
def State.freeHeld (s : State) (p : Nat → Bool) : State :=
  ((s.mfd.held.filter fun e => p e.1).foldl (fun (s : State) e => s.freeCells e.1) s).resumeSolicits

/-- The internal state of a block, beside its fields, at its reset value: a link trains anew, commands and frames that the block held
are lost, reads of the master engine having failed (R499), frames of the manifold being reported as copies that failed (R227), caches are empty; the recent-transaction table, which only
a priming initialises (R141), and the hold after a step (R136) stay; every slot channel's gate goes off into HOLDOFF (R404); what waits for sump slots is lost, and the sweeps of
a rebuild begin anew, while DRAM, buffer SRAM and MRAM keep their content (Table 3.5). -/
def State.resetInside (s : State) (b : Block) : State :=
  match b with
  | .time => ({ s with tm := { s.tm with units := [], pendingDraw := [], intentMine := none, intentPeer := none,
                                         mismatch := false, unplaceable := false, coordFrom := none } }).checkCoord.showMode
  | .pcie =>
    let rs := s.pcie.tags.map (fun e => e.2.rd) ++ s.pcie.waiting
    let s := { s with pcie := { s.pcie with tags := [], quarantined := [], waiting := [], spdm := {} } }.freeHeld fun k => k % 8 == 4
    rs.foldl (fun (s : State) r => s.readFails r) s
  | .eth n => (List.range 8).foldl (fun (s : State) k => s.portDown (48 + n.val + 72 * k)) s
  | .well =>
    let s := s.rc.qps.foldl (fun (s : State) (e : Nat × Qp) => if e.2.assoc == 0 then s.qpToErr e.1 else s.endAssoc e.2.assoc) s
    let s := s.loseCmds fun c => c.path.isPrd
    let s : State := { s with
      rc := { gens := s.rc.gens, uses := s.rc.uses, parked := s.rc.parked }
      prd := { s.prd with access := none } }
    (s.freeHeld fun k => k % 8 == 1 || k % 8 == 2 || k % 8 == 3).showQps.showPrd.showHosts
  | .qos =>
    let s := s.loseCmds fun c => c.stage == .held
    ({ s with qos := {} }).resetParents
  | .mfd =>
    let fs := s.mfd.frames.map (·.2) ++ s.mfd.waiting
    let s := ({ s with mfd := { down := s.mfd.down, next := s.mfd.next, fenced := s.mfd.fenced } } : State).wr Reg.MFD_FENCED s.fencedCells
    fs.foldl (fun (s : State) f => f.left.foldl (fun (s : State) p => s.reportCopy f p) s) s
  | .pump n => s.loseCmds fun c => !c.admin && c.pump == n.val && c.stage == .admitted
  | .ftl => ({ s with ftl := { s.ftl with
      waitSegs := [], segs := s.ftl.segs.map fun (e : Nat × Segs) => (e.1, ({ all := false } : Segs)), levelling := none, debt := 0 } })
  | .skl n => if (s.chan n.val).rstHigh then (s.linkOff n.val).toDetect n.val else s.linkOff n.val
  | .cry =>
    let s := { s with cry := { s.cry with keyOp := none, xtsCache := [], gcmCache := [], laReleasing := false } }
    s.auditShow
  | .pla => s.plDown 0
  | .plb => s.plDown 1
  | .pod =>
    let at_ := s.selfIndex
    let s := (List.range 8).foldl (fun (s : State) m => s.endForwarded m) s
    let s := { s with pod := { epochs := s.pod.epochs, ownEpoch := s.pod.ownEpoch, links := s.pod.links } }
    (s.wr Reg.POD_STATUS_MEMBER at_).wrB Reg.POD_STATUS_MEMBER_VALID s.selfEntry.isSome
  | .seq => { s with mem := { s.mem with bar2 := abortMboxes s.mem.bar2 }, seq := {} }.loseCmds fun c => c.path.isMailbox
  | .slot => slots48.foldl (fun (s : State) n => (s.gateOff n chHoldoff).wr (Reg.SLOT_STATUS_FAULT_CAUSE.at n) 0) s
  | .sump =>
    let s := s.loseCmds fun c => c.stage == .waitSlots
    { s with sump := { s.sump with waiting := [], budget := none, copyback := false } }
  | .par => { s with ftl := { s.ftl with swept := [] } }
  | .pmu =>
    let s := (List.range 16).foldl (fun (s : State) t =>
      (List.range 8).foldl (fun (s : State) k => s.clearCounter ((Reg.PMU_CNT_TILE k).at t)) s) s
    { s with pmu := { windowAt := s.tm.mono } }
  | _ => s

/-- The per-block reset: fields to their POLICY values, internal state to its reset value; QOS shows its status anew (R207, R208). -/
def State.resetBlock (s : State) (b : Block) : State :=
  let s := (s.resetBlockRegs b).resetInside b
  let s := (s.applyPolicy (fun f => blockAt f.off == some b && !keptByBlock b f) s.policy).1
  if b = .qos then s.showQos.showLatTol else s

end Sys2Proof.Machine
end

