-- ==== Sys2Proof/Machine/BlockCtl.lean ====
section
/-! DEFINITION. The family of block control (R72, R99, R558, R561): the common control register of each block. -/

namespace Sys2Proof.Machine

/-- Is the manifold port sending a frame, or receiving one? -/
def State.portBusy (s : State) (p : Nat → Bool) : Bool :=
  (s.mfd.sending.any fun e => p e.1) || s.mfd.receiving.any fun e => p e.1

/-- Has a queue pair a message under way, a request unanswered, or its flush in ERR (R123)? -/
def Qp.busy (q : Qp) : Bool :=
  !q.sent.isEmpty || !q.reads.isEmpty || q.capsule.isSome || q.writeAt.isSome || q.st == qpErr

/-- Has a host command been accepted and not answered: neither held for QOS nor an event request? -/
def Cmd.underWay (c : Cmd) : Bool := c.stage != .held && c.stage != .aer

/-- Has the block an operation in flight (R72): a command or request that it has accepted, a frame or capsule that it is sending or
receiving, or a request to another block, a link or a cistern that has not been answered? -/
def State.blockBusy (s : State) (b : Block) : Bool :=
  match b with
  | .pcie => !s.pcie.tags.isEmpty || s.host.cmds.any fun e => e.2.path.isPcie && e.2.underWay
  | .well =>
    (s.rc.qps.any fun e => e.2.busy) || !s.rc.fetching.isEmpty || s.prd.access.isSome ||
      s.host.cmds.any fun e => !e.2.path.isPcie && !e.2.path.isMailbox && e.2.underWay
  | .mfd => s.portBusy fun _ => true
  | .eth n => s.portBusy fun p => ethOf p == some n.val
  | .pla => s.portBusy (· == 52)
  | .plb => s.portBusy (· == 53)
  | .pump n => s.host.cmds.any fun e => !e.2.admin && e.2.pump == n.val && e.2.stage != .held && e.2.stage != .admitted
  | .ftl => !s.ftl.jobs.isEmpty || !s.ftl.fly.isEmpty || s.ftl.flushing.isSome || !s.ftl.waitSegs.isEmpty || s.is Reg.FTL_BLOCK_STATUS_BUSY ||
      s.is Reg.FTL_NS_STATUS_BUSY
  | .par => !s.ftl.fly.isEmpty || s.ftl.jobs.any fun e => e.2.recon && !e.2.asked.isEmpty
  | .skl n => !(s.linkOf n.val).tags.isEmpty || s.portBusy (· == n.val)
  | .slot => slots48.any fun n => s.chState n == chCheck || s.chState n == chRamp
  | .cry => s.cry.keyOp.isSome || s.is Reg.CRY_AUDIT_VERIFY_BUSY || s.is Reg.CRY_RET_STATUS_BUSY || s.cry.laReleasing
  | .sump =>
    s.sump.save.isSome || !s.sump.zeroing.isEmpty || s.is Reg.SUMP_REGION_STATUS_BUSY || s.sump.securing || s.sump.copyback ||
      s.host.cmds.any fun e => e.2.stage == .waitMirror
  | .pod =>
    !s.pod.awaiting.isEmpty || s.pod.engaged.isSome || !s.pod.fencing.isEmpty || !s.pod.moving.isEmpty ||
      s.host.cmds.any fun e => e.2.stage == .remote
  | .seq => !s.seq.running.isEmpty || s.is Reg.SEQ_ATOM_STATUS_BUSY
  | .pmu => s.is Reg.PMU_SNAP_STATUS_BUSY
  | _ => false

/-- A write to a block's common control register: BAR0 answers it as any write (R489), its bits having rows of their own; `f` where the
block decodes. -/
def State.controlWrite (s : State) (b : Block) (value : W32) (f : State → State) : State :=
  let s' := s.writeWord (commonBase b + 4) value
  if s.decodeOf b == .all then f s' else s'

/-- BLOCK_STOP (R72, R558): RUN reads 0 and the block begins nothing more; GLB, IMG and PWR ignore it. -/
def execBlockStop (b : Block) (s : State) : Host.Outcome State Fault Refusal :=
  settled (s.controlWrite b 0 fun s =>
    if alwaysRuns b then s.setErr b 1
    else
      let s := s.wr (fRun b) 0
      if s.stopped b || s.prim.stopping.contains (blockCode b) then s
      else { s with prim := { s.prim with stopping := blockCode b :: s.prim.stopping } })

/-- BLOCK_STOPPED (R72, Table 22.3): nothing of the block is in flight, and a commit under way has been applied; a RUN written again
starts the block after that. -/
def execBlockStopped (b : Block) (s : State) : Host.Outcome State Fault Refusal :=
  settled (
    if !s.prim.stopping.contains (blockCode b) || s.is Reg.GLB_COMMIT_STATUS_BUSY || s.blockBusy b then s
    else
      let s := { s with prim := { s.prim with stopping := s.prim.stopping.filter (· != blockCode b) } }
      let s := s.wr (fStopped b) 1
      let s := match b with
        | .time => s.endUnits.showUnits.checkCoord.showMode
        | .well => s.showPrd
        | _ => s
      if s.is (fRun b) then s.startBlock b else s)

/-- BLOCK_START (R72, Table 22.3): a block that still drains or resets starts after that. -/
def execBlockStart (b : Block) (s : State) : Host.Outcome State Fault Refusal :=
  settled (s.controlWrite b 1 fun s =>
    if alwaysRuns b then s
    else if s.stopped b && !s.is (fResetting b) then s.startBlock b
    else s.wr (fRun b) 1)

/-- BLOCK_RESET (R99, R558): on a stopped block; otherwise NOT_STOPPED is set. -/
def execBlockReset (b : Block) (s : State) : Host.Outcome State Fault Refusal :=
  settled (s.controlWrite b 2 fun s =>
    if alwaysRuns b || !s.stopped b then s.setErr b 2
    else (s.resetBlock b).wr (fResetting b) 1)

/-- BLOCK_RESET_DONE (R558, Table 22.3): RESETTING reads 0; a block with RUN 1 starts. -/
def execBlockResetDone (b : Block) (s : State) : Host.Outcome State Fault Refusal :=
  settled (
    if !s.is (fResetting b) then s
    else
      let s := s.wr (fResetting b) 0
      if s.is (fRun b) && s.stopped b then s.startBlock b else s)

end Sys2Proof.Machine
end

