-- ==== Sys2Proof/Machine/Recover.lean ====
section
/-! DEFINITION. Recovery (R91 to R93, R312 to R314, R427), and the entry into POD and SERVE (R94, R95, R89, R474). -/

namespace Sys2Proof.Machine

/-- RECOVER_MODE codes. -/
def rmClean : Nat := 1
def rmReplay : Nat := 2
def rmResync : Nat := 3
def rmScan : Nat := 4
def rmPeer : Nat := 5

/-! ### The path (R91, R425) -/

/-- Does every admitted cistern report EPOCH 0? -/
def State.newMedia (s : State) : Bool :=
  slots48.all fun n => s.rd (Reg.SKL_STATUS_OUTCOME.at n) != ocAdmitted || s.rd64 (Reg.SKL_EPOCH_LO.at n) (Reg.SKL_EPOCH_HI.at n) == 0

/-- The recovery path: PEER overrides the rest; a sump kept by a warm reset is replayed (R98); otherwise the governing copy of the save
descriptor decides. -/
def State.recoverMode (s : State) (f : RecoverFacts) : Nat :=
  if f.peerHoldsHigherEpoch && s.partner.isSome then rmPeer
  else if s.prim.keptSump then rmReplay
  else if !f.mramReadable then rmScan
  else match s.desc with
    | none => if s.sump.factory && s.newMedia then rmClean else rmScan
    | some d =>
      if d.st == dsSaved then rmReplay
      else if d.st == dsSaving || d.run then rmResync
      else rmClean

/-! ### What each path does -/

/-- Regions whose content is gone: only their key generations stay. -/
def forgetRegions (t : Tab Region) : Tab Region := t.map fun e => (e.1, ({ gen := e.2.gen } : Region))

/-- The first priming writes the partition header and both descriptor copies. -/
def State.formatMram (s : State) : State :=
  if s.sump.factory then
    let s := (s.putDesc id).putDesc id
    { s with sump := { s.sump with factory := false } }
  else s

/-- The saved slots come back into the sump in ORDER, unassigned (R427); those that could not be read are left out. -/
def State.restoreSump (s : State) (lost : List Nat) : State :=
  let vs := (s.sump.frozen.filter fun v => !lost.contains v.order).map fun (v : Version) =>
    { v with seq := 0, since := s.tm.mono, sram := 0 }
  let s := { s with ftl := { s.ftl with
    versions := vs, applied := [], order := vs.foldl (fun (m : Nat) (v : Version) => max m v.order) s.ftl.order } }
  s.setOccupied s.heldSlots

/-- The highest SEQ under which a record since the checkpoint names an IU (R313): a commit record whose stripe holds it, or a journalled
marker. -/
def State.recordSeq (s : State) (stripes : List FoundStripe) (nsid iu : Nat) : Nat :=
  let committed := (stripes.filter fun f => f.recorded && f.ius.any fun u => u.nsid == nsid && u.iu == iu).map (·.seq)
  let marked := s.ftl.journal.filterMap fun r => match r with
    | .mapMark n i q _ => if n == nsid && i == iu then some q else none
    | _ => none
  (committed ++ marked).foldl max 0

/-- Place an IU found on the media again, as a new version of its stripe's class (R313). -/
def State.placeAgain (s : State) (cls : Nat) (u : FoundIu) : State :=
  let s := s.enterIu u.nsid u.iu (u.sectors.zipIdx.map fun e => (e.2, sectorFrom e.1)) none
  { s with ftl := { s.ftl with versions := s.ftl.versions.map fun (v : Version) => if v.order == s.ftl.order then { v with cls := cls } else v } }

/-- One examined stripe (R313): a recorded one only has its disagreeing parity marked; a sound one without a record is committed with
RESYNC set, and its IUs that no newer record names are applied (R254); of any other, each such IU is placed again. -/
def State.resyncStripe (s : State) (newest : Nat → Nat → Nat) (f : FoundStripe) : State :=
  let fresh := f.ius.filter fun (u : FoundIu) => decide (newest u.nsid u.iu ≤ f.seq)
  let s := s.count Reg.PAR_CNT_RESYNC_STRIPES
  let s := if f.badParity.isEmpty then s else s.count Reg.PAR_CNT_PARITY_MISMATCH
  if f.recorded then
    if f.agree then s
    else
      let tk := s.tankOf f.tank
      let was := Tab.getD f.index [] tk.missing
      let missing := was ++ f.badParity.filter fun p => !was.contains p
      (s.updTank f.tank fun tk => { tk with missing := Tab.put f.index missing tk.missing }).refreshAdd f.tank true
  else if f.agree then
    let ius := fresh.map fun (u : FoundIu) =>
      { nsid := u.nsid, iu := u.iu, iu16 := u.iu16, chunk := u.chunk, slot := u.slot, src := .sump 0 : Placed }
    let st : Stripe := { seq := f.seq, tank := f.tank, index := f.index, layout := f.layout, cls := f.cls, wtime := s.tm.shelf
                         since := s.tm.mono, ius := ius, resync := true }
    let s := { s with ftl := { s.ftl with placeSeq := max s.ftl.placeSeq f.seq } }
    let old := f.ius.length - fresh.length
    (if old == 0 then s else s.count Reg.FTL_CNT_SUPERSEDED old).commitStripe st
  else fresh.foldl (fun (s : State) u => s.placeAgain f.cls u) s

/-- RESYNC and SCAN: the sump of the stop is gone; the tanks open at the stop are closed short; the stripes are resolved in SEQ order. -/
def State.resync (s : State) (f : RecoverFacts) : State :=
  let s := { s with sump := { s.sump with frozen := [], regions := forgetRegions s.sump.regions } }
  let s := (s.setOccupied 0).resyncTanks fun t => t.mine
  let newest := s.recordSeq f.stripes
  f.stripes.foldl (fun (s : State) x => s.resyncStripe newest x) s

/-- SAVE_LOST is set (R427). -/
def State.markSaveLost (s : State) : State := (s.wr Reg.SUMP_STATUS_SAVE_LOST 1).putDesc fun d => { d with saveLost := true }

/-- PEER: the local save and sump are discarded; the partner owns the namespaces and the tanks. -/
def State.yieldToPeer (s : State) : State :=
  let p := s.partner.getD 0
  let s := { s with sump := { s.sump with frozen := [], regions := forgetRegions s.sump.regions } }
  let s := (s.setOccupied 0).resyncTanks fun t => t.mine
  { s with
    ns := s.ns.map fun (e : Nat × Ns) => (e.1, if e.2.owner == s.selfIndex then { e.2 with owner := p } else e.2)
    ftl := { s.ftl with tanks := s.ftl.tanks.map fun (e : Nat × Tank) => (e.1, { e.2 with mine := false }) } }

/-- `FTL_CKPT_SEQ` as the journal's checkpoint records give it (R249, Table 15.4). -/
def State.showCheckpoint (s : State) : State :=
  let seq := s.ftl.journal.foldl (fun (m : Nat) r => match r with
    | .checkpoint q _ _ => max m q
    | _ => m) (s.rd64 Reg.FTL_CKPT_SEQ_LO Reg.FTL_CKPT_SEQ_HI)
  s.wr64 Reg.FTL_CKPT_SEQ_LO Reg.FTL_CKPT_SEQ_HI seq

/-- SCAN: the map, the erase counts and the lost list are those of the last checkpoint (R279, R314); the journal and the commit records are
not readable. -/
def State.loadCheckpoint (s : State) : State :=
  let tags := s.ftl.zeroTags
  let s := { s with ftl := { s.ftl with
    map := [], journal := [], ring := [], lost := s.ftl.ckptLost, lostMissed := []
    tanks := s.ftl.tanks.map fun (e : Nat × Tank) => (e.1, { e.2 with valid := 0 })
    blocks := s.ftl.blocks.map fun (e : Nat × Blk) => (e.1, { e.2 with pe := Tab.getD e.1 0 s.ftl.ckptPe }) } }
  let s := s.ftl.ckptMap.foldl (fun (s : State) (e : Nat × MapVal) =>
    if Tab.has (e.1 / 2 ^ 48) s.ns then s.setMap (e.1 / 2 ^ 48) (e.1 % 2 ^ 48) (some e.2) else s) s
  { s with ftl := { s.ftl with zeroTags := tags.filter fun (e : Nat × (Nat × Nat)) => Tab.find e.1 s.ftl.map == some .zero } }

/-- SCAN: a tank of which every map entry's location has been superseded is erased (R273). -/
def State.eraseSuperseded (s : State) : State :=
  (s.ftl.tanks.filter fun e => e.2.mine && e.2.valid == 0 && (e.2.st == tkFull || e.2.st == tkDraw) && e.2.cls != clsMeta).foldl
    (fun (s : State) e => ((s.updTank e.1 fun tk => { tk with st := tkErasing }).journalTank e.1 tkErasing).showTanks) s

/-- Do the work of the path (Table 3.3); what is to be placed again goes into stripes, padded where needed (R92). -/
def State.beginRecover (s : State) (f : RecoverFacts) : State :=
  let m := s.recoverMode f
  let s := (s.wr Reg.GLB_PRIME_STATUS_RECOVER_MODE m).showCheckpoint
  let s := if m == rmClean then s.formatMram
    else if m == rmReplay then (s.restoreSump f.lostSaved).resyncTanks fun t => t.mine
    else if m == rmPeer then s.yieldToPeer
    else
      if m == rmResync then s.markSaveLost.resync f
      else
        let stripes := f.stripes.map fun (x : FoundStripe) => { x with recorded := false }
        (s.formatMram.loadCheckpoint.resync { f with stripes := stripes }).eraseSuperseded
  let s := f.lost.foldl (fun (s : State) x => s.addLost x.nsid x.lba x.tank x.stripe 2) s
  let s := { s with prim := { s.prim with toPlace := s.ftl.versions.length } }
  (s.composeAll.assignAll.padStripes).showRecovery.showLost

/-- Is placing of recovery still under way: stripes assembled or programmed, or reads of it? -/
def State.placing (s : State) : Bool := !s.ftl.asm.isEmpty || !s.ftl.fly.isEmpty || !s.ftl.jobs.isEmpty

/-- The blocks that held the save give way to fresh ones, and are erased in draw-down windows (R424). -/
def State.renewSaveArea (s : State) : State :=
  let s := { s with
    ftl := { s.ftl with blocks := s.ftl.blocks.map fun (e : Nat × Blk) => (e.1, if e.2.plsa then { e.2 with plsa := false, dirty := true } else e.2) }
    sump := { s.sump with rows := [] } }
  s.updateRows

/-- A full reset advances the key generation of every region that it restores (R188). -/
def State.renewKeys (s : State) : State :=
  (s.sump.regions.filter fun e => e.2.st != rgInvalid).foldl (fun (s : State) (e : Nat × Region) =>
    let gen := (e.2.gen + 1) % 256
    let key := gen + 256 * e.1 + 2 ^ 14 * s.freeVal 18
    s.freeNext.updRegion e.1 fun r => { r with gen := gen, rkey := key, draining := [] }) s

/-- The end of recovery: once every IU restored lies in a committed stripe the descriptor reads CLEAN and RUN 0 (R92). -/
def State.endRecover (s : State) : State :=
  let m := s.rd Reg.GLB_PRIME_STATUS_RECOVER_MODE
  let s := if m == rmResync || m == rmScan then s.smart 144 else s
  let used := (m == rmReplay && !s.prim.keptSump) || m == rmResync
  let s := if s.ftl.versions.isEmpty then
      (let t : State := { s with sump := { s.sump with frozen := [] } }
       t.putDesc fun d => { d with st := dsClean, run := false })
    else s
  let s := if used && s.ftl.versions.isEmpty then s.renewSaveArea else s
  let s := if s.prim.keptSump then s else s.renewKeys
  let s := { s with prim := { s.prim with keptSump := false } }
  (s.wr Reg.GLB_PRIME_PROGRESS 1000).wr Reg.GLB_PRIME_PROGRESS_ETA 0

/-! ### SERVE entry (R89, R92, R95, R188, R401, R414, R425, R427, R474) -/

/-- A cistern that the recovered state names, or that was lost during priming, and that is not in service has left now: its grace starts
(R89, R96), but after a latched fault (R401) it is a hard failure. -/
def State.leftInPriming (s : State) (n : Nat) : State :=
  let lost := s.cst n == cAbsent && !Tab.has n s.ftl.graceAt
  if !lost && (s.cst n != cEmpty || (s.linkOf n).ident.isNone) then s
  else if s.chState n == chFault then s.toRebuilding n
  else
    let g := s.rd Reg.PAR_GRACE
    let s := { s with ftl := { s.ftl with graceAt := Tab.put n (s.tm.mono + g * sec) s.ftl.graceAt } }
    (s.wr (Reg.PAR_CSTATE_GRACE_LEFT.at n) g).leaveService n cAbsent

/-- Ownership of the cisterns (R94, R474): with the partner in SERVE the survivor settles the epochs, and what the sump holds is copied to it where
the stop was in single-controller write mode (R415); without it this controller sets its
own bit, in single-controller write mode, but leaves those that only the partner may write, and then owns no namespace. -/
def State.settleOwnership (s : State) : State :=
  if s.partner.isNone then s
  else if s.partnerServes then
    (if s.desc.elim false fun d => d.single then (s.putDesc fun d => { d with single := false }).mirrorAll else s)
  else
    let s := ((s.wr Reg.SUMP_STATUS_SINGLE 1).putDesc fun d => { d with single := true }).count Reg.SUMP_CNT_SINGLE_ENTRIES
    let s := s.served.foldl (fun (s : State) c => s.settleEpoch c) s
    if s.is Reg.POD_STATUS_OWN_NONE then
      { s with ns := s.ns.map fun (e : Nat × Ns) => (e.1, if e.2.owner == s.selfIndex then { e.2 with owner := s.partner.getD 0 } else e.2) }
    else s

/-- OPEN_IDLE counts afresh from SERVE entry for every OPEN tank (R261). -/
def State.restartIdle (s : State) : State :=
  { s with ftl := { s.ftl with tanks := s.ftl.tanks.map fun (e : Nat × Tank) =>
    (e.1, if e.2.st == tkOpen then { e.2 with lastStripe := s.tm.mono } else e.2) } }

/-- Enter SERVE. -/
def State.enterServe (s : State) : State :=
  let s := ((s.enterState stSERVE).putDesc fun d => { d with run := true }).restartIdle
  let s := if s.params.podSection then s.setMember s.selfIndex pmServe else s
  let s := slots48.foldl (fun (s : State) n => s.leftInPriming n) s.settleOwnership
  let s := { s with pcie := { s.pcie with fns := s.pcie.fns.map fun (e : Nat × PcieFn) => (e.1, { e.2 with rdy := e.2.ccEn }) } }
  let s := (s.sump.regions.filter fun e => e.2.st == rgRevoking).foldl (fun (s : State) e => s.regionEnd e.1) s
  let s := if s.is Reg.SUMP_STATUS_SAVE_LOST then s.tenantEvent none (0, 3) else s
  (((s.checkCoord.showMode).showPrd).showSpare.showSpread).showDraw.showRedundancy

/-- Enter POD, or SERVE where the image has no POD section; a controller that the member table does not name is ISOLATED (R94). -/
def State.afterRecover (s : State) : State :=
  if !s.params.podSection then s.enterServe
  else
    let s := s.enterState stPOD
    match s.selfEntry with
    | none => s.enterState stISOLATED fcNotMember
    | some (i, _) =>
      let s := (s.wr Reg.POD_STATUS_MEMBER i).wr Reg.POD_STATUS_MEMBER_VALID 1
      (let t : State := { s with pod := { s.pod with helloAt := s.tm.mono } }
       t.setMember i pmJoining)

end Sys2Proof.Machine
end

