-- ==== Sys2Proof/Machine/Priming.lean ====
section
/-! DEFINITION. The families of resets and priming (chapter 3). -/

namespace Sys2Proof.Machine

/-- Is priming going on in the state `st`: not held in reset, stopped by PWRFAIL_N (R96), by JTAG (R82) or in recovery mode? -/
def State.primes (s : State) (st : Nat) : Bool :=
  s.st == st && !s.heldInReset && !s.prim.pwrStop && !s.prim.jtagStop && !s.prim.recovery

/-! ### Resets (R97 to R99) -/

/-- POWER_ON (R77, R573): an input that was below its range rises through 10.8 V, or the first rise; the boot flash and fuses are as the
board presents them. -/
def execPowerOn (board : Board) (s : State) : Host.Outcome State Fault Refusal :=
  settled (if s.prim.powered && s.st != stAON then s
    else
      let t : State := { s with
        prim := { s.prim with powered := true }
        img := { s.img with nor := board.nor.getD s.img.nor, fuses := board.fuses.getD s.img.fuses }
        sump := { s.sump with pwrfailLow := false, inputLow := false } }
      t.resetNow .powerOn)

/-- RESET_N_ASSERTED (R97). -/
def execResetNAsserted (s : State) : Host.Outcome State Fault Refusal :=
  settled (
    let t : State := { s with prim := { s.prim with resetNLow := true } }
    if s.heldInReset then t else t.takeReset .resetN)

/-- RESET_N_SAVE_TIMEOUT (R97): 100 ms after RESET_N fell the reset begins; the save has not completed. -/
def execResetNSaveTimeout (s : State) : Host.Outcome State Fault Refusal :=
  settled (match s.prim.waiting, s.sump.save with
    | some .resetN, some (cause, _) =>
      ((s.atLeast (s.prim.resetNAt + 100 * ms)).saveFailed cause).resetSaved .resetN false
    | _, _ => s)

def offReset : Nat := Reg.GLB_RESET_FULL.off

/-- Is a write of `GLB_RESET` acted on: with KEY, and not in a warm reset before STRUCT has ended (R96)? -/
def State.resetWrite (s : State) (value : W32) : Bool :=
  s.decodeOf .glb == .all && !s.prim.warm && decide (value.toNat / 65536 = 0x9648) && !s.heldInReset

/-- SOFTWARE_FULL_RESET (R97). -/
def execSoftwareFullReset (value : W32) (s : State) : Host.Outcome State Fault Refusal :=
  settled (let t := s.writeWord offReset value
    if s.resetWrite value && value.toNat % 2 == 1 then t.takeReset .softFull else t)

/-- WARM_RESET (R97, R98); FULL set in the same write is a full reset. -/
def execWarmReset (value : W32) (s : State) : Host.Outcome State Fault Refusal :=
  settled (let t := s.writeWord offReset value
    if !s.resetWrite value then t
    else if value.toNat % 2 == 1 then t.takeReset .softFull
    else if value.toNat / 2 % 2 == 1 then t.takeReset .warm
    else t)

/-- PRIMING_PWRFAIL_RELEASE (R96): PWRFAIL_N high and the input in range for 100 ms. -/
def execPrimingPwrfailRelease (s : State) : Host.Outcome State Fault Refusal :=
  settled (if !s.prim.pwrStop then s
    else
      let t : State := { s with sump := { s.sump with pwrfailLow := false, inputLow := false } }
      t.resetNow .softFull)

/-! ### AON to MEM (R81 to R84, R66 to R68) -/

/-- Enter image recovery mode, in the ROM state (R68): channels that a reset left ON are turned off. -/
def State.enterRecovery (s : State) (cause : Nat) : State :=
  let s := slots48.foldl (fun (s : State) n => if s.chState n == chOff then s else s.chanOff n chOff) s
  let s := { s with prim := { s.prim with recovery := true }, img := { s.img with booted := none } }
  (s.wr Reg.GLB_PRIME_STATUS_RRS 0).wr Reg.GLB_PRIME_STATUS_FAIL_CAUSE cause

/-- AON_DONE (R77, R82): straps and fuses are read; BOOT_MODE 0b01 goes to recovery mode without a check. -/
def execAonDone (regulatorsGood : Bool) (bootMode : BitVec 2) (took : Nat) (s : State) : Host.Outcome State Fault Refusal :=
  settled (if !s.primes stAON then s
    else
      let s := s.advance took
      if !regulatorsGood then s.halt fcRegulator
      else
        let s := (s.wr Reg.GLB_STRAP_BOOT_MODE bootMode.toNat).showIdentity
        (s.smart 112).enterState stROM)

/-- ROM_IMAGE_CHECK (R66 to R68, R70, R82). -/
def execRomImageCheck (took : Nat) (s : State) : Host.Outcome State Fault Refusal :=
  settled (if !s.primes stROM then s
    else
      let s := s.advance took
      if s.rd Reg.GLB_STRAP_BOOT_MODE == 1 then
        (s.showImage imgNone false false false false 0 0 noRecord).enterRecovery fcNone
      else
        match s.romBoot with
        | (s, false) => s.enterRecovery fcImage
        | (s, true) =>
          if s.rd Reg.GLB_STRAP_BOOT_MODE == 2 && s.img.fuses.debug then { s with prim := { s.prim with jtagStop := true } }
          else s.enterState stCLOCKS)

/-- Shelf time and the monotonic counter start at 0 (R325, R326); secure time starts from the floor (R327). -/
def State.startClocks (s : State) : State :=
  let base := s.tm.mono
  { s with
    tm := { s.tm with mono := 0, shelf64 := 0, secure := s.tm.floor }
    prim := { s.prim with enteredAt := 0 }
    shelf := { s.shelf with chans := s.shelf.chans.map fun (e : Nat × Chan) => (e.1,
      { e.2 with onAt := e.2.onAt - base, holdoff := e.2.holdoff - base, checkAt := e.2.checkAt - base, rampedAt := e.2.rampedAt - base }) } }

/-- CLOCKS_LOCKED (R77, R81): all 20 clock domains. -/
def execClocksLocked (locked : BitVec 20) (took : Nat) (s : State) : Host.Outcome State Fault Refusal :=
  settled (if !s.primes stCLOCKS then s
    else
      let s := (s.advance took).wr Reg.PWR_CLK_LOCK locked.toNat
      if locked != 0xFFFFF then s.halt fcClock
      else { (s.enterState stMEM).startClocks with prim := { (s.enterState stMEM).startClocks.prim with answering := true } })

/-- Channels that DRAM_CONFIG populates. -/
def Params.populated (p : Params) : Nat := ((List.range 8).map fun c => if p.dram.getD c 0 % 4 == 0 then 0 else 2 ^ c).sum

/-- MEM_INIT_DONE (R83, R84): DRAM trained and checked, the MRAM interface, and on a full start the buffer SRAM; a warm reset keeps the
DRAM as it is (R98). -/
def execMemInitDone (m : MemInit) (took : Nat) (s : State) : Host.Outcome State Fault Refusal :=
  settled (if !s.primes stMEM then s
    else
      let s := s.advance took
      let pop := s.params.populated
      let trained := m.trained.toNat &&& pop
      let s := ((s.wr Reg.MEM_STATUS_TRAINED trained).wr Reg.MEM_STATUS_DISABLED (pop - trained)).wr
        Reg.MEM_STATUS_DEVICE_LOST (m.deviceLost.toNat &&& trained)
      let s := s.wr Reg.MEM_STATUS_CAPACITY m.capacityGiB
      if trained == 0 || m.capacityGiB < 128 then s.halt fcDram
      else if !m.mramAnswers then s.halt fcMram
      else if !s.prim.warm && !m.sramGood then s.halt fcSram
      else
        let s := if s.prim.warm then s.wr Reg.GLB_PRIME_STATUS_DRAM_INIT_DONE 1
          else { s with mem := { s.mem with dram := [], dramBytes := m.capacityGiB * 2 ^ 30 } }
        s.enterState stSTRUCT)

/-! ### STRUCT (R61, R67, R85, R341, R435) -/

/-- Blocks started after STRUCT's loading, in order (R85). -/
def startOrder (peer : Bool) : List Block :=
  [.time, .pcie, .slot, .mem, .seq, .pmu, .cry, .mfd] ++ (List.finRange 16).map .pump ++ [.sump, .ftl, .par] ++
  (List.finRange 48).map .skl ++ (List.finRange 4).map .eth ++ [.well, .qos] ++ (if peer then [.pla, .plb, .pod] else [])

/-- A POLICY failure: recorded, and a software full reset into the other slot (R67). -/
def State.policyFails (s : State) (record : Nat) : State :=
  let slot := s.rd Reg.IMG_STATUS_SLOT
  let s := (s.wr Reg.IMG_STATUS_RESULT imgParam).wr Reg.IMG_STATUS_BAD_RECORD record
  let s := { s with img := { s.img with policyFailed := Tab.put slot record s.img.policyFailed } }
  (s.resetNow .softFull true).wr Reg.GLB_RESET_CAUSE_POLICY_FALLBACK 1

/-- PRIME entry (R87, R90): Request Retry Status ends, held events go, and on a full start the slot groups are formed. -/
def State.enterPrime (s : State) : State :=
  let s := (s.startVault.importKeys.startChain).wr Reg.GLB_PRIME_STATUS_RRS 0
  let full := !s.prim.warm
  let s := { s with prim := { s.prim with warm := false } }
  let s := (s.enterState stPRIME).drainEvents
  let s := ((s.showTanks.showSpare).showSpread.showDraw).showQos.showLatTol
  if full then s.formGroups else s.tryChecks

/-- STRUCT_DONE (R85): POLICY, the sequencers' self-test (one bit each), the blocks in order, the KEYS records. -/
def execStructDone (seqPass : BitVec 16) (took : Nat) (s : State) : Host.Outcome State Fault Refusal :=
  settled (if !s.primes stSTRUCT then s
    else
      let s := s.advance took
      let applies := fun f => !s.prim.warm || !keepField .warm false f
      match s.applyPolicy applies s.policy with
      | (s, some record) => s.policyFails record
      | (s, none) =>
        if seqPass != 0xFFFF then s.halt fcSeq
        else if !s.scheduleGood then (s.setErr .time 8).policyFails noRecord
        else ((startOrder (s.params.peerMode != 0)).foldl (fun (s : State) b => s.startBlock b) s).enterPrime)

/-! ### PRIME to SERVE (R84, R87 to R95) -/

/-- DRAM_INIT_DONE (R84). -/
def execDramInitDone (s : State) : Host.Outcome State Fault Refusal :=
  settled (if s.mem.dramBytes == 0 || s.st < stSTRUCT || s.st == stHALTED || s.heldInReset then s
    else s.wr Reg.GLB_PRIME_STATUS_DRAM_INIT_DONE 1)

/-- Has a slot's power-up and admission ended, one way or another (R88)? -/
def State.slotSettled (s : State) (n : Nat) : Bool :=
  let st := s.chState n
  st != chCheck && st != chRamp && (st != chOn || s.rd (Reg.SKL_STATUS_OUTCOME.at n) != ocNone)

/-- PRIME_DONE (R84, R88, R89): DRAM initialised, every group started and every slot settled; a slot-power die that fails its self-test
halts.  RECOVER is entered with what is found on the media. -/
def execPrimeDone (slotDieGood : Bool) (facts : RecoverFacts) (took : Nat) (s : State) : Host.Outcome State Fault Refusal :=
  settled (if !s.primes stPRIME then s
    else if !slotDieGood then (s.advance took).halt fcSlot
    else if !s.is Reg.GLB_PRIME_STATUS_DRAM_INIT_DONE || !s.shelf.groups.isEmpty || !(slots48.all s.slotSettled) then s
    else ((s.advance took).enterState stRECOVER).beginRecover facts)

/-- RECOVER_DONE (R91 to R93): what recovery places again must have been committed; what is left is placed first. -/
def execRecoverDone (took : Nat) (s : State) : Host.Outcome State Fault Refusal :=
  settled (if !s.primes stRECOVER then s
    else
      let s := s.advance took
      let s := if s.ftl.versions.isEmpty && s.ftl.asm.isEmpty then s else (s.composeAll.assignAll).padStripes
      if s.placing then s else s.endRecover.afterRecover)

/-- JOIN_TIMEOUT (R94): no member in SERVE has answered. -/
def execJoinTimeout (s : State) : Host.Outcome State Fault Refusal :=
  settled (if !s.primes stPOD || s.rd Reg.POD_STATUS_SERVE_SET != 0 then s
    else (s.atLeast (s.prim.enteredAt + s.rd Reg.GLB_PRIME_CTL2_JOIN_TIMEOUT * 10 * ms)).enterServe)

/-- POD_JOIN_DONE (R461): the live set of a serving member taken, the pair key agreed with a serving partner; where no member heard is in
SERVE, the steps have nothing to wait for. -/
def execPodJoinDone (took : Nat) (s : State) : Host.Outcome State Fault Refusal :=
  settled (
    let serving := s.rd Reg.POD_STATUS_SERVE_SET != 0
    let heard := s.pod.heard.any fun e => e.2.hello.isSome
    if !s.primes stPOD || !heard || (serving && !s.pod.liveDone) || (s.partnerServes && !s.pod.pairKey) then s
    else (s.advance took).enterServe)

end Sys2Proof.Machine
end

