-- ==== Sys2Proof/Machine/RegAccess.lean ====
section
/-! DEFINITION. The family of plain BAR0 accesses (chapters 0 and 22). -/

namespace Sys2Proof.Machine

/-- REGISTER_WRITE (R15): a whole-word write, field by field. -/
def execRegisterWrite (off : Nat) (value : W32) (s : State) : Host.Outcome State Fault Refusal :=
  settled (s.writeWord off value)

/-- BAR0_PARTIAL_WRITE (R11): discarded; PARTIAL_WR is set where the addressed block is decoded. -/
def execBar0PartialWrite (off : Nat) (_value : W32) (s : State) : Host.Outcome State Fault Refusal :=
  settled (match blockAt off with
    | none => s.setErr .glb 8
    | some b =>
      match s.decodeOf b with
      | .none => s.unsupportedReq 0
      | .ones => s.setErr .glb 8
      | .all => s.setErr .glb 8)

/-- The register behind a word of the user page (R526). -/
def behind (off : Nat) : Nat := if decide (0x3F00000 ≤ off ∧ off < 0x3F04000) then off - 0xFF000 else off

/-- Is the word at `off` the low word of a 64-bit value or of a counter (R12, R128), or of such a value's copy in a snapshot, 0x2000
above it (R528)? -/
def isLowWord (off : Nat) : Bool :=
  let off := if decide (0x3E03000 ≤ off ∧ off < 0x3E05000) then off - 0x2000 else off
  (Reg.pairs.any fun p => (instanceAt p.1 off).isSome) ||
  (Reg.counters.any fun c => decide (c.off ≤ off) &&
    (if c.stride = 0 then off == c.off
     else (off - c.off) % c.stride == 0 && decide ((off - c.off) / c.stride < c.count)))

/-- Is the block at `off` decoded in full? -/
def State.decodes (s : State) (off : Nat) : Bool :=
  match blockAt off with
  | none => false
  | some b => s.decodeOf b == .all

/-- LOW_WORD_READ (R11, R12): the addressed bytes of the low word are returned and the high word latched for a later read of it.  Which
reads latch is DEDUCED: a read of any byte of the low word (log entry 53). -/
def execLowWordRead (off n : Nat) (s : State) : Host.Outcome State Fault Refusal :=
  settled (let t := s.answerRead off n
    let w := regOf off
    if s.decodes (regOf off) && isLowWord (behind w) then
      { t with regs := { t.regs with readLatch := Tab.put (w + 4) (s.word (w + 4)) t.regs.readLatch } }
    else t)

/-- Clear the RC fields of a word (R14). -/
def State.clearRc (s : State) (off : Nat) : State :=
  (fieldsAt off).foldl (fun s f => if f.acc == .rc then s.wr f 0 else s) s

/-- RC_FIELD_READ (R11, R14): the addressed bytes are returned and the register's RC fields cleared. A read of any byte of the register
clears them, DEDUCED (log entry 53). -/
def execRcFieldRead (off n : Nat) (s : State) : Host.Outcome State Fault Refusal :=
  settled (let t := s.answerRead off n
    if s.decodes (regOf off) && !(blockAt (regOf off)).any (fun b => s.is (fResetting b)) then t.clearRc (regOf off) else t)

end Sys2Proof.Machine
end

