-- ==== Sys2Proof/Machine/Dispatch.lean ====
section
/-! DEFINITION. `exec`: one arm for every command, each a direct call of its meaning. -/

namespace Sys2Proof.Machine

/-- The effect of a command on everything but the queue. -/
def exec (i : Instr) (s : State) : Host.Outcome State Fault Refusal :=
  match i with
  | .registerWrite off value => Sys2Proof.Machine.execRegisterWrite off value s
  | .bar0PartialWrite off value => Sys2Proof.Machine.execBar0PartialWrite off value s
  | .lowWordRead off n => Sys2Proof.Machine.execLowWordRead off n s
  | .rcFieldRead off n => Sys2Proof.Machine.execRcFieldRead off n s
  | .powerOn board => Sys2Proof.Machine.execPowerOn board s
  | .resetNAsserted => Sys2Proof.Machine.execResetNAsserted s
  | .resetNSaveTimeout => Sys2Proof.Machine.execResetNSaveTimeout s
  | .aonDone regulatorsGood bootMode took => Sys2Proof.Machine.execAonDone regulatorsGood bootMode took s
  | .romImageCheck took => Sys2Proof.Machine.execRomImageCheck took s
  | .clocksLocked locked took => Sys2Proof.Machine.execClocksLocked locked took s
  | .memInitDone m took => Sys2Proof.Machine.execMemInitDone m took s
  | .structDone seqPass took => Sys2Proof.Machine.execStructDone seqPass took s
  | .dramInitDone => Sys2Proof.Machine.execDramInitDone s
  | .slotGroupStart group => Sys2Proof.Machine.execSlotGroupStart group s
  | .admitTimeout cistern => Sys2Proof.Machine.execAdmitTimeout cistern s
  | .primeDone slotDieGood facts took => Sys2Proof.Machine.execPrimeDone slotDieGood facts took s
  | .recoverDone took => Sys2Proof.Machine.execRecoverDone took s
  | .joinTimeout => Sys2Proof.Machine.execJoinTimeout s
  | .podJoinDone took => Sys2Proof.Machine.execPodJoinDone took s
  | .primingPwrfailRelease => Sys2Proof.Machine.execPrimingPwrfailRelease s
  | .softwareFullReset value => Sys2Proof.Machine.execSoftwareFullReset value s
  | .warmReset value => Sys2Proof.Machine.execWarmReset value s
  | .perstNAsserted => Sys2Proof.Machine.execPerstNAsserted s
  | .imageStage => Sys2Proof.Machine.execImageStage s
  | .stagingDone readBackGood => Sys2Proof.Machine.execStagingDone readBackGood s
  | .trialNext => Sys2Proof.Machine.execTrialNext s
  | .imageAccept => Sys2Proof.Machine.execImageAccept s
  | .fuseProgram value => Sys2Proof.Machine.execFuseProgram value s
  | .fuseRevoke value => Sys2Proof.Machine.execFuseRevoke value s
  | .fuseOpDone => Sys2Proof.Machine.execFuseOpDone s
  | .commit value => Sys2Proof.Machine.execCommit value s
  | .commitAbort value => Sys2Proof.Machine.execCommitAbort value s
  | .commitApplyDone => Sys2Proof.Machine.execCommitApplyDone s
  | .blockStop b => Sys2Proof.Machine.execBlockStop b s
  | .blockStopped b => Sys2Proof.Machine.execBlockStopped b s
  | .blockStart b => Sys2Proof.Machine.execBlockStart b s
  | .blockReset b => Sys2Proof.Machine.execBlockReset b s
  | .blockResetDone b => Sys2Proof.Machine.execBlockResetDone b s
  | .cmReq r => Sys2Proof.Machine.execCmReq r s
  | .cmRtu port qp => Sys2Proof.Machine.execCmRtu port qp s
  | .cmRej port qp => Sys2Proof.Machine.execCmRej port qp s
  | .cmDreq port qp => Sys2Proof.Machine.execCmDreq port qp s
  | .cmDrep port qp => Sys2Proof.Machine.execCmDrep port qp s
  | .cmTimeout qp => Sys2Proof.Machine.execCmTimeout qp s
  | .rcSendReceive p => Sys2Proof.Machine.execRcSendReceive p s
  | .rcRegionWriteReceive p => Sys2Proof.Machine.execRcRegionWriteReceive p s
  | .rcRegionReadRequest p => Sys2Proof.Machine.execRcRegionReadRequest p s
  | .rcReadResponseReceive p => Sys2Proof.Machine.execRcReadResponseReceive p s
  | .rcAckReceive p => Sys2Proof.Machine.execRcAckReceive p s
  | .rcNakReceive p => Sys2Proof.Machine.execRcNakReceive p s
  | .cnpReceive p => Sys2Proof.Machine.execCnpReceive p s
  | .contextFetchDone qp ecc => Sys2Proof.Machine.execContextFetchDone qp ecc s
  | .ackCoalesceTimeout qp => Sys2Proof.Machine.execAckCoalesceTimeout qp s
  | .ackTimeout qp => Sys2Proof.Machine.execAckTimeout qp s
  | .rnrWaitEnd qp => Sys2Proof.Machine.execRnrWaitEnd qp s
  | .qpFlushDone qp => Sys2Proof.Machine.execQpFlushDone qp s
  | .qpQuarantineEnd qp => Sys2Proof.Machine.execQpQuarantineEnd qp s
  | .qpInspect value => Sys2Proof.Machine.execQpInspect value s
  | .keepAliveExpiry assoc => Sys2Proof.Machine.execKeepAliveExpiry assoc s
  | .prdCmdReceive p => Sys2Proof.Machine.execPrdCmdReceive p s
  | .prdWdataReceive p => Sys2Proof.Machine.execPrdWdataReceive p s
  | .prdProbe p => Sys2Proof.Machine.execPrdProbe p s
  | .pullTimeout id => Sys2Proof.Machine.execPullTimeout id s
  | .prdAdmitDeadline id => Sys2Proof.Machine.execPrdAdmitDeadline id s
  | .prdEntryExpiry host gen tid => Sys2Proof.Machine.execPrdEntryExpiry host gen tid s
  | .tLifeRaiseSettled => Sys2Proof.Machine.execTLifeRaiseSettled s
  | .prdStepHoldEnd => Sys2Proof.Machine.execPrdStepHoldEnd s
  | .prdHostWrite value => Sys2Proof.Machine.execPrdHostWrite value s
  | .prdHostRead value => Sys2Proof.Machine.execPrdHostRead value s
  | .prdHostAccessDone => Sys2Proof.Machine.execPrdHostAccessDone s
  | .identify id => Sys2Proof.Machine.execIdentify id s
  | .getLogPage id => Sys2Proof.Machine.execGetLogPage id s
  | .getFeatures id => Sys2Proof.Machine.execGetFeatures id s
  | .setFeatures id => Sys2Proof.Machine.execSetFeatures id s
  | .asynchronousEventRequest id => Sys2Proof.Machine.execAsynchronousEventRequest id s
  | .abort id => Sys2Proof.Machine.execAbort id s
  | .namespaceCreate id permitted => Sys2Proof.Machine.execNamespaceCreate id permitted s
  | .namespaceDelete id permitted => Sys2Proof.Machine.execNamespaceDelete id permitted s
  | .namespaceDeleteDrained nsid => Sys2Proof.Machine.execNamespaceDeleteDrained nsid s
  | .namespaceAttachment id => Sys2Proof.Machine.execNamespaceAttachment id s
  | .keepAlive id => Sys2Proof.Machine.execKeepAlive id s
  | .directiveSend id => Sys2Proof.Machine.execDirectiveSend id s
  | .directiveReceive id => Sys2Proof.Machine.execDirectiveReceive id s
  | .virtualizationManagement id => Sys2Proof.Machine.execVirtualizationManagement id s
  | .fabricsConnect id tenant => Sys2Proof.Machine.execFabricsConnect id tenant s
  | .propertyGet id => Sys2Proof.Machine.execPropertyGet id s
  | .propertySet id => Sys2Proof.Machine.execPropertySet id s
  | .disconnect id => Sys2Proof.Machine.execDisconnect id s
  | .authenticationSendReceive id => Sys2Proof.Machine.execAuthenticationSendReceive id s
  | .createIoSq id => Sys2Proof.Machine.execCreateIoSq id s
  | .deleteIoSq id => Sys2Proof.Machine.execDeleteIoSq id s
  | .createIoCq id => Sys2Proof.Machine.execCreateIoCq id s
  | .deleteIoCq id => Sys2Proof.Machine.execDeleteIoCq id s
  | .formatNvm id => Sys2Proof.Machine.execFormatNvm id s
  | .formatStart nsid => Sys2Proof.Machine.execFormatStart nsid s
  | .formatDone nsid => Sys2Proof.Machine.execFormatDone nsid s
  | .unsupportedOpcode id => Sys2Proof.Machine.execUnsupportedOpcode id s
  | .flush id => Sys2Proof.Machine.execFlush id s
  | .write id => Sys2Proof.Machine.execWrite id s
  | .read id => Sys2Proof.Machine.execRead id s
  | .compare id => Sys2Proof.Machine.execCompare id s
  | .writeZeroes id => Sys2Proof.Machine.execWriteZeroes id s
  | .datasetManagement id => Sys2Proof.Machine.execDatasetManagement id s
  | .verify id => Sys2Proof.Machine.execVerify id s
  | .reservationRegister id => Sys2Proof.Machine.execReservationRegister id s
  | .reservationReport id => Sys2Proof.Machine.execReservationReport id s
  | .reservationAcquire id => Sys2Proof.Machine.execReservationAcquire id s
  | .reservationRelease id => Sys2Proof.Machine.execReservationRelease id s
  | .namespaceRegCreate value => Sys2Proof.Machine.execNamespaceRegCreate value s
  | .namespaceRegGrow value => Sys2Proof.Machine.execNamespaceRegGrow value s
  | .namespaceRegDelete value => Sys2Proof.Machine.execNamespaceRegDelete value s
  | .namespaceRegRead value => Sys2Proof.Machine.execNamespaceRegRead value s
  | .regionRegister value => Sys2Proof.Machine.execRegionRegister value s
  | .regionDescriptorRead value => Sys2Proof.Machine.execRegionDescriptorRead value s
  | .regionRevoke value => Sys2Proof.Machine.execRegionRevoke value s
  | .regionDrainEnd index => Sys2Proof.Machine.execRegionDrainEnd index s
  | .regionRevokeTimeout index => Sys2Proof.Machine.execRegionRevokeTimeout index s
  | .regionZeroed index => Sys2Proof.Machine.execRegionZeroed index s
  | .qosAdmission now => Sys2Proof.Machine.execQosAdmission now s
  | .tenantInactive tenant => Sys2Proof.Machine.execTenantInactive tenant s
  | .mfdCopyDone frame port ecc => Sys2Proof.Machine.execMfdCopyDone frame port ecc s
  | .mfdAgeCheck now => Sys2Proof.Machine.execMfdAgeCheck now s
  | .portLinkDown port => Sys2Proof.Machine.execPortLinkDown port s
  | .portLinkUp port => Sys2Proof.Machine.execPortLinkUp port s
  | .portHoldExpiry port => Sys2Proof.Machine.execPortHoldExpiry port s
  | .portStall port => Sys2Proof.Machine.execPortStall port s
  | .pfcRefresh port prio => Sys2Proof.Machine.execPfcRefresh port prio s
  | .pfcFrameReceive port sub quanta => Sys2Proof.Machine.execPfcFrameReceive port sub quanta s
  | .ethFrameReceive port f => Sys2Proof.Machine.execEthFrameReceive port f s
  | .stripeAssemblyTimeout layout cls => Sys2Proof.Machine.execStripeAssemblyTimeout layout cls s
  | .mergeWaitExpiry nsid iu => Sys2Proof.Machine.execMergeWaitExpiry nsid iu s
  | .stripeCommit seq => Sys2Proof.Machine.execStripeCommit seq s
  | .checkpointTrigger => Sys2Proof.Machine.execCheckpointTrigger s
  | .checkpointDone => Sys2Proof.Machine.execCheckpointDone s
  | .segmentRotate nsid seg => Sys2Proof.Machine.execSegmentRotate nsid seg s
  | .segmentFetchDone nsid seg room => Sys2Proof.Machine.execSegmentFetchDone nsid seg room s
  | .openIdleExpiry tank => Sys2Proof.Machine.execOpenIdleExpiry tank s
  | .drawdownCopyIssue => Sys2Proof.Machine.execDrawdownCopyIssue s
  | .tankDrawDone tank => Sys2Proof.Machine.execTankDrawDone tank s
  | .tankEraseDone tank => Sys2Proof.Machine.execTankEraseDone tank s
  | .refreshScan => Sys2Proof.Machine.execRefreshScan s
  | .blockRetire value => Sys2Proof.Machine.execBlockRetire value s
  | .blockRecordRead value => Sys2Proof.Machine.execBlockRecordRead value s
  | .graceExpiry slot => Sys2Proof.Machine.execGraceExpiry slot s
  | .cisternFail slot value => Sys2Proof.Machine.execCisternFail slot value s
  | .rebuildSweepDone slot => Sys2Proof.Machine.execRebuildSweepDone slot s
  | .tankSubstituted => Sys2Proof.Machine.execTankSubstituted s
  | .lostListRead value => Sys2Proof.Machine.execLostListRead value s
  | .ptpMessageReceive m => Sys2Proof.Machine.execPtpMessageReceive m s
  | .ptpSyncSend port => Sys2Proof.Machine.execPtpSyncSend port s
  | .holdoverEntry => Sys2Proof.Machine.execHoldoverEntry s
  | .peerTimeExchange link t => Sys2Proof.Machine.execPeerTimeExchange link t s
  | .ppsEdge => Sys2Proof.Machine.execPpsEdge s
  | .stepOverride value => Sys2Proof.Machine.execStepOverride value s
  | .stepOverrideLapse => Sys2Proof.Machine.execStepOverrideLapse s
  | .secureTimeRecord => Sys2Proof.Machine.execSecureTimeRecord s
  | .timeFlagCheck => Sys2Proof.Machine.execTimeFlagCheck s
  | .launchArm k value => Sys2Proof.Machine.execLaunchArm k value s
  | .launchCancel k value => Sys2Proof.Machine.execLaunchCancel k value s
  | .launchDue k => Sys2Proof.Machine.execLaunchDue k s
  | .windowSlotStart => Sys2Proof.Machine.execWindowSlotStart s
  | .intentSend => Sys2Proof.Machine.execIntentSend s
  | .intentReceive units => Sys2Proof.Machine.execIntentReceive units s
  | .intentDeadline => Sys2Proof.Machine.execIntentDeadline s
  | .drawdownOpIssue cistern die => Sys2Proof.Machine.execDrawdownOpIssue cistern die s
  | .sklTrainingDone link t => Sys2Proof.Machine.execSklTrainingDone link t s
  | .flitReceive link f => Sys2Proof.Machine.execFlitReceive link f s
  | .sklRecoveryEntry link => Sys2Proof.Machine.execSklRecoveryEntry link s
  | .sklRecoveryDone link => Sys2Proof.Machine.execSklRecoveryDone link s
  | .sklRetrainLimit link => Sys2Proof.Machine.execSklRetrainLimit link s
  | .sklL1Entry link => Sys2Proof.Machine.execSklL1Entry link s
  | .identifyDone link c id => Sys2Proof.Machine.execIdentifyDone link c id s
  | .badblocksDone link c bad => Sys2Proof.Machine.execBadblocksDone link c bad s
  | .cisternStatusPoll link => Sys2Proof.Machine.execCisternStatusPoll link s
  | .statusDone link c st => Sys2Proof.Machine.execStatusDone link c st s
  | .epochSetDone link c => Sys2Proof.Machine.execEpochSetDone link c s
  | .readDone link c sectors front => Sys2Proof.Machine.execReadDone link c sectors front s
  | .programDone link c => Sys2Proof.Machine.execProgramDone link c s
  | .eraseDone link c => Sys2Proof.Machine.execEraseDone link c s
  | .sklTagTimeout link tag => Sys2Proof.Machine.execSklTagTimeout link tag s
  | .sklTagQuarantineEnd link tag => Sys2Proof.Machine.execSklTagQuarantineEnd link tag s
  | .prsntDebounced slot => Sys2Proof.Machine.execPrsntDebounced slot s
  | .slotCheckDone slot m peerOn => Sys2Proof.Machine.execSlotCheckDone slot m peerOn s
  | .slotRampDone slot => Sys2Proof.Machine.execSlotRampDone slot s
  | .slotGateEnhanced slot => Sys2Proof.Machine.execSlotGateEnhanced slot s
  | .slotGateTimeout slot peerOn => Sys2Proof.Machine.execSlotGateTimeout slot peerOn s
  | .slotResetRelease slot => Sys2Proof.Machine.execSlotResetRelease slot s
  | .slotLimitTimeout slot iout peerOn => Sys2Proof.Machine.execSlotLimitTimeout slot iout peerOn s
  | .fastTrip slot iout limitToo peerOn => Sys2Proof.Machine.execFastTrip slot iout limitToo peerOn s
  | .reverseCurrent slot r => Sys2Proof.Machine.execReverseCurrent slot r s
  | .slotPgLoss slot why peerOn => Sys2Proof.Machine.execSlotPgLoss slot why peerOn s
  | .slotFeedUv vin => Sys2Proof.Machine.execSlotFeedUv vin s
  | .slotFeedRestored vin => Sys2Proof.Machine.execSlotFeedRestored vin s
  | .slotRemoval slot => Sys2Proof.Machine.execSlotRemoval slot s
  | .faultClr slot value => Sys2Proof.Machine.execFaultClr slot value s
  | .slotEnWrite slot value => Sys2Proof.Machine.execSlotEnWrite slot value s
  | .autoRetryWrite slot value => Sys2Proof.Machine.execAutoRetryWrite slot value s
  | .holdoffExpiry slot => Sys2Proof.Machine.execHoldoffExpiry slot s
  | .slotOnSettled slot => Sys2Proof.Machine.execSlotOnSettled slot s
  | .slotBackfeedWaitEnd slot peerOn => Sys2Proof.Machine.execSlotBackfeedWaitEnd slot peerOn s
  | .sumpReservationGrant id => Sys2Proof.Machine.execSumpReservationGrant id s
  | .floatRecompute => Sys2Proof.Machine.execFloatRecompute s
  | .holdupSample mv peerOn => Sys2Proof.Machine.execHoldupSample mv peerOn s
  | .pwrfailNFall => Sys2Proof.Machine.execPwrfailNFall s
  | .inputUndervoltage => Sys2Proof.Machine.execInputUndervoltage s
  | .inputBrownout => Sys2Proof.Machine.execInputBrownout s
  | .inputOvervoltage => Sys2Proof.Machine.execInputOvervoltage s
  | .saveComplete now => Sys2Proof.Machine.execSaveComplete now s
  | .saveTriggerCleared => Sys2Proof.Machine.execSaveTriggerCleared s
  | .mirrorFrameReceive f => Sys2Proof.Machine.execMirrorFrameReceive f s
  | .mirrorAckReceive cmd => Sys2Proof.Machine.execMirrorAckReceive cmd s
  | .singleModeEntry => Sys2Proof.Machine.execSingleModeEntry s
  | .suspend => Sys2Proof.Machine.execSuspend s
  | .suspendAck => Sys2Proof.Machine.execSuspendAck s
  | .mirrorCopybackDone => Sys2Proof.Machine.execMirrorCopybackDone s
  | .forceTakeover value => Sys2Proof.Machine.execForceTakeover value s
  | .shutdown value => Sys2Proof.Machine.execShutdown value s
  | .shutdownDone => Sys2Proof.Machine.execShutdownDone s
  | .saveLostClear value => Sys2Proof.Machine.execSaveLostClear value s
  | .keyImport value => Sys2Proof.Machine.execKeyImport value s
  | .keyGenerate value => Sys2Proof.Machine.execKeyGenerate value s
  | .keyDestroy value => Sys2Proof.Machine.execKeyDestroy value s
  | .keyInfo value => Sys2Proof.Machine.execKeyInfo value s
  | .exportPub value => Sys2Proof.Machine.execExportPub value s
  | .keyOpDone => Sys2Proof.Machine.execKeyOpDone s
  | .laAcquire who => Sys2Proof.Machine.execLaAcquire who s
  | .laRelease who => Sys2Proof.Machine.execLaRelease who s
  | .laForce value => Sys2Proof.Machine.execLaForce value s
  | .laProducerWrite who prod => Sys2Proof.Machine.execLaProducerWrite who prod s
  | .laDescriptorDone => Sys2Proof.Machine.execLaDescriptorDone s
  | .laLockTimeout => Sys2Proof.Machine.execLaLockTimeout s
  | .retentionRead value => Sys2Proof.Machine.execRetentionRead value s
  | .holdSet value => Sys2Proof.Machine.execHoldSet value s
  | .holdClear value => Sys2Proof.Machine.execHoldClear value s
  | .extend value => Sys2Proof.Machine.execExtend value s
  | .retentionExpiryCheck => Sys2Proof.Machine.execRetentionExpiryCheck s
  | .eraseDelayExpiry nsid => Sys2Proof.Machine.execEraseDelayExpiry nsid s
  | .auditArchWrite arch => Sys2Proof.Machine.execAuditArchWrite arch s
  | .auditVerify => Sys2Proof.Machine.execAuditVerify s
  | .auditVerifyDone => Sys2Proof.Machine.execAuditVerifyDone s
  | .peerLinkTrained link t => Sys2Proof.Machine.execPeerLinkTrained link t s
  | .peerLinkLost link => Sys2Proof.Machine.execPeerLinkLost link s
  | .brontantoFrameReceive link f => Sys2Proof.Machine.execBrontantoFrameReceive link f s
  | .helloSend => Sys2Proof.Machine.execHelloSend s
  | .hello link hops h => Sys2Proof.Machine.execHello link hops h s
  | .joinRefuse src cause => Sys2Proof.Machine.execJoinRefuse src cause s
  | .liveSetReq src => Sys2Proof.Machine.execLiveSetReq src s
  | .liveSet src epoch values => Sys2Proof.Machine.execLiveSet src epoch values s
  | .podLaunchPropose value => Sys2Proof.Machine.execPodLaunchPropose value s
  | .podLaunchCancel value => Sys2Proof.Machine.execPodLaunchCancel value s
  | .prepare src time epoch snapshot values => Sys2Proof.Machine.execPrepare src time epoch snapshot values s
  | .agree src => Sys2Proof.Machine.execAgree src s
  | .refuse src cause => Sys2Proof.Machine.execRefuse src cause s
  | .go src => Sys2Proof.Machine.execGo src s
  | .abandon src => Sys2Proof.Machine.execAbandon src s
  | .launchAnswerDeadline => Sys2Proof.Machine.execLaunchAnswerDeadline s
  | .goLate => Sys2Proof.Machine.execGoLate s
  | .memberDeadTime m => Sys2Proof.Machine.execMemberDeadTime m s
  | .leaving src => Sys2Proof.Machine.execLeaving src s
  | .fenceDelayExpiry => Sys2Proof.Machine.execFenceDelayExpiry s
  | .failoverFenced => Sys2Proof.Machine.execFailoverFenced s
  | .grantReq src layout cls cisterns => Sys2Proof.Machine.execGrantReq src layout cls cisterns s
  | .grant src tank layout cls members refused => Sys2Proof.Machine.execGrant src tank layout cls members refused s
  | .copyMap src nsid iu source target => Sys2Proof.Machine.execCopyMap src nsid iu source target s
  | .release src tank answer => Sys2Proof.Machine.execRelease src tank answer s
  | .handover src h => Sys2Proof.Machine.execHandover src h s
  | .epochNote src cistern epoch => Sys2Proof.Machine.execEpochNote src cistern epoch s
  | .keyCopy src slot type key destroyed => Sys2Proof.Machine.execKeyCopy src slot type key destroyed s
  | .forceOwn value => Sys2Proof.Machine.execForceOwn value s
  | .forward src m => Sys2Proof.Machine.execForward src m s
  | .balancingMoveStart nsid => Sys2Proof.Machine.execBalancingMoveStart nsid s
  | .configRequest fn off write => Sys2Proof.Machine.execConfigRequest fn off write s
  | .barRequestUndecoded fn bar off => Sys2Proof.Machine.execBarRequestUndecoded fn bar off s
  | .windowAccess off len write => Sys2Proof.Machine.execWindowAccess off len write s
  | .windowEnable n value => Sys2Proof.Machine.execWindowEnable n value s
  | .nvmeDoorbell fn queue cq value => Sys2Proof.Machine.execNvmeDoorbell fn queue cq value s
  | .ccEnWrite fn cc aqa asq acq => Sys2Proof.Machine.execCcEnWrite fn cc aqa asq acq s
  | .pcieCompletionReceive c => Sys2Proof.Machine.execPcieCompletionReceive c s
  | .pcieCompletionTimeout tag => Sys2Proof.Machine.execPcieCompletionTimeout tag s
  | .pcieTagQuarantineEnd tag => Sys2Proof.Machine.execPcieTagQuarantineEnd tag s
  | .busMasterClear fn => Sys2Proof.Machine.execBusMasterClear fn s
  | .functionLevelReset fn => Sys2Proof.Machine.execFunctionLevelReset fn s
  | .flrDone fn => Sys2Proof.Machine.execFlrDone fn s
  | .vfEnable enable numVfs => Sys2Proof.Machine.execVfEnable enable numVfs s
  | .ltrSend => Sys2Proof.Machine.execLtrSend s
  | .postedWriteReceive fn error => Sys2Proof.Machine.execPostedWriteReceive fn error s
  | .getVersion => Sys2Proof.Machine.execGetVersion s
  | .getCapabilities => Sys2Proof.Machine.execGetCapabilities s
  | .negotiateAlgorithms asym hash => Sys2Proof.Machine.execNegotiateAlgorithms asym hash s
  | .getDigests => Sys2Proof.Machine.execGetDigests s
  | .getCertificate slot off len => Sys2Proof.Machine.execGetCertificate slot off len s
  | .challenge slot measurements nonce => Sys2Proof.Machine.execChallenge slot measurements nonce s
  | .getMeasurements index signed nonce => Sys2Proof.Machine.execGetMeasurements index signed nonce s
  | .spdmUnsupported code => Sys2Proof.Machine.execSpdmUnsupported code s
  | .mailboxDoorbell value => Sys2Proof.Machine.execMailboxDoorbell value s
  | .mailboxComplete m => Sys2Proof.Machine.execMailboxComplete m s
  | .bar2Write off a ecc => Sys2Proof.Machine.execBar2Write off a ecc s
  | .sequencerHalt n f => Sys2Proof.Machine.execSequencerHalt n f s
  | .seqWorkOverrun n => Sys2Proof.Machine.execSeqWorkOverrun n s
  | .hostAtomic value => Sys2Proof.Machine.execHostAtomic value s
  | .tileCounterClear t value => Sys2Proof.Machine.execTileCounterClear t value s
  | .pmuSnapshot value => Sys2Proof.Machine.execPmuSnapshot value s
  | .pmuBlockCopyDone => Sys2Proof.Machine.execPmuBlockCopyDone s
  | .bandwidthWindowEnd totals => Sys2Proof.Machine.execBandwidthWindowEnd totals s
  | .bandwidthWindowWrite value => Sys2Proof.Machine.execBandwidthWindowWrite value s
  | .deviceStateEvaluate now => Sys2Proof.Machine.execDeviceStateEvaluate now s
  | .deviceStateExitDone => Sys2Proof.Machine.execDeviceStateExitDone s
  | .regulatorFault domain => Sys2Proof.Machine.execRegulatorFault domain s
  | .i3cSensorRead r => Sys2Proof.Machine.execI3cSensorRead r s
  | .i3cBusRetry found => Sys2Proof.Machine.execI3cBusRetry found s
  | .thermalTrip package => Sys2Proof.Machine.execThermalTrip package s
  | .thermalTripRelease package => Sys2Proof.Machine.execThermalTripRelease package s
  | .clockLockLoss k => Sys2Proof.Machine.execClockLockLoss k s
  | .ringCoalesceExpiry ring => Sys2Proof.Machine.execRingCoalesceExpiry ring s
  | .ringConsWrite ring value => Sys2Proof.Machine.execRingConsWrite ring value s
  | .ringEnable ring value => Sys2Proof.Machine.execRingEnable ring value s
  | .historyRead value => Sys2Proof.Machine.execHistoryRead value s
  | .fatalError cause => Sys2Proof.Machine.execFatalError cause s
  | .fatalHoldExpiry => Sys2Proof.Machine.execFatalHoldExpiry s
  | .fatalClear value => Sys2Proof.Machine.execFatalClear value s
  | .watchdogKick value => Sys2Proof.Machine.execWatchdogKick value s
  | .watchdogWarn => Sys2Proof.Machine.execWatchdogWarn s
  | .watchdogExpiry => Sys2Proof.Machine.execWatchdogExpiry s
  | .resetNRelease => Sys2Proof.Machine.execResetNRelease s
  | .perstNRelease => Sys2Proof.Machine.execPerstNRelease s
  | .pcieLinkTrained speed width flit => Sys2Proof.Machine.execPcieLinkTrained speed width flit s
  | .sklTrainingRestart link => Sys2Proof.Machine.execSklTrainingRestart link s
  | .peerLinkRecoveryEntry link => Sys2Proof.Machine.execPeerLinkRecoveryEntry link s
  | .peerLinkRecoveryDone link lanes => Sys2Proof.Machine.execPeerLinkRecoveryDone link lanes s
  | .doeDiscovery index => Sys2Proof.Machine.execDoeDiscovery index s
  | .pfcPauseExpiry port sub prio => Sys2Proof.Machine.execPfcPauseExpiry port sub prio s
  | .idleWaitExpiry cistern => Sys2Proof.Machine.execIdleWaitExpiry cistern s
  | .interruptCoalescingTimeout fn vector => Sys2Proof.Machine.execInterruptCoalescingTimeout fn vector s

end Sys2Proof.Machine
end

