-- ==== Sys2Proof/Safety.lean ====
section
/-! DEFINITION. What the claims are stated with: the invariant that every command keeps, and what it means that a command changes
registers alone. -/

namespace Sys2Proof.Machine

/-- The two status fields that stand for a count of the state, which every command brings up to date: the queue pairs that are not
FREE (Table 4.8), and, in SERVE, the occupied slots of the sump (R404). -/
def shownFields : List Field := [Reg.WELL_RC_STATUS_QP_OPEN, Reg.SUMP_OCC_OCCUPIED]

/-- What is shown of the open queue pairs and, in SERVE, of the occupied slots is what the state holds. -/
def State.countsShown (s : State) : Prop :=
  s.rd Reg.WELL_RC_STATUS_QP_OPEN = s.openQps % 2 ^ 17 ∧
  (s.serving = true → s.rd Reg.SUMP_OCC_OCCUPIED = s.occupiedSlots % 2 ^ 23)

/-- `t` differs from `s` in the active values of registers alone, and of those at most in the fields listed and in the two that every
command brings up to date. -/
def RegistersChange (s t : State) (fs : List Field) : Prop :=
  t = { s with regs := { s.regs with active := t.regs.active } } ∧
  ∀ f : Field, f.key ∉ (shownFields ++ fs).map Field.key → t.field f = s.field f

/-- `t` differs from `s` in the outbox, where what is listed has been sent (newest first), and in the two fields that every command
brings up to date. -/
def SendsOnly (s t : State) (os : List Out) : Prop :=
  t = { s with out := os ++ s.out, regs := { s.regs with active := t.regs.active } } ∧
  ∀ f : Field, f.key ∉ shownFields.map Field.key → t.field f = s.field f

/-- An admin command of the opcode runs: it is admitted and its set, opcode and FUSE are the row's (`State.ready`), a record of it can be
written, and the controller accepts host commands, but for Identify, Get Log Page and Get Features, which a mailbox runs before SERVE too (R449, R451,
R517). -/
def State.adminRuns (s : State) (id op : Nat) (c : Cmd) : Prop :=
  s.ready id true op = some c ∧ (unrecorded c.sqe = true ∨ s.auditFull = false) ∧ (s.accepting = true ∨ op ∈ [0x02, 0x06, 0x0A])

/-- An I/O command of the opcode runs on a namespace: it is admitted, its set, opcode and FUSE are the row's, and every check of Table 6.9
up to its reservation and range has passed (`State.ioGate`). -/
def State.ioRuns (s : State) (id op : Nat) (c : Cmd) (n : Ns) : Prop := s.ready id false op = some c ∧ s.ioGate id c = .run n

end Sys2Proof.Machine
end

