-- ==== Sys2Proof/Certificates/Slice0/Obligations.lean ====
section
/-! DEFINITION. The statements for the provers.  Each docstring says what its statement claims and, where the model chose, which log
entry says so.  A next state written `u.settle` is `u` with the two shown counts brought up to date (`State.settle`), which ends every
command. -/

open Sys2Proof Sys2Proof.Machine

/-! ### The queue, the counts shown, reset -/

/-- One step runs the command at the front of the queue on the state with the queue's rest; on an empty queue the block idles
(DESIGN CHOICE, log entry 3). -/
def Obligations.StepRunsTheFrontCommand : Prop :=
  (∀ (c : Instr) (rest : List Instr) (s : State), s.pending = c :: rest → step s = exec c (s.withPending rest)) ∧
  (∀ s : State, s.pending = [] → step s = .next s)

/-- From every state whose shown counts are up to date, a step answers a state whose shown counts are up to date: what
WELL_RC_STATUS.QP_OPEN shows is the number of queue pairs that are not FREE, and in SERVE SUMP_OCC.OCCUPIED shows the occupied slots. -/
def Obligations.StepKeepsShownCounts : Prop :=
  ∀ s t : State, s.countsShown → step s = .next t → t.countsShown

/-- Right after reset the shown counts are up to date. -/
def Obligations.ResetShowsCounts : Prop := State.reset.countsShown

/-- Every command, in every state, ends in a next state: the block has neither a fault nor a refusal to give. -/
def Obligations.EveryCommandAnswers : Prop :=
  ∀ (c : Instr) (s : State), ∃ t : State, exec c s = .next t ∧ t.countsShown

/-- Right after reset every register field holds the value of its table, every counter is 0 with WRAP clear, no shadow and no latch
holds anything, and the controller is in AON. -/
def Obligations.ResetLeavesRegistersAtTheirTableValues : Prop :=
  (∀ f : Field, State.reset.field f = BitVec.ofNat 32 f.reset) ∧
  (∀ c : Counter, State.reset.counter c = 0 ∧ State.reset.wrapped c = false) ∧
  (∀ f : Field, State.reset.shadowOf f = State.reset.field f) ∧
  State.reset.st = stAON ∧ State.reset.pending = [] ∧ State.reset.out = []

/-! ### Plain BAR0 accesses (chapters 0 and 22) -/

/-- A whole-word BAR0 write.  Outside every block, and of a block whose reads answer all ones, nothing is written; of a block that BAR0 does not
decode it is an Unsupported Request.  Of a decoded block an access to a gated domain is recorded as the cause of waking (`State.accessWake`), and then: a word
of a block in its own reset, outside its common registers, and a word of an absent node are left alone; a word of the MSI-X table is
written there; a word of the namespace registers is refused with `CRY_ERR` bit 9 while the audit log is full, and is otherwise applied and
audited; any other word is applied field by field. -/
def Obligations.RegisterWriteAppliesEveryFieldOfTheWord : Prop :=
  ∀ (off : Nat) (value : W32) (s : State),
    (blockAt off = none → exec (.registerWrite off value) s = .next s.settle) ∧
    (∀ b : Block, blockAt off = some b → s.decodeOf b = .ones → exec (.registerWrite off value) s = .next s.settle) ∧
    (∀ b : Block, blockAt off = some b → s.decodeOf b = .none → exec (.registerWrite off value) s = .next (s.unsupportedReq 0).settle) ∧
    (∀ (b : Block) (u : State), blockAt off = some b → s.decodeOf b = .all → u = s.accessWake b off →
      ((u.is (fResetting b) = true ∧ off / 0x20 ≠ commonBase b / 0x20) ∨ u.absentNode off = true →
        exec (.registerWrite off value) s = .next u.settle) ∧
      (u.is (fResetting b) = false → u.absentNode off = false →
        (0x600000 ≤ off → off < 0x608000 → exec (.registerWrite off value) s = .next (u.wrMsixTable off value).settle) ∧
        (nsRegister off = true → u.auditFull = true → exec (.registerWrite off value) s = .next (u.setErr .cry 9).settle) ∧
        (nsRegister off = true → u.auditFull = false → exec (.registerWrite off value) s =
          .next ((((fieldsAt off).foldl (fun s f => s.wrField b value f) (u.wrWrap off value)).audited off value false).settle)) ∧
        (¬ (0x600000 ≤ off ∧ off < 0x608000) → nsRegister off = false → exec (.registerWrite off value) s =
          .next ((fieldsAt off).foldl (fun s f => s.wrField b value f) (u.wrWrap off value)).settle)))

/-- A field of a written word by its access code and class, where no other command has its own row for it and it is no half of a 64-bit
value: RO, IMG, RC, WO and W1S fields keep their value; a quiescent field of a running block is ignored and sets QWRITE, of a stopped block
it takes the value; a shadowed live field takes it in its shadow while its active value stays, and while an agreed launch locks the shadows
it keeps them and sets LIVE_LOCKED; an unshadowed live field outside the launch, look-aside ring, event ring, watchdog and EVT_EN registers takes
the value; a static field keeps its own; W1C clears the bits written 1. -/
def Obligations.FieldWriteFollowsAccessAndClass : Prop :=
  ∀ (b : Block) (value : W32) (f : Field) (s : State), hasOwnRow f = false → highOf f = none → lowOf f = none → f.width ≤ 32 →
    ((f.acc = .ro ∨ f.acc = .img ∨ f.acc = .rc ∨ f.acc = .wo ∨ f.acc = .w1s) → s.wrField b value f = s) ∧
    ((f.acc = .rw ∨ f.acc = .rws) → f.cls = .static → s.wrField b value f = s) ∧
    ((f.acc = .rw ∨ f.acc = .rws) → f.cls = .quiescent → s.stopped b = false → s.wrField b value f = s.wr (fErr b 0) 1) ∧
    ((f.acc = .rw ∨ f.acc = .rws) → f.cls = .quiescent → s.stopped b = true →
      s.wrField b value f = s.wr f (value.toNat / 2 ^ f.lo % 2 ^ f.width)) ∧
    ((f.acc = .rw ∨ f.acc = .rws) → f.cls = .live → f.shadowed = true → s.is Reg.GLB_COMMIT_STATUS_LOCKED = true →
      s.wrField b value f = s.wr (fErr .glb 9) 1) ∧
    ((f.acc = .rw ∨ f.acc = .rws) → f.cls = .live → f.shadowed = true → s.is Reg.GLB_COMMIT_STATUS_LOCKED = false →
      (s.wrField b value f).shadowOf f = BitVec.ofNat 32 (value.toNat / 2 ^ f.lo % 2 ^ f.width) ∧
      ∀ g : Field, (s.wrField b value f).field g = s.field g) ∧
    ((f.acc = .rw ∨ f.acc = .rws) → f.cls = .live → f.shadowed = false → launchAt f.off = none → f.off ≠ 0x400400 →
      f.off ≠ Reg.CRY_LA_RING_LO.off → f.off ≠ Reg.CRY_LA_RING_HI.off → f.off ≠ Reg.CRY_LA_RING_SIZE.off → rangeKept f = false →
      f.acc = .rw → s.wrField b value f = s.wr f (value.toNat / 2 ^ f.lo % 2 ^ f.width)) ∧
    (f.acc = .w1c → s.wrField b value f = s.wr f (s.rd f - (s.rd f &&& (value.toNat / 2 ^ f.lo % 2 ^ f.width))))

/-- A read of a low word answers its addressed bytes and latches the high word, which a read of the high word then returns, whatever the
register holds by then (a read of any byte of the low word latches: DEDUCED, log entry 53).  A written low word is kept apart and changes no field;
the write of the high word then applies both, low before high, and forgets the low word.  For seven 64-bit values that take a write directly,
both words then hold what was written. -/
def Obligations.SixtyFourBitValuesMoveWhole : Prop :=
  (∀ (off n : Nat) (s : State), s.decodes (regOf off) = true → isLowWord (behind (regOf off)) = true →
    ∃ t : State, exec (.lowWordRead off n) s = .next t ∧
      (∃ w : W32, s.readWord (regOf off) = some w ∧ t.out = .readData off n (addressed off n w) :: s.out) ∧
      Tab.find (regOf off + 4) t.regs.readLatch = some (s.word (regOf off + 4)) ∧
      ∀ u : State, u.regs.readLatch = t.regs.readLatch → u.decodes (regOf off + 4) = true →
        u.readWord (regOf off + 4) = some (s.word (regOf off + 4))) ∧
  (∀ (off n : Nat) (s : State), (s.decodes (regOf off) = false ∨ isLowWord (behind (regOf off)) = false) →
    exec (.lowWordRead off n) s = .next (s.answerRead off n).settle) ∧
  (∀ (b : Block) (v : W32) (l h : Field) (s : State), hasOwnRow l = false → (l.acc = .rw ∨ l.acc = .rws) → l.cls = .live → highOf l = some h →
    (∀ g : Field, (s.wrField b v l).field g = s.field g) ∧
    Tab.find l.off (s.wrField b v l).regs.writeLatch = some (BitVec.ofNat 32 (v.toNat / 2 ^ l.lo % 2 ^ l.width))) ∧
  (∀ (b : Block) (v w : W32) (l h : Field) (s : State), hasOwnRow h = false → (h.acc = .rw ∨ h.acc = .rws) → h.cls = .live →
    highOf h = none → lowOf h = some l → Tab.find l.off s.regs.writeLatch = some w →
    s.wrField b v h = (({ s with regs := { s.regs with writeLatch := Tab.del l.off s.regs.writeLatch } } : State).wrLive l w.toNat).wrLive h
      (v.toNat / 2 ^ h.lo % 2 ^ h.width)) ∧
  (∀ (b : Block) (v w : W32) (s : State), ∀ p ∈ [(Reg.IMG_STAGE_ADDR_LO, Reg.IMG_STAGE_ADDR_HI), (Reg.TIME_TOD_LO, Reg.TIME_TOD_HI),
      (Reg.CRY_KEY_ADDR_LO, Reg.CRY_KEY_ADDR_HI), (Reg.CRY_RET_UNTIL_LO, Reg.CRY_RET_UNTIL_HI),
      (Reg.SEQ_ATOM_OPERAND_LO, Reg.SEQ_ATOM_OPERAND_HI), (Reg.PMU_SNAP_ADDR_LO, Reg.PMU_SNAP_ADDR_HI),
      (Reg.FTL_NS_NSZE_LO, Reg.FTL_NS_NSZE_HI)],
    ((s.wrField b v p.1).wrField b w p.2).field p.1 = v ∧ ((s.wrField b v p.1).wrField b w p.2).field p.2 = w)

/-- A write of fewer than four bytes is discarded and sets GLB_ERR.PARTIAL_WR, but of a block that BAR0 does not decode it is an Unsupported
Request.  A read of one to four bytes of a register of a decoded block answers the addressed bytes and, unless the block is in its own
reset, clears every RC field in it (a read of any of its bytes does: DEDUCED, log entry 53). -/
def Obligations.PartialWritesAreDiscardedAndReadsClear : Prop :=
  (∀ (off : Nat) (value : W32) (s : State), (∀ b : Block, blockAt off = some b → s.decodeOf b ≠ .none) →
    ∃ t : State, exec (.bar0PartialWrite off value) s = .next t ∧ t.rd (fErr .glb 8) = 1 ∧ RegistersChange s t [fErr .glb 8]) ∧
  (∀ (off : Nat) (value : W32) (b : Block) (s : State), blockAt off = some b → s.decodeOf b = .none →
    exec (.bar0PartialWrite off value) s = .next (s.unsupportedReq 0).settle) ∧
  (∀ (off n : Nat) (b : Block) (s : State), blockAt (regOf off) = some b → s.decodeOf b = .all →
    ∃ t : State, exec (.rcFieldRead off n) s = .next t ∧
      (∃ w : W32, s.readWord (regOf off) = some w ∧ t.out = .readData off n (addressed off n w) :: s.out) ∧
      (s.is (fResetting b) = false → ∀ f ∈ fieldsAt (regOf off), f.acc = .rc → f.key ∉ shownFields.map Field.key → t.rd f = 0)) ∧
  (∀ (off n : Nat) (s : State), s.decodes (regOf off) = false →
    exec (.rcFieldRead off n) s = .next (s.answerRead off n).settle)

/-! ### Resets (chapter 3) -/

/-- When each command of the reset family has an effect, and what that is; otherwise it leaves the state as it is (but for the shown counts).
The input rising while it was below range or in AON is a power-on reset with the flash and fuses that the board presents; RESET_N falling takes
its reset unless something holds the controller in reset already; 100 ms after it fell a save that still runs has failed and the reset
begins with SAVE_INCOMPLETE; a write of GLB_RESET is applied as a register write, and with its key, GLB decoded, no warm reset going on and nothing
holding the controller in reset, FULL takes a software full reset and WARM without FULL a warm one; the input's return after a power
failure in priming is a software full reset; RESET_N released lets priming start at AON where nothing else holds the controller in reset. -/
def Obligations.ResetsBegin : Prop :=
  (∀ (board : Board) (s : State),
    ((s.prim.powered = false ∨ s.st = stAON) → exec (.powerOn board) s = .next (({ s with
      prim := { s.prim with powered := true }
      img := { s.img with nor := board.nor.getD s.img.nor, fuses := board.fuses.getD s.img.fuses }
      sump := { s.sump with pwrfailLow := false, inputLow := false } } : State).resetNow .powerOn).settle) ∧
    (s.prim.powered = true → s.st ≠ stAON → exec (.powerOn board) s = .next s.settle)) ∧
  (∀ s u : State, u = { s with prim := { s.prim with resetNLow := true } } →
    (s.heldInReset = false → exec .resetNAsserted s = .next (u.takeReset .resetN).settle) ∧
    (s.heldInReset = true → exec .resetNAsserted s = .next u.settle)) ∧
  (∀ s : State,
    (∀ (cause : SaveCause) (since : Nat), s.prim.waiting = some .resetN → s.sump.save = some (cause, since) →
      exec .resetNSaveTimeout s =
        .next (((s.atLeast (s.prim.resetNAt + 100 * ms)).saveFailed cause).resetSaved .resetN false).settle) ∧
    ((s.prim.waiting ≠ some .resetN ∨ s.sump.save = none) → exec .resetNSaveTimeout s = .next s.settle)) ∧
  (∀ (value : W32) (s : State),
    (s.resetWrite value = true → value.toNat % 2 = 1 →
      exec (.softwareFullReset value) s = .next ((s.writeWord offReset value).takeReset .softFull).settle ∧
      exec (.warmReset value) s = .next ((s.writeWord offReset value).takeReset .softFull).settle) ∧
    (s.resetWrite value = true → value.toNat % 4 = 2 →
      exec (.warmReset value) s = .next ((s.writeWord offReset value).takeReset .warm).settle) ∧
    ((s.resetWrite value = false ∨ value.toNat % 4 = 0) → exec (.warmReset value) s = .next (s.writeWord offReset value).settle) ∧
    ((s.resetWrite value = false ∨ value.toNat % 2 = 0) → exec (.softwareFullReset value) s = .next (s.writeWord offReset value).settle)) ∧
  (∀ s : State,
    (s.prim.pwrStop = true → exec .primingPwrfailRelease s =
      .next (({ s with sump := { s.sump with pwrfailLow := false, inputLow := false } } : State).resetNow .softFull).settle) ∧
    (s.prim.pwrStop = false → exec .primingPwrfailRelease s = .next s.settle)) ∧
  (∀ s u : State, u = { s with prim := { s.prim with resetNLow := false } } →
    (s.prim.resetNLow = false → exec .resetNRelease s = .next s.settle) ∧
    (s.prim.resetNLow = true → (s.prim.powered = false ∨ s.prim.tripHeld = true ∨ s.st ≠ stAON) →
      exec .resetNRelease s = .next u.settle) ∧
    (s.prim.resetNLow = true → s.prim.powered = true → s.prim.tripHeld = false → s.st = stAON →
      exec .resetNRelease s = .next (u.enterState stAON).settle))

/-- Every reset returns each field of the tables to its table's value or keeps it, as `keepField` says of its kind: an RWS field outlasts a warm
reset and no other, a field of the MRAM domain every reset, a field of the power-on domain every reset but a power-on one; every shadow
then equals the active value; the counters are kept by a warm reset and zeroed by every other.  Unless something holds the controller in
reset, the state that it starts at is its kind's: AON, ROM or MEM. -/
def Obligations.ResetFollowsTheDomain : Prop :=
  ∀ (k : ResetKind) (keepImg : Bool) (s : State),
    (∀ f : Field, fieldOfKey f.key = some f →
      (keepField k keepImg f = true → (s.resetRegs k keepImg).field f = s.field f) ∧
      (keepField k keepImg f = false → (s.resetRegs k keepImg).field f = BitVec.ofNat 32 f.reset) ∧
      (s.resetRegs k keepImg).shadowOf f = (s.resetRegs k keepImg).field f) ∧
    (∀ c : Counter, (s.resetRegs k keepImg).counter c = if k = .warm then s.counter c else 0) ∧
    (∀ f : Field, f.domain = .sticky → (keepField k keepImg f = true ↔ k = .warm)) ∧
    (∀ f : Field, f.domain = .mram → keepField k keepImg f = true) ∧
    (∀ f : Field, f.domain = .powerOn → (keepField k keepImg f = true ↔ k ≠ .powerOn)) ∧
    (s.heldInReset = false → (s.resetNow k keepImg).st = k.startsAt)

/-! ### Priming (chapter 3) -/

/-- The completions of AON, ROM, CLOCKS and MEM: each counts only while priming goes on in its state (`State.primes`) and leaves the state alone
otherwise.  AON done with good regulators shows the straps and enters ROM, and with a bad one halts with that cause.  In ROM, BOOT_MODE 1
enters recovery mode with no image booted; otherwise the image check boots an image and enters CLOCKS, but stops for JTAG where BOOT_MODE is 2 and
the debug fuse is set, and enters recovery mode where no slot passes.  All 20 clock domains locked start the clocks and enter MEM, fewer
halt.  MEM halts with no channel trained or less than 128 GiB, with no MRAM, or, on a full start, with bad buffer SRAM; otherwise it enters STRUCT,
on a full start with DRAM empty at its found size. -/
def Obligations.PrimingUpToStruct : Prop :=
  (∀ (good : Bool) (mode : BitVec 2) (took : Nat) (s : State), s.primes stAON = false → exec (.aonDone good mode took) s = .next s.settle) ∧
  (∀ (mode : BitVec 2) (took : Nat) (s : State), s.primes stAON = true →
    (∃ t : State, exec (.aonDone true mode took) s = .next t ∧ t.st = stROM ∧ t.rd Reg.GLB_STRAP_BOOT_MODE = mode.toNat ∧
      t.tm.mono = s.tm.mono + took) ∧
    exec (.aonDone false mode took) s = .next ((s.advance took).halt fcRegulator).settle) ∧
  (∀ (took : Nat) (s : State), s.primes stROM = false → exec (.romImageCheck took) s = .next s.settle) ∧
  (∀ (took : Nat) (s : State), s.primes stROM = true → s.rd Reg.GLB_STRAP_BOOT_MODE = 1 →
    ∃ t : State, exec (.romImageCheck took) s = .next t ∧ t.prim.recovery = true ∧ t.img.booted = none) ∧
  (∀ (took : Nat) (s u : State) (found : Bool), s.primes stROM = true → s.rd Reg.GLB_STRAP_BOOT_MODE ≠ 1 → (s.advance took).romBoot = (u, found) →
    (found = false → exec (.romImageCheck took) s = .next (u.enterRecovery fcImage).settle) ∧
    (found = true → (u.rd Reg.GLB_STRAP_BOOT_MODE ≠ 2 ∨ u.img.fuses.debug = false) →
      exec (.romImageCheck took) s = .next (u.enterState stCLOCKS).settle ∧ (u.enterState stCLOCKS).settle.st = stCLOCKS) ∧
    (found = true → u.rd Reg.GLB_STRAP_BOOT_MODE = 2 → u.img.fuses.debug = true →
      exec (.romImageCheck took) s = .next ({ u with prim := { u.prim with jtagStop := true } } : State).settle)) ∧
  (∀ (locked : BitVec 20) (took : Nat) (s : State), s.primes stCLOCKS = false → exec (.clocksLocked locked took) s = .next s.settle) ∧
  (∀ (took : Nat) (s : State), s.primes stCLOCKS = true →
    ∃ t : State, exec (.clocksLocked 0xFFFFF#20 took) s = .next t ∧ t.st = stMEM ∧ t.tm.mono = 0 ∧ t.tm.shelf64 = 0 ∧
      t.tm.secure = s.tm.floor ∧ t.rd Reg.PWR_CLK_LOCK = 0xFFFFF) ∧
  (∀ (locked : BitVec 20) (took : Nat) (s : State), s.primes stCLOCKS = true → locked ≠ 0xFFFFF#20 →
    exec (.clocksLocked locked took) s = .next (((s.advance took).wr Reg.PWR_CLK_LOCK locked.toNat).halt fcClock).settle) ∧
  (∀ (m : MemInit) (took : Nat) (s : State), s.primes stMEM = false → exec (.memInitDone m took) s = .next s.settle) ∧
  (∀ (m : MemInit) (took : Nat) (s : State), s.primes stMEM = true → 128 ≤ m.capacityGiB → m.mramAnswers = true →
    (s.prim.warm = true ∨ m.sramGood = true) → m.trained.toNat &&& s.params.populated ≠ 0 →
    ∃ t : State, exec (.memInitDone m took) s = .next t ∧ t.st = stSTRUCT ∧
      (s.prim.warm = false → t.mem.dram = [] ∧ t.mem.dramBytes = m.capacityGiB * 2 ^ 30) ∧
      (s.prim.warm = true → t.mem.dram = s.mem.dram ∧ t.mem.dramBytes = s.mem.dramBytes)) ∧
  (∀ (m : MemInit) (took : Nat) (s : State), s.primes stMEM = true →
    ((m.trained.toNat &&& s.params.populated = 0 ∨ m.capacityGiB < 128) →
      ∃ t : State, exec (.memInitDone m took) s = .next t ∧ t.st = stHALTED ∧ t.rd Reg.GLB_PRIME_STATUS_FAIL_CAUSE = fcDram) ∧
    (m.trained.toNat &&& s.params.populated ≠ 0 → 128 ≤ m.capacityGiB → m.mramAnswers = false →
      ∃ t : State, exec (.memInitDone m took) s = .next t ∧ t.st = stHALTED ∧ t.rd Reg.GLB_PRIME_STATUS_FAIL_CAUSE = fcMram) ∧
    (m.trained.toNat &&& s.params.populated ≠ 0 → 128 ≤ m.capacityGiB → m.mramAnswers = true → s.prim.warm = false → m.sramGood = false →
      ∃ t : State, exec (.memInitDone m took) s = .next t ∧ t.st = stHALTED ∧ t.rd Reg.GLB_PRIME_STATUS_FAIL_CAUSE = fcSram))

/-- The completions of STRUCT, DRAM initialisation, PRIME, RECOVER and POD: each counts only while priming goes on in its state and leaves the state
alone otherwise.  STRUCT done applies POLICY (after a warm reset only to the fields which that reset did not keep): a refused record is
shown and takes the software full reset into the other slot, a sequencer that fails its test halts, an inconsistent window schedule is shown
and takes the same reset, and otherwise the blocks are started in order and PRIME entered.  DRAM initialised is shown from STRUCT on.  PRIME done
enters RECOVER once DRAM is initialised, every slot group started and every slot settled, and halts where a slot-power die failed its test.
RECOVER done ends once nothing is left to be placed.  POD ends in SERVE at the join timeout with no member in SERVE, or joined: a member heard, the
live set of a serving member taken, and the pair key agreed with a serving partner. -/
def Obligations.PrimingFromStructToServe : Prop :=
  (∀ (seqPass : BitVec 16) (facts : RecoverFacts) (good : Bool) (took : Nat) (s : State),
    (s.primes stSTRUCT = false → exec (.structDone seqPass took) s = .next s.settle) ∧
    (s.primes stPRIME = false → exec (.primeDone good facts took) s = .next s.settle) ∧
    (s.primes stRECOVER = false → exec (.recoverDone took) s = .next s.settle) ∧
    (s.primes stPOD = false → exec .joinTimeout s = .next s.settle ∧ exec (.podJoinDone took) s = .next s.settle)) ∧
  (∀ (seqPass : BitVec 16) (took : Nat) (s v u : State) (bad : Option Nat), s.primes stSTRUCT = true → v = s.advance took →
    v.applyPolicy (fun f => !v.prim.warm || !keepField .warm false f) v.policy = (u, bad) →
    (∀ record : Nat, bad = some record → exec (.structDone seqPass took) s = .next (u.policyFails record).settle) ∧
    (bad = none → seqPass ≠ 0xFFFF → exec (.structDone seqPass took) s = .next (u.halt fcSeq).settle) ∧
    (bad = none → u.scheduleGood = false → exec (.structDone 0xFFFF took) s = .next ((u.setErr .time 8).policyFails noRecord).settle) ∧
    (bad = none → u.scheduleGood = true → exec (.structDone 0xFFFF took) s = .next ((startOrder (u.params.peerMode != 0)).foldl
      (fun (s : State) b => s.startBlock b) u).enterPrime.settle)) ∧
  (∀ s : State,
    (s.mem.dramBytes ≠ 0 → stSTRUCT ≤ s.st → s.st ≠ stHALTED → s.heldInReset = false →
      ∃ t : State, exec .dramInitDone s = .next t ∧ t.rd Reg.GLB_PRIME_STATUS_DRAM_INIT_DONE = 1 ∧
        RegistersChange s t [Reg.GLB_PRIME_STATUS_DRAM_INIT_DONE]) ∧
    ((s.mem.dramBytes = 0 ∨ s.st < stSTRUCT ∨ s.st = stHALTED ∨ s.heldInReset = true) → exec .dramInitDone s = .next s.settle)) ∧
  (∀ (facts : RecoverFacts) (took : Nat) (s : State), s.primes stPRIME = true →
    (s.is Reg.GLB_PRIME_STATUS_DRAM_INIT_DONE = true → s.shelf.groups = [] → slots48.all s.slotSettled = true →
      exec (.primeDone true facts took) s = .next (((s.advance took).enterState stRECOVER).beginRecover facts).settle) ∧
    ((s.is Reg.GLB_PRIME_STATUS_DRAM_INIT_DONE = false ∨ s.shelf.groups ≠ [] ∨ slots48.all s.slotSettled = false) →
      exec (.primeDone true facts took) s = .next s.settle) ∧
    exec (.primeDone false facts took) s = .next ((s.advance took).halt fcSlot).settle) ∧
  (∀ (took : Nat) (s u : State), s.primes stRECOVER = true → u = s.advance took →
    (u.ftl.versions = [] → u.ftl.asm = [] → u.placing = false → exec (.recoverDone took) s = .next u.endRecover.afterRecover.settle) ∧
    (u.ftl.versions = [] → u.ftl.asm = [] → u.placing = true → exec (.recoverDone took) s = .next u.settle) ∧
    (∀ v : State, (u.ftl.versions ≠ [] ∨ u.ftl.asm ≠ []) → v = (u.composeAll.assignAll).padStripes → exec (.recoverDone took) s =
      .next (if v.placing then v else v.endRecover.afterRecover).settle)) ∧
  (∀ s : State, s.primes stPOD = true →
    (s.rd Reg.POD_STATUS_SERVE_SET = 0 → exec .joinTimeout s =
      .next (s.atLeast (s.prim.enteredAt + s.rd Reg.GLB_PRIME_CTL2_JOIN_TIMEOUT * 10 * ms)).enterServe.settle) ∧
    (s.rd Reg.POD_STATUS_SERVE_SET ≠ 0 → exec .joinTimeout s = .next s.settle)) ∧
  (∀ (took : Nat) (s : State), s.primes stPOD = true →
    ((s.pod.heard.any fun e => e.2.hello.isSome) = true → (s.rd Reg.POD_STATUS_SERVE_SET = 0 ∨ s.pod.liveDone = true) →
      (s.partnerServes = false ∨ s.pod.pairKey = true) → exec (.podJoinDone took) s = .next (s.advance took).enterServe.settle) ∧
    (((s.pod.heard.any fun e => e.2.hello.isSome) = false ∨ (s.rd Reg.POD_STATUS_SERVE_SET ≠ 0 ∧ s.pod.liveDone = false) ∨
      (s.partnerServes = true ∧ s.pod.pairKey = false)) → exec (.podJoinDone took) s = .next s.settle))

/-- HALTED: the state and its cause are shown, every slot channel is off, and every Ethernet, Skalas and peer link is down. -/
def Obligations.HaltedTakesEverySlotAndLinkDown : Prop :=
  ∀ (cause : Nat) (s : State), cause < 256 →
    (s.halt cause).st = stHALTED ∧ (s.halt cause).rd Reg.GLB_PRIME_STATUS_FAIL_CAUSE = cause ∧
    (s.halt cause).rd Reg.GLB_PRIME_STATUS_RRS = 0 ∧
    (∀ n < 48, (s.halt cause).chState n = chOff ∧ (s.halt cause).rd (Reg.SKL_LINK_STATE.at n) = lkDown) ∧
    (∀ n < 4, (s.halt cause).rd (Reg.ETH_LINK_UP.at n) = 0) ∧ (∀ n < 2, (s.halt cause).rd (Reg.PL_LINK_STATE.at n) = 0)

/-! ### The shelf image, fuses (chapters 2, 22) -/

/-- The commands on images.  IMG not reached (`State.reached`: not decoded, or in its own reset), each write comes to what such an access comes
to.  Staging is ignored while one is in progress, is refused with TRIAL_PENDING during a trial, and otherwise takes the copy and shows BUSY with
no result.  When it is done, a copy that fails R66 leaves its result code and the slots alone; a copy that passes is programmed into the slot not
booted, with RESULT OK where it reads back, and that slot is left erased where it does not (which code is then shown is free: log entry 48).  With a
staged slot both selector copies are rewritten to prefer the slot not booted as a trial.  Accepting a booted image ends the trial and raises the security
version, audited, and is refused with `CRY_ERR` bit 9 while the audit log is full. -/
def Obligations.ImagesAreStagedTriedAndAccepted : Prop :=
  (∀ s : State, s.reached .img = false → ∀ c ∈ [Instr.imageStage, .trialNext, .imageAccept], exec c s = .next (s.unreached .img).settle) ∧
  (∀ s : State, s.reached .img = true →
    (s.is Reg.IMG_STAGE_STATUS_BUSY = true → exec .imageStage s = .next s.settle) ∧
    (s.is Reg.IMG_STAGE_STATUS_BUSY = false → s.is Reg.IMG_STATUS_TRIAL = true →
      ∃ t : State, exec .imageStage s = .next t ∧ t.rd Reg.IMG_STAGE_STATUS_RESULT = imgTrialPending ∧
        RegistersChange s t [Reg.IMG_STAGE_STATUS_RESULT]) ∧
    (s.is Reg.IMG_STAGE_STATUS_BUSY = false → s.is Reg.IMG_STATUS_TRIAL = false →
      ∃ t : State, exec .imageStage s = .next t ∧ t.rd Reg.IMG_STAGE_STATUS_BUSY = 1 ∧
        t.rd Reg.IMG_STAGE_STATUS_RESULT = imgNone ∧ t.img = { s.img with staged := some s.stagedBytes })) ∧
  (∀ (good : Bool) (s : State), s.is Reg.IMG_STAGE_STATUS_BUSY = false → exec (.stagingDone good) s = .next s.settle) ∧
  (∀ (l : List Byte) (good : Bool) (s : State), s.is Reg.IMG_STAGE_STATUS_BUSY = true → s.img.staged = some l →
    (∀ code index : Nat, checkImage s.img.fuses l.length (readImage l l.length) = some (code, index) →
      ∃ t : State, exec (.stagingDone good) s = .next t ∧ t.rd Reg.IMG_STAGE_STATUS_BUSY = 0 ∧
        t.rd Reg.IMG_STAGE_STATUS_RESULT = code % 16 ∧ t.img = { s.img with staged := none }) ∧
    (checkImage s.img.fuses l.length (readImage l l.length) = none →
      ∃ t : State, exec (.stagingDone good) s = .next t ∧ t.rd Reg.IMG_STAGE_STATUS_BUSY = 0 ∧
        (good = true → t.rd Reg.IMG_STAGE_STATUS_RESULT = imgOk) ∧
        t.img = { s.img with nor := norProgram s.img.nor (slotRegion s.targetSlot) (if good then l else []), staged := none })) ∧
  (∀ s : State, s.reached .img = true →
    ((s.is Reg.IMG_STAGE_STATUS_BUSY = true ∨ s.rd Reg.IMG_STAGE_STATUS_RESULT ≠ imgOk) → exec .trialNext s = .next s.settle) ∧
    (∀ f : Selector → Selector, f = (fun c => { c with preferred := s.targetSlot, trial := true, trialUsed := false }) →
      s.is Reg.IMG_STAGE_STATUS_BUSY = false → s.rd Reg.IMG_STAGE_STATUS_RESULT = imgOk → exec .trialNext s =
        .next ({ s with img := { s.img with nor := norRewrite (norRewrite s.img.nor f) f } } : State).settle)) ∧
  (∀ s : State, s.reached .img = true →
    (s.img.booted = none → exec .imageAccept s = .next s.settle) ∧
    (s.img.booted ≠ none → s.auditFull = true → exec .imageAccept s = .next (s.setErr .cry 9).settle) ∧
    (∀ b : Booted, s.img.booted = some b → s.auditFull = false →
      exec .imageAccept s = .next (s.acceptImage.audited 0x200010 4 false).settle ∧
      s.acceptImage.img.fuses.svn = max s.img.fuses.svn b.svn ∧ s.acceptImage.rd Reg.IMG_STATUS_TRIAL = 0))

/-- A fuse operation: the write of its register is applied; without IMG reached, without KEY 0x9648 or while an operation is in progress nothing
follows; while the audit log is full it is refused with `CRY_ERR` bit 9; otherwise it starts, shown by BUSY, with an outcome settled by PROVISION
and by whether the slot is programmed, and is audited.  When it ends BUSY clears, RESULT shows the outcome, and only an OK one has changed the
fuses: the slot is then programmed with its digest, or revoked. -/
def Obligations.FuseOperationsAreKeyedAuditedAndChecked : Prop :=
  (∀ (value : W32) (s u : State), u = s.imgWrite 0x200080 value →
    ∀ e ∈ [(Instr.fuseProgram value, false), (.fuseRevoke value, true)],
      ((u.reached .img = false ∨ value.toNat / 65536 ≠ 0x9648 ∨ u.is Reg.IMG_FUSE_STATUS_BUSY = true) → exec e.1 s = .next u.settle) ∧
      (u.reached .img = true → value.toNat / 65536 = 0x9648 → u.is Reg.IMG_FUSE_STATUS_BUSY = false →
        (u.auditFull = true → exec e.1 s = .next (u.setErr .cry 9).settle) ∧
        (∀ p : FusePlan, u.auditFull = false → (u.fuseStart e.2).img.fusePlan = some p →
          exec e.1 s = .next ((u.fuseStart e.2).audited 0x200080 value (p.result != fuseOk)).settle))) ∧
  (∀ (revoke : Bool) (u : State), ∃ p : FusePlan, (u.fuseStart revoke).img.fusePlan = some p ∧ p.index = u.rd Reg.IMG_FUSE_CTL_INDEX ∧
    p.revoke = revoke ∧ p.hash = u.fuseHash ∧ (u.fuseStart revoke).rd Reg.IMG_FUSE_STATUS_BUSY = 1 ∧
    (p.result = fuseOk ↔ (u.img.booted.getD {}).provision = true ∧ (u.img.fuses.owner.getD p.index {}).programmed = revoke)) ∧
  (∀ s : State, s.img.fusePlan = none → exec .fuseOpDone s = .next s.settle) ∧
  (∀ (p : FusePlan) (s : State), s.img.fusePlan = some p → p.result < 4 →
    ∃ t : State, exec .fuseOpDone s = .next t ∧ t.img.fusePlan = none ∧ t.rd Reg.IMG_FUSE_STATUS_BUSY = 0 ∧
      t.rd Reg.IMG_FUSE_STATUS_RESULT = p.result ∧ (p.result ≠ fuseOk → t.img.fuses = s.img.fuses) ∧
      (p.result = fuseOk → p.revoke = false → t.img.fuses.owner[p.index]? = some
        { (s.img.fuses.owner.getD p.index {}) with programmed := true, hash := p.hash, pq := p.pq }) ∧
      (p.result = fuseOk → p.revoke = true → t.img.fuses.owner[p.index]? = some
        { (s.img.fuses.owner.getD p.index {}) with revoked := true }))

/-! ### Commits (R74 to R76) -/

/-- A write of GLB_COMMIT is applied as a register write; before PRIME, in a warm reset or with GLB not decoded nothing follows; while an agreed
launch locks the shadows it sets LIVE_LOCKED; ABORT drops every shadow and shows ABORTED (while a commit is BUSY the shadows then follow its new
values: DESIGN CHOICE, log entry 57); COMMIT alone is a commit point.  A commit point while no commit is BUSY shows BUSY and the shelf time and
begins; while one is BUSY it is held, and merges into one held already.  When every block has answered, the outcome is shown, and the held one
begins. -/
def Obligations.CommitPointsTakeASnapshot : Prop :=
  (∀ (value : W32) (s u : State), u = s.writeWord 0x100 value → ∀ c ∈ [Instr.commit value, .commitAbort value],
    (s.commitOpen = false → exec c s = .next u.settle) ∧
    (s.commitOpen = true → s.is Reg.GLB_COMMIT_STATUS_LOCKED = true → exec c s = .next (u.setErr .glb 9).settle) ∧
    (s.commitOpen = true → s.is Reg.GLB_COMMIT_STATUS_LOCKED = false →
      (value.toNat % 4 = 0 → exec c s = .next u.settle) ∧
      (value.toNat % 4 = 1 → exec c s = .next (u.commitPoint .write).settle) ∧
      (value.toNat / 2 % 2 = 1 → exec c s = .next u.abortCommit.settle))) ∧
  (∀ u : State, u.abortCommit.regs.shadow = [] ∧ u.abortCommit.rd Reg.GLB_COMMIT_STATUS_LAST_RESULT = crAborted ∧ u.abortCommit.commit = u.commit ∧
    ∀ f : Field, f.key ≠ Reg.GLB_COMMIT_STATUS_LAST_RESULT.key → u.abortCommit.field f = u.field f) ∧
  (∀ (src : CommitSource) (u : State),
    (u.is Reg.GLB_COMMIT_STATUS_BUSY = true → u.commit.held = none → u.commitPoint src = { u with commit := { u.commit with held := some src } }) ∧
    (∀ h : CommitSource, u.is Reg.GLB_COMMIT_STATUS_BUSY = true → u.commit.held = some h →
      u.commitPoint src = { u with commit := { u.commit with held := some (if src = .pod then .pod else h) } }) ∧
    (u.is Reg.GLB_COMMIT_STATUS_BUSY = false → u.commitPoint src = u.beginCommit src)) ∧
  (∀ s : State, s.is Reg.GLB_COMMIT_STATUS_BUSY = false → exec .commitApplyDone s = .next s.settle) ∧
  (∀ s v : State, s.is Reg.GLB_COMMIT_STATUS_BUSY = true → v = { s.settleCommit with commit := { s.settleCommit.commit with held := none } } →
    (s.commit.held = none → exec .commitApplyDone s = .next v.settle) ∧
    (∀ src : CommitSource, s.commit.held = some src → exec .commitApplyDone s = .next (v.commitPoint src).settle))

/-- A commit is applied as a whole or not at all.  It begins by showing BUSY and the shelf time; the snapshot of the shadows that differ is then judged.
Refused by a block, it changes no other field and keeps the shadows; accepted, the values of the snapshot stand in their fields together and no other
field takes a value from it (`State.overlay`), before what those values do besides (`State.applyEffects`).  When every block has answered,
BUSY clears and the result shown is APPLIED, or REJECTED with the number of the block that refused. -/
def Obligations.CommitsApplyAllOrNone : Prop :=
  (∀ (src : CommitSource) (s u : State),
    u = (s.wr Reg.GLB_COMMIT_STATUS_BUSY 1).wr64 Reg.GLB_COMMIT_TIME_LO Reg.GLB_COMMIT_TIME_HI s.tm.shelf →
    u.rd Reg.GLB_COMMIT_STATUS_BUSY = 1 ∧ u.rd64 Reg.GLB_COMMIT_TIME_LO Reg.GLB_COMMIT_TIME_HI = s.tm.shelf % 2 ^ 64 ∧
    (∀ b : Block, u.refuser src u.pendingShadows = some b →
      (s.beginCommit src).commit.refused = some (blockCode b) ∧ (s.beginCommit src).regs = u.regs) ∧
    (u.refuser src u.pendingShadows = none → u.epochAfter src u.pendingShadows = u.liveEpoch →
      s.beginCommit src = { u.applyValues u.pendingShadows u.tm.mono with
        commit := { (u.applyValues u.pendingShadows u.tm.mono).commit with refused := none, source := src } })) ∧
  (∀ (vals : Tab W32) (s : State), Tab.sorted vals = true →
    ∀ f : Field, (s.overlay vals).field f = (Tab.find f.key vals).getD (s.field f)) ∧
  (∀ (vals : Tab W32) (time : Nat) (s v : State), v = s.overlay vals →
    s.applyValues vals time = s.applyEffects { v with regs := { v.regs with shadow := v.pendingShadows } } (vals.map (·.1)) time) ∧
  (∀ s : State, s.commit.source ≠ .pod →
    s.settleCommit.rd Reg.GLB_COMMIT_STATUS_BUSY = 0 ∧
    (s.commit.refused = none → s.settleCommit.rd Reg.GLB_COMMIT_STATUS_LAST_RESULT = crApplied) ∧
    (∀ b : Nat, s.commit.refused = some b → s.settleCommit.rd Reg.GLB_COMMIT_STATUS_LAST_RESULT = crRejected ∧
      s.settleCommit.rd Reg.GLB_COMMIT_STATUS_REJECT_BLOCK = b % 2 ^ 10) ∧
    s.settleCommit.regs.shadow = s.regs.shadow ∧
    ∀ f : Field, f.key ∉ [Reg.GLB_COMMIT_STATUS_LAST_RESULT, Reg.GLB_COMMIT_STATUS_LAST_SOURCE, Reg.GLB_COMMIT_STATUS_BUSY,
      Reg.GLB_COMMIT_STATUS_REJECT_BLOCK].map Field.key → s.settleCommit.field f = s.field f)

/-! ### Block control (R72, R99, R558) -/

/-- The control register of a block.  Each write is applied as a register write, and nothing follows where BAR0 does not decode the block.  GLB, IMG and
PWR always run: a stop sets their RANGE error, a start does nothing, a reset sets NOT_STOPPED.  Of another block a stop sets RUN 0 and, unless it is stopped or
draining already, begins the drain; the drain ends, with STOPPED, once no commit is BUSY and nothing of the block is in flight, and the block starts
again then where RUN has been set meanwhile; a start starts a stopped block that is not resetting and otherwise sets RUN 1; a reset of a stopped block
resets it and shows RESETTING until it is done, and of a running one sets NOT_STOPPED; the reset done, a block with RUN 1 starts. -/
def Obligations.BlocksStopDrainStartAndReset : Prop :=
  (∀ (b : Block) (s : State), s.decodeOf b ≠ .all →
    exec (.blockStop b) s = .next (s.writeWord (commonBase b + 4) 0#32).settle ∧
    exec (.blockStart b) s = .next (s.writeWord (commonBase b + 4) 1#32).settle ∧
    exec (.blockReset b) s = .next (s.writeWord (commonBase b + 4) 2#32).settle) ∧
  (∀ (b : Block) (s u v w : State), s.decodeOf b = .all → u = s.writeWord (commonBase b + 4) 0#32 → v = s.writeWord (commonBase b + 4) 1#32 →
    w = s.writeWord (commonBase b + 4) 2#32 →
    (alwaysRuns b = true → exec (.blockStop b) s = .next (u.setErr b 1).settle ∧ exec (.blockStart b) s = .next v.settle ∧
      exec (.blockReset b) s = .next (w.setErr b 2).settle) ∧
    (alwaysRuns b = false →
      ((u.wr (fRun b) 0).stopped b = true ∨ u.prim.stopping.contains (blockCode b) = true →
        exec (.blockStop b) s = .next (u.wr (fRun b) 0).settle) ∧
      ((u.wr (fRun b) 0).stopped b = false → u.prim.stopping.contains (blockCode b) = false →
        ∃ t : State, exec (.blockStop b) s = .next t ∧ t.prim.stopping = blockCode b :: u.prim.stopping ∧
          RegistersChange { u with prim := t.prim } t [fRun b]) ∧
      (v.stopped b = true → v.is (fResetting b) = false → exec (.blockStart b) s = .next (v.startBlock b).settle) ∧
      ((v.stopped b = false ∨ v.is (fResetting b) = true) → exec (.blockStart b) s = .next (v.wr (fRun b) 1).settle) ∧
      (w.stopped b = true → exec (.blockReset b) s = .next ((w.resetBlock b).wr (fResetting b) 1).settle) ∧
      (w.stopped b = false → exec (.blockReset b) s = .next (w.setErr b 2).settle))) ∧
  (∀ (b : Block) (s : State), (s.prim.stopping.contains (blockCode b) = false ∨ s.is Reg.GLB_COMMIT_STATUS_BUSY = true ∨ s.blockBusy b = true) →
    exec (.blockStopped b) s = .next s.settle) ∧
  (∀ (b : Block) (s u : State), s.prim.stopping.contains (blockCode b) = true → s.is Reg.GLB_COMMIT_STATUS_BUSY = false → s.blockBusy b = false →
    u = ({ s with prim := { s.prim with stopping := s.prim.stopping.filter (· != blockCode b) } } : State).wr (fStopped b) 1 →
    (b ≠ .time → b ≠ .well →
      (u.is (fRun b) = false → exec (.blockStopped b) s = .next u.settle) ∧
      (u.is (fRun b) = true → exec (.blockStopped b) s = .next (u.startBlock b).settle)) ∧
    (b = .well → exec (.blockStopped b) s = .next (if u.showPrd.is (fRun .well) then u.showPrd.startBlock .well else u.showPrd).settle) ∧
    (∀ v : State, b = .time → v = u.endUnits.showUnits.checkCoord.showMode →
      exec (.blockStopped b) s = .next (if v.is (fRun .time) then v.startBlock .time else v).settle)) ∧
  (∀ (b : Block) (s u : State), u = s.wr (fResetting b) 0 →
    (s.is (fResetting b) = false → exec (.blockResetDone b) s = .next s.settle) ∧
    (s.is (fResetting b) = true → u.is (fRun b) = true → u.stopped b = true → exec (.blockResetDone b) s = .next (u.startBlock b).settle) ∧
    (s.is (fResetting b) = true → (u.is (fRun b) = false ∨ u.stopped b = false) → exec (.blockResetDone b) s = .next u.settle))

/-! ### Keys, look-aside cipher, audit, retention (chapter 16) -/

/-- The five vault operations.  A write of CRY_KEY_ACC that does not reach CRY comes to what such an access comes to; while an operation is in
progress it is ignored; otherwise it is applied and the operation taken with its slot, type and address, shown by BUSY.  When it ends (CRY
running) its result is shown and BUSY clears, and an IMPORT, GENERATE or DESTROY is audited unless the audit log is full.  Of the results: EXPORT_PUB
writes the vault's public key; the rest but INFO end AUDIT_FULL while the log is full; all but EXPORT_PUB end BAD_SLOT for a slot below 16; IMPORT
into a loaded slot ends NOT_EMPTY, of another device's record WRONG_DEVICE, of one that does not unwrap BAD_RECORD; GENERATE into a slot that is not
empty ends NOT_EMPTY, else a key of a usable type is drawn; DESTROY of a slot in use ends IN_USE, else its key is destroyed; INFO shows state, type and
fingerprint. -/
def Obligations.VaultOperationsAreTakenAndAnswered : Prop :=
  (∀ (value : W32) (s u : State), u = s.writeWord offKeyAcc value →
    ∀ e ∈ [(Instr.keyImport value, 1), (.keyGenerate value, 2), (.keyDestroy value, 3), (.keyInfo value, 4), (.exportPub value, 5)],
      (s.reached .cry = false → exec e.1 s = .next (s.unreached .cry).settle) ∧
      (s.reached .cry = true → s.is Reg.CRY_KEY_STATUS_BUSY = true → exec e.1 s = .next s.settle) ∧
      (s.reached .cry = true → s.is Reg.CRY_KEY_STATUS_BUSY = false → ∃ t : State, exec e.1 s = .next t ∧
        t.cry = { u.cry with keyOp := some { op := e.2, slot := u.rd Reg.CRY_KEY_ACC_SLOT
                                             type := u.rd Reg.CRY_KEY_ACC_TYPE, addr := u.rd64 Reg.CRY_KEY_ADDR_LO Reg.CRY_KEY_ADDR_HI } } ∧
        t.rd Reg.CRY_KEY_STATUS_BUSY = 1 ∧ RegistersChange { u with cry := t.cry } t [Reg.CRY_KEY_STATUS_BUSY])) ∧
  (∀ s : State, (s.stopped .cry = true ∨ s.cry.keyOp = none) → exec .keyOpDone s = .next s.settle) ∧
  (∀ (k : KeyOp) (s u : State), s.stopped .cry = false → s.cry.keyOp = some k →
    u = (if k.op ≤ 3 && !s.auditFull then (s.keyRun k).1.audited offKeyAcc
        (BitVec.ofNat 32 (k.slot + 2 ^ 16 * k.op + 2 ^ 19 * k.type + 2 ^ 31)) ((s.keyRun k).2 != keyOk) 0 k.slot
      else (s.keyRun k).1) →
    ∃ t : State, exec .keyOpDone s = .next t ∧ t.cry = { u.cry with keyOp := none } ∧ t.rd Reg.CRY_KEY_STATUS_BUSY = 0 ∧
      t.rd Reg.CRY_KEY_STATUS_RESULT = (s.keyRun k).2 % 8 ∧
      RegistersChange { u with cry := t.cry } t [Reg.CRY_KEY_STATUS_BUSY, Reg.CRY_KEY_STATUS_RESULT]) ∧
  (∀ (k : KeyOp) (s : State), k.op = 5 → s.keyRun k = (s.dramWrite k.addr s.cry.vaultPub, keyOk)) ∧
  (∀ (k : KeyOp) (s : State), k.op ≠ 5 → k.op ≠ 4 → s.auditFull = true → s.keyRun k = (s, keyAuditFull)) ∧
  (∀ (k : KeyOp) (s : State), k.op ≠ 5 → (k.op = 4 ∨ s.auditFull = false) → k.slot < 16 → s.keyRun k = (s, keyBadSlot)) ∧
  (∀ (k : KeyOp) (s : State), 16 ≤ k.slot → s.auditFull = false →
    (k.op = 1 → (s.vaultSlot k.slot).state = slotLoaded → s.keyRun k = (s, keyNotEmpty)) ∧
    (k.op = 1 → (s.vaultSlot k.slot).state ≠ slotLoaded → (readWrapped (s.dramRead k.addr 212)).serial ≠ s.img.fuses.serial →
      s.keyRun k = (s, keyWrongDevice)) ∧
    (k.op = 1 → (s.vaultSlot k.slot).state ≠ slotLoaded → (readWrapped (s.dramRead k.addr 212)).serial = s.img.fuses.serial →
      s.unwrap (s.dramRead k.addr 212) = none → s.keyRun k = (s, keyBadRecord)) ∧
    (k.op = 2 → (s.vaultSlot k.slot).state ≠ slotEmpty → s.keyRun k = (s, keyNotEmpty)) ∧
    (k.op = 2 → (s.vaultSlot k.slot).state = slotEmpty → keyBytes k.type ≠ 0 → k.type ≠ 6 →
      s.keyRun k = (s.generateKey k.slot k.type, keyOk)) ∧
    (k.op = 3 → s.keyInUse k.slot = true → s.keyRun k = (s, keyInUseResult)) ∧
    (k.op = 3 → s.keyInUse k.slot = false → s.keyRun k = (s.destroyKey k.slot actManagement .vault, keyOk)) ∧
    (k.op = 4 → s.keyRun k = s.doInfo k))

/-- The look-aside ring has one holder at a time.  A request that does not reach its registers comes to what such an access comes to.  A free lock is
taken by who asks and a held one stays; only the holder advances PROD, another sets `CRY_ERR` bit 8; a release by the holder frees the lock at once where
the ring is idle and else once it is, by another it does nothing; FORCE with its key ends the descriptors between CONS and PROD and frees the
lock; the timeout of an idle holder frees it and is counted; a completed descriptor advances CONS, with an event where it asks for one. -/
def Obligations.LookAsideRingHasOneHolder : Prop :=
  (∀ (who : Writer) (prod : BitVec 8) (s : State), s.laReached who = false →
    ∀ c ∈ [Instr.laAcquire who, .laRelease who, .laProducerWrite who prod], exec c s = .next (s.laUnreached who).settle) ∧
  (∀ (who : Writer) (prod : BitVec 8) (s : State), s.laReached who = true →
    (s.rd Reg.CRY_LA_LOCK_OWNER = 0 →
      ∃ t : State, exec (.laAcquire who) s = .next t ∧ t.rd Reg.CRY_LA_LOCK_OWNER = ownerCode who ∧
        RegistersChange { s with cry := { s.cry with laIdleSince := s.tm.mono } } t [Reg.CRY_LA_LOCK_OWNER]) ∧
    (s.rd Reg.CRY_LA_LOCK_OWNER ≠ 0 → exec (.laAcquire who) s = .next s.settle) ∧
    (s.rd Reg.CRY_LA_LOCK_OWNER = ownerCode who → s.laIdle = true →
      ∃ t : State, exec (.laRelease who) s = .next t ∧ t.rd Reg.CRY_LA_LOCK_OWNER = 0 ∧
        RegistersChange { s with cry := { s.cry with laReleasing := false } } t [Reg.CRY_LA_LOCK_OWNER]) ∧
    (s.rd Reg.CRY_LA_LOCK_OWNER = ownerCode who → s.laIdle = false →
      exec (.laRelease who) s = .next ({ s with cry := { s.cry with laReleasing := true } } : State).settle) ∧
    (s.rd Reg.CRY_LA_LOCK_OWNER ≠ ownerCode who → exec (.laRelease who) s = .next s.settle) ∧
    (s.rd Reg.CRY_LA_LOCK_OWNER = ownerCode who →
      ∃ t : State, exec (.laProducerWrite who prod) s = .next t ∧ t.rd Reg.CRY_LA_PROD = prod.toNat ∧
        RegistersChange { s with cry := { s.cry with laIdleSince := s.tm.mono } } t [Reg.CRY_LA_PROD, Reg.CRY_LA_CONS_IDLE]) ∧
    (s.rd Reg.CRY_LA_LOCK_OWNER ≠ ownerCode who →
      ∃ t : State, exec (.laProducerWrite who prod) s = .next t ∧ t.rd (fErr .cry 8) = 1 ∧ RegistersChange s t [fErr .cry 8])) ∧
  (∀ (value : W32) (s : State),
    (s.reached .cry = false → exec (.laForce value) s = .next (s.unreached .cry).settle) ∧
    (s.reached .cry = true → value.toNat / 65536 ≠ 0x9648 → exec (.laForce value) s = .next s.settle) ∧
    (s.reached .cry = true → value.toNat / 65536 = 0x9648 →
      exec (.laForce value) s = .next (s.laAbort 256).laFree.settle ∧ (s.laAbort 256).laFree.rd Reg.CRY_LA_LOCK_OWNER = 0 ∧
      (s.laAbort 256).laFree.cry.laReleasing = false)) ∧
  (∀ s : State, (s.laIdle = true ∨ s.stopped .cry = true) → exec .laDescriptorDone s = .next s.settle) ∧
  (∀ (d : LaDesc) (s u : State), s.laIdle = false → s.stopped .cry = false → d = s.laDesc (s.laEntry (s.rd Reg.CRY_LA_CONS)) →
    u = (s.laOne d).laAdvance →
    (d.flags % 2 = 0 → exec .laDescriptorDone s = .next u.settle) ∧
    (d.flags % 2 = 1 → exec .laDescriptorDone s =
      .next (u.raiseIn groupNotice sevInfo .cry Reg.CRY_LA_CONS.off noInstance (s.rd Reg.CRY_LA_CONS)).settle)) ∧
  (∀ s : State, (s.rd Reg.CRY_LA_LOCK_OWNER = 0 ∨ s.laIdle = false) → exec .laLockTimeout s = .next s.settle) ∧
  (∀ s : State, s.rd Reg.CRY_LA_LOCK_OWNER ≠ 0 → s.laIdle = true →
    ∃ t : State, exec .laLockTimeout s = .next t ∧ t.rd Reg.CRY_LA_LOCK_OWNER = 0 ∧
      t.counter Reg.CRY_CNT_LOCK_TIMEOUTS = ((s.atLeast (s.cry.laIdleSince + s.rd Reg.CRY_LA_CFG_LOCK_TIMEOUT * ms)).counter
        Reg.CRY_CNT_LOCK_TIMEOUTS + 1) % 2 ^ 48)

/-- The audit chain: a record takes HEAD as its number, carries the MAC of the record before it and its own, and is the newest of the ring, HEAD
advances; ARCH is raised, up to HEAD, by a write that reaches CRY, a write below ARCH or above HEAD is ignored.  A check judges a record whose
predecessor is not held by its own MAC, and fails one that the ring does not hold (DEDUCED, log entry 18). -/
def Obligations.AuditRecordsAreChainedAndArchived : Prop :=
  (∀ (type : Nat) (a : Actor) (refused : Bool) (nsid slot : Nat) (d : AuditDetail) (s : State), 0 < s.auditCapacity →
    s.auditHead + 1 < 2 ^ 64 →
    ∃ r : AuditRec, (s.audit type a refused nsid slot d).cry.audit.head? = some r ∧ r.body.seq = s.auditHead ∧ r.body.type = type ∧
      r.body.refused = refused ∧ r.body.nsid = nsid ∧ r.body.slot = slot ∧ r.mac = s.auditMac r.body ∧
      (∀ q : AuditRec, s.cry.audit.head? = some q → r.body.prevMac = q.mac) ∧
      (s.audit type a refused nsid slot d).auditHead = s.auditHead + 1) ∧
  (∀ (arch : W64) (s : State), s.reached .cry = true → s.auditArch ≤ arch.toNat → arch.toNat ≤ s.auditHead →
    ∃ t : State, exec (.auditArchWrite arch) s = .next t ∧ t.auditArch = arch.toNat ∧
      RegistersChange s t [Reg.CRY_AUDIT_ARCH_LO, Reg.CRY_AUDIT_ARCH_HI, Reg.CRY_AUDIT_STATUS_FULL, Reg.CRY_AUDIT_STATUS_CAPACITY]) ∧
  (∀ (arch : W64) (s : State), s.reached .cry = true → (arch.toNat < s.auditArch ∨ s.auditHead < arch.toNat) →
    exec (.auditArchWrite arch) s = .next s.settle) ∧
  (∀ (arch : W64) (s : State), s.reached .cry = false → exec (.auditArchWrite arch) s = .next (s.unreached .cry).settle) ∧
  (∀ (n : Nat) (s : State), s.auditAt n = none → s.auditBadAt n = true) ∧
  (∀ (n : Nat) (r : AuditRec) (s : State), n ≠ 0 → s.auditAt n = some r → s.auditAt (n - 1) = none →
    (s.auditBadAt n = true ↔ r.mac ≠ s.auditMac r.body))

/-- R452: a write of GO that reaches CRY starts the check, up to HEAD − 1, unless one is in progress; its end, with CRY running, reports the first SEQ, from ARCH on,
whose MAC or PREV_MAC fails and sets CHAIN_BAD, and where none fails it clears CHAIN_BAD.  A record fails by its MAC, or by a PREV_MAC that is not the MAC of the record before
it (0 in record 0). -/
def Obligations.AuditVerifyReportsTheFirstBadRecord : Prop :=
  (∀ s : State,
    (s.reached .cry = false → exec .auditVerify s = .next (s.unreached .cry).settle) ∧
    (s.reached .cry = true → s.is Reg.CRY_AUDIT_VERIFY_BUSY = true → exec .auditVerify s = .next s.settle) ∧
    (s.reached .cry = true → s.is Reg.CRY_AUDIT_VERIFY_BUSY = false →
      ∃ t : State, exec .auditVerify s = .next t ∧ t.rd Reg.CRY_AUDIT_VERIFY_BUSY = 1 ∧ t.cry.verifyTo = s.auditHead ∧
        RegistersChange { s with cry := t.cry } t [Reg.CRY_AUDIT_VERIFY_BUSY])) ∧
  (∀ s : State, (s.is Reg.CRY_AUDIT_VERIFY_BUSY = false ∨ s.stopped .cry = true) → exec .auditVerifyDone s = .next s.settle) ∧
  (∀ (n : Nat) (s : State), s.is Reg.CRY_AUDIT_VERIFY_BUSY = true → s.stopped .cry = false → n < 2 ^ 64 →
    s.auditArch ≤ n → n < s.cry.verifyTo → s.auditBadAt n = true → (∀ m, s.auditArch ≤ m → m < n → s.auditBadAt m = false) →
    ∃ t : State, exec .auditVerifyDone s = .next t ∧ t.rd Reg.CRY_AUDIT_VERIFY_BUSY = 0 ∧ t.rd Reg.CRY_AUDIT_STATUS_CHAIN_BAD = 1 ∧
      t.rd64 Reg.CRY_AUDIT_BAD_LO Reg.CRY_AUDIT_BAD_HI = n ∧ RegistersChange s t [Reg.CRY_AUDIT_VERIFY_BUSY,
        Reg.CRY_AUDIT_STATUS_CHAIN_BAD, Reg.CRY_AUDIT_BAD_LO, Reg.CRY_AUDIT_BAD_HI]) ∧
  (∀ s : State, s.is Reg.CRY_AUDIT_VERIFY_BUSY = true → s.stopped .cry = false →
    (∀ m, s.auditArch ≤ m → m < s.cry.verifyTo → s.auditBadAt m = false) →
    ∃ t : State, exec .auditVerifyDone s = .next t ∧ t.rd Reg.CRY_AUDIT_VERIFY_BUSY = 0 ∧ t.rd Reg.CRY_AUDIT_STATUS_CHAIN_BAD = 0 ∧
      RegistersChange s t [Reg.CRY_AUDIT_VERIFY_BUSY, Reg.CRY_AUDIT_STATUS_CHAIN_BAD]) ∧
  (∀ (n : Nat) (r p : AuditRec) (s : State), s.auditAt n = some r →
    (n = 0 → (s.auditBadAt n = true ↔ r.mac ≠ s.auditMac r.body ∨ r.body.prevMac ≠ 0)) ∧
    (n ≠ 0 → s.auditAt (n - 1) = some p → (s.auditBadAt n = true ↔ r.mac ≠ s.auditMac r.body ∨ r.body.prevMac ≠ p.mac)))

/-- Retention.  Each write of CRY_RET_ACC is applied as a register write.  A read that reaches CRY reports the namespace's retention.  A hold set, a hold
cleared and an extension end AUDIT_FULL while the audit log is full, NOT_LOCKED for no or an unlocked namespace and, of the extension, NOT_LATER where
HOLD_UNTIL is not raised, the refusals but AUDIT_FULL audited; otherwise the change is made, audited, judged and shown.  The check made once a second judges each
owned locked namespace and counts the second in EXPIRING; a locked one past its EXPIRY without a hold enters EXPIRING, and one in EXPIRING with a
hold or before its EXPIRY returns to LOCKED; when ERASE_DELAY has run out in EXPIRING an owned one's key is destroyed, the namespace EXPIRED
and counted, but not under a hold, before its EXPIRY, or while no audit record can be written. -/
def Obligations.RetentionIsReportedHeldExtendedAndExpired : Prop :=
  (∀ (value : W32) (id : Nat) (s u : State), u = s.writeWord offRetAcc value → id = u.rd Reg.CRY_RET_ACC_NSID →
    (u.reached .cry = false → ∀ c ∈ [Instr.retentionRead value, .holdSet value, .holdClear value, .extend value],
      exec c s = .next u.settle) ∧
    (u.reached .cry = true → exec (.retentionRead value) s =
      .next (u.retShow id (if (Tab.getD id { nsze := 0 } u.ns).retain then retOk else retNotLocked)).settle) ∧
    (u.reached .cry = true → u.auditFull = true → ∀ c ∈ [Instr.holdSet value, .holdClear value, .extend value],
      exec c s = .next (u.retShow id retAuditFull).settle) ∧
    (u.reached .cry = true → u.auditFull = false → (Tab.find id u.ns = none ∨ ∃ n : Ns, Tab.find id u.ns = some n ∧ n.retain = false) →
      ∀ c ∈ [Instr.holdSet value, .holdClear value, .extend value],
        exec c s = .next ((u.audited offRetAcc value true id).retShow id retNotLocked).settle) ∧
    (∀ n : Ns, u.reached .cry = true → u.auditFull = false → Tab.find id u.ns = some n → n.retain = true →
      exec (.holdSet value) s = .next ((((u.putNs id { n with hold := true }).audited offRetAcc value false id).retJudge id).retShow id
        retOk).settle ∧
      exec (.holdClear value) s = .next ((((u.putNs id { n with hold := false }).audited offRetAcc value false id).retJudge id).retShow id
        retOk).settle ∧
      ∀ until_ : Nat, until_ = s.rd64 Reg.CRY_RET_UNTIL_LO Reg.CRY_RET_UNTIL_HI →
        (n.holdUntil < until_ → exec (.extend value) s = .next ((((u.putNs id { n with holdUntil := until_ }).audited offRetAcc value false
          id).retJudge id).retShow id retOk).settle) ∧
        (until_ ≤ n.holdUntil → exec (.extend value) s =
          .next ((u.audited offRetAcc value true id).retShow id retNotLater).settle))) ∧
  (∀ s : State, exec .retentionExpiryCheck s = .next (s.ns.foldl (fun s e =>
    match Tab.find e.1 s.ns with
    | none => s
    | some n =>
      if !n.retain || !s.owns n then s
      else (if n.retState == retExpiring then s.putNs e.1 { n with expiringSecs := n.expiringSecs + 1 } else s).retJudge e.1) s).settle) ∧
  (∀ (nsid : Nat) (n : Ns) (s : State), Tab.find nsid s.ns = some n →
    (n.retState = retLocked → n.hold = false → n.expiry ≤ s.tm.secure → s.retJudge nsid = s.retChange nsid n retExpiring) ∧
    (n.retState = retExpiring → (n.hold = true ∨ s.tm.secure < n.expiry) → s.retJudge nsid = s.retChange nsid n retLocked) ∧
    (n.retState = retLocked → (n.hold = true ∨ s.tm.secure < n.expiry) → s.retJudge nsid = s)) ∧
  (∀ (nsid : Nat) (s : State), Tab.find nsid s.ns = none → exec (.eraseDelayExpiry nsid) s = .next s.settle) ∧
  (∀ (nsid : Nat) (n : Ns) (s : State), Tab.find nsid s.ns = some n →
    ((n.retState ≠ retExpiring ∨ s.owns n = false ∨ n.hold = true ∨ s.tm.secure < n.expiry ∨ s.auditSpent = true) →
      exec (.eraseDelayExpiry nsid) s = .next s.settle) ∧
    (n.retState = retExpiring → s.owns n = true → n.hold = false → n.expiry ≤ s.tm.secure → s.auditSpent = false →
      exec (.eraseDelayExpiry nsid) s = .next ((((s.advance ((s.rd Reg.CRY_RET_CFG_ERASE_DELAY * 3600 - n.expiringSecs) * sec)).destroyKey
        n.keySlot actController .expiry nsid).retChange nsid n retExpired).count Reg.CRY_CNT_RET_EXPIRED).settle))

/-! ### Flash translation, media care, rebuild (chapters 9 to 11) -/

/-- Stripes.  A stripe under assembly whose wait has run out is padded, counted and programmed, and assembly goes on; an IU's fragments whose wait has
run out are composed; nothing follows where there is no such stripe or fragment.  A stripe in flight whose positions have all answered, with no wait
for the ring or the journal, commits, or, with positions missing, is settled by its redundancy, and composition and moves go on; a stripe
that waits, or is not in flight, stays. -/
def Obligations.StripesAreAssembledComposedAndCommitted : Prop :=
  (∀ (layout cls : Nat) (s : State),
    (Tab.find (clsKey cls layout) s.ftl.asm = none → exec (.stripeAssemblyTimeout layout cls) s = .next s.settle) ∧
    (∀ st : Stripe, Tab.find (clsKey cls layout) s.ftl.asm = some st →
      exec (.stripeAssemblyTimeout layout cls) s = .next (((((s.atLeast (st.since + s.rd Reg.FTL_ASSEMBLY_ASSEMBLY_WAIT * 100 * us)).programStripe
        (clsKey cls layout)).count Reg.FTL_CNT_STRIPES_PADDED).assignAll).settle))) ∧
  (∀ (nsid iu : Nat) (s : State),
    ((s.ftl.versions.find? fun v => v.nsid == nsid && v.iu == iu && !v.whole) = none → exec (.mergeWaitExpiry nsid iu) s = .next s.settle) ∧
    (∀ v : Version, (s.ftl.versions.find? fun v => v.nsid == nsid && v.iu == iu && !v.whole) = some v →
      exec (.mergeWaitExpiry nsid iu) s =
        .next ((s.atLeast (v.since + s.rd Reg.FTL_ASSEMBLY_MERGE_WAIT * 100 * us)).compose nsid iu).settle)) ∧
  (∀ (seq : Nat) (s : State),
    (Tab.find seq s.ftl.fly = none → exec (.stripeCommit seq) s = .next s.settle) ∧
    (∀ st : Stripe, Tab.find seq s.ftl.fly = some st →
      ((st.settled = false ∨ s.commitWaits st = true) → exec (.stripeCommit seq) s = .next s.settle) ∧
      (st.settled = true → s.commitWaits st = false → st.missing = [] →
        exec (.stripeCommit seq) s = .next (s.commitStripe st).composeForSpace.movesGoOn.settle) ∧
      (st.settled = true → s.commitWaits st = false → st.missing ≠ [] →
        exec (.stripeCommit seq) s = .next (s.settleShort st).composeForSpace.movesGoOn.settle)))

/-- The map store.  A flush of the journal begins when the time of `State.ckptMax` has passed, unless the journal is empty or a flush goes on.  A flush
whose copies are durable, with none to be written again, ends: the flush and what it covered leave the journal, the commit records that it
covers leave the ring, every segment is clean, a checkpoint record with the highest SEQ covered follows, CKPT_SEQ shows it, it is counted, and full
levels are merged.  A segment's fresh base copy is written when ROTATE has passed since its last; a segment awaited is loaded when its fetch is
done, the least recently used one evicted first where the cache has no room. -/
def Obligations.MapStoreIsFlushedRotatedAndFetched : Prop :=
  (∀ s : State,
    (s.ftl.journal ≠ [] → s.ftl.flushing = none →
      exec .checkpointTrigger s = .next ((s.atLeast (s.ftl.lastCkpt + s.ckptMax * 10 * ms)).beginFlush).settle) ∧
    ((s.ftl.journal = [] ∨ s.ftl.flushing ≠ none) → exec .checkpointTrigger s = .next s.settle)) ∧
  (∀ s : State, ((∀ n q : Nat, s.ftl.flushing ≠ some (n, q, true)) ∨ s.ftl.metaRedo ≠ []) → exec .checkpointDone s = .next s.settle) ∧
  (∀ (n q seq : Nat) (s v : State), s.ftl.flushing = some (n, q, true) → s.ftl.metaRedo = [] →
    seq = max q (s.rd64 Reg.FTL_CKPT_SEQ_LO Reg.FTL_CKPT_SEQ_HI) →
    v = { s with ftl := { s.ftl with
      flushing := none, journal := s.ftl.journal.drop n, lastCkpt := s.tm.mono, ckptHold := none
      ring := s.ftl.ring.filter fun e => match e.2 with
        | .stripeCommit q .. => decide (seq < q)
        | _ => true
      segs := s.ftl.segs.map fun (e : Nat × Segs) => (e.1, { e.2 with dirty := [] }) } } →
    exec .checkpointDone s = .next ((((v.journal (.checkpoint seq 0 (s.ftl.nextRun - 1))).wr64 Reg.FTL_CKPT_SEQ_LO Reg.FTL_CKPT_SEQ_HI
      seq).count Reg.FTL_CNT_CKPT_DONE).mergeRuns.checkpointIfFull).settle) ∧
  (∀ (nsid seg : Nat) (s : State),
    ((s.nsOf nsid).any (fun n => decide (seg < n.segments)) = true →
      exec (.segmentRotate nsid seg) s = .next ((s.atLeast ((Tab.getD seg 0 (Tab.getD nsid {} s.ftl.segs).rotated) +
        s.rd Reg.FTL_CKPT_ROTATE * 10 * sec)).writeMeta (.base nsid seg)).settle) ∧
    ((s.nsOf nsid).any (fun n => decide (seg < n.segments)) = false → exec (.segmentRotate nsid seg) s = .next s.settle)) ∧
  (∀ (nsid seg : Nat) (s : State),
    ((nsid, seg) ∉ s.ftl.waitSegs → ∀ room : Bool, exec (.segmentFetchDone nsid seg room) s = .next s.settle) ∧
    ((nsid, seg) ∈ s.ftl.waitSegs → exec (.segmentFetchDone nsid seg true) s = .next (s.loadSegment nsid seg).settle ∧
      (s.lruSegment = none → exec (.segmentFetchDone nsid seg false) s = .next s.settle) ∧
      (∀ e : Nat × Nat, s.lruSegment = some e →
        exec (.segmentFetchDone nsid seg false) s = .next ((s.evict e.1 e.2).loadSegment nsid seg).settle)))

/-- Tanks.  One of this controller idle while OPEN is closed short, any other stays.  While debt is to be paid and FTL runs, the debt's next copy is
read, from new sources where none has anything left.  A tank of this controller in DRAW with nothing valid and no reader is released to a serving
partner first, once, and is then erased; another stays.  When every member is erased or its cistern gone, a tank in ERASING is gone: journalled FREE,
through RETIRED where a member is marked, its blocks released, the counts shown and assembly going on; until then it stays.  The scan of the
tanks runs when its time has come and FTL runs. -/
def Obligations.TanksAreClosedDrawnErasedAndScanned : Prop :=
  (∀ (tank : Nat) (s : State),
    ((s.tankOf tank).st = tkOpen → (s.tankOf tank).mine = true → exec (.openIdleExpiry tank) s =
      .next ((((s.atLeast ((s.tankOf tank).lastStripe + s.rd Reg.FTL_TANK_CFG_OPEN_IDLE * sec)).closeShort tank).assignAll).settle)) ∧
    (((s.tankOf tank).st ≠ tkOpen ∨ (s.tankOf tank).mine = false) → exec (.openIdleExpiry tank) s = .next s.settle)) ∧
  (∀ s : State,
    (s.ftl.debt ≠ 0 → s.begins .ftl = true → (s.nextCopy true fun _ _ => true).isSome = true →
      exec .drawdownCopyIssue s = .next (s.issueCopy true fun c d => s.mayIssue c d s.readBound).settle) ∧
    (s.ftl.debt ≠ 0 → s.begins .ftl = true → (s.nextCopy true fun _ _ => true) = none → exec .drawdownCopyIssue s =
      .next (s.feedSources.issueCopy true fun c d => s.feedSources.mayIssue c d s.feedSources.readBound).settle) ∧
    ((s.ftl.debt = 0 ∨ s.begins .ftl = false) → exec .drawdownCopyIssue s = .next s.settle)) ∧
  (∀ (tank : Nat) (s : State),
    (((s.tankOf tank).st ≠ tkDraw ∨ (s.tankOf tank).mine = false ∨ s.validSectors tank ≠ 0 ∨ (s.tankOf tank).readers ≠ 0) →
      exec (.tankDrawDone tank) s = .next s.settle) ∧
    ((s.tankOf tank).st = tkDraw → (s.tankOf tank).mine = true → s.validSectors tank = 0 → (s.tankOf tank).readers = 0 →
      (s.partnerServes = true → (s.tankOf tank).released = false → (s.tankOf tank).releaseSent = true →
        exec (.tankDrawDone tank) s = .next s.settle) ∧
      (s.partnerServes = true → (s.tankOf tank).released = false → (s.tankOf tank).releaseSent = false →
        exec (.tankDrawDone tank) s =
          .next (((s.toPartner (.release tank)).updTank tank fun tk => { tk with releaseSent := true }).settle)) ∧
      ((s.partnerServes = false ∨ (s.tankOf tank).released = true) →
        exec (.tankDrawDone tank) s = .next ((((s.updTank tank fun tk => { tk with st := tkErasing }).journalTank tank
          tkErasing).showTanks).settle)))) ∧
  (∀ (tank : Nat) (s : State), ((s.tankOf tank).st ≠ tkErasing ∨ ∃ m ∈ (s.tankOf tank).members, m.erased = false ∧
      s.cst m.cistern ≠ cFailed ∧ s.cst m.cistern ≠ cEmpty) → exec (.tankEraseDone tank) s = .next s.settle) ∧
  (∀ (tank : Nat) (s u v : State), (s.tankOf tank).st = tkErasing →
    (∀ m ∈ (s.tankOf tank).members, m.erased = true ∨ s.cst m.cistern = cFailed ∨ s.cst m.cistern = cEmpty) →
    u = ((if (s.tankOf tank).members.any fun m => m.marked || (s.blkOf m.key).st == 2 || (s.blkOf m.key).st == 3
      then s.journalTank tank tkRetired else s).journalTank tank tkFree) →
    v = (s.tankOf tank).members.foldl (fun s m => s.releaseBlock m) u →
    exec (.tankEraseDone tank) s = .next ((((({ v with
      ftl := { v.ftl with
        tanks := Tab.del tank v.ftl.tanks
        levelling := if v.ftl.levelling == some tank then none else v.ftl.levelling }
      sump := { v.sump with
        budget := v.sump.budget.map (· + layData (s.tankOf tank).layout * v.tankStripes * 16) } } : State).count
          Reg.FTL_CNT_TANKS_ERASED).showTanks.showDraw).showSpread).assignAll).settle) ∧
  (∀ s u : State, u = s.atLeast (s.ftl.lastScan + s.rd Reg.FTL_REFRESH_SCAN * 60 * sec) →
    (u.begins .ftl = true → exec .refreshScan s = .next u.scanTanks.settle) ∧
    (u.begins .ftl = false → exec .refreshScan s = .next u.settle))

/-- Media.  A write of FTL_BLOCK_ACC is applied, and with FTL decoded its RETIRE marks a block that is there and not yet marked (BAD_ADDRESS and ALREADY are
its refusals) and its READ
shows the record of a block that is there (as it is after the RETIRE where both are set).  An ABSENT cistern whose grace runs out enters REBUILDING.  CISTERN_FAIL's write is applied and
sends a cistern IN_SERVICE or ABSENT to REBUILDING.  The sweep of a REBUILDING cistern ends once no segment is awaited.  The tank under substitution,
every stripe of it rebuilt, gets its new members, no sooner than the rate lets it; with none under way the next begins.  The entry of the lost list at
INDEX is read into the DATA registers with VALID, or VALID reads 0. -/
def Obligations.MediaIsRetiredRebuiltAndAccounted : Prop :=
  (∀ (value : W32) (k : Nat) (there : Bool) (s u : State), u = s.writeWord 0x1C00224 value →
    k = blkKey (u.rd Reg.FTL_BLOCK_ACC_CISTERN) (u.rd Reg.FTL_BLOCK_SEL_DIE) (u.rd Reg.FTL_BLOCK_SEL_BLOCK) →
    there = (decide (u.rd Reg.FTL_BLOCK_ACC_CISTERN < 48) && decide (u.rd Reg.FTL_BLOCK_SEL_DIE < u.dies (u.rd Reg.FTL_BLOCK_ACC_CISTERN)) &&
      decide (u.rd Reg.FTL_BLOCK_SEL_BLOCK < u.blocksPerDie (u.rd Reg.FTL_BLOCK_ACC_CISTERN))) →
    ∀ c ∈ [Instr.blockRetire value, .blockRecordRead value],
      ((u.decodeOf .ftl ≠ .all ∨ value.toNat < 2 ^ 30) → exec c s = .next u.settle) ∧
      (u.decodeOf .ftl = .all → 2 ^ 30 ≤ value.toNat → there = false →
        ∃ t : State, exec c s = .next t ∧ t.rd Reg.FTL_BLOCK_STATUS_RESULT = brBadAddress ∧
          RegistersChange u t [Reg.FTL_BLOCK_STATUS_RESULT]) ∧
      ∀ v w : State, v = u.wr Reg.FTL_BLOCK_STATUS_RESULT brOk →
        w = (if 2 ≤ (u.blkOf k).st then u.wr Reg.FTL_BLOCK_STATUS_RESULT brAlready
          else ((if (v.blkOf k).tank.isNone then v.updBlk k id else v).markBlock k).checkWorn (u.rd Reg.FTL_BLOCK_ACC_CISTERN)) →
        (u.decodeOf .ftl = .all → 2 ^ 30 ≤ value.toNat → value.toNat < 2 ^ 31 → there = true → exec c s = .next w.settle) ∧
        (u.decodeOf .ftl = .all → 2 ^ 31 ≤ value.toNat → value.toNat < 3 * 2 ^ 30 → there = true →
          ∃ t : State, exec c s = .next t ∧ t.rd Reg.FTL_BLOCK_STATUS_RESULT = brOk ∧
            RegistersChange u t [Reg.FTL_BLOCK_STATUS_RESULT, Reg.FTL_BLOCK_DATA0_RECORD, Reg.FTL_BLOCK_DATA1_TANK] ∧
            t.rd Reg.FTL_BLOCK_DATA0_RECORD = ((u.blkOf k).pe + 2 ^ 20 * (u.blkOf k).st + 2 ^ 23 * (u.blkOf k).unc) % 2 ^ 25 ∧
            t.rd Reg.FTL_BLOCK_DATA1_TANK = (u.blkOf k).tank.getD 0xFFFFFFFF % 2 ^ 32) ∧
        (u.decodeOf .ftl = .all → 3 * 2 ^ 30 ≤ value.toNat → there = true →
          ∃ t : State, exec c s = .next t ∧ t.rd Reg.FTL_BLOCK_STATUS_RESULT = brOk ∧
            t.rd Reg.FTL_BLOCK_DATA0_RECORD = ((w.blkOf k).pe + 2 ^ 20 * (w.blkOf k).st + 2 ^ 23 * (w.blkOf k).unc) % 2 ^ 25 ∧
            t.rd Reg.FTL_BLOCK_DATA1_TANK = (w.blkOf k).tank.getD 0xFFFFFFFF % 2 ^ 32)) ∧
  (∀ (slot : Fin 48) (s : State),
    (∀ at_ : Nat, Tab.find slot.val s.ftl.graceAt = some at_ → s.cst slot = cAbsent →
      exec (.graceExpiry slot) s = .next ((s.atLeast at_).toRebuilding slot).settle) ∧
    ((Tab.find slot.val s.ftl.graceAt = none ∨ s.cst slot ≠ cAbsent) → exec (.graceExpiry slot) s = .next s.settle)) ∧
  (∀ (slot : Fin 48) (value : W32) (s u : State), u = s.writeWord (0x2000200 + 4 * slot.val) value →
    (u.decodeOf .par = .all → value.toNat / 65536 % 2 = 1 → (u.inService slot = true ∨ u.cst slot = cAbsent) →
      exec (.cisternFail slot value) s = .next (u.toRebuilding slot).settle) ∧
    ((u.decodeOf .par ≠ .all ∨ value.toNat / 65536 % 2 = 0 ∨ (u.inService slot = false ∧ u.cst slot ≠ cAbsent)) →
      exec (.cisternFail slot value) s = .next u.settle)) ∧
  (∀ (slot : Fin 48) (s : State),
    (s.cst slot = cRebuilding → slot.val ∉ s.ftl.swept → s.ftl.waitSegs = [] → exec (.rebuildSweepDone slot) s =
      .next (({ s with ftl := { s.ftl with swept := slot.val :: s.ftl.swept, found := s.sweep slot } } : State).checkAllFailed.startSubst
        ).showRebuild.settle) ∧
    ((s.cst slot ≠ cRebuilding ∨ slot.val ∈ s.ftl.swept ∨ s.ftl.waitSegs ≠ []) → exec (.rebuildSweepDone slot) s = .next s.settle)) ∧
  (∀ s : State,
    (s.ftl.subst = none → exec .tankSubstituted s = .next s.startSubst.showRebuild.settle) ∧
    (∀ u : Subst, s.ftl.subst = some u → u.stripe < (s.tankOf u.tank).begun → exec .tankSubstituted s = .next s.settle) ∧
    (∀ u : Subst, s.ftl.subst = some u → (s.tankOf u.tank).begun ≤ u.stripe → exec .tankSubstituted s =
      .next ((s.atLeast (u.since + 10 * s.substBytes u / max 1 (s.substRate u))).substituteTank u).showRebuild.settle)) ∧
  (∀ (value : W32) (s u : State), u = s.writeWord 0x2000310 value →
    ((u.decodeOf .par ≠ .all ∨ value.toNat < 2 ^ 31) → exec (.lostListRead value) s = .next u.settle) ∧
    (u.decodeOf .par = .all → 2 ^ 31 ≤ value.toNat → u.ftl.lost[u.rd Reg.PAR_LOST_ACC_INDEX]? = none →
      ∃ t : State, exec (.lostListRead value) s = .next t ∧ t.rd Reg.PAR_LOST_ACC_STATUS_VALID = 0 ∧
        RegistersChange u t [Reg.PAR_LOST_ACC_STATUS_VALID]) ∧
    (∀ e : Lost, u.decodeOf .par = .all → 2 ^ 31 ≤ value.toNat → u.ftl.lost[u.rd Reg.PAR_LOST_ACC_INDEX]? = some e →
      ∃ t : State, exec (.lostListRead value) s = .next t ∧ t.rd Reg.PAR_LOST_ACC_STATUS_VALID = 1 ∧
        t.rd (Reg.PAR_LOST_DATA.at 0) = e.nsid % 2 ^ 32 ∧ t.rd (Reg.PAR_LOST_DATA.at 1) = (e.nlb - 1) % 2 ^ 32 ∧
        t.rd (Reg.PAR_LOST_DATA.at 2) = e.slba % 2 ^ 32 ∧ t.rd (Reg.PAR_LOST_DATA.at 3) = e.slba / 2 ^ 32 % 2 ^ 32 ∧
        t.rd (Reg.PAR_LOST_DATA.at 4) = e.tank % 2 ^ 32 ∧ t.rd (Reg.PAR_LOST_DATA.at 5) = (e.stripe + 65536 * e.cause) % 2 ^ 32 ∧
        t.rd (Reg.PAR_LOST_DATA.at 6) = e.time % 2 ^ 32 ∧ t.rd (Reg.PAR_LOST_DATA.at 7) = e.time / 2 ^ 32 % 2 ^ 32 ∧
        RegistersChange u t (Reg.PAR_LOST_ACC_STATUS_VALID :: (List.range 8).map Reg.PAR_LOST_DATA.at)))

/-! ### Skalas links and slots (chapters 13 and 14) -/

/-- A link's training, recovery and FLITs.  A training that ends with no lane, or with one and no LANE_REPAIR, fails; any other makes the link ACTIVE with the
width, polarity, order, port and credits found, sends PARAM and IDENTIFY; a restarted one is in DETECT; outside training neither acts.  Loss of lock in
ACTIVE or an exit from L1 leads to RECOVERY; its end replays and goes on, its limit loses the link.  L1 is entered only from ACTIVE in S2 or deeper with
no tag outstanding and nothing waiting for one.  A FLIT off ACTIVE is ignored; one whose CRC fails is counted and answered by NAK, once; one out of order is discarded; one in order is
acknowledged and, as a NOP FLIT too, gives its ACK, NAK and credits, after which what waits is sent. -/
def Obligations.LinksTrainSleepAndCarryFlits : Prop :=
  (∀ (link : Fin 48) (tr : Trained) (s : State),
    ((s.lk link < lkDetect ∨ 5 < s.lk link) → exec (.sklTrainingDone link tr) s = .next s.settle ∧
      exec (.sklTrainingRestart link) s = .next s.settle) ∧
    (lkDetect ≤ s.lk link → s.lk link ≤ 5 →
      exec (.sklTrainingRestart link) s = .next (s.wr (Reg.SKL_LINK_STATE.at link) lkDetect).settle) ∧
    (lkDetect ≤ s.lk link → s.lk link ≤ 5 → (tr.lanes = 0 ∨ (tr.lanes = 1 ∧ s.is (Reg.SKL_LINK_CFG_LANE_REPAIR.at link) = false)) →
      exec (.sklTrainingDone link tr) s = .next (s.trainFailed link).settle) ∧
    (∀ u v : State, lkDetect ≤ s.lk link → s.lk link ≤ 5 → tr.lanes ≠ 0 → (tr.lanes = 1 → s.is (Reg.SKL_LINK_CFG_LANE_REPAIR.at link) = true) →
      u = ((((((s.wr (Reg.SKL_LINK_STATE.at link) lkActive).portBack link).wr (Reg.SKL_LINK_WIDTH.at link) (min 2 tr.lanes)).wr
        (Reg.SKL_LINK_POL_INV.at link) tr.polInv).wrB (Reg.SKL_LINK_REVERSED.at link) tr.reversed).wrB
        (Reg.SKL_LINK_DEGRADED.at link) (tr.lanes == 1)).wr (Reg.SKL_LINK_BRIDGE_PORT.at link) tr.port →
      v = ((if tr.lanes = 1 then u.sklEvent link sevUncorrected 0x100 1 else u).updLink link fun l =>
        { l with rxSeq := 0, ackSeq := 0, nakSent := false, replays := 0, command := tr.commandCredits
                 program := tr.programCredits, replayFlits := tr.replayFlits, alerts := 0, txSeq := 0, replay := [], txWait := [] }) →
      exec (.sklTrainingDone link tr) s = .next ((v.sendParams link).identify link).settle)) ∧
  (∀ (link : Fin 48) (s : State),
    ((s.lk link = lkActive ∨ s.lk link = lkL1) → exec (.sklRecoveryEntry link) s = .next (s.recover link).settle) ∧
    (s.lk link ≠ lkActive → s.lk link ≠ lkL1 → exec (.sklRecoveryEntry link) s = .next s.settle) ∧
    (s.lk link = lkRecovery → exec (.sklRecoveryDone link) s =
        .next ((((((s.wr (Reg.SKL_LINK_STATE.at link) lkActive).replayFlits link).portBack link).startPort link).issueAll link).settle) ∧
      exec (.sklRetrainLimit link) s = .next
        ((s.atLeast ((s.linkOf link).recoveryAt + s.rd (Reg.SKL_LINK_CFG_RETRAIN_LIMIT.at link) * ms)).linkLost link).settle) ∧
    (s.lk link ≠ lkRecovery → exec (.sklRecoveryDone link) s = .next s.settle ∧ exec (.sklRetrainLimit link) s = .next s.settle) ∧
    (s.lk link = lkActive → 2 ≤ s.rd Reg.PWR_STATUS_STATE → (s.linkOf link).tags = [] → (s.linkOf link).backlog = [] →
      exec (.sklL1Entry link) s = .next (s.wr (Reg.SKL_LINK_STATE.at link) lkL1).settle) ∧
    ((s.lk link ≠ lkActive ∨ s.rd Reg.PWR_STATUS_STATE < 2 ∨ (s.linkOf link).tags ≠ [] ∨ (s.linkOf link).backlog ≠ []) →
      exec (.sklL1Entry link) s = .next s.settle)) ∧
  (∀ (link : Fin 48) (f : Flit) (s u : State),
    u = s.corrected (.skl (Fin.ofNat 48 link.val)) (Reg.SKL_CNT_FEC_CORRECTED.at link) f.fecCorrected link →
    (s.lk link ≠ lkActive → exec (.flitReceive link f) s = .next s.settle) ∧
    (s.lk link = lkActive → f.crcGood = false → (s.linkOf link).nakSent = true →
      exec (.flitReceive link f) s = .next (u.count (Reg.SKL_CNT_FLIT_CRC_ERR.at link)).settle) ∧
    (s.lk link = lkActive → f.crcGood = false → (s.linkOf link).nakSent = false →
      exec (.flitReceive link f) s =
        .next ((((u.count (Reg.SKL_CNT_FLIT_CRC_ERR.at link)).sendNop link true).updLink link fun l => { l with nakSent := true }).settle)) ∧
    (s.lk link = lkActive → f.crcGood = true → f.nop = false → f.seq.toNat ≠ (s.linkOf link).rxSeq →
      exec (.flitReceive link f) s = .next u.settle) ∧
    (∀ v w x y : State, s.lk link = lkActive → f.crcGood = true → (f.nop = false → f.seq.toNat = (s.linkOf link).rxSeq) →
      v = (if f.nop then u else
        (u.updLink link fun l => { l with rxSeq := (l.rxSeq + 1) % 1024, nakSent := false }).sendNop link false) →
      w = (if f.ackSeq.toNat = (s.linkOf link).ackSeq then v else
        (v.updLink link fun l => { l with ackSeq := f.ackSeq.toNat, replays := 0 }).ackFlits link f.ackSeq.toNat) →
      x = (if f.nak then w.onNak link f else w) →
      y = (x.updLink link fun l =>
        { l with command := if f.creditClass == 0 then l.command + f.credit else l.command
                 program := if f.creditClass == 1 then l.program + f.credit else l.program }) →
      exec (.flitReceive link f) s = .next (y.startPort link).settle))

/-- A completion is taken for its tag.  It is not taken off ACTIVE, with a header that fails (counted), for a quarantined tag (counted as late, the
first logged), for an unknown tag or another opcode than the tag's (counted); nothing else follows then, for every kind.  One that is taken frees the
tag and is acted on as the tag's use says: an identity is shown and compared, bad-block pages are gathered, the status is shown with the temperature and a
failure is a hard failure, an epoch is noted or tried again, a read's parts are judged, a program is noted or done again, an erase ends.  One of another use than the command's has
no more effect; any other status raises the event of a bad completion. -/
def Obligations.CompletionsAreTakenByTag : Prop :=
  (∀ (link : Fin 48) (c : Cpl) (s : State),
    (s.lk link ≠ lkActive → s.takeCpl link c = (none, s)) ∧
    (s.lk link = lkActive → c.hcrcGood = false → s.takeCpl link c = (none, s.count (Reg.SKL_CNT_BAD_CAPSULE.at link))) ∧
    (∀ u : State, s.lk link = lkActive → c.hcrcGood = true → Tab.has c.tag.toNat (s.linkOf link).quarantined = true →
      u = s.count (Reg.SKL_CNT_LATE_CPL.at link) →
      (u.is (Reg.SKL_LATE_LOG_VALID.at link) = true → s.takeCpl link c = (none, u)) ∧
      (u.is (Reg.SKL_LATE_LOG_VALID.at link) = false → s.takeCpl link c =
        (none, ((u.wr (Reg.SKL_LATE_LOG_TAG.at link) c.tag.toNat).wr (Reg.SKL_LATE_LOG_OPCODE.at link) c.opcode.toNat).wr
          (Reg.SKL_LATE_LOG_VALID.at link) 1))) ∧
    (s.lk link = lkActive → c.hcrcGood = true → Tab.has c.tag.toNat (s.linkOf link).quarantined = false →
      (∀ t : Tag, Tab.find c.tag.toNat (s.linkOf link).tags = some t → c.opcode.toNat ≠ 0x80 + t.opcode) →
      s.takeCpl link c = (none, s.count (Reg.SKL_CNT_BAD_CAPSULE.at link))) ∧
    (∀ (t : Tag) (u v : State), s.lk link = lkActive → c.hcrcGood = true → Tab.has c.tag.toNat (s.linkOf link).quarantined = false →
      Tab.find c.tag.toNat (s.linkOf link).tags = some t → c.opcode.toNat = 0x80 + t.opcode →
      u = ((((if c.dup then s.count (Reg.SKL_CNT_DUP_CPL.at link) else s).wr64 (Reg.SKL_EPOCH_LO.at link) (Reg.SKL_EPOCH_HI.at link)
        c.epoch.toNat).wr (Reg.SKL_EPOCH_STATUS_WRITERS.at link) c.writers.toNat).updLink link fun l =>
        { l with tags := Tab.del c.tag.toNat l.tags }) →
      v = (u.afterTag link c.tag.toNat).onAlert link c →
      s.takeCpl link c = (some t, if c.status = skDieFailed then v.hardFail link else v))) ∧
  (∀ (link : Fin 48) (c : Cpl) (id : Ident) (bad : List (Nat × Nat)) (st : CisternStatus) (xs : List SectorIn) (front : List Byte)
    (s u : State), s.takeCpl link c = (none, u) →
    ∀ k ∈ [Instr.identifyDone link c id, .badblocksDone link c bad, .statusDone link c st, .epochSetDone link c,
      .readDone link c xs front, .programDone link c, .eraseDone link c], exec k s = .next u.settle) ∧
  (∀ (link : Fin 48) (c : Cpl) (id : Ident) (t : Tag) (s u v : State), s.takeCpl link c = (some t, u) →
    v = (((((u.wr64 (Reg.SKL_ID_SERIAL_LO.at link) (Reg.SKL_ID_SERIAL_HI.at link) id.serial).wr (Reg.SKL_ID_GEN_GENERATION.at link)
      id.generation).wr (Reg.SKL_ID_GEOM_DIES.at link) id.dies).wr (Reg.SKL_ID_GEOM_VERSION.at link) id.version).wr64
      (Reg.SKL_EPOCH_LO.at link) (Reg.SKL_EPOCH_HI.at link) id.epoch).wr (Reg.SKL_EPOCH_STATUS_WRITERS.at link) id.writers →
    (t.use ≠ .identify → exec (.identifyDone link c id) s = .next u.settle) ∧
    (t.use = .identify → c.status ≠ skOk → exec (.identifyDone link c id) s = .next (u.badEvent link c).settle) ∧
    (t.use = .identify → c.status = skOk → v.geometryMatches id = false → exec (.identifyDone link c id) s =
      .next ((v.setOutcome link ocMismatch).sklEvent link sevUncorrected 0x140 ocMismatch).settle) ∧
    (t.use = .identify → c.status = skOk → v.geometryMatches id = true → exec (.identifyDone link c id) s =
      .next ((v.updLink link fun l =>
        { l with newIdent := some id, newBad := [], badLeft := (id.badCount + 1021) / 1022 }).nextBadPage link 0).settle)) ∧
  (∀ (link : Fin 48) (c : Cpl) (bad : List (Nat × Nat)) (t : Tag) (s u : State), s.takeCpl link c = (some t, u) →
    ((∀ page : Nat, t.use ≠ .badBlocks page) → exec (.badblocksDone link c bad) s = .next u.settle) ∧
    (∀ page : Nat, t.use = .badBlocks page →
      (c.status ≠ skOk → exec (.badblocksDone link c bad) s = .next (u.badEvent link c).settle) ∧
      (c.status = skOk → exec (.badblocksDone link c bad) s = .next ((u.updLink link fun l =>
        { l with newBad := l.newBad ++ bad, badLeft := l.badLeft - 1 }).nextBadPage link (page + 1)).settle))) ∧
  (∀ (link : Fin 48) (c : Cpl) (st : CisternStatus) (t : Tag) (s u v w : State), s.takeCpl link c = (some t, u) →
    v = ((((u.wr (Reg.SKL_STATUS_TEMP.at link) (st.temp % 256).toNat).wr64 (Reg.SKL_EPOCH_LO.at link) (Reg.SKL_EPOCH_HI.at link)
      st.epoch.toNat).wr (Reg.SKL_EPOCH_STATUS_WRITERS.at link) st.writers.toNat).updLink link fun l =>
      { l with alerts := st.alerts, tempAt := u.tm.mono }).slotCount link (0x80 + 4 * tempBand st.temp) →
    w = { v with ftl := { v.ftl with slots := Tab.upd link [] (Tab.upd 0x0E 0 (max (st.temp + 256).toNat)) v.ftl.slots } } →
    (t.use ≠ .status → exec (.statusDone link c st) s = .next u.settle) ∧
    (t.use = .status → c.status ≠ skOk → exec (.statusDone link c st) s = .next (u.badEvent link c).settle) ∧
    (t.use = .status → c.status = skOk → (st.failed = true ∨ 0 < st.failedDies) →
      exec (.statusDone link c st) s = .next (w.hardFail link).settle) ∧
    (t.use = .status → c.status = skOk → st.failed = false → st.failedDies = 0 → exec (.statusDone link c st) s = .next w.settle)) ∧
  (∀ (link : Fin 48) (c : Cpl) (t : Tag) (s u : State), s.takeCpl link c = (some t, u) →
    ((∀ e w : Nat, t.use ≠ .epochSet e w) → exec (.epochSetDone link c) s = .next u.settle) ∧
    (∀ (e w : Nat) (v : State), t.use = .epochSet e w → v = { u with pod := { u.pod with epochs := Tab.put link e u.pod.epochs } } →
      (c.status ≠ skOk → c.status ≠ skEpochOld → exec (.epochSetDone link c) s = .next (u.badEvent link c).settle) ∧
      (u.pod.fencing.contains link.val = true → u.superseded link e = true →
        (c.status = skOk → exec (.epochSetDone link c) s = .next v.settle) ∧
        (c.status = skEpochOld → exec (.epochSetDone link c) s = .next u.settle)) ∧
      (u.pod.fencing.contains link.val = true → u.superseded link e = false →
        (c.status = skOk → exec (.epochSetDone link c) s = .next (u.fenceDone link e false).settle) ∧
        (c.status = skEpochOld → exec (.epochSetDone link c) s = .next (u.fenceDone link e true).settle)) ∧
      (u.pod.fencing.contains link.val = false →
        (c.status = skOk → exec (.epochSetDone link c) s =
          .next ((((if w = 3 then (v.wr (Reg.SKL_EPOCH_STATUS_FENCED.at link) 0).toPartner (.epochNote link e)
            else v.wr (Reg.SKL_EPOCH_STATUS_FENCED.at link) 0).admitted link).reissueRefused link).settle)) ∧
        (c.status = skEpochOld → (u.linkOf link).epochTries = 0 → exec (.epochSetDone link c) s =
          .next ((u.updLink link fun l => { l with epochTries := 1 }).epochSet link (c.epoch.toNat + 1) w).settle) ∧
        (c.status = skEpochOld → (u.linkOf link).epochTries ≠ 0 → exec (.epochSetDone link c) s =
          .next ((u.setOutcome link ocFailed).sklEvent link sevUncorrected 0x140 ocFailed).settle)))) ∧
  (∀ (link : Fin 48) (c : Cpl) (xs : List SectorIn) (front : List Byte) (t : Tag) (s u : State), s.takeCpl link c = (some t, u) →
    ((∀ k p : Nat, t.use ≠ .read k p) → exec (.readDone link c xs front) s = .next u.settle) ∧
    (∀ (k p : Nat) (bad : Nat → Bool) (allGood : Bool) (v : State), t.use = .read k p →
      bad = (fun i => decide (2 ≤ c.pageStatus / 4 ^ (if t.count == 4 then i / 4 else 0) % 4)) →
      allGood = (List.range xs.length).all (fun i => !bad i) →
      v = (if (u.jobOf k).any Job.isCopy then u.unitDone link t.die else u) →
      ((badStatus c.status = true ∨ c.status = skDieFailed) → exec (.readDone link c xs front) s =
        .next ((v.badEvent link c).readTimeout k p).settle) ∧
      (badStatus c.status = false → c.status ≠ skDieFailed →
        (c.status ≠ skOk ∨ (t.count = 4 ∧ allGood = true ∧ headerGood front xs = false)) →
        exec (.readDone link c xs front) s = .next (v.readAnswer k p []).settle) ∧
      (∀ (w x y : State) (parts : List Part), c.status = skOk → (t.count = 4 → allGood = true → headerGood front xs = true) →
        w = (v.jobOf k).elim v (fun j => v.useKey j.nsid) →
        parts = ((w.judge k p xs).zipIdx.map fun (e : Part × Nat) => if bad e.2 then {} else e.1) →
        x = (if (parts.countP fun (x : Part) => x.wrong) = 0 then w else
          (w.count Reg.FTL_CNT_CRC_MISMATCH (parts.countP fun (x : Part) => x.wrong)).slotCount link 0x50
            (parts.countP fun (x : Part) => x.wrong)) →
        y = (if t.count = 4 ∧ allGood = true then x.updJob k fun j => { j with front := front } else x) →
        exec (.readDone link c xs front) s = .next (y.readAnswer k p parts).settle))) ∧
  (∀ (link : Fin 48) (c : Cpl) (t : Tag) (s u : State), s.takeCpl link c = (some t, u) →
    ((∀ q p : Nat, t.use ≠ .program q p) → (∀ q i m : Nat, t.use ≠ .subst q i m) → (∀ i k p : Nat, t.use ≠ .save i k p) →
      exec (.programDone link c) s = .next u.settle) ∧
    (∀ q p : Nat, t.use = .program q p →
      (c.status = skOk → exec (.programDone link c) s = .next (u.acked q p).settle) ∧
      ((c.status = skProgramFail ∨ c.status = skDupExpired) → exec (.programDone link c) s = .next (u.nandProgramFail link t q).settle) ∧
      ((c.status = skStaleEpoch ∨ c.status = skFenced) →
        (((Tab.find q u.ftl.fly).any fun st => st.cls == clsMeta) = true → exec (.programDone link c) s =
          .next ((((u.count (Reg.SKL_CNT_EPOCH_REFUSED.at link)).wr (Reg.SKL_EPOCH_STATUS_FENCED.at link) 1).programFailed q).settle)) ∧
        (((Tab.find q u.ftl.fly).any fun st => st.cls == clsMeta) = false →
          exec (.programDone link c) s = .next (u.epochRefused link t c).settle)) ∧
      (c.status = skPoisoned → exec (.programDone link c) s = .next (u.issue link t).settle) ∧
      (c.status ∉ [skOk, skProgramFail, skDupExpired, skStaleEpoch, skFenced, skPoisoned] →
        exec (.programDone link c) s = .next ((u.badEvent link c).programFailed q).settle)) ∧
    (∀ q i m : Nat, t.use = .subst q i m →
      (c.status = skOk → exec (.programDone link c) s = .next (u.substAcked q i m).showRebuild.settle) ∧
      ((c.status = skStaleEpoch ∨ c.status = skFenced) → exec (.programDone link c) s = .next (u.epochRefused link t c).settle) ∧
      (c.status = skPoisoned → exec (.programDone link c) s = .next (u.issue link t).settle) ∧
      ((c.status = skProgramFail ∨ c.status = skDupExpired) → exec (.programDone link c) s =
        .next ((((u.count Reg.FTL_CNT_PROGRAM_FAIL).slotCount link 0x28).substFailed q (blkKey link t.die t.block)).settle)) ∧
      (c.status ∉ [skOk, skProgramFail, skDupExpired, skStaleEpoch, skFenced, skPoisoned] →
        exec (.programDone link c) s = .next ((u.badEvent link c).abandonSubst.startSubst).settle)) ∧
    (∀ i k p : Nat, t.use = .save i k p →
      (c.status = skOk → exec (.programDone link c) s = .next u.settle) ∧
      (c.status = skPoisoned → exec (.programDone link c) s = .next (u.issue link t).settle) ∧
      (c.status ≠ skOk → c.status ≠ skPoisoned → exec (.programDone link c) s = .next (u.saveChunkFailed i k).settle))) ∧
  (∀ (link : Fin 48) (c : Cpl) (t : Tag) (s u : State), s.takeCpl link c = (some t, u) →
    (t.opcode ≠ opErase → exec (.eraseDone link c) s = .next u.settle) ∧
    (t.opcode = opErase →
      (c.status = skOk → exec (.eraseDone link c) s = .next (u.eraseEnded link t false).settle) ∧
      ((c.status = skEraseFail ∨ c.status = skDupExpired) → exec (.eraseDone link c) s = .next (u.eraseEnded link t true).settle) ∧
      ((c.status = skStaleEpoch ∨ c.status = skFenced) →
        exec (.eraseDone link c) s = .next ((u.unitDone link t.die).epochRefused link t c).settle) ∧
      (c.status = skPoisoned → exec (.eraseDone link c) s = .next (u.issue link t).settle) ∧
      (c.status ∉ [skOk, skEraseFail, skDupExpired, skStaleEpoch, skFenced, skPoisoned] →
        exec (.eraseDone link c) s = .next ((u.unitDone link t.die).badEvent link c).settle)))

/-- Tags and admission.  A tag that times out is counted and quarantined for twice its timeout, its capsule dropped and its use settled;
at the quarantine's end it is free again; a tag not outstanding, or not quarantined, is left alone.  An admitted cistern is polled, no sooner than a second after the last
poll; another is not.  Admission that lasts too long fails a first training, or shows UNRESPONSIVE with its event; a slot that is held in reset, has
an outcome, was identified or was trained anew is left alone.  The next slot group's start, in PRIME and before any power warning, lets each of its channels try CHECK no
sooner than its interval; any other start does nothing. -/
def Obligations.TagsTimeOutAndAdmissionIsBounded : Prop :=
  (∀ (link : Fin 48) (tag : BitVec 10) (s : State),
    (Tab.find tag.toNat (s.linkOf link).tags = none → exec (.sklTagTimeout link tag) s = .next s.settle) ∧
    (∀ (t : Tag) (u v : State), Tab.find tag.toNat (s.linkOf link).tags = some t →
      u = (s.atLeast (t.at_ + t.timeout)).count (Reg.SKL_CNT_TIMEOUTS.at link) →
      v = (u.updLink link fun l =>
        { l with tags := Tab.del tag.toNat l.tags
                 quarantined := Tab.put tag.toNat (t.opcode, u.tm.mono + 2 * t.timeout) l.quarantined }) →
      exec (.sklTagTimeout link tag) s =
        .next (((v.dropCapsule link tag.toNat).afterTimeout link t).afterTag link tag.toNat).settle) ∧
    (Tab.find tag.toNat (s.linkOf link).quarantined = none → exec (.sklTagQuarantineEnd link tag) s = .next s.settle) ∧
    (∀ op at_ : Nat, Tab.find tag.toNat (s.linkOf link).quarantined = some (op, at_) → exec (.sklTagQuarantineEnd link tag) s =
      .next ((((s.atLeast at_).updLink link fun l => { l with quarantined := Tab.del tag.toNat l.quarantined }).issueAll link).settle))) ∧
  (∀ (link : Fin 48) (s : State),
    (s.rd (Reg.SKL_STATUS_OUTCOME.at link) = ocAdmitted → exec (.cisternStatusPoll link) s =
      .next ((s.atLeast ((s.linkOf link).statusAt + sec)).poll link).settle) ∧
    (s.rd (Reg.SKL_STATUS_OUTCOME.at link) ≠ ocAdmitted → exec (.cisternStatusPoll link) s = .next s.settle)) ∧
  (∀ (n : Fin 48) (s u : State), u = s.atLeast ((s.linkOf n).trainAt + s.rd Reg.GLB_PRIME_CTL_ADMIT_TIMEOUT * 10 * ms) →
    (((s.chan n).rstHigh = false ∨ s.rd (Reg.SKL_STATUS_OUTCOME.at n) ≠ ocNone ∨ (s.linkOf n).newIdent ≠ none) →
      exec (.admitTimeout n) s = .next s.settle) ∧
    ((s.chan n).rstHigh = true → s.rd (Reg.SKL_STATUS_OUTCOME.at n) = ocNone → (s.linkOf n).newIdent = none →
      (u.lk n < lkActive → exec (.admitTimeout n) s = .next (u.trainFailed n).settle) ∧
      (lkActive ≤ u.lk n → (s.linkOf n).retrained = true → exec (.admitTimeout n) s = .next u.settle) ∧
      (lkActive ≤ u.lk n → (s.linkOf n).retrained = false → exec (.admitTimeout n) s =
        .next ((u.setOutcome n ocUnresponsive).sklEvent n sevUncorrected 0x140 ocUnresponsive).settle))) ∧
  (∀ (k : Nat) (s : State),
    ((s.shelf.groups = [] ∨ k ≠ s.shelf.nextGroup ∨ s.st ≠ stPRIME ∨ s.prim.pwrStop = true) → exec (.slotGroupStart k) s = .next s.settle) ∧
    (∀ (g : List Nat) (rest left : List (List Nat)) (late : List Nat) (u : State), s.shelf.groups = g :: rest → k = s.shelf.nextGroup →
      s.st = stPRIME → s.prim.pwrStop = false →
      u = s.atLeast (s.prim.enteredAt + s.rd Reg.GLB_PRIME_CTL_SLOT_INTERVAL * ms * k) →
      left = (if rest = [] then groupsOf (s.rd Reg.GLB_PRIME_CTL_SLOT_GROUP) s.shelf.late 48 else rest) →
      late = (if left.any fun g => s.shelf.late.any g.contains then [] else s.shelf.late) →
      exec (.slotGroupStart k) s = .next (g.foldl (fun s n => s.tryCheck n)
        ({ u with shelf := { u.shelf with groups := left, nextGroup := k + 1, late := late } } : State)).settle))

/-- A slot's sequence.  Presence is shown and lets the slot try CHECK; one that comes fresh while slot groups wait joins them or comes after the last.
CHECK's three tests lead to RAMP or to their faults, a driven output first to a wait of 100 ms; once PWRFAIL_N has stopped priming, CHECK leads nowhere.
The ramp done is noted; the gate enhanced for 1 ms, the channel is ON with SLOT_PG; not enhanced in 2 ms, it faults.  Its reset is released 1 ms after SLOT_PG and the
link goes to DETECT (FAILED where its domain has failed); ON for 10 s, its retries are loaded again.  In any other state of the channel each of these leaves it alone. -/
def Obligations.SlotsAreCheckedRampedAndReleased : Prop :=
  (∀ (slot : Fin 48) (s u : State), u = ((s.updChan slot fun c => { c with present := true }).wr (Reg.SLOT_STATUS_PRSNT.at slot) 1) →
    (((s.chan slot).present = true ∨ s.shelf.fullStart = false ∨ s.st ≠ stPRIME ∨ s.shelf.groups.flatten = [] ∨
        s.shelf.groups.flatten.contains slot.val = true ∨ s.chState slot = chOn ∨ s.params.sklEnable / 2 ^ slot.val % 2 = 0) →
      exec (.prsntDebounced slot) s = .next (u.tryCheck slot).settle) ∧
    (∀ late : Bool, (s.chan slot).present = false → s.shelf.fullStart = true → s.st = stPRIME → s.shelf.groups.flatten ≠ [] →
      s.shelf.groups.flatten.contains slot.val = false → s.chState slot ≠ chOn → s.params.sklEnable / 2 ^ slot.val % 2 ≠ 0 →
      late = ((s.shelf.groups.head?.getD []).head?.any fun m => decide (slot.val < m) && decide (0 < s.shelf.nextGroup)) →
      (late = true → exec (.prsntDebounced slot) s =
        .next (({ u with shelf := { u.shelf with late := s.shelf.late ++ [slot.val] } } : State).tryCheck slot).settle) ∧
      (∀ g : List (List Nat), late = false → g = groupsOf (s.rd Reg.GLB_PRIME_CTL_SLOT_GROUP)
          (slots48.filter fun m => m == slot.val || s.shelf.groups.flatten.contains m) 48 →
        exec (.prsntDebounced slot) s = .next (({ u with shelf := { u.shelf with groups := g } } : State).tryCheck slot).settle))) ∧
  (∀ (slot : Fin 48) (m : SlotCheck) (peerOn : Bool) (s u v : State),
    u = (s.wr (Reg.SLOT_SENSE_VOUT.at slot) m.vout).wr Reg.SLOT_INPUT_VIN m.vin →
    v = u.atLeast ((s.chan slot).checkAt + 800 * us) →
    ((s.chState slot ≠ chCheck ∨ s.prim.pwrStop = true) → exec (.slotCheckDone slot m peerOn) s = .next s.settle) ∧
    (s.chState slot = chCheck → s.prim.pwrStop = false →
      (m.senseGood = false → exec (.slotCheckDone slot m peerOn) s = .next (u.latchFault slot ftOpenSense peerOn).settle) ∧
      (m.senseGood = true → 50 ≤ m.vout → m.vin ≤ m.vout + 100 →
        exec (.slotCheckDone slot m peerOn) s = .next (u.enterRamp slot true).settle) ∧
      (m.senseGood = true → 50 ≤ m.vout → m.vout + 100 < m.vin → (s.chan slot).waiting = true →
        exec (.slotCheckDone slot m peerOn) s = .next u.settle) ∧
      (m.senseGood = true → 50 ≤ m.vout → m.vout + 100 < m.vin → (s.chan slot).waiting = false →
        exec (.slotCheckDone slot m peerOn) s = .next (u.updChan slot fun c => { c with waiting := true, checkAt := s.tm.mono }).settle) ∧
      (m.senseGood = true → m.vout < 50 → m.riseMv < 20 →
        exec (.slotCheckDone slot m peerOn) s = .next (v.latchFault slot ftShort peerOn).settle) ∧
      (m.senseGood = true → m.vout < 50 → 20 ≤ m.riseMv →
        exec (.slotCheckDone slot m peerOn) s = .next (v.enterRamp slot false).settle))) ∧
  (∀ (slot : Fin 48) (peerOn : Bool) (s : State),
    (s.chState slot = chCheck → (s.chan slot).waiting = true → exec (.slotBackfeedWaitEnd slot peerOn) s =
      .next ((s.atLeast ((s.chan slot).checkAt + 100 * ms)).latchFault slot ftBackfeed peerOn).settle) ∧
    ((s.chState slot ≠ chCheck ∨ (s.chan slot).waiting = false) → exec (.slotBackfeedWaitEnd slot peerOn) s = .next s.settle)) ∧
  (∀ (slot : Fin 48) (s : State),
    (s.chState slot = chRamp → (s.chan slot).ramped = false → exec (.slotRampDone slot) s =
      .next (s.updChan slot fun c => { c with ramped := true, rampedAt := s.tm.mono }).settle) ∧
    ((s.chState slot ≠ chRamp ∨ (s.chan slot).ramped = true) → exec (.slotRampDone slot) s = .next s.settle)) ∧
  (∀ (slot : Fin 48) (peerOn : Bool) (s : State),
    (s.chState slot = chRamp → (s.chan slot).ramped = true →
      (∃ t : State, exec (.slotGateEnhanced slot) s = .next t ∧ t.chState slot = chOn ∧ t.rd (Reg.SLOT_STATUS_PG.at slot) = 1 ∧
        (t.chan slot).rstHigh = false ∧ (t.chan slot).onAt = t.tm.mono ∧ (s.chan slot).rampedAt + ms ≤ t.tm.mono ∧
        t.counter Reg.SLOT_CNT_INSERTIONS = (s.counter Reg.SLOT_CNT_INSERTIONS + 1) % 2 ^ 48) ∧
      exec (.slotGateTimeout slot peerOn) s = .next ((s.atLeast ((s.chan slot).rampedAt + 2 * ms)).latchFault slot ftGate peerOn).settle) ∧
    ((s.chState slot ≠ chRamp ∨ (s.chan slot).ramped = false) →
      exec (.slotGateEnhanced slot) s = .next s.settle ∧ exec (.slotGateTimeout slot peerOn) s = .next s.settle)) ∧
  (∀ (slot : Fin 48) (s : State),
    (s.chState slot = chOn → (s.chan slot).rstHigh = false → s.is (Reg.SLOT_STATUS_PG.at slot) = true →
      stPRIME ≤ s.st → s.st ≠ stHALTED → s.prim.pwrStop = false →
      ∀ u : State, u = (((s.atLeast ((s.chan slot).onAt + ms)).slotPins slot true true).toDetect slot).setOutcome slot ocNone →
        exec (.slotResetRelease slot) s = .next (u.updLink slot fun l => { l with trainAt := u.tm.mono, retrained := false }).settle) ∧
    ((s.chState slot ≠ chOn ∨ (s.chan slot).rstHigh = true ∨ s.is (Reg.SLOT_STATUS_PG.at slot) = false ∨ s.st < stPRIME ∨
        s.st = stHALTED ∨ s.prim.pwrStop = true) → exec (.slotResetRelease slot) s = .next s.settle)) ∧
  (∀ (slot : Fin 48) (s : State),
    (s.chState slot = chOn → exec (.slotOnSettled slot) s = .next ((s.atLeast ((s.chan slot).onAt + 10 * sec)).loadRetries slot).settle) ∧
    (s.chState slot ≠ chOn → exec (.slotOnSettled slot) s = .next s.settle))

/-- A slot's protection.  In RAMP and ON the current limit's timer latches LIMIT and a fast trip latches FAST_TRIP, LIMIT seen beside it where both
come; in ON reverse current blocks the gate and keeps ON, and its end unblocks it, bringing back SLOT_PG and a link that went down with it; in ON a lost SLOT_PG
latches PG_LOST or GATE, or, under REV_BLOCK or a low feed, only takes the pin and the link down.  A low feed turns every channel in CHECK, RAMP or ON off without a latch; its return
lets slots try.  A removal of a present slot is counted, its pins go low, its retries are loaded, a latch clears, a live gate goes into HOLDOFF, the link goes down, and a FAILED
cistern's slot is EMPTY.  FAULT_CLR, the switch and AUTO_RETRY are written as SLOT_CTL; HOLDOFF ends in OFF.  Otherwise each leaves the slot alone.  A latched fault of a slot that is ON
with its link down shows its cause in FAULT, or, with an automatic retry left, waits in HOLDOFF with one retry less. -/
def Obligations.SlotFaultsHoldTheGateOff : Prop :=
  (∀ (slot : Fin 48) (iout : Nat) (limitToo peerOn : Bool) (s : State),
    ((s.chState slot = chRamp ∨ s.chState slot = chOn) →
      exec (.slotLimitTimeout slot iout peerOn) s = .next ((s.seeCurrent slot iout).latchFault slot ftLimit peerOn).settle ∧
      exec (.fastTrip slot iout false peerOn) s = .next ((s.seeCurrent slot iout).latchFault slot ftFastTrip peerOn).settle ∧
      exec (.fastTrip slot iout true peerOn) s =
        .next (((s.seeCurrent slot iout).seeCause slot ftLimit).latchFault slot ftFastTrip peerOn).settle) ∧
    (s.chState slot ≠ chRamp → s.chState slot ≠ chOn →
      exec (.slotLimitTimeout slot iout peerOn) s = .next s.settle ∧ exec (.fastTrip slot iout limitToo peerOn) s = .next s.settle)) ∧
  (∀ (slot : Fin 48) (r : Reverse) (s : State),
    (s.chState slot ≠ chOn → exec (.reverseCurrent slot r) s = .next s.settle) ∧
    (s.chState slot = chOn → s.is (Reg.SLOT_STATUS_REV_BLOCK.at slot) = true → exec (.reverseCurrent slot .below) s = .next s.settle) ∧
    (s.chState slot = chOn → s.is (Reg.SLOT_STATUS_REV_BLOCK.at slot) = false → exec (.reverseCurrent slot .below) s =
      .next ((s.wr (Reg.SLOT_STATUS_REV_BLOCK.at slot) 1).count Reg.SLOT_CNT_REVERSE_BLOCKS).settle) ∧
    (∀ u v : State, s.chState slot = chOn → u = s.wr (Reg.SLOT_STATUS_REV_BLOCK.at slot) 0 →
      v = u.slotPins slot true (u.chan slot).rstHigh →
      (u.is (Reg.SLOT_STATUS_PG.at slot) = true → exec (.reverseCurrent slot .cleared) s = .next u.settle) ∧
      (u.is (Reg.SLOT_STATUS_PG.at slot) = false → (v.chan slot).rstHigh = true → v.lk slot = lkDown →
        exec (.reverseCurrent slot .cleared) s = .next ((v.toDetect slot).updLink slot fun l =>
          { l with trainAt := v.tm.mono, retrained := true }).settle) ∧
      (u.is (Reg.SLOT_STATUS_PG.at slot) = false → ((v.chan slot).rstHigh = false ∨ v.lk slot ≠ lkDown) →
        exec (.reverseCurrent slot .cleared) s = .next v.settle))) ∧
  (∀ (slot : Fin 48) (why : PgLoss) (peerOn : Bool) (s : State),
    (s.chState slot ≠ chOn → exec (.slotPgLoss slot why peerOn) s = .next s.settle) ∧
    (s.chState slot = chOn → (s.is (Reg.SLOT_STATUS_REV_BLOCK.at slot) = true ∨ s.shelf.feedLow = true) →
      exec (.slotPgLoss slot why peerOn) s = .next ((s.slotPins slot false (s.chan slot).rstHigh).linkOff slot peerOn).settle) ∧
    (s.chState slot = chOn → s.is (Reg.SLOT_STATUS_REV_BLOCK.at slot) = false → s.shelf.feedLow = false →
      exec (.slotPgLoss slot .voutLow peerOn) s = .next (s.latchFault slot ftPgLost peerOn).settle ∧
      exec (.slotPgLoss slot .gate peerOn) s = .next (s.latchFault slot ftGate peerOn).settle)) ∧
  (∀ (vin : Nat) (s u : State), u = s.wr Reg.SLOT_INPUT_VIN vin →
    (s.rd Reg.SLOT_CFG_UV * 10 ≤ vin → exec (.slotFeedUv vin) s = .next s.settle) ∧
    (vin < s.rd Reg.SLOT_CFG_UV * 10 → exec (.slotFeedUv vin) s = .next (slots48.foldl (fun s n =>
      if chCheck ≤ s.chState n && s.chState n ≤ chOn then s.gateOff n chOff else s)
      ({ u with shelf := { u.shelf with feedLow := true } } : State)).settle) ∧
    (vin < s.rd Reg.SLOT_CFG_UV * 10 + 50 → exec (.slotFeedRestored vin) s = .next s.settle) ∧
    (s.rd Reg.SLOT_CFG_UV * 10 + 50 ≤ vin → exec (.slotFeedRestored vin) s =
      .next ({ u with shelf := { u.shelf with feedLow := false } } : State).tryChecks.settle)) ∧
  (∀ (slot : Fin 48) (s : State),
    ((s.chan slot).present = false → exec (.slotRemoval slot) s = .next s.settle) ∧
    (∀ u v w x : State, (s.chan slot).present = true →
      u = ((s.updChan slot fun c => { c with present := false }).wr (Reg.SLOT_STATUS_PRSNT.at slot) 0).count Reg.SLOT_CNT_REMOVALS →
      v = ({ u with
        shelf := { u.shelf with groups := (u.shelf.groups.map fun (g : List Nat) => g.filter (· != slot.val))
                                late := u.shelf.late.filter (· != slot.val) }
        ftl := { u.ftl with waitingId := Tab.del slot u.ftl.waitingId } } : State).loadRetries slot →
      w = (if v.chState slot = chFault then v.clearFault slot
        else if v.chState slot = chOff ∨ v.chState slot = chHoldoff then v else v.gateOff slot chHoldoff) →
      x = (w.wr (Reg.SLOT_SENSE_VOUT.at slot) 0).linkOff slot →
      exec (.slotRemoval slot) s = .next (if x.cst slot = cFailed then
        (x.setCst slot cEmpty).updLink slot fun l => { l with ident := none } else x).settle)) ∧
  (∀ (slot : Fin 48) (value : W32) (s : State), ∀ c ∈ [Instr.faultClr slot value, .slotEnWrite slot value, .autoRetryWrite slot value],
    exec c s = .next (s.slotCtlWrite slot value).settle) ∧
  (∀ (slot : Fin 48) (s : State),
    (s.chState slot = chHoldoff → exec (.holdoffExpiry slot) s =
      .next (((s.atLeast (s.chan slot).holdoff).setChan slot chOff).tryCheck slot).settle) ∧
    (s.chState slot ≠ chHoldoff → exec (.holdoffExpiry slot) s = .next s.settle)) ∧
  (∀ (slot : Fin 48) (cause : Nat) (s : State), cause < 8 → s.chState slot = chOn → s.lk slot = lkDown →
    ((s.rd (Reg.SLOT_CTL_AUTO_RETRY.at slot) = 0 ∨ s.rd (Reg.SLOT_STATUS_RETRIES_LEFT.at slot) = 0) →
      (s.latchFault slot cause true).chState slot = chFault ∧
      (s.latchFault slot cause true).rd (Reg.SLOT_STATUS_FAULT_CAUSE.at slot) = cause) ∧
    (s.rd (Reg.SLOT_CTL_AUTO_RETRY.at slot) ≠ 0 → s.rd (Reg.SLOT_STATUS_RETRIES_LEFT.at slot) ≠ 0 →
      (s.latchFault slot cause true).chState slot = chHoldoff ∧
      (s.latchFault slot cause true).rd (Reg.SLOT_STATUS_RETRIES_LEFT.at slot) = (s.rd (Reg.SLOT_STATUS_RETRIES_LEFT.at slot) - 1) % 8))

/-! ### Events, history, fatal causes, the watchdog and tenant scheduling (chapters 21 and 7) -/

/-- Event rings.  An armed ring's message goes at the end of COALESCE, with nothing to send none goes.  With GLB decoded, a write of CONS at or above the size keeps it and sets
RANGE, any other takes it; ARM arms the ring, with a message at once while records wait.  EN raised zeroes PROD and CONS and sets phase 1; raised again it
changes nothing; cleared it is clear.  The history's record of INDEX is shown with VALID, or VALID reads 0.  Without decode, or without its trigger bit, each
write is the word's alone. -/
def Obligations.RingsAreArmedEnabledAndRead : Prop :=
  (∀ (ring : Fin 256) (s : State),
    (∀ at_ : Nat, Tab.find ring.val s.evt.coalescing = some at_ →
      exec (.ringCoalesceExpiry ring) s = .next ((s.atLeast at_).ringMessage ring).settle) ∧
    (Tab.find ring.val s.evt.coalescing = none → exec (.ringCoalesceExpiry ring) s = .next s.settle)) ∧
  (∀ (ring : Fin 256) (value : W32) (s u v : State), u = s.writeWord (0x1010 + 0x20 * ring.val) value →
    v = (if 2 ^ u.rd (Reg.GLB_EVT_SIZE_SIZE_LOG2.at ring) ≤ value.toNat % 65536 then u.setErr .glb 1
      else u.wr (Reg.GLB_EVT_CONS.at ring) (value.toNat % 65536)) →
    (s.decodeOf .glb ≠ .all → exec (.ringConsWrite ring value) s = .next u.settle) ∧
    (s.decodeOf .glb = .all → value.toNat < 2 ^ 31 → exec (.ringConsWrite ring value) s = .next v.settle) ∧
    (∀ w : State, s.decodeOf .glb = .all → 2 ^ 31 ≤ value.toNat → w = v.wr (Reg.GLB_EVT_CONS_ARM.at ring) 1 →
      (w.rd (Reg.GLB_EVT_PROD.at ring) = w.rd (Reg.GLB_EVT_CONS.at ring) → exec (.ringConsWrite ring value) s = .next w.settle) ∧
      (w.rd (Reg.GLB_EVT_PROD.at ring) ≠ w.rd (Reg.GLB_EVT_CONS.at ring) →
        exec (.ringConsWrite ring value) s = .next (w.ringMessage ring).settle))) ∧
  (∀ (ring : Fin 256) (value : W32) (s u : State), u = s.writeWord (0x1008 + 0x20 * ring.val) value →
    ((s.decodeOf .glb ≠ .all ∨ (2 ^ 31 ≤ value.toNat ∧ s.is (Reg.GLB_EVT_SIZE_EN.at ring) = true)) →
      exec (.ringEnable ring value) s = .next u.settle) ∧
    (s.decodeOf .glb = .all → value.toNat < 2 ^ 31 → ∃ t : State, exec (.ringEnable ring value) s = .next t ∧
      t.rd (Reg.GLB_EVT_SIZE_EN.at ring) = 0 ∧ RegistersChange u t [Reg.GLB_EVT_SIZE_EN.at ring]) ∧
    (s.decodeOf .glb = .all → 2 ^ 31 ≤ value.toNat → s.is (Reg.GLB_EVT_SIZE_EN.at ring) = false →
      ∃ t : State, exec (.ringEnable ring value) s = .next t ∧ t.rd (Reg.GLB_EVT_SIZE_EN.at ring) = 1 ∧
        t.rd (Reg.GLB_EVT_PROD.at ring) = 0 ∧ t.rd (Reg.GLB_EVT_PROD_PHASE.at ring) = 1 ∧ t.rd (Reg.GLB_EVT_CONS.at ring) = 0 ∧
        RegistersChange u t [Reg.GLB_EVT_SIZE_EN.at ring, Reg.GLB_EVT_PROD.at ring, Reg.GLB_EVT_PROD_PHASE.at ring,
          Reg.GLB_EVT_CONS.at ring])) ∧
  (∀ (value : W32) (s u : State), u = s.writeWord 0x4C0 value →
    ((s.decodeOf .glb ≠ .all ∨ value.toNat < 2 ^ 31) → exec (.historyRead value) s = .next u.settle) ∧
    (s.decodeOf .glb = .all → 2 ^ 31 ≤ value.toNat → s.evt.history[value.toNat % 256]? = none →
      ∃ t : State, exec (.historyRead value) s = .next t ∧ t.rd Reg.GLB_HIST_STATUS_VALID = 0 ∧
        RegistersChange u t [Reg.GLB_HIST_STATUS_VALID]) ∧
    (∀ e : EvtRecord, s.decodeOf .glb = .all → 2 ^ 31 ≤ value.toNat → s.evt.history[value.toNat % 256]? = some e →
      exec (.historyRead value) s = .next ((e.words.zipIdx.foldl (fun s w => s.wr (Reg.GLB_HIST_DATA.at w.2) w.1)
        (u.wr Reg.GLB_HIST_STATUS_VALID 1)).settle)))

/-- Fatal causes and the watchdog.  A cause is recorded and its hold begins, a second one leaves the first shown and goes to the history; HOLD other than 0 ends in
a software full reset; VALID is cleared by writing 1; a kick with its key restarts the count; PERIOD without a kick warns, and twice PERIOD is
fatal and resets.  With no cause, no period, no warning yet, or a write without decode or key, none of this happens. -/
def Obligations.FatalCausesAndTheWatchdogReset : Prop :=
  (∀ (cause : FatalCause) (s : State), exec (.fatalError cause) s =
    .next (s.fatal (fatalCode cause) (fatalPlace cause).1 (fatalPlace cause).2).settle) ∧
  (∀ (cause : Nat) (b : Block) (off at_ : Nat) (s : State), s.evt.fatalAt = some at_ →
    (s.fatal cause b off).rd Reg.GLB_FATAL_CAUSE = s.rd Reg.GLB_FATAL_CAUSE ∧
    (∃ e : EvtRecord, (s.fatal cause b off).evt.history.head? = some e ∧ e.severity = sevFatal ∧ e.arg1 = cause ∧ e.history = true)) ∧
  (∀ s : State,
    (∀ at_ : Nat, s.evt.fatalAt = some at_ → s.rd Reg.GLB_FATAL_CFG_HOLD ≠ 0 → exec .fatalHoldExpiry s =
      .next ((s.atLeast (at_ + s.rd Reg.GLB_FATAL_CFG_HOLD * sec)).takeReset .softFull).settle) ∧
    ((s.evt.fatalAt = none ∨ s.rd Reg.GLB_FATAL_CFG_HOLD = 0) → exec .fatalHoldExpiry s = .next s.settle)) ∧
  (∀ (value : W32) (s u : State), u = s.writeWord 0x480 value →
    (s.decodeOf .glb = .all → value.toNat % 2 = 1 → ∃ t : State, exec (.fatalClear value) s = .next t ∧ t.rd Reg.GLB_FATAL_VALID = 0 ∧
      RegistersChange u t [Reg.GLB_FATAL_VALID]) ∧
    ((s.decodeOf .glb ≠ .all ∨ value.toNat % 2 = 0) → exec (.fatalClear value) s = .next u.settle)) ∧
  (∀ (value : W32) (s u : State), u = s.writeWord 0x4A4 value →
    (s.decodeOf .glb = .all → value.toNat % 2 = 1 → value.toNat / 65536 = 0x9648 →
      ∃ t : State, exec (.watchdogKick value) s = .next t ∧ t.rd Reg.GLB_WDOG_WARNED = 0 ∧ t.evt.kickAt = u.tm.mono ∧
        RegistersChange { u with evt := t.evt } t [Reg.GLB_WDOG_WARNED]) ∧
    ((s.decodeOf .glb ≠ .all ∨ value.toNat % 2 = 0 ∨ value.toNat / 65536 ≠ 0x9648) →
      exec (.watchdogKick value) s = .next u.settle)) ∧
  (∀ s : State,
    (s.rd Reg.GLB_WDOG_PERIOD ≠ 0 → s.is Reg.GLB_WDOG_WARNED = false → exec .watchdogWarn s =
      .next (((s.atLeast (s.evt.kickAt + s.rd Reg.GLB_WDOG_PERIOD * ms)).wr Reg.GLB_WDOG_WARNED 1).raise sevUncorrected .glb 0x4A0).settle) ∧
    ((s.rd Reg.GLB_WDOG_PERIOD = 0 ∨ s.is Reg.GLB_WDOG_WARNED = true) → exec .watchdogWarn s = .next s.settle) ∧
    (s.rd Reg.GLB_WDOG_PERIOD ≠ 0 → s.is Reg.GLB_WDOG_WARNED = true → exec .watchdogExpiry s = .next
      (((s.atLeast (s.evt.kickAt + 2 * s.rd Reg.GLB_WDOG_PERIOD * ms)).fatal ftWatchdog .glb 0x4A0).takeReset .watchdog).settle) ∧
    ((s.rd Reg.GLB_WDOG_PERIOD = 0 ∨ s.is Reg.GLB_WDOG_WARNED = false) → exec .watchdogExpiry s = .next s.settle))

/-- Admission.  Recorded commands whose time has passed are refused first.  Outside SERVE, while QOS is stopped or where no command may go, nothing is admitted;
otherwise the chosen command leaves its queue, is charged and counted by its colour with its bytes, is marked admitted, and its tenant is active now.  A
tenant is inactive 1 s after its last admission. -/
def Obligations.AdmissionChargesTheChosenCommand : Prop :=
  (∀ (now : Nat) (s u : State), u = (s.atLeast now).refuseOverdue →
    ((u.serving = false ∨ u.begins .qos = false ∨ u.choose = none) → exec (.qosAdmission now) s = .next u.settle) ∧
    (∀ (e : Elig) (q : Qos) (v w : State), u.serving = true → u.begins .qos = true → u.choose = some (e, q) →
      v = (({ u with qos := q } : State).unhold e.tenant e.id).chargeAll e →
      w = (v.count ((match e.colour with
        | .green => Reg.QOS_CNT_GREEN
        | .yellow => Reg.QOS_CNT_YELLOW
        | .red => Reg.QOS_CNT_RED).at e.tenant)).count (Reg.QOS_CNT_CHARGE.at e.tenant) e.bytes →
      ∀ c : Cmd, w.cmdOf e.id = some c → exec (.qosAdmission now) s =
        .next (((w.updCmd e.id fun c => { c with barred := w.barredNow c }).setStage e.id .admitted).tenantActs c).settle)) ∧
  (∀ (tenant : Fin 1024) (s : State),
    (∀ (at_ : Nat) (u : State), Tab.find tenant.val s.qos.lastAdmit = some at_ → u = s.atLeast (at_ + sec) →
      exec (.tenantInactive tenant) s =
        .next (({ u with qos := { u.qos with lastAdmit := Tab.del tenant.val u.qos.lastAdmit } } : State).showLatTol).settle) ∧
    (Tab.find tenant.val s.qos.lastAdmit = none → exec (.tenantInactive tenant) s = .next s.settle))

/-! ### Shelf time, launches and windows (chapter 12) -/

/-- Sources of time.  A PTP message that the port, the domain, the transport and the master choice allow, on a port that is up from PRIME on, is measured, and any other is not; an
exchange over an ACTIVE peer link sends this time, shows the offset and, where the peer runs on PTP and peers are allowed as a source, is measured; a 1PPS edge is measured against the time of
day written, later edges standing for whole seconds after it.  Sync goes out on master ports alone.  A locked servo without a measurement for long enough is in holdover.
The floor of secure time is recorded.  The override is taken with its key, audited, and lapses after 10 s; a wrong write is audited as refused, and while the audit
ring is full only the error shows. -/
def Obligations.ShelfTimeFollowsItsSources : Prop :=
  (∀ (m : PtpMsg) (up : Bool) (s : State), up = (s.rd (Reg.ETH_LINK_UP.at m.port.val) / 2 ^ m.subPort.val % 2 == 1) →
    (s.clocksRun = true → stPRIME ≤ s.st → up = true → s.ptpPort (8 * m.port.val + m.subPort.val) = true → m.supported = true →
      m.domain = s.ptpDomain → m.transport = s.rd Reg.TIME_PTP_CFG_TRANSPORT → m.best = true → exec (.ptpMessageReceive m) s =
        .next (((({ s with tm := { s.tm with gm := m.gm } } : State).wr Reg.TIME_STATUS_PTP_PORT (8 * m.port.val + m.subPort.val)).measure 1
          (({ s with tm := { s.tm with gm := m.gm } } : State).masterOffset m)
          (({ s with tm := { s.tm with gm := m.gm } } : State).masterOffset m)).settle)) ∧
    ((s.clocksRun = false ∨ s.st < stPRIME ∨ up = false ∨ s.ptpPort (8 * m.port.val + m.subPort.val) = false ∨ m.supported = false ∨
        m.domain ≠ s.ptpDomain ∨ m.transport ≠ s.rd Reg.TIME_PTP_CFG_TRANSPORT ∨ m.best = false) →
      exec (.ptpMessageReceive m) s = .next s.settle)) ∧
  (∀ (port : Fin 32) (slave : Bool) (s : State),
    slave = (s.rd Reg.TIME_STATUS_SOURCE == 1 && s.rd Reg.TIME_STATUS_PTP_PORT == port.val) →
    (s.clocksRun = true → s.is Reg.TIME_PTP_CFG_BC = true → s.ptpPort port = true → slave = false →
      exec (.ptpSyncSend port) s = .next (s.send (.ptpSync port (.of s.tm.shelf) s.tm.gm)).settle) ∧
    ((s.clocksRun = false ∨ s.is Reg.TIME_PTP_CFG_BC = false ∨ s.ptpPort port = false ∨ slave = true) →
      exec (.ptpSyncSend port) s = .next s.settle)) ∧
  (∀ s : State,
    (∀ at_ : Nat, s.tm.lastGood = some at_ → s.rd Reg.TIME_STATUS_SERVO = svLocked →
      exec .holdoverEntry s = .next (((s.atLeast (at_ + sourceHold)).wr Reg.TIME_STATUS_SERVO svHoldover).setSource 0).settle) ∧
    ((s.tm.lastGood = none ∨ s.rd Reg.TIME_STATUS_SERVO ≠ svLocked) → exec .holdoverEntry s = .next s.settle)) ∧
  (∀ (link : Fin 2) (pt : PeerTime) (s : State),
    ((s.neighbour link = none ∨ s.clocksRun = false ∨ s.plState link ≠ lkActive) → exec (.peerTimeExchange link pt) s = .next s.settle) ∧
    (∀ (m : Nat) (u : State), s.neighbour link = some m → s.clocksRun = true → s.plState link = lkActive →
      u = (s.toLink (52 + link) m (.time s.tm.shelf)).wr (Reg.TIME_PEER_OFFSET.at link) (signed32 pt.offset) →
      ((pt.ptpOffset = none ∨ u.is Reg.TIME_SRC_CFG_PEER_EN = false ∨ pt.source ≠ 1) →
        exec (.peerTimeExchange link pt) s = .next u.settle) ∧
      (∀ p : Nat, pt.ptpOffset = some p → u.is Reg.TIME_SRC_CFG_PEER_EN = true → pt.source = 1 →
        exec (.peerTimeExchange link pt) s = .next (u.measure (2 + link) pt.offset (p + pt.offset.natAbs)).settle))) ∧
  (∀ s : State,
    ((s.clocksRun = false ∨ s.is Reg.TIME_SRC_CFG_PPS_EN = false ∨ s.rd64 Reg.TIME_TOD_LO Reg.TIME_TOD_HI = 0) →
      exec .ppsEdge s = .next s.settle) ∧
    (∀ (tod n : Nat) (off : Int), s.clocksRun = true → s.is Reg.TIME_SRC_CFG_PPS_EN = true →
      s.rd64 Reg.TIME_TOD_LO Reg.TIME_TOD_HI = tod → tod ≠ 0 →
      ((∃ k : Nat, s.tm.pps = some (tod, k) ∧ n = k + 1) ∨ ((∀ k : Nat, s.tm.pps ≠ some (tod, k)) ∧ n = 0)) →
      off = ((tod + n * sec : Nat) : Int) - s.tm.shelf →
      exec .ppsEdge s = .next (({ s with tm := { s.tm with pps := some (tod, n) } } : State).measure 4 off off).settle)) ∧
  (∀ (value : W32) (s u : State), u = s.writeWord 0x300140 value →
    (s.decodeOf .time ≠ .all → exec (.stepOverride value) s = .next u.settle) ∧
    (s.decodeOf .time = .all → s.auditFull = true → exec (.stepOverride value) s = .next (u.setErr .cry 9).settle) ∧
    (s.decodeOf .time = .all → s.auditFull = false → value.toNat % 2 = 1 → value.toNat / 65536 = 0x9648 →
      exec (.stepOverride value) s = .next ({ u.audit audStepOverride actManagement false with
        tm := { u.tm with overrideAt := some u.tm.mono } } : State).settle) ∧
    (s.decodeOf .time = .all → s.auditFull = false → (value.toNat % 2 = 0 ∨ value.toNat / 65536 ≠ 0x9648) →
      exec (.stepOverride value) s = .next (u.audited 0x300140 value true).settle)) ∧
  (∀ s : State,
    (∀ (at_ : Nat) (u : State), s.tm.overrideAt = some at_ → u = s.atLeast (at_ + 10 * sec) →
      exec .stepOverrideLapse s = .next ({ u with tm := { u.tm with overrideAt := none } } : State).settle) ∧
    (s.tm.overrideAt = none → exec .stepOverrideLapse s = .next s.settle) ∧
    (s.clocksRun = true → exec .secureTimeRecord s =
      .next ({ s with tm := { s.tm with floor := s.tm.secure, recorded := s.mediaNow } } : State).settle) ∧
    (s.clocksRun = false → exec .secureTimeRecord s = .next s.settle ∧ exec .timeFlagCheck s = .next s.settle) ∧
    (∀ u : State, s.clocksRun = true →
      u = (if s.rd Reg.TIME_STATUS_SERVO = svHoldover ∧ s.tm.unbounded = false
        then s.wr Reg.TIME_OFFSET_PTP_OFFSET (signed32 s.ptpOffset) else s) →
      exec .timeFlagCheck s = .next (u.checkCoord.showMode.showPrd).settle))

/-- Launches and windows.  A write of a launch's control arms or cancels it; an armed one falls due at its time, after those due before it, and one not armed does
nothing; due with coordinated time it fires, without it a one-shot is suspended and a periodic one missed.  A slot begins at its boundary; intents are sent, received and, at the deadline, taken as all ones, while the partner serves; with TIME stopped none begins.
A draw-down operation is issued to a die that may take it; an idle cistern's dies are given theirs while windows are not coordinated. -/
def Obligations.LaunchesFallDueAndSlotsBegin : Prop :=
  (∀ (k : Fin 16) (value : W32) (s : State), exec (.launchArm k value) s = .next (s.writeLaunchCtl k value).settle ∧
    exec (.launchCancel k value) s = .next (s.writeLaunchCtl k value).settle) ∧
  (∀ (k : Fin 16) (value : W32) (s u : State), u = s.writeWord (Reg.TIME_LAUNCH_CTL_ARM.at k).off value →
    ((s.decodeOf .time ≠ .all ∨ 14 ≤ k.val ∨ value.toNat < 2 ^ 30) → s.writeLaunchCtl k value = u) ∧
    (s.decodeOf .time = .all → k.val < 14 → 2 ^ 31 ≤ value.toNat → s.writeLaunchCtl k value = u.cancelLaunch k) ∧
    (s.decodeOf .time = .all → k.val < 14 → 2 ^ 30 ≤ value.toNat → value.toNat < 2 ^ 31 →
      s.writeLaunchCtl k value = u.armLaunch k)) ∧
  (∀ (k : Fin 16) (s : State),
    (s.launchArmed k = false → exec (.launchDue k) s = .next s.settle) ∧
    (∀ u : State, s.launchArmed k = true →
      u = (s.dueBefore k).foldl (fun (s : State) j => if s.launchArmed j then s.launchDue j lsFired else s) (s.atShelf (s.launchTime k)) →
      (u.launchArmed k = true → u.launchTime k ≤ u.tm.shelf → exec (.launchDue k) s = .next (u.launchDue k lsFired).settle) ∧
      ((u.launchArmed k = false ∨ u.tm.shelf < u.launchTime k) → exec (.launchDue k) s = .next u.settle))) ∧
  (∀ (k : Nat) (s : State),
    (s.is Reg.TIME_STATUS_COORD = true → s.launchDue k lsFired = s.fire k lsFired) ∧
    (s.is Reg.TIME_STATUS_COORD = false → s.launchPeriod k = 0 → s.launchDue k lsFired = s.suspendLaunch k) ∧
    (s.is Reg.TIME_STATUS_COORD = false → s.launchPeriod k ≠ 0 →
      s.launchDue k lsFired = (s.missLaunch k 1).setLaunchTime k (s.launchTime k + s.launchPeriod k))) ∧
  (∀ s : State,
    (s.begins .time = true → exec .windowSlotStart s = .next (s.atShelf ((s.tm.shelf / s.slotLen + 1) * s.slotLen)).beginSlot.settle) ∧
    (s.begins .time = false → exec .windowSlotStart s = .next s.settle)) ∧
  (∀ (units : List Nat) (s : State),
    ((s.begins .time = false ∨ s.partnerServes = false) → exec .intentSend s = .next s.settle ∧ exec .intentDeadline s = .next s.settle) ∧
    (s.begins .time = true → s.partnerServes = true → units = (s.slotUnits ((s.tm.shelf / s.slotLen + 1) % s.slots)).filter s.unitWork →
      exec .intentSend s = .next ((({ s with tm := { s.tm with intentMine := some units } } : State).toPartner (.intent units)).settle)) ∧
    (s.partnerServes = false → exec (.intentReceive units) s = .next s.settle) ∧
    (s.partnerServes = true → exec (.intentReceive units) s =
      .next ({ s with tm := { s.tm with intentPeer := some units } } : State).settle) ∧
    (s.tm.intentPeer ≠ none → exec .intentDeadline s = .next s.settle) ∧
    (∀ u : State, s.begins .time = true → s.partnerServes = true → s.tm.intentPeer = none →
      u = s.atShelf ((s.tm.shelf / s.slotLen + 1) * s.slotLen - s.guardNs) →
      exec .intentDeadline s = .next (({ u with tm := { u.tm with
        intentPeer := some (u.slotUnits ((u.tm.shelf / u.slotLen + 1) % u.slots)) } } : State).count Reg.TIME_CNT_INTENT_MISSING).settle)) ∧
  (∀ (cistern : Fin 48) (die : Nat) (s : State), exec (.drawdownOpIssue cistern die) s = .next (s.drawdownOp cistern die).settle) ∧
  (∀ (cistern : Fin 48) (s : State),
    (s.coordinated = true → exec (.idleWaitExpiry cistern) s = .next s.settle) ∧
    (∀ u : State, s.coordinated = false → u = s.atLeast ((s.linkOf cistern).lastRead + s.rd Reg.TIME_WIN_IDLE_IDLE_WAIT * us) →
      exec (.idleWaitExpiry cistern) s = .next ((List.range (u.dies cistern)).foldl
        (fun s d => if s.dieBusy cistern d then s else s.drawdownOp cistern d) u).settle))

/-! ### I/O commands and reservations (chapter 6) -/

/-- No I/O command has an effect before it is admitted, and one that the checks of Table 6.9 up to its range do not let run ends with their status, goes
to the namespace's owner, or waits while the namespace moves: for each of the eleven rows.  A Flush of every namespace completes at once, one of a single namespace once its checks
let it run. -/
def Obligations.IoCommandsPassTheirChecks : Prop :=
  (∀ (id : Nat) (s : State),
    ∀ e ∈ [(Instr.flush id, 0x00), (.write id, 0x01), (.read id, 0x02), (.compare id, 0x05), (.writeZeroes id, 0x08),
      (.datasetManagement id, 0x09), (.verify id, 0x0C), (.reservationRegister id, 0x0D), (.reservationReport id, 0x0E),
      (.reservationAcquire id, 0x11), (.reservationRelease id, 0x15)],
      (s.ready id false e.2 = none → exec e.1 s = .next s.settle) ∧
      (∀ (c : Cmd) (u : State), s.ready id false e.2 = some c → (e.2 = 0 → c.sqe.nsid ≠ 0xFFFFFFFF) → u = s.tileEvent c.pump evCmdStart →
        (∀ st : Nat, s.ioGate id c = .refuse st → exec e.1 s = .next (u.finish id st).settle) ∧
        (∀ m : Nat, s.ioGate id c = .forward m → exec e.1 s = .next (u.forwardCmd id c m).settle) ∧
        (s.ioGate id c = .hold → exec e.1 s = .next (u.setStage id .moving).settle))) ∧
  (∀ (id : Nat) (c : Cmd) (s : State), s.ready id false 0 = some c → c.sqe.nsid = 0xFFFFFFFF →
    exec (.flush id) s = .next ((s.tileEvent c.pump evCmdStart).finish id nvOk).settle) ∧
  (∀ (id : Nat) (c : Cmd) (n : Ns) (s : State), s.ioRuns id 0 c n →
    exec (.flush id) s = .next ((s.tileEvent c.pump evCmdStart).finish id nvOk).settle)

/-- I/O commands that run.  A Write, Read or Compare of more than 512 LBAs, a Write with STC, and an operation whose protection fields the
format refuses end with their status; a Write the shelf refuses ends with its status, another claims its IUs and waits for
slots; a Read or Verify starts its media reads; a Compare reads once its data is here, or ends where the data fails its protection information.  Write Zeroes of whole IUs
alone takes effect at once, or waits for the journal, another waits for slots.  Dataset Management without Deallocate completes; on its ranges
here it is refused whole, waits for the journal, or becomes markers. -/
def Obligations.IoCommandsMoveTheirData : Prop :=
  (∀ (id : Nat) (c : Cmd) (n : Ns) (s u : State), u = s.tileEvent c.pump evCmdStart → s.ioRuns id 1 c n →
    ((512 < c.sqe.nlb ∨ c.sqe.cdw12 / 2 ^ 24 % 2 = 1) → exec (.write id) s = .next (u.finish id nvInvalidField).settle) ∧
    (c.sqe.nlb ≤ 512 → c.sqe.cdw12 / 2 ^ 24 % 2 = 0 →
      (∀ st : Nat, u.writeRefusal c.sqe.nsid n c.sqe.slba c.sqe.nlb = some st → exec (.write id) s = .next (u.finish id st).settle) ∧
      (u.writeRefusal c.sqe.nsid n c.sqe.slba c.sqe.nlb = none → piRefused n c.sqe = true →
        exec (.write id) s = .next (u.finish id nvInvalidPi).settle) ∧
      (u.writeRefusal c.sqe.nsid n c.sqe.slba c.sqe.nlb = none → piRefused n c.sqe = false →
        exec (.write id) s = .next ((u.claim c.sqe.nsid n c.sqe.slba c.sqe.nlb).queueForSlots id).settle))) ∧
  (∀ (id : Nat) (c : Cmd) (n : Ns) (s u : State), u = s.tileEvent c.pump evCmdStart →
    (s.ioRuns id 2 c n → 512 < c.sqe.nlb → exec (.read id) s = .next (u.finish id nvInvalidField).settle) ∧
    (s.ioRuns id 2 c n → c.sqe.nlb ≤ 512 → piRefused n c.sqe = true → exec (.read id) s = .next (u.finish id nvInvalidPi).settle) ∧
    (s.ioRuns id 2 c n → c.sqe.nlb ≤ 512 → piRefused n c.sqe = false → exec (.read id) s = .next (u.startRead id).settle) ∧
    (s.ioRuns id 5 c n → 512 < c.sqe.nlb → exec (.compare id) s = .next (u.finish id nvInvalidField).settle) ∧
    (s.ioRuns id 5 c n → c.sqe.nlb ≤ 512 → piRefused n c.sqe = true → exec (.compare id) s = .next (u.finish id nvInvalidPi).settle) ∧
    (s.ioRuns id 5 c n → c.sqe.nlb ≤ 512 → piRefused n c.sqe = false →
      (u.dataWhole c = none → exec (.compare id) s = .next (u.fetch id c).settle) ∧
      (∀ d : List Byte, u.dataWhole c = some d → exec (.compare id) s = .next (u.compareEnter id c d).settle)) ∧
    (s.ioRuns id 0xC c n → piRefused n c.sqe = true → exec (.verify id) s = .next (u.finish id nvInvalidPi).settle) ∧
    (s.ioRuns id 0xC c n → piRefused n c.sqe = false → exec (.verify id) s = .next (u.startRead id).settle)) ∧
  (∀ (id : Nat) (c : Cmd) (d : List Byte) (n : Ns) (s : State), n = s.nsOr c.sqe.nsid →
    (∀ st : Nat, piEnter n c.sqe 0 (sectorsOf n c.sqe 0 c.sqe.nlb d) = some st →
      s.compareEnter id c d = (s.tileEvent c.pump evPiError).finish id st) ∧
    (piEnter n c.sqe 0 (sectorsOf n c.sqe 0 c.sqe.nlb d) = none →
      s.compareEnter id c d = (s.updCmd id fun c => { c with buf := [(0, d)] }).startRead id)) ∧
  (∀ (id : Nat) (c : Cmd) (n : Ns) (s u v : State), u = s.tileEvent c.pump evCmdStart → s.ioRuns id 8 c n →
    v = u.claim c.sqe.nsid n c.sqe.slba c.sqe.nlb →
    (∀ st : Nat, u.writeRefusal c.sqe.nsid n c.sqe.slba c.sqe.nlb = some st → exec (.writeZeroes id) s = .next (u.finish id st).settle) ∧
    (u.writeRefusal c.sqe.nsid n c.sqe.slba c.sqe.nlb = none →
      (u.slotsOf c ≠ 0 → exec (.writeZeroes id) s = .next (v.queueForSlots id).settle) ∧
      (u.slotsOf c = 0 → u.markersWait (wholeIus n c.sqe.slba c.sqe.nlb).length = true → exec (.writeZeroes id) s = .next s.settle) ∧
      (u.slotsOf c = 0 → u.markersWait (wholeIus n c.sqe.slba c.sqe.nlb).length = false →
        exec (.writeZeroes id) s = .next (v.zeroRange id c).settle))) ∧
  (∀ (id : Nat) (c : Cmd) (n : Ns) (s u : State), u = s.tileEvent c.pump evCmdStart → s.ioRuns id 9 c n →
    (c.sqe.cdw11 / 4 % 2 = 0 → exec (.datasetManagement id) s = .next (u.finish id nvOk).settle) ∧
    (c.sqe.cdw11 / 4 % 2 = 1 → u.dataWhole c = none → exec (.datasetManagement id) s = .next (u.fetch id c).settle) ∧
    (∀ d : List Byte, c.sqe.cdw11 / 4 % 2 = 1 → u.dataWhole c = some d →
      exec (.datasetManagement id) s = .next (u.deallocate id c d).settle)) ∧
  (∀ (id : Nat) (c : Cmd) (d : List Byte) (n : Ns) (rs : List (Nat × Nat)) (ius : List Nat) (s : State), n = s.nsOr c.sqe.nsid →
    rs = dsmRanges d → ius = rs.flatMap (fun r => wholeIus n r.1 r.2) →
    ((∃ r ∈ rs, n.nsze < r.1 + r.2) → s.deallocate id c d = s.finish id nvLbaRange) ∧
    ((∀ r ∈ rs, r.1 + r.2 ≤ n.nsze) → s.is Reg.FTL_MEDIA_STATUS_READ_ONLY = true →
      s.deallocate id c d = s.finish id nvWriteProtected) ∧
    ((∀ r ∈ rs, r.1 + r.2 ≤ n.nsze) → s.is Reg.FTL_MEDIA_STATUS_READ_ONLY = false → n.locked = true → (∃ r ∈ rs, r.2 ≠ 0) →
      s.deallocate id c d = s.finish id nvOpDenied) ∧
    ((∀ r ∈ rs, r.1 + r.2 ≤ n.nsze) → s.is Reg.FTL_MEDIA_STATUS_READ_ONLY = false → (n.locked = true → ∀ r ∈ rs, r.2 = 0) →
      (s.markersWait ius.length = true → s.deallocate id c d = s.updCmd id fun c => { c with stage := .admitted, buf := [(0, d)] }) ∧
      (s.markersWait ius.length = false →
        s.deallocate id c d = (ius.foldl (fun s iu => s.marker c.sqe.nsid iu false) s).checkpointIfFull.mirrorWrite id c false [])))

/-- Reservations.  The keys of Register, Acquire and Release are fetched, then judged: Register adds, keeps, removes or replaces the host's key; Acquire takes a free
reservation for a registrant with its key, keeps the holder's own of the same type, or preempts; Release frees the holder's own of the same type, and Clear empties all; with a wrong key or by no
registrant they end with Reservation Conflict, with another action, type or holder's type with Invalid Field.  Report answers generation, type and registrants in the extended structure, and refuses
the other. -/
def Obligations.ReservationsAreRegisteredAcquiredAndReleased : Prop :=
  (∀ (id : Nat) (c : Cmd) (n : Ns) (s u : State), u = s.tileEvent c.pump evCmdStart →
    (s.ioRuns id 0xD c n →
      (u.dataWhole c = none → exec (.reservationRegister id) s = .next (u.fetch id c).settle) ∧
      (∀ d : List Byte, u.dataWhole c = some d → exec (.reservationRegister id) s = .next (u.resvRegister id c d).settle)) ∧
    (s.ioRuns id 0x11 c n →
      (u.dataWhole c = none → exec (.reservationAcquire id) s = .next (u.fetch id c).settle) ∧
      (∀ d : List Byte, u.dataWhole c = some d → exec (.reservationAcquire id) s = .next (u.resvAcquire id c d).settle)) ∧
    (s.ioRuns id 0x15 c n →
      (u.dataWhole c = none → exec (.reservationRelease id) s = .next (u.fetch id c).settle) ∧
      (∀ d : List Byte, u.dataWhole c = some d → exec (.reservationRelease id) s = .next (u.resvRelease id c d).settle)) ∧
    (s.ioRuns id 0xE c n →
      (c.sqe.cdw11 % 2 = 0 → exec (.reservationReport id) s = .next (u.finish id nvHostIdFormat).settle) ∧
      (c.sqe.cdw11 % 2 = 1 → exec (.reservationReport id) s = .next (u.answer id
        ([(0, 4, n.resGen), (4, 1, n.resType), (5, 2, n.registrants.length), (9, 1, if n.ptpl then 1 else 0)] ++
        (n.registrants.zipIdx.flatMap fun (e : Registrant × Nat) =>
          [(64 + 64 * e.2, 2, 0xFFFF), (66 + 64 * e.2, 1, if n.holds e.1.hostId then 1 else 0), (72 + 64 * e.2, 8, e.1.key),
           (80 + 64 * e.2, 16, e.1.hostId)]))).settle))) ∧
  (∀ (id : Nat) (c : Cmd) (d : List Byte) (n : Ns) (s : State), n = s.nsOr c.sqe.nsid → n.registrant (s.hostOf c) = none →
    ((c.sqe.cdw10 % 8 = 0 ∨ (c.sqe.cdw10 % 8 = 2 ∧ c.sqe.cdw10 / 8 % 2 = 1)) →
      s.resvRegister id c d = s.addRegistrant id c.sqe n (s.hostOf c) (leAt d 8 8)) ∧
    ((c.sqe.cdw10 % 8 = 1 ∨ (c.sqe.cdw10 % 8 = 2 ∧ c.sqe.cdw10 / 8 % 2 = 0)) →
      s.resvRegister id c d = s.finish id nvResvConflict) ∧
    (2 < c.sqe.cdw10 % 8 → s.resvRegister id c d = s.finish id nvInvalidField) ∧
    s.resvAcquire id c d = s.finish id nvResvConflict ∧ s.resvRelease id c d = s.finish id nvResvConflict) ∧
  (∀ (id : Nat) (c : Cmd) (d : List Byte) (n m : Ns) (r : Registrant) (ignore : Bool) (s u : State), n = s.nsOr c.sqe.nsid →
    n.registrant (s.hostOf c) = some r → ignore = (c.sqe.cdw10 / 8 % 2 == 1) → m = n.dropRegs (fun r => r.hostId == s.hostOf c) →
    u = s.putResv c.sqe.nsid { m.cptpl c.sqe with resGen := n.resGen + 1 } →
    (c.sqe.cdw10 % 8 = 0 → s.resvRegister id c d = s.finish id (if r.key = leAt d 8 8 then nvOk else nvResvConflict)) ∧
    (2 < c.sqe.cdw10 % 8 → s.resvRegister id c d = s.finish id nvInvalidField) ∧
    ((c.sqe.cdw10 % 8 = 1 ∨ c.sqe.cdw10 % 8 = 2) → ignore = false → r.key ≠ leAt d 0 8 →
      s.resvRegister id c d = s.finish id nvResvConflict) ∧
    (c.sqe.cdw10 % 8 = 1 → (ignore = true ∨ r.key = leAt d 0 8) →
      s.resvRegister id c d = (if n.resType ≠ 0 ∧ m.resType = 0 ∧ 3 ≤ n.resType then
        u.notifyAll c.sqe.nsid rnReleased (m.registrants.map (·.hostId)) else u).finish id nvOk) ∧
    (∀ m' : Ns, c.sqe.cdw10 % 8 = 2 → (ignore = true ∨ r.key = leAt d 0 8) →
      m' = { n with registrants := n.registrants.map fun (r : Registrant) =>
        if r.hostId == s.hostOf c then { r with key := leAt d 8 8 } else r } →
      s.resvRegister id c d = (s.putResv c.sqe.nsid { m'.cptpl c.sqe with resGen := n.resGen + 1 }).finish id nvOk) ∧
    (ignore = false → r.key ≠ leAt d 0 8 →
      s.resvAcquire id c d = s.finish id nvResvConflict ∧ s.resvRelease id c d = s.finish id nvResvConflict) ∧
    (∀ type : Nat, (ignore = true ∨ r.key = leAt d 0 8) → type = c.sqe.cdw10 / 256 % 256 →
      ((type = 0 ∨ 6 < type) → s.resvAcquire id c d = s.finish id nvInvalidField) ∧
      (1 ≤ type → type ≤ 6 →
        (c.sqe.cdw10 % 8 = 0 → n.resType = 0 →
          s.resvAcquire id c d = (s.putResv c.sqe.nsid { n with resType := type, resHolder := s.hostOf c }).finish id nvOk) ∧
        (c.sqe.cdw10 % 8 = 0 → n.resType ≠ 0 → s.resvAcquire id c d =
          s.finish id (if n.holds (s.hostOf c) = true ∧ n.resType = type then nvOk else nvResvConflict)) ∧
        (c.sqe.cdw10 % 8 = 1 → s.resvAcquire id c d = s.preempt id c.sqe n (s.hostOf c) (leAt d 8 8) false) ∧
        (c.sqe.cdw10 % 8 = 2 → s.resvAcquire id c d = s.preempt id c.sqe n (s.hostOf c) (leAt d 8 8) true) ∧
        (2 < c.sqe.cdw10 % 8 → s.resvAcquire id c d = s.finish id nvInvalidField)) ∧
      (c.sqe.cdw10 % 8 = 0 → n.holds (s.hostOf c) = false → s.resvRelease id c d = s.finish id nvOk) ∧
      (c.sqe.cdw10 % 8 = 0 → n.holds (s.hostOf c) = true → type ≠ n.resType → s.resvRelease id c d = s.finish id nvInvalidField) ∧
      (∀ v : State, c.sqe.cdw10 % 8 = 0 → n.holds (s.hostOf c) = true → type = n.resType →
        v = s.putResv c.sqe.nsid { n with resType := 0, resHolder := 0 } →
        s.resvRelease id c d = (if 3 ≤ n.resType then v.notifyAll c.sqe.nsid rnReleased
          ((n.registrants.map (·.hostId)).filter (· != s.hostOf c)) else v).finish id nvOk) ∧
      (c.sqe.cdw10 % 8 = 1 → s.resvRelease id c d = ((s.putResv c.sqe.nsid
        { n with registrants := [], resType := 0, resHolder := 0, resGen := n.resGen + 1 }).notifyAll c.sqe.nsid
        rnPreempted ((n.registrants.map (·.hostId)).filter (· != s.hostOf c))).finish id nvOk) ∧
      (1 < c.sqe.cdw10 % 8 → s.resvRelease id c d = s.finish id nvInvalidField)))

/-! ### Admin, Fabrics and namespace commands (chapter 6) -/

/-- Admin rows are gated.  Nothing happens before the command is admitted as its row's; while the audit ring is full a command that needs a record is
refused with Operation Denied; before the controller accepts host commands all but Identify, Get Log Page and Get Features end with Admin Command
Media Not Ready.  A Fabrics command off a queue pair, and a queue command off PCIe, end with Invalid Command Opcode, a queue command of a queue
outside the function's with Invalid Queue Identifier. -/
def Obligations.AdminCommandsPassTheirChecks : Prop :=
  (∀ (id : Nat) (permitted : Bool) (s : State),
    ∀ e ∈ [(Instr.identify id, 0x06), (.getLogPage id, 0x02), (.getFeatures id, 0x0A), (.setFeatures id, 0x09),
      (.asynchronousEventRequest id, 0x0C), (.abort id, 0x08), (.namespaceCreate id permitted, 0x0D), (.namespaceDelete id permitted, 0x0D),
      (.namespaceAttachment id, 0x15), (.keepAlive id, 0x18), (.directiveSend id, 0x19), (.directiveReceive id, 0x1A),
      (.virtualizationManagement id, 0x1C), (.createIoSq id, 0x01), (.deleteIoSq id, 0x00), (.createIoCq id, 0x05), (.deleteIoCq id, 0x04),
      (.formatNvm id, 0x80)],
      (s.ready id true e.2 = none → exec e.1 s = .next s.settle) ∧
      (∀ c : Cmd, s.ready id true e.2 = some c →
        (unrecorded c.sqe = false → s.auditFull = true → exec e.1 s = .next (s.finish id nvOpDenied).settle) ∧
        ((unrecorded c.sqe = true ∨ s.auditFull = false) → s.accepting = false → e.2 ∉ [0x02, 0x06, 0x0A] →
          exec e.1 s = .next (s.adminDone id c nvMediaNotReady).settle))) ∧
  (∀ (id : Nat) (tenant : Fin 1024) (s : State),
    ∀ e ∈ [(Instr.fabricsConnect id tenant, [1]), (.propertyGet id, [4]), (.propertySet id, [0]), (.disconnect id, [8]),
      (.authenticationSendReceive id, [5, 6])],
      (s.ready id true 0x7F = none → exec e.1 s = .next s.settle) ∧
      (∀ c : Cmd, s.ready id true 0x7F = some c → c.sqe.fctype ∉ e.2 → exec e.1 s = .next s.settle) ∧
      (∀ c : Cmd, s.ready id true 0x7F = some c → c.sqe.fctype ∈ e.2 → unrecorded c.sqe = false → s.auditFull = true →
        exec e.1 s = .next (s.finish id nvOpDenied).settle) ∧
      (∀ c : Cmd, s.ready id true 0x7F = some c → c.sqe.fctype ∈ e.2 → (unrecorded c.sqe = true ∨ s.auditFull = false) →
        s.accepting = false → exec e.1 s = .next (s.adminDone id c nvMediaNotReady).settle) ∧
      (∀ c : Cmd, s.adminRuns id 0x7F c → c.sqe.fctype ∈ e.2 → (∀ qp : Nat, c.path ≠ .rc qp) →
        exec e.1 s = .next (s.adminDone id c nvInvalidOpcode).settle)) ∧
  (∀ (id : Nat) (c : Cmd) (s : State),
    ∀ e ∈ [(Instr.createIoSq id, 0x01), (.deleteIoSq id, 0x00), (.createIoCq id, 0x05), (.deleteIoCq id, 0x04)], s.adminRuns id e.2 c →
      (c.path.isPcie = false → exec e.1 s = .next (s.adminDone id c nvInvalidOpcode).settle) ∧
      (c.path.isPcie = true → (c.sqe.cdw10 % 0x10000 = 0 ∨ queueLimit c.path < c.sqe.cdw10 % 0x10000) →
        exec e.1 s = .next (s.adminDone id c nvQidInvalid).settle))

/-- Admin commands that run.  Each structure, log and feature is answered, or its status given; an event request takes an event that waits, or waits while there are fewer
than eight; Abort removes a command still held; Keep Alive restarts its timer over fabrics; directives enable, report and release streams; PF1 takes a VF
offline and online; a fused or unlisted command is refused; a vector's held completions are signalled when their time ends. -/
def Obligations.AdminCommandsAnswer : Prop :=
  (∀ (id : Nat) (c : Cmd) (s : State), s.adminRuns id 0x06 c →
    (∀ fs : Fields, s.identify_ id c = (0, fs) → exec (.identify id) s = .next (s.answer id fs).settle) ∧
    (∀ (st : Nat) (fs : Fields), s.identify_ id c = (st, fs) → st ≠ 0 → exec (.identify id) s = .next (s.adminDone id c st).settle)) ∧
  (∀ (id lid off : Nat) (c : Cmd) (s : State), s.adminRuns id 0x02 c → lid = c.sqe.cdw10 % 256 → off = c.sqe.cdw12 + 2 ^ 32 * c.sqe.cdw13 →
    (off % 4 ≠ 0 → exec (.getLogPage id) s = .next (s.adminDone id c nvInvalidField).settle) ∧
    (∀ (st : Nat) (fs : Fields), off % 4 = 0 → s.logPage c = (st, fs) → st ≠ 0 →
      exec (.getLogPage id) s = .next (s.adminDone id c st).settle) ∧
    (∀ (fs : Fields) (u v : State), off % 4 = 0 → s.logPage c = (0, fs) →
      u = (if lid = 0xC0 then { s with ftl := { s.ftl with healthGen := (s.ftl.healthGen + 1) % 4294967296 } } else s) →
      v = (if c.path.isPrd = true ∨ c.sqe.cdw10 / 32768 % 2 = 1 then u else u.rearm c.ctlr lid) →
      exec (.getLogPage id) s = .next (v.answer id (cutFields fs off (adminBytes c.sqe))).settle)) ∧
  (∀ (id : Nat) (c : Cmd) (s : State),
    (s.adminRuns id 0x0A c → c.sqe.cdw10 % 256 = 0x0E →
      exec (.getFeatures id) s = .next (s.answer id [(0, 6, s.tm.shelf / ms), (6, 1, 2)]).settle) ∧
    (s.adminRuns id 0x0A c → c.sqe.cdw10 % 256 = 0x81 → c.sqe.cdw11 % 2 = 0 →
      exec (.getFeatures id) s = .next (s.adminDone id c nvHostIdFormat).settle) ∧
    (s.adminRuns id 0x0A c → c.sqe.cdw10 % 256 = 0x81 → c.sqe.cdw11 % 2 = 1 →
      exec (.getFeatures id) s = .next (s.answer id [(0, 16, (s.ctlrOf c.ctlr).hostId)]).settle) ∧
    (s.adminRuns id 0x0A c → c.sqe.cdw10 % 256 ≠ 0x0E → c.sqe.cdw10 % 256 ≠ 0x81 →
      exec (.getFeatures id) s = .next (s.adminDone id c (s.getFeature id c).1 (s.getFeature id c).2).settle) ∧
    (s.adminRuns id 0x09 c → s.dataWhole c = none → exec (.setFeatures id) s = .next (s.fetch id c).settle) ∧
    (∀ d : List Byte, s.adminRuns id 0x09 c → s.dataWhole c = some d → exec (.setFeatures id) s =
      .next ((s.setFeature id c d).1.adminDone id c (s.setFeature id c d).2.1 (s.setFeature id c d).2.2).settle)) ∧
  (∀ (id : Nat) (c : Cmd) (k : Ctlr) (s : State), s.adminRuns id 0x0C c → k = s.ctlrOf c.ctlr →
    (∀ e ∈ k.waiting.head?, exec (.asynchronousEventRequest id) s =
      .next ((s.updCtlr c.ctlr fun k' => { k' with waiting := k.waiting.tail }).adminDone id c nvOk (eventDw0 e)).settle) ∧
    (k.waiting = [] → k.aers.length < 8 → exec (.asynchronousEventRequest id) s =
      .next ((s.updCtlr c.ctlr fun k => { k with aers := k.aers ++ [id] }).setStage id .aer).settle) ∧
    (k.waiting = [] → 8 ≤ k.aers.length → exec (.asynchronousEventRequest id) s = .next (s.adminDone id c nvAerLimit).settle)) ∧
  (∀ (id : Nat) (c : Cmd) (found : Option (Nat × Cmd)) (s : State), s.adminRuns id 0x08 c →
    found = (s.host.cmds.find? fun e => e.2.ctlr == c.ctlr && e.2.path.isPcie == c.path.isPcie &&
      s.queueOf e.2 == c.sqe.cdw10 % 0x10000 && e.2.sqe.cid == c.sqe.cdw10 / 0x10000 && e.2.stage == .held) →
    (found = none → exec (.abort id) s = .next (s.adminDone id c nvOk 1).settle) ∧
    (∀ e : Nat × Cmd, found = some e →
      exec (.abort id) s = .next (((s.removeHeld e.1 e.2).finish e.1 nvAborted).adminDone id c nvOk).settle)) ∧
  (∀ (id : Nat) (c : Cmd) (s : State), s.adminRuns id 0x18 c →
    (c.path.isPcie = true → exec (.keepAlive id) s = .next (s.adminDone id c nvInvalidOpcode).settle) ∧
    (c.path.isPcie = false →
      exec (.keepAlive id) s = .next ((s.updCtlr c.ctlr fun k => { k with kaAt := s.tm.mono }).adminDone id c nvOk).settle)) ∧
  (∀ (id nsid type op : Nat) (c : Cmd) (held : Option Nat) (on off back : State) (s : State), s.adminRuns id 0x19 c →
    nsid = c.sqe.nsid → type = c.sqe.cdw11 / 256 % 256 → op = c.sqe.cdw11 % 256 → held = (s.ctlrOf c.ctlr).streamsOf nsid →
    on = s.updCtlr c.ctlr (fun k => { k with streams := if Tab.has nsid k.streams then k.streams else Tab.put nsid 0 k.streams }) →
    off = s.updCtlr c.ctlr (fun k => { k with streams := Tab.del nsid k.streams }) →
    back = s.updCtlr c.ctlr (fun k => { k with streams := Tab.put nsid 0 k.streams }) →
    (s.visible id c = none → exec (.directiveSend id) s = .next (s.adminDone id c nvInvalidNs).settle) ∧
    (s.visible id c ≠ none →
      (type = 0 → op = 1 → c.sqe.cdw12 / 256 % 256 = 1 →
        exec (.directiveSend id) s = .next ((if c.sqe.cdw12 % 2 = 1 then on else off).adminDone id c nvOk).settle) ∧
      (type = 1 → held ≠ none → op = 1 → exec (.directiveSend id) s = .next (s.adminDone id c nvOk).settle) ∧
      (type = 1 → held ≠ none → op = 2 → exec (.directiveSend id) s = .next (back.adminDone id c nvOk).settle) ∧
      (((type = 0 ∧ (op ≠ 1 ∨ c.sqe.cdw12 / 256 % 256 ≠ 1)) ∨ (type = 1 ∧ (held = none ∨ (op ≠ 1 ∧ op ≠ 2))) ∨ 1 < type) →
        exec (.directiveSend id) s = .next (s.adminDone id c nvInvalidField).settle))) ∧
  (∀ (id nsid type op : Nat) (c : Cmd) (held : Option Nat) (s : State), s.adminRuns id 0x1A c →
    nsid = c.sqe.nsid → type = c.sqe.cdw11 / 256 % 256 → op = c.sqe.cdw11 % 256 → held = (s.ctlrOf c.ctlr).streamsOf nsid →
    (s.visible id c = none → exec (.directiveReceive id) s = .next (s.adminDone id c nvInvalidNs).settle) ∧
    (∀ n : Ns, s.visible id c = some n →
      (type = 0 → op = 1 → exec (.directiveReceive id) s =
        .next (s.adminAnswer id c [(0, 1, 3), (32, 1, if held.isSome then 3 else 1)]).settle) ∧
      (∀ a : Nat, type = 1 → held = some a →
        (op = 1 → exec (.directiveReceive id) s = .next (s.freeNext.adminAnswer id c [(0, 2, 16), (2, 2, s.streamsLeft c.ctlr nsid - a),
          (4, 2, 0), (16, 4, n.iuLen), (20, 2, s.freeVal 16), (22, 2, a), (24, 2, 0)]).settle) ∧
        (op = 2 → exec (.directiveReceive id) s = .next (s.adminAnswer id c [(0, 2, 0)]).settle) ∧
        (∀ g : Nat, op = 3 → g = min (s.streamsLeft c.ctlr nsid) (c.sqe.cdw12 % 0x10000) → exec (.directiveReceive id) s =
          .next ((s.updCtlr c.ctlr fun k => { k with streams := Tab.put nsid g k.streams }).adminDone id c nvOk g).settle)) ∧
      (((type = 0 ∧ op ≠ 1) ∨ (type = 1 ∧ (held = none ∨ op = 0 ∨ 3 < op)) ∨ 1 < type) →
        exec (.directiveReceive id) s = .next (s.adminDone id c nvInvalidField).settle))) ∧
  (∀ (id fn : Nat) (c : Cmd) (s : State), s.adminRuns id 0x1C c → fn = c.sqe.cdw10 / 0x10000 →
    (c.path.fn ≠ 1 → exec (.virtualizationManagement id) s = .next (s.adminDone id c nvInvalidOpcode).settle) ∧
    (c.path.fn = 1 → c.sqe.cdw10 % 16 ≠ 7 → c.sqe.cdw10 % 16 ≠ 9 →
      exec (.virtualizationManagement id) s = .next (s.adminDone id c nvInvalidField).settle) ∧
    (c.path.fn = 1 → (c.sqe.cdw10 % 16 = 7 ∨ c.sqe.cdw10 % 16 = 9) → (fn < 2 ∨ 33 < fn ∨ s.fnPresent fn = false) →
      exec (.virtualizationManagement id) s = .next (s.adminDone id c nvCtlrInvalid).settle) ∧
    (c.path.fn = 1 → 2 ≤ fn → fn ≤ 33 → s.fnPresent fn = true →
      (c.sqe.cdw10 % 16 = 9 → exec (.virtualizationManagement id) s =
        .next ((s.updFn fn fun f => { f with offline := false }).adminDone id c nvOk).settle) ∧
      (c.sqe.cdw10 % 16 = 7 → exec (.virtualizationManagement id) s =
        .next (((s.ctlrReset fn).updFn fn fun f => { f with offline := true }).adminDone id c nvOk).settle))) ∧
  (∀ (id : Nat) (s : State),
    (s.runnable id = none → exec (.unsupportedOpcode id) s = .next s.settle) ∧
    (∀ (c : Cmd) (known : Bool) (st : Nat), s.runnable id = some c →
      known = (supported c && !(c.admin && c.sqe.opcode == 0x7F && !([0, 1, 4, 5, 6, 8].contains c.sqe.fctype))) →
      st = (if c.sqe.fuse ≠ 0 then nvInvalidField else nvInvalidOpcode) →
      (c.sqe.fuse = 0 → known = true → exec (.unsupportedOpcode id) s = .next s.settle) ∧
      ((c.sqe.fuse ≠ 0 ∨ known = false) →
        (c.admin = false → exec (.unsupportedOpcode id) s = .next ((s.tileEvent c.pump evCmdStart).finish id st).settle) ∧
        (c.admin = true → unrecorded c.sqe = false → s.auditFull = true →
          exec (.unsupportedOpcode id) s = .next (s.finish id nvOpDenied).settle) ∧
        (c.admin = true → (unrecorded c.sqe = true ∨ s.auditFull = false) →
          exec (.unsupportedOpcode id) s = .next (s.adminDone id c st).settle)))) ∧
  (∀ (fn : Fin 34) (vector : Nat) (s : State),
    (Tab.has vector (s.fnOf fn.val).coalHeld = true → exec (.interruptCoalescingTimeout fn vector) s =
      .next ((s.updFn fn.val fun f => { f with coalHeld := Tab.del vector f.coalHeld }).msix fn.val vector).settle) ∧
    (Tab.has vector (s.fnOf fn.val).coalHeld = false → exec (.interruptCoalescingTimeout fn vector) s = .next s.settle))

/-- Fabrics commands and queues that run.  Connect fetches its data, binds the host's NQN to one tenant, and connects, or is held while a queue pair of the host's failed
association is in ERR; properties are read and CC is set, its EN cleared ending the controller's I/O commands and event requests; Disconnect ends
the association, authentication is refused.  I/O queues are created with a new identifier, a size and a contiguous place, a completion queue with its vector, a submission
queue on an existing completion queue; they are deleted, a submission queue's commands aborted, a completion queue not while one uses it. -/
def Obligations.FabricsCommandsAndQueues : Prop :=
  (∀ (id qp : Nat) (tenant : Fin 1024) (c e : Cmd) (s u : State), s.adminRuns id 0x7F c → c.path = .rc qp → c.sqe.fctype = 1 →
    e = { c with tenant := tenant.val } → u = s.updCmd id (fun _ => e) →
    (u.dataWhole e = none → exec (.fabricsConnect id tenant) s = .next (u.fetch id e).settle) ∧
    (∀ d : List Byte, u.dataWhole e = some d → exec (.fabricsConnect id tenant) s = .next (u.connectData id e d).settle)) ∧
  (∀ (id qp : Nat) (c e : Cmd) (d : List Byte) (s u v : State), c.path = .rc qp →
    u = (if Tab.has (connectNqn d) s.host.nqns then s
      else { s.freeNext with host := { s.host with nqns := Tab.put (connectNqn d) (c.tenant, s.freeVal 32) s.host.nqns } }) →
    e = { c with tenant := (Tab.getD (connectNqn d) (c.tenant, 0) u.host.nqns).1 } →
    v = u.updCmd id (fun k => { k with tenant := e.tenant }) →
    (v.hostInErr (connectHost d) (connectNqn d) = true → s.connectData id c d = v.setStage id .connect) ∧
    (v.hostInErr (connectHost d) (connectNqn d) = false → s.connectData id c d = v.connect id e qp d)) ∧
  (∀ (id qp : Nat) (c : Cmd) (s : State), s.adminRuns id 0x7F c → c.path = .rc qp →
    (c.sqe.fctype = 4 → s.property (s.ctlrOf c.ctlr) c.sqe.cdw11 = none →
      exec (.propertyGet id) s = .next (s.adminDone id c nvInvalidField).settle) ∧
    (∀ v : Nat, c.sqe.fctype = 4 → s.property (s.ctlrOf c.ctlr) c.sqe.cdw11 = some v →
      exec (.propertyGet id) s = .next (s.adminDone id c nvOk v).settle) ∧
    (c.sqe.fctype = 0 → c.sqe.cdw11 ≠ 0x14 → exec (.propertySet id) s = .next (s.adminDone id c nvInvalidField).settle) ∧
    (∀ u : State, c.sqe.fctype = 0 → c.sqe.cdw11 = 0x14 →
      u = (if (s.ctlrOf c.ctlr).cc % 2 = 1 ∧ c.sqe.cdw12 % 2 = 0 then
        s.loseCmds fun e => e.ctlr == c.ctlr && (!e.admin || e.stage == .aer) else s) →
      exec (.propertySet id) s = .next ((u.updCtlr c.ctlr fun k => { k with cc := c.sqe.cdw12 }).adminDone id c nvOk).settle) ∧
    (c.sqe.fctype = 8 → exec (.disconnect id) s = .next ((s.adminDone id c nvOk).endAssoc (s.qpOf qp).assoc).settle) ∧
    ((c.sqe.fctype = 5 ∨ c.sqe.fctype = 6) →
      exec (.authenticationSendReceive id) s = .next (s.adminDone id c nvInvalidField).settle)) ∧
  (∀ (id q k size : Nat) (c : Cmd) (s : State), c.path.isPcie = true → q = c.sqe.cdw10 % 0x10000 → q ≠ 0 → q ≤ queueLimit c.path →
    k = queueKey c.path.fn q → size = c.sqe.cdw10 / 0x10000 →
    (∀ cq : Nat, s.adminRuns id 0x01 c → cq = c.sqe.cdw11 / 0x10000 →
      (Tab.has k s.host.sqs = true → exec (.createIoSq id) s = .next (s.adminDone id c nvQidInvalid).settle) ∧
      (Tab.has k s.host.sqs = false → queueSizeGood size = false →
        exec (.createIoSq id) s = .next (s.adminDone id c nvQueueSize).settle) ∧
      (Tab.has k s.host.sqs = false → queueSizeGood size = true → (cq = 0 ∨ Tab.has (queueKey c.path.fn cq) s.host.cqs = false) →
        exec (.createIoSq id) s = .next (s.adminDone id c nvCqInvalid).settle) ∧
      (Tab.has k s.host.sqs = false → queueSizeGood size = true → cq ≠ 0 → Tab.has (queueKey c.path.fn cq) s.host.cqs = true →
        (c.sqe.cdw11 % 2 = 0 → exec (.createIoSq id) s = .next (s.adminDone id c nvInvalidField).settle) ∧
        (c.sqe.cdw11 % 2 = 1 → exec (.createIoSq id) s = .next (({ s with host := { s.host with
          sqs := Tab.put k { base := c.sqe.addr, size := size, cq := cq } s.host.sqs } } : State).adminDone id c nvOk).settle))) ∧
    (∀ u : State, s.adminRuns id 0x00 c → u = s.abortQueue c.path.fn q →
      (Tab.has k s.host.sqs = false → exec (.deleteIoSq id) s = .next (s.adminDone id c nvQidInvalid).settle) ∧
      (Tab.has k s.host.sqs = true → exec (.deleteIoSq id) s =
        .next (({ u with host := { u.host with sqs := Tab.del k u.host.sqs } } : State).adminDone id c nvOk).settle)) ∧
    (∀ v : Nat, s.adminRuns id 0x05 c → v = c.sqe.cdw11 / 0x10000 →
      (Tab.has k s.host.cqs = true → exec (.createIoCq id) s = .next (s.adminDone id c nvQidInvalid).settle) ∧
      (Tab.has k s.host.cqs = false → queueSizeGood size = false →
        exec (.createIoCq id) s = .next (s.adminDone id c nvQueueSize).settle) ∧
      (Tab.has k s.host.cqs = false → queueSizeGood size = true → queueLimit c.path < v →
        exec (.createIoCq id) s = .next (s.adminDone id c nvVectorInvalid).settle) ∧
      (Tab.has k s.host.cqs = false → queueSizeGood size = true → v ≤ queueLimit c.path →
        (c.sqe.cdw11 % 2 = 0 → exec (.createIoCq id) s = .next (s.adminDone id c nvInvalidField).settle) ∧
        (c.sqe.cdw11 % 2 = 1 → exec (.createIoCq id) s = .next (({ s with host := { s.host with
          cqs := Tab.put k { base := c.sqe.addr, size := size, vector := v, ien := c.sqe.cdw11 / 2 % 2 == 1 } s.host.cqs } } :
            State).adminDone id c nvOk).settle))) ∧
    (∀ used : Bool, s.adminRuns id 0x04 c → used = (s.host.sqs.any fun e => e.1 / 0x10000 == c.path.fn && e.2.cq == q) →
      (Tab.has k s.host.cqs = false → exec (.deleteIoCq id) s = .next (s.adminDone id c nvQidInvalid).settle) ∧
      (Tab.has k s.host.cqs = true → used = true → exec (.deleteIoCq id) s = .next (s.adminDone id c nvQueueDeletion).settle) ∧
      (Tab.has k s.host.cqs = true → used = false → exec (.deleteIoCq id) s =
        .next (({ s with host := { s.host with cqs := Tab.del k s.host.cqs } } : State).adminDone id c nvOk).settle)))

/-- Namespaces.  By a command: created, where the host may, with a new key in the lowest empty slot, or refused by the first row of Table 6.5 that applies; deleted, where
the host may, once the commands before have drained, never while locked; attached to and detached from functions; formatted, one format at a time, once the commands before have drained
and the journal has room.  The registers create, grow, delete and read them with RESULT, audited, and refuse while the audit ring is full. -/
def Obligations.NamespacesAreCreatedDrainedFormattedAndAttached : Prop :=
  (∀ (id sel : Nat) (permitted : Bool) (c : Cmd) (s : State), s.adminRuns id 0x0D c → sel = c.sqe.cdw10 % 16 →
    (sel = 1 → exec (.namespaceCreate id permitted) s = .next s.settle) ∧
    (1 < sel → exec (.namespaceCreate id permitted) s = .next (s.adminDone id c nvInvalidField).settle) ∧
    (sel = 0 → permitted = false → exec (.namespaceCreate id permitted) s = .next (s.adminDone id c nvOpDenied).settle) ∧
    (sel = 0 → permitted = true → s.dataWhole c = none → exec (.namespaceCreate id permitted) s = .next (s.fetch id c).settle) ∧
    (∀ d : List Byte, sel = 0 → permitted = true → s.dataWhole c = some d →
      exec (.namespaceCreate id permitted) s = .next (s.nsCreate id c d).settle) ∧
    (sel ≠ 1 → exec (.namespaceDelete id permitted) s = .next s.settle) ∧
    (sel = 1 → permitted = false → exec (.namespaceDelete id permitted) s = .next (s.adminDone id c nvOpDenied).settle) ∧
    (∀ st : Nat, sel = 1 → permitted = true → s.nsGate id c = .refuse st →
      exec (.namespaceDelete id permitted) s = .next (s.adminDone id c st).settle) ∧
    (∀ m : Nat, sel = 1 → permitted = true → s.nsGate id c = .forward m →
      exec (.namespaceDelete id permitted) s = .next (s.forwardCmd id c m).settle) ∧
    (sel = 1 → permitted = true → s.nsGate id c = .hold →
      exec (.namespaceDelete id permitted) s = .next (s.setStage id .moving).settle) ∧
    (∀ n : Ns, sel = 1 → permitted = true → s.nsGate id c = .run n →
      (n.deleting = true → exec (.namespaceDelete id permitted) s = .next (s.adminDone id c nvInvalidNs).settle) ∧
      (n.deleting = false → n.locked = true → exec (.namespaceDelete id permitted) s = .next (s.adminDone id c nvOpDenied).settle) ∧
      (n.deleting = false → n.locked = false → exec (.namespaceDelete id permitted) s =
        .next ((s.beginDelete c.sqe.nsid n (some id)).setStage id .draining).settle))) ∧
  (∀ (id : Nat) (c : Cmd) (d : List Byte) (s : State),
    (∀ row : Nat, s.createRefusal (createReq d) = row → row ≠ 0 → s.nsCreate id c d = s.adminDone id c (createStatus row)) ∧
    (s.createRefusal (createReq d) = 0 → s.lowestEmpty = none → s.nsCreate id c d = s.adminDone id c nvInsufficient) ∧
    (∀ slot : Nat, s.createRefusal (createReq d) = 0 → s.lowestEmpty = some slot →
      s.nsCreate id c d = ((s.generateKey slot keyXts256).createNs s.freeNsid (createReq d) c.tenant slot
        (s.selfEntry.map fun e => e.2.2.1)).adminDone id c nvOk s.freeNsid slot)) ∧
  (∀ (nsid : Nat) (s : State),
    (s.nsOf nsid = none → exec (.namespaceDeleteDrained nsid) s = .next s.settle) ∧
    (∀ n : Ns, s.nsOf nsid = some n → (n.deleting = false ∨ ∃ i ∈ n.awaits, s.cmdOf i ≠ none) →
      exec (.namespaceDeleteDrained nsid) s = .next s.settle) ∧
    (∀ n : Ns, s.nsOf nsid = some n → n.deleting = true → (∀ i ∈ n.awaits, s.cmdOf i = none) →
      (n.deleteBy = none → exec (.namespaceDeleteDrained nsid) s =
        .next (((s.removeNs nsid n actManagement).wr Reg.FTL_NS_STATUS_BUSY 0).wr Reg.FTL_NS_STATUS_RESULT 0).settle) ∧
      (∀ id : Nat, n.deleteBy = some id → s.cmdOf id = none →
        exec (.namespaceDeleteDrained nsid) s = .next (s.removeNs nsid n actController).settle) ∧
      (∀ (id : Nat) (c : Cmd), n.deleteBy = some id → s.cmdOf id = some c → exec (.namespaceDeleteDrained nsid) s =
        .next ((s.removeNs nsid n (s.actorOf c)).adminDone id c nvOk 0 n.keySlot).settle))) ∧
  (∀ (id : Nat) (c : Cmd) (s : State), s.adminRuns id 0x15 c →
    (c.path.isPcie = false → exec (.namespaceAttachment id) s = .next (s.adminDone id c nvInvalidOpcode).settle) ∧
    (c.path.isPcie = true → s.dataWhole c = none → exec (.namespaceAttachment id) s = .next (s.fetch id c).settle) ∧
    (∀ d : List Byte, c.path.isPcie = true → s.dataWhole c = some d →
      exec (.namespaceAttachment id) s = .next (s.nsAttach id c d).settle)) ∧
  (∀ (id : Nat) (c : Cmd) (d : List Byte) (s : State),
    (s.visible id c = none → s.nsAttach id c d = s.adminDone id c nvInvalidNs) ∧
    (∀ n : Ns, s.visible id c = some n → ctlrList d = [] → s.nsAttach id c d = s.adminDone id c nvCtlrList) ∧
    (∀ n : Ns, s.visible id c = some n → (∃ f ∈ ctlrList d, (s.fnOf f).tenant ≠ n.tenant) →
      s.nsAttach id c d = s.adminDone id c nvInvalidNs) ∧
    (∀ n : Ns, s.visible id c = some n → ctlrList d ≠ [] → (∀ f ∈ ctlrList d, (s.fnOf f).tenant = n.tenant) →
      (1 < c.sqe.cdw10 % 16 → s.nsAttach id c d = s.adminDone id c nvInvalidField) ∧
      (c.sqe.cdw10 % 16 = 0 → (∃ f ∈ ctlrList d, f ∈ n.attached) → s.nsAttach id c d = s.adminDone id c nvNsAttached) ∧
      (c.sqe.cdw10 % 16 = 0 → (∀ f ∈ ctlrList d, f ∉ n.attached) → s.nsAttach id c d =
        (s.putNs c.sqe.nsid { n with attached := n.attached ++ ctlrList d }).adminDone id c nvOk) ∧
      (c.sqe.cdw10 % 16 = 1 → (∃ f ∈ ctlrList d, f ∉ n.attached) → s.nsAttach id c d = s.adminDone id c nvNsNotAttached) ∧
      (c.sqe.cdw10 % 16 = 1 → (∀ f ∈ ctlrList d, f ∈ n.attached) → s.nsAttach id c d =
        (s.putNs c.sqe.nsid { n with attached := n.attached.filter fun f => !(ctlrList d).contains f }).adminDone id c nvOk))) ∧
  (∀ (id w lbaf pi : Nat) (c : Cmd) (s : State), s.adminRuns id 0x80 c → w = c.sqe.cdw10 → lbaf = w % 16 → pi = w / 32 % 8 →
    (c.sqe.nsid = 0xFFFFFFFF → exec (.formatNvm id) s = .next (s.adminDone id c nvInvalidField).settle) ∧
    (∀ st : Nat, c.sqe.nsid ≠ 0xFFFFFFFF → s.nsGate id c = .refuse st → exec (.formatNvm id) s = .next (s.adminDone id c st).settle) ∧
    (∀ m : Nat, c.sqe.nsid ≠ 0xFFFFFFFF → s.nsGate id c = .forward m → exec (.formatNvm id) s = .next (s.forwardCmd id c m).settle) ∧
    (c.sqe.nsid ≠ 0xFFFFFFFF → s.nsGate id c = .hold → exec (.formatNvm id) s = .next (s.setStage id .moving).settle) ∧
    (∀ n : Ns, c.sqe.nsid ≠ 0xFFFFFFFF → s.nsGate id c = .run n →
      ((3 < lbaf ∨ 3 < pi ∨ (lbaf = 0 ∧ pi ≠ 0) ∨ (lbaf ≠ 0 ∧ w / 16 % 2 = 0) ∨ 2 < w / 512 % 8) →
        exec (.formatNvm id) s = .next (s.adminDone id c nvInvalidField).settle) ∧
      (lbaf ≤ 3 → pi ≤ 3 → (lbaf = 0 → pi = 0) → (lbaf ≠ 0 → w / 16 % 2 = 1) → w / 512 % 8 ≤ 2 →
        (n.locked = true → exec (.formatNvm id) s = .next (s.adminDone id c nvOpDenied).settle) ∧
        (n.locked = false → n.format ≠ none → exec (.formatNvm id) s = .next (s.adminDone id c nvFormatInProgress).settle) ∧
        (n.locked = false → n.format = none → exec (.formatNvm id) s =
          .next ((s.putNs c.sqe.nsid { n with format := some (id, lbaf + 16 * pi, w / 512 % 8) }).setStage id .draining).settle)))) ∧
  (∀ (nsid : Nat) (s : State),
    ((∀ n : Ns, s.nsOf nsid = some n → n.format = none) →
      exec (.formatStart nsid) s = .next s.settle ∧ exec (.formatDone nsid) s = .next s.settle) ∧
    (∀ (id fmt ses : Nat) (n : Ns), s.nsOf nsid = some n → n.format = some (id, fmt, ses) →
      ((n.formatting = true ∨ s.nsAdmitted nsid ≠ [] ∨ s.clearWaits nsid = true) → exec (.formatStart nsid) s = .next s.settle) ∧
      (∀ (a : Actor) (n' : Ns) (u v w : State), n.formatting = false → s.nsAdmitted nsid = [] → s.clearWaits nsid = false →
        ((∃ c : Cmd, s.cmdOf id = some c ∧ a = s.actorOf c) ∨ (s.cmdOf id = none ∧ a = actController)) →
        u = (if ses = 0 then s else s.destroyKey n.keySlot a .format nsid) →
        v = (if ses = 0 ∧ n.retState ≠ retExpired then u else u.generateKey n.keySlot keyXts256) →
        n' = { n with formatting := true, lbaf := fmt % 16, piType := fmt / 16, lastWrite := v.tm.secure, claims := [] } →
        w = (v.putNs nsid n').clearNs nsid →
        exec (.formatStart nsid) s =
          .next (if n.retain = true ∧ n.retState = retExpired then w.retChange nsid n' retLocked else w).settle) ∧
      (n.formatting = false → exec (.formatDone nsid) s = .next s.settle) ∧
      (∀ u : State, n.formatting = true → u = (s.putNs nsid { n with format := none, formatting := false }).nsChanged nsid →
        (u.cmdOf id = none → exec (.formatDone nsid) s = .next u.settle) ∧
        (∀ c : Cmd, u.cmdOf id = some c → exec (.formatDone nsid) s = .next (u.adminDone id c nvOk 0 n.keySlot).settle)))) ∧
  (∀ (value : W32) (s u : State), u = (s.accessWake .ftl offNsAcc).wrFields .ftl offNsAcc value →
    ∀ e ∈ [(Instr.namespaceRegCreate value, 1), (.namespaceRegGrow value, 2), (.namespaceRegDelete value, 3), (.namespaceRegRead value, 4)],
      ((s.decodeOf .ftl ≠ .all ∨ s.is (fResetting .ftl) = true) → exec e.1 s = .next (s.writeWord offNsAcc value).settle) ∧
      (s.decodeOf .ftl = .all → s.is (fResetting .ftl) = false → s.auditFull = true →
        exec e.1 s = .next ((s.writeWord offNsAcc value).wr Reg.FTL_NS_STATUS_RESULT nsrAuditFull).settle) ∧
      (s.decodeOf .ftl = .all → s.is (fResetting .ftl) = false → s.auditFull = false →
        (value.toNat < 2147483648 ∨ u.rd Reg.FTL_NS_ACC_OP ≠ e.2 ∨ u.is Reg.FTL_NS_STATUS_BUSY = true) →
        exec e.1 s = .next (u.audited offNsAcc value false).settle) ∧
      (s.decodeOf .ftl = .all → s.is (fResetting .ftl) = false → s.auditFull = false → 2147483648 ≤ value.toNat →
        u.rd Reg.FTL_NS_ACC_OP = e.2 → u.is Reg.FTL_NS_STATUS_BUSY = false → e.2 ≠ 1 →
        (∀ n : Ns, u.nsOf (u.rd Reg.FTL_NS_ACC_NSID) = some n → e.2 ≠ 4 ∧ n.deleting = true) →
        exec e.1 s = .next ((u.wr Reg.FTL_NS_STATUS_RESULT nsrNotFound).audited offNsAcc value true (u.rd Reg.FTL_NS_ACC_NSID)).settle)) ∧
  (∀ (value : W32) (row id nsid : Nat) (s u : State), u = (s.accessWake .ftl offNsAcc).wrFields .ftl offNsAcc value →
    s.decodeOf .ftl = .all → s.is (fResetting .ftl) = false → s.auditFull = false → 2147483648 ≤ value.toNat →
    u.is Reg.FTL_NS_STATUS_BUSY = false → u.rd Reg.FTL_NS_ACC_OP = 1 → id = u.rd Reg.FTL_NS_ACC_NSID →
    nsid = (if id = 0 then u.freeNsid else id) →
    ((u.createRefusal u.nsRequest = row ∧ row ≠ 0) ∨ (u.createRefusal u.nsRequest = 0 ∧ 4096 < nsid ∧ row = nsrInvalid) ∨
        (u.createRefusal u.nsRequest = 0 ∧ nsid ≤ 4096 ∧ u.nsOf nsid ≠ none ∧ row = 2) ∨
        (u.createRefusal u.nsRequest = 0 ∧ nsid ≤ 4096 ∧ u.nsOf nsid = none ∧ u.bindSlot = none ∧
          row = if u.is Reg.FTL_NS_KEY_SLOT_EN then nsrInvalid else 3) →
      exec (.namespaceRegCreate value) s =
        .next ((u.wr Reg.FTL_NS_STATUS_RESULT row).audited offNsAcc value (row != nsrOk) id).settle) ∧
    (∀ (slot : Nat) (v w : State) (home : Option Nat), u.createRefusal u.nsRequest = 0 → nsid ≤ 4096 → u.nsOf nsid = none →
      u.bindSlot = some (slot, v) →
      home = (if u.is Reg.FTL_NS_CFG_HOME_EN then some (u.rd Reg.FTL_NS_CFG_HOME) else u.selfEntry.map fun e => e.2.2.1) →
      w = ((v.createNs nsid u.nsRequest (u.rd Reg.FTL_NS_CFG_TENANT) slot home).wr Reg.FTL_NS_STATUS_ASSIGNED nsid).wr
        Reg.FTL_NS_STATUS_RESULT nsrOk →
      exec (.namespaceRegCreate value) s = .next (w.audited offNsAcc value false id).settle)) ∧
  (∀ (value : W32) (n : Ns) (id nsze : Nat) (s u : State), u = (s.accessWake .ftl offNsAcc).wrFields .ftl offNsAcc value →
    s.decodeOf .ftl = .all → s.is (fResetting .ftl) = false → s.auditFull = false → 2147483648 ≤ value.toNat →
    u.is Reg.FTL_NS_STATUS_BUSY = false → id = u.rd Reg.FTL_NS_ACC_NSID → u.nsOf id = some n →
    nsze = u.rd64 Reg.FTL_NS_NSZE_LO Reg.FTL_NS_NSZE_HI →
    (u.rd Reg.FTL_NS_ACC_OP = 2 → n.deleting = false →
      (nsze ≤ n.nsze → exec (.namespaceRegGrow value) s =
        .next ((u.wr Reg.FTL_NS_STATUS_RESULT nsrInvalid).audited offNsAcc value true id).settle) ∧
      (n.nsze < nsze → u.capacityGood (rawNeed (u.nsLayout n) nsze - rawNeed (u.nsLayout n) n.nsze) = false →
        exec (.namespaceRegGrow value) s = .next ((u.wr Reg.FTL_NS_STATUS_RESULT 3).audited offNsAcc value true id).settle) ∧
      (∀ w : State, n.nsze < nsze → u.capacityGood (rawNeed (u.nsLayout n) nsze - rawNeed (u.nsLayout n) n.nsze) = true →
        w = (u.growNs id n nsze).wr Reg.FTL_NS_STATUS_RESULT nsrOk →
        exec (.namespaceRegGrow value) s = .next (w.audited offNsAcc value false id).settle)) ∧
    (u.rd Reg.FTL_NS_ACC_OP = 3 → n.deleting = false →
      (n.locked = true → exec (.namespaceRegDelete value) s =
        .next ((u.wr Reg.FTL_NS_STATUS_RESULT nsrDenied).audited offNsAcc value true id).settle) ∧
      (∀ w : State, n.locked = false → w = (u.beginDelete id n none).wr Reg.FTL_NS_STATUS_BUSY 1 →
        exec (.namespaceRegDelete value) s = .next (w.audited offNsAcc value false id).settle)) ∧
    (∀ v w : State, u.rd Reg.FTL_NS_ACC_OP = 4 →
      v = (((((u.wr64 Reg.FTL_NS_NSZE_LO Reg.FTL_NS_NSZE_HI n.nsze).wr Reg.FTL_NS_CFG_LBAF n.lbaf).wr Reg.FTL_NS_CFG_PI_TYPE
        n.piType).wrB Reg.FTL_NS_CFG_IU n.iu16).wr Reg.FTL_NS_CFG_LAYOUT n.layout).wrB Reg.FTL_NS_CFG_RETAIN n.retain →
      w = ((((((((v.wr Reg.FTL_NS_CFG_HOME (n.home.getD 0)).wrB Reg.FTL_NS_CFG_HOME_EN n.home.isSome).wr Reg.FTL_NS_CFG_TENANT
        n.tenant).wr Reg.FTL_NS_RETAIN_RETAIN_DAYS n.retainDays).wr Reg.FTL_NS_KEY_KEY_SLOT n.keySlot).wr Reg.FTL_NS_KEY_SLOT_EN 1).wr
        Reg.FTL_NS_STATUS_ASSIGNED id).wr Reg.FTL_NS_STATUS_RESULT nsrOk) →
      exec (.namespaceRegRead value) s = .next (w.audited offNsAcc value false id).settle))

/-! ### The sump, saves and remote regions (chapters 15 and 6) -/

/-- The sump.  A pump's first request is granted where its slots fit and the journal has room for its markers: its slots are reserved and its data fetched, or its zeroes take
effect; any other waits.  The float is recomputed from RECOVER to SERVE while no save is under way or held; the bank's monitor is shown, its fall to LOW or REVERSED reported.
PWRFAIL_N and undervoltage fail the power; overvoltage is reported, a brownout resets.  A save is complete once its programs are acknowledged, failed where a stripe had no row,
and its waiting reset follows; the cause's end after a save for the power begins a full reset.  SAVE_LOST is cleared by writing 1. -/
def Obligations.SumpGrantsMonitorsAndSaves : Prop :=
  (∀ (id : Nat) (s : State),
    (s.cmdOf id = none → exec (.sumpReservationGrant id) s = .next s.settle) ∧
    (∀ (c d : Cmd) (zeroed : Nat) (u : State), s.cmdOf id = some c → d = { c with slots := s.slotsOf c } →
      zeroed = (if c.sqe.opcode = 8 then (wholeIus (s.nsOr c.sqe.nsid) c.sqe.slba c.sqe.nlb).length else 0) →
      u = (({ s with sump := { s.sump with waiting := s.sump.waiting.filter (· != id) } } : State).updCmd id fun _ => d).reserve (s.slotsOf c) →
      ((c.stage ≠ .waitSlots ∨ s.firstWaiting id c = false ∨ s.mayGrant (s.slotsOf c) = false ∨ s.markersWait zeroed = true) →
        exec (.sumpReservationGrant id) s = .next s.settle) ∧
      (c.stage = .waitSlots → s.firstWaiting id c = true → s.mayGrant (s.slotsOf c) = true → s.markersWait zeroed = false →
        (c.sqe.opcode = 8 → exec (.sumpReservationGrant id) s = .next (u.zeroRange id d).settle) ∧
        (c.sqe.opcode ≠ 8 → exec (.sumpReservationGrant id) s = .next (u.fetchReady id d).settle)))) ∧
  (∀ s : State,
    ((s.st < stRECOVER ∨ stSERVE < s.st ∨ s.sump.save ≠ none ∨ s.sump.saved ≠ none) → exec .floatRecompute s = .next s.settle) ∧
    (∀ (p : Nat) (t u : State), stRECOVER ≤ s.st → s.st ≤ stSERVE → s.sump.save = none → s.sump.saved = none → t = s.updateRows →
      p = t.fPlsa / floatUnit →
      u = (t.wr Reg.SUMP_RATE_R_SAVE (t.rSave / 100000000)).wr Reg.SUMP_RATE_F_PLSA (min 65535 p) →
      exec .floatRecompute s = .next ((u.setFloat (min u.floatUsed (min p (u.fHold / floatUnit)))).protectionNotices s).settle)) ∧
  (∀ (mv v : Int) (on : List Nat) (f m : Nat) (r s t u w x : State), s = { r with shelf := { r.shelf with peerOn := on } } → v = max (-32768) (min 32767 (mv * s.rd Reg.SUMP_HOLDUP_CFG2_DIV / 1000)) →
    t = s.wr Reg.SUMP_BANK_VBANK (v % 65536).toNat → f = t.rd Reg.SUMP_CFG_FLOAT * floatUnit →
    m = (if t.rd Reg.SUMP_HOLDUP_CFG_CAP = 0 then moUnconfigured else if mv < -100 then moReversed else if t.enough f then moCharged
      else if t.is Reg.SUMP_STATUS_EVER_CHARGED then moLow else moCharging) →
    u = (t.wr Reg.SUMP_ENERGY_E_AVAIL (min 65535 (t.eAvail / 200000000))) → w = u.wr Reg.SUMP_ENERGY_E_REQ (u.eReq f) →
    x = (if m = moCharged then (w.wr Reg.SUMP_STATUS_MONITOR m).wr Reg.SUMP_STATUS_EVER_CHARGED 1 else w.wr Reg.SUMP_STATUS_MONITOR m) →
    exec (.holdupSample mv on) r = .next ((if m ≠ w.rd Reg.SUMP_STATUS_MONITOR ∧ (m = moLow ∨ m = moReversed) then
      x.raise sevUncorrected .sump Reg.SUMP_STATUS_MONITOR.off noInstance m else x).protectionNotices s).settle) ∧
  (∀ s : State, exec .pwrfailNFall s =
      .next (({ s with sump := { s.sump with pwrfailLow := true } } : State).powerFails .pwrfail).settle ∧
    exec .inputUndervoltage s =
      .next (({ s with sump := { s.sump with inputLow := true } } : State).powerFails .undervoltage).settle ∧
    exec .inputBrownout s = .next (({ s with prim := { s.prim with powered := false } } : State).takeReset .powerOn).settle ∧
    exec .inputOvervoltage s = .next (s.raise sevUncorrected .pwr Reg.PWR_INPUT_VIN.off).settle) ∧
  (∀ (now : Nat) (s : State),
    ((s.sump.save = none ∨ s.savePrograms = true) → exec (.saveComplete now) s = .next s.settle) ∧
    (∀ (start : Nat) (cause : SaveCause) (t u : State), s.sump.save = some (cause, start) → s.savePrograms = false → t = s.atLeast now →
      u = (if t.sump.saveBad then t.saveFailed cause else t.saveDone cause start) →
      (u.prim.waiting = none → exec (.saveComplete now) s = .next u.settle) ∧
      (∀ k : ResetKind, u.prim.waiting = some k →
        exec (.saveComplete now) s = .next (u.resetSaved k (u.rd Reg.SUMP_LAST_SAVE_RESULT == 1)).settle))) ∧
  (∀ s : State,
    ((s.sump.saved = some .pwrfail ∨ s.sump.saved = some .undervoltage) → exec .saveTriggerCleared s =
      .next (({ s with sump := { s.sump with pwrfailLow := false, inputLow := false } } : State).resetNow .softFull).settle) ∧
    (s.sump.saved ≠ some .pwrfail → s.sump.saved ≠ some .undervoltage → exec .saveTriggerCleared s = .next s.settle)) ∧
  (∀ (value : W32) (s u : State), u = s.writeWord Reg.SUMP_STATUS_SAVE_LOST.off value →
    (s.decodeOf .sump = .all → s.is (fResetting .sump) = false → value.toNat / 128 % 2 = 1 → exec (.saveLostClear value) s =
      .next ((u.wr Reg.SUMP_STATUS_SAVE_LOST 0).putDesc fun d => { d with saveLost := false }).settle) ∧
    ((s.decodeOf .sump ≠ .all ∨ s.is (fResetting .sump) = true ∨ value.toNat / 128 % 2 = 0) →
      exec (.saveLostClear value) s = .next u.settle))

/-- The mirror and the shutdown.  The last acknowledgement awaited completes the write, unless its data was lost, and a region write's acknowledgement goes on with it.  A mirror frame
from RECOVER to SERVE enters its versions, drops those released, keeps its recent transactions, regions, reservations and times, applies its journal records, clears STALE at a copy's end, and is acknowledged; without a partner or in another state it
is not taken.  Single mode is entered when the position is secured and the controller is not fenced itself; SUSPEND marks the mirror STALE and is acknowledged, and its acknowledgement secures;
the copy back's end leaves single mode and opens the cisterns to both.  A forced takeover with its key needs a takeover allowed behind a STALE mirror, and is audited.  A shutdown is refused outside SERVE and while a region is VALID,
begun once, and CLEAN when nothing is left. -/
def Obligations.MirrorSingleModeAndShutdown : Prop :=
  (∀ (cmd : Nat) (s : State),
    (4294967296 ≤ cmd → (s.qpOf (cmd - 4294967296)).mirrorPend = 0 → exec (.mirrorAckReceive cmd) s = .next s.settle) ∧
    (4294967296 ≤ cmd → (s.qpOf (cmd - 4294967296)).mirrorPend ≠ 0 →
      exec (.mirrorAckReceive cmd) s = .next (s.regionMirrored (cmd - 4294967296) 1).settle) ∧
    (cmd < 4294967296 → s.cmdOf cmd = none → exec (.mirrorAckReceive cmd) s = .next s.settle) ∧
    (∀ (c : Cmd) (u : State), cmd < 4294967296 → s.cmdOf cmd = some c → u = s.updCmd cmd (fun c => { c with mirrors := c.mirrors - 1 }) →
      ((c.stage ≠ .waitMirror ∨ c.mirrors = 0) → exec (.mirrorAckReceive cmd) s = .next s.settle) ∧
      (c.stage = .waitMirror → c.mirrors = 1 → c.lost = [] → exec (.mirrorAckReceive cmd) s = .next (u.writeDone cmd nvOk).settle) ∧
      (c.stage = .waitMirror → c.mirrors ≠ 0 → (c.mirrors ≠ 1 ∨ c.lost ≠ []) → exec (.mirrorAckReceive cmd) s = .next u.settle))) ∧
  (∀ (f : MirrorFrame) (s : State),
    ((s.partner = none ∨ s.st < stRECOVER ∨ stSERVE < s.st) → exec (.mirrorFrameReceive f) s = .next s.settle) ∧
    (∀ (p : Nat) (vs : List Version) (new kept : List Recent) (t u v w x y : State), s.partner = some p → stRECOVER ≤ s.st → s.st ≤ stSERVE →
      vs = (s.sump.peerVersions ++ f.versions.map (mirrorVersion s)).filter (fun v => !f.released.contains v.order) →
      new = f.recents.map (fun (r : MirrorRecent) =>
        { host := r.host, gen := r.gen, tid := r.tid, crc := r.crc, dw0 := r.dw0, status := r.status
          st := if r.final then 2 else 1, prd := r.prd, expiry := s.tm.mono / us + r.left : Recent }) →
      kept = s.prd.mirrored.filter (fun e => decide (s.tm.mono / us < e.expiry) &&
        !(new.any fun r => r.host == e.host && r.gen == e.gen && r.tid == e.tid)) →
      t = { s with
        sump := { s.sump with peerVersions := vs, peerSlots := (vs.map fun (v : Version) => v.sectors.length).sum
                              peerSeq := max s.sump.peerSeq f.seq, peerLost := f.lost.getD s.sump.peerLost }
        prd := { s.prd with mirrored := kept ++ new } } →
      u = f.regions.foldl (fun s r => s.mirrorRegion r) t →
      v = f.reservations.foldl (fun (s : State) h => (s.nsOf h.nsid).elim s fun n => if s.owns n then s else s.putNs h.nsid (n.withResv h)) u →
      w = f.lastWrites.foldl (fun (s : State) w => (s.nsOf w.1).elim s fun n => if s.owns n then s else s.putNs w.1 { n with lastWrite := w.2 }) v →
      x = f.records.foldl (fun (s : State) r => s.applyPeerRec (s.partner.getD 0) r) w →
      y = (if f.copyEnd then ({ x with sump := { x.sump with peerStale := false } } : State).wr Reg.SUMP_STATUS_MIRROR_STALE 0 else x) →
      (f.cmd = none → exec (.mirrorFrameReceive f) s = .next y.settle) ∧
      (∀ k : Nat, f.cmd = some k → exec (.mirrorFrameReceive f) s = .next (y.toPartner (.mirrorAck k)).settle))) ∧
  (∀ s : State,
    (s.sump.secured = true → s.fencedSelf = false → exec .singleModeEntry s = .next s.enterSingle.settle) ∧
    ((s.sump.secured = false ∨ s.fencedSelf = true) → exec .singleModeEntry s = .next s.settle) ∧
    ((s.partner = none ∨ s.podTalks = false) → exec .suspend s = .next s.settle) ∧
    (s.partner ≠ none → s.podTalks = true → exec .suspend s =
      .next ((({ s with sump := { s.sump with peerStale := true } } : State).wr Reg.SUMP_STATUS_MIRROR_STALE 1).toPartner .suspendAck).settle) ∧
    (s.sump.securing = true → exec .suspendAck s =
      .next ({ s with sump := { s.sump with securing := false, secured := true } } : State).settle) ∧
    (s.sump.securing = false → exec .suspendAck s = .next s.settle)) ∧
  (∀ s : State,
    ((s.serving = false ∨ s.is Reg.SUMP_STATUS_SINGLE = false ∨ s.partnerServes = false ∨ s.sump.copyback = false) →
      exec .mirrorCopybackDone s = .next s.settle) ∧
    (∀ t u : State, s.serving = true → s.is Reg.SUMP_STATUS_SINGLE = true → s.partnerServes = true → s.sump.copyback = true →
      t = ({ s with sump := { s.sump with copyback := false, secured := false } } : State).wr Reg.SUMP_STATUS_SINGLE 0 →
      u = (t.putDesc fun d => { d with single := false }).mirrorAll →
      exec .mirrorCopybackDone s = .next (u.served.foldl (fun (s : State) c => s.epochSet c (Tab.getD c 0 s.pod.epochs + 1) 3) u).settle)) ∧
  (∀ (value : W32) (s u : State), u = s.writeWord offSumpCtl value →
    ((s.decodeOf .sump ≠ .all ∨ value.toNat / 2 % 2 = 0 ∨ value.toNat / 65536 ≠ 0x9648) →
      exec (.forceTakeover value) s = .next u.settle) ∧
    (s.decodeOf .sump = .all → value.toNat / 2 % 2 = 1 → value.toNat / 65536 = 0x9648 → s.auditFull = true →
      exec (.forceTakeover value) s = .next (u.setErr .cry 9).settle) ∧
    (s.decodeOf .sump = .all → value.toNat / 2 % 2 = 1 → value.toNat / 65536 = 0x9648 → s.auditFull = false →
      ((u.mayTakeOver && u.sump.peerStale) = false → exec (.forceTakeover value) s = .next (u.audited offSumpCtl value true).settle) ∧
      ((u.mayTakeOver && u.sump.peerStale) = true →
        exec (.forceTakeover value) s = .next ((u.takeOver.tenantEvent none (0, 3)).audited offSumpCtl value false).settle)) ∧
    ((s.decodeOf .sump ≠ .all ∨ value.toNat % 2 = 0 ∨ value.toNat / 65536 ≠ 0x9648 ∨
        (u.serving = true ∧ (u.sump.shutting = true ∨ u.sump.shutDown = true))) → exec (.shutdown value) s = .next u.settle) ∧
    (s.decodeOf .sump = .all → value.toNat % 2 = 1 → value.toNat / 65536 = 0x9648 →
      (u.serving = false → exec (.shutdown value) s = .next (u.wr Reg.SUMP_STATUS_SHUT_RESULT 3).settle) ∧
      (u.serving = true → u.sump.shutting = false → u.sump.shutDown = false → (∃ e ∈ u.sump.regions, e.2.st = 1) →
        exec (.shutdown value) s = .next (u.wr Reg.SUMP_STATUS_SHUT_RESULT 2).settle) ∧
      (u.serving = true → u.sump.shutting = false → u.sump.shutDown = false → (∀ e ∈ u.sump.regions, e.2.st ≠ 1) →
        exec (.shutdown value) s =
          .next (({ u with sump := { u.sump with shutting := true } } : State).composeAll.assignAll.padStripes).settle))) ∧
  (∀ s : State,
    (s.sump.shutting = false → exec .shutdownDone s = .next s.settle) ∧
    (s.sump.shutting = true → (s.ftl.versions ≠ [] ∨ s.ftl.asm ≠ [] ∨ s.ftl.fly ≠ []) →
      exec .shutdownDone s = .next s.composeAll.assignAll.padStripes.settle) ∧
    (s.sump.shutting = true → s.ftl.versions = [] → s.ftl.asm = [] → s.ftl.fly = [] →
      (s.ftl.flushing ≠ none → exec .shutdownDone s = .next s.settle) ∧
      (s.ftl.flushing = none → s.mapPending = true → exec .shutdownDone s = .next s.beginFlush.settle) ∧
      (s.ftl.flushing = none → s.mapPending = false → exec .shutdownDone s =
        .next (((({ s with sump := { s.sump with shutting := false, shutDown := true } } : State).putDesc fun d =>
          { d with st := dsClean, run := false }).wr Reg.SUMP_STATUS_SHUT_DONE 1).wr Reg.SUMP_STATUS_SHUT_RESULT 1).settle)))

/-- Remote regions.  Registering an index in use, here or at the peer, a length out of range or one without room is refused by its result; a registered region is
VALID with a fresh generation in its key, mirrored, shown and announced to its tenant; a read shows the descriptor, zeroes for an INVALID one; a revocation of a VALID region begins to drain, of another only
answers.  A write without decode or its trigger bit, or while SUMP is stopped or BUSY, is the word's alone.  A drained region ends; a drain that lasts too long fails its queue pairs; the zeroed memory returns to the sump. -/
def Obligations.RegionsAreRegisteredReadAndRevoked : Prop :=
  (∀ (value : W32) (s u : State), u = s.writeWord offRegionAcc value →
    ∀ e ∈ [(Instr.regionRegister value, 30), (.regionDescriptorRead value, 31), (.regionRevoke value, 29)],
      (u.decodeOf .sump ≠ .all ∨ u.begins .sump = false ∨ value.toNat / 2 ^ e.2 % 2 = 0 ∨ u.is Reg.SUMP_REGION_STATUS_BUSY = true) →
      exec e.1 s = .next u.settle) ∧
  (∀ (value : W32) (i : Nat) (s u : State), u = s.writeWord offRegionAcc value → u.decodeOf .sump = .all → u.begins .sump = true →
    u.is Reg.SUMP_REGION_STATUS_BUSY = false → i = value.toNat % 64 →
    (∀ n : Nat, value.toNat / 2 ^ 30 % 2 = 1 → n = u.rd Reg.SUMP_REGION_DATA1_LEN →
      (((u.regionOf i).st ≠ rgInvalid ∨ Tab.has i u.sump.peerRegions = true) →
        exec (.regionRegister value) s = .next (u.regionResult i rrInUse).settle) ∧
      ((u.regionOf i).st = rgInvalid → Tab.has i u.sump.peerRegions = false → (n = 0 ∨ 16384 < n) →
        exec (.regionRegister value) s = .next (u.regionResult i rrBadLen).settle) ∧
      ((u.regionOf i).st = rgInvalid → Tab.has i u.sump.peerRegions = false → n ≠ 0 → n ≤ 16384 → u.regionRoom n = none →
        exec (.regionRegister value) s = .next (u.regionResult i rrNoSpace).settle) ∧
      (∀ (off gen t key : Nat) (v w : State), (u.regionOf i).st = rgInvalid → Tab.has i u.sump.peerRegions = false → n ≠ 0 → n ≤ 16384 →
        u.regionRoom n = some off → gen = ((u.regionOf i).gen + 1) % 256 → t = u.rd Reg.SUMP_REGION_DATA0_TENANT →
        key = gen + 256 * i + 16384 * u.freeVal 18 →
        v = (((u.freeNext.updRegion i fun _ =>
          { st := rgValid, tenant := t, write := u.is Reg.SUMP_REGION_DATA0_REMOTE_WRITE
            read := u.is Reg.SUMP_REGION_DATA0_REMOTE_READ, len := n * 65536, rkey := key, off := off, gen := gen }).occupy
              (16 * n)).wr Reg.SUMP_REGION_DATA2_R_KEY key).wr Reg.SUMP_REGION_DATA3_OFFSET off →
        w = (if v.dual then v.toPartner (.mirror { regions := [v.regionRecord i 0 []] }) else v) →
        exec (.regionRegister value) s = .next (((w.grantTenant t).regionResult i rrOk).tenantEvent (some t) (7, 1)).settle)) ∧
    (∀ (r : Region) (v : State), value.toNat / 2 ^ 31 % 2 = 1 → r = (if (u.regionOf i).st = rgInvalid then {} else u.regionOf i) →
      v = ((u.wr Reg.SUMP_REGION_DATA0_TENANT r.tenant).wrB Reg.SUMP_REGION_DATA0_REMOTE_WRITE r.write).wrB
        Reg.SUMP_REGION_DATA0_REMOTE_READ r.read →
      exec (.regionDescriptorRead value) s = .next ((((v.wr Reg.SUMP_REGION_DATA1_LEN (r.len / 65536)).wr Reg.SUMP_REGION_DATA2_R_KEY
        r.rkey).wr Reg.SUMP_REGION_DATA3_OFFSET r.off).regionResult i rrOk).settle) ∧
    (value.toNat / 2 ^ 29 % 2 = 1 → (u.regionOf i).st ≠ rgValid → exec (.regionRevoke value) s = .next (u.regionResult i rrOk).settle) ∧
    (value.toNat / 2 ^ 29 % 2 = 1 → (u.regionOf i).st = rgValid → exec (.regionRevoke value) s =
      .next ((((u.updRegion i fun r => { r with st := rgRevoking, revokedAt := u.tm.mono }).wr Reg.SUMP_REGION_STATUS_BUSY 1).wr
        Reg.SUMP_REGION_STATUS_DRAIN_TIMEOUT 0).regionResult i rrOk).settle)) ∧
  (∀ (index : Fin 64) (s : State),
    ((s.regionOf index.val).st = rgRevoking → (s.regionOf index.val).draining = [] →
      exec (.regionDrainEnd index) s = .next (s.regionEnd index.val).settle) ∧
    (((s.regionOf index.val).st ≠ rgRevoking ∨ (s.regionOf index.val).draining ≠ []) → exec (.regionDrainEnd index) s = .next s.settle) ∧
    (((s.regionOf index.val).st ≠ rgRevoking ∨ (s.regionOf index.val).draining = []) →
      exec (.regionRevokeTimeout index) s = .next s.settle) ∧
    ((s.regionOf index.val).st = rgRevoking → (s.regionOf index.val).draining ≠ [] → exec (.regionRevokeTimeout index) s = .next
      (((((s.regionOf index.val).draining.foldl (fun (s : State) q => s.qpFail q)
        (s.atLeast ((s.regionOf index.val).revokedAt + s.rd Reg.SUMP_REGION_CFG_REVOKE_TIMEOUT * ms))).wr
          Reg.SUMP_REGION_STATUS_DRAIN_TIMEOUT 1).updRegion index.val fun r => { r with draining := [] }).settle))) ∧
  (∀ (index : Fin 64) (s : State),
    ((s.sump.zeroing.find? fun z => z.1 == index.val) = none → exec (.regionZeroed index) s = .next s.settle) ∧
    (∀ z : Nat × Nat × Nat, (s.sump.zeroing.find? fun z => z.1 == index.val) = some z → exec (.regionZeroed index) s =
      .next ((({ s with sump := { s.sump with zeroing := s.sump.zeroing.erase z } } : State).vacate (z.2.2 / 4096)).settle)))

/-! ### The manifold, reliable connections and PRD (chapters 8, 4 and 5) -/

/-- The manifold.  The end of the copy that a port is sending, of a complete frame over a link that is up, counts a corrected cell, flushes the queue on a bad descriptor, marks the frame on a bad cell, and the
port goes on; any other end does nothing.  Multicast copies past the age limit are counted, dropped and reported.  A port's link goes down; from PRIME, not in HALTED, and where the port is served, it comes up; its
hold ends once, both peer ports' ends leaving dual write mode.  A stalled port is counted and raised.  PFC pauses the priorities named and resumes them with 0, a pause expires, and is sent again while the held cells
stay at XON.  Bytes of a frame open it or extend it; one with a bad FCS, short or too long is dropped as bad. -/
def Obligations.ManifoldCopiesAgesHoldsAndPauses : Prop :=
  (∀ (frame port : Nat) (ecc : CopyEcc) (s : State),
    ((∀ f, Tab.find frame s.mfd.frames = some f → Tab.find port s.mfd.sending ≠ some frame ∨ f.complete = false ∨ s.portLinked port = false) →
      exec (.mfdCopyDone frame port ecc) s = .next s.settle) ∧
    (∀ (f : Frame) (u : State), Tab.find frame s.mfd.frames = some f → Tab.find port s.mfd.sending = some frame → f.complete = true →
      s.portLinked port = true → u = s.corrected .mfd Reg.MFD_CNT_ECC_CORRECTED ecc.corrected →
      (∀ k, ecc.desc = some k → exec (.mfdCopyDone frame port ecc) s = .next (u.descError frame port f k).resumeReads.settle) ∧
      (∀ k, ecc.desc = none → ecc.cell = some k →
        exec (.mfdCopyDone frame port ecc) s = .next ((u.cellError frame f k).finishCopy frame port).resumeReads.settle) ∧
      (ecc.desc = none → ecc.cell = none → exec (.mfdCopyDone frame port ecc) s = .next (u.finishCopy frame port).resumeReads.settle))) ∧
  (∀ (now : Nat) (f : State → Nat × Frame → State) (s u : State), u = s.atLeast now →
    (∀ (t : State) (e : Nat × Frame), t.aged e.2 = [] → f t e = t) →
    (∀ (t : State) (e : Nat × Frame), t.aged e.2 ≠ [] → f t e = (t.aged e.2).foldl (fun s p => (s.dropCopy e.1 p).reportCopy e.2 p)
      ((t.count Reg.MFD_CNT_MC_COPY_FAILED (t.aged e.2).length).count Reg.MFD_CNT_MC_CELLS_AGED ((t.aged e.2).length * e.2.cells))) →
    exec (.mfdAgeCheck now) s = .next (u.mfd.frames.foldl f u).resumeReads.settle) ∧
  (∀ (port : Nat) (s : State), exec (.portLinkDown port) s = .next (s.portDown port).settle ∧
    ((s.portServes port = false ∨ s.st < stPRIME ∨ s.st = stHALTED) → exec (.portLinkUp port) s = .next s.settle) ∧
    (s.portServes port = true → stPRIME ≤ s.st → s.st ≠ stHALTED →
      exec (.portLinkUp port) s = .next (((s.showEth port true).portBack port).startPort port).settle)) ∧
  (∀ (port : Nat) (s : State),
    ((Tab.find port s.mfd.down = none ∨ port ∈ s.mfd.expired) → exec (.portHoldExpiry port) s = .next s.settle) ∧
    (∀ (at_ : Nat) (t u v : State), Tab.find port s.mfd.down = some at_ → port ∉ s.mfd.expired →
      t = s.atLeast (at_ + s.rd Reg.MFD_HOLD * ms) →
      u = (({ t with mfd := { t.mfd with expired := port :: t.mfd.expired } } : State).discardPort port).resumeReads →
      v = (if port = 52 ∨ port = 53 then u.dropUnacked (port - 52) else u) →
      ((52 ∈ v.mfd.expired ∧ 53 ∈ v.mfd.expired) → exec (.portHoldExpiry port) s = .next v.leaveDual.settle) ∧
      ((52 ∉ v.mfd.expired ∨ 53 ∉ v.mfd.expired) → exec (.portHoldExpiry port) s = .next v.settle))) ∧
  (∀ (port : Nat) (s u : State), u = (s.count Reg.MFD_CNT_STALL_EVENTS).raise sevUncorrected .mfd Reg.MFD_HOLD_STALL.off port →
    ((linkedPort port = false ∨ (∀ e ∈ s.mfd.frames, port ∉ e.2.left) ∨ s.portUp port = false ∨ s.is Reg.MFD_HOLD_STALL = false) →
      exec (.portStall port) s = .next s.settle) ∧
    (linkedPort port = true → (∃ e ∈ s.mfd.frames, port ∈ e.2.left) → s.portUp port = true → s.is Reg.MFD_HOLD_STALL = true →
      exec (.portStall port) s = .next ({ u with mfd := { u.mfd with
        stalled := port :: u.mfd.stalled, down := Tab.put port u.tm.mono u.mfd.down } } : State).settle)) ∧
  (∀ (port : Fin 4) (sub : Fin 8) (quanta : List (Fin 8 × Nat)) (p : Nat) (f : Tab Nat → Fin 8 × Nat → Tab Nat) (s : State),
    p = 48 + port.val + 72 * sub.val →
    (∀ (t : Tab Nat) (e : Fin 8 × Nat), s.pfcOn port.val e.1.val = false → f t e = t) →
    (∀ (t : Tab Nat) (e : Fin 8 × Nat), s.pfcOn port.val e.1.val = true → e.2 = 0 → f t e = Tab.del (8 * p + e.1.val) t) →
    (∀ (t : Tab Nat) (e : Fin 8 × Nat), s.pfcOn port.val e.1.val = true → e.2 ≠ 0 →
      f t e = Tab.put (8 * p + e.1.val) (s.tm.mono + s.quantaNs port.val (e.2 % 65536)) t) →
    exec (.pfcFrameReceive port sub quanta) s =
      .next (({ s with mfd := { s.mfd with paused := quanta.foldl f s.mfd.paused } } : State).startPort p).settle) ∧
  (∀ (port : Fin 4) (sub prio : Fin 8) (k : Nat) (s : State), k = 8 * (48 + port.val + 72 * sub.val) + prio.val →
    (Tab.find k s.mfd.paused = none → exec (.pfcPauseExpiry port sub prio) s = .next s.settle) ∧
    (∀ (at_ : Nat) (u : State), Tab.find k s.mfd.paused = some at_ → u = s.atLeast at_ →
      exec (.pfcPauseExpiry port sub prio) s =
        .next (({ u with mfd := { u.mfd with paused := Tab.del k u.mfd.paused } } : State).startPort (ethPort port.val sub.val)).settle)) ∧
  (∀ (port : Fin 4) (prio : Fin 8) (s : State),
    (Tab.find (8 * port.val + prio.val) s.mfd.xoff = none → exec (.pfcRefresh port prio) s = .next s.settle) ∧
    (∀ (at_ : Nat) (u : State), Tab.find (8 * port.val + prio.val) s.mfd.xoff = some at_ →
      u = s.atLeast (at_ + s.rd Reg.MFD_PAUSE_REFRESH * us) →
      (u.rxHeld port.val prio.val < u.rd (Reg.MFD_PFC_THR_XON.at port.val) → exec (.pfcRefresh port prio) s = .next u.settle) ∧
      (u.rd (Reg.MFD_PFC_THR_XON.at port.val) ≤ u.rxHeld port.val prio.val →
        exec (.pfcRefresh port prio) s = .next (u.pauseSend port.val prio.val).settle))) ∧
  (∀ (port : Fin 4) (f : EthFrame) (s : State),
    ((s.st < stPRIME ∨ s.st = stHALTED ∨ s.portGbps port.val = 0 ∨ f.bytes = 0) → exec (.ethFrameReceive port f) s = .next s.settle) ∧
    (∀ (src keep id : Nat) (long wrong : Bool) (u : State), stPRIME ≤ s.st → s.st ≠ stHALTED → s.portGbps port.val ≠ 0 → f.bytes ≠ 0 →
      f.first = true → src = ethPort port.val f.sub.val → keep = min f.bytes (Config.ethMaxFrame port.val) →
      long = decide (keep < f.bytes) → wrong = (long || (f.last && (!f.fcsGood || decide (keep < 64)))) →
      id = (Tab.find src s.mfd.receiving).getD s.mfd.next →
      u = (if f.last ∧ f.fcsGood = false then (s.openFrame port.val src f keep (f.last || long)).count Reg.MFD_CNT_RX_FCS_BAD
        else s.openFrame port.val src f keep (f.last || long)) →
      exec (.ethFrameReceive port f) s = .next (if wrong then u.dropBad id else u).settle) ∧
    (f.first = false → Tab.has (ethPort port.val f.sub.val) s.mfd.receiving = false → exec (.ethFrameReceive port f) s = .next s.settle) ∧
    (∀ (src keep id : Nat) (g : Frame) (long wrong : Bool) (u : State), stPRIME ≤ s.st → s.st ≠ stHALTED → s.portGbps port.val ≠ 0 →
      f.bytes ≠ 0 → f.first = false → src = ethPort port.val f.sub.val → Tab.find src s.mfd.receiving = some id →
      Tab.find id s.mfd.frames = some g → keep = min f.bytes (Config.ethMaxFrame port.val - g.len) → long = decide (keep < f.bytes) →
      wrong = (long || (f.last && (!f.fcsGood || decide (g.len + keep < 64)))) →
      u = (if f.last ∧ f.fcsGood = false then (s.extendFrame port.val id g keep (f.last || long)).count Reg.MFD_CNT_RX_FCS_BAD
        else s.extendFrame port.val id g keep (f.last || long)) →
      exec (.ethFrameReceive port f) s = .next (if wrong then u.dropBad id else u).settle) ∧
    ∃ t : State, exec (.ethFrameReceive port f) s = .next t)

/-- Queue pairs.  A connection message before SERVE is dropped and counted, and not taken while WELL is stopped or the device closed.  A REQ is refused with its reason, or takes the lowest free index in INIT under
the next generation and is answered REP; RTU takes a queue pair from RTR to RTS; a rejection ends INIT, a timeout INIT or RTR; DREQ is answered and fails the queue pair; DREP ends the wait for it.  A flushed one sends
DREQ where the host has sent none and enters QUARANTINE, and its end has the deadline's effect.  The keep-alive's expiry ends its association.  An inspection shows a context's 64 words and whether one is in use. -/
def Obligations.QueuePairsAreConnectedAndRetired : Prop :=
  (∀ (port : Nat) (f : State → State) (s : State),
    (s.st < stSERVE → s.cmArrive port f = s.count (Reg.WELL_CNT_PRE_SERVE_DROP.at port)) ∧
    (stSERVE ≤ s.st → (s.accepting = false ∨ s.stopped .well = true) → s.cmArrive port f = s) ∧
    (stSERVE ≤ s.st → s.accepting = true → s.stopped .well = false → s.cmArrive port f = f (s.wake 2))) ∧
  (∀ (port : Fin 4) (qp : Fin 65536) (r : CmReq) (s : State),
    (s.st < stSERVE → exec (.cmReq r) s = .next (s.count (Reg.WELL_CNT_PRE_SERVE_DROP.at r.port.val)).settle ∧
      ∀ c ∈ [Instr.cmRtu port qp, .cmRej port qp, .cmDreq port qp, .cmDrep port qp],
        exec c s = .next (s.count (Reg.WELL_CNT_PRE_SERVE_DROP.at port.val)).settle) ∧
    (stSERVE ≤ s.st → (s.accepting = false ∨ s.stopped .well = true) →
      ∀ c ∈ [Instr.cmReq r, .cmRtu port qp, .cmRej port qp, .cmDreq port qp, .cmDrep port qp], exec c s = .next s.settle)) ∧
  (∀ (r : CmReq) (port : Nat) (s u : State), stSERVE ≤ s.st → s.accepting = true → s.stopped .well = false → u = s.wake 2 →
    port = ethPort r.port.val r.subPort.toNat →
    (∀ reason, u.cmRefusal r = some reason → exec (.cmReq r) s = .next (u.sendCm 0 u.leastPump port r.hostQpn.toNat (.rej reason)).settle) ∧
    (u.cmRefusal r = none → Tab.lowestFree u.rc.qps 0 u.params.rcQpMax = none →
      exec (.cmReq r) s = .next (u.sendCm 0 u.leastPump port r.hostQpn.toNat (.rej 6)).settle) ∧
    (∀ (qi gen : Nat) (q : Qp) (v w : State), u.cmRefusal r = none → Tab.lowestFree u.rc.qps 0 u.params.rcQpMax = some qi →
      gen = (if Tab.getD qi 0 u.rc.gens = 255 then 1 else Tab.getD qi 0 u.rc.gens + 1) →
      q = { gen := gen, st := qpInit, pmtu := r.pmtu, pump := u.leastPump, port := r.port.val, subPort := r.subPort.toNat, qid := r.qid
            destQpn := r.hostQpn.toNat, remoteIp := r.remoteIp, localIp := r.localIp, mac := r.mac, vlan := r.vlan, sport := r.sport
            tclass := r.tclass, hopLimit := r.hopLimit, epsn := r.startPsn.toNat, nextPsn := u.freeVal 24, unaPsn := u.freeVal 24
            ord := r.hostReads, sqSize := r.hsqSize } →
      v = ({ u with rc := { u.rc with qps := Tab.put qi q u.rc.qps, gens := Tab.put qi gen u.rc.gens } } : State) →
      w = v.freeNext.showQps →
      exec (.cmReq r) s =
        .next (w.sendCm qi q.pump port q.destQpn (.rep (gen * 65536 + qi) (u.freeVal 24) v.irdOf (v.ordOf q))).settle)) ∧
  (∀ (port : Fin 4) (qp : Fin 65536) (s u : State), stSERVE ≤ s.st → s.accepting = true → s.stopped .well = false → u = s.wake 2 →
    ((u.qpOf qp.val).st = qpRtr → exec (.cmRtu port qp) s = .next (u.toRts qp.val).settle) ∧
    ((u.qpOf qp.val).st ≠ qpRtr → exec (.cmRtu port qp) s = .next u.settle) ∧
    ((u.qpOf qp.val).st = qpInit → exec (.cmRej port qp) s = .next (u.freeQp qp.val).settle) ∧
    ((u.qpOf qp.val).st ≠ qpInit → exec (.cmRej port qp) s = .next u.settle) ∧
    ((u.qpOf qp.val).st = qpFree → exec (.cmDreq port qp) s = .next u.settle ∧ exec (.cmDrep port qp) s = .next u.settle) ∧
    ((u.qpOf qp.val).st ≠ qpFree →
      exec (.cmDreq port qp) s = .next (((u.sendCmQp qp.val (.drep (u.qpOf qp.val).destQpn)).updQp qp.val
        fun q => { q with dreqSeen := true }).qpFail qp.val).settle ∧
      exec (.cmDrep port qp) s = .next (u.updQp qp.val fun q => { q with dreqSent := false }).settle)) ∧
  (∀ (qp : Fin 65536) (s : State),
    (((s.qpOf qp.val).st = qpInit ∨ (s.qpOf qp.val).st = qpRtr) → exec (.cmTimeout qp) s = .next (s.freeQp qp.val).settle) ∧
    ((s.qpOf qp.val).st ≠ qpInit → (s.qpOf qp.val).st ≠ qpRtr → exec (.cmTimeout qp) s = .next s.settle) ∧
    ((s.qpOf qp.val).st ≠ qpErr → exec (.qpFlushDone qp) s = .next s.settle) ∧
    (∀ (until_ : Nat) (u : State), (s.qpOf qp.val).st = qpErr →
      u = (if (s.qpOf qp.val).dreqSeen then s else s.sendCmQp qp.val (.dreq (s.qpOf qp.val).destQpn)) →
      until_ = u.tm.mono + u.rd Reg.WELL_RC_CTL_QUARANTINE * (10 * ms) →
      exec (.qpFlushDone qp) s = .next (u.updQp qp.val fun q =>
        { q with st := qpQuarantine, quarUntil := until_, dreqSent := !q.dreqSeen }).heldConnects.settle) ∧
    ((s.qpOf qp.val).st ≠ qpQuarantine → exec (.qpQuarantineEnd qp) s = .next s.settle) ∧
    (∀ u : State, (s.qpOf qp.val).st = qpQuarantine → u = s.atLeast (s.qpOf qp.val).quarUntil →
      (u.ctxCached qp.val = true → exec (.qpQuarantineEnd qp) s = .next (u.dueNow qp.val .quarantine).settle) ∧
      (u.ctxCached qp.val = false → exec (.qpQuarantineEnd qp) s = .next (u.await qp.val .quarantine).settle))) ∧
  (∀ (assoc : Nat) (k : Ctlr) (s : State), k = s.ctlrOf assoc →
    ((k.connected = false ∨ k.kato = 0 ∨ assoc < 64) → exec (.keepAliveExpiry assoc) s = .next s.settle) ∧
    (k.connected = true → k.kato ≠ 0 → 64 ≤ assoc →
      exec (.keepAliveExpiry assoc) s = .next ((s.atLeast (k.kaAt + k.kato)).endAssoc assoc).settle)) ∧
  (∀ (value : W32) (s u : State), u = s.writeWord offQpInspect value →
    ((u.decodeOf .well ≠ .all ∨ value.toNat < 2 ^ 31) → exec (.qpInspect value) s = .next u.settle) ∧
    (∀ (qi : Nat) (q : Qp) (b : List Byte), u.decodeOf .well = .all → 2 ^ 31 ≤ value.toNat → qi = value.toNat % 65536 → q = u.qpOf qi →
      b = (if q.st = qpFree then [] else u.ctxBytes qi q) →
      exec (.qpInspect value) s = .next (((List.range 64).foldl (fun (t : State) k => t.wr (Reg.WELL_QP_VIEW.at k) (leAt b (4 * k) 4)) u).wrB
        Reg.WELL_QP_INSPECT_STATUS_VALID (q.st != qpFree)).settle))

/-- Packets of a queue pair.  Each row takes the packets of its opcodes; before SERVE they are dropped and counted, and not taken while WELL is stopped or the device closed; then they meet the checks of their context.
The end of a context's fetch that was under way counts a corrected error, fails the queue pair on an uncorrectable one, and processes what was parked and due; another end does nothing.  A coalesced acknowledgement goes
out at its delay, and the acknowledgement and RNR timers have the deadline's effect where they run: at once with the context cached, else once it is fetched. -/
def Obligations.PacketsAreCheckedAckedAndRetried : Prop :=
  (∀ (p : RcPkt) (s : State),
    (∀ b e, p.body = .send b e → exec (.rcSendReceive p) s = .next (s.rcArrive p).settle) ∧
    (∀ n, p.body = .other n → exec (.rcSendReceive p) s = .next (s.rcArrive p).settle) ∧
    (∀ a b c d e, p.body = .write a b c d e → exec (.rcRegionWriteReceive p) s = .next (s.rcArrive p).settle) ∧
    (∀ a b c d, p.body = .readReq a b c d → exec (.rcRegionReadRequest p) s = .next (s.rcArrive p).settle) ∧
    (∀ a b, p.body = .response a b → exec (.rcReadResponseReceive p) s = .next (s.rcArrive p).settle) ∧
    (p.body = .ack → exec (.rcAckReceive p) s = .next (s.rcArrive p).settle) ∧
    (∀ a b, p.body = .nak a b → exec (.rcNakReceive p) s = .next (s.rcArrive p).settle) ∧
    (p.body = .cnp → exec (.cnpReceive p) s = .next (s.rcArrive p).settle)) ∧
  (∀ (p : RcPkt) (s : State),
    ((∀ b e, p.body ≠ .send b e) → (∀ n, p.body ≠ .other n) → exec (.rcSendReceive p) s = .next s.settle) ∧
    ((∀ a b c d e, p.body ≠ .write a b c d e) → exec (.rcRegionWriteReceive p) s = .next s.settle) ∧
    ((∀ a b c d, p.body ≠ .readReq a b c d) → exec (.rcRegionReadRequest p) s = .next s.settle) ∧
    ((∀ a b, p.body ≠ .response a b) → exec (.rcReadResponseReceive p) s = .next s.settle) ∧
    (p.body ≠ .ack → exec (.rcAckReceive p) s = .next s.settle) ∧
    ((∀ a b, p.body ≠ .nak a b) → exec (.rcNakReceive p) s = .next s.settle) ∧
    (p.body ≠ .cnp → exec (.cnpReceive p) s = .next s.settle)) ∧
  (∀ (p : RcPkt) (s u : State), u = s.wake 2 →
    (s.st < stSERVE → s.rcArrive p = s.count (Reg.WELL_CNT_PRE_SERVE_DROP.at p.port.val)) ∧
    (stSERVE ≤ s.st → (s.accepting = false ∨ s.stopped .well = true) → s.rcArrive p = s) ∧
    (stSERVE ≤ s.st → s.accepting = true → s.stopped .well = false → s.rcArrive p = u.rcContext p)) ∧
  (∀ (qp : Fin 65536) (ecc : SpEcc) (s : State),
    (qp.val ∉ s.rc.fetching → exec (.contextFetchDone qp ecc) s = .next s.settle) ∧
    (∀ (parked : List (Nat × RcPkt)) (due : List Due) (t u v w : State), qp.val ∈ s.rc.fetching →
      parked = (List.range 4).flatMap (fun n => (Tab.getD n [] s.rc.missq).filter fun e => e.2.qpn.toNat % 65536 == qp.val) → due = (s.qpOf qp.val).due →
      t = ((List.range 4).foldl (fun (s : State) n => s.showMissq n) ({ s with rc := { s.rc with
        fetching := s.rc.fetching.filter (· != qp.val)
        missq := s.rc.missq.map fun (e : Nat × List (Nat × RcPkt)) => (e.1, e.2.filter fun p => !(p.2.qpn.toNat % 65536 == qp.val))
        cache := Tab.put qp.val ⟨s.rc.uses, false⟩ s.rc.cache, uses := s.rc.uses + 1 } } : State)).showCache →
      u = parked.foldl (fun (s : State) e => s.freeCells (holdParked e.1)) t →
      v = (if due = [] then u else u.updQp qp.val fun q => { q with due := [] }).corrected .mem Reg.MEM_CNT_ECC_CORRECTED ecc.corrected →
      w = (if ecc.bad then ((v.count Reg.MEM_CNT_ECC_UNCORRECTED).raise sevUncorrected .mem Reg.MEM_CNT_ECC_UNCORRECTED.off
        noInstance).qpFail qp.val else v) →
      exec (.contextFetchDone qp ecc) s = .next ((due.foldl (fun (s : State) d => s.dueNow qp.val d)
        (parked.foldl (fun (s : State) e => s.rcContext e.2) w)).rcPump qp.val).settle)) ∧
  (∀ (qp : Fin 65536) (q : Qp) (s : State), q = s.qpOf qp.val →
    ((q.unacked = 0 ∨ (q.st ≠ qpRtr ∧ q.st ≠ qpRts)) → exec (.ackCoalesceTimeout qp) s = .next s.settle) ∧
    (q.unacked ≠ 0 → (q.st = qpRtr ∨ q.st = qpRts) → exec (.ackCoalesceTimeout qp) s =
      .next ((s.atLeast (q.unackedSince + s.rd Reg.WELL_RC_TIMERS_ACK_DELAY * 100)).ackNow qp.val).settle) ∧
    ((q.st ≠ qpRts ∨ q.rnrWait = true ∨ (q.sent = [] ∧ q.reads = [])) → exec (.ackTimeout qp) s = .next s.settle) ∧
    (∀ u : State, q.st = qpRts → q.rnrWait = false → (q.sent ≠ [] ∨ q.reads ≠ []) → u = s.atLeast (q.lastAck + 4096 * 2 ^ q.timeout) →
      (u.ctxCached qp.val = true → exec (.ackTimeout qp) s = .next (u.dueNow qp.val .ackTimeout).settle) ∧
      (u.ctxCached qp.val = false → exec (.ackTimeout qp) s = .next (u.await qp.val .ackTimeout).settle)) ∧
    ((q.st ≠ qpRts ∨ q.rnrWait = false) → exec (.rnrWaitEnd qp) s = .next s.settle) ∧
    (∀ u : State, q.st = qpRts → q.rnrWait = true → u = s.atLeast q.rnrUntil →
      (u.ctxCached qp.val = true → exec (.rnrWaitEnd qp) s = .next (u.dueNow qp.val .rnrEnd).settle) ∧
      (u.ctxCached qp.val = false → exec (.rnrWaitEnd qp) s = .next (u.await qp.val .rnrEnd).settle)))

/-- PRD.  A packet is not taken while PRD is off; before SERVE it is dropped and counted; then its format, its host and its tag are checked and counted.  A command that passes is refused while the time is lost, forwarded to
another owner, answered again from the table, refused by it, or recorded where a repetition would have an effect, and run.  Data for no command that asks for data is late; a probe is answered with the time and the alarm.
A pull that times out is repeated, with its retries spent it is abandoned; a recorded command held past its lifetime is refused STALE; an entry's end reclaims, a raised lifetime and a step's hold end; the host table is read and written, and its
access ends. -/
def Obligations.PrdCommandsAreJudgedByTheTable : Prop :=
  (∀ (p : PrdPkt) (type : Nat) (e : List Nat) (f : State → List Byte → State) (s u v : State), u = s.wake 2 →
    v = (if (prdHdr p).enc then u.useGcm (entKey e) else u) →
    (s.params.prdEnable = false → s.prdArrive p type e f = s) ∧
    (s.params.prdEnable = true → s.st < stSERVE → s.prdArrive p type e f = s.count (Reg.WELL_CNT_PRE_SERVE_DROP.at p.port.val)) ∧
    (s.params.prdEnable = true → stSERVE ≤ s.st → (s.accepting = false ∨ s.stopped .well = true) → s.prdArrive p type e f = s) ∧
    (s.params.prdEnable = true → stSERVE ≤ s.st → s.accepting = true → s.stopped .well = false →
      (u.prdFormat p = false → s.prdArrive p type e f = u.count Reg.WELL_CNT_PRD_FORMAT_DROP) ∧
      (u.prdFormat p = true → prdFrom p e = false → s.prdArrive p type e f = u.count Reg.WELL_CNT_UNKNOWN_HOST_DROP) ∧
      (u.prdFormat p = true → prdFrom p e = true → v.prdOpen p e = none → s.prdArrive p type e f = v.count Reg.WELL_CNT_AUTH_FAIL) ∧
      (∀ d, u.prdFormat p = true → prdFrom p e = true → v.prdOpen p e = some d →
        s.prdArrive p type e f = if (prdHdr p).type = type then f v d else v))) ∧
  (∀ (p : PrdPkt) (h : PrdHdr) (f : State → List Byte → State) (s : State), h = prdHdr p →
    (∀ (u v : State) (d : List Byte) (q : Sqe) (c : Cmd), q = sqeOf d → c = u.prdCommand p q → v = u.count Reg.WELL_CNT_CMD_RECEIVED →
      (v.prdSuspend ≠ 0 → f u d = v.prdRefuse c prdTimeLost) ∧
      (∀ (m : Nat) (w : State), v.prdSuspend = 0 → v.foreignOwner h.admin q = some m →
        w = (v.prdController h.host).count Reg.WELL_CNT_FORWARDED → f u d = (w.numberCmd c).forwardCmd w.host.next c m) ∧
      (v.prdSuspend = 0 → v.foreignOwner h.admin q = none →
        (∀ st, v.prdDecide h.host h.gen h.tid h.issue (!nonIdempotent c) (sqeCrc q) = .refuse st → f u d = v.prdRefuse c st) ∧
        (∀ r, v.prdDecide h.host h.gen h.tid h.issue (!nonIdempotent c) (sqeCrc q) = .dup r →
          f u d = (v.count Reg.WELL_CNT_DUP_HIT).sendCpl c r.prd true r.status r.dw0) ∧
        (v.prdDecide h.host h.gen h.tid h.issue (!nonIdempotent c) (sqeCrc q) = .run →
          (nonIdempotent c = true → f u d = (v.recordStart h.host h.gen h.tid (sqeCrc q)).prdRun c h.host) ∧
          (nonIdempotent c = false → f u d = v.prdRun c h.host)))) →
    exec (.prdCmdReceive p) s = .next (s.prdArrive p prdCmd (s.prdEntry h.host) f).settle) ∧
  (∀ (p : PrdPkt) (h : PrdHdr) (f : State → List Byte → State) (s : State), h = prdHdr p →
    (s.receiver h = none → (∀ (u : State) (d : List Byte), f u d = u.count Reg.WELL_CNT_LATE_DATA) →
      exec (.prdWdataReceive p) s = .next (s.prdArrive p prdWdata (s.prdEntry h.host) f).settle) ∧
    (∀ (id : Nat) (c : Cmd), s.receiver h = some (id, c) →
      (∀ (u v : State) (d : List Byte), v = (if p.ce then u.updCmd id fun c => { c with prd := { c.prd with ece := true } } else u) →
        (v.inLen c < h.off + d.length → f u d = v.count Reg.WELL_CNT_LATE_DATA) ∧
        (h.off + d.length ≤ v.inLen c → f u d = ((v.dataIn id h.off d).endPulls id (c.prd.asked.filter fun r =>
          (missingParts (placeBytes c.buf h.off d).1 r.off r.len 0x1000).isEmpty)).dataReady id)) →
      exec (.prdWdataReceive p) s = .next (s.prdArrive p prdWdata c.prd.entry f).settle)) ∧
  (∀ (p : PrdPkt) (h : PrdHdr) (f : State → List Byte → State) (s : State), h = prdHdr p →
    (∀ (u : State) (d : List Byte) (alarm : Nat) (c : Cmd), alarm = (if u.is Reg.TIME_STATUS_COORD then 0 else 1) →
      c = u.prdCommand p { opcode := 0 } →
      f u d = u.sendPrd c prdProbeReply 0 false 0 0 c.prdPort (beBytes 8 u.tm.shelf ++ beBytes 1 alarm ++ zeros 7)) →
    exec (.prdProbe p) s = .next (s.prdArrive p prdProbe (s.prdEntry h.host) f).settle) ∧
  (∀ (id : Nat) (s : State), (s.cmdOf id = none → exec (.pullTimeout id) s = .next s.settle) ∧
    ∀ c : Cmd, s.cmdOf id = some c →
      (c.prd.asked = [] → exec (.pullTimeout id) s = .next s.settle) ∧
      (∀ (a : Pull) (rest due : List Pull) (life : Nat) (u : State), c.prd.asked = a :: rest → life = s.rd Reg.WELL_PRD_PULL_TIMEOUT * us →
        u = s.atLeast (rest.foldl (fun m r => min m r.at_) a.at_ + life) →
        due = c.prd.asked.filter (fun r => decide (r.at_ + life ≤ u.tm.mono)) →
        ((∀ r ∈ due, r.again < u.rd Reg.WELL_PRD_PULL_RETRIES) →
          exec (.pullTimeout id) s = .next (due.foldl (fun (s : State) r => s.pullAgain id c r) u).settle) ∧
        ((∃ r ∈ due, u.rd Reg.WELL_PRD_PULL_RETRIES ≤ r.again) →
          (c.stage ≠ .remote → exec (.pullTimeout id) s = .next (u.abandonCmd id c).settle) ∧
          (∀ v : State, c.stage = .remote →
            v = (u.updCmd id fun c => { c with prd := { c.prd with asked := [], queued := [] } }).freePulls id c.prd.asked →
            exec (.pullTimeout id) s = .next (v.toPeer (v.nsOr c.sqe.nsid).owner (.forward (.abandon id))).settle)))) ∧
  (∀ (id : Nat) (s : State), (s.cmdOf id = none → exec (.prdAdmitDeadline id) s = .next s.settle) ∧
    ∀ c : Cmd, s.cmdOf id = some c →
      ((c.key = none ∨ c.stage ≠ .held ∨ nonIdempotent c = false) → exec (.prdAdmitDeadline id) s = .next s.settle) ∧
      (c.key ≠ none → c.stage = .held → nonIdempotent c = true → exec (.prdAdmitDeadline id) s =
        .next ((s.atShelf (c.prd.issue + s.judgedLife)).refuseLate id c).settle)) ∧
  (∀ (host : BitVec 14) (gen : BitVec 16) (tid : BitVec 64) (s : State),
    (s.recentOf host.toNat gen.toNat tid.toNat = none → exec (.prdEntryExpiry host gen tid) s = .next s.settle) ∧
    (∀ e, s.recentOf host.toNat gen.toNat tid.toNat = some e →
      exec (.prdEntryExpiry host gen tid) s = .next (s.atLeast (e.expiry * us)).reclaim.showTable.settle)) ∧
  (∀ s : State,
    (s.prd.oldLife = none → exec .tLifeRaiseSettled s = .next s.settle) ∧
    (∀ (o : Nat × Nat) (u : State), s.prd.oldLife = some o → u = s.atLeast o.2 →
      exec .tLifeRaiseSettled s = .next ({ u with prd := { u.prd with oldLife := none } } : State).settle) ∧
    (s.prd.stepHold = none → exec .prdStepHoldEnd s = .next s.settle) ∧
    (∀ (at_ : Nat) (u : State), s.prd.stepHold = some at_ → u = s.atLeast at_ →
      exec .prdStepHoldEnd s = .next ({ u with prd := { u.prd with stepHold := none } } : State).showPrd.settle)) ∧
  (∀ (value : W32) (bit : Nat) (write : Bool) (s u : State), u = s.writeWord offPrdHostAcc value →
    exec (.prdHostWrite value) s = .next (s.hostAccess value 30 true).settle ∧
    exec (.prdHostRead value) s = .next (s.hostAccess value 31 false).settle ∧
    ((u.decodeOf .well ≠ .all ∨ u.begins .well = false ∨ value.toNat / 2 ^ bit % 2 = 0 ∨ u.is Reg.WELL_PRD_HOST_STATUS_BUSY = true) →
      s.hostAccess value bit write = u) ∧
    (u.decodeOf .well = .all → u.begins .well = true → value.toNat / 2 ^ bit % 2 = 1 → u.is Reg.WELL_PRD_HOST_STATUS_BUSY = false →
      s.hostAccess value bit write = ({ u with prd := { u.prd with access := some (value.toNat % 16384,
        if write then some ((List.range 8).map fun k => u.rd (Reg.WELL_PRD_HOST_DATA.at k)) else none) } } : State).wr
          Reg.WELL_PRD_HOST_STATUS_BUSY 1)) ∧
  (∀ s : State, (s.prd.access = none → exec .prdHostAccessDone s = .next s.settle) ∧
    (∀ (h : Nat) (u : State), u = ({ s with prd := { s.prd with access := none } } : State).wr Reg.WELL_PRD_HOST_STATUS_BUSY 0 →
      (∀ d, s.prd.access = some (h, some d) → exec .prdHostAccessDone s =
        .next ({ u with prd := { u.prd with hosts := Tab.put h (u.newEntry h d) u.prd.hosts } } : State).showHosts.settle) ∧
      (s.prd.access = some (h, none) → exec .prdHostAccessDone s =
        .next ((List.range 8).foldl (fun (t : State) k => t.wr (Reg.WELL_PRD_HOST_DATA.at k) (u.prdWord h k)) u).settle)))

/-! ### The pod (chapter 17) -/

/-- Peer links and membership.  An enabled link whose domain has not failed trains from PRIME to ISOLATED where its lanes and neighbour are right; it goes into RECOVERY, comes back on the lanes that work, or is lost.  A
frame's corrections are counted; a bad one is counted and starts the discarding, an ACK frame is only heard, one in order is taken, another is answered unless discarding.  HELLO goes out each heartbeat, is relayed, and a
mismatch refused.  A refusal isolates a joining member, which takes the live set; a member's own is adopted at a reconnection.  A silent or leaving member fails; a fence delay ends in the fence; a fenced failover enters single mode and,
unless the mirror was STALE, takes over. -/
def Obligations.MembersLinkHearJoinAndFail : Prop :=
  (∀ (link : Fin 2) (tr : PeerTrained) (s : State),
    ((s.plEnabled link.val = false ∨ s.domainFailed (140 + link.val) = true ∨ s.st < stPRIME ∨ stISOLATED < s.st ∨
      s.stopped (plBlock link.val) = true ∨ lkActive ≤ s.plk link.val ∨ s.lanesGood link.val tr.lanes = false ∨
      s.paramGood link.val tr = false) → exec (.peerLinkTrained link tr) s = .next s.settle) ∧
    (∀ (k : Nat) (t u v w : State), k = link.val → s.plEnabled k = true → s.domainFailed (140 + k) = false → stPRIME ≤ s.st →
      s.st ≤ stISOLATED → s.stopped (plBlock k) = false → s.plk k < lkActive → s.lanesGood k tr.lanes = true → s.paramGood k tr = true →
      t = (s.wr (Reg.PL_LINK_POL_INV.at k) tr.polInv).wrB (Reg.PL_LINK_REVERSED.at k) tr.reversed →
      u = (t.wrB (Reg.PL_LINK_DEGRADED.at k) false).showLanes k tr.lanes →
      v = (u.wr (Reg.PL_LINK_NEIGHBOUR.at k) tr.member.val).wr (Reg.PL_LINK_NEIGHBOUR_VALID.at k) 1 →
      w = v.updPl k (fun l => { credit := tr.credit, txSeq := l.unacked.length
                                unacked := l.unacked.zipIdx.map fun e => { e.1 with seq := e.2 + 1 } }) →
      exec (.peerLinkTrained link tr) s = .next (w.plRuns k).settle)) ∧
  (∀ (link : Fin 2) (lanes : Nat) (s : State),
    (s.plk link.val ≠ lkActive → exec (.peerLinkRecoveryEntry link) s = .next s.settle) ∧
    (s.plk link.val = lkActive → exec (.peerLinkRecoveryEntry link) s = .next (s.plRecover link.val).settle) ∧
    ((s.plk link.val ≠ lkRecovery ∨ s.lanesGood link.val lanes = false) → exec (.peerLinkRecoveryDone link lanes) s = .next s.settle) ∧
    (s.plk link.val = lkRecovery → s.lanesGood link.val lanes = true →
      exec (.peerLinkRecoveryDone link lanes) s = .next ((s.showLanes link.val lanes).plRuns link.val).settle) ∧
    (s.plk link.val ≠ lkRecovery → exec (.peerLinkLost link) s = .next s.settle) ∧
    (∀ (k : Nat) (u v : State), k = link.val → s.plk k = lkRecovery →
      u = s.atLeast ((Tab.getD k {} s.pod.links).recoveryAt + s.rd (Reg.PL_LINK_CFG_RETRAIN_LIMIT.at k) * ms) →
      v = ((u.wr (Reg.PL_LINK_STATE.at k) lkDown).wr (Reg.PL_LINK_WIDTH.at k) 0).wr (Reg.PL_LINK_NEIGHBOUR_VALID.at k) 0 →
      exec (.peerLinkLost link) s = .next ((((v.count (Reg.PL_CNT_LINK_LOSSES.at k)).raise sevUncorrected (plBlock k)
        (Reg.PL_LINK_STATE.at k).off 0).dropHops k).portDown (52 + k)).settle)) ∧
  (∀ (link : Fin 2) (f : PodFrame) (s : State),
    (s.plk link.val ≠ lkActive → exec (.brontantoFrameReceive link f) s = .next s.settle) ∧
    (∀ (k : Nat) (t u : State), k = link.val → s.plk k = lkActive →
      t = s.corrected (plBlock k) (Reg.PL_CNT_FEC_CORRECTED.at k) f.fecCorrected k → u = (t.takeAck k f).startPort (52 + k) →
      (f.crcGood = false → exec (.brontantoFrameReceive link f) s =
        .next (((t.count (Reg.PL_CNT_CRC_ERR.at k)).updPl k fun l => { l with discarding := true }).sendAck k 0).settle) ∧
      (f.crcGood = true → f.type = 6 → exec (.brontantoFrameReceive link f) s = .next (u.heardFrom f.src.val).settle) ∧
      (f.crcGood = true → f.type ≠ 6 → f.seq.toNat = ((u.linkPl k).rxSeq + 1) % 2 ^ 32 →
        exec (.brontantoFrameReceive link f) s = .next (u.takeFrame k f).settle) ∧
      (f.crcGood = true → f.type ≠ 6 → f.seq.toNat ≠ ((u.linkPl k).rxSeq + 1) % 2 ^ 32 →
        exec (.brontantoFrameReceive link f) s = .next (if (u.linkPl k).discarding then u else u.sendAck k 0).settle))) ∧
  (∀ s : State,
    ((s.params.podSection = false ∨ s.st < stPOD ∨ stISOLATED < s.st ∨ s.begins .pod = false) → exec .helloSend s = .next s.settle) ∧
    (∀ t u : State, s.params.podSection = true → stPOD ≤ s.st → s.st ≤ stISOLATED → s.begins .pod = true →
      t = s.atLeast (s.pod.helloAt + s.rd Reg.POD_CFG_HEARTBEAT * (10 * us)) → u = { t with pod := { t.pod with helloAt := t.tm.mono } } →
      exec .helloSend s = .next (((List.range 2).filter fun k => u.plk k == lkActive).foldl (fun (s : State) k =>
        s.toLink (52 + k) (s.rd (Reg.PL_LINK_NEIGHBOUR.at k)) (.hello s.hello)) u).settle)) ∧
  (∀ (link : Fin 2) (hops : Fin 8) (h : Hello) (s : State),
    ((s.plk link.val ≠ lkActive ∨ s.st < stPOD ∨ stISOLATED < s.st ∨ s.stopped .pod = true ∨ h.member.val = s.selfIndex) →
      exec (.hello link hops h) s = .next s.settle) ∧
    (∀ (k m : Nat) (t u v : State), k = link.val → m = h.member.val → s.plk k = lkActive → stPOD ≤ s.st → s.st ≤ stISOLATED →
      s.stopped .pod = false → m ≠ s.selfIndex →
      t = (if s.plk (1 - k) = lkActive ∧ hops.val < 7 then
        s.relay k { type := 5, src := m, dest := 0xFF, hops := 7 - hops.val, body := .msg (.hello h) } else s) →
      u = t.heardFrom m →
      v = { u with pod := { u.pod with heard := Tab.upd m {} (fun e =>
        if k = 0 then { e with hello := some h, hopsA := hops.val } else { e with hello := some h, hopsB := hops.val }) u.pod.heard } } →
      (∀ c, t.helloMismatch h = some c → exec (.hello link hops h) s = .next (t.refuseMember h c).settle) ∧
      (t.helloMismatch h = none → exec (.hello link hops h) s =
        .next (if v.podTalks then (v.showHops m).takeHello h else v.showHops m).settle))) ∧
  (∀ (src : Fin 8) (cause epoch : Nat) (values : List (Nat × W32)) (s u : State), u = s.heardFrom src.val →
    (s.podTalks = false → s.st ≠ stPOD → exec (.joinRefuse src cause) s = .next s.settle) ∧
    (s.podTalks = true → u.st ≠ stPOD → exec (.joinRefuse src cause) s = .next u.settle) ∧
    (s.podTalks = true → u.st = stPOD →
      exec (.joinRefuse src cause) s = .next ((u.count Reg.POD_CNT_JOIN_REFUSED).enterState stISOLATED cause).settle) ∧
    (s.serving = false → exec (.liveSetReq src) s = .next s.settle) ∧
    (∀ v : State, s.serving = true → v = u.toPeer src.val (.liveSet s.liveEpoch s.liveSet) →
      (v.partner ≠ some src.val → exec (.liveSetReq src) s = .next v.settle) ∧
      (v.partner = some src.val → exec (.liveSetReq src) s = .next (v.giveKeys src.val).settle)) ∧
    (s.podTalks = false → exec (.liveSet src epoch values) s = .next s.settle) ∧
    (∀ v : State, s.podTalks = true → v = u.adoptLive epoch values →
      (u.st = stPOD → exec (.liveSet src epoch values) s =
        .next ({ v with pod := { v.pod with liveDone := true, pairKey := v.pod.pairKey || v.partnerServes } } : State).settle) ∧
      (u.st ≠ stPOD → u.serving = true → u.liveEpoch ≤ epoch → exec (.liveSet src epoch values) s =
        .next ((v.count Reg.POD_CNT_LIVE_RESYNC).raise sevInfo .pod Reg.POD_LIVE_EPOCH_LO.off src.val).settle) ∧
      (u.st ≠ stPOD → (u.serving = false ∨ epoch < u.liveEpoch) → exec (.liveSet src epoch values) s = .next u.settle))) ∧
  (∀ (m : Fin 8) (s : State), exec (.leaving m) s = .next (s.memberFailed m.val).settle ∧
    ((s.rd Reg.POD_STATUS_REACHABLE / 2 ^ m.val % 2 = 0 ∨ m.val = s.selfIndex) → exec (.memberDeadTime m) s = .next s.settle) ∧
    (s.rd Reg.POD_STATUS_REACHABLE / 2 ^ m.val % 2 = 1 → m.val ≠ s.selfIndex → exec (.memberDeadTime m) s =
      .next ((s.atLeast ((Tab.getD m.val {} s.pod.heard).at_ + s.rd Reg.POD_CFG_DEAD_TIME * ms)).memberFailed m.val).settle)) ∧
  (∀ s : State,
    (s.pod.fenceAt = none → exec .fenceDelayExpiry s = .next s.settle) ∧
    (∀ at_, s.pod.fenceAt = some at_ → exec .fenceDelayExpiry s = .next (s.atLeast at_).beginFence.settle) ∧
    (s.mayTakeOver = false → exec .failoverFenced s = .next s.settle) ∧
    (s.mayTakeOver = true → s.enterSingle.sump.peerStale = true → exec .failoverFenced s = .next s.enterSingle.settle) ∧
    (s.mayTakeOver = true → s.enterSingle.sump.peerStale = false → exec .failoverFenced s = .next s.enterSingle.takeOver.settle))

/-- Pod launches and shared work.  A proposal and its cancelling are writes of the launch register; PREPARE is answered in SERVE; the last answer sends GO, a refusal or a missing answer abandons; the coordinator's GO writes
the shadows and arms, its ABANDON and a late GO end the launch.  The allocator grants the partner a tank or refuses; a grant is entered, a refusal chooses again; the owner takes a copy where the location test passes; a release is
asked and answered.  A namespace, an epoch and a key come from the partner; ownership is forced with the key; a forwarded command, its data and its answers are taken from a member that serves; a namespace is moved to a partner that serves. -/
def Obligations.PodLaunchesAndSharedWork : Prop :=
  (∀ (value : W32) (s : State), exec (.podLaunchPropose value) s = .next (s.writePodLaunch value).settle ∧
    exec (.podLaunchCancel value) s = .next (s.writePodLaunch value).settle) ∧
  (∀ (src : Fin 8) (time epoch : Nat) (snapshot : Bool) (values : List (Nat × W32)) (s : State),
    (s.serving = false → exec (.prepare src time epoch snapshot values) s = .next s.settle) ∧
    (s.serving = true → exec (.prepare src time epoch snapshot values) s = .next ((s.heardFrom src.val).answerPrepare
      { coord := src.val, time := time, epoch := epoch, snapshot := snapshot, values := values }).settle)) ∧
  (∀ (src : Fin 8) (cause : Nat) (s : State),
    ((s.pod.proposal = none ∨ s.pod.go = true ∨ src.val ∉ s.pod.awaiting) →
      exec (.agree src) s = .next s.settle ∧ exec (.refuse src cause) s = .next s.settle) ∧
    (∀ (l : Launch) (left : List Nat) (u v : State), s.pod.proposal = some l → s.pod.go = false → src.val ∈ s.pod.awaiting →
      left = s.pod.awaiting.filter (· != src.val) → u = ({ s with pod := { s.pod with awaiting := left } } : State).heardFrom src.val →
      v = (s.heardFrom src.val).wr Reg.POD_LAUNCH_STATUS_REFUSER src.val →
      (left = [] → exec (.agree src) s = .next (u.sendGo l).settle) ∧
      (left ≠ [] → exec (.agree src) s = .next u.settle) ∧
      exec (.refuse src cause) s =
        .next ((v.wr Reg.POD_LAUNCH_STATUS_REFUSER_VALID 1).abandonLaunch (refuseCause cause)).settle)) ∧
  (∀ (src : Fin 8) (s t : State),
    t = { s with pod := { s.pod with heldPrepare := s.pod.heldPrepare.filter fun l => l.coord != src.val } } →
    ((∀ l, s.pod.engaged = some l → l.coord ≠ src.val ∨ s.pod.go = true) →
      exec (.go src) s = .next s.settle ∧ exec (.abandon src) s = .next t.settle) ∧
    (s.podTalks = false → exec (.abandon src) s = .next t.settle) ∧
    (∀ (l : Launch) (u : State), s.pod.engaged = some l → l.coord = src.val → s.pod.go = false → u = s.heardFrom src.val →
      exec (.go src) s = .next (({ u with
        pod := { u.pod with go := true }
        regs := { u.regs with shadow := l.values.foldl (fun (t : Tab W32) (e : Nat × W32) => Tab.put e.1 e.2 t) u.regs.shadow } } : State).armPod l).settle ∧
      (s.podTalks = true → exec (.abandon src) s = .next (t.endLaunch plAbandoned 0).settle))) ∧
  (∀ s : State,
    ((s.pod.proposal = none ∨ s.pod.go = true) → exec .launchAnswerDeadline s = .next s.settle) ∧
    (∀ l, s.pod.proposal = some l → s.pod.go = false →
      exec .launchAnswerDeadline s = .next ((s.atShelf (l.time - ms)).abandonLaunch plNoAnswer).settle) ∧
    ((s.pod.engaged = none ∨ s.pod.go = true) → exec .goLate s = .next s.settle) ∧
    (∀ l, s.pod.engaged = some l → s.pod.go = false →
      exec .goLate s = .next ((s.atShelf (l.time - 100 * us)).endLaunch plAbandoned plGoLate).settle)) ∧
  (∀ (src : Fin 8) (layout cls : Nat) (cisterns : List Nat) (s u : State), u = s.heardFrom src.val →
    ((s.serving = false ∨ s.allocator = false ∨ s.partner ≠ some src.val ∨ distinct cisterns = false) →
      exec (.grantReq src layout cls cisterns) s = .next s.settle) ∧
    (s.serving = true → s.allocator = true → s.partner = some src.val → distinct cisterns = true →
      ((u.takeBlocks cls cisterns = none ∨ Tab.lowestFree u.ftl.tanks 0 (u.rd Reg.FTL_TANK_ENTRIES) = none) →
        exec (.grantReq src layout cls cisterns) s = .next (u.toPartner (.grantRefuse layout cls)).settle) ∧
      (∀ (ks : List Nat) (n : Nat) (v : State), u.takeBlocks cls cisterns = some ks →
        Tab.lowestFree u.ftl.tanks 0 (u.rd Reg.FTL_TANK_ENTRIES) = some n → v = u.enterTank n layout cls ks false →
        exec (.grantReq src layout cls cisterns) s =
          .next ((v.toPartner (.grant n layout cls ((v.tankOf n).members.map fun m => (m.cistern, m.die, m.block)))).count
            Reg.POD_CNT_BLOCK_GRANTS).settle))) ∧
  (∀ (src : Fin 8) (tank layout cls : Nat) (members : List (Nat × Nat × Nat)) (s u : State), u = s.heardFrom src.val →
    (∀ refused, (s.partner ≠ some src.val ∨ s.serving = false) → exec (.grant src tank layout cls members refused) s = .next s.settle) ∧
    (s.partner = some src.val → s.serving = true →
      exec (.grant src tank layout cls members true) s = .next ((u.grantAnswered layout cls).assignAll).settle ∧
      ∀ (k : Nat) (v w : State), k = clsKey cls layout → v = u.enterTank tank layout cls (members.map fun m => blkKey m.1 m.2.1 m.2.2) true →
        w = { v with ftl := { v.ftl with granted := Tab.put k (Tab.getD k [] v.ftl.granted ++ [tank]) v.ftl.granted } } →
        exec (.grant src tank layout cls members false) s =
          .next (((w.count Reg.POD_CNT_BLOCK_GRANTS).grantAnswered layout cls).assignAll.askGrant layout cls).settle)) ∧
  (∀ (src : Fin 8) (nsid iu source target : Nat) (s u : State), u = s.heardFrom src.val →
    ((s.podTalks = false ∨ s.partner ≠ some src.val ∨ (s.nsOf nsid).any s.owns = false) →
      exec (.copyMap src nsid iu source target) s = .next s.settle) ∧
    (s.podTalks = true → s.partner = some src.val → (s.nsOf nsid).any s.owns = true →
      (Tab.find (iuKey nsid iu) u.ftl.map = some (.media source) → exec (.copyMap src nsid iu source target) s =
        .next ((u.journal (.mapSet nsid iu target true)).setMap nsid iu (some (.media target))).settle) ∧
      (Tab.find (iuKey nsid iu) u.ftl.map ≠ some (.media source) →
        exec (.copyMap src nsid iu source target) s = .next (u.count Reg.FTL_CNT_COPY_SKIPPED).settle))) ∧
  (∀ (src : Fin 8) (tank : Nat) (s u : State), u = s.heardFrom src.val →
    (∀ answer, (s.podTalks = false ∨ s.partner ≠ some src.val) → exec (.release src tank answer) s = .next s.settle) ∧
    (s.podTalks = true → s.partner = some src.val →
      ((u.tankOf tank).releaseSent = true →
        exec (.release src tank true) s = .next (u.updTank tank fun tk => { tk with released := true }).settle) ∧
      ((u.tankOf tank).releaseSent = false → exec (.release src tank true) s = .next u.settle) ∧
      exec (.release src tank false) s =
        .next ((u.updTank tank fun tk => { tk with releaseAsked := true }).answerRelease tank).settle)) ∧
  (∀ (src : Fin 8) (h : Handover) (s : State),
    (s.nsOf h.nsid = none → exec (.handover src h) s = .next s.settle) ∧
    (∀ n : Ns, s.nsOf h.nsid = some n → (s.podTalks = false ∨ s.partner ≠ some src.val ∨ n.owner ≠ src.val) →
      exec (.handover src h) s = .next s.settle) ∧
    (∀ (n m : Ns) (t u v : State), s.nsOf h.nsid = some n → s.podTalks = true → s.partner = some src.val → n.owner = src.val →
      t = s.heardFrom src.val → u = { t with ftl := { t.ftl with placeSeq := max t.ftl.placeSeq h.seq } } →
      m = { n with owner := u.selfIndex, resType := h.resType, resHolder := h.resHolder, resGen := h.resGen, ptpl := h.ptpl
                   registrants := h.registrants.map fun (r : Nat × Nat) => ⟨r.1, r.2⟩ } →
      v = ((u.putNs h.nsid m).journal (.owner h.nsid u.selfIndex u.ftl.placeSeq)).count Reg.POD_CNT_OWNER_MOVES →
      exec (.handover src h) s = .next ((v.releaseMoving fun k => k == h.nsid).anaNotice h.nsid).settle)) ∧
  (∀ (src : Fin 8) (cistern : Fin 48) (epoch : Nat) (s t u : State), t = s.heardFrom src.val →
    u = { t with pod := { t.pod with epochs := Tab.put cistern.val epoch t.pod.epochs } } →
    ((s.podTalks = false ∨ s.partner ≠ some src.val) → exec (.epochNote src cistern epoch) s = .next s.settle) ∧
    (s.podTalks = true → s.partner = some src.val → exec (.epochNote src cistern epoch) s =
      .next (((u.wr (Reg.SKL_EPOCH_STATUS_FENCED.at cistern.val) 0).reissueRefused cistern.val).assignAll).settle)) ∧
  (∀ (src : Fin 8) (slot type : Nat) (key : List Byte) (destroyed : List Nat) (s u : State),
    u = destroyed.foldl (fun (s : State) f => s.takeDestroyed f) (s.heardFrom src.val) →
    ((s.podTalks = false ∨ s.partner ≠ some src.val ∨ s.pod.pairKey = false) →
      exec (.keyCopy src slot type key destroyed) s = .next s.settle) ∧
    (s.podTalks = true → s.partner = some src.val → s.pod.pairKey = true →
      ((u.fingerprint type key ∈ u.cry.destroyed ∨ slot = 0 ∨ 8191 < slot ∨ (u.vaultSlot slot).state ≠ slotEmpty) →
        exec (.keyCopy src slot type key destroyed) s = .next u.settle) ∧
      (u.fingerprint type key ∉ u.cry.destroyed → slot ≠ 0 → slot ≤ 8191 → (u.vaultSlot slot).state = slotEmpty →
        exec (.keyCopy src slot type key destroyed) s = .next (u.setSlot slot
          { state := slotLoaded, type := type, key := key, fprint := u.fingerprint type key }).settle))) ∧
  (∀ (value : W32) (s u : State), u = s.writeWord offPodCtl value →
    ((u.decodeOf .pod ≠ .all ∨ value.toNat % 2 = 0 ∨ value.toNat / 65536 ≠ 0x9648 ∨ u.is Reg.POD_STATUS_OWN_NONE = false) →
      exec (.forceOwn value) s = .next u.settle) ∧
    (∀ v : State, u.decodeOf .pod = .all → value.toNat % 2 = 1 → value.toNat / 65536 = 0x9648 → u.is Reg.POD_STATUS_OWN_NONE = true →
      v = u.partnerNs.foldl (fun (s : State) n => s.takeNs n) (u.wr Reg.POD_STATUS_OWN_NONE 0) →
      exec (.forceOwn value) s = .next ((v.served.filter fun c => !Tab.has c v.pod.epochs).foldl (fun (s : State) c =>
        s.epochSet c (s.rd64 (Reg.SKL_EPOCH_LO.at c) (Reg.SKL_EPOCH_HI.at c) + 1) s.ownBit) v).settle)) ∧
  (∀ (src : Fin 8) (m : FwdMsg) (s : State), (s.accepting = false ∨ s.memberServes src.val = false) →
    exec (.forward src m) s = .next s.settle) ∧
  (∀ (src : Fin 8) (s u : State), s.accepting = true → s.memberServes src.val = true → u = s.heardFrom src.val →
    (∀ f, exec (.forward src (.command f)) s = .next (u.forwardIn src.val f).settle) ∧
    (∀ (ref off len : Nat) (bytes : List Byte) (status dw0 prd : Nat) (dup : Bool),
      ((∀ c, u.cmdOf ref = some c → c.stage ≠ .remote) → exec (.forward src (.request ref off len)) s = .next u.settle ∧
        exec (.forward src (.readData ref off bytes)) s = .next u.settle ∧
        exec (.forward src (.done ref status dw0 prd dup)) s = .next u.settle) ∧
      (∀ c d : Cmd, u.cmdOf ref = some c → c.stage = .remote → d = { c with buf := cutBytes c.buf off len } →
        (c.dead = true → exec (.forward src (.request ref off len)) s = .next u.settle) ∧
        (c.dead = false →
          exec (.forward src (.request ref off len)) s = .next ((u.updCmd ref fun _ => d).solicit ref d off len).settle) ∧
        exec (.forward src (.readData ref off bytes)) s = .next (u.sendBytes ref off bytes).settle ∧
        exec (.forward src (.done ref status dw0 prd dup)) s = .next (u.forwardOut ref c status dw0 prd dup).settle) ∧
      (u.forwardedBy src.val ref = none → exec (.forward src (.data ref off bytes)) s = .next u.settle ∧
        exec (.forward src (.abandon ref)) s = .next u.settle) ∧
      (∀ (id : Nat) (c : Cmd), u.forwardedBy src.val ref = some (id, c) →
        exec (.forward src (.data ref off bytes)) s = .next (u.arrived id off bytes).settle ∧
        exec (.forward src (.abandon ref)) s = .next (u.abandonForwarded id c).settle))) ∧
  (∀ (nsid : Nat) (s : State),
    ((s.partner = none ∨ s.serving = false ∨ s.partnerServes = false ∨ (s.nsOf nsid).any s.owns = false) →
      exec (.balancingMoveStart nsid) s = .next s.settle) ∧
    (∀ (p : Nat) (t u v : State), s.partner = some p → s.serving = true → s.partnerServes = true → (s.nsOf nsid).any s.owns = true →
      t = { s with pod := { s.pod with moving := Tab.put nsid p s.pod.moving } } →
      u = (if Tab.has nsid s.pod.moving then t else t.anaChange) →
      v = (if u.ftl.versions.any fun v => v.nsid == nsid then u.composeAll.assignAll.padStripes else u) →
      exec (.balancingMoveStart nsid) s = .next (v.handOver nsid p).settle))

/-! ### The host interface over PCIe (chapter 18) -/

/-- Requests on PCIe.  PERST_N resets every function and takes the link down; the link trains where PERST_N is high, the clock is locked and the domain good.  A configuration request needs the link, is retried under RRS, refused for
an absent function, and else reads or writes (a word the model does not hold is free, log entry 47).  What no BAR decodes is refused; a window's access is refused or reads and writes DRAM or MRAM, and its enable shows whether it fits.
CC.EN enables, resets and shuts down; a doorbell fetches, or moves a completion queue's head; BME cleared and FLR act on a present function and FLR's end returns it; VFs are enabled; a changed LTR is sent; an erroneous posted write is reported. -/
def Obligations.PcieRequestsAreAnsweredOrRefused : Prop :=
  (∀ s u : State, u = (((s.wr (Reg.PCIE_FN_STATUS_MASTER.at 0) mstFlr).wr (Reg.PCIE_FN_STATUS_MASTER.at 1) mstFlr).resetFn 0).resetFn 1 →
    exec .perstNAsserted s = .next (((({ u with pcie := { u.pcie with perstLow := true, linkUp := false } } : State).wr
      Reg.PCIE_LINK_SPEED 0).wr Reg.PCIE_LINK_WIDTH 0).wr Reg.PCIE_LINK_FLIT 0).settle ∧
    exec .perstNRelease s = .next ({ s with pcie := { s.pcie with perstLow := false } } : State).settle) ∧
  (∀ (speed : Fin 7) (width : Nat) (flit : Bool) (s : State),
    ((s.pcie.perstLow = true ∨ s.domainFailed 142 = true ∨ s.rd Reg.PWR_CLK_LOCK / 2 ^ 13 % 2 = 0 ∨ speed.val = 0 ∨ width ∉ [1, 2, 4, 8]) →
      exec (.pcieLinkTrained speed width flit) s = .next s.settle) ∧
    (s.pcie.perstLow = false → s.domainFailed 142 = false → s.rd Reg.PWR_CLK_LOCK / 2 ^ 13 % 2 = 1 → speed.val ≠ 0 → width ∈ [1, 2, 4, 8] →
      exec (.pcieLinkTrained speed width flit) s = .next (((({ s with pcie := { s.pcie with linkUp := true } } : State).wr
        Reg.PCIE_LINK_SPEED speed.val).wr Reg.PCIE_LINK_WIDTH width).wrB Reg.PCIE_LINK_FLIT flit).settle)) ∧
  (∀ (fn : Fin 34) (off : BitVec 10) (write : Option (BitVec 4 × W32)) (a : Nat) (s : State), a = 4 * off.toNat →
    (s.pcie.linkUp = false → exec (.configRequest fn off write) s = .next s.settle) ∧
    (s.pcie.linkUp = true → s.is Reg.GLB_PRIME_STATUS_RRS = true →
      exec (.configRequest fn off write) s = .next (s.send (.retryStatus fn.val)).settle) ∧
    (s.pcie.linkUp = true → s.is Reg.GLB_PRIME_STATUS_RRS = false →
      (s.fnAnswers fn.val = false → exec (.configRequest fn off write) s = .next (s.unsupportedReq fn.val).settle) ∧
      (∀ v, s.fnAnswers fn.val = true → s.configWord fn.val a = some v →
        exec (.configRequest fn off none) s = .next (s.send (.config fn.val a v)).settle) ∧
      (s.fnAnswers fn.val = true → s.configWord fn.val a = none →
        exec (.configRequest fn off none) s = .next (s.send (.config fn.val a (s.freeVal 32))).freeNext.settle) ∧
      (∀ (be : BitVec 4) (value : W32), s.fnAnswers fn.val = true →
        exec (.configRequest fn off (some (be, value))) s = .next (s.writeConfig fn.val a be value).settle))) ∧
  (∀ (fn : Fin 34) (bar : Fin 6) (off : Nat) (s : State),
    (s.barDecoded fn.val bar.val off = true → exec (.barRequestUndecoded fn bar off) s = .next s.settle) ∧
    (s.barDecoded fn.val bar.val off = false → exec (.barRequestUndecoded fn bar off) s = .next (s.unsupportedReq fn.val).settle)) ∧
  (∀ (off len : Nat) (write : Option (List Byte)) (s : State), s.barDecoded 0 4 off = false →
    exec (.windowAccess off len write) s = .next (s.unsupportedReq 0).settle) ∧
  (∀ (off len n o a : Nat) (d : List Byte) (s : State), s.barDecoded 0 4 off = true → n = off / 2 ^ 32 % 16 → o = off % 2 ^ 32 →
    a = s.rd64 (Reg.PCIE_WIN_TARGET_LO.at n) (Reg.PCIE_WIN_TARGET_HI.at n) + o →
    ((s.is (Reg.PCIE_WIN_CTL_EN.at n) = false ∨ 4096 * s.rd (Reg.PCIE_WIN_LEN.at n) < o + len) →
      exec (.windowAccess off len none) s = .next (s.unsupportedReq 0).settle) ∧
    (s.is (Reg.PCIE_WIN_CTL_EN.at n) = true → o + len ≤ 4096 * s.rd (Reg.PCIE_WIN_LEN.at n) →
      (s.rd (Reg.PCIE_WIN_CTL_SPACE.at n) = 0 →
        exec (.windowAccess off len none) s = .next (s.send (.barData 0 off (s.dramRead a len))).settle) ∧
      (s.rd (Reg.PCIE_WIN_CTL_SPACE.at n) ≠ 0 →
        exec (.windowAccess off len none) s = .next (s.send (.barData 0 off (s.mramRead a len))).freeNext.settle)) ∧
    ((s.is (Reg.PCIE_WIN_CTL_EN.at n) = false ∨ 4096 * s.rd (Reg.PCIE_WIN_LEN.at n) < o + d.length ∨
      s.is (Reg.PCIE_WIN_CTL_WRITE.at n) = false ∨ (s.rd (Reg.PCIE_WIN_CTL_SPACE.at n) = 1 ∧ s.mramWritable a d.length = false)) →
      exec (.windowAccess off len (some d)) s = .next (s.wr Reg.PCIE_WIN_STATUS_WRITE_REFUSED 1).settle) ∧
    (s.is (Reg.PCIE_WIN_CTL_EN.at n) = true → o + d.length ≤ 4096 * s.rd (Reg.PCIE_WIN_LEN.at n) → s.is (Reg.PCIE_WIN_CTL_WRITE.at n) = true →
      (s.rd (Reg.PCIE_WIN_CTL_SPACE.at n) = 0 → exec (.windowAccess off len (some d)) s = .next (s.dramWrite a d).settle) ∧
      (s.rd (Reg.PCIE_WIN_CTL_SPACE.at n) = 1 → s.mramWritable a d.length = true →
        exec (.windowAccess off len (some d)) s = .next ({ s with mem := { s.mem with mram := s.mem.mram.write a d } } : State).settle))) ∧
  (∀ (n : Fin 16) (value : W32) (s u : State), u = s.writeWord (0x40010C + 0x10 * n.val) value →
    ((s.decodeOf .pcie ≠ .all ∨ s.is (fResetting .pcie) = true) → exec (.windowEnable n value) s = .next u.settle) ∧
    (s.decodeOf .pcie = .all → s.is (fResetting .pcie) = false →
      (value.toNat % 2 = 0 → exec (.windowEnable n value) s = .next (u.wr (Reg.PCIE_WIN_CTL_EN.at n.val) 0).settle) ∧
      (value.toNat % 2 = 1 → u.windowFits n.val (value.toNat / 2 % 2) = true →
        exec (.windowEnable n value) s = .next (u.wr (Reg.PCIE_WIN_CTL_EN.at n.val) 1).settle) ∧
      (value.toNat % 2 = 1 → u.windowFits n.val (value.toNat / 2 % 2) = false → exec (.windowEnable n value) s =
        .next ((u.wr (Reg.PCIE_WIN_CTL_EN.at n.val) 0).wr Reg.PCIE_WIN_STATUS_RANGE_ERR 1).settle))) ∧
  (∀ (fn : Fin 34) (cc aqa : W32) (asq acq : Nat) (s : State),
    (s.nvmeReachable fn.val = false → exec (.ccEnWrite fn cc aqa asq acq) s = .next s.settle) ∧
    (s.nvmeReachable fn.val = true →
      (cc.toNat % 2 = 1 → (s.fnOf fn.val).ccEn = false →
        exec (.ccEnWrite fn cc aqa asq acq) s = .next (s.enableCtlr fn.val cc aqa asq acq).settle) ∧
      (cc.toNat % 2 = 0 → (s.fnOf fn.val).ccEn = true → exec (.ccEnWrite fn cc aqa asq acq) s = .next (s.ctlrReset fn.val).settle) ∧
      (∀ u : State, u = s.updFn fn.val (fun f => { f with shst := if cc.toNat / 2 ^ 14 % 4 ≠ 0 then 2 else f.shst }) →
        (cc.toNat % 2 = 1 → (s.fnOf fn.val).ccEn = true →
          exec (.ccEnWrite fn cc aqa asq acq) s = .next (u.updCtlr fn.val fun k => { k with cc := cc.toNat }).settle) ∧
        (cc.toNat % 2 = 0 → (s.fnOf fn.val).ccEn = false → exec (.ccEnWrite fn cc aqa asq acq) s = .next u.settle)))) ∧
  (∀ (fn : Fin 34) (queue value : Nat) (cq : Bool) (move : Cq → Cq) (s u : State), u = s.wake 3 →
    (∀ q, move q = if q.size < value then q else { q with head := value }) →
    ((s.nvmeReachable fn.val = false ∨ (s.fnOf fn.val).ccEn = false ∨ (s.fnOf fn.val).rdy = false ∨ (s.fnOf fn.val).cfs = true) →
      exec (.nvmeDoorbell fn queue cq value) s = .next s.settle) ∧
    (s.nvmeReachable fn.val = true → (s.fnOf fn.val).ccEn = true → (s.fnOf fn.val).rdy = true → (s.fnOf fn.val).cfs = false →
      exec (.nvmeDoorbell fn queue false value) s = .next (u.fetchSqes fn.val queue value).settle ∧
      exec (.nvmeDoorbell fn queue true value) s = 
        .next ({ u with host := { u.host with cqs := Tab.updIf (queueKey fn.val queue) move u.host.cqs } } : State).settle)) ∧
  (∀ (fn : Fin 34) (s : State),
    (s.fnPresent fn.val = false → exec (.busMasterClear fn) s = .next s.settle ∧ exec (.functionLevelReset fn) s = .next s.settle) ∧
    (s.fnPresent fn.val = true → exec (.busMasterClear fn) s = .next (s.clearBme fn.val).settle ∧
      exec (.functionLevelReset fn) s =
        .next (((s.count Reg.PCIE_CNT_FLRS).wr (Reg.PCIE_FN_STATUS_MASTER.at fn.val) mstFlr).resetFn fn.val).settle) ∧
    (s.rd (Reg.PCIE_FN_STATUS_MASTER.at fn.val) = mstFlr →
      exec (.flrDone fn) s = .next (s.wr (Reg.PCIE_FN_STATUS_MASTER.at fn.val) mstRunning).settle) ∧
    (s.rd (Reg.PCIE_FN_STATUS_MASTER.at fn.val) ≠ mstFlr → exec (.flrDone fn) s = .next s.settle)) ∧
  (∀ (enable : Bool) (numVfs : Nat) (s : State),
    exec (.vfEnable enable numVfs) s = .next ((s.writeNumVfs numVfs).writeVfEnable enable).settle) ∧
  (∀ s : State,
    ((s.pcie.linkUp = false ∨ (s.fnOf 0).ltrEnable = false) → exec .ltrSend s = .next s.settle) ∧
    (∀ t, s.pcie.lastLtr = some (s.ltrValue, t) → exec .ltrSend s = .next s.settle) ∧
    (∀ u : State, s.pcie.linkUp = true → (s.fnOf 0).ltrEnable = true → (∀ v t, s.pcie.lastLtr = some (v, t) → v ≠ s.ltrValue) →
      u = (s.pcie.lastLtr.elim s fun l => s.atLeast (l.2 + 10 * us)) → exec .ltrSend s =
        .next (({ u with pcie := { u.pcie with lastLtr := some (s.ltrValue, u.tm.mono) } } : State).send (.ltr s.ltrValue)).settle)) ∧
  (∀ (fn : Fin 34) (s : State),
    exec (.postedWriteReceive fn .poisoned) s = .next ((s.count Reg.PCIE_CNT_POISONED_RX).aerReport fn.val aerPoisoned).settle ∧
    exec (.postedWriteReceive fn .malformed) s = .next (s.aerReport fn.val aerMalformed).settle ∧
    exec (.postedWriteReceive fn .ecrc) s = .next (s.aerReport fn.val aerEcrc).settle)

/-- Reads of the master engine.  R502: an expired read fails and is reported as a Completion Timeout, its tag quarantined for twice its timeout from the expiry; a completion for a quarantined tag is discarded: it is counted and, where
the log is empty, logged, with no error reported; the quarantine over, the tag is back in the pool.  R498: another completion is malformed, unexpected, failed, poisoned, a part, or the last part of its read. -/
def Obligations.ExpiredReadTagsAreQuarantined : Prop :=
  (∀ (tag : Fin 1024) (s : State),
    (Tab.find tag.val s.pcie.tags = none → exec (.pcieCompletionTimeout tag) s = .next s.settle) ∧
    (∀ (r : PcieTag) (u : State), Tab.find tag.val s.pcie.tags = some r →
      u = (s.atLeast (r.at_ + r.timeout)).count Reg.PCIE_CNT_CPL_TIMEOUT →
      exec (.pcieCompletionTimeout tag) s = .next ((((({ u with pcie := { u.pcie with
        quarantined := Tab.put tag.val (r.rd.fn, u.tm.mono + 2 * r.timeout) u.pcie.quarantined } } : State).freeRead
          tag.val r.rd).aerReport r.rd.fn aerTimeout).readFails r.rd).settle)) ∧
    (Tab.find tag.val s.pcie.quarantined = none → exec (.pcieTagQuarantineEnd tag) s = .next s.settle) ∧
    (∀ (fn until_ : Nat) (u : State), Tab.find tag.val s.pcie.quarantined = some (fn, until_) → u = s.atLeast until_ →
      exec (.pcieTagQuarantineEnd tag) s = .next (({ u with pcie := { u.pcie with
        quarantined := Tab.del tag.val u.pcie.quarantined } } : State).drainReads).settle)) ∧
  (∀ (c : PcieCpl) (fn until_ : Nat) (s u : State), c.malformed = false → Tab.find c.tag s.pcie.tags = none →
    Tab.find c.tag s.pcie.quarantined = some (fn, until_) → u = s.count Reg.PCIE_CNT_LATE_CPL →
    (u.is Reg.PCIE_LATE_LOG_VALID = true → exec (.pcieCompletionReceive c) s = .next u.settle) ∧
    (u.is Reg.PCIE_LATE_LOG_VALID = false → exec (.pcieCompletionReceive c) s =
      .next (((u.wr Reg.PCIE_LATE_LOG_TAG c.tag).wr Reg.PCIE_LATE_LOG_FUNCTION fn).wr Reg.PCIE_LATE_LOG_VALID 1).settle)) ∧
  (∀ (c : PcieCpl) (s : State),
    (c.malformed = true → exec (.pcieCompletionReceive c) s = .next (s.aerReport (c.fn % 34) aerMalformed).settle) ∧
    (c.malformed = false → Tab.find c.tag s.pcie.tags = none → Tab.find c.tag s.pcie.quarantined = none →
      exec (.pcieCompletionReceive c) s = .next (s.aerReport (c.fn % 34) aerUnexpected).settle) ∧
    (∀ (r q : PcieTag), c.malformed = false → Tab.find c.tag s.pcie.tags = some r →
      q = { r with left := r.left - c.data.length, data := r.data ++ c.data } →
      (c.fn ≠ r.rd.fn → exec (.pcieCompletionReceive c) s = .next (s.aerReport (c.fn % 34) aerUnexpected).settle) ∧
      (c.fn = r.rd.fn → c.status ≠ 0 → exec (.pcieCompletionReceive c) s = .next ((s.freeRead c.tag r.rd).readFails r.rd).settle) ∧
      (c.fn = r.rd.fn → c.status = 0 → c.poisoned = true → exec (.pcieCompletionReceive c) s =
        .next ((((s.count Reg.PCIE_CNT_POISONED_RX).aerReport c.fn aerPoisoned).freeRead c.tag r.rd).readFails r.rd).settle) ∧
      (c.fn = r.rd.fn → c.status = 0 → c.poisoned = false → r.expects c = false →
        exec (.pcieCompletionReceive c) s = .next (s.aerReport (c.fn % 34) aerUnexpected).settle) ∧
      (c.fn = r.rd.fn → c.status = 0 → c.poisoned = false → r.expects c = true →
        (q.left = 0 → exec (.pcieCompletionReceive c) s = .next ((s.freeRead c.tag r.rd).readArrived q).settle) ∧
        (q.left ≠ 0 → exec (.pcieCompletionReceive c) s =
          .next ({ s with pcie := { s.pcie with tags := Tab.put c.tag q s.pcie.tags } } : State).settle))))

/-- The SPDM responder.  A request runs only in its turn of the negotiation and is otherwise answered UnexpectedRequest; GET_VERSION starts anew; the others answer capabilities, algorithms, digests, a part of the chain, a signed challenge and
measurements, an invalid operand being answered InvalidRequest and an unknown request UnsupportedRequest; DOE Discovery names the two objects; where DOE is not up nothing is answered.  Codes and turns are SPDM 1.2's (PRESUMED, log entry 26). -/
def Obligations.AttestationAnswersInItsOrder : Prop :=
  (∀ (asym hash : W32) (slot off len meas : Nat) (nonce : BitVec 256) (index code : BitVec 8) (signed : Bool) (s : State), s.doeUp = false →
    ∀ c ∈ [Instr.getVersion, .getCapabilities, .getDigests, .negotiateAlgorithms asym hash, .getCertificate slot off len,
      .challenge slot meas nonce, .getMeasurements index signed nonce, .spdmUnsupported code, .doeDiscovery index],
      exec c s = .next s.settle) ∧
  (∀ (asym hash : W32) (slot off len meas : Nat) (nonce : BitVec 256) (index : BitVec 8) (signed : Bool) (s u : State), s.doeUp = true →
    u = s.send (.spdm 0x7F [errUnexpected, 0]) →
    (s.pcie.spdm.phase ≠ 1 → exec .getCapabilities s = .next u.settle) ∧
    (s.pcie.spdm.phase ≠ 2 → exec (.negotiateAlgorithms asym hash) s = .next u.settle) ∧
    (s.pcie.spdm.phase ≠ 3 → ∀ c ∈ [Instr.getDigests, .getCertificate slot off len, .challenge slot meas nonce,
      .getMeasurements index signed nonce], exec c s = .next u.settle)) ∧
  (∀ (asym hash : W32) (s : State), s.doeUp = true →
    exec .getVersion s = .next (({ s with pcie := { s.pcie with spdm := { phase := 1 } } } : State).spdmReply [0x84] 0x04 [0x12]).settle ∧
    (s.pcie.spdm.phase = 1 → exec .getCapabilities s = .next ((s.spdmPhase 2).spdmReply [0xE1] 0x61 [20, 22]).settle) ∧
    (s.pcie.spdm.phase = 2 → exec (.negotiateAlgorithms asym hash) s = .next ((s.spdmPhase 3).spdmReply
      [0xE3, asym.toNat, hash.toNat] 0x63 [1, 4, asym.toNat &&& algP384, hash.toNat &&& algSha384]).settle) ∧
    (s.pcie.spdm.phase = 3 → exec .getDigests s = .next (s.spdmReply [0x81] 0x01 [1, chainDigest]).settle)) ∧
  (∀ (slot off len meas : Nat) (nonce : BitVec 256) (s u : State), s.doeUp = true → s.pcie.spdm.phase = 3 →
    u = s.send (.spdm 0x7F [errInvalid, 0]) →
    (slot ≠ 0 → exec (.getCertificate slot off len) s = .next u.settle) ∧
    (∀ part, part = (Config.deviceChain.drop off).take len →
      exec (.getCertificate 0 off len) s = .next (if Config.deviceChain.length ≤ off then u else s.spdmReply [0x82, 0, off, len] 0x02
        ([0, part.length, Config.deviceChain.length - off - part.length] ++ byteNats part)).settle) ∧
    ((slot ≠ 0 ∨ (meas ≠ 0 ∧ meas ≠ 0xFF)) → exec (.challenge slot meas nonce) s = .next u.settle) ∧
    exec (.challenge 0 0 nonce) s = .next (s.spdmSigned [0x83, 0, 0, nonce.toNat] 0x03 [0, chainDigest]).settle ∧
    exec (.challenge 0 0xFF nonce) s = .next (s.spdmSigned [0x83, 0, 0xFF, nonce.toNat] 0x03
      ([0, chainDigest] ++ sha384Nats (s.measurements 0xFF))).settle) ∧
  (∀ (index : BitVec 8) (nonce : BitVec 256) (i n : Nat) (s : State), s.doeUp = true → s.pcie.spdm.phase = 3 → i = index.toNat →
    n = (if i = 0 then 7 else (measured i).length) →
    (∀ signed, 7 < i → i ≠ 0xFF → exec (.getMeasurements index signed nonce) s = .next (s.send (.spdm 0x7F [errInvalid, 0])).settle) ∧
    ((i ≤ 7 ∨ i = 0xFF) →
      exec (.getMeasurements index true nonce) s =
        .next (s.spdmSigned [0xE0, 1, i, nonce.toNat] 0x60 (n :: s.measurements i)).settle ∧
      exec (.getMeasurements index false nonce) s =
        .next (s.spdmReply [0xE0, 0, i, nonce.toNat] 0x60 (n :: s.measurements i)).settle)) ∧
  (∀ (code index : BitVec 8) (s : State), s.doeUp = true →
    (code.toNat ∉ [0x84, 0xE1, 0xE3, 0x81, 0x82, 0x83, 0xE0] →
      exec (.spdmUnsupported code) s = .next (s.send (.spdm 0x7F [errUnsupported, code.toNat])).settle) ∧
    (code.toNat ∈ [0x84, 0xE1, 0xE3, 0x81, 0x82, 0x83, 0xE0] → exec (.spdmUnsupported code) s = .next s.settle) ∧
    (index.toNat = 0 → exec (.doeDiscovery index) s = .next (s.send (.spdm 0 [1, 0, 1])).settle) ∧
    (index.toNat = 1 → exec (.doeDiscovery index) s = .next (s.send (.spdm 0 [1, 1, 0])).settle) ∧
    (2 ≤ index.toNat → exec (.doeDiscovery index) s = .next (s.send (.spdm 0 [0xFFFF, 0xFF, 0])).settle))

/-! ### Sequencers, mailboxes, the monitor unit (chapter 19) -/

/-- R518: a warm reset, or a reset of SEQ (beside ending the mailboxes' commands), leaves OWNER 0 in every mailbox and STATUS ABORTED in
those that the controller owned, and changes no other byte of BAR2; a full reset loses what the mailboxes held with the DRAM. -/
def Obligations.ResetsGiveMailboxesBack : Prop :=
  (∀ s : State, (s.resetBlocks .warm).mem.bar2 = abortMboxes s.mem.bar2 ∧ (s.resetRegs .warm false).rd Reg.SEQ_MBOX_OWN = 0) ∧
  (∀ s : State, ∃ u : State, s.resetInside .seq = u.loseCmds (fun c => c.path.isMailbox) ∧ u.mem.bar2 = abortMboxes s.mem.bar2 ∧
    u.seq.waiting = [] ∧ u.seq.running = []) ∧
  (∀ (b : Memory) (m : Nat), m < 32 → (abortMboxes b).get (mboxBase m) = 0 ∧
    (b.get (mboxBase m) ≠ 0 → (abortMboxes b).get (mboxBase m + 0x10) = 3) ∧
    (b.get (mboxBase m) = 0 → (abortMboxes b).get (mboxBase m + 0x10) = b.get (mboxBase m + 0x10))) ∧
  (∀ (b : Memory) (a : Nat), (∀ m < 32, a ≠ mboxBase m ∧ a ≠ mboxBase m + 0x10) → (abortMboxes b).get a = b.get a) ∧
  (∀ (k : ResetKind) (s : State), k ≠ .warm → (s.resetBlocks k).mem.bar2 = [] ∧ (s.resetBlocks k).mem.dram = [])

/-- Mailboxes, scratchpads and the PMU.  A doorbell takes each mailbox named that the host owns and refuses the rest; one that has finished gets its data and CQE, then STATUS, OWNER and DONE with its event, and the next is taken.  A BAR2
access that is not decoded is refused; a read answers and a write goes byte by byte where the host may, ECC errors of scratchpad words being counted.  A sequencer's fault halts it, a transfer's is counted; an atomic at an operand's alignment
in a host area returns the old value and stores the new.  A tile's counters clear together; a snapshot copies or is counted as missed, its block copy ends; a bandwidth window ends and is set. -/
def Obligations.MailboxesScratchpadsAndMonitorsWork : Prop :=
  (∀ (value : W32) (s u : State), u = s.writeWord 0x3C00200 value →
    ((s.decodeOf .seq ≠ .all ∨ s.begins .seq = false) → exec (.mailboxDoorbell value) s = .next u.settle) ∧
    (s.decodeOf .seq = .all → s.begins .seq = true →
      exec (.mailboxDoorbell value) s = .next (((((List.range 32).filter fun m => value.toNat / 2 ^ m % 2 == 1).foldl
        (fun (s : State) m => s.ringMbox m) (u.wake 4)).takeMboxes 32).settle))) ∧
  (∀ (m : Nat) (u s : State), u = (s.ownMbox m true).putMbox m 0x10 1 0 →
    (s.mboxOwned m = true → s.ringMbox m = s.setErr .seq 8) ∧
    (s.mboxOwned m = false → s.ringMbox m = { u with seq := { u.seq with waiting := u.seq.waiting ++ [m] } })) ∧
  (∀ (m : Fin 32) (s : State),
    ((∀ e : MboxEnd, Tab.find m.val s.seq.running ≠ some (some e)) → exec (.mailboxComplete m) s = .next s.settle) ∧
    (∀ (e : MboxEnd) (at_ : Nat) (t u v w : State), Tab.find m.val s.seq.running = some (some e) → at_ = mboxBase m.val →
      t = (match Tab.find m.val s.seq.data with
        | none => s
        | some d => { s with mem := { s.mem with bar2 := s.mem.bar2.write (at_ + 0x1000) d } }) →
      u = (match e.cqe with
        | none => t
        | some x =>
          { t with mem := { t.mem with bar2 := t.mem.bar2.write (at_ + 0x60) (cqeBytes x.2 0 0 (t.mboxCmd m.val).sqe.cid x.1 (dnrOf x.1) false) } }) →
      v = (u.putMbox m.val 0x10 1 e.st).ownMbox m.val false →
      w = ((v.wr Reg.SEQ_MBOX_DONE (v.rd Reg.SEQ_MBOX_DONE ||| 2 ^ m.val)).count Reg.SEQ_CNT_MBOX_COMPLETED).raiseIn 15 sevInfo .seq
        Reg.SEQ_MBOX_DONE.off noInstance m.val →
      exec (.mailboxComplete m) s = .next (({ w with seq := { w.seq with
        running := Tab.del m.val w.seq.running, data := Tab.del m.val w.seq.data } } : State).takeMboxes 32).settle)) ∧
  (∀ (off : Nat) (a : Bar2Access) (ecc : SpEcc) (s : State), s.barDecoded 0 2 off = false →
    exec (.bar2Write off a ecc) s = .next (s.unsupportedReq 0).settle) ∧
  (∀ (off n : Nat) (data : List Byte) (ecc : SpEcc) (pad : Bool) (s t : State), s.barDecoded 0 2 off = true →
    pad = (!s.prim.recovery && decide (off < 0x400000)) →
    t = (if pad = true ∧ s.domainOn (143 + off / 0x100000) = false ∧ s.devState ≠ 0 then s.wr Reg.PWR_WAKE_CAUSE 7 else s) →
    (∀ u : State, u = (if pad then t.spErrors ecc (off / 0x40000) else t) →
      exec (.bar2Write off (.read n) ecc) s = .next (u.send (.barData 0 off (u.bar2Read off n) (pad && ecc.bad))).settle) ∧
    (∀ u : State, u = (if pad = true ∧ partWord off data.length = true then t.spErrors ecc (off / 0x40000) else t) →
      exec (.bar2Write off (.write data) ecc) s =
        .next (data.zipIdx.foldl (fun (s : State) (e : Byte × Nat) => s.bar2Byte (off + e.2) e.1) u).settle)) ∧
  (∀ (off m : Nat) (b : Byte) (s put : State), put = { s with mem := { s.mem with bar2 := s.mem.bar2.set off b } } →
    m = (off - 0x400000) / 0x100000 →
    (s.prim.recovery = true → s.bar2Byte off b = put) ∧
    (s.prim.recovery = false →
      (off < 0x400000 → s.bar2Byte off b = if hostArea off then put else s.setErr .seq 9) ∧
      (0x2400000 ≤ off → s.bar2Byte off b = s) ∧
      (0x400000 ≤ off → off < 0x2400000 → s.mboxOwned m = true → s.bar2Byte off b = s.setErr .seq 8) ∧
      (0x400000 ≤ off → off < 0x2400000 → s.mboxOwned m = false → s.bar2Byte off b = if off % 0x100000 = 0 then s else put))) ∧
  (∀ (n : Fin 16) (k : Nat) (e : SpEcc) (s : State), exec (.sequencerHalt n .fault) s = .next (s.haltSeq n.val).settle ∧
    exec (.sequencerHalt n (.scratchpad k)) s = .next ((s.spErrors ⟨k, true⟩ n.val).haltSeq n.val).settle ∧
    exec (.sequencerHalt n (.dma e)) s = .next (s.spErrors e n.val).settle ∧
    exec (.seqWorkOverrun n) s = .next (s.haltSeq n.val).settle) ∧
  (∀ (n : Nat) (s u : State), u = ((s.wr (Reg.SEQ_STATE.at n) sqHalted).count Reg.SEQ_CNT_SEQ_HALTS).raise sevUncorrected .seq
      (Reg.SEQ_STATE.at n).off n →
    (s.rd (Reg.SEQ_STATE.at n) = sqHalted → s.haltSeq n = s) ∧
    (s.rd (Reg.SEQ_STATE.at n) ≠ sqHalted → (∃ i < 16, u.rd (Reg.SEQ_STATE.at i) ≠ sqHalted) → s.haltSeq n = u) ∧
    (s.rd (Reg.SEQ_STATE.at n) ≠ sqHalted → (∀ i < 16, u.rd (Reg.SEQ_STATE.at i) = sqHalted) →
      s.haltSeq n = u.fatal (fatalCode .seqAll) (fatalPlace .seqAll).1 (fatalPlace .seqAll).2)) ∧
  (∀ (value : W32) (s u : State), u = s.writeWord 0x3C00304 value →
    ((s.decodeOf .seq ≠ .all ∨ s.begins .seq = false ∨ value.toNat < 2 ^ 31) → exec (.hostAtomic value) s = .next u.settle) ∧
    (s.decodeOf .seq = .all → s.begins .seq = true → 2 ^ 31 ≤ value.toNat →
      exec (.hostAtomic value) s = .next (u.hostAtomic (value.toNat % 4)).settle)) ∧
  (∀ (op a n old operand : Nat) (b : Memory) (s : State), a = s.rd Reg.SEQ_ATOM_ADDR → n = (if op % 2 = 1 then 8 else 4) → old = le (s.mem.bar2.read a n) →
    operand = s.rd64 Reg.SEQ_ATOM_OPERAND_LO Reg.SEQ_ATOM_OPERAND_HI →
    (a % n ≠ 0 → s.hostAtomic op = s.wr Reg.SEQ_ATOM_STATUS_RESULT 1) ∧
    (a % n = 0 → hostArea a = false → s.hostAtomic op = s.wr Reg.SEQ_ATOM_STATUS_RESULT 2) ∧
    (a % n = 0 → hostArea a = true → b = s.mem.bar2.write a (leBytes n (atomic op old operand (8 * n))) →
      s.hostAtomic op = ((({ s with mem := { s.mem with bar2 := b } } : State).wr64 Reg.SEQ_ATOM_OLD_LO Reg.SEQ_ATOM_OLD_HI old).wr
        Reg.SEQ_ATOM_STATUS_RESULT 0))) ∧
  (∀ (t : Fin 16) (value : W32) (s u v : State), u = s.writeWord (0x3E01070 + 0x100 * t.val) value →
    v = (List.range 8).foldl (fun (s : State) k => s.clearCounter ((Reg.PMU_CNT_TILE k).at t.val)) u →
    ((s.decodeOf .pmu ≠ .all ∨ s.stopped .pmu = true ∨ value.toNat % 2 = 0) → exec (.tileCounterClear t value) s = .next u.settle) ∧
    (s.decodeOf .pmu = .all → s.stopped .pmu = false → value.toNat % 2 = 1 → exec (.tileCounterClear t value) s =
      .next ({ v with pmu := { v.pmu with tileNs := Tab.del t.val v.pmu.tileNs } } : State).settle)) ∧
  (∀ (value : W32) (s u : State), u = s.writeWord 0x3E00020 value →
    ((s.decodeOf .pmu ≠ .all ∨ s.begins .pmu = false ∨ value.toNat % 2 = 0) → exec (.pmuSnapshot value) s = .next u.settle) ∧
    (s.decodeOf .pmu = .all → s.begins .pmu = true → value.toNat % 2 = 1 → exec (.pmuSnapshot value) s = .next u.takeSnapshot.settle)) ∧
  (∀ (a : Nat) (s t u : State), t = { s with pmu := { s.pmu with snap := s.snapWords } } →
    u = (t.wr64 Reg.PMU_SNAP_TIME_LO Reg.PMU_SNAP_TIME_HI t.tm.shelf).wr Reg.PMU_SNAP_STATUS_VALID 1 →
    a = u.rd64 Reg.PMU_SNAP_ADDR_LO Reg.PMU_SNAP_ADDR_HI →
    (s.is Reg.PMU_SNAP_STATUS_BUSY = true →
      s.takeSnapshot = s.wr Reg.PMU_SNAP_STATUS_MISSED (min 255 (s.rd Reg.PMU_SNAP_STATUS_MISSED + 1))) ∧
    (s.is Reg.PMU_SNAP_STATUS_BUSY = false → u.is Reg.PMU_SNAP_CTL_BLOCKS = false → s.takeSnapshot = u) ∧
    (s.is Reg.PMU_SNAP_STATUS_BUSY = false → u.is Reg.PMU_SNAP_CTL_BLOCKS = true → a % 4096 = 0 → u.inDram a snapBuffer = true →
      s.takeSnapshot = ({ u with pmu := { u.pmu with latched := u.regs.counts } } : State).wr Reg.PMU_SNAP_STATUS_BUSY 1) ∧
    (s.is Reg.PMU_SNAP_STATUS_BUSY = false → u.is Reg.PMU_SNAP_CTL_BLOCKS = true → (a % 4096 ≠ 0 ∨ u.inDram a snapBuffer = false) →
      s.takeSnapshot = u.wr Reg.PMU_SNAP_COUNT 0)) ∧
  (∀ (a : Nat) (s t : State), a = s.rd64 Reg.PMU_SNAP_ADDR_LO Reg.PMU_SNAP_ADDR_HI →
    t = blockCounters.zipIdx.foldl (fun (s : State) (e : (Nat × Unit) × Nat) =>
      s.dramWrite (a + 8 * e.2) (counterBytes (Tab.getD e.1.1 (0, false) s.pmu.latched))) s →
    (s.is Reg.PMU_SNAP_STATUS_BUSY = false → exec .pmuBlockCopyDone s = .next s.settle) ∧
    (s.is Reg.PMU_SNAP_STATUS_BUSY = true → exec .pmuBlockCopyDone s =
      .next ((t.wr Reg.PMU_SNAP_COUNT blockCounters.length).wr Reg.PMU_SNAP_STATUS_BUSY 0).settle)) ∧
  (∀ (totals : List (Nat × Nat × Nat)) (s : State),
    (s.stopped .pmu = true → exec (.bandwidthWindowEnd totals) s = .next s.settle) ∧
    (∀ (at_ : Nat) (u v : State), s.stopped .pmu = false → at_ = (ceilDiv s.pmu.windowAt s.bwWindow + 1) * s.bwWindow →
      u = (List.range 72).foldl (fun (s : State) p => s.putBandwidth p ((totals.find? fun e => e.1 == p).getD (p, 0, 0)).2.1
        ((totals.find? fun e => e.1 == p).getD (p, 0, 0)).2.2) (s.atLeast at_) →
      v = (u.wr Reg.PMU_BW_SEQ (u.rd Reg.PMU_BW_SEQ + 1)).wr Reg.PMU_BW_STATUS_VALID 1 →
      exec (.bandwidthWindowEnd totals) s = .next ({ v with pmu := { v.pmu with windowAt := at_ } } : State).settle)) ∧
  (∀ (value : W32) (w : Nat) (s u v : State), u = s.writeWord 0x3E00010 value → w = value.toNat % 2 ^ 20 →
    v = (u.wr Reg.PMU_BW_CFG_WINDOW w).wr Reg.PMU_BW_STATUS_VALID 0 →
    ((s.decodeOf .pmu ≠ .all ∨ s.is (fResetting .pmu) = true) → exec (.bandwidthWindowWrite value) s = .next u.settle) ∧
    (s.decodeOf .pmu = .all → s.is (fResetting .pmu) = false →
      (inRange Reg.PMU_BW_CFG_WINDOW w = false → exec (.bandwidthWindowWrite value) s = .next (u.setErr .pmu 1).settle) ∧
      (inRange Reg.PMU_BW_CFG_WINDOW w = true → exec (.bandwidthWindowWrite value) s =
        .next ({ v with pmu := { v.pmu with windowAt := ceilDiv v.tm.mono v.bwWindow * v.bwWindow } } : State).settle)))

/-! ### Power and heat (chapter 20) -/

/-- Power and heat.  An evaluation shows T_min, and enters a deeper device state at once or leaves for a shallower one, whose exit ends in the target.  A regulator fault marks its domain, or is fatal for a rail.  The sensors are shown, a bus fault isolates the
bus, and a retry that finds it good ends that.  The thermal trip holds the controller in reset once, with THERM_N low, until the package has cooled.  The loss of a locked clock is fatal. -/
def Obligations.PowerFollowsStateHeatAndFaults : Prop :=
  (∀ (now : Nat) (s u : State), u = (s.atLeast now).wr Reg.PWR_STATUS_T_MIN (s.atLeast now).tMin →
    (u.is Reg.PWR_STATUS_EXITING = true → exec (.deviceStateEvaluate now) s = .next u.settle) ∧
    (u.is Reg.PWR_STATUS_EXITING = false →
      (u.devState < u.deepest → exec (.deviceStateEvaluate now) s =
        .next (((u.wr Reg.PWR_STATUS_STATE u.deepest).wr Reg.PWR_STATUS_TARGET u.deepest).count (entriesOf u.deepest)).settle) ∧
      (u.deepest < u.devState → exec (.deviceStateEvaluate now) s = .next ((u.wake 1).wr Reg.PWR_STATUS_TARGET u.deepest).settle) ∧
      (u.deepest = u.devState → exec (.deviceStateEvaluate now) s = .next (u.wr Reg.PWR_STATUS_TARGET u.deepest).settle))) ∧
  (∀ s : State,
    (s.is Reg.PWR_STATUS_EXITING = false → exec .deviceStateExitDone s = .next s.settle) ∧
    (s.is Reg.PWR_STATUS_EXITING = true → exec .deviceStateExitDone s =
      .next ((s.wr Reg.PWR_STATUS_STATE (s.rd Reg.PWR_STATUS_TARGET)).wr Reg.PWR_STATUS_EXITING 0).settle)) ∧
  (∀ (d : Fin 147) (s : State), exec (.regulatorFault (some d)) s = .next (s.domainFails d.val).settle ∧
    exec (.regulatorFault none) s = .next (s.fatal (fatalCode .rail) (fatalPlace .rail).1 (fatalPlace .rail).2).settle) ∧
  (∀ (r : Sensors) (s t u v : State), t = r.die.zipIdx.foldl (fun (s : State) (e : Int × Nat) =>
      if e.2 < 6 then s.wr (Reg.PWR_SENSOR_TEMP.at e.2) (twos 1 e.1) else s) s →
    u = (t.wr Reg.PWR_INPUT_VIN r.vin.toNat).wr Reg.PWR_INPUT_IIN r.iin.toNat →
    v = (if u.is Reg.PWR_I3C_FAULT then u else if r.fault.val = 0 then u.wr Reg.PWR_I3C_SENSORS r.present.toNat
      else ((u.wr Reg.PWR_I3C_FAULT 1).wr Reg.PWR_I3C_KIND r.fault.val).wr Reg.PWR_I3C_SENSORS 0) →
    exec (.i3cSensorRead r) s = .next (v.judgeHeat ((r.die.take 6).foldl max (-128))).settle) ∧
  (∀ (n : BitVec 8) (s : State),
    (∀ found, s.is Reg.PWR_I3C_FAULT = false → exec (.i3cBusRetry found) s = .next s.settle) ∧
    exec (.i3cBusRetry none) s = .next s.settle ∧
    (s.is Reg.PWR_I3C_FAULT = true → exec (.i3cBusRetry (some n)) s =
      .next (((s.wr Reg.PWR_I3C_FAULT 0).wr Reg.PWR_I3C_KIND 0).wr Reg.PWR_I3C_SENSORS n.toNat).settle)) ∧
  (∀ (package : Int) (s : State),
    ((package < 115 ∨ s.prim.tripHeld = true) → exec (.thermalTrip package) s = .next s.settle) ∧
    (∀ u : State, 115 ≤ package → s.prim.tripHeld = false →
      u = ((s.wr Reg.PWR_THERM_STATUS_PACKAGE (twos 1 package)).wr Reg.PWR_THERM_STATUS_TRIPPED 1).send (.thermN true) →
      exec (.thermalTrip package) s = .next (({ u with prim := { u.prim with tripHeld := true } } : State).takeReset .resetN).settle) ∧
    ((95 ≤ package ∨ s.prim.tripHeld = false) → exec (.thermalTripRelease package) s = .next s.settle) ∧
    (∀ u : State, package < 95 → s.prim.tripHeld = true →
      u = (s.wr Reg.PWR_THERM_STATUS_PACKAGE (twos 1 package)).send (.thermN false) →
      exec (.thermalTripRelease package) s = .next (({ u with prim := { u.prim with tripHeld := false } } : State).leaveReset).settle)) ∧
  (∀ (k : Fin 20) (s : State),
    (s.rd Reg.PWR_CLK_LOCK / 2 ^ k.val % 2 = 0 → exec (.clockLockLoss k) s = .next s.settle) ∧
    (s.rd Reg.PWR_CLK_LOCK / 2 ^ k.val % 2 = 1 →
      exec (.clockLockLoss k) s = .next ((s.wr Reg.PWR_CLK_LOCK (s.rd Reg.PWR_CLK_LOCK - 2 ^ k.val)).fatal (fatalCode .clock)
        (fatalPlace .clock).1 (fatalPlace .clock).2).settle))
end

