-- ==== Sys2Proof/Laws/State.lean ====
section
/-! SUPPORT. What each named update of the state leaves as it was: one lemma for every field of `State` that it does not touch. -/

namespace Sys2Proof.Machine

/-! `State.wr` changes `regs` alone. -/

@[simp] theorem State.wr_prim (s : State) (f : Field) (v : Nat) : (s.wr f v).prim = s.prim := rfl
@[simp] theorem State.wr_img (s : State) (f : Field) (v : Nat) : (s.wr f v).img = s.img := rfl
@[simp] theorem State.wr_commit (s : State) (f : Field) (v : Nat) : (s.wr f v).commit = s.commit := rfl
@[simp] theorem State.wr_evt (s : State) (f : Field) (v : Nat) : (s.wr f v).evt = s.evt := rfl
@[simp] theorem State.wr_pcie (s : State) (f : Field) (v : Nat) : (s.wr f v).pcie = s.pcie := rfl
@[simp] theorem State.wr_tm (s : State) (f : Field) (v : Nat) : (s.wr f v).tm = s.tm := rfl
@[simp] theorem State.wr_cry (s : State) (f : Field) (v : Nat) : (s.wr f v).cry = s.cry := rfl
@[simp] theorem State.wr_mem (s : State) (f : Field) (v : Nat) : (s.wr f v).mem = s.mem := rfl
@[simp] theorem State.wr_ns (s : State) (f : Field) (v : Nat) : (s.wr f v).ns = s.ns := rfl
@[simp] theorem State.wr_prd (s : State) (f : Field) (v : Nat) : (s.wr f v).prd = s.prd := rfl
@[simp] theorem State.wr_host (s : State) (f : Field) (v : Nat) : (s.wr f v).host = s.host := rfl
@[simp] theorem State.wr_rc (s : State) (f : Field) (v : Nat) : (s.wr f v).rc = s.rc := rfl
@[simp] theorem State.wr_qos (s : State) (f : Field) (v : Nat) : (s.wr f v).qos = s.qos := rfl
@[simp] theorem State.wr_mfd (s : State) (f : Field) (v : Nat) : (s.wr f v).mfd = s.mfd := rfl
@[simp] theorem State.wr_ftl (s : State) (f : Field) (v : Nat) : (s.wr f v).ftl = s.ftl := rfl
@[simp] theorem State.wr_sump (s : State) (f : Field) (v : Nat) : (s.wr f v).sump = s.sump := rfl
@[simp] theorem State.wr_shelf (s : State) (f : Field) (v : Nat) : (s.wr f v).shelf = s.shelf := rfl
@[simp] theorem State.wr_pod (s : State) (f : Field) (v : Nat) : (s.wr f v).pod = s.pod := rfl
@[simp] theorem State.wr_pmu (s : State) (f : Field) (v : Nat) : (s.wr f v).pmu = s.pmu := rfl
@[simp] theorem State.wr_seq (s : State) (f : Field) (v : Nat) : (s.wr f v).seq = s.seq := rfl
@[simp] theorem State.wr_out (s : State) (f : Field) (v : Nat) : (s.wr f v).out = s.out := rfl
@[simp] theorem State.wr_freeCtr (s : State) (f : Field) (v : Nat) : (s.wr f v).freeCtr = s.freeCtr := rfl
@[simp] theorem State.wr_pending (s : State) (f : Field) (v : Nat) : (s.wr f v).pending = s.pending := rfl

/-! `State.wrB` changes `regs` alone. -/

@[simp] theorem State.wrB_prim (s : State) (f : Field) (b : Bool) : (s.wrB f b).prim = s.prim := rfl
@[simp] theorem State.wrB_img (s : State) (f : Field) (b : Bool) : (s.wrB f b).img = s.img := rfl
@[simp] theorem State.wrB_commit (s : State) (f : Field) (b : Bool) : (s.wrB f b).commit = s.commit := rfl
@[simp] theorem State.wrB_evt (s : State) (f : Field) (b : Bool) : (s.wrB f b).evt = s.evt := rfl
@[simp] theorem State.wrB_pcie (s : State) (f : Field) (b : Bool) : (s.wrB f b).pcie = s.pcie := rfl
@[simp] theorem State.wrB_tm (s : State) (f : Field) (b : Bool) : (s.wrB f b).tm = s.tm := rfl
@[simp] theorem State.wrB_cry (s : State) (f : Field) (b : Bool) : (s.wrB f b).cry = s.cry := rfl
@[simp] theorem State.wrB_mem (s : State) (f : Field) (b : Bool) : (s.wrB f b).mem = s.mem := rfl
@[simp] theorem State.wrB_ns (s : State) (f : Field) (b : Bool) : (s.wrB f b).ns = s.ns := rfl
@[simp] theorem State.wrB_prd (s : State) (f : Field) (b : Bool) : (s.wrB f b).prd = s.prd := rfl
@[simp] theorem State.wrB_host (s : State) (f : Field) (b : Bool) : (s.wrB f b).host = s.host := rfl
@[simp] theorem State.wrB_rc (s : State) (f : Field) (b : Bool) : (s.wrB f b).rc = s.rc := rfl
@[simp] theorem State.wrB_qos (s : State) (f : Field) (b : Bool) : (s.wrB f b).qos = s.qos := rfl
@[simp] theorem State.wrB_mfd (s : State) (f : Field) (b : Bool) : (s.wrB f b).mfd = s.mfd := rfl
@[simp] theorem State.wrB_ftl (s : State) (f : Field) (b : Bool) : (s.wrB f b).ftl = s.ftl := rfl
@[simp] theorem State.wrB_sump (s : State) (f : Field) (b : Bool) : (s.wrB f b).sump = s.sump := rfl
@[simp] theorem State.wrB_shelf (s : State) (f : Field) (b : Bool) : (s.wrB f b).shelf = s.shelf := rfl
@[simp] theorem State.wrB_pod (s : State) (f : Field) (b : Bool) : (s.wrB f b).pod = s.pod := rfl
@[simp] theorem State.wrB_pmu (s : State) (f : Field) (b : Bool) : (s.wrB f b).pmu = s.pmu := rfl
@[simp] theorem State.wrB_seq (s : State) (f : Field) (b : Bool) : (s.wrB f b).seq = s.seq := rfl
@[simp] theorem State.wrB_out (s : State) (f : Field) (b : Bool) : (s.wrB f b).out = s.out := rfl
@[simp] theorem State.wrB_freeCtr (s : State) (f : Field) (b : Bool) : (s.wrB f b).freeCtr = s.freeCtr := rfl
@[simp] theorem State.wrB_pending (s : State) (f : Field) (b : Bool) : (s.wrB f b).pending = s.pending := rfl

/-! `State.wrShadow` changes `regs` alone. -/

@[simp] theorem State.wrShadow_prim (s : State) (f : Field) (v : Nat) : (s.wrShadow f v).prim = s.prim := rfl
@[simp] theorem State.wrShadow_img (s : State) (f : Field) (v : Nat) : (s.wrShadow f v).img = s.img := rfl
@[simp] theorem State.wrShadow_commit (s : State) (f : Field) (v : Nat) : (s.wrShadow f v).commit = s.commit := rfl
@[simp] theorem State.wrShadow_evt (s : State) (f : Field) (v : Nat) : (s.wrShadow f v).evt = s.evt := rfl
@[simp] theorem State.wrShadow_pcie (s : State) (f : Field) (v : Nat) : (s.wrShadow f v).pcie = s.pcie := rfl
@[simp] theorem State.wrShadow_tm (s : State) (f : Field) (v : Nat) : (s.wrShadow f v).tm = s.tm := rfl
@[simp] theorem State.wrShadow_cry (s : State) (f : Field) (v : Nat) : (s.wrShadow f v).cry = s.cry := rfl
@[simp] theorem State.wrShadow_mem (s : State) (f : Field) (v : Nat) : (s.wrShadow f v).mem = s.mem := rfl
@[simp] theorem State.wrShadow_ns (s : State) (f : Field) (v : Nat) : (s.wrShadow f v).ns = s.ns := rfl
@[simp] theorem State.wrShadow_prd (s : State) (f : Field) (v : Nat) : (s.wrShadow f v).prd = s.prd := rfl
@[simp] theorem State.wrShadow_host (s : State) (f : Field) (v : Nat) : (s.wrShadow f v).host = s.host := rfl
@[simp] theorem State.wrShadow_rc (s : State) (f : Field) (v : Nat) : (s.wrShadow f v).rc = s.rc := rfl
@[simp] theorem State.wrShadow_qos (s : State) (f : Field) (v : Nat) : (s.wrShadow f v).qos = s.qos := rfl
@[simp] theorem State.wrShadow_mfd (s : State) (f : Field) (v : Nat) : (s.wrShadow f v).mfd = s.mfd := rfl
@[simp] theorem State.wrShadow_ftl (s : State) (f : Field) (v : Nat) : (s.wrShadow f v).ftl = s.ftl := rfl
@[simp] theorem State.wrShadow_sump (s : State) (f : Field) (v : Nat) : (s.wrShadow f v).sump = s.sump := rfl
@[simp] theorem State.wrShadow_shelf (s : State) (f : Field) (v : Nat) : (s.wrShadow f v).shelf = s.shelf := rfl
@[simp] theorem State.wrShadow_pod (s : State) (f : Field) (v : Nat) : (s.wrShadow f v).pod = s.pod := rfl
@[simp] theorem State.wrShadow_pmu (s : State) (f : Field) (v : Nat) : (s.wrShadow f v).pmu = s.pmu := rfl
@[simp] theorem State.wrShadow_seq (s : State) (f : Field) (v : Nat) : (s.wrShadow f v).seq = s.seq := rfl
@[simp] theorem State.wrShadow_out (s : State) (f : Field) (v : Nat) : (s.wrShadow f v).out = s.out := rfl
@[simp] theorem State.wrShadow_freeCtr (s : State) (f : Field) (v : Nat) : (s.wrShadow f v).freeCtr = s.freeCtr := rfl
@[simp] theorem State.wrShadow_pending (s : State) (f : Field) (v : Nat) : (s.wrShadow f v).pending = s.pending := rfl

/-! `State.wr64` changes `regs` alone. -/

@[simp] theorem State.wr64_prim (s : State) (lo hi : Field) (v : Nat) : (s.wr64 lo hi v).prim = s.prim := rfl
@[simp] theorem State.wr64_img (s : State) (lo hi : Field) (v : Nat) : (s.wr64 lo hi v).img = s.img := rfl
@[simp] theorem State.wr64_commit (s : State) (lo hi : Field) (v : Nat) : (s.wr64 lo hi v).commit = s.commit := rfl
@[simp] theorem State.wr64_evt (s : State) (lo hi : Field) (v : Nat) : (s.wr64 lo hi v).evt = s.evt := rfl
@[simp] theorem State.wr64_pcie (s : State) (lo hi : Field) (v : Nat) : (s.wr64 lo hi v).pcie = s.pcie := rfl
@[simp] theorem State.wr64_tm (s : State) (lo hi : Field) (v : Nat) : (s.wr64 lo hi v).tm = s.tm := rfl
@[simp] theorem State.wr64_cry (s : State) (lo hi : Field) (v : Nat) : (s.wr64 lo hi v).cry = s.cry := rfl
@[simp] theorem State.wr64_mem (s : State) (lo hi : Field) (v : Nat) : (s.wr64 lo hi v).mem = s.mem := rfl
@[simp] theorem State.wr64_ns (s : State) (lo hi : Field) (v : Nat) : (s.wr64 lo hi v).ns = s.ns := rfl
@[simp] theorem State.wr64_prd (s : State) (lo hi : Field) (v : Nat) : (s.wr64 lo hi v).prd = s.prd := rfl
@[simp] theorem State.wr64_host (s : State) (lo hi : Field) (v : Nat) : (s.wr64 lo hi v).host = s.host := rfl
@[simp] theorem State.wr64_rc (s : State) (lo hi : Field) (v : Nat) : (s.wr64 lo hi v).rc = s.rc := rfl
@[simp] theorem State.wr64_qos (s : State) (lo hi : Field) (v : Nat) : (s.wr64 lo hi v).qos = s.qos := rfl
@[simp] theorem State.wr64_mfd (s : State) (lo hi : Field) (v : Nat) : (s.wr64 lo hi v).mfd = s.mfd := rfl
@[simp] theorem State.wr64_ftl (s : State) (lo hi : Field) (v : Nat) : (s.wr64 lo hi v).ftl = s.ftl := rfl
@[simp] theorem State.wr64_sump (s : State) (lo hi : Field) (v : Nat) : (s.wr64 lo hi v).sump = s.sump := rfl
@[simp] theorem State.wr64_shelf (s : State) (lo hi : Field) (v : Nat) : (s.wr64 lo hi v).shelf = s.shelf := rfl
@[simp] theorem State.wr64_pod (s : State) (lo hi : Field) (v : Nat) : (s.wr64 lo hi v).pod = s.pod := rfl
@[simp] theorem State.wr64_pmu (s : State) (lo hi : Field) (v : Nat) : (s.wr64 lo hi v).pmu = s.pmu := rfl
@[simp] theorem State.wr64_seq (s : State) (lo hi : Field) (v : Nat) : (s.wr64 lo hi v).seq = s.seq := rfl
@[simp] theorem State.wr64_out (s : State) (lo hi : Field) (v : Nat) : (s.wr64 lo hi v).out = s.out := rfl
@[simp] theorem State.wr64_freeCtr (s : State) (lo hi : Field) (v : Nat) : (s.wr64 lo hi v).freeCtr = s.freeCtr := rfl
@[simp] theorem State.wr64_pending (s : State) (lo hi : Field) (v : Nat) : (s.wr64 lo hi v).pending = s.pending := rfl

/-! `State.count` changes `regs` alone. -/

@[simp] theorem State.count_prim (s : State) (c : Counter) (n : Nat) : (s.count c n).prim = s.prim := rfl
@[simp] theorem State.count_img (s : State) (c : Counter) (n : Nat) : (s.count c n).img = s.img := rfl
@[simp] theorem State.count_commit (s : State) (c : Counter) (n : Nat) : (s.count c n).commit = s.commit := rfl
@[simp] theorem State.count_evt (s : State) (c : Counter) (n : Nat) : (s.count c n).evt = s.evt := rfl
@[simp] theorem State.count_pcie (s : State) (c : Counter) (n : Nat) : (s.count c n).pcie = s.pcie := rfl
@[simp] theorem State.count_tm (s : State) (c : Counter) (n : Nat) : (s.count c n).tm = s.tm := rfl
@[simp] theorem State.count_cry (s : State) (c : Counter) (n : Nat) : (s.count c n).cry = s.cry := rfl
@[simp] theorem State.count_mem (s : State) (c : Counter) (n : Nat) : (s.count c n).mem = s.mem := rfl
@[simp] theorem State.count_ns (s : State) (c : Counter) (n : Nat) : (s.count c n).ns = s.ns := rfl
@[simp] theorem State.count_prd (s : State) (c : Counter) (n : Nat) : (s.count c n).prd = s.prd := rfl
@[simp] theorem State.count_host (s : State) (c : Counter) (n : Nat) : (s.count c n).host = s.host := rfl
@[simp] theorem State.count_rc (s : State) (c : Counter) (n : Nat) : (s.count c n).rc = s.rc := rfl
@[simp] theorem State.count_qos (s : State) (c : Counter) (n : Nat) : (s.count c n).qos = s.qos := rfl
@[simp] theorem State.count_mfd (s : State) (c : Counter) (n : Nat) : (s.count c n).mfd = s.mfd := rfl
@[simp] theorem State.count_ftl (s : State) (c : Counter) (n : Nat) : (s.count c n).ftl = s.ftl := rfl
@[simp] theorem State.count_sump (s : State) (c : Counter) (n : Nat) : (s.count c n).sump = s.sump := rfl
@[simp] theorem State.count_shelf (s : State) (c : Counter) (n : Nat) : (s.count c n).shelf = s.shelf := rfl
@[simp] theorem State.count_pod (s : State) (c : Counter) (n : Nat) : (s.count c n).pod = s.pod := rfl
@[simp] theorem State.count_pmu (s : State) (c : Counter) (n : Nat) : (s.count c n).pmu = s.pmu := rfl
@[simp] theorem State.count_seq (s : State) (c : Counter) (n : Nat) : (s.count c n).seq = s.seq := rfl
@[simp] theorem State.count_out (s : State) (c : Counter) (n : Nat) : (s.count c n).out = s.out := rfl
@[simp] theorem State.count_freeCtr (s : State) (c : Counter) (n : Nat) : (s.count c n).freeCtr = s.freeCtr := rfl
@[simp] theorem State.count_pending (s : State) (c : Counter) (n : Nat) : (s.count c n).pending = s.pending := rfl

/-! `State.clearCounter` changes `regs` alone. -/

@[simp] theorem State.clearCounter_prim (s : State) (c : Counter) : (s.clearCounter c).prim = s.prim := rfl
@[simp] theorem State.clearCounter_img (s : State) (c : Counter) : (s.clearCounter c).img = s.img := rfl
@[simp] theorem State.clearCounter_commit (s : State) (c : Counter) : (s.clearCounter c).commit = s.commit := rfl
@[simp] theorem State.clearCounter_evt (s : State) (c : Counter) : (s.clearCounter c).evt = s.evt := rfl
@[simp] theorem State.clearCounter_pcie (s : State) (c : Counter) : (s.clearCounter c).pcie = s.pcie := rfl
@[simp] theorem State.clearCounter_tm (s : State) (c : Counter) : (s.clearCounter c).tm = s.tm := rfl
@[simp] theorem State.clearCounter_cry (s : State) (c : Counter) : (s.clearCounter c).cry = s.cry := rfl
@[simp] theorem State.clearCounter_mem (s : State) (c : Counter) : (s.clearCounter c).mem = s.mem := rfl
@[simp] theorem State.clearCounter_ns (s : State) (c : Counter) : (s.clearCounter c).ns = s.ns := rfl
@[simp] theorem State.clearCounter_prd (s : State) (c : Counter) : (s.clearCounter c).prd = s.prd := rfl
@[simp] theorem State.clearCounter_host (s : State) (c : Counter) : (s.clearCounter c).host = s.host := rfl
@[simp] theorem State.clearCounter_rc (s : State) (c : Counter) : (s.clearCounter c).rc = s.rc := rfl
@[simp] theorem State.clearCounter_qos (s : State) (c : Counter) : (s.clearCounter c).qos = s.qos := rfl
@[simp] theorem State.clearCounter_mfd (s : State) (c : Counter) : (s.clearCounter c).mfd = s.mfd := rfl
@[simp] theorem State.clearCounter_ftl (s : State) (c : Counter) : (s.clearCounter c).ftl = s.ftl := rfl
@[simp] theorem State.clearCounter_sump (s : State) (c : Counter) : (s.clearCounter c).sump = s.sump := rfl
@[simp] theorem State.clearCounter_shelf (s : State) (c : Counter) : (s.clearCounter c).shelf = s.shelf := rfl
@[simp] theorem State.clearCounter_pod (s : State) (c : Counter) : (s.clearCounter c).pod = s.pod := rfl
@[simp] theorem State.clearCounter_pmu (s : State) (c : Counter) : (s.clearCounter c).pmu = s.pmu := rfl
@[simp] theorem State.clearCounter_seq (s : State) (c : Counter) : (s.clearCounter c).seq = s.seq := rfl
@[simp] theorem State.clearCounter_out (s : State) (c : Counter) : (s.clearCounter c).out = s.out := rfl
@[simp] theorem State.clearCounter_freeCtr (s : State) (c : Counter) : (s.clearCounter c).freeCtr = s.freeCtr := rfl
@[simp] theorem State.clearCounter_pending (s : State) (c : Counter) : (s.clearCounter c).pending = s.pending := rfl

/-! `State.setErr` changes `regs` alone. -/

@[simp] theorem State.setErr_prim (s : State) (b : Block) (bit : Nat) : (s.setErr b bit).prim = s.prim := rfl
@[simp] theorem State.setErr_img (s : State) (b : Block) (bit : Nat) : (s.setErr b bit).img = s.img := rfl
@[simp] theorem State.setErr_commit (s : State) (b : Block) (bit : Nat) : (s.setErr b bit).commit = s.commit := rfl
@[simp] theorem State.setErr_evt (s : State) (b : Block) (bit : Nat) : (s.setErr b bit).evt = s.evt := rfl
@[simp] theorem State.setErr_pcie (s : State) (b : Block) (bit : Nat) : (s.setErr b bit).pcie = s.pcie := rfl
@[simp] theorem State.setErr_tm (s : State) (b : Block) (bit : Nat) : (s.setErr b bit).tm = s.tm := rfl
@[simp] theorem State.setErr_cry (s : State) (b : Block) (bit : Nat) : (s.setErr b bit).cry = s.cry := rfl
@[simp] theorem State.setErr_mem (s : State) (b : Block) (bit : Nat) : (s.setErr b bit).mem = s.mem := rfl
@[simp] theorem State.setErr_ns (s : State) (b : Block) (bit : Nat) : (s.setErr b bit).ns = s.ns := rfl
@[simp] theorem State.setErr_prd (s : State) (b : Block) (bit : Nat) : (s.setErr b bit).prd = s.prd := rfl
@[simp] theorem State.setErr_host (s : State) (b : Block) (bit : Nat) : (s.setErr b bit).host = s.host := rfl
@[simp] theorem State.setErr_rc (s : State) (b : Block) (bit : Nat) : (s.setErr b bit).rc = s.rc := rfl
@[simp] theorem State.setErr_qos (s : State) (b : Block) (bit : Nat) : (s.setErr b bit).qos = s.qos := rfl
@[simp] theorem State.setErr_mfd (s : State) (b : Block) (bit : Nat) : (s.setErr b bit).mfd = s.mfd := rfl
@[simp] theorem State.setErr_ftl (s : State) (b : Block) (bit : Nat) : (s.setErr b bit).ftl = s.ftl := rfl
@[simp] theorem State.setErr_sump (s : State) (b : Block) (bit : Nat) : (s.setErr b bit).sump = s.sump := rfl
@[simp] theorem State.setErr_shelf (s : State) (b : Block) (bit : Nat) : (s.setErr b bit).shelf = s.shelf := rfl
@[simp] theorem State.setErr_pod (s : State) (b : Block) (bit : Nat) : (s.setErr b bit).pod = s.pod := rfl
@[simp] theorem State.setErr_pmu (s : State) (b : Block) (bit : Nat) : (s.setErr b bit).pmu = s.pmu := rfl
@[simp] theorem State.setErr_seq (s : State) (b : Block) (bit : Nat) : (s.setErr b bit).seq = s.seq := rfl
@[simp] theorem State.setErr_out (s : State) (b : Block) (bit : Nat) : (s.setErr b bit).out = s.out := rfl
@[simp] theorem State.setErr_freeCtr (s : State) (b : Block) (bit : Nat) : (s.setErr b bit).freeCtr = s.freeCtr := rfl
@[simp] theorem State.setErr_pending (s : State) (b : Block) (bit : Nat) : (s.setErr b bit).pending = s.pending := rfl

/-! `State.send` changes `out` alone. -/

@[simp] theorem State.send_regs (s : State) (o : Out) : (s.send o).regs = s.regs := rfl
@[simp] theorem State.send_prim (s : State) (o : Out) : (s.send o).prim = s.prim := rfl
@[simp] theorem State.send_img (s : State) (o : Out) : (s.send o).img = s.img := rfl
@[simp] theorem State.send_commit (s : State) (o : Out) : (s.send o).commit = s.commit := rfl
@[simp] theorem State.send_evt (s : State) (o : Out) : (s.send o).evt = s.evt := rfl
@[simp] theorem State.send_pcie (s : State) (o : Out) : (s.send o).pcie = s.pcie := rfl
@[simp] theorem State.send_tm (s : State) (o : Out) : (s.send o).tm = s.tm := rfl
@[simp] theorem State.send_cry (s : State) (o : Out) : (s.send o).cry = s.cry := rfl
@[simp] theorem State.send_mem (s : State) (o : Out) : (s.send o).mem = s.mem := rfl
@[simp] theorem State.send_ns (s : State) (o : Out) : (s.send o).ns = s.ns := rfl
@[simp] theorem State.send_prd (s : State) (o : Out) : (s.send o).prd = s.prd := rfl
@[simp] theorem State.send_host (s : State) (o : Out) : (s.send o).host = s.host := rfl
@[simp] theorem State.send_rc (s : State) (o : Out) : (s.send o).rc = s.rc := rfl
@[simp] theorem State.send_qos (s : State) (o : Out) : (s.send o).qos = s.qos := rfl
@[simp] theorem State.send_mfd (s : State) (o : Out) : (s.send o).mfd = s.mfd := rfl
@[simp] theorem State.send_ftl (s : State) (o : Out) : (s.send o).ftl = s.ftl := rfl
@[simp] theorem State.send_sump (s : State) (o : Out) : (s.send o).sump = s.sump := rfl
@[simp] theorem State.send_shelf (s : State) (o : Out) : (s.send o).shelf = s.shelf := rfl
@[simp] theorem State.send_pod (s : State) (o : Out) : (s.send o).pod = s.pod := rfl
@[simp] theorem State.send_pmu (s : State) (o : Out) : (s.send o).pmu = s.pmu := rfl
@[simp] theorem State.send_seq (s : State) (o : Out) : (s.send o).seq = s.seq := rfl
@[simp] theorem State.send_freeCtr (s : State) (o : Out) : (s.send o).freeCtr = s.freeCtr := rfl
@[simp] theorem State.send_pending (s : State) (o : Out) : (s.send o).pending = s.pending := rfl

/-! `State.freeNext` changes `freeCtr` alone. -/

@[simp] theorem State.freeNext_regs (s : State) : (s.freeNext).regs = s.regs := rfl
@[simp] theorem State.freeNext_prim (s : State) : (s.freeNext).prim = s.prim := rfl
@[simp] theorem State.freeNext_img (s : State) : (s.freeNext).img = s.img := rfl
@[simp] theorem State.freeNext_commit (s : State) : (s.freeNext).commit = s.commit := rfl
@[simp] theorem State.freeNext_evt (s : State) : (s.freeNext).evt = s.evt := rfl
@[simp] theorem State.freeNext_pcie (s : State) : (s.freeNext).pcie = s.pcie := rfl
@[simp] theorem State.freeNext_tm (s : State) : (s.freeNext).tm = s.tm := rfl
@[simp] theorem State.freeNext_cry (s : State) : (s.freeNext).cry = s.cry := rfl
@[simp] theorem State.freeNext_mem (s : State) : (s.freeNext).mem = s.mem := rfl
@[simp] theorem State.freeNext_ns (s : State) : (s.freeNext).ns = s.ns := rfl
@[simp] theorem State.freeNext_prd (s : State) : (s.freeNext).prd = s.prd := rfl
@[simp] theorem State.freeNext_host (s : State) : (s.freeNext).host = s.host := rfl
@[simp] theorem State.freeNext_rc (s : State) : (s.freeNext).rc = s.rc := rfl
@[simp] theorem State.freeNext_qos (s : State) : (s.freeNext).qos = s.qos := rfl
@[simp] theorem State.freeNext_mfd (s : State) : (s.freeNext).mfd = s.mfd := rfl
@[simp] theorem State.freeNext_ftl (s : State) : (s.freeNext).ftl = s.ftl := rfl
@[simp] theorem State.freeNext_sump (s : State) : (s.freeNext).sump = s.sump := rfl
@[simp] theorem State.freeNext_shelf (s : State) : (s.freeNext).shelf = s.shelf := rfl
@[simp] theorem State.freeNext_pod (s : State) : (s.freeNext).pod = s.pod := rfl
@[simp] theorem State.freeNext_pmu (s : State) : (s.freeNext).pmu = s.pmu := rfl
@[simp] theorem State.freeNext_seq (s : State) : (s.freeNext).seq = s.seq := rfl
@[simp] theorem State.freeNext_out (s : State) : (s.freeNext).out = s.out := rfl
@[simp] theorem State.freeNext_pending (s : State) : (s.freeNext).pending = s.pending := rfl

/-! `State.withPending` changes `pending` alone. -/

@[simp] theorem State.withPending_regs (s : State) (q : List Instr) : (s.withPending q).regs = s.regs := rfl
@[simp] theorem State.withPending_prim (s : State) (q : List Instr) : (s.withPending q).prim = s.prim := rfl
@[simp] theorem State.withPending_img (s : State) (q : List Instr) : (s.withPending q).img = s.img := rfl
@[simp] theorem State.withPending_commit (s : State) (q : List Instr) : (s.withPending q).commit = s.commit := rfl
@[simp] theorem State.withPending_evt (s : State) (q : List Instr) : (s.withPending q).evt = s.evt := rfl
@[simp] theorem State.withPending_pcie (s : State) (q : List Instr) : (s.withPending q).pcie = s.pcie := rfl
@[simp] theorem State.withPending_tm (s : State) (q : List Instr) : (s.withPending q).tm = s.tm := rfl
@[simp] theorem State.withPending_cry (s : State) (q : List Instr) : (s.withPending q).cry = s.cry := rfl
@[simp] theorem State.withPending_mem (s : State) (q : List Instr) : (s.withPending q).mem = s.mem := rfl
@[simp] theorem State.withPending_ns (s : State) (q : List Instr) : (s.withPending q).ns = s.ns := rfl
@[simp] theorem State.withPending_prd (s : State) (q : List Instr) : (s.withPending q).prd = s.prd := rfl
@[simp] theorem State.withPending_host (s : State) (q : List Instr) : (s.withPending q).host = s.host := rfl
@[simp] theorem State.withPending_rc (s : State) (q : List Instr) : (s.withPending q).rc = s.rc := rfl
@[simp] theorem State.withPending_qos (s : State) (q : List Instr) : (s.withPending q).qos = s.qos := rfl
@[simp] theorem State.withPending_mfd (s : State) (q : List Instr) : (s.withPending q).mfd = s.mfd := rfl
@[simp] theorem State.withPending_ftl (s : State) (q : List Instr) : (s.withPending q).ftl = s.ftl := rfl
@[simp] theorem State.withPending_sump (s : State) (q : List Instr) : (s.withPending q).sump = s.sump := rfl
@[simp] theorem State.withPending_shelf (s : State) (q : List Instr) : (s.withPending q).shelf = s.shelf := rfl
@[simp] theorem State.withPending_pod (s : State) (q : List Instr) : (s.withPending q).pod = s.pod := rfl
@[simp] theorem State.withPending_pmu (s : State) (q : List Instr) : (s.withPending q).pmu = s.pmu := rfl
@[simp] theorem State.withPending_seq (s : State) (q : List Instr) : (s.withPending q).seq = s.seq := rfl
@[simp] theorem State.withPending_out (s : State) (q : List Instr) : (s.withPending q).out = s.out := rfl
@[simp] theorem State.withPending_freeCtr (s : State) (q : List Instr) : (s.withPending q).freeCtr = s.freeCtr := rfl

/-! `State.updCtlr` changes `host` alone. -/

@[simp] theorem State.updCtlr_regs (s : State) (n : Nat) (f : Ctlr → Ctlr) : (s.updCtlr n f).regs = s.regs := rfl
@[simp] theorem State.updCtlr_prim (s : State) (n : Nat) (f : Ctlr → Ctlr) : (s.updCtlr n f).prim = s.prim := rfl
@[simp] theorem State.updCtlr_img (s : State) (n : Nat) (f : Ctlr → Ctlr) : (s.updCtlr n f).img = s.img := rfl
@[simp] theorem State.updCtlr_commit (s : State) (n : Nat) (f : Ctlr → Ctlr) : (s.updCtlr n f).commit = s.commit := rfl
@[simp] theorem State.updCtlr_evt (s : State) (n : Nat) (f : Ctlr → Ctlr) : (s.updCtlr n f).evt = s.evt := rfl
@[simp] theorem State.updCtlr_pcie (s : State) (n : Nat) (f : Ctlr → Ctlr) : (s.updCtlr n f).pcie = s.pcie := rfl
@[simp] theorem State.updCtlr_tm (s : State) (n : Nat) (f : Ctlr → Ctlr) : (s.updCtlr n f).tm = s.tm := rfl
@[simp] theorem State.updCtlr_cry (s : State) (n : Nat) (f : Ctlr → Ctlr) : (s.updCtlr n f).cry = s.cry := rfl
@[simp] theorem State.updCtlr_mem (s : State) (n : Nat) (f : Ctlr → Ctlr) : (s.updCtlr n f).mem = s.mem := rfl
@[simp] theorem State.updCtlr_ns (s : State) (n : Nat) (f : Ctlr → Ctlr) : (s.updCtlr n f).ns = s.ns := rfl
@[simp] theorem State.updCtlr_prd (s : State) (n : Nat) (f : Ctlr → Ctlr) : (s.updCtlr n f).prd = s.prd := rfl
@[simp] theorem State.updCtlr_rc (s : State) (n : Nat) (f : Ctlr → Ctlr) : (s.updCtlr n f).rc = s.rc := rfl
@[simp] theorem State.updCtlr_qos (s : State) (n : Nat) (f : Ctlr → Ctlr) : (s.updCtlr n f).qos = s.qos := rfl
@[simp] theorem State.updCtlr_mfd (s : State) (n : Nat) (f : Ctlr → Ctlr) : (s.updCtlr n f).mfd = s.mfd := rfl
@[simp] theorem State.updCtlr_ftl (s : State) (n : Nat) (f : Ctlr → Ctlr) : (s.updCtlr n f).ftl = s.ftl := rfl
@[simp] theorem State.updCtlr_sump (s : State) (n : Nat) (f : Ctlr → Ctlr) : (s.updCtlr n f).sump = s.sump := rfl
@[simp] theorem State.updCtlr_shelf (s : State) (n : Nat) (f : Ctlr → Ctlr) : (s.updCtlr n f).shelf = s.shelf := rfl
@[simp] theorem State.updCtlr_pod (s : State) (n : Nat) (f : Ctlr → Ctlr) : (s.updCtlr n f).pod = s.pod := rfl
@[simp] theorem State.updCtlr_pmu (s : State) (n : Nat) (f : Ctlr → Ctlr) : (s.updCtlr n f).pmu = s.pmu := rfl
@[simp] theorem State.updCtlr_seq (s : State) (n : Nat) (f : Ctlr → Ctlr) : (s.updCtlr n f).seq = s.seq := rfl
@[simp] theorem State.updCtlr_out (s : State) (n : Nat) (f : Ctlr → Ctlr) : (s.updCtlr n f).out = s.out := rfl
@[simp] theorem State.updCtlr_freeCtr (s : State) (n : Nat) (f : Ctlr → Ctlr) : (s.updCtlr n f).freeCtr = s.freeCtr := rfl
@[simp] theorem State.updCtlr_pending (s : State) (n : Nat) (f : Ctlr → Ctlr) : (s.updCtlr n f).pending = s.pending := rfl

/-! `State.updQp` changes `rc` alone. -/

@[simp] theorem State.updQp_regs (s : State) (q : Nat) (f : Qp → Qp) : (s.updQp q f).regs = s.regs := rfl
@[simp] theorem State.updQp_prim (s : State) (q : Nat) (f : Qp → Qp) : (s.updQp q f).prim = s.prim := rfl
@[simp] theorem State.updQp_img (s : State) (q : Nat) (f : Qp → Qp) : (s.updQp q f).img = s.img := rfl
@[simp] theorem State.updQp_commit (s : State) (q : Nat) (f : Qp → Qp) : (s.updQp q f).commit = s.commit := rfl
@[simp] theorem State.updQp_evt (s : State) (q : Nat) (f : Qp → Qp) : (s.updQp q f).evt = s.evt := rfl
@[simp] theorem State.updQp_pcie (s : State) (q : Nat) (f : Qp → Qp) : (s.updQp q f).pcie = s.pcie := rfl
@[simp] theorem State.updQp_tm (s : State) (q : Nat) (f : Qp → Qp) : (s.updQp q f).tm = s.tm := rfl
@[simp] theorem State.updQp_cry (s : State) (q : Nat) (f : Qp → Qp) : (s.updQp q f).cry = s.cry := rfl
@[simp] theorem State.updQp_mem (s : State) (q : Nat) (f : Qp → Qp) : (s.updQp q f).mem = s.mem := rfl
@[simp] theorem State.updQp_ns (s : State) (q : Nat) (f : Qp → Qp) : (s.updQp q f).ns = s.ns := rfl
@[simp] theorem State.updQp_prd (s : State) (q : Nat) (f : Qp → Qp) : (s.updQp q f).prd = s.prd := rfl
@[simp] theorem State.updQp_host (s : State) (q : Nat) (f : Qp → Qp) : (s.updQp q f).host = s.host := rfl
@[simp] theorem State.updQp_qos (s : State) (q : Nat) (f : Qp → Qp) : (s.updQp q f).qos = s.qos := rfl
@[simp] theorem State.updQp_mfd (s : State) (q : Nat) (f : Qp → Qp) : (s.updQp q f).mfd = s.mfd := rfl
@[simp] theorem State.updQp_ftl (s : State) (q : Nat) (f : Qp → Qp) : (s.updQp q f).ftl = s.ftl := rfl
@[simp] theorem State.updQp_sump (s : State) (q : Nat) (f : Qp → Qp) : (s.updQp q f).sump = s.sump := rfl
@[simp] theorem State.updQp_shelf (s : State) (q : Nat) (f : Qp → Qp) : (s.updQp q f).shelf = s.shelf := rfl
@[simp] theorem State.updQp_pod (s : State) (q : Nat) (f : Qp → Qp) : (s.updQp q f).pod = s.pod := rfl
@[simp] theorem State.updQp_pmu (s : State) (q : Nat) (f : Qp → Qp) : (s.updQp q f).pmu = s.pmu := rfl
@[simp] theorem State.updQp_seq (s : State) (q : Nat) (f : Qp → Qp) : (s.updQp q f).seq = s.seq := rfl
@[simp] theorem State.updQp_out (s : State) (q : Nat) (f : Qp → Qp) : (s.updQp q f).out = s.out := rfl
@[simp] theorem State.updQp_freeCtr (s : State) (q : Nat) (f : Qp → Qp) : (s.updQp q f).freeCtr = s.freeCtr := rfl
@[simp] theorem State.updQp_pending (s : State) (q : Nat) (f : Qp → Qp) : (s.updQp q f).pending = s.pending := rfl

/-! `State.updFn` changes `pcie` alone. -/

@[simp] theorem State.updFn_regs (s : State) (fn : Nat) (g : PcieFn → PcieFn) : (s.updFn fn g).regs = s.regs := rfl
@[simp] theorem State.updFn_prim (s : State) (fn : Nat) (g : PcieFn → PcieFn) : (s.updFn fn g).prim = s.prim := rfl
@[simp] theorem State.updFn_img (s : State) (fn : Nat) (g : PcieFn → PcieFn) : (s.updFn fn g).img = s.img := rfl
@[simp] theorem State.updFn_commit (s : State) (fn : Nat) (g : PcieFn → PcieFn) : (s.updFn fn g).commit = s.commit := rfl
@[simp] theorem State.updFn_evt (s : State) (fn : Nat) (g : PcieFn → PcieFn) : (s.updFn fn g).evt = s.evt := rfl
@[simp] theorem State.updFn_tm (s : State) (fn : Nat) (g : PcieFn → PcieFn) : (s.updFn fn g).tm = s.tm := rfl
@[simp] theorem State.updFn_cry (s : State) (fn : Nat) (g : PcieFn → PcieFn) : (s.updFn fn g).cry = s.cry := rfl
@[simp] theorem State.updFn_mem (s : State) (fn : Nat) (g : PcieFn → PcieFn) : (s.updFn fn g).mem = s.mem := rfl
@[simp] theorem State.updFn_ns (s : State) (fn : Nat) (g : PcieFn → PcieFn) : (s.updFn fn g).ns = s.ns := rfl
@[simp] theorem State.updFn_prd (s : State) (fn : Nat) (g : PcieFn → PcieFn) : (s.updFn fn g).prd = s.prd := rfl
@[simp] theorem State.updFn_host (s : State) (fn : Nat) (g : PcieFn → PcieFn) : (s.updFn fn g).host = s.host := rfl
@[simp] theorem State.updFn_rc (s : State) (fn : Nat) (g : PcieFn → PcieFn) : (s.updFn fn g).rc = s.rc := rfl
@[simp] theorem State.updFn_qos (s : State) (fn : Nat) (g : PcieFn → PcieFn) : (s.updFn fn g).qos = s.qos := rfl
@[simp] theorem State.updFn_mfd (s : State) (fn : Nat) (g : PcieFn → PcieFn) : (s.updFn fn g).mfd = s.mfd := rfl
@[simp] theorem State.updFn_ftl (s : State) (fn : Nat) (g : PcieFn → PcieFn) : (s.updFn fn g).ftl = s.ftl := rfl
@[simp] theorem State.updFn_sump (s : State) (fn : Nat) (g : PcieFn → PcieFn) : (s.updFn fn g).sump = s.sump := rfl
@[simp] theorem State.updFn_shelf (s : State) (fn : Nat) (g : PcieFn → PcieFn) : (s.updFn fn g).shelf = s.shelf := rfl
@[simp] theorem State.updFn_pod (s : State) (fn : Nat) (g : PcieFn → PcieFn) : (s.updFn fn g).pod = s.pod := rfl
@[simp] theorem State.updFn_pmu (s : State) (fn : Nat) (g : PcieFn → PcieFn) : (s.updFn fn g).pmu = s.pmu := rfl
@[simp] theorem State.updFn_seq (s : State) (fn : Nat) (g : PcieFn → PcieFn) : (s.updFn fn g).seq = s.seq := rfl
@[simp] theorem State.updFn_out (s : State) (fn : Nat) (g : PcieFn → PcieFn) : (s.updFn fn g).out = s.out := rfl
@[simp] theorem State.updFn_freeCtr (s : State) (fn : Nat) (g : PcieFn → PcieFn) : (s.updFn fn g).freeCtr = s.freeCtr := rfl
@[simp] theorem State.updFn_pending (s : State) (fn : Nat) (g : PcieFn → PcieFn) : (s.updFn fn g).pending = s.pending := rfl

/-! `State.updLink` changes `shelf` alone. -/

@[simp] theorem State.updLink_regs (s : State) (n : Nat) (f : Link → Link) : (s.updLink n f).regs = s.regs := rfl
@[simp] theorem State.updLink_prim (s : State) (n : Nat) (f : Link → Link) : (s.updLink n f).prim = s.prim := rfl
@[simp] theorem State.updLink_img (s : State) (n : Nat) (f : Link → Link) : (s.updLink n f).img = s.img := rfl
@[simp] theorem State.updLink_commit (s : State) (n : Nat) (f : Link → Link) : (s.updLink n f).commit = s.commit := rfl
@[simp] theorem State.updLink_evt (s : State) (n : Nat) (f : Link → Link) : (s.updLink n f).evt = s.evt := rfl
@[simp] theorem State.updLink_pcie (s : State) (n : Nat) (f : Link → Link) : (s.updLink n f).pcie = s.pcie := rfl
@[simp] theorem State.updLink_tm (s : State) (n : Nat) (f : Link → Link) : (s.updLink n f).tm = s.tm := rfl
@[simp] theorem State.updLink_cry (s : State) (n : Nat) (f : Link → Link) : (s.updLink n f).cry = s.cry := rfl
@[simp] theorem State.updLink_mem (s : State) (n : Nat) (f : Link → Link) : (s.updLink n f).mem = s.mem := rfl
@[simp] theorem State.updLink_ns (s : State) (n : Nat) (f : Link → Link) : (s.updLink n f).ns = s.ns := rfl
@[simp] theorem State.updLink_prd (s : State) (n : Nat) (f : Link → Link) : (s.updLink n f).prd = s.prd := rfl
@[simp] theorem State.updLink_host (s : State) (n : Nat) (f : Link → Link) : (s.updLink n f).host = s.host := rfl
@[simp] theorem State.updLink_rc (s : State) (n : Nat) (f : Link → Link) : (s.updLink n f).rc = s.rc := rfl
@[simp] theorem State.updLink_qos (s : State) (n : Nat) (f : Link → Link) : (s.updLink n f).qos = s.qos := rfl
@[simp] theorem State.updLink_mfd (s : State) (n : Nat) (f : Link → Link) : (s.updLink n f).mfd = s.mfd := rfl
@[simp] theorem State.updLink_ftl (s : State) (n : Nat) (f : Link → Link) : (s.updLink n f).ftl = s.ftl := rfl
@[simp] theorem State.updLink_sump (s : State) (n : Nat) (f : Link → Link) : (s.updLink n f).sump = s.sump := rfl
@[simp] theorem State.updLink_pod (s : State) (n : Nat) (f : Link → Link) : (s.updLink n f).pod = s.pod := rfl
@[simp] theorem State.updLink_pmu (s : State) (n : Nat) (f : Link → Link) : (s.updLink n f).pmu = s.pmu := rfl
@[simp] theorem State.updLink_seq (s : State) (n : Nat) (f : Link → Link) : (s.updLink n f).seq = s.seq := rfl
@[simp] theorem State.updLink_out (s : State) (n : Nat) (f : Link → Link) : (s.updLink n f).out = s.out := rfl
@[simp] theorem State.updLink_freeCtr (s : State) (n : Nat) (f : Link → Link) : (s.updLink n f).freeCtr = s.freeCtr := rfl
@[simp] theorem State.updLink_pending (s : State) (n : Nat) (f : Link → Link) : (s.updLink n f).pending = s.pending := rfl

/-! `State.updTank` changes `ftl` alone. -/

@[simp] theorem State.updTank_regs (s : State) (t : Nat) (f : Tank → Tank) : (s.updTank t f).regs = s.regs := rfl
@[simp] theorem State.updTank_prim (s : State) (t : Nat) (f : Tank → Tank) : (s.updTank t f).prim = s.prim := rfl
@[simp] theorem State.updTank_img (s : State) (t : Nat) (f : Tank → Tank) : (s.updTank t f).img = s.img := rfl
@[simp] theorem State.updTank_commit (s : State) (t : Nat) (f : Tank → Tank) : (s.updTank t f).commit = s.commit := rfl
@[simp] theorem State.updTank_evt (s : State) (t : Nat) (f : Tank → Tank) : (s.updTank t f).evt = s.evt := rfl
@[simp] theorem State.updTank_pcie (s : State) (t : Nat) (f : Tank → Tank) : (s.updTank t f).pcie = s.pcie := rfl
@[simp] theorem State.updTank_tm (s : State) (t : Nat) (f : Tank → Tank) : (s.updTank t f).tm = s.tm := rfl
@[simp] theorem State.updTank_cry (s : State) (t : Nat) (f : Tank → Tank) : (s.updTank t f).cry = s.cry := rfl
@[simp] theorem State.updTank_mem (s : State) (t : Nat) (f : Tank → Tank) : (s.updTank t f).mem = s.mem := rfl
@[simp] theorem State.updTank_ns (s : State) (t : Nat) (f : Tank → Tank) : (s.updTank t f).ns = s.ns := rfl
@[simp] theorem State.updTank_prd (s : State) (t : Nat) (f : Tank → Tank) : (s.updTank t f).prd = s.prd := rfl
@[simp] theorem State.updTank_host (s : State) (t : Nat) (f : Tank → Tank) : (s.updTank t f).host = s.host := rfl
@[simp] theorem State.updTank_rc (s : State) (t : Nat) (f : Tank → Tank) : (s.updTank t f).rc = s.rc := rfl
@[simp] theorem State.updTank_qos (s : State) (t : Nat) (f : Tank → Tank) : (s.updTank t f).qos = s.qos := rfl
@[simp] theorem State.updTank_mfd (s : State) (t : Nat) (f : Tank → Tank) : (s.updTank t f).mfd = s.mfd := rfl
@[simp] theorem State.updTank_sump (s : State) (t : Nat) (f : Tank → Tank) : (s.updTank t f).sump = s.sump := rfl
@[simp] theorem State.updTank_shelf (s : State) (t : Nat) (f : Tank → Tank) : (s.updTank t f).shelf = s.shelf := rfl
@[simp] theorem State.updTank_pod (s : State) (t : Nat) (f : Tank → Tank) : (s.updTank t f).pod = s.pod := rfl
@[simp] theorem State.updTank_pmu (s : State) (t : Nat) (f : Tank → Tank) : (s.updTank t f).pmu = s.pmu := rfl
@[simp] theorem State.updTank_seq (s : State) (t : Nat) (f : Tank → Tank) : (s.updTank t f).seq = s.seq := rfl
@[simp] theorem State.updTank_out (s : State) (t : Nat) (f : Tank → Tank) : (s.updTank t f).out = s.out := rfl
@[simp] theorem State.updTank_freeCtr (s : State) (t : Nat) (f : Tank → Tank) : (s.updTank t f).freeCtr = s.freeCtr := rfl
@[simp] theorem State.updTank_pending (s : State) (t : Nat) (f : Tank → Tank) : (s.updTank t f).pending = s.pending := rfl

/-! `State.updBlk` changes `ftl` alone. -/

@[simp] theorem State.updBlk_regs (s : State) (k : Nat) (f : Blk → Blk) : (s.updBlk k f).regs = s.regs := rfl
@[simp] theorem State.updBlk_prim (s : State) (k : Nat) (f : Blk → Blk) : (s.updBlk k f).prim = s.prim := rfl
@[simp] theorem State.updBlk_img (s : State) (k : Nat) (f : Blk → Blk) : (s.updBlk k f).img = s.img := rfl
@[simp] theorem State.updBlk_commit (s : State) (k : Nat) (f : Blk → Blk) : (s.updBlk k f).commit = s.commit := rfl
@[simp] theorem State.updBlk_evt (s : State) (k : Nat) (f : Blk → Blk) : (s.updBlk k f).evt = s.evt := rfl
@[simp] theorem State.updBlk_pcie (s : State) (k : Nat) (f : Blk → Blk) : (s.updBlk k f).pcie = s.pcie := rfl
@[simp] theorem State.updBlk_tm (s : State) (k : Nat) (f : Blk → Blk) : (s.updBlk k f).tm = s.tm := rfl
@[simp] theorem State.updBlk_cry (s : State) (k : Nat) (f : Blk → Blk) : (s.updBlk k f).cry = s.cry := rfl
@[simp] theorem State.updBlk_mem (s : State) (k : Nat) (f : Blk → Blk) : (s.updBlk k f).mem = s.mem := rfl
@[simp] theorem State.updBlk_ns (s : State) (k : Nat) (f : Blk → Blk) : (s.updBlk k f).ns = s.ns := rfl
@[simp] theorem State.updBlk_prd (s : State) (k : Nat) (f : Blk → Blk) : (s.updBlk k f).prd = s.prd := rfl
@[simp] theorem State.updBlk_host (s : State) (k : Nat) (f : Blk → Blk) : (s.updBlk k f).host = s.host := rfl
@[simp] theorem State.updBlk_rc (s : State) (k : Nat) (f : Blk → Blk) : (s.updBlk k f).rc = s.rc := rfl
@[simp] theorem State.updBlk_qos (s : State) (k : Nat) (f : Blk → Blk) : (s.updBlk k f).qos = s.qos := rfl
@[simp] theorem State.updBlk_mfd (s : State) (k : Nat) (f : Blk → Blk) : (s.updBlk k f).mfd = s.mfd := rfl
@[simp] theorem State.updBlk_sump (s : State) (k : Nat) (f : Blk → Blk) : (s.updBlk k f).sump = s.sump := rfl
@[simp] theorem State.updBlk_shelf (s : State) (k : Nat) (f : Blk → Blk) : (s.updBlk k f).shelf = s.shelf := rfl
@[simp] theorem State.updBlk_pod (s : State) (k : Nat) (f : Blk → Blk) : (s.updBlk k f).pod = s.pod := rfl
@[simp] theorem State.updBlk_pmu (s : State) (k : Nat) (f : Blk → Blk) : (s.updBlk k f).pmu = s.pmu := rfl
@[simp] theorem State.updBlk_seq (s : State) (k : Nat) (f : Blk → Blk) : (s.updBlk k f).seq = s.seq := rfl
@[simp] theorem State.updBlk_out (s : State) (k : Nat) (f : Blk → Blk) : (s.updBlk k f).out = s.out := rfl
@[simp] theorem State.updBlk_freeCtr (s : State) (k : Nat) (f : Blk → Blk) : (s.updBlk k f).freeCtr = s.freeCtr := rfl
@[simp] theorem State.updBlk_pending (s : State) (k : Nat) (f : Blk → Blk) : (s.updBlk k f).pending = s.pending := rfl

/-! `State.updRegion` changes `sump` alone. -/

@[simp] theorem State.updRegion_regs (s : State) (i : Nat) (f : Region → Region) : (s.updRegion i f).regs = s.regs := rfl
@[simp] theorem State.updRegion_prim (s : State) (i : Nat) (f : Region → Region) : (s.updRegion i f).prim = s.prim := rfl
@[simp] theorem State.updRegion_img (s : State) (i : Nat) (f : Region → Region) : (s.updRegion i f).img = s.img := rfl
@[simp] theorem State.updRegion_commit (s : State) (i : Nat) (f : Region → Region) : (s.updRegion i f).commit = s.commit := rfl
@[simp] theorem State.updRegion_evt (s : State) (i : Nat) (f : Region → Region) : (s.updRegion i f).evt = s.evt := rfl
@[simp] theorem State.updRegion_pcie (s : State) (i : Nat) (f : Region → Region) : (s.updRegion i f).pcie = s.pcie := rfl
@[simp] theorem State.updRegion_tm (s : State) (i : Nat) (f : Region → Region) : (s.updRegion i f).tm = s.tm := rfl
@[simp] theorem State.updRegion_cry (s : State) (i : Nat) (f : Region → Region) : (s.updRegion i f).cry = s.cry := rfl
@[simp] theorem State.updRegion_mem (s : State) (i : Nat) (f : Region → Region) : (s.updRegion i f).mem = s.mem := rfl
@[simp] theorem State.updRegion_ns (s : State) (i : Nat) (f : Region → Region) : (s.updRegion i f).ns = s.ns := rfl
@[simp] theorem State.updRegion_prd (s : State) (i : Nat) (f : Region → Region) : (s.updRegion i f).prd = s.prd := rfl
@[simp] theorem State.updRegion_host (s : State) (i : Nat) (f : Region → Region) : (s.updRegion i f).host = s.host := rfl
@[simp] theorem State.updRegion_rc (s : State) (i : Nat) (f : Region → Region) : (s.updRegion i f).rc = s.rc := rfl
@[simp] theorem State.updRegion_qos (s : State) (i : Nat) (f : Region → Region) : (s.updRegion i f).qos = s.qos := rfl
@[simp] theorem State.updRegion_mfd (s : State) (i : Nat) (f : Region → Region) : (s.updRegion i f).mfd = s.mfd := rfl
@[simp] theorem State.updRegion_ftl (s : State) (i : Nat) (f : Region → Region) : (s.updRegion i f).ftl = s.ftl := rfl
@[simp] theorem State.updRegion_shelf (s : State) (i : Nat) (f : Region → Region) : (s.updRegion i f).shelf = s.shelf := rfl
@[simp] theorem State.updRegion_pod (s : State) (i : Nat) (f : Region → Region) : (s.updRegion i f).pod = s.pod := rfl
@[simp] theorem State.updRegion_pmu (s : State) (i : Nat) (f : Region → Region) : (s.updRegion i f).pmu = s.pmu := rfl
@[simp] theorem State.updRegion_seq (s : State) (i : Nat) (f : Region → Region) : (s.updRegion i f).seq = s.seq := rfl
@[simp] theorem State.updRegion_out (s : State) (i : Nat) (f : Region → Region) : (s.updRegion i f).out = s.out := rfl
@[simp] theorem State.updRegion_freeCtr (s : State) (i : Nat) (f : Region → Region) : (s.updRegion i f).freeCtr = s.freeCtr := rfl
@[simp] theorem State.updRegion_pending (s : State) (i : Nat) (f : Region → Region) : (s.updRegion i f).pending = s.pending := rfl

/-! `State.updChan` changes `shelf` alone. -/

@[simp] theorem State.updChan_regs (s : State) (n : Nat) (f : Chan → Chan) : (s.updChan n f).regs = s.regs := rfl
@[simp] theorem State.updChan_prim (s : State) (n : Nat) (f : Chan → Chan) : (s.updChan n f).prim = s.prim := rfl
@[simp] theorem State.updChan_img (s : State) (n : Nat) (f : Chan → Chan) : (s.updChan n f).img = s.img := rfl
@[simp] theorem State.updChan_commit (s : State) (n : Nat) (f : Chan → Chan) : (s.updChan n f).commit = s.commit := rfl
@[simp] theorem State.updChan_evt (s : State) (n : Nat) (f : Chan → Chan) : (s.updChan n f).evt = s.evt := rfl
@[simp] theorem State.updChan_pcie (s : State) (n : Nat) (f : Chan → Chan) : (s.updChan n f).pcie = s.pcie := rfl
@[simp] theorem State.updChan_tm (s : State) (n : Nat) (f : Chan → Chan) : (s.updChan n f).tm = s.tm := rfl
@[simp] theorem State.updChan_cry (s : State) (n : Nat) (f : Chan → Chan) : (s.updChan n f).cry = s.cry := rfl
@[simp] theorem State.updChan_mem (s : State) (n : Nat) (f : Chan → Chan) : (s.updChan n f).mem = s.mem := rfl
@[simp] theorem State.updChan_ns (s : State) (n : Nat) (f : Chan → Chan) : (s.updChan n f).ns = s.ns := rfl
@[simp] theorem State.updChan_prd (s : State) (n : Nat) (f : Chan → Chan) : (s.updChan n f).prd = s.prd := rfl
@[simp] theorem State.updChan_host (s : State) (n : Nat) (f : Chan → Chan) : (s.updChan n f).host = s.host := rfl
@[simp] theorem State.updChan_rc (s : State) (n : Nat) (f : Chan → Chan) : (s.updChan n f).rc = s.rc := rfl
@[simp] theorem State.updChan_qos (s : State) (n : Nat) (f : Chan → Chan) : (s.updChan n f).qos = s.qos := rfl
@[simp] theorem State.updChan_mfd (s : State) (n : Nat) (f : Chan → Chan) : (s.updChan n f).mfd = s.mfd := rfl
@[simp] theorem State.updChan_ftl (s : State) (n : Nat) (f : Chan → Chan) : (s.updChan n f).ftl = s.ftl := rfl
@[simp] theorem State.updChan_sump (s : State) (n : Nat) (f : Chan → Chan) : (s.updChan n f).sump = s.sump := rfl
@[simp] theorem State.updChan_pod (s : State) (n : Nat) (f : Chan → Chan) : (s.updChan n f).pod = s.pod := rfl
@[simp] theorem State.updChan_pmu (s : State) (n : Nat) (f : Chan → Chan) : (s.updChan n f).pmu = s.pmu := rfl
@[simp] theorem State.updChan_seq (s : State) (n : Nat) (f : Chan → Chan) : (s.updChan n f).seq = s.seq := rfl
@[simp] theorem State.updChan_out (s : State) (n : Nat) (f : Chan → Chan) : (s.updChan n f).out = s.out := rfl
@[simp] theorem State.updChan_freeCtr (s : State) (n : Nat) (f : Chan → Chan) : (s.updChan n f).freeCtr = s.freeCtr := rfl
@[simp] theorem State.updChan_pending (s : State) (n : Nat) (f : Chan → Chan) : (s.updChan n f).pending = s.pending := rfl

/-! `State.putNs` changes `ns` alone. -/

@[simp] theorem State.putNs_regs (s : State) (id : Nat) (n : Ns) : (s.putNs id n).regs = s.regs := rfl
@[simp] theorem State.putNs_prim (s : State) (id : Nat) (n : Ns) : (s.putNs id n).prim = s.prim := rfl
@[simp] theorem State.putNs_img (s : State) (id : Nat) (n : Ns) : (s.putNs id n).img = s.img := rfl
@[simp] theorem State.putNs_commit (s : State) (id : Nat) (n : Ns) : (s.putNs id n).commit = s.commit := rfl
@[simp] theorem State.putNs_evt (s : State) (id : Nat) (n : Ns) : (s.putNs id n).evt = s.evt := rfl
@[simp] theorem State.putNs_pcie (s : State) (id : Nat) (n : Ns) : (s.putNs id n).pcie = s.pcie := rfl
@[simp] theorem State.putNs_tm (s : State) (id : Nat) (n : Ns) : (s.putNs id n).tm = s.tm := rfl
@[simp] theorem State.putNs_cry (s : State) (id : Nat) (n : Ns) : (s.putNs id n).cry = s.cry := rfl
@[simp] theorem State.putNs_mem (s : State) (id : Nat) (n : Ns) : (s.putNs id n).mem = s.mem := rfl
@[simp] theorem State.putNs_prd (s : State) (id : Nat) (n : Ns) : (s.putNs id n).prd = s.prd := rfl
@[simp] theorem State.putNs_host (s : State) (id : Nat) (n : Ns) : (s.putNs id n).host = s.host := rfl
@[simp] theorem State.putNs_rc (s : State) (id : Nat) (n : Ns) : (s.putNs id n).rc = s.rc := rfl
@[simp] theorem State.putNs_qos (s : State) (id : Nat) (n : Ns) : (s.putNs id n).qos = s.qos := rfl
@[simp] theorem State.putNs_mfd (s : State) (id : Nat) (n : Ns) : (s.putNs id n).mfd = s.mfd := rfl
@[simp] theorem State.putNs_ftl (s : State) (id : Nat) (n : Ns) : (s.putNs id n).ftl = s.ftl := rfl
@[simp] theorem State.putNs_sump (s : State) (id : Nat) (n : Ns) : (s.putNs id n).sump = s.sump := rfl
@[simp] theorem State.putNs_shelf (s : State) (id : Nat) (n : Ns) : (s.putNs id n).shelf = s.shelf := rfl
@[simp] theorem State.putNs_pod (s : State) (id : Nat) (n : Ns) : (s.putNs id n).pod = s.pod := rfl
@[simp] theorem State.putNs_pmu (s : State) (id : Nat) (n : Ns) : (s.putNs id n).pmu = s.pmu := rfl
@[simp] theorem State.putNs_seq (s : State) (id : Nat) (n : Ns) : (s.putNs id n).seq = s.seq := rfl
@[simp] theorem State.putNs_out (s : State) (id : Nat) (n : Ns) : (s.putNs id n).out = s.out := rfl
@[simp] theorem State.putNs_freeCtr (s : State) (id : Nat) (n : Ns) : (s.putNs id n).freeCtr = s.freeCtr := rfl
@[simp] theorem State.putNs_pending (s : State) (id : Nat) (n : Ns) : (s.putNs id n).pending = s.pending := rfl

/-! `State.updCmd` changes `host` alone. -/

@[simp] theorem State.updCmd_regs (s : State) (id : Nat) (f : Cmd → Cmd) : (s.updCmd id f).regs = s.regs := rfl
@[simp] theorem State.updCmd_prim (s : State) (id : Nat) (f : Cmd → Cmd) : (s.updCmd id f).prim = s.prim := rfl
@[simp] theorem State.updCmd_img (s : State) (id : Nat) (f : Cmd → Cmd) : (s.updCmd id f).img = s.img := rfl
@[simp] theorem State.updCmd_commit (s : State) (id : Nat) (f : Cmd → Cmd) : (s.updCmd id f).commit = s.commit := rfl
@[simp] theorem State.updCmd_evt (s : State) (id : Nat) (f : Cmd → Cmd) : (s.updCmd id f).evt = s.evt := rfl
@[simp] theorem State.updCmd_pcie (s : State) (id : Nat) (f : Cmd → Cmd) : (s.updCmd id f).pcie = s.pcie := rfl
@[simp] theorem State.updCmd_tm (s : State) (id : Nat) (f : Cmd → Cmd) : (s.updCmd id f).tm = s.tm := rfl
@[simp] theorem State.updCmd_cry (s : State) (id : Nat) (f : Cmd → Cmd) : (s.updCmd id f).cry = s.cry := rfl
@[simp] theorem State.updCmd_mem (s : State) (id : Nat) (f : Cmd → Cmd) : (s.updCmd id f).mem = s.mem := rfl
@[simp] theorem State.updCmd_ns (s : State) (id : Nat) (f : Cmd → Cmd) : (s.updCmd id f).ns = s.ns := rfl
@[simp] theorem State.updCmd_prd (s : State) (id : Nat) (f : Cmd → Cmd) : (s.updCmd id f).prd = s.prd := rfl
@[simp] theorem State.updCmd_rc (s : State) (id : Nat) (f : Cmd → Cmd) : (s.updCmd id f).rc = s.rc := rfl
@[simp] theorem State.updCmd_qos (s : State) (id : Nat) (f : Cmd → Cmd) : (s.updCmd id f).qos = s.qos := rfl
@[simp] theorem State.updCmd_mfd (s : State) (id : Nat) (f : Cmd → Cmd) : (s.updCmd id f).mfd = s.mfd := rfl
@[simp] theorem State.updCmd_ftl (s : State) (id : Nat) (f : Cmd → Cmd) : (s.updCmd id f).ftl = s.ftl := rfl
@[simp] theorem State.updCmd_sump (s : State) (id : Nat) (f : Cmd → Cmd) : (s.updCmd id f).sump = s.sump := rfl
@[simp] theorem State.updCmd_shelf (s : State) (id : Nat) (f : Cmd → Cmd) : (s.updCmd id f).shelf = s.shelf := rfl
@[simp] theorem State.updCmd_pod (s : State) (id : Nat) (f : Cmd → Cmd) : (s.updCmd id f).pod = s.pod := rfl
@[simp] theorem State.updCmd_pmu (s : State) (id : Nat) (f : Cmd → Cmd) : (s.updCmd id f).pmu = s.pmu := rfl
@[simp] theorem State.updCmd_seq (s : State) (id : Nat) (f : Cmd → Cmd) : (s.updCmd id f).seq = s.seq := rfl
@[simp] theorem State.updCmd_out (s : State) (id : Nat) (f : Cmd → Cmd) : (s.updCmd id f).out = s.out := rfl
@[simp] theorem State.updCmd_freeCtr (s : State) (id : Nat) (f : Cmd → Cmd) : (s.updCmd id f).freeCtr = s.freeCtr := rfl
@[simp] theorem State.updCmd_pending (s : State) (id : Nat) (f : Cmd → Cmd) : (s.updCmd id f).pending = s.pending := rfl

/-! `State.updPl` changes `pod` alone. -/

@[simp] theorem State.updPl_regs (s : State) (k : Nat) (f : PeerLink → PeerLink) : (s.updPl k f).regs = s.regs := rfl
@[simp] theorem State.updPl_prim (s : State) (k : Nat) (f : PeerLink → PeerLink) : (s.updPl k f).prim = s.prim := rfl
@[simp] theorem State.updPl_img (s : State) (k : Nat) (f : PeerLink → PeerLink) : (s.updPl k f).img = s.img := rfl
@[simp] theorem State.updPl_commit (s : State) (k : Nat) (f : PeerLink → PeerLink) : (s.updPl k f).commit = s.commit := rfl
@[simp] theorem State.updPl_evt (s : State) (k : Nat) (f : PeerLink → PeerLink) : (s.updPl k f).evt = s.evt := rfl
@[simp] theorem State.updPl_pcie (s : State) (k : Nat) (f : PeerLink → PeerLink) : (s.updPl k f).pcie = s.pcie := rfl
@[simp] theorem State.updPl_tm (s : State) (k : Nat) (f : PeerLink → PeerLink) : (s.updPl k f).tm = s.tm := rfl
@[simp] theorem State.updPl_cry (s : State) (k : Nat) (f : PeerLink → PeerLink) : (s.updPl k f).cry = s.cry := rfl
@[simp] theorem State.updPl_mem (s : State) (k : Nat) (f : PeerLink → PeerLink) : (s.updPl k f).mem = s.mem := rfl
@[simp] theorem State.updPl_ns (s : State) (k : Nat) (f : PeerLink → PeerLink) : (s.updPl k f).ns = s.ns := rfl
@[simp] theorem State.updPl_prd (s : State) (k : Nat) (f : PeerLink → PeerLink) : (s.updPl k f).prd = s.prd := rfl
@[simp] theorem State.updPl_host (s : State) (k : Nat) (f : PeerLink → PeerLink) : (s.updPl k f).host = s.host := rfl
@[simp] theorem State.updPl_rc (s : State) (k : Nat) (f : PeerLink → PeerLink) : (s.updPl k f).rc = s.rc := rfl
@[simp] theorem State.updPl_qos (s : State) (k : Nat) (f : PeerLink → PeerLink) : (s.updPl k f).qos = s.qos := rfl
@[simp] theorem State.updPl_mfd (s : State) (k : Nat) (f : PeerLink → PeerLink) : (s.updPl k f).mfd = s.mfd := rfl
@[simp] theorem State.updPl_ftl (s : State) (k : Nat) (f : PeerLink → PeerLink) : (s.updPl k f).ftl = s.ftl := rfl
@[simp] theorem State.updPl_sump (s : State) (k : Nat) (f : PeerLink → PeerLink) : (s.updPl k f).sump = s.sump := rfl
@[simp] theorem State.updPl_shelf (s : State) (k : Nat) (f : PeerLink → PeerLink) : (s.updPl k f).shelf = s.shelf := rfl
@[simp] theorem State.updPl_pmu (s : State) (k : Nat) (f : PeerLink → PeerLink) : (s.updPl k f).pmu = s.pmu := rfl
@[simp] theorem State.updPl_seq (s : State) (k : Nat) (f : PeerLink → PeerLink) : (s.updPl k f).seq = s.seq := rfl
@[simp] theorem State.updPl_out (s : State) (k : Nat) (f : PeerLink → PeerLink) : (s.updPl k f).out = s.out := rfl
@[simp] theorem State.updPl_freeCtr (s : State) (k : Nat) (f : PeerLink → PeerLink) : (s.updPl k f).freeCtr = s.freeCtr := rfl
@[simp] theorem State.updPl_pending (s : State) (k : Nat) (f : PeerLink → PeerLink) : (s.updPl k f).pending = s.pending := rfl

/-! `State.updJob` changes `ftl` alone. -/

@[simp] theorem State.updJob_regs (s : State) (k : Nat) (f : Job → Job) : (s.updJob k f).regs = s.regs := rfl
@[simp] theorem State.updJob_prim (s : State) (k : Nat) (f : Job → Job) : (s.updJob k f).prim = s.prim := rfl
@[simp] theorem State.updJob_img (s : State) (k : Nat) (f : Job → Job) : (s.updJob k f).img = s.img := rfl
@[simp] theorem State.updJob_commit (s : State) (k : Nat) (f : Job → Job) : (s.updJob k f).commit = s.commit := rfl
@[simp] theorem State.updJob_evt (s : State) (k : Nat) (f : Job → Job) : (s.updJob k f).evt = s.evt := rfl
@[simp] theorem State.updJob_pcie (s : State) (k : Nat) (f : Job → Job) : (s.updJob k f).pcie = s.pcie := rfl
@[simp] theorem State.updJob_tm (s : State) (k : Nat) (f : Job → Job) : (s.updJob k f).tm = s.tm := rfl
@[simp] theorem State.updJob_cry (s : State) (k : Nat) (f : Job → Job) : (s.updJob k f).cry = s.cry := rfl
@[simp] theorem State.updJob_mem (s : State) (k : Nat) (f : Job → Job) : (s.updJob k f).mem = s.mem := rfl
@[simp] theorem State.updJob_ns (s : State) (k : Nat) (f : Job → Job) : (s.updJob k f).ns = s.ns := rfl
@[simp] theorem State.updJob_prd (s : State) (k : Nat) (f : Job → Job) : (s.updJob k f).prd = s.prd := rfl
@[simp] theorem State.updJob_host (s : State) (k : Nat) (f : Job → Job) : (s.updJob k f).host = s.host := rfl
@[simp] theorem State.updJob_rc (s : State) (k : Nat) (f : Job → Job) : (s.updJob k f).rc = s.rc := rfl
@[simp] theorem State.updJob_qos (s : State) (k : Nat) (f : Job → Job) : (s.updJob k f).qos = s.qos := rfl
@[simp] theorem State.updJob_mfd (s : State) (k : Nat) (f : Job → Job) : (s.updJob k f).mfd = s.mfd := rfl
@[simp] theorem State.updJob_sump (s : State) (k : Nat) (f : Job → Job) : (s.updJob k f).sump = s.sump := rfl
@[simp] theorem State.updJob_shelf (s : State) (k : Nat) (f : Job → Job) : (s.updJob k f).shelf = s.shelf := rfl
@[simp] theorem State.updJob_pod (s : State) (k : Nat) (f : Job → Job) : (s.updJob k f).pod = s.pod := rfl
@[simp] theorem State.updJob_pmu (s : State) (k : Nat) (f : Job → Job) : (s.updJob k f).pmu = s.pmu := rfl
@[simp] theorem State.updJob_seq (s : State) (k : Nat) (f : Job → Job) : (s.updJob k f).seq = s.seq := rfl
@[simp] theorem State.updJob_out (s : State) (k : Nat) (f : Job → Job) : (s.updJob k f).out = s.out := rfl
@[simp] theorem State.updJob_freeCtr (s : State) (k : Nat) (f : Job → Job) : (s.updJob k f).freeCtr = s.freeCtr := rfl
@[simp] theorem State.updJob_pending (s : State) (k : Nat) (f : Job → Job) : (s.updJob k f).pending = s.pending := rfl

/-! `State.dramWrite` changes `mem` alone. -/

@[simp] theorem State.dramWrite_regs (s : State) (a : Nat) (bs : List Byte) : (s.dramWrite a bs).regs = s.regs := rfl
@[simp] theorem State.dramWrite_prim (s : State) (a : Nat) (bs : List Byte) : (s.dramWrite a bs).prim = s.prim := rfl
@[simp] theorem State.dramWrite_img (s : State) (a : Nat) (bs : List Byte) : (s.dramWrite a bs).img = s.img := rfl
@[simp] theorem State.dramWrite_commit (s : State) (a : Nat) (bs : List Byte) : (s.dramWrite a bs).commit = s.commit := rfl
@[simp] theorem State.dramWrite_evt (s : State) (a : Nat) (bs : List Byte) : (s.dramWrite a bs).evt = s.evt := rfl
@[simp] theorem State.dramWrite_pcie (s : State) (a : Nat) (bs : List Byte) : (s.dramWrite a bs).pcie = s.pcie := rfl
@[simp] theorem State.dramWrite_tm (s : State) (a : Nat) (bs : List Byte) : (s.dramWrite a bs).tm = s.tm := rfl
@[simp] theorem State.dramWrite_cry (s : State) (a : Nat) (bs : List Byte) : (s.dramWrite a bs).cry = s.cry := rfl
@[simp] theorem State.dramWrite_ns (s : State) (a : Nat) (bs : List Byte) : (s.dramWrite a bs).ns = s.ns := rfl
@[simp] theorem State.dramWrite_prd (s : State) (a : Nat) (bs : List Byte) : (s.dramWrite a bs).prd = s.prd := rfl
@[simp] theorem State.dramWrite_host (s : State) (a : Nat) (bs : List Byte) : (s.dramWrite a bs).host = s.host := rfl
@[simp] theorem State.dramWrite_rc (s : State) (a : Nat) (bs : List Byte) : (s.dramWrite a bs).rc = s.rc := rfl
@[simp] theorem State.dramWrite_qos (s : State) (a : Nat) (bs : List Byte) : (s.dramWrite a bs).qos = s.qos := rfl
@[simp] theorem State.dramWrite_mfd (s : State) (a : Nat) (bs : List Byte) : (s.dramWrite a bs).mfd = s.mfd := rfl
@[simp] theorem State.dramWrite_ftl (s : State) (a : Nat) (bs : List Byte) : (s.dramWrite a bs).ftl = s.ftl := rfl
@[simp] theorem State.dramWrite_sump (s : State) (a : Nat) (bs : List Byte) : (s.dramWrite a bs).sump = s.sump := rfl
@[simp] theorem State.dramWrite_shelf (s : State) (a : Nat) (bs : List Byte) : (s.dramWrite a bs).shelf = s.shelf := rfl
@[simp] theorem State.dramWrite_pod (s : State) (a : Nat) (bs : List Byte) : (s.dramWrite a bs).pod = s.pod := rfl
@[simp] theorem State.dramWrite_pmu (s : State) (a : Nat) (bs : List Byte) : (s.dramWrite a bs).pmu = s.pmu := rfl
@[simp] theorem State.dramWrite_seq (s : State) (a : Nat) (bs : List Byte) : (s.dramWrite a bs).seq = s.seq := rfl
@[simp] theorem State.dramWrite_out (s : State) (a : Nat) (bs : List Byte) : (s.dramWrite a bs).out = s.out := rfl
@[simp] theorem State.dramWrite_freeCtr (s : State) (a : Nat) (bs : List Byte) : (s.dramWrite a bs).freeCtr = s.freeCtr := rfl
@[simp] theorem State.dramWrite_pending (s : State) (a : Nat) (bs : List Byte) : (s.dramWrite a bs).pending = s.pending := rfl

/-! A condition between two states. -/

theorem State.ite_regs (c : Prop) [Decidable c] (s t : State) :
    (if c then s else t).regs = if c then s.regs else t.regs := by split <;> rfl
theorem State.ite_prim (c : Prop) [Decidable c] (s t : State) :
    (if c then s else t).prim = if c then s.prim else t.prim := by split <;> rfl
theorem State.ite_img (c : Prop) [Decidable c] (s t : State) :
    (if c then s else t).img = if c then s.img else t.img := by split <;> rfl
theorem State.ite_commit (c : Prop) [Decidable c] (s t : State) :
    (if c then s else t).commit = if c then s.commit else t.commit := by split <;> rfl
theorem State.ite_evt (c : Prop) [Decidable c] (s t : State) :
    (if c then s else t).evt = if c then s.evt else t.evt := by split <;> rfl
theorem State.ite_pcie (c : Prop) [Decidable c] (s t : State) :
    (if c then s else t).pcie = if c then s.pcie else t.pcie := by split <;> rfl
theorem State.ite_tm (c : Prop) [Decidable c] (s t : State) :
    (if c then s else t).tm = if c then s.tm else t.tm := by split <;> rfl
theorem State.ite_cry (c : Prop) [Decidable c] (s t : State) :
    (if c then s else t).cry = if c then s.cry else t.cry := by split <;> rfl
theorem State.ite_mem (c : Prop) [Decidable c] (s t : State) :
    (if c then s else t).mem = if c then s.mem else t.mem := by split <;> rfl
theorem State.ite_ns (c : Prop) [Decidable c] (s t : State) :
    (if c then s else t).ns = if c then s.ns else t.ns := by split <;> rfl
theorem State.ite_prd (c : Prop) [Decidable c] (s t : State) :
    (if c then s else t).prd = if c then s.prd else t.prd := by split <;> rfl
theorem State.ite_host (c : Prop) [Decidable c] (s t : State) :
    (if c then s else t).host = if c then s.host else t.host := by split <;> rfl
theorem State.ite_rc (c : Prop) [Decidable c] (s t : State) :
    (if c then s else t).rc = if c then s.rc else t.rc := by split <;> rfl
theorem State.ite_qos (c : Prop) [Decidable c] (s t : State) :
    (if c then s else t).qos = if c then s.qos else t.qos := by split <;> rfl
theorem State.ite_mfd (c : Prop) [Decidable c] (s t : State) :
    (if c then s else t).mfd = if c then s.mfd else t.mfd := by split <;> rfl
theorem State.ite_ftl (c : Prop) [Decidable c] (s t : State) :
    (if c then s else t).ftl = if c then s.ftl else t.ftl := by split <;> rfl
theorem State.ite_sump (c : Prop) [Decidable c] (s t : State) :
    (if c then s else t).sump = if c then s.sump else t.sump := by split <;> rfl
theorem State.ite_shelf (c : Prop) [Decidable c] (s t : State) :
    (if c then s else t).shelf = if c then s.shelf else t.shelf := by split <;> rfl
theorem State.ite_pod (c : Prop) [Decidable c] (s t : State) :
    (if c then s else t).pod = if c then s.pod else t.pod := by split <;> rfl
theorem State.ite_pmu (c : Prop) [Decidable c] (s t : State) :
    (if c then s else t).pmu = if c then s.pmu else t.pmu := by split <;> rfl
theorem State.ite_seq (c : Prop) [Decidable c] (s t : State) :
    (if c then s else t).seq = if c then s.seq else t.seq := by split <;> rfl
theorem State.ite_out (c : Prop) [Decidable c] (s t : State) :
    (if c then s else t).out = if c then s.out else t.out := by split <;> rfl
theorem State.ite_freeCtr (c : Prop) [Decidable c] (s t : State) :
    (if c then s else t).freeCtr = if c then s.freeCtr else t.freeCtr := by split <;> rfl
theorem State.ite_pending (c : Prop) [Decidable c] (s t : State) :
    (if c then s else t).pending = if c then s.pending else t.pending := by split <;> rfl

end Sys2Proof.Machine
end

