-- ==== Sys2Proof/Laws/Tab.lean ====
section
/-! SUPPORT. Tables and memories: what is read after a change, and the canonical form that every memory operation keeps. -/

namespace Sys2Proof.Machine

variable {α : Type}

theorem Tab.find_put (k j : Nat) (a : α) (t : Tab α) :
    Tab.find j (Tab.put k a t) = if j = k then some a else Tab.find j t := by
  induction t with
  | nil => by_cases h : k = j <;> simp [Tab.put, Tab.find, h, eq_comm]
  | cons e t ih =>
    obtain ⟨i, b⟩ := e
    by_cases hj : j = k
    · subst hj
      by_cases h : j < i
      · simp [Tab.put, Tab.find, h]
      · by_cases h' : j = i
        · simp [Tab.put, Tab.find, h']
        · simp [Tab.put, Tab.find, h, h', ih, Ne.symm h']
    · by_cases h : k < i
      · simp [Tab.put, Tab.find, h, hj, Ne.symm hj]
      · by_cases h' : k = i
        · subst h'
          simp [Tab.put, Tab.find, hj, Ne.symm hj]
        · by_cases hi : i = j
          · subst hi; simp [Tab.put, Tab.find, h, h', hj]
          · simp [Tab.put, Tab.find, h, h', hj, ih, hi]

theorem Tab.getD_put (k j : Nat) (a d : α) (t : Tab α) :
    Tab.getD j d (Tab.put k a t) = if j = k then a else Tab.getD j d t := by
  unfold Tab.getD; rw [Tab.find_put]; split <;> rfl

theorem Tab.find_del (k j : Nat) (t : Tab α) : Tab.find j (Tab.del k t) = if j = k then none else Tab.find j t := by
  induction t with
  | nil => simp [Tab.del, Tab.find]
  | cons e t ih =>
    obtain ⟨i, b⟩ := e
    by_cases hi : i = k
    · subst hi
      by_cases hj : j = i
      · subst hj; simp [Tab.del, ih]
      · simp [Tab.del, Tab.find, hj, Ne.symm hj, ih]
    · by_cases hj : j = k
      · subst hj; simp [Tab.del, Tab.find, hi, ih]
      · by_cases hij : i = j <;> simp [Tab.del, Tab.find, hi, hj, hij, ih]

theorem Tab.put_all (p : Nat × α → Bool) (k : Nat) (a : α) (t : Tab α) (ha : p (k, a) = true) (h : t.all p = true) :
    (Tab.put k a t).all p = true := by
  induction t with
  | nil => simp [Tab.put, ha]
  | cons e t ih =>
    simp only [List.all_cons, Bool.and_eq_true] at h
    unfold Tab.put
    split
    · simp [ha, h.1, h.2]
    · split <;> simp [ha, h.1, h.2, ih h.2]

theorem Tab.del_all (p : Nat × α → Bool) (k : Nat) (t : Tab α) (h : t.all p = true) : (Tab.del k t).all p = true := by
  induction t with
  | nil => rfl
  | cons e t ih =>
    simp only [List.all_cons, Bool.and_eq_true] at h
    unfold Tab.del
    split <;> simp [h.1, ih h.2]

theorem Tab.all_lt_trans (i j : Nat) (t : Tab α) (hij : i < j) (h : t.all (fun e => decide (j < e.1)) = true) :
    t.all (fun e => decide (i < e.1)) = true := by
  simp only [List.all_eq_true, decide_eq_true_eq] at h ⊢
  exact fun e he => Nat.lt_trans hij (h e he)

theorem Tab.put_sorted (k : Nat) (a : α) (t : Tab α) (h : Tab.sorted t = true) : Tab.sorted (Tab.put k a t) = true := by
  induction t with
  | nil => rfl
  | cons e t ih =>
    obtain ⟨i, b⟩ := e
    have hs := h
    simp only [Tab.sorted, Bool.and_eq_true] at h
    unfold Tab.put
    split
    · rename_i hk
      simp only [Tab.sorted, Bool.and_eq_true, List.all_cons, decide_eq_true_eq]
      exact ⟨⟨hk, Tab.all_lt_trans _ _ _ hk h.1⟩, h.1, h.2⟩
    · split
      · rename_i hk
        subst hk
        simp only [Tab.sorted, Bool.and_eq_true]
        exact h
      · rename_i h1 h2
        simp only [Tab.sorted, Bool.and_eq_true]
        exact ⟨Tab.put_all _ _ _ _ (by simp; omega) h.1, ih h.2⟩

theorem Tab.del_sorted (k : Nat) (t : Tab α) (h : Tab.sorted t = true) : Tab.sorted (Tab.del k t) = true := by
  induction t with
  | nil => rfl
  | cons e t ih =>
    obtain ⟨i, b⟩ := e
    simp only [Tab.sorted, Bool.and_eq_true] at h
    unfold Tab.del
    split
    · exact ih h.2
    · simp only [Tab.sorted, Bool.and_eq_true]
      exact ⟨Tab.del_all _ _ _ h.1, ih h.2⟩

/-- Every write of a byte keeps a memory's canonical form. -/
theorem Memory.set_wf (m : Memory) (a : Nat) (b : Byte) (h : m.wf = true) : (m.set a b).wf = true := by
  simp only [Memory.wf, Bool.and_eq_true] at h ⊢
  unfold Memory.set
  split
  · exact ⟨Tab.del_sorted _ _ h.1, Tab.del_all _ _ _ h.2⟩
  · rename_i hb
    exact ⟨Tab.put_sorted _ _ _ h.1, Tab.put_all _ _ _ _ (by simpa using hb) h.2⟩

/-- A byte reads as it was written; every other byte as before. -/
theorem Memory.get_set (m : Memory) (a j : Nat) (b : Byte) : (m.set a b).get j = if j = a then b else m.get j := by
  unfold Memory.set Memory.get
  split
  · rename_i hb
    simp only [Tab.getD, Tab.find_del]
    split <;> simp [hb]
  · rw [Tab.getD_put]

/-- Every write of a range keeps the canonical form. -/
theorem Memory.write_wf (m : Memory) (a : Nat) (bs : List Byte) (h : m.wf = true) : (m.write a bs).wf = true := by
  induction bs generalizing m a with
  | nil => exact h
  | cons b bs ih => exact ih _ _ (Memory.set_wf m a b h)

theorem abortMboxes_wf (m : Memory) (h : m.wf = true) : (abortMboxes m).wf = true := by
  unfold abortMboxes
  generalize (List.range 32).filter _ = l
  induction l generalizing m with
  | nil => exact h
  | cons x l ih => exact ih _ (Memory.set_wf _ _ _ (Memory.set_wf _ _ _ h))

theorem reset_memories_wf : State.reset.mem.dram.wf = true ∧ State.reset.mem.mram.wf = true ∧ State.reset.mem.bar2.wf = true :=
  ⟨rfl, rfl, rfl⟩

end Sys2Proof.Machine
end

