-- ==== Sys2Proof/Laws/Registers.lean ====
section
/-! SUPPORT. Registers and counters: what a field or a counter reads after each shared update, and what the end of a command
(`State.settle`) may change. -/

namespace Sys2Proof.Machine

/-! ### Fields -/

theorem State.field_wr (s : State) (f g : Field) (v : Nat) :
    (s.wr f v).field g = if g.key = f.key then clip f v else s.field g := by
  unfold State.field State.wr
  rw [Tab.getD_put]

@[simp] theorem State.field_wr_same (s : State) (f : Field) (v : Nat) : (s.wr f v).field f = clip f v := by
  simp [State.field_wr]

theorem State.field_wr_ne (s : State) (f g : Field) (v : Nat) (h : g.key ≠ f.key) : (s.wr f v).field g = s.field g := by
  simp [State.field_wr, h]

/-- A field reads the value written, cut to its width. -/
theorem State.rd_wr_same (s : State) (f : Field) (v : Nat) (h : f.width ≤ 32) : (s.wr f v).rd f = v % 2 ^ f.width := by
  unfold State.rd
  rw [State.field_wr_same]
  unfold clip
  rw [BitVec.toNat_ofNat]
  exact Nat.mod_eq_of_lt (Nat.lt_of_lt_of_le (Nat.mod_lt _ (Nat.two_pow_pos _)) (Nat.pow_le_pow_right (by decide) h))

theorem State.rd_wr_ne (s : State) (f g : Field) (v : Nat) (h : g.key ≠ f.key) : (s.wr f v).rd g = s.rd g := by
  unfold State.rd
  rw [State.field_wr_ne _ _ _ _ h]

@[simp] theorem State.field_count (s : State) (c : Counter) (n : Nat) (f : Field) : (s.count c n).field f = s.field f := rfl
@[simp] theorem State.rd_count (s : State) (c : Counter) (n : Nat) (f : Field) : (s.count c n).rd f = s.rd f := rfl
@[simp] theorem State.rd_send (s : State) (o : Out) (f : Field) : (s.send o).rd f = s.rd f := rfl
@[simp] theorem State.rd_freeNext (s : State) (f : Field) : s.freeNext.rd f = s.rd f := rfl
@[simp] theorem State.rd_withPending (s : State) (q : List Instr) (f : Field) : (s.withPending q).rd f = s.rd f := rfl
@[simp] theorem State.rd_updLink (s : State) (n : Nat) (g : Link → Link) (f : Field) : (s.updLink n g).rd f = s.rd f := rfl
@[simp] theorem State.rd_updChan (s : State) (n : Nat) (g : Chan → Chan) (f : Field) : (s.updChan n g).rd f = s.rd f := rfl
@[simp] theorem State.rd_updQp (s : State) (n : Nat) (g : Qp → Qp) (f : Field) : (s.updQp n g).rd f = s.rd f := rfl
@[simp] theorem State.rd_updCmd (s : State) (n : Nat) (g : Cmd → Cmd) (f : Field) : (s.updCmd n g).rd f = s.rd f := rfl
@[simp] theorem State.rd_updCtlr (s : State) (n : Nat) (g : Ctlr → Ctlr) (f : Field) : (s.updCtlr n g).rd f = s.rd f := rfl
@[simp] theorem State.rd_updFn (s : State) (n : Nat) (g : PcieFn → PcieFn) (f : Field) : (s.updFn n g).rd f = s.rd f := rfl
@[simp] theorem State.rd_updTank (s : State) (n : Nat) (g : Tank → Tank) (f : Field) : (s.updTank n g).rd f = s.rd f := rfl
@[simp] theorem State.rd_updBlk (s : State) (n : Nat) (g : Blk → Blk) (f : Field) : (s.updBlk n g).rd f = s.rd f := rfl
@[simp] theorem State.rd_updRegion (s : State) (n : Nat) (g : Region → Region) (f : Field) : (s.updRegion n g).rd f = s.rd f := rfl
@[simp] theorem State.rd_updPl (s : State) (n : Nat) (g : PeerLink → PeerLink) (f : Field) : (s.updPl n g).rd f = s.rd f := rfl
@[simp] theorem State.rd_updJob (s : State) (n : Nat) (g : Job → Job) (f : Field) : (s.updJob n g).rd f = s.rd f := rfl
@[simp] theorem State.rd_smart (s : State) (o n : Nat) (f : Field) : (s.smart o n).rd f = s.rd f := rfl
@[simp] theorem State.rd_advance (s : State) (d : Nat) (f : Field) : (s.advance d).rd f = s.rd f := rfl
@[simp] theorem State.field_advance (s : State) (d : Nat) (f : Field) : (s.advance d).field f = s.field f := rfl
@[simp] theorem State.rd_atLeast (s : State) (d : Nat) (f : Field) : (s.atLeast d).rd f = s.rd f := rfl
@[simp] theorem State.rd_atShelf (s : State) (d : Nat) (f : Field) : (s.atShelf d).rd f = s.rd f := rfl
@[simp] theorem State.mono_advance (s : State) (d : Nat) : (s.advance d).tm.mono = s.tm.mono + d := rfl
@[simp] theorem State.prim_advance (s : State) (d : Nat) : (s.advance d).prim = s.prim := rfl
@[simp] theorem State.img_advance (s : State) (d : Nat) : (s.advance d).img = s.img := rfl
@[simp] theorem State.mem_advance (s : State) (d : Nat) : (s.advance d).mem = s.mem := rfl
@[simp] theorem State.rd_putNs (s : State) (n : Nat) (g : Ns) (f : Field) : (s.putNs n g).rd f = s.rd f := rfl

/-- The clocks have reached the moment asked for. -/
theorem State.le_atLeast (s : State) (t : Nat) : t ≤ (s.atLeast t).tm.mono := by
  unfold State.atLeast; rw [State.mono_advance]; omega

/-- What every step of a loop keeps, the loop keeps. -/
theorem foldl_keeps {σ α : Type} (P : σ → Prop) (f : σ → α → σ) (h : ∀ s a, P s → P (f s a)) (l : List α) (s : σ) (hs : P s) :
    P (l.foldl f s) := by
  induction l generalizing s with
  | nil => exact hs
  | cons a l ih => exact ih _ (h s a hs)

/-- What one step of a loop brings about and every later step keeps holds after the loop. -/
theorem foldl_brings {σ α : Type} (P : σ → Prop) (f : σ → α → σ) (a : α) (hb : ∀ s, P (f s a)) (hk : ∀ s b, P s → P (f s b)) (l : List α)
    (s : σ) (h : a ∈ l) : P (l.foldl f s) := by
  induction l generalizing s with
  | nil => cases h
  | cons b l ih =>
    rcases List.mem_cons.1 h with e | h
    · subst e; exact foldl_keeps P f hk l _ (hb s)
    · exact ih _ h

/-! ### Counters -/

theorem State.counter_count (s : State) (c d : Counter) (n : Nat) :
    (s.count c n).counter d = if d.off = c.off then (s.counter c + n) % 2 ^ 48 else s.counter d := by
  unfold State.counter State.count
  rw [Tab.getD_put]
  split <;> simp [State.counter, BitVec.toNat_ofNat]

@[simp] theorem State.counter_count_same (s : State) (c : Counter) (n : Nat) :
    (s.count c n).counter c = (s.counter c + n) % 2 ^ 48 := by simp [State.counter_count]

theorem State.counter_count_ne (s : State) (c d : Counter) (n : Nat) (h : d.off ≠ c.off) :
    (s.count c n).counter d = s.counter d := by simp [State.counter_count, h]

@[simp] theorem State.counter_wr (s : State) (f : Field) (v : Nat) (c : Counter) : (s.wr f v).counter c = s.counter c := rfl
@[simp] theorem State.counter_send (s : State) (o : Out) (c : Counter) : (s.send o).counter c = s.counter c := rfl

/-! ### The end of a command -/

theorem State.showing_eq (s : State) (f : Field) (v : Nat) : s.showing f v = s ∨ s.showing f v = s.wr f v := by
  unfold State.showing
  split
  · exact .inl rfl
  · exact .inr rfl

/-- What bringing a field up to date can do to another field. -/
theorem State.rd_showing_ne (s : State) (f g : Field) (v : Nat) (h : g.key ≠ f.key) : (s.showing f v).rd g = s.rd g := by
  rcases s.showing_eq f v with e | e <;> rw [e]
  exact State.rd_wr_ne _ _ _ _ h

/-- A field brought up to date shows its value. -/
theorem State.rd_showing_same (s : State) (f : Field) (v : Nat) (h : f.width ≤ 32) : (s.showing f v).rd f = v % 2 ^ f.width := by
  unfold State.showing
  split
  · rename_i e; exact eq_of_beq e
  · exact State.rd_wr_same _ _ _ h

/-- All that the end of a command can do: write the two counts that are shown. -/
theorem State.settle_cases (s : State) :
    s.settle = s ∨ s.settle = s.wr Reg.WELL_RC_STATUS_QP_OPEN s.openQps ∨
    s.settle = s.wr Reg.SUMP_OCC_OCCUPIED s.occupiedSlots ∨
    s.settle = (s.wr Reg.WELL_RC_STATUS_QP_OPEN s.openQps).wr Reg.SUMP_OCC_OCCUPIED s.occupiedSlots := by
  unfold State.settle
  rcases s.showing_eq Reg.WELL_RC_STATUS_QP_OPEN s.openQps with e | e <;> simp only [e] <;> split
  · rcases s.showing_eq Reg.SUMP_OCC_OCCUPIED s.occupiedSlots with e' | e' <;> simp [e']
  · simp
  · rcases State.showing_eq (s.wr Reg.WELL_RC_STATUS_QP_OPEN s.openQps) Reg.SUMP_OCC_OCCUPIED
      (s.wr Reg.WELL_RC_STATUS_QP_OPEN s.openQps).occupiedSlots with e' | e'
    · simp [e']
    · rw [e']; exact .inr (.inr (.inr rfl))
  · simp

/-- The end of a command leaves every field alone but the two that it shows. -/
theorem State.rd_settle (s : State) (f : Field) (h : f.key ≠ Reg.WELL_RC_STATUS_QP_OPEN.key)
    (h' : f.key ≠ Reg.SUMP_OCC_OCCUPIED.key) : s.settle.rd f = s.rd f := by
  rcases s.settle_cases with e | e | e | e <;> rw [e]
  · exact State.rd_wr_ne _ _ _ _ h
  · exact State.rd_wr_ne _ _ _ _ h'
  · rw [State.rd_wr_ne _ _ _ _ h', State.rd_wr_ne _ _ _ _ h]

@[simp] theorem State.counter_settle (s : State) (c : Counter) : s.settle.counter c = s.counter c := by
  rcases s.settle_cases with e | e | e | e <;> rw [e] <;> rfl
@[simp] theorem State.settle_prim (s : State) : s.settle.prim = s.prim := by
  rcases s.settle_cases with e | e | e | e <;> rw [e] <;> rfl
@[simp] theorem State.settle_img (s : State) : s.settle.img = s.img := by
  rcases s.settle_cases with e | e | e | e <;> rw [e] <;> rfl
@[simp] theorem State.settle_commit (s : State) : s.settle.commit = s.commit := by
  rcases s.settle_cases with e | e | e | e <;> rw [e] <;> rfl
@[simp] theorem State.settle_evt (s : State) : s.settle.evt = s.evt := by
  rcases s.settle_cases with e | e | e | e <;> rw [e] <;> rfl
@[simp] theorem State.settle_pcie (s : State) : s.settle.pcie = s.pcie := by
  rcases s.settle_cases with e | e | e | e <;> rw [e] <;> rfl
@[simp] theorem State.settle_tm (s : State) : s.settle.tm = s.tm := by
  rcases s.settle_cases with e | e | e | e <;> rw [e] <;> rfl
@[simp] theorem State.settle_cry (s : State) : s.settle.cry = s.cry := by
  rcases s.settle_cases with e | e | e | e <;> rw [e] <;> rfl
@[simp] theorem State.settle_mem (s : State) : s.settle.mem = s.mem := by
  rcases s.settle_cases with e | e | e | e <;> rw [e] <;> rfl
@[simp] theorem State.settle_ns (s : State) : s.settle.ns = s.ns := by
  rcases s.settle_cases with e | e | e | e <;> rw [e] <;> rfl
@[simp] theorem State.settle_prd (s : State) : s.settle.prd = s.prd := by
  rcases s.settle_cases with e | e | e | e <;> rw [e] <;> rfl
@[simp] theorem State.settle_host (s : State) : s.settle.host = s.host := by
  rcases s.settle_cases with e | e | e | e <;> rw [e] <;> rfl
@[simp] theorem State.settle_rc (s : State) : s.settle.rc = s.rc := by
  rcases s.settle_cases with e | e | e | e <;> rw [e] <;> rfl
@[simp] theorem State.settle_qos (s : State) : s.settle.qos = s.qos := by
  rcases s.settle_cases with e | e | e | e <;> rw [e] <;> rfl
@[simp] theorem State.settle_mfd (s : State) : s.settle.mfd = s.mfd := by
  rcases s.settle_cases with e | e | e | e <;> rw [e] <;> rfl
@[simp] theorem State.settle_ftl (s : State) : s.settle.ftl = s.ftl := by
  rcases s.settle_cases with e | e | e | e <;> rw [e] <;> rfl
@[simp] theorem State.settle_sump (s : State) : s.settle.sump = s.sump := by
  rcases s.settle_cases with e | e | e | e <;> rw [e] <;> rfl
@[simp] theorem State.settle_shelf (s : State) : s.settle.shelf = s.shelf := by
  rcases s.settle_cases with e | e | e | e <;> rw [e] <;> rfl
@[simp] theorem State.settle_pod (s : State) : s.settle.pod = s.pod := by
  rcases s.settle_cases with e | e | e | e <;> rw [e] <;> rfl
@[simp] theorem State.settle_pmu (s : State) : s.settle.pmu = s.pmu := by
  rcases s.settle_cases with e | e | e | e <;> rw [e] <;> rfl
@[simp] theorem State.settle_seq (s : State) : s.settle.seq = s.seq := by
  rcases s.settle_cases with e | e | e | e <;> rw [e] <;> rfl
@[simp] theorem State.settle_out (s : State) : s.settle.out = s.out := by
  rcases s.settle_cases with e | e | e | e <;> rw [e] <;> rfl
@[simp] theorem State.settle_freeCtr (s : State) : s.settle.freeCtr = s.freeCtr := by
  rcases s.settle_cases with e | e | e | e <;> rw [e] <;> rfl
@[simp] theorem State.settle_pending (s : State) : s.settle.pending = s.pending := by
  rcases s.settle_cases with e | e | e | e <;> rw [e] <;> rfl
@[simp] theorem State.settle_regs_shadow (s : State) : s.settle.regs.shadow = s.regs.shadow := by
  rcases s.settle_cases with e | e | e | e <;> rw [e] <;> rfl
@[simp] theorem State.settle_regs_counts (s : State) : s.settle.regs.counts = s.regs.counts := by
  rcases s.settle_cases with e | e | e | e <;> rw [e] <;> rfl
@[simp] theorem State.settle_regs_readLatch (s : State) : s.settle.regs.readLatch = s.regs.readLatch := by
  rcases s.settle_cases with e | e | e | e <;> rw [e] <;> rfl
@[simp] theorem State.settle_regs_writeLatch (s : State) : s.settle.regs.writeLatch = s.regs.writeLatch := by
  rcases s.settle_cases with e | e | e | e <;> rw [e] <;> rfl

/-- The end of a command leaves every field alone but the two that it shows, as bits. -/
theorem State.field_settle (s : State) (f : Field) (h : f.key ≠ Reg.WELL_RC_STATUS_QP_OPEN.key)
    (h' : f.key ≠ Reg.SUMP_OCC_OCCUPIED.key) : s.settle.field f = s.field f := by
  rcases s.settle_cases with e | e | e | e <;> rw [e]
  · exact State.field_wr_ne _ _ _ _ h
  · exact State.field_wr_ne _ _ _ _ h'
  · rw [State.field_wr_ne _ _ _ _ h', State.field_wr_ne _ _ _ _ h]

end Sys2Proof.Machine
end

