-- ==== Sys2Proof/Laws/Events.lean ====
section
/-! SUPPORT. Raising an event: all that it can do (R545 to R550, R554, R560).  It touches the block's pending bits, the ring and history
registers, the count of writes issued, the event side of the state, the endpoint's pending vectors and the outbox; nothing else. -/

namespace Sys2Proof.Machine

/-- The bit addresses of the ring registers (Table 21.8) and of the history's count. -/
def ringKey (k : Nat) : Bool := k == Reg.GLB_HIST_COUNT.key || (decide (0x1000 * 32 ≤ k) && decide (k < 0x3000 * 32))

/-- What the event machinery may change, told apart from all else. -/
def EventsOnly (s t : State) : Prop :=
  (∃ g e p o, t = { s with regs := g, evt := e, pcie := p, out := o }) ∧
  t.regs.shadow = s.regs.shadow ∧ t.regs.readLatch = s.regs.readLatch ∧ t.regs.writeLatch = s.regs.writeLatch ∧
  (∀ c : Counter, c.off ≠ Reg.PCIE_CNT_WRITES_ISSUED.off → t.counter c = s.counter c) ∧
  (∀ f : Field, ringKey f.key = false → t.field f = s.field f)

theorem EventsOnly.refl (s : State) : EventsOnly s s := ⟨⟨_, _, _, _, rfl⟩, rfl, rfl, rfl, fun _ _ => rfl, fun _ _ => rfl⟩

theorem EventsOnly.trans {s t u : State} (h : EventsOnly s t) (k : EventsOnly t u) : EventsOnly s u := by
  obtain ⟨⟨_, _, _, _, rfl⟩, a2, a3, a4, a5, a6⟩ := h
  obtain ⟨⟨_, _, _, _, rfl⟩, b2, b3, b4, b5, b6⟩ := k
  exact ⟨⟨_, _, _, _, rfl⟩, b2.trans a2, b3.trans a3, b4.trans a4, fun c hc => (b5 c hc).trans (a5 c hc),
    fun f hf => (b6 f hf).trans (a6 f hf)⟩

theorem EventsOnly.wr (s : State) (f : Field) (v : Nat) (h : ringKey f.key = true) : EventsOnly s (s.wr f v) := by
  refine ⟨⟨_, _, _, _, rfl⟩, rfl, rfl, rfl, fun _ _ => rfl, fun g hg => State.field_wr_ne _ _ _ _ ?_⟩
  intro e; rw [e, h] at hg; cases hg

theorem EventsOnly.evt (s : State) (e : Evt) : EventsOnly s { s with evt := e } :=
  ⟨⟨_, _, _, _, rfl⟩, rfl, rfl, rfl, fun _ _ => rfl, fun _ _ => rfl⟩

theorem EventsOnly.send (s : State) (o : Out) : EventsOnly s (s.send o) :=
  ⟨⟨_, _, _, _, rfl⟩, rfl, rfl, rfl, fun _ _ => rfl, fun _ _ => rfl⟩

theorem EventsOnly.updFn (s : State) (n : Nat) (g : PcieFn → PcieFn) : EventsOnly s (s.updFn n g) :=
  ⟨⟨_, _, _, _, rfl⟩, rfl, rfl, rfl, fun _ _ => rfl, fun _ _ => rfl⟩

theorem EventsOnly.issued (s : State) : EventsOnly s (s.count Reg.PCIE_CNT_WRITES_ISSUED) :=
  ⟨⟨_, _, _, _, rfl⟩, rfl, rfl, rfl, fun _ h => State.counter_count_ne _ _ _ _ h, fun _ _ => rfl⟩

theorem EventsOnly.ite {s t u : State} (c : Prop) [Decidable c] (h : EventsOnly s t) (k : EventsOnly s u) :
    EventsOnly s (if c then t else u) := by split <;> assumption

theorem State.msix_eventsOnly (s : State) (fn v : Nat) : EventsOnly s (s.msix fn v) := by
  unfold State.msix
  simp only
  split
  · exact .refl s
  · split
    · exact .refl s
    · split
      · exact .updFn _ _ _
      · exact (EventsOnly.send s _).trans (.issued _)

/-- Ring numbers below 256 stay in the ring registers. -/
theorem ringKey_at (f : Field) (r : Nat) (h1 : 0x1000 ≤ f.off) (h2 : f.off + f.s1 * 255 < 0x3000) (h3 : f.lo < 32) (hr : r < 256) :
    ringKey (f.at r).key = true := by
  have hs : f.s1 * r ≤ f.s1 * 255 := Nat.mul_le_mul_left _ (by omega)
  have h0 : (f.at r).key = (f.off + f.s1 * r) * 32 + f.lo := rfl
  unfold ringKey
  rw [h0]
  have a : 0x1000 * 32 ≤ (f.off + f.s1 * r) * 32 + f.lo := by omega
  have b : (f.off + f.s1 * r) * 32 + f.lo < 0x3000 * 32 := by omega
  simp [a, b]

theorem ringKey_lost (r : Nat) (h : r < 256) : ringKey (Reg.GLB_EVT_LOST.at r).key = true :=
  ringKey_at _ _ (by decide) (by decide) (by decide) h
theorem ringKey_arm (r : Nat) (h : r < 256) : ringKey (Reg.GLB_EVT_CONS_ARM.at r).key = true :=
  ringKey_at _ _ (by decide) (by decide) (by decide) h
theorem ringKey_prod (r : Nat) (h : r < 256) : ringKey (Reg.GLB_EVT_PROD.at r).key = true :=
  ringKey_at _ _ (by decide) (by decide) (by decide) h
theorem ringKey_phase (r : Nat) (h : r < 256) : ringKey (Reg.GLB_EVT_PROD_PHASE.at r).key = true :=
  ringKey_at _ _ (by decide) (by decide) (by decide) h

theorem State.loseRecord_eventsOnly (s : State) (r : Nat) (h : r < 256) : EventsOnly s (s.loseRecord r) :=
  (EventsOnly.wr s _ _ (ringKey_lost r h)).trans (.evt _ _)

theorem State.ringMessage_eventsOnly (s : State) (r : Nat) (h : r < 256) : EventsOnly s (s.ringMessage r) :=
  ((s.msix_eventsOnly 0 (1 + r)).trans (.wr _ _ _ (ringKey_arm r h))).trans (.evt _ _)

theorem State.ringNotify_eventsOnly (s : State) (r : Nat) (h : r < 256) : EventsOnly s (s.ringNotify r) := by
  unfold State.ringNotify
  split
  · exact .refl s
  · split
    · exact s.ringMessage_eventsOnly r h
    · split
      · exact .refl s
      · exact .evt _ _

theorem State.ringWrite_eventsOnly (s : State) (r : Nat) (e : EvtRecord) (h : r < 256) : EventsOnly s (s.ringWrite r e) := by
  unfold State.ringWrite
  simp only
  split
  · exact s.loseRecord_eventsOnly r h
  · split
    · exact s.loseRecord_eventsOnly r h
    · refine EventsOnly.trans ?_ (State.ringNotify_eventsOnly _ r h)
      split
      · refine EventsOnly.trans ?_ (.wr _ _ _ (ringKey_phase r h))
        refine EventsOnly.trans ?_ (.wr _ _ _ (ringKey_prod r h))
        exact ((EventsOnly.send s _).trans (.issued _)).trans (.evt _ _)
      · refine EventsOnly.trans ?_ (.wr _ _ _ (ringKey_prod r h))
        exact ((EventsOnly.send s _).trans (.issued _)).trans (.evt _ _)

theorem State.ringRoute_eventsOnly (s : State) (r : Nat) (e : EvtRecord) (h : r < 256) : EventsOnly s (s.ringRoute r e) := by
  unfold State.ringRoute
  split
  · split
    · exact .evt _ _
    · exact s.loseRecord_eventsOnly r h
  · exact s.ringWrite_eventsOnly r e h

theorem State.keepHistory_eventsOnly (s : State) (e : EvtRecord) : EventsOnly s (s.keepHistory e) :=
  (EventsOnly.evt s _).trans (.wr _ _ _ (by decide))

/-- Raising an event, behind the block's pending bit. -/
theorem State.raiseIn_eventsOnly (s : State) (g sev : Nat) (b : Block) (off a0 a1 : Nat) :
    EventsOnly (s.wr (fEvtPend b) (s.rd (fEvtPend b) ||| 2 ^ sev)) (s.raiseIn g sev b off a0 a1) := by
  have hr (n : Nat) : n % 256 < 256 := Nat.mod_lt _ (by decide)
  unfold State.raiseIn
  simp only
  generalize s.wr (fEvtPend b) (s.rd (fEvtPend b) ||| 2 ^ sev) = w
  refine .ite _ (.ite _ (w.keepHistory_eventsOnly _) (.refl w)) (.ite _ (.evt _ _) ?_)
  refine EventsOnly.trans ?_ (State.ringRoute_eventsOnly _ _ _ (hr _))
  have hf (c : Bool) (f : Tab (Nat × Nat)) : EventsOnly w (if c = true then { w with evt := { w.evt with folded := f } } else w) :=
    .ite _ (.evt _ _) (.refl w)
  refine .ite _ (EventsOnly.trans ?_ (State.keepHistory_eventsOnly _ _)) ?_
  · exact (hf _ _).trans (.evt _ _)
  · exact (hf _ _).trans (.evt _ _)

/-- What raising an event leaves: every field but the block's pending bits and the ring and history registers. -/
theorem State.field_raise (s : State) (sev : Nat) (b : Block) (off a0 a1 : Nat) (f : Field) (h : f.key ≠ (fEvtPend b).key)
    (h' : ringKey f.key = false) : (s.raise sev b off a0 a1).field f = s.field f := by
  rw [State.raise, (s.raiseIn_eventsOnly _ sev b off a0 a1).2.2.2.2.2 f h', State.field_wr_ne _ _ _ _ h]

theorem State.rd_raise (s : State) (sev : Nat) (b : Block) (off a0 a1 : Nat) (f : Field) (h : f.key ≠ (fEvtPend b).key)
    (h' : ringKey f.key = false) : (s.raise sev b off a0 a1).rd f = s.rd f := by
  unfold State.rd; rw [State.field_raise _ _ _ _ _ _ _ h h']

theorem State.counter_raise (s : State) (sev : Nat) (b : Block) (off a0 a1 : Nat) (c : Counter)
    (h : c.off ≠ Reg.PCIE_CNT_WRITES_ISSUED.off) : (s.raise sev b off a0 a1).counter c = s.counter c := by
  rw [State.raise, (s.raiseIn_eventsOnly _ sev b off a0 a1).2.2.2.2.1 c h]; rfl

/-- Raising an event leaves every part of the state but the registers, the event side, the endpoint and the outbox. -/
theorem State.raise_parts (s : State) (sev : Nat) (b : Block) (off a0 a1 : Nat) :
    ∃ g e p o, s.raise sev b off a0 a1 = { s with regs := g, evt := e, pcie := p, out := o } := by
  obtain ⟨g, e, p, o, h⟩ := (s.raiseIn_eventsOnly (eventGroup b) sev b off a0 a1).1
  exact ⟨g, e, p, o, h⟩

@[simp] theorem State.raise_prim (s : State) (sev : Nat) (b : Block) (off a0 a1 : Nat) : (s.raise sev b off a0 a1).prim = s.prim := by
  obtain ⟨g, e, p, o, h⟩ := s.raise_parts sev b off a0 a1; rw [h]
@[simp] theorem State.raise_img (s : State) (sev : Nat) (b : Block) (off a0 a1 : Nat) : (s.raise sev b off a0 a1).img = s.img := by
  obtain ⟨g, e, p, o, h⟩ := s.raise_parts sev b off a0 a1; rw [h]
@[simp] theorem State.raise_commit (s : State) (sev : Nat) (b : Block) (off a0 a1 : Nat) : (s.raise sev b off a0 a1).commit = s.commit := by
  obtain ⟨g, e, p, o, h⟩ := s.raise_parts sev b off a0 a1; rw [h]
@[simp] theorem State.raise_tm (s : State) (sev : Nat) (b : Block) (off a0 a1 : Nat) : (s.raise sev b off a0 a1).tm = s.tm := by
  obtain ⟨g, e, p, o, h⟩ := s.raise_parts sev b off a0 a1; rw [h]
@[simp] theorem State.raise_cry (s : State) (sev : Nat) (b : Block) (off a0 a1 : Nat) : (s.raise sev b off a0 a1).cry = s.cry := by
  obtain ⟨g, e, p, o, h⟩ := s.raise_parts sev b off a0 a1; rw [h]
@[simp] theorem State.raise_mem (s : State) (sev : Nat) (b : Block) (off a0 a1 : Nat) : (s.raise sev b off a0 a1).mem = s.mem := by
  obtain ⟨g, e, p, o, h⟩ := s.raise_parts sev b off a0 a1; rw [h]
@[simp] theorem State.raise_ns (s : State) (sev : Nat) (b : Block) (off a0 a1 : Nat) : (s.raise sev b off a0 a1).ns = s.ns := by
  obtain ⟨g, e, p, o, h⟩ := s.raise_parts sev b off a0 a1; rw [h]
@[simp] theorem State.raise_prd (s : State) (sev : Nat) (b : Block) (off a0 a1 : Nat) : (s.raise sev b off a0 a1).prd = s.prd := by
  obtain ⟨g, e, p, o, h⟩ := s.raise_parts sev b off a0 a1; rw [h]
@[simp] theorem State.raise_host (s : State) (sev : Nat) (b : Block) (off a0 a1 : Nat) : (s.raise sev b off a0 a1).host = s.host := by
  obtain ⟨g, e, p, o, h⟩ := s.raise_parts sev b off a0 a1; rw [h]
@[simp] theorem State.raise_rc (s : State) (sev : Nat) (b : Block) (off a0 a1 : Nat) : (s.raise sev b off a0 a1).rc = s.rc := by
  obtain ⟨g, e, p, o, h⟩ := s.raise_parts sev b off a0 a1; rw [h]
@[simp] theorem State.raise_qos (s : State) (sev : Nat) (b : Block) (off a0 a1 : Nat) : (s.raise sev b off a0 a1).qos = s.qos := by
  obtain ⟨g, e, p, o, h⟩ := s.raise_parts sev b off a0 a1; rw [h]
@[simp] theorem State.raise_mfd (s : State) (sev : Nat) (b : Block) (off a0 a1 : Nat) : (s.raise sev b off a0 a1).mfd = s.mfd := by
  obtain ⟨g, e, p, o, h⟩ := s.raise_parts sev b off a0 a1; rw [h]
@[simp] theorem State.raise_ftl (s : State) (sev : Nat) (b : Block) (off a0 a1 : Nat) : (s.raise sev b off a0 a1).ftl = s.ftl := by
  obtain ⟨g, e, p, o, h⟩ := s.raise_parts sev b off a0 a1; rw [h]
@[simp] theorem State.raise_sump (s : State) (sev : Nat) (b : Block) (off a0 a1 : Nat) : (s.raise sev b off a0 a1).sump = s.sump := by
  obtain ⟨g, e, p, o, h⟩ := s.raise_parts sev b off a0 a1; rw [h]
@[simp] theorem State.raise_shelf (s : State) (sev : Nat) (b : Block) (off a0 a1 : Nat) : (s.raise sev b off a0 a1).shelf = s.shelf := by
  obtain ⟨g, e, p, o, h⟩ := s.raise_parts sev b off a0 a1; rw [h]
@[simp] theorem State.raise_pod (s : State) (sev : Nat) (b : Block) (off a0 a1 : Nat) : (s.raise sev b off a0 a1).pod = s.pod := by
  obtain ⟨g, e, p, o, h⟩ := s.raise_parts sev b off a0 a1; rw [h]
@[simp] theorem State.raise_pmu (s : State) (sev : Nat) (b : Block) (off a0 a1 : Nat) : (s.raise sev b off a0 a1).pmu = s.pmu := by
  obtain ⟨g, e, p, o, h⟩ := s.raise_parts sev b off a0 a1; rw [h]
@[simp] theorem State.raise_seq (s : State) (sev : Nat) (b : Block) (off a0 a1 : Nat) : (s.raise sev b off a0 a1).seq = s.seq := by
  obtain ⟨g, e, p, o, h⟩ := s.raise_parts sev b off a0 a1; rw [h]
@[simp] theorem State.raise_freeCtr (s : State) (sev : Nat) (b : Block) (off a0 a1 : Nat) : (s.raise sev b off a0 a1).freeCtr = s.freeCtr := by
  obtain ⟨g, e, p, o, h⟩ := s.raise_parts sev b off a0 a1; rw [h]
@[simp] theorem State.raise_pending (s : State) (sev : Nat) (b : Block) (off a0 a1 : Nat) : (s.raise sev b off a0 a1).pending = s.pending := by
  obtain ⟨g, e, p, o, h⟩ := s.raise_parts sev b off a0 a1; rw [h]

end Sys2Proof.Machine
end

