-- ==== Sys2Proof/Laws/Exec.lean ====
section
/-! SUPPORT. What every command can do: it ends in a next state whose shown counts are up to date. -/

namespace Sys2Proof.Machine

theorem exec_settled (c : Instr) (s : State) : ∃ t : State, exec c s = .next t.settle := by
  cases c <;> exact ⟨_, rfl⟩

end Sys2Proof.Machine
end

