-- ==== Sys2Proof/Laws/Priming.lean ====
section
/-! SUPPORT. Entering a priming state: the state and the fail cause that are shown, and what stays. -/

namespace Sys2Proof.Machine

@[simp] theorem State.st_enterState (s : State) (st cause : Nat) : (s.enterState st cause).st = st % 16 := by
  unfold State.enterState State.st
  simp only
  rw [State.rd_raise _ _ _ _ _ _ _ (by decide) (by decide), State.rd_send]
  show ((State.wr _ _ _).wr _ _).rd _ = _
  rw [State.rd_wr_ne _ _ _ _ (by decide), State.rd_wr_same _ _ _ (by decide)]
  rfl

@[simp] theorem State.failCause_enterState (s : State) (st cause : Nat) :
    (s.enterState st cause).rd Reg.GLB_PRIME_STATUS_FAIL_CAUSE = cause % 256 := by
  unfold State.enterState
  simp only
  rw [State.rd_raise _ _ _ _ _ _ _ (by decide) (by decide), State.rd_send]
  show (State.wr _ _ _).rd _ = _
  rw [State.rd_wr_same _ _ _ (by decide)]
  rfl

/-- Entering a priming state leaves every field but the state, the cause, the durations and the event registers. -/
theorem State.rd_enterState (s : State) (st cause : Nat) (f : Field) (h1 : f.key ≠ Reg.GLB_PRIME_STATUS_STATE.key)
    (h2 : f.key ≠ Reg.GLB_PRIME_STATUS_FAIL_CAUSE.key) (h3 : ∀ n ≤ 7, f.key ≠ (Reg.GLB_PRIME_DUR.at n).key)
    (h4 : f.key ≠ (fEvtPend .glb).key) (h5 : ringKey f.key = false) : (s.enterState st cause).rd f = s.rd f := by
  unfold State.enterState
  simp only
  rw [State.rd_raise _ _ _ _ _ _ _ h4 h5, State.rd_send]
  show ((State.wr _ _ _).wr _ _).rd f = _
  rw [State.rd_wr_ne _ _ _ _ h2, State.rd_wr_ne _ _ _ _ h1]
  by_cases h : s.st ≤ stPOD
  · rw [if_pos h]; exact State.rd_wr_ne _ _ _ _ (h3 _ h)
  · rw [if_neg h]

@[simp] theorem State.enterState_tm (s : State) (st cause : Nat) : (s.enterState st cause).tm = s.tm := by
  unfold State.enterState; simp only [State.raise_tm]; split <;> rfl

@[simp] theorem State.enterState_img (s : State) (st cause : Nat) : (s.enterState st cause).img = s.img := by
  unfold State.enterState; simp only [State.raise_img]; split <;> rfl

@[simp] theorem State.enterState_mem (s : State) (st cause : Nat) : (s.enterState st cause).mem = s.mem := by
  unfold State.enterState; simp only [State.raise_mem]; split <;> rfl

@[simp] theorem State.enterState_shelf (s : State) (st cause : Nat) : (s.enterState st cause).shelf = s.shelf := by
  unfold State.enterState; simp only [State.raise_shelf]; split <;> rfl

/-- The end of a command keeps the priming state. -/
@[simp] theorem State.st_settle (s : State) : s.settle.st = s.st := State.rd_settle _ _ (by decide) (by decide)

end Sys2Proof.Machine
end

