-- ==== Sys2Proof/Laws/Safety.lean ====
section
/-! SUPPORT. How `RegistersChange` is shown: a register write, a count shown by `settle`, and the two put together. -/

namespace Sys2Proof.Machine

theorem RegistersChange.refl (s : State) (fs : List Field) : RegistersChange s s fs := ⟨rfl, fun _ _ => rfl⟩

/-- Fields may be added to the list. -/
theorem RegistersChange.mono {s t : State} {fs gs : List Field} (h : RegistersChange s t fs)
    (sub : ∀ k ∈ fs.map Field.key, k ∈ gs.map Field.key) : RegistersChange s t gs := by
  refine ⟨h.1, fun f hf => h.2 f ?_⟩
  intro hm
  apply hf
  simp only [List.map_append, List.mem_append] at hm ⊢
  exact hm.imp id (sub _)

/-- One more field written. -/
theorem RegistersChange.wr {s t : State} {fs : List Field} (h : RegistersChange s t fs) (f : Field) (v : Nat)
    (mem : f.key ∈ (shownFields ++ fs).map Field.key) : RegistersChange s (t.wr f v) fs := by
  refine ⟨?_, fun g hg => ?_⟩
  · have e := h.1
    show State.wr t f v = _
    rw [e]; rfl
  · rw [State.field_wr, if_neg, h.2 g hg]
    intro e; exact hg (e ▸ mem)

theorem RegistersChange.settled {s t : State} {fs : List Field} (h : RegistersChange s t fs) : RegistersChange s t.settle fs := by
  rcases t.settle_cases with e | e | e | e <;> rw [e]
  · exact h
  all_goals first
    | exact h.wr _ _ (by simp [shownFields])
    | exact (h.wr _ _ (by simp [shownFields])).wr _ _ (by simp [shownFields])

/-- A command that writes one field. -/
theorem RegistersChange.wr_settle (s : State) (f : Field) (v : Nat) : RegistersChange s (s.wr f v).settle [f] :=
  ((RegistersChange.refl s [f]).wr f v (by simp)).settled

/-- A command that writes nothing. -/
theorem RegistersChange.settle (s : State) (fs : List Field) : RegistersChange s s.settle fs := (RegistersChange.refl s fs).settled

/-- An admin command that runs has its row's effect. -/
theorem State.admin_runs {s : State} {id op : Nat} {c : Cmd} (h : s.adminRuns id op c) (f : Cmd → State) : s.admin id op f = f c := by
  obtain ⟨h1, h2, h3⟩ := h
  have h4 : (!s.accepting && !([0x02, 0x06, 0x0A].contains op)) = false := by
    rcases h3 with h3 | h3
    · simp [h3]
    · simp only [List.contains_iff_mem.2 h3, Bool.not_true, Bool.and_false]
  rcases h2 with h2 | h2 <;> simp only [State.admin, h1, h2, h4] <;> simp

/-- An I/O command that runs has its row's effect. -/
theorem State.io_runs {s : State} {id op : Nat} {c : Cmd} {n : Ns} (h : s.ioRuns id op c n) (f : Cmd → Ns → State) : s.io id op f = f c n := by
  obtain ⟨h1, h2⟩ := h
  simp [State.io, h1, h2]

end Sys2Proof.Machine
end

