-- ==== Sys2Proof/Laws/Slots.lean ====
section
/-! SUPPORT. What driving a slot's pins, turning a channel off and HALTED can do: the registers of SLOT (from 0x280_0000 on) and the state of the
slots change; what lies below stays. -/

namespace Sys2Proof.Machine

/-- Does a field lie below the registers of the slots and their links? -/
def belowSlots (f : Field) : Prop := f.key < 0x2400000 * 32

theorem Field.key_at (f : Field) (n : Nat) : (f.at n).key = (f.off + f.s1 * n) * 32 + f.lo := rfl

theorem belowSlots.ne_at {f : Field} (h : belowSlots f) (g : Field) (n : Nat) (hg : 0x2400000 ≤ g.off) : f.key ≠ (g.at n).key := by
  rw [Field.key_at]; unfold belowSlots at h
  have : 0x2400000 ≤ g.off + g.s1 * n := Nat.le_trans hg (Nat.le_add_right _ _)
  omega

theorem belowSlots.ne {f : Field} (h : belowSlots f) (g : Field) (hg : 0x2400000 ≤ g.off) : f.key ≠ g.key := by
  unfold belowSlots at h; show _ ≠ g.off * 32 + g.lo; omega

theorem State.rd_wrBit (s : State) (lo hi f : Field) (n : Nat) (b : Bool) (h : f.key ≠ lo.key) (h' : f.key ≠ hi.key) :
    (s.wrBit lo hi n b).rd f = s.rd f := by
  have hk (g : Field) (v : Nat) (hg : g = lo ∨ g = hi) : (s.wr g v).rd f = s.rd f := by
    apply State.rd_wr_ne; rcases hg with e | e <;> rw [e] <;> assumption
  unfold State.wrBit
  by_cases hn : n < 32 <;> simp only [hn, if_true, if_false] <;> split <;>
    first | rfl | (split <;> exact hk _ _ (by simp))

theorem State.rd_setChan (s : State) (n st : Nat) (f : Field) (h : belowSlots f) : (s.setChan n st).rd f = s.rd f := by
  unfold State.setChan
  rw [State.rd_wrBit _ _ _ _ _ _ (h.ne _ (by decide)) (h.ne _ (by decide)), State.rd_wr_ne _ _ _ _ (h.ne_at _ _ (by decide))]

theorem State.rd_slotPins (s : State) (n : Nat) (pg rst : Bool) (f : Field) (h : belowSlots f) : (s.slotPins n pg rst).rd f = s.rd f := by
  unfold State.slotPins
  rw [State.rd_send]
  show (State.wrBit _ _ _ _ _).rd f = _
  rw [State.rd_wrBit _ _ _ _ _ _ (h.ne _ (by decide)) (h.ne _ (by decide))]
  exact State.rd_wr_ne _ _ _ _ (h.ne_at _ _ (by decide))

theorem State.rd_chanOff (s : State) (n st : Nat) (f : Field) (h : belowSlots f) : (s.chanOff n st).rd f = s.rd f := by
  have e : (((s.setChan n st).wr (Reg.SLOT_STATUS_REV_BLOCK.at n) 0).wr (Reg.SLOT_STATUS_JOINED.at n) 0).rd f = s.rd f := by
    rw [State.rd_wr_ne _ _ _ _ (h.ne_at _ _ (by decide)), State.rd_wr_ne _ _ _ _ (h.ne_at _ _ (by decide)), State.rd_setChan _ _ _ _ h]
  unfold State.chanOff; simp only
  split <;> split <;> simp only [State.rd_updChan, State.rd_slotPins _ _ _ _ _ h, e]

/-- HALTED leaves every field below the slots' but those that entering the state and the links' loss write. -/
theorem State.rd_halt (s : State) (cause : Nat) (f : Field) (h : belowSlots f) (h1 : f.key ≠ Reg.GLB_PRIME_STATUS_RRS.key)
    (h2 : ∀ n, f.key ≠ (Reg.ETH_LINK_UP.at n).key) (h3 : ∀ n, f.key ≠ (Reg.PL_LINK_STATE.at n).key) :
    (s.halt cause).rd f = (s.enterState stHALTED cause).rd f := by
  unfold State.halt; simp only
  refine foldl_keeps (fun t : State => t.rd f = _) _ (fun t n ht => ?_) _ _
    (foldl_keeps (fun t : State => t.rd f = _) _ (fun t n ht => (State.rd_wr_ne _ _ _ _ (h3 n)).trans ht) _ _
      (foldl_keeps (fun t : State => t.rd f = _) _ (fun t n ht => (State.rd_wr_ne _ _ _ _ (h2 n)).trans ht) _ _
        (State.rd_wr_ne _ _ _ _ h1)))
  refine (State.rd_wr_ne _ _ _ _ (h.ne_at _ _ (by decide))).trans ?_
  split
  · exact ht
  · exact (State.rd_chanOff _ _ _ _ h).trans ht

theorem glb_ne_eth (n : Nat) {f : Field} (h : f.key < 0x1000 * 32) : f.key ≠ (Reg.ETH_LINK_UP.at n).key := by
  rw [Field.key_at]
  have : (0x1000 : Nat) ≤ Reg.ETH_LINK_UP.off := by decide
  have : Reg.ETH_LINK_UP.off ≤ Reg.ETH_LINK_UP.off + Reg.ETH_LINK_UP.s1 * n := Nat.le_add_right _ _
  omega

theorem glb_ne_peer (n : Nat) {f : Field} (h : f.key < 0x1000 * 32) : f.key ≠ (Reg.PL_LINK_STATE.at n).key := by
  rw [Field.key_at]
  have : (0x1000 : Nat) ≤ Reg.PL_LINK_STATE.off := by decide
  have : Reg.PL_LINK_STATE.off ≤ Reg.PL_LINK_STATE.off + Reg.PL_LINK_STATE.s1 * n := Nat.le_add_right _ _
  omega

@[simp] theorem State.st_halt (s : State) (cause : Nat) : (s.halt cause).st = stHALTED := by
  unfold State.st
  rw [State.rd_halt _ _ _ (by unfold belowSlots; decide) (by decide) (fun n => glb_ne_eth n (by decide)) (fun n => glb_ne_peer n (by decide))]
  exact State.st_enterState _ _ _

@[simp] theorem State.failCause_halt (s : State) (cause : Nat) : (s.halt cause).rd Reg.GLB_PRIME_STATUS_FAIL_CAUSE = cause % 256 := by
  rw [State.rd_halt _ _ _ (by unfold belowSlots; decide) (by decide) (fun n => glb_ne_eth n (by decide)) (fun n => glb_ne_peer n (by decide))]
  exact State.failCause_enterState _ _ _

end Sys2Proof.Machine
end

