-- ==== Sys2Proof/Machine/Balls.lean ====
section
/-! DEFINITION. The package's balls (R566 to R570): the names of rows and the ball at every position. -/

namespace Sys2Proof.Machine

/-! ### Names of rows (R567) -/

/-- The list L. -/
def rowLetters : List Char := ['A', 'B', 'C', 'D', 'E', 'F', 'G', 'H', 'J', 'K', 'L', 'M', 'N', 'P', 'T', 'U', 'V', 'W', 'Y']

/-- The letters of row 1 to 69. -/
def rowName (row : Nat) : List Char :=
  let l (k : Nat) : Char := rowLetters.getD k 'A'
  if row ≤ 19 then [l (row - 1)] else [l ((row - 20) / 19), l ((row - 20) % 19)]

/-- The row of some letters. -/
def rowNamed (name : List Char) : Option Nat := (List.range 70).find? fun r => decide (0 < r) && rowName r == name

/-! ### Balls -/

/-- A signal of one sub-channel of DRAM (Table 23.3); `neg` is the N ball of a pair. -/
inductive DramSignal where
  | dq (i : Nat)
  | cb (i : Nat)
  | dqs (i : Nat) (neg : Bool)
  | dca (i : Nat)
  | dpar
  | dcs (i : Nat)
  | dck (i : Nat) (neg : Bool)
  deriving DecidableEq, Repr

/-- The eight balls of a slot, in their order (Table 23.2). -/
inductive SlotBall where
  | gate
  | senseP
  | senseN
  | vout
  | prsntN
  | attn
  | slotPg
  | slotRstN
  deriving DecidableEq, Repr

/-- A clock or control ball (Table 23.4). -/
inductive CtlBall where
  | ref156 (i : Nat) (neg : Bool)
  | ref100 (neg : Bool)
  | ref10m
  | ppsIn
  | ppsOut
  | perstN
  | resetN
  | pwrfailN
  | holdupMon
  | slotVfeed
  | bootMode (i : Nat)
  | thermN
  | uartTx
  | uartRx
  | tck
  | tms
  | tdi
  | tdo
  | trstN
  | i3cScl
  | i3cSda
  | xspiClk
  | xspiCsN
  | xspiDqs
  | xspiResetN
  | rcal (i : Nat)
  | xspiDq (i : Nat)
  | gpio (i : Nat)
  deriving DecidableEq, Repr

/-- The lanes of a serial port. -/
inductive LaneOf where
  | eth
  | oob
  | skl (link : Nat)
  | pla
  | plb
  | pcie
  deriving DecidableEq, Repr

/-- A ball of the package (Table 23.2); a DRAM signal names its channel and whether it is of sub-channel B. -/
inductive Ball where
  | lane (port : LaneOf) (lane : Nat) (tx neg : Bool)
  | dram (channel : Nat) (subB : Bool) (signal : DramSignal)
  | alertN (channel : Nat)
  | drstN (channel : Nat)
  | slot (n : Nat) (ball : SlotBall)
  | vin12
  | ctl (ball : CtlBall)
  | rsvd
  | gnd
  deriving DecidableEq, Repr

/-! ### Placement (R568 to R570) -/

/-- The 76 signals of a sub-channel, in order (Table 23.3). -/
def dramSignals : List DramSignal :=
  (List.range 32).map .dq ++ (List.range 8).map .cb ++ (List.range 10).flatMap (fun i => [.dqs i false, .dqs i true]) ++
    (List.range 7).map .dca ++ [.dpar] ++ (List.range 4).map .dcs ++ (List.range 2).flatMap fun i => [.dck i false, .dck i true]

/-- The ball at position (r, k) of a channel's region (R569). -/
def dramBall (c r k : Nat) : Ball :=
  if (r + k) % 4 == 0 then .gnd
  else
    let order := (List.range (18 * r + k)).countP fun i => (i / 18 + i % 18) % 4 != 0
    if order < 152 then .dram c (decide (76 ≤ order)) (dramSignals.getD (order % 76) .dpar)
    else if order == 152 then .alertN c
    else if order == 153 then .drstN c
    else .rsvd

/-- A ball of a differential pair whose P ball stands in column `p`. -/
def pairAt (p col : Nat) (b : Bool → Ball) : Option Ball :=
  if col == p then some (b false) else if col == p + 1 then some (b true) else none

/-- The Ethernet and out-of-band lanes: TX in columns 1 and 2, RX in columns 5 and 6. -/
def westBall (row col : Nat) : Option Ball :=
  let at_ (port : LaneOf) (l : Nat) : Option Ball := (pairAt 1 col (.lane port l true)).or (pairAt 5 col (.lane port l false))
  if row % 2 == 0 && decide (2 ≤ row ∧ row ≤ 64) then at_ .eth ((row - 2) / 2)
  else if row == 66 then pairAt 1 col (.lane .oob 0 true)
  else if row == 68 then pairAt 5 col (.lane .oob 0 false)
  else none

/-- The Skalas lanes: links 0 to 23 in the north band, 24 to 47 in the south. -/
def bandBall (row col : Nat) : Option Ball :=
  let at_ (first l : Nat) (tx : Bool) : Option Ball :=
    if col < 10 || 57 < col then none
    else some (.lane (.skl (first + (col - 10) / 2)) l tx (decide (col % 2 = 1)))
  match row with
  | 1 => at_ 0 0 true
  | 3 => at_ 0 0 false
  | 5 => at_ 0 1 true
  | 7 => at_ 0 1 false
  | 69 => at_ 24 0 true
  | 67 => at_ 24 0 false
  | 65 => at_ 24 1 true
  | 63 => at_ 24 1 false
  | _ => none

/-- The east lanes: PLA, PLB and PCIe, eight each; RX in columns 64 and 65, TX in columns 68 and 69. -/
def eastBall (row col : Nat) : Option Ball :=
  if row % 2 == 1 || row < 2 || 48 < row then none
  else
    let j := (row - 2) / 2
    let port : LaneOf := if j < 8 then .pla else if j < 16 then .plb else .pcie
    (pairAt 64 col (.lane port (j % 8) false)).or (pairAt 68 col (.lane port (j % 8) true))

/-- The DRAM regions. -/
def memBall (row col : Nat) : Option Ball :=
  if row < 11 || 58 < row then none
  else
    let c := (row - 11) / 12
    let r := (row - 11) % 12
    if decide (9 ≤ col ∧ col ≤ 26) then some (dramBall c r (col - 9))
    else if decide (44 ≤ col ∧ col ≤ 61) then some (dramBall (c + 4) r (col - 44))
    else none

/-- The balls of the slots: row 12 + n / 2; even ones from column 27, odd ones from column 36. -/
def slotBall (row col : Nat) : Option Ball :=
  let kinds : List SlotBall := [.gate, .senseP, .senseN, .vout, .prsntN, .attn, .slotPg, .slotRstN]
  if row < 12 || 35 < row then none
  else if decide (27 ≤ col ∧ col ≤ 34) then (kinds[col - 27]?).map (.slot (2 * (row - 12)))
  else if decide (36 ≤ col ∧ col ≤ 43) then (kinds[col - 36]?).map (.slot (2 * (row - 12) + 1))
  else none

/-- The 12 V input. -/
def vinBall (row col : Nat) : Option Ball :=
  if decide (41 ≤ row ∧ row ≤ 56) && decide (28 ≤ col ∧ col ≤ 43) && (row + col) % 2 == 0 then some .vin12 else none

/-- The clock and control balls of a row, with their columns (Table 23.4). -/
def ctlRow (row : Nat) : List (Nat × CtlBall) :=
  match row with
  | 50 => [(64, .ref156 0 false), (65, .ref156 0 true), (68, .ref156 1 false), (69, .ref156 1 true)]
  | 52 => [(64, .ref100 false), (65, .ref100 true), (68, .ref10m)]
  | 54 => [(64, .ppsIn), (66, .ppsOut), (68, .perstN)]
  | 56 => [(62, .resetN), (64, .pwrfailN), (66, .holdupMon), (68, .slotVfeed)]
  | 58 => [(62, .bootMode 0), (63, .bootMode 1), (65, .thermN), (67, .uartTx), (68, .uartRx)]
  | 60 => [(62, .tck), (63, .tms), (64, .tdi), (65, .tdo), (66, .trstN), (68, .i3cScl), (69, .i3cSda)]
  | 62 => [(62, .xspiClk), (63, .xspiCsN), (64, .xspiDqs), (65, .xspiResetN), (67, .rcal 0), (68, .rcal 1), (69, .rcal 2)]
  | 64 => (List.range 8).map fun i => (62 + i, .xspiDq i)
  | 66 => (List.range 8).map fun i => (62 + i, .gpio i)
  | 68 => (List.range 8).map fun i => (62 + i, .gpio (8 + i))
  | _ => []

/-- A clock or control ball. -/
def ctlBall (row col : Nat) : Option Ball := ((ctlRow row).find? fun e => e.1 == col).map fun e => .ctl e.2

/-- The ball at a row and column, both from 1 to 69 (R566 to R570): none at A1; GND where nothing else is placed. -/
def ballAt (row col : Nat) : Option Ball :=
  if row < 1 || 69 < row || col < 1 || 69 < col || (row == 1 && col == 1) then none
  else some (((westBall row col).or ((bandBall row col).or ((eastBall row col).or ((memBall row col).or ((slotBall row col).or
    ((vinBall row col).or (ctlBall row col))))))).getD .gnd)

end Sys2Proof.Machine
end

