-- ==== Sys2Proof/WellFormed.lean ====
section
/-! DEFINITION. Well-formed commands: the operands that a command can arrive with, where its type alone does not say so.  Each check is
a range of the spec; what a command with an operand outside every check would mean is no question of the spec, and `exec` answers it
all the same. -/

namespace Sys2Proof

/-- A byte of PF0's BAR0: 64 MiB (chapter 22, Table 0.5). -/
def bar0Byte (off : Nat) : Bool := decide (off < 0x4000000)

/-- A register of BAR0: an aligned word (R11). -/
def bar0Word (off : Nat) : Bool := bar0Byte off && off % 4 == 0

/-- A BAR0 read of `n` bytes from `off`: one to four bytes of one register (R11). -/
def bar0Read (off n : Nat) : Bool := bar0Byte off && decide (1 ≤ n ∧ off % 4 + n ≤ 4)

/-- A namespace identifier (R158, R159): 1 to 4,096. -/
def nsidGood (nsid : Nat) : Bool := decide (1 ≤ nsid ∧ nsid ≤ 4096)

/-- A port of the manifold (R213): 72 ports, each with up to eight sub-ports where it is an Ethernet port split into them; sub-port `k` of
port `p` is numbered `p + 72 k`. -/
def mfdPort (port : Nat) : Bool := decide (port < 576)

/-- A slot of the shelf. -/
def slotGood (slot : Nat) : Bool := decide (slot < 48)

/-- A layout word (Table 2.5): a parity layout D + P, or a mirror of C copies. -/
def layoutWord (w : Nat) : Bool :=
  if w / 2 ^ 15 % 2 == 1 then decide (2 ≤ w % 256 ∧ w % 256 ≤ 3) else decide (4 ≤ w % 256 ∧ w % 256 ≤ 32 ∧ 1 ≤ w / 256 % 4)

/-- A voltage measured at a slot, in 10 mV (Table 14.7): 12 bits. -/
def volts (v : Nat) : Bool := decide (v < 4096)

/-- MEM's findings (R83): a lost device is one of a channel that trained, and the capacity fits MEM_STATUS. -/
def MemInit.good (m : MemInit) : Bool := m.deviceLost &&& m.trained == m.deviceLost && decide (m.capacityGiB < 4096)

/-- A connection request (R104): a path MTU code of the transport, and fields no wider than it carries. -/
def CmReq.good (r : CmReq) : Bool :=
  decide (1 ≤ r.pmtu ∧ r.pmtu ≤ 5 ∧ r.qid < 65536 ∧ r.hsqSize < 65536 ∧ r.mac < 2 ^ 48 ∧ r.vlan < 65536 ∧ r.sport < 65536 ∧
    r.tclass < 256 ∧ r.hopLimit < 256 ∧ r.remoteIp < 2 ^ 128 ∧ r.localIp < 2 ^ 128)

/-- A completion TLP (R498): a tag of 10 bits, one of the 34 functions, a status code, a lower address and a byte count of a TLP. -/
def PcieCpl.good (c : PcieCpl) : Bool :=
  decide (c.tag < 1024 ∧ c.fn < 34 ∧ c.status < 8 ∧ c.lower < 128 ∧ c.owed ≤ 4096)

/-- A UDP payload's length (R129). -/
def PrdPkt.good (p : PrdPkt) : Bool := decide (p.bytes.length < 65528)

/-- An access to BAR2, of 64 MiB: it takes or gives at least one byte, and lies inside (R515). -/
def Bar2Access.good (a : Bar2Access) (off : Nat) : Bool :=
  match a with
  | .write data => decide (0 < data.length ∧ off + data.length ≤ 0x4000000)
  | .read n => decide (0 < n ∧ off + n ≤ 0x4000000)

/-- Is the command one that can arrive? -/
def Instr.wellFormed : Instr → Bool
  | .registerWrite off _ => bar0Word off
  | .bar0PartialWrite off _ => bar0Byte off
  | .lowWordRead off n => bar0Read off n
  | .rcFieldRead off n => bar0Read off n
  | .memInitDone m _ => m.good
  | .slotGroupStart group => decide (group < 48)
  | .eraseDelayExpiry nsid => nsidGood nsid
  | .mergeWaitExpiry nsid _ => nsidGood nsid
  | .segmentRotate nsid _ => nsidGood nsid
  | .segmentFetchDone nsid _ _ => nsidGood nsid
  | .namespaceDeleteDrained nsid => nsidGood nsid
  | .formatStart nsid => nsidGood nsid
  | .formatDone nsid => nsidGood nsid
  | .balancingMoveStart nsid => nsidGood nsid
  | .copyMap _ nsid _ _ _ => nsidGood nsid
  | .handover _ h => nsidGood h.nsid
  | .stripeAssemblyTimeout layout _ => layoutWord layout
  | .grantReq _ layout _ cisterns => layoutWord layout && cisterns.all slotGood
  | .grant _ _ layout _ members _ => layoutWord layout && members.all fun m => slotGood m.1
  | .sklTrainingDone _ t => decide (t.lanes ≤ 2 ∧ t.polInv < 4)
  | .flitReceive _ f => decide (f.creditClass ≤ 3)
  | .identifyDone _ _ id => decide (id.writers < 4)
  | .slotCheckDone _ m _ => volts m.vout && volts m.vin
  | .holdupSample _ peerOn => peerOn.all slotGood
  | .slotFeedUv vin => volts vin
  | .slotFeedRestored vin => volts vin
  | .drawdownOpIssue _ die => decide (die < 256)
  | .mfdCopyDone _ port _ => mfdPort port
  | .portLinkDown port => mfdPort port
  | .portLinkUp port => mfdPort port
  | .portHoldExpiry port => mfdPort port
  | .portStall port => mfdPort port
  | .ethFrameReceive _ f => decide (0 < f.dests.length ∧ f.dests.length ≤ 4) && f.dests.all mfdPort
  | .pfcFrameReceive _ _ quanta => quanta.all fun q => decide (q.2 < 65536)
  | .cmReq r => r.good
  | .prdCmdReceive p => p.good
  | .prdWdataReceive p => p.good
  | .prdProbe p => p.good
  | .peerLinkTrained _ t => decide (t.lanes ≤ 8 ∧ t.polInv < 256)
  | .peerLinkRecoveryDone _ lanes => decide (lanes ≤ 8)
  | .brontantoFrameReceive _ f => decide (f.type < 256 ∧ f.dest < 256 ∧ f.hops ≤ 7 ∧ f.payload.length ≤ 65792)
  | .liveSet _ _ values => values.all fun e => bar0Word e.1
  | .prepare _ _ _ _ values => values.all fun e => bar0Word e.1
  | .windowAccess _ len sent => sent.all fun d => d.length == len
  | .nvmeDoorbell _ queue _ value => decide (queue < 65536 ∧ value < 65536)
  | .ccEnWrite _ _ _ asq acq => asq % 4096 == 0 && acq % 4096 == 0
  | .pcieCompletionReceive c => c.good
  | .vfEnable _ numVfs => decide (numVfs ≤ 32)
  | .pcieLinkTrained _ width _ => [1, 2, 4, 8, 16].contains width
  | .bar2Write off a _ => a.good off
  | .bandwidthWindowEnd totals => totals.all fun e => mfdPort e.1
  | .i3cSensorRead r => r.die.length == 6
  | .getCertificate slot off len => decide (slot < 8 ∧ off < 65536 ∧ len < 65536)
  | .challenge slot _ _ => decide (slot < 8)
  | .powerOn _ | .resetNAsserted | .resetNSaveTimeout | .aonDone _ _ _ | .romImageCheck _ | .clocksLocked _ _ | .structDone _ _
  | .dramInitDone | .admitTimeout _ | .primeDone _ _ _ | .recoverDone _ | .joinTimeout | .podJoinDone _
  | .primingPwrfailRelease | .softwareFullReset _ | .warmReset _ | .perstNAsserted | .imageStage | .stagingDone _ | .trialNext
  | .imageAccept | .fuseProgram _ | .fuseRevoke _ | .fuseOpDone | .commit _ | .commitAbort _ | .commitApplyDone | .blockStop _
  | .blockStopped _ | .blockStart _ | .blockReset _ | .blockResetDone _ | .cmRtu _ _ | .cmRej _ _ | .cmDreq _ _ | .cmDrep _ _
  | .cmTimeout _ | .rcSendReceive _ | .rcRegionWriteReceive _ | .rcRegionReadRequest _ | .rcReadResponseReceive _
  | .rcAckReceive _ | .rcNakReceive _ | .cnpReceive _ | .contextFetchDone _ _ | .ackCoalesceTimeout _ | .ackTimeout _
  | .rnrWaitEnd _ | .qpFlushDone _ | .qpQuarantineEnd _ | .qpInspect _ | .keepAliveExpiry _ | .pullTimeout _
  | .prdAdmitDeadline _ | .prdEntryExpiry _ _ _ | .tLifeRaiseSettled | .prdStepHoldEnd | .prdHostWrite _ | .prdHostRead _
  | .prdHostAccessDone | .identify _ | .getLogPage _ | .getFeatures _ | .setFeatures _ | .asynchronousEventRequest _ | .abort _
  | .namespaceCreate _ _ | .namespaceDelete _ _ | .namespaceAttachment _ | .keepAlive _ | .directiveSend _
  | .directiveReceive _ | .virtualizationManagement _ | .fabricsConnect _ _ | .propertyGet _ | .propertySet _ | .disconnect _
  | .authenticationSendReceive _ | .createIoSq _ | .deleteIoSq _ | .createIoCq _ | .deleteIoCq _ | .formatNvm _
  | .unsupportedOpcode _ | .flush _ | .write _ | .read _ | .compare _ | .writeZeroes _ | .datasetManagement _ | .verify _
  | .reservationRegister _ | .reservationReport _ | .reservationAcquire _ | .reservationRelease _ | .namespaceRegCreate _
  | .namespaceRegGrow _ | .namespaceRegDelete _ | .namespaceRegRead _ | .regionRegister _ | .regionDescriptorRead _
  | .regionRevoke _ | .regionDrainEnd _ | .regionRevokeTimeout _ | .regionZeroed _ | .qosAdmission _ | .tenantInactive _
  | .mfdAgeCheck _ | .pfcRefresh _ _ | .stripeCommit _ | .checkpointTrigger | .checkpointDone | .openIdleExpiry _
  | .drawdownCopyIssue | .tankDrawDone _ | .tankEraseDone _ | .refreshScan | .blockRetire _ | .blockRecordRead _
  | .graceExpiry _ | .cisternFail _ _ | .rebuildSweepDone _ | .tankSubstituted | .lostListRead _ | .ptpMessageReceive _
  | .ptpSyncSend _ | .holdoverEntry | .peerTimeExchange _ _ | .ppsEdge | .stepOverride _ | .stepOverrideLapse
  | .secureTimeRecord | .timeFlagCheck | .launchArm _ _ | .launchCancel _ _ | .launchDue _ | .windowSlotStart | .intentSend
  | .intentReceive _ | .intentDeadline | .sklRecoveryEntry _ | .sklRecoveryDone _ | .sklRetrainLimit _ | .sklL1Entry _
  | .badblocksDone _ _ _ | .cisternStatusPoll _ | .statusDone _ _ _ | .epochSetDone _ _ | .readDone _ _ _ _ | .programDone _ _
  | .eraseDone _ _ | .sklTagTimeout _ _ | .sklTagQuarantineEnd _ _ | .prsntDebounced _ | .slotRampDone _ | .slotGateEnhanced _
  | .slotGateTimeout _ _ | .slotResetRelease _ | .slotLimitTimeout _ _ _ | .fastTrip _ _ _ _ | .reverseCurrent _ _
  | .slotPgLoss _ _ _ | .slotRemoval _ | .faultClr _ _ | .slotEnWrite _ _ | .autoRetryWrite _ _ | .holdoffExpiry _
  | .slotOnSettled _ | .slotBackfeedWaitEnd _ _ | .sumpReservationGrant _ | .floatRecompute | .pwrfailNFall
  | .inputUndervoltage | .inputBrownout | .inputOvervoltage | .saveComplete _ | .saveTriggerCleared | .mirrorFrameReceive _
  | .mirrorAckReceive _ | .singleModeEntry | .suspend | .suspendAck | .mirrorCopybackDone | .forceTakeover _ | .shutdown _
  | .shutdownDone | .saveLostClear _ | .keyImport _ | .keyGenerate _ | .keyDestroy _ | .keyInfo _ | .exportPub _ | .keyOpDone
  | .laAcquire _ | .laRelease _ | .laForce _ | .laProducerWrite _ _ | .laDescriptorDone | .laLockTimeout | .retentionRead _
  | .holdSet _ | .holdClear _ | .extend _ | .retentionExpiryCheck | .auditArchWrite _ | .auditVerify | .auditVerifyDone
  | .peerLinkLost _ | .helloSend | .hello _ _ _ | .joinRefuse _ _ | .liveSetReq _ | .podLaunchPropose _ | .podLaunchCancel _
  | .agree _ | .refuse _ _ | .go _ | .abandon _ | .launchAnswerDeadline | .goLate | .memberDeadTime _ | .leaving _
  | .fenceDelayExpiry | .failoverFenced | .release _ _ _ | .epochNote _ _ _ | .keyCopy _ _ _ _ _ | .forceOwn _ | .forward _ _
  | .configRequest _ _ _ | .barRequestUndecoded _ _ _ | .windowEnable _ _ | .pcieCompletionTimeout _ | .pcieTagQuarantineEnd _
  | .busMasterClear _ | .functionLevelReset _ | .flrDone _ | .ltrSend | .postedWriteReceive _ _ | .getVersion
  | .getCapabilities | .negotiateAlgorithms _ _ | .getDigests | .getMeasurements _ _ _ | .spdmUnsupported _
  | .mailboxDoorbell _ | .mailboxComplete _ | .sequencerHalt _ _ | .seqWorkOverrun _ | .hostAtomic _ | .tileCounterClear _ _
  | .pmuSnapshot _ | .pmuBlockCopyDone | .bandwidthWindowWrite _ | .deviceStateEvaluate _ | .deviceStateExitDone
  | .regulatorFault _ | .i3cBusRetry _ | .thermalTrip _ | .thermalTripRelease _ | .clockLockLoss _ | .ringCoalesceExpiry _
  | .ringConsWrite _ _ | .ringEnable _ _ | .historyRead _ | .fatalError _ | .fatalHoldExpiry | .fatalClear _ | .watchdogKick _
  | .watchdogWarn | .watchdogExpiry | .resetNRelease | .perstNRelease | .sklTrainingRestart _ | .peerLinkRecoveryEntry _
  | .doeDiscovery _ | .pfcPauseExpiry _ _ _ | .idleWaitExpiry _ | .interruptCoalescingTimeout _ _ => true

end Sys2Proof
end

