-- ==== Sys2Proof/Tests/Slice0.lean ====
section
/-! SUPPORT. The model's own tests: ill-formed commands refused, single steps against the spec's words, and for each statement with hypotheses
a state and operands that meet them, clause by clause (`witness_<statement>`). -/

namespace Sys2Proof.Tests

set_option Elab.async false

open Sys2Proof Sys2Proof.Machine

/-! ### Small states -/

/-- Right after reset, in a given priming state. -/
def at_ (st : Nat) : State := State.reset.wr Reg.GLB_PRIME_STATUS_STATE st

/-- In SERVE, with a block running. -/
def srv (b : Block) : State := ((at_ stSERVE).wr (fRun b) 1).wr (fStopped b) 0

/-! ### The queue, plain accesses -/

theorem witness_StepRunsTheFrontCommand :
    (State.reset.withPending [.bar0PartialWrite 4 0#32]).pending = .bar0PartialWrite 4 0#32 :: [] ∧ State.reset.pending = [] := by decide

theorem witness_StepKeepsShownCounts : State.reset.countsShown ∧ step State.reset = .next State.reset := ⟨⟨by decide, by decide⟩, rfl⟩

/-- A state between a warm reset's start and the end of STRUCT, and one with an audit log that is full. -/
def warming : State := { at_ stCLOCKS with prim := { warm := true } }
def auditFullNow : State := (at_ stSERVE).wr Reg.CRY_AUDIT_HEAD_LO (State.reset.auditCapacity - 64)

/-- Outside every block; of a block read as ones (a warm reset), of one not decoded (before PRIME); then SEQ_ATOM_ADDR of a decoded block, of one
in its own reset; a word of a node the tree does not create; the MSI-X table; a namespace register with the audit log full and not. -/
theorem witness_RegisterWriteAppliesEveryFieldOfTheWord :
    blockAt 0x5F00000 = none ∧
    (blockAt 0x3C00300 = some .seq ∧ warming.decodeOf .seq = .ones ∧ (at_ stROM).decodeOf .seq = .none ∧ (at_ stSERVE).decodeOf .seq = .all) ∧
    (((at_ stSERVE).accessWake .seq 0x3C00300).is (fResetting .seq) = false ∧
      ((at_ stSERVE).accessWake .seq 0x3C00300).absentNode 0x3C00300 = false ∧ ¬ (0x600000 ≤ 0x3C00300 ∧ 0x3C00300 < 0x608000) ∧
      nsRegister 0x3C00300 = false) ∧
    (((at_ stSERVE).wr (fResetting .seq) 1).decodeOf .seq = .all ∧
      (((at_ stSERVE).wr (fResetting .seq) 1).accessWake .seq 0x3C00300).is (fResetting .seq) = true ∧
      0x3C00300 / 0x20 ≠ commonBase .seq / 0x20) ∧
    (blockAt 0x1011000 = some .qos ∧ (at_ stSERVE).decodeOf .qos = .all ∧ ((at_ stSERVE).accessWake .qos 0x1011000).absentNode 0x1011000 = true) ∧
    (blockAt 0x600010 = some .pcie ∧ (at_ stSERVE).decodeOf .pcie = .all ∧ ((at_ stSERVE).accessWake .pcie 0x600010).is (fResetting .pcie) = false) ∧
    (blockAt 0x1C00300 = some .ftl ∧ nsRegister 0x1C00300 = true ∧
      (auditFullNow.accessWake .ftl 0x1C00300).auditFull = true ∧ auditFullNow.decodeOf .ftl = .all ∧
      (auditFullNow.accessWake .ftl 0x1C00300).is (fResetting .ftl) = false ∧
      ((at_ stSERVE).accessWake .ftl 0x1C00300).auditFull = false ∧ (at_ stSERVE).decodeOf .ftl = .all) := by decide +kernel

theorem witness_FieldWriteFollowsAccessAndClass :
    (∀ f ∈ [Reg.IMG_STATUS_RESULT, Reg.QOS_TREE0_LEVELS, Reg.TIME_PTP_CFG_DOMAIN, Reg.WELL_RC_TIMERS_ACK_TIMEOUT, Reg.GLB_RESET_CAUSE_WARM,
        Reg.SEQ_ATOM_ADDR, Reg.WELL_MISSQ_STATUS_PEAK],
      hasOwnRow f = false ∧ highOf f = none ∧ lowOf f = none ∧ f.width ≤ 32) ∧
    Reg.IMG_STATUS_RESULT.acc = .ro ∧ Reg.QOS_TREE0_LEVELS.acc = .img ∧ Reg.WELL_MISSQ_STATUS_PEAK.acc = .rc ∧
    (Reg.TIME_PTP_CFG_DOMAIN.acc = .rw ∧ Reg.TIME_PTP_CFG_DOMAIN.cls = .quiescent ∧ State.reset.stopped .time = true ∧
      (srv .time).stopped .time = false) ∧
    (Reg.WELL_RC_TIMERS_ACK_TIMEOUT.acc = .rw ∧ Reg.WELL_RC_TIMERS_ACK_TIMEOUT.cls = .live ∧ Reg.WELL_RC_TIMERS_ACK_TIMEOUT.shadowed = true ∧
      State.reset.is Reg.GLB_COMMIT_STATUS_LOCKED = false ∧
      (State.reset.wr Reg.GLB_COMMIT_STATUS_LOCKED 1).is Reg.GLB_COMMIT_STATUS_LOCKED = true) ∧
    (Reg.SEQ_ATOM_ADDR.acc = .rw ∧ Reg.SEQ_ATOM_ADDR.cls = .live ∧ Reg.SEQ_ATOM_ADDR.shadowed = false ∧
      launchAt Reg.SEQ_ATOM_ADDR.off = none ∧ Reg.SEQ_ATOM_ADDR.off ≠ 0x400400 ∧
      Reg.SEQ_ATOM_ADDR.off ≠ Reg.CRY_LA_RING_LO.off ∧ Reg.SEQ_ATOM_ADDR.off ≠ Reg.CRY_LA_RING_HI.off ∧
      Reg.SEQ_ATOM_ADDR.off ≠ Reg.CRY_LA_RING_SIZE.off ∧ rangeKept Reg.SEQ_ATOM_ADDR = false) ∧
    Reg.GLB_RESET_CAUSE_WARM.acc = .w1c := by decide

/-- TIME_NOW, in SERVE and in ROM; SEQ_ATOM_OPERAND's words, the low one waiting. -/
theorem witness_SixtyFourBitValuesMoveWhole :
    ((at_ stSERVE).decodes (regOf Reg.TIME_NOW_LO.off) = true ∧ isLowWord (behind (regOf Reg.TIME_NOW_LO.off)) = true ∧
      (at_ stSERVE).decodes (regOf Reg.TIME_NOW_LO.off + 4) = true) ∧
    ((at_ stROM).decodes (regOf Reg.TIME_NOW_LO.off) = false ∧ isLowWord (behind (regOf 0x3C00300)) = false) ∧
    (hasOwnRow Reg.SEQ_ATOM_OPERAND_LO = false ∧ Reg.SEQ_ATOM_OPERAND_LO.acc = .rw ∧ Reg.SEQ_ATOM_OPERAND_LO.cls = .live ∧
      highOf Reg.SEQ_ATOM_OPERAND_LO = some Reg.SEQ_ATOM_OPERAND_HI) ∧
    (hasOwnRow Reg.SEQ_ATOM_OPERAND_HI = false ∧ Reg.SEQ_ATOM_OPERAND_HI.acc = .rw ∧ Reg.SEQ_ATOM_OPERAND_HI.cls = .live ∧
      highOf Reg.SEQ_ATOM_OPERAND_HI = none ∧ lowOf Reg.SEQ_ATOM_OPERAND_HI = some Reg.SEQ_ATOM_OPERAND_LO ∧
      Tab.find Reg.SEQ_ATOM_OPERAND_LO.off (State.reset.wrField .seq 7 Reg.SEQ_ATOM_OPERAND_LO).regs.writeLatch = some 7) := by decide

/-- GLB decodes in ROM already, SEQ does not; WELL_MISSQ_STATUS.PEAK is an RC field. -/
theorem witness_PartialWritesAreDiscardedAndReadsClear :
    (blockAt 4 = some .glb ∧ (at_ stSERVE).decodeOf .glb ≠ .none) ∧
    (blockAt 0x3C00300 = some .seq ∧ (at_ stROM).decodeOf .seq = .none) ∧
    (blockAt (regOf Reg.WELL_MISSQ_STATUS_PEAK.off) = some .well ∧ (at_ stSERVE).decodeOf .well = .all ∧
      (at_ stSERVE).is (fResetting .well) = false) ∧
    Reg.WELL_MISSQ_STATUS_PEAK ∈ fieldsAt (regOf Reg.WELL_MISSQ_STATUS_PEAK.off) ∧ Reg.WELL_MISSQ_STATUS_PEAK.acc = .rc ∧
    Reg.WELL_MISSQ_STATUS_PEAK.key ∉ shownFields.map Field.key ∧
    (at_ stROM).decodes (regOf Reg.WELL_MISSQ_STATUS_PEAK.off) = false := by decide

/-! ### Resets and priming -/

/-- The bytes of a signed image of 504 bytes: HEADER, SIGNATURE, POLICY (a sequencer schedule), PARAM and POD, laid out by hand from chapter 2 and
signed with a key of the test's own; the fuses that hold the SHA-384 of that key; and the boot flash with it in slot A. -/
def imageNat : Nat :=
  0x00000001500000005756494d01000200f8010000000000000500000000000000070000000000000048960000b000000000000000ffffffff7465737400000000000000000000000000000000000000000000000000000000ab72392f00000002dc0000000100c00261000000047ae9e1db1160794c70c1ef071be5191f6c66240f4608fbe8a44ecd36c3ed5db97500f2e4d84e3fb45850fd6f4303302bd8ac21444cd80d241538d8034b399a0dee3636eb5cb00b9499d061a571db0f14bb47ed79453948ed63f3a6ccbbf6e74f000000601db4cf0200c002600000002ca8c560f92280756d4d4e5903043a370532b246669e6110b033f9ab150d51863208e24bd70ce3738d027638bbd54cd2b5f4f79ea8c34df61a57b534c3cc2963850131d6349df69e4b326b0abc51159d16ef67f09d38fd7c2723cf6d69cc180a0b8f64b75294bf7c000000032c0000000500800310000000050400000000000000000000000000002089ea9a0a00800302000000100200003fb42290d12303e200000004640000000100800402000000000100004aa0f8890200800404000000000400005d929052030080040200000010000000692b3ea70400800404000000e803000021ef23590500800418000000010001010101000000000000000000000000000000000000123bd60b7ed5819e000000050000000096637c54
def imageBytes : List Byte := bytesOf (beList 504 imageNat)
def goodFuses : Fuses := { vendor := [{ programmed := true, hash := 0xf8ff926584fa072475d878e9f499b0a4d7146994b148d98b7ec760b8e4cb1467535eacecf9ae072f3b79dccc277db5c3 }], serial := 77 }
def goodNor : Nor := { copy0 := ({ seq := 1 } : Selector).bytes, slotA := imageBytes }

/-- In ROM, with that flash and those fuses; and an image of PROVISION booted, in a priming state. -/
def inRom : State := { at_ stROM with img := { nor := goodNor, fuses := goodFuses } }
def booted (st : Nat) : State :=
  { at_ st with img := { nor := goodNor, fuses := goodFuses, booted := some { provision := true } } }

/-- A save of cause RESET_N has run since 5 ns, and RESET_N's reset waits for it. -/
def saving : State := { at_ stSERVE with
  prim := { resetNLow := true, waiting := some .resetN, resetNAt := 5 }, sump := { save := some (.reset, 5) } }

def lowInput : State := { State.reset with prim := { resetNLow := true } }

theorem witness_ResetsBegin :
    (State.reset.st = stAON ∧ (at_ stSERVE).prim.powered = true ∧ (at_ stSERVE).st ≠ stAON) ∧
    (State.reset.heldInReset = false ∧ lowInput.heldInReset = true) ∧
    (saving.prim.waiting = some .resetN ∧ saving.sump.save = some (.reset, 5) ∧ State.reset.prim.waiting ≠ some .resetN) ∧
    ((at_ stSERVE).resetWrite 0x96480001#32 = true ∧ (0x96480001#32 : W32).toNat % 2 = 1) ∧
    ((at_ stSERVE).resetWrite 0x96480002#32 = true ∧ (0x96480002#32 : W32).toNat % 4 = 2) ∧
    ((at_ stSERVE).resetWrite 3#32 = false ∧ (0x96480002#32 : W32).toNat % 2 = 0 ∧ (0x96480004#32 : W32).toNat % 4 = 0) ∧
    (({ State.reset with prim := { pwrStop := true } } : State).prim.pwrStop = true ∧ State.reset.prim.pwrStop = false) ∧
    (State.reset.prim.resetNLow = false ∧
      (lowInput.prim.resetNLow = true ∧ lowInput.prim.tripHeld = false ∧ lowInput.prim.powered = true ∧ lowInput.st = stAON) ∧
      (saving.prim.resetNLow = true ∧ saving.st ≠ stAON)) := by decide

/-- CAUSE.POWER_ON is reset by a power-on alone, PRIME_CTL.SLOT_GROUP is sticky, TIME_SECURE is kept in MRAM. -/
theorem witness_ResetFollowsTheDomain :
    (∀ f ∈ [Reg.GLB_PRIME_CTL_SLOT_GROUP, Reg.TIME_SECURE_LO, Reg.TIME_PTP_CFG_DOMAIN, Reg.GLB_RESET_CAUSE_WARM],
      fieldOfKey f.key = some f) ∧
    keepField .warm false Reg.GLB_PRIME_CTL_SLOT_GROUP = true ∧ keepField .softFull false Reg.TIME_PTP_CFG_DOMAIN = false ∧
    Reg.GLB_PRIME_CTL_SLOT_GROUP.domain = .sticky ∧ Reg.TIME_SECURE_LO.domain = .mram ∧ Reg.GLB_RESET_CAUSE_WARM.domain = .powerOn ∧
    State.reset.heldInReset = false := by decide

/-- In MEM with channel 0 alone populated, and after a warm reset. -/
def inMem (warm : Bool) : State := { at_ stMEM with
  prim := { warm := warm }, img := { booted := some { params := { dram := [1] } } } }

theorem witness_PrimingUpToStruct :
    (State.reset.primes stAON = true ∧ (at_ stSERVE).primes stAON = false) ∧
    ((at_ stSERVE).primes stROM = false ∧ ((at_ stROM).wr Reg.GLB_STRAP_BOOT_MODE 1).primes stROM = true ∧
      ((at_ stROM).wr Reg.GLB_STRAP_BOOT_MODE 1).rd Reg.GLB_STRAP_BOOT_MODE = 1) ∧
    ((at_ stROM).primes stROM = true ∧ (at_ stROM).rd Reg.GLB_STRAP_BOOT_MODE ≠ 1 ∧ ((at_ stROM).advance 1).romBoot.2 = false) ∧
    ((at_ stCLOCKS).primes stCLOCKS = true ∧ (at_ stSERVE).primes stCLOCKS = false ∧ 0x7FFFF#20 ≠ 0xFFFFF#20) ∧
    ((at_ stSERVE).primes stMEM = false ∧
      (inMem false).primes stMEM = true ∧ (inMem true).primes stMEM = true ∧ (inMem true).prim.warm = true ∧
      (1#8 : BitVec 8).toNat &&& (inMem true).params.populated ≠ 0 ∧ (1#8 : BitVec 8).toNat &&& (inMem false).params.populated ≠ 0 ∧
      (2#8 : BitVec 8).toNat &&& (inMem false).params.populated = 0 ∧ (inMem false).prim.warm = false) := by decide +kernel

/-- A POLICY record that names an unallocated word is refused. -/
def badPolicy : State := { at_ stSTRUCT with img := { booted := some { policy := [{ index := 3, off := 0x3FFFFFC, mask := 1, value := 1 }] } } }

/-- What STRUCT makes of POLICY. -/
def structPolicy (s : State) : State × Option Nat :=
  (s.advance 1).applyPolicy (fun f => !(s.advance 1).prim.warm || !keepField .warm false f) (s.advance 1).policy

/-- A stripe of one cistern. -/
def aStripe : Stripe := { seq := 1, tank := 0, index := 0, layout := 0, cls := 0, wtime := 0, since := 0 }

/-- DRAM is initialised, in PRIME; in RECOVER, with a whole version waiting and with a version that waits for a tank; in POD, heard from and not. -/
def inPrime : State := (at_ stPRIME).wr Reg.GLB_PRIME_STATUS_DRAM_INIT_DONE 1
def recovering : State := { at_ stRECOVER with ftl := { asm := [(0, aStripe)] } }
def heardFrom (set : Nat) (live pair : Bool) : State :=
  ({ at_ stPOD with
    pod := { heard := [(1, { hello := some { podId := 0, serial := 1, member := 1, state := stPOD } })], liveDone := live, pairKey := pair } } : State).wr Reg.POD_STATUS_SERVE_SET set

theorem witness_PrimingFromStructToServe :
    ((at_ stSERVE).primes stSTRUCT = false ∧ (at_ stSERVE).primes stPRIME = false ∧ (at_ stSERVE).primes stRECOVER = false ∧
      (at_ stSERVE).primes stPOD = false) ∧
    ((at_ stSTRUCT).primes stSTRUCT = true ∧ (structPolicy (at_ stSTRUCT)).2 = none ∧ (structPolicy (at_ stSTRUCT)).1.scheduleGood = true) ∧
    (badPolicy.primes stSTRUCT = true ∧ (structPolicy badPolicy).2 = some 3) ∧ (0xFFFE#16 : BitVec 16) ≠ 0xFFFF ∧
    (({ at_ stSTRUCT with mem := { dramBytes := 2 ^ 37 } } : State).mem.dramBytes ≠ 0 ∧ stSTRUCT ≤ (at_ stSTRUCT).st ∧
      (at_ stSTRUCT).st ≠ stHALTED ∧ (at_ stSTRUCT).heldInReset = false ∧ State.reset.mem.dramBytes = 0) ∧
    (inPrime.primes stPRIME = true ∧ inPrime.is Reg.GLB_PRIME_STATUS_DRAM_INIT_DONE = true ∧ inPrime.shelf.groups = [] ∧
      slots48.all inPrime.slotSettled = true ∧ (at_ stPRIME).primes stPRIME = true ∧
      (at_ stPRIME).is Reg.GLB_PRIME_STATUS_DRAM_INIT_DONE = false) ∧
    ((at_ stRECOVER).primes stRECOVER = true ∧ ((at_ stRECOVER).advance 1).ftl.versions = [] ∧ ((at_ stRECOVER).advance 1).ftl.asm = [] ∧
      ((at_ stRECOVER).advance 1).placing = false ∧ recovering.primes stRECOVER = true ∧ (recovering.advance 1).ftl.asm ≠ []) ∧
    ((at_ stPOD).primes stPOD = true ∧ (at_ stPOD).rd Reg.POD_STATUS_SERVE_SET = 0 ∧ (heardFrom 2 false false).rd Reg.POD_STATUS_SERVE_SET ≠ 0) ∧
    ((heardFrom 2 true true).primes stPOD = true ∧ ((heardFrom 2 true true).pod.heard.any fun e => e.2.hello.isSome) = true ∧
      (heardFrom 2 true true).pod.liveDone = true ∧ (heardFrom 2 true true).pod.pairKey = true ∧
      ((at_ stPOD).pod.heard.any fun e => e.2.hello.isSome) = false ∧ (heardFrom 2 false false).pod.liveDone = false) := by decide +kernel

/-- A stripe of RECOVER's placing still programs. -/
theorem witness_PrimingFromStructToServe_placing :
    ({ at_ stRECOVER with ftl := { fly := [(1, aStripe)] } } : State).primes stRECOVER = true ∧
    (({ at_ stRECOVER with ftl := { fly := [(1, aStripe)] } } : State).advance 1).ftl.versions = [] ∧
    (({ at_ stRECOVER with ftl := { fly := [(1, aStripe)] } } : State).advance 1).ftl.asm = [] ∧
    (({ at_ stRECOVER with ftl := { fly := [(1, aStripe)] } } : State).advance 1).placing = true := by decide +kernel

theorem witness_HaltedTakesEverySlotAndLinkDown : fcImage < 256 := by decide

/-! ### The shelf image, commits, block control -/

/-- A staged copy being checked. -/
def staging (l : List Byte) : State :=
  ({ at_ stSERVE with img := { nor := goodNor, fuses := goodFuses, staged := some l } } : State).wr Reg.IMG_STAGE_STATUS_BUSY 1

/-- A trial; a copy that passed, not yet tried; the audit log full. -/
def onTrial : State := (at_ stSERVE).wr Reg.IMG_STATUS_TRIAL 1
def passed : State := (booted stSERVE).wr Reg.IMG_STAGE_STATUS_RESULT imgOk
def bootedFull : State := (booted stSERVE).wr Reg.CRY_AUDIT_HEAD_LO (State.reset.auditCapacity - 64)

theorem witness_ImagesAreStagedTriedAndAccepted :
    ((at_ stSERVE).wr (fResetting .img) 1).reached .img = false ∧
    ((at_ stSERVE).reached .img = true ∧ (at_ stSERVE).is Reg.IMG_STAGE_STATUS_BUSY = false ∧ (at_ stSERVE).is Reg.IMG_STATUS_TRIAL = false) ∧
    ((staging []).reached .img = true ∧ (staging []).is Reg.IMG_STAGE_STATUS_BUSY = true) ∧
    (onTrial.reached .img = true ∧ onTrial.is Reg.IMG_STAGE_STATUS_BUSY = false ∧ onTrial.is Reg.IMG_STATUS_TRIAL = true) ∧
    ((staging []).img.staged = some [] ∧ (checkImage (staging []).img.fuses 0 (readImage [] 0)).isSome = true) ∧
    ((at_ stSERVE).rd Reg.IMG_STAGE_STATUS_RESULT ≠ imgOk) ∧
    (passed.reached .img = true ∧ passed.is Reg.IMG_STAGE_STATUS_BUSY = false ∧ passed.rd Reg.IMG_STAGE_STATUS_RESULT = imgOk) ∧
    (at_ stSERVE).img.booted = none ∧
    (bootedFull.reached .img = true ∧ bootedFull.img.booted ≠ none ∧ bootedFull.auditFull = true) ∧
    ((booted stSERVE).reached .img = true ∧ (booted stSERVE).img.booted = some { provision := true } ∧ (booted stSERVE).auditFull = false) := by
  decide +kernel

/-- FUSE_CTL is written with its key; an operation of each outcome. -/
def fusing (r : Nat) (revoke : Bool) : State :=
  { State.reset with img := { fusePlan := some { index := 0, revoke := revoke, pq := false, hash := 1, result := r } } }

theorem witness_FuseOperationsAreKeyedAuditedAndChecked :
    ((0x96480000#32 : W32).toNat / 65536 = 0x9648 ∧ (0#32 : W32).toNat / 65536 ≠ 0x9648) ∧
    (((booted stSERVE).wr (fResetting .img) 1).imgWrite 0x200080 0x96480000#32).reached .img = false ∧
    ((((booted stSERVE).wr Reg.IMG_FUSE_STATUS_BUSY 1).imgWrite 0x200080 0x96480000#32).is Reg.IMG_FUSE_STATUS_BUSY = true) ∧
    (((booted stSERVE).imgWrite 0x200080 0x96480000#32).reached .img = true ∧
      ((booted stSERVE).imgWrite 0x200080 0x96480000#32).is Reg.IMG_FUSE_STATUS_BUSY = false ∧
      ((booted stSERVE).imgWrite 0x200080 0x96480000#32).auditFull = false ∧
      (bootedFull.imgWrite 0x200080 0x96480000#32).auditFull = true) ∧
    (∀ revoke ∈ [false, true], (((booted stSERVE).imgWrite 0x200080 0x96480000#32).fuseStart revoke).img.fusePlan.isSome = true) ∧
    (at_ stSERVE).img.fusePlan = none ∧
    (∀ revoke ∈ [false, true],
      (fusing fuseOk revoke).img.fusePlan = some { index := 0, revoke := revoke, pq := false, hash := 1, result := fuseOk }) ∧
    (fusing 1 false).img.fusePlan = some { index := 0, revoke := false, pq := false, hash := 1, result := 1 } ∧ fuseOk < 4 ∧
    1 ≠ fuseOk := by decide +kernel

/-- A commit under way, with another held or not; the shadows locked by an agreed launch. -/
def applying (held : Option CommitSource) : State :=
  ({ at_ stSERVE with commit := { held := held } } : State).wr Reg.GLB_COMMIT_STATUS_BUSY 1
def launchLocked : State := (at_ stSERVE).wr Reg.GLB_COMMIT_STATUS_LOCKED 1

theorem witness_CommitPointsTakeASnapshot :
    (at_ stMEM).commitOpen = false ∧ (launchLocked.commitOpen = true ∧ launchLocked.is Reg.GLB_COMMIT_STATUS_LOCKED = true) ∧
    ((at_ stSERVE).commitOpen = true ∧ (at_ stSERVE).is Reg.GLB_COMMIT_STATUS_LOCKED = false) ∧
    ((4#32 : W32).toNat % 4 = 0 ∧ (1#32 : W32).toNat % 4 = 1 ∧ (2#32 : W32).toNat / 2 % 2 = 1 ∧ (3#32 : W32).toNat / 2 % 2 = 1) ∧
    ((applying none).is Reg.GLB_COMMIT_STATUS_BUSY = true ∧ (applying none).commit.held = none) ∧
    ((applying (some .launch)).is Reg.GLB_COMMIT_STATUS_BUSY = true ∧ (applying (some .launch)).commit.held = some .launch) ∧
    (at_ stSERVE).is Reg.GLB_COMMIT_STATUS_BUSY = false := by
  decide +kernel

/-- A shadow, of PCIE_LTR.ACTIVE below its range and within it, differs from the active value. -/
def shadowing (f : Field) (v : Nat) : State :=
  { at_ stSERVE with regs := { (at_ stSERVE).regs with shadow := [(f.key, BitVec.ofNat 32 v)] } }

theorem witness_CommitsApplyAllOrNone :
    (shadowing Reg.PCIE_LTR_ACTIVE 0).refuser .write (shadowing Reg.PCIE_LTR_ACTIVE 0).pendingShadows = some .pcie ∧
    (shadowing Reg.PCIE_LTR_ACTIVE 7).refuser .write (shadowing Reg.PCIE_LTR_ACTIVE 7).pendingShadows = none ∧
    (shadowing Reg.PCIE_LTR_ACTIVE 7).pendingShadows ≠ [] ∧
    (shadowing Reg.PCIE_LTR_ACTIVE 7).epochAfter .write (shadowing Reg.PCIE_LTR_ACTIVE 7).pendingShadows =
      (shadowing Reg.PCIE_LTR_ACTIVE 7).liveEpoch ∧
    Tab.sorted [(Reg.PCIE_LTR_ACTIVE.key, (7 : W32))] = true ∧
    (applying none).commit.source ≠ .pod ∧ (applying none).commit.refused = none ∧
    ({ applying none with commit := { refused := some 3 } } : State).commit.refused = some 3 ∧
    Reg.PCIE_LTR_ACTIVE.key ∉ [Reg.GLB_COMMIT_STATUS_LAST_RESULT, Reg.GLB_COMMIT_STATUS_LAST_SOURCE, Reg.GLB_COMMIT_STATUS_BUSY,
      Reg.GLB_COMMIT_STATUS_REJECT_BLOCK].map Field.key := by decide +kernel

/-- A block that drains, with RUN 0 or set again meanwhile; a block in its own reset, with RUN 0 or 1. -/
def draining (b : Block) (run : Nat) : State := ({ srv b with prim := { stopping := [blockCode b] } } : State).wr (fRun b) run
def resetting (run : Nat) : State := ((at_ stSERVE).wr (fResetting .seq) 1).wr (fRun .seq) run

theorem witness_BlocksStopDrainStartAndReset :
    ((at_ stROM).decodeOf .seq ≠ .all ∧ (at_ stSERVE).decodeOf .seq = .all ∧ (at_ stSERVE).decodeOf .glb = .all ∧ alwaysRuns .glb = true ∧
      alwaysRuns .seq = false) ∧
    ((srv .seq).decodeOf .seq = .all ∧ (((srv .seq).writeWord (commonBase .seq + 4) 0#32).wr (fRun .seq) 0).stopped .seq = false ∧
      ((srv .seq).writeWord (commonBase .seq + 4) 0#32).prim.stopping.contains (blockCode .seq) = false) ∧
    (((at_ stSERVE).writeWord (commonBase .seq + 4) 0#32).wr (fRun .seq) 0).stopped .seq = true ∧
    (((at_ stSERVE).writeWord (commonBase .seq + 4) 1#32).stopped .seq = true ∧
      ((at_ stSERVE).writeWord (commonBase .seq + 4) 1#32).is (fResetting .seq) = false ∧
      ((srv .seq).writeWord (commonBase .seq + 4) 1#32).stopped .seq = false) ∧
    (((at_ stSERVE).writeWord (commonBase .seq + 4) 2#32).stopped .seq = true ∧
      ((srv .seq).writeWord (commonBase .seq + 4) 2#32).stopped .seq = false) ∧
    (∀ b ∈ [Block.seq, .time, .well], (draining b 0).prim.stopping.contains (blockCode b) = true ∧
      (draining b 0).is Reg.GLB_COMMIT_STATUS_BUSY = false ∧ (draining b 0).blockBusy b = false ∧
      (srv b).prim.stopping.contains (blockCode b) = false) ∧
    (Block.seq ≠ .time ∧ Block.seq ≠ .well ∧
      ((({ draining .seq 0 with prim := { stopping := [] } } : State).wr (fStopped .seq) 1).is (fRun .seq) = false) ∧
      (({ draining .seq 1 with prim := { stopping := [] } } : State).wr (fStopped .seq) 1).is (fRun .seq) = true) ∧
    ((srv .seq).is (fResetting .seq) = false ∧ (resetting 1).is (fResetting .seq) = true ∧
      ((resetting 1).wr (fResetting .seq) 0).is (fRun .seq) = true ∧ ((resetting 1).wr (fResetting .seq) 0).stopped .seq = true ∧
      (resetting 0).is (fResetting .seq) = true ∧ ((resetting 0).wr (fResetting .seq) 0).is (fRun .seq) = false) := by
  decide +kernel

/-! ### Keys, look-aside cipher, audit, retention -/

/-- A vault operation under way on a vault with slot 17 LOADED, the audit log full or not; BUSY; CRY in its own reset. -/
def keying (k : KeyOp) : State := { srv .cry with cry := { keyOp := some k, vault := [(17, { state := slotLoaded })] } }
def keyingFull (k : KeyOp) : State := (keying k).wr Reg.CRY_AUDIT_HEAD_LO (State.reset.auditCapacity - 64)
def cryReset : State := (at_ stSERVE).wr (fResetting .cry) 1

theorem witness_VaultOperationsAreTakenAndAnswered :
    (cryReset.reached .cry = false ∧ (at_ stSERVE).reached .cry = true ∧ (at_ stSERVE).is Reg.CRY_KEY_STATUS_BUSY = false) ∧
    (((at_ stSERVE).wr Reg.CRY_KEY_STATUS_BUSY 1).reached .cry = true ∧
      ((at_ stSERVE).wr Reg.CRY_KEY_STATUS_BUSY 1).is Reg.CRY_KEY_STATUS_BUSY = true) ∧
    (State.reset.stopped .cry = true ∧ (srv .cry).cry.keyOp = none) ∧
    ((keying { op := 1, slot := 16 }).stopped .cry = false ∧ (keying { op := 1, slot := 16 }).cry.keyOp = some { op := 1, slot := 16 }) ∧
    (keyingFull { op := 1, slot := 17 }).auditFull = true ∧ (keying { op := 1, slot := 17 }).auditFull = false ∧
    ((keying { op := 1, slot := 17 }).vaultSlot 17).state = slotLoaded ∧
    (((at_ stSERVE).vaultSlot 16).state = slotEmpty ∧ ((at_ stSERVE).vaultSlot 16).state ≠ slotLoaded ∧
      (readWrapped ((booted stSERVE).dramRead 0 212)).serial ≠ (booted stSERVE).img.fuses.serial ∧
      (readWrapped ((at_ stSERVE).dramRead 0 212)).serial = (at_ stSERVE).img.fuses.serial) ∧
    ((keying { op := 2, slot := 17 }).vaultSlot 17).state ≠ slotEmpty ∧ (keyBytes 1 ≠ 0 ∧ 1 ≠ 6) ∧
    ({ at_ stSERVE with ns := [(1, { nsze := 1, keySlot := 16 })] } : State).keyInUse 16 = true ∧ (at_ stSERVE).keyInUse 16 = false := by
  decide +kernel

/-- The lock held by the host, idle or with one entry to do. -/
def laHeld (prod : Nat) : State := ((srv .cry).wr Reg.CRY_LA_LOCK_OWNER (ownerCode .host)).wr Reg.CRY_LA_PROD prod |>.wrB
  Reg.CRY_LA_CONS_IDLE (prod == 0)

theorem witness_LookAsideRingHasOneHolder :
    (∀ who ∈ [Writer.host, .seq 0], cryReset.laReached who = false ∧ (at_ stSERVE).laReached who = true ∧ (laHeld 0).laReached who = true) ∧
    (cryReset.reached .cry = false ∧ (laHeld 0).reached .cry = true) ∧
    (at_ stSERVE).rd Reg.CRY_LA_LOCK_OWNER = 0 ∧ (laHeld 0).rd Reg.CRY_LA_LOCK_OWNER ≠ 0 ∧
    ((laHeld 0).rd Reg.CRY_LA_LOCK_OWNER = ownerCode .host ∧ (laHeld 0).laIdle = true) ∧
    ((laHeld 1).rd Reg.CRY_LA_LOCK_OWNER = ownerCode .host ∧ (laHeld 1).laIdle = false ∧ (laHeld 1).rd Reg.CRY_LA_LOCK_OWNER ≠ 0) ∧
    ((0x96480001#32 : W32).toNat / 65536 = 0x9648 ∧ (1#32 : W32).toNat / 65536 ≠ 0x9648) ∧
    (at_ stSERVE).rd Reg.CRY_LA_LOCK_OWNER ≠ ownerCode .host ∧ State.reset.stopped .cry = true ∧
    ((laHeld 1).stopped .cry = false ∧ ((laHeld 1).laDesc ((laHeld 1).laEntry ((laHeld 1).rd Reg.CRY_LA_CONS))).flags % 2 = 0) := by
  decide +kernel

/-- A descriptor that asks for its event: FLAGS bit 0, in the first entry of a ring at DRAM 0x1000. -/
def laNotify : State :=
  { (laHeld 1).wr Reg.CRY_LA_RING_LO 0x1000 with mem := { dram := [(0x1001, 1), (0x1002, 1), (0x1003, 1), (0x1004, 1)], dramBytes := 2 ^ 37 } }

theorem witness_LookAsideRingHasOneHolder_notify :
    laNotify.laIdle = false ∧ laNotify.stopped .cry = false ∧
    (laNotify.laDesc (laNotify.laEntry (laNotify.rd Reg.CRY_LA_CONS))).flags % 2 = 1 := by decide +kernel

/-- A record of the ring. -/
def recordAt (n : Nat) : AuditRec := { body := { seq := n, secure := 0, shelf := 0, type := 1, actorKind := 0, refused := false, actor := 0,
                                                 nsid := 0, slot := 0, detail := .empty, prevMac := 0 }, mac := 0 }

def ringOf (l : List AuditRec) : State := { at_ stSERVE with cry := { audit := l } }

theorem witness_AuditRecordsAreChainedAndArchived :
    ((at_ stSERVE).reached .cry = true ∧ cryReset.reached .cry = false) ∧
    (0 < (at_ stSERVE).auditCapacity ∧ (at_ stSERVE).auditHead + 1 < 2 ^ 64) ∧
    ((at_ stSERVE).auditArch ≤ (0#64 : W64).toNat ∧ (0#64 : W64).toNat ≤ (at_ stSERVE).auditHead) ∧
    (at_ stSERVE).auditHead < (1#64 : W64).toNat ∧ (ringOf []).auditAt 3 = none ∧
    (3 ≠ 0 ∧ (ringOf [recordAt 3]).auditAt 3 = some (recordAt 3) ∧ (ringOf [recordAt 3]).auditAt (3 - 1) = none) := by decide

/-- A check that runs to SEQ 1, of a ring without the record it asks for, and one with nothing to check. -/
def verifying (n : Nat) : State := ({ srv .cry with cry := { verifyTo := n } } : State).wr Reg.CRY_AUDIT_VERIFY_BUSY 1

theorem witness_AuditVerifyReportsTheFirstBadRecord :
    ((at_ stSERVE).reached .cry = true ∧ (at_ stSERVE).is Reg.CRY_AUDIT_VERIFY_BUSY = false ∧ cryReset.reached .cry = false) ∧
    ((verifying 1).reached .cry = true ∧ (verifying 1).is Reg.CRY_AUDIT_VERIFY_BUSY = true ∧ (verifying 1).stopped .cry = false ∧
      (verifying 1).auditArch ≤ 0 ∧ 0 < (verifying 1).cry.verifyTo ∧ (verifying 1).auditBadAt 0 = true) ∧
    ((verifying 0).is Reg.CRY_AUDIT_VERIFY_BUSY = true ∧ (verifying 0).stopped .cry = false ∧
      ∀ m < (verifying 0).cry.verifyTo, (verifying 0).auditBadAt m = false) ∧
    (ringOf [recordAt 0]).auditAt 0 = some (recordAt 0) ∧
    ((ringOf [recordAt 1, recordAt 0]).auditAt 1 = some (recordAt 1) ∧ (ringOf [recordAt 1, recordAt 0]).auditAt (1 - 1) = some (recordAt 0)) := by
  decide

/-- Namespace 1 retention-locked or not, in a given state of retention, held or not; the audit log full or spent. -/
def locked (st : Nat) (retain hold : Bool) : State :=
  { (booted stSERVE).wr Reg.CRY_RET_ACC_NSID 1 with ns := [(1, { nsze := 1, retain := retain, hold := hold, retState := st })] }
def lockedFull (under : Nat) : State := (locked retExpiring true false).wr Reg.CRY_AUDIT_HEAD_LO (State.reset.auditCapacity - under)

theorem witness_RetentionIsReportedHeldExtendedAndExpired :
    ((cryReset.writeWord offRetAcc 1#32).reached .cry = false ∧
      ((locked retLocked true false).writeWord offRetAcc 1#32).reached .cry = true ∧
      ((locked retLocked true false).writeWord offRetAcc 1#32).auditFull = false) ∧
    (((lockedFull 64).writeWord offRetAcc 1#32).reached .cry = true ∧ ((lockedFull 64).writeWord offRetAcc 1#32).auditFull = true) ∧
    Tab.find 2 ((locked retLocked true false).writeWord offRetAcc 2#32).ns = none ∧
    ((Tab.find 1 ((locked retLocked false false).writeWord offRetAcc 1#32).ns).any fun n => !n.retain) = true ∧
    ((Tab.find 1 ((locked retLocked true false).writeWord offRetAcc 1#32).ns).any fun n => n.retain && n.holdUntil == 0) = true ∧
    ((locked retLocked true false).wr Reg.CRY_RET_UNTIL_LO 5).rd64 Reg.CRY_RET_UNTIL_LO Reg.CRY_RET_UNTIL_HI = 5 ∧
    (locked retLocked true false).rd64 Reg.CRY_RET_UNTIL_LO Reg.CRY_RET_UNTIL_HI = 0 ∧
    (∀ st ∈ [retLocked, retExpiring], ((Tab.find 1 (locked st true false).ns).any fun n => n.retain && n.retState == st &&
      (locked st true false).owns n && !n.hold && decide (n.expiry ≤ (locked st true false).tm.secure)) = true) ∧
    (∀ st ∈ [retLocked, retExpiring], ((Tab.find 1 (locked st true true).ns).any fun n => n.retState == st && n.hold) = true) ∧
    ((locked retExpiring true false).auditSpent = false ∧ (lockedFull 0).auditSpent = true) := by decide +kernel

/-! ### Flash translation, media care, rebuild -/

def ftlState (f : Ftl) : State := { srv .ftl with ftl := f }
/-- A 16 + 2 stripe with what has answered, in flight; and behind a save that has begun. -/
def stripe9 (acked missing : List Nat) : Stripe :=
  { seq := 9, tank := 1, index := 0, layout := 528, cls := 1, wtime := 0, since := 0, acked := acked, missing := missing }
def flying (acked missing : List Nat) : State := ftlState { fly := [(9, stripe9 acked missing)] }
def flyingInSave : State := { flying (List.range 18) [] with sump := { save := some (.reset, 5) } }
def fragment : Version := { nsid := 1, iu := 5, order := 1, whole := false, sectors := [] }

theorem witness_StripesAreAssembledComposedAndCommitted :
    Tab.find (clsKey 1 528) (ftlState { asm := [(clsKey 1 528, stripe9 [] [])] }).ftl.asm = some (stripe9 [] []) ∧
    Tab.find (clsKey 1 528) State.reset.ftl.asm = none ∧
    ((ftlState { versions := [fragment] }).ftl.versions.find? fun v => v.nsid == 1 && v.iu == 5 && !v.whole) = some fragment ∧
    (State.reset.ftl.versions.find? fun v => v.nsid == 1 && v.iu == 5 && !v.whole) = none ∧ Tab.find 9 State.reset.ftl.fly = none ∧
    (Tab.find 9 (flying (List.range 18) []).ftl.fly = some (stripe9 (List.range 18) []) ∧ (stripe9 (List.range 18) []).settled = true ∧
      (flying (List.range 18) []).commitWaits (stripe9 (List.range 18) []) = false ∧ (stripe9 (List.range 18) []).missing = []) ∧
    (Tab.find 9 (flying (List.range 17) [17]).ftl.fly = some (stripe9 (List.range 17) [17]) ∧ (stripe9 (List.range 17) [17]).settled = true ∧
      (flying (List.range 17) [17]).commitWaits (stripe9 (List.range 17) [17]) = false ∧ (stripe9 (List.range 17) [17]).missing ≠ []) ∧
    (stripe9 (List.range 17) []).settled = false ∧ flyingInSave.commitWaits (stripe9 (List.range 18) []) = true := by decide +kernel

/-- A flush whose copies are durable, one META stripe to be written again or none; two segments of namespace 1, the first loaded. -/
def flushed (redo : List MetaUse) : State := ftlState { journal := [.checkpoint 7 0 1], flushing := some (1, 7, true), metaRedo := redo }
def segmented : State :=
  { ftlState { waitSegs := [(1, 1)], segs := [(1, { all := false, loaded := [(0, 3)] })] } with ns := [(1, { nsze := 2 ^ 23 })] }

theorem witness_MapStoreIsFlushedRotatedAndFetched :
    ((ftlState { journal := [.checkpoint 7 0 1] }).ftl.journal ≠ [] ∧ (ftlState { journal := [.checkpoint 7 0 1] }).ftl.flushing = none) ∧
    (State.reset.ftl.journal = [] ∧ (flushed []).ftl.flushing ≠ none) ∧
    ((flushed []).ftl.flushing = some (1, 7, true) ∧ (flushed []).ftl.metaRedo = []) ∧ (flushed [.delta]).ftl.metaRedo ≠ [] ∧
    ((segmented.nsOf 1).any (fun n => decide (1 < n.segments)) = true ∧ (segmented.nsOf 2).any (fun n => decide (1 < n.segments)) = false) ∧
    ((1, 1) ∈ segmented.ftl.waitSegs ∧ (1, 0) ∉ segmented.ftl.waitSegs ∧ segmented.lruSegment = some (1, 0) ∧ State.reset.lruSegment = none) := by
  decide +kernel

/-- A tank of one member, with the tank and its member in given states, in FTL's debt. -/
def tanked (st : Nat) (erased : Bool) : State :=
  (ftlState { tanks := [(1, { st := st, layout := 528, members := [{ cistern := 0, die := 0, block := 0, erased := erased }] })]
              debt := 1, blocks := [(0, { tank := some 1 })] }).wr (Reg.PAR_CSTATE_STATE.at 0) cInService

/-- An IU of namespace 1 placed in that tank. -/
def tankedIu (st : Nat) : State := { tanked st false with ftl := { (tanked st false).ftl with map := [(iuKey 1 0, .media 0)] },
                                                            ns := [(1, { nsze := 16 })] }

/-- A pair's side 0 whose partner serves; and its tank in DRAW, the partner asked to release it or having released it. -/
def members : List (Nat × Nat × Nat × Nat × Nat) := [(77, 0, 0, 1, 0xFF), (78, 0, 1, 0, 0xFF)]
def pair (st : Nat) : State :=
  { (at_ st).wr Reg.POD_STATUS_SERVE_SET 3 with
    img := { fuses := goodFuses, booted := some { params := { podSection := true, peerMode := 1, members := members } } }
    pod := { heard := [(1, { hello := some { podId := 0, serial := 78, member := 1, state := stSERVE } })], pairKey := true } }
def pairDraw (sent released : Bool) : State := { pair stSERVE with
  ftl := { tanks := [(1, { st := tkDraw, layout := 528, releaseSent := sent, released := released })] } }

theorem witness_TanksAreClosedDrawnErasedAndScanned :
    (((tanked tkOpen false).tankOf 1).st = tkOpen ∧ ((tanked tkOpen false).tankOf 1).mine = true ∧ ((tanked tkFull false).tankOf 1).st ≠ tkOpen) ∧
    ((tanked tkDraw false).ftl.debt ≠ 0 ∧ (tanked tkDraw false).begins .ftl = true ∧
      ((tanked tkDraw false).nextCopy true fun _ _ => true) = none ∧ ((tankedIu tkDraw).nextCopy true fun _ _ => true).isSome = true ∧
      (tankedIu tkDraw).ftl.debt ≠ 0 ∧ (tankedIu tkDraw).begins .ftl = true) ∧
    State.reset.ftl.debt = 0 ∧
    (((tanked tkDraw false).tankOf 1).st = tkDraw ∧ ((tanked tkDraw false).tankOf 1).mine = true ∧ (tanked tkDraw false).validSectors 1 = 0 ∧
      ((tanked tkDraw false).tankOf 1).readers = 0 ∧ (tanked tkDraw false).partnerServes = false ∧ (tankedIu tkDraw).validSectors 1 ≠ 0) ∧
    (∀ sent ∈ [false, true], (pairDraw sent false).partnerServes = true ∧ ((pairDraw sent false).tankOf 1).released = false ∧
      ((pairDraw sent false).tankOf 1).st = tkDraw ∧ ((pairDraw sent false).tankOf 1).releaseSent = sent ∧
      (pairDraw sent false).validSectors 1 = 0) ∧
    ((pairDraw true true).tankOf 1).released = true ∧
    (((tanked tkErasing false).tankOf 1).st = tkErasing ∧ (tanked tkErasing false).cst 0 ≠ cFailed ∧ (tanked tkErasing false).cst 0 ≠ cEmpty ∧
      ((tanked tkErasing false).tankOf 1).members = [{ cistern := 0, die := 0, block := 0, erased := false }]) ∧
    (((tanked tkErasing true).tankOf 1).st = tkErasing ∧ ∀ m ∈ ((tanked tkErasing true).tankOf 1).members, m.erased = true) ∧
    (((tanked tkFull false).atLeast ((tanked tkFull false).ftl.lastScan + (tanked tkFull false).rd Reg.FTL_REFRESH_SCAN * 60 * sec)).begins .ftl
      = true) ∧
    (State.reset.atLeast (State.reset.ftl.lastScan + State.reset.rd Reg.FTL_REFRESH_SCAN * 60 * sec)).begins .ftl = false := by decide +kernel

/-- A cistern of one die of eight blocks behind FTL_BLOCK_ACC's registers; a cistern in a given state, its grace set and its sweep made or not. -/
def blocked : State := { at_ stSERVE with
  shelf := { links := [(0, { ident := some { serial := 1, dies := 1, blocksPerDie := 8, pagesPerBlock := 1024, nl := 0 } })] } }
def cistern (st : Nat) (swept : List Nat) : State := (ftlState { graceAt := [(3, 5)], swept := swept }).wr (Reg.PAR_CSTATE_STATE.at 3) st
def lost1 : State := ftlState { lost := [{ nsid := 1, slba := 0, nlb := 1, tank := 0, stripe := 0, cause := 0, time := 0 }] }

theorem witness_MediaIsRetiredRebuiltAndAccounted :
    ((at_ stROM).writeWord 0x1C00224 0x40000000#32).decodeOf .ftl ≠ .all ∧
    (((at_ stSERVE).writeWord 0x1C00224 0x40000000#32).decodeOf .ftl = .all ∧ 2 ^ 30 ≤ (0x40000000#32 : W32).toNat ∧
      (0#32 : W32).toNat < 2 ^ 30 ∧ (0x40000000#32 : W32).toNat < 2 ^ 31 ∧ 2 ^ 31 ≤ (0x80000000#32 : W32).toNat ∧
      (0x80000000#32 : W32).toNat < 3 * 2 ^ 30 ∧ 3 * 2 ^ 30 ≤ (0xC0000000#32 : W32).toNat) ∧
    (((at_ stSERVE).writeWord 0x1C00224 0x40000000#32).dies 0 = 0 ∧ (blocked.writeWord 0x1C00224 0x40000000#32).dies 0 = 1 ∧
      (blocked.writeWord 0x1C00224 0x40000000#32).blocksPerDie 0 = 8 ∧
      (blocked.writeWord 0x1C00224 0x40000000#32).rd Reg.FTL_BLOCK_ACC_CISTERN = 0 ∧
      (blocked.writeWord 0x1C00224 0x40000000#32).rd Reg.FTL_BLOCK_SEL_DIE = 0 ∧
      (blocked.writeWord 0x1C00224 0x40000000#32).rd Reg.FTL_BLOCK_SEL_BLOCK = 0) ∧
    (Tab.find (3 : Fin 48).val (cistern cAbsent []).ftl.graceAt = some 5 ∧ (cistern cAbsent []).cst 3 = cAbsent ∧ State.reset.cst 3 ≠ cAbsent) ∧
    (((cistern cInService []).writeWord (0x2000200 + 4 * 3) 0x10000#32).decodeOf .par = .all ∧ (0x10000#32 : W32).toNat / 65536 % 2 = 1 ∧
      ((cistern cInService []).writeWord (0x2000200 + 4 * 3) 0x10000#32).inService 3 = true ∧
      ((cistern cAbsent []).writeWord (0x2000200 + 4 * 3) 0x10000#32).cst 3 = cAbsent) ∧
    (((at_ stSERVE).writeWord (0x2000200 + 4 * 3) 0x10000#32).inService 3 = false ∧
      ((at_ stSERVE).writeWord (0x2000200 + 4 * 3) 0x10000#32).cst 3 ≠ cAbsent ∧ ((at_ stROM).writeWord (0x2000200 + 4 * 3) 0x10000#32).decodeOf .par ≠ .all) ∧
    ((cistern cRebuilding []).cst 3 = cRebuilding ∧ (3 : Fin 48).val ∉ (cistern cRebuilding []).ftl.swept ∧ (cistern cRebuilding []).ftl.waitSegs = [] ∧
      (3 : Fin 48).val ∈ (cistern cRebuilding [3]).ftl.swept) ∧
    (State.reset.ftl.subst = none ∧
      (ftlState { subst := some { tank := 1, swaps := [], stripe := 2 }, tanks := [(1, { begun := 2 })] }).ftl.subst =
        some { tank := 1, swaps := [], stripe := 2 } ∧
      ((ftlState { subst := some { tank := 1, swaps := [], stripe := 2 }, tanks := [(1, { begun := 2 })] }).tankOf 1).begun ≤ 2 ∧
      2 < ((ftlState { subst := some { tank := 1, swaps := [], stripe := 2 }, tanks := [(1, { begun := 3 })] }).tankOf 1).begun) ∧
    (((at_ stROM).writeWord 0x2000310 0x80000000#32).decodeOf .par ≠ .all ∧ (lost1.writeWord 0x2000310 0x80000000#32).decodeOf .par = .all ∧
      2 ^ 31 ≤ (0x80000000#32 : W32).toNat ∧ (0#32 : W32).toNat < 2 ^ 31 ∧
      ((lost1.writeWord 0x2000310 0x80000000#32).ftl.lost[(lost1.writeWord 0x2000310 0x80000000#32).rd Reg.PAR_LOST_ACC_INDEX]?).isSome = true) ∧
    (lost1.writeWord 0x2000310 0x80000001#32).ftl.lost[(lost1.writeWord 0x2000310 0x80000001#32).rd Reg.PAR_LOST_ACC_INDEX]? = none := by
  decide +kernel

/-! ### Skalas links -/

/-- Link 2 in a given state, with its link-layer data. -/
def linked (st : Nat) (l : Link) : State := { (at_ stSERVE).wr (Reg.SKL_LINK_STATE.at 2) st with shelf := { links := [(2, l)] } }

theorem witness_LinksTrainSleepAndCarryFlits :
    (lkDetect ≤ (linked lkDetect {}).lk 2 ∧ (linked lkDetect {}).lk 2 ≤ 5 ∧ (linked 5 {}).lk 2 ≤ 5 ∧ lkDetect ≤ (linked 5 {}).lk 2) ∧
    ((linked lkDown {}).lk 2 < lkDetect ∧ 5 < (linked lkFailed {}).lk 2) ∧
    (({ lanes := 0 } : Trained).lanes = 0 ∧ ({ lanes := 1 } : Trained).lanes = 1 ∧ ({ lanes := 2 } : Trained).lanes ≠ 0 ∧
      ((linked lkDetect {}).wr (Reg.SKL_LINK_CFG_LANE_REPAIR.at 2) 0).is (Reg.SKL_LINK_CFG_LANE_REPAIR.at 2) = false ∧
      ((linked lkDetect {}).wr (Reg.SKL_LINK_CFG_LANE_REPAIR.at 2) 1).is (Reg.SKL_LINK_CFG_LANE_REPAIR.at 2) = true) ∧
    ((linked lkActive {}).lk 2 = lkActive ∧ (linked lkL1 {}).lk 2 = lkL1 ∧ (linked lkRecovery {}).lk 2 = lkRecovery ∧
      (linked lkDown {}).lk 2 ≠ lkActive ∧ (linked lkDown {}).lk 2 ≠ lkL1 ∧ (linked lkDown {}).lk 2 ≠ lkRecovery) ∧
    (2 ≤ ((linked lkActive {}).wr Reg.PWR_STATUS_STATE 2).rd Reg.PWR_STATUS_STATE ∧ ((linked lkActive {}).linkOf 2).tags = [] ∧
      ((linked lkActive {}).linkOf 2).backlog = []) ∧
    (linked lkActive {}).rd Reg.PWR_STATUS_STATE < 2 ∧
    (({ crcGood := false, seq := 0 } : Flit).crcGood = false ∧ ((linked lkActive {}).linkOf 2).nakSent = false ∧
      ((linked lkActive { nakSent := true }).linkOf 2).nakSent = true) ∧
    (({ seq := 3 } : Flit).crcGood = true ∧ ({ seq := 3 } : Flit).nop = false ∧
      ({ seq := 3 } : Flit).seq.toNat ≠ ((linked lkActive {}).linkOf 2).rxSeq) ∧
    (({ seq := 0 } : Flit).crcGood = true ∧ ({ seq := 0 } : Flit).seq.toNat = ((linked lkActive {}).linkOf 2).rxSeq ∧
      ({ seq := 0, nop := true } : Flit).nop = true) := by decide

/-- An outstanding tag 4 on link 2, of a whole chunk or one unit; a completion of it with its header CRC, and with a header that fails. -/
def tagOf (op : Nat) (u : Use) (n : Nat := 1) : Tag := { opcode := op, count := n, at_ := 0, timeout := 1000, use := u }
def tagged (op : Nat) (u : Use) (n : Nat := 1) : State := linked lkActive { tags := [(4, tagOf op u n)] }
def sealed (c : Cpl) : Cpl := { c with hcrc := BitVec.ofNat 32 (crc32c c.front) }
def cpl (op : Nat) (status : Nat := 0) : Cpl := sealed { tag := 4, opcode := BitVec.ofNat 8 (0x80 + op), status := status }
def cplBad : Cpl := { cpl opStatus with hcrc := 0 }
def late (valid : Nat) : State := (linked lkActive { quarantined := [(4, 1, 5)] }).wr (Reg.SKL_LATE_LOG_VALID.at 2) valid
def ident0 : Ident := { serial := 1, pagesPerBlock := 0, blocksPerDie := 0, dies := 0, nl := 0 }

/-- An EPOCH_SET outstanding while link 2 is being fenced, alone and with a later one behind it. -/
def fencing (backlog : List Tag) : State :=
  { linked lkActive { tags := [(4, tagOf opEpochSet (.epochSet 1 1))], backlog := backlog } with pod := { fencing := [2] } }

/-- A program of a META stripe in flight. -/
def metaFly : State := { tagged opProgram (.program 9 0) with ftl := { fly := [(9, { stripe9 [] [] with cls := clsMeta })] } }

theorem witness_CompletionsAreTakenByTag :
    ((linked lkDown {}).lk 2 ≠ lkActive ∧ ((linked lkDown {}).takeCpl 2 (cpl 1)).1 = none) ∧
    ((linked lkActive {}).lk 2 = lkActive ∧ cplBad.hcrcGood = false ∧ (cpl 1).hcrcGood = true) ∧
    (Tab.has (cpl 1).tag.toNat ((late 1).linkOf 2).quarantined = true ∧ (late 1).lk 2 = lkActive ∧
      ((late 1).count (Reg.SKL_CNT_LATE_CPL.at 2)).is (Reg.SKL_LATE_LOG_VALID.at 2) = true ∧
      ((late 0).count (Reg.SKL_CNT_LATE_CPL.at 2)).is (Reg.SKL_LATE_LOG_VALID.at 2) = false) ∧
    (Tab.has (cpl 1).tag.toNat ((linked lkActive {}).linkOf 2).quarantined = false ∧
      Tab.find (cpl 1).tag.toNat ((linked lkActive {}).linkOf 2).tags = none ∧
      Tab.find (cpl opRead).tag.toNat ((tagged opStatus .status).linkOf 2).tags = some (tagOf opStatus .status) ∧
      (cpl opRead).opcode.toNat ≠ 0x80 + (tagOf opStatus .status).opcode) ∧
    (∀ e ∈ [(opIdentify, Use.identify), (opBadBlocks, .badBlocks 0), (opStatus, .status), (opEpochSet, .epochSet 1 1), (opRead, .read 1 0),
        (opProgram, .program 1 0), (opErase, .erase 1 0), (opProgram, .subst 1 2 3), (opProgram, .save 1 2 3)],
      ((tagged e.1 e.2).takeCpl 2 (cpl e.1)).1 = some (tagOf e.1 e.2) ∧ (cpl e.1).opcode.toNat = 0x80 + (tagOf e.1 e.2).opcode) ∧
    (∀ st ∈ [skOk, skProgramFail, skDupExpired, skStaleEpoch, skFenced, skPoisoned, skEraseFail, skEpochOld, skDieFailed, 0x3F],
      ((tagged opStatus .status).takeCpl 2 (cpl opStatus st)).1 = some (tagOf opStatus .status)) ∧
    ((tagged opIdentify .identify).takeCpl 2 (cpl opIdentify)).2.geometryMatches { ident0 with pagesPerBlock := 1 } = false ∧
    ((tagged opIdentify .identify).takeCpl 2 (cpl opIdentify)).2.geometryMatches ident0 = true ∧
    (((tagged opEpochSet (.epochSet 1 1)).takeCpl 2 (cpl opEpochSet)).2.pod.fencing.contains 2 = false ∧
      ((fencing []).takeCpl 2 (cpl opEpochSet)).2.pod.fencing.contains 2 = true ∧
      ((fencing []).takeCpl 2 (cpl opEpochSet)).2.superseded 2 1 = false ∧
      ((fencing [tagOf opEpochSet (.epochSet 2 1)]).takeCpl 2 (cpl opEpochSet)).2.pod.fencing.contains 2 = true ∧
      ((fencing [tagOf opEpochSet (.epochSet 2 1)]).takeCpl 2 (cpl opEpochSet)).2.superseded 2 1 = true ∧
      (((tagged opEpochSet (.epochSet 1 1)).takeCpl 2 (cpl opEpochSet)).2.linkOf 2).epochTries = 0 ∧
      (((linked lkActive { tags := [(4, tagOf opEpochSet (.epochSet 1 1))], epochTries := 1 }).takeCpl 2 (cpl opEpochSet)).2.linkOf 2).epochTries
        ≠ 0) ∧
    (badStatus 0x3F = true ∧ badStatus skPoisoned = false ∧ skPoisoned ≠ skDieFailed ∧ skPoisoned ≠ skOk ∧ (tagOf opRead (.read 1 0)).count ≠ 4 ∧
      (tagOf opRead (.read 1 0) 4).count = 4 ∧ headerGood [] [] = false) ∧
    (((Tab.find 9 (metaFly.takeCpl 2 (cpl opProgram skFenced)).2.ftl.fly).any fun st => st.cls == clsMeta) = true ∧
      ((Tab.find 9 ((tagged opProgram (.program 9 0)).takeCpl 2 (cpl opProgram skFenced)).2.ftl.fly).any fun st => st.cls == clsMeta) = false) ∧
    0x3F ∉ [skOk, skProgramFail, skDupExpired, skStaleEpoch, skFenced, skPoisoned] ∧
    0x3F ∉ [skOk, skEraseFail, skDupExpired, skStaleEpoch, skFenced, skPoisoned] := by decide +kernel

/-- An admitted slot, and one in admission: its reset high, its link in a given state, trained anew or for the first time. -/
def admitting (st : Nat) (again : Bool) : State :=
  { linked st {} with shelf := { links := [(2, { retrained := again })], chans := [(2, { rstHigh := true })] } }

/-- Two slot groups to start, and a slot that came late. -/
def grouped : State := { at_ stPRIME with shelf := { groups := [[0], [1]], late := [5] } }

theorem witness_TagsTimeOutAndAdmissionIsBounded :
    (Tab.find (4#10).toNat ((tagged opRead (.read 1 0)).linkOf 2).tags = some (tagOf opRead (.read 1 0)) ∧
      Tab.find (4#10).toNat ((linked lkActive {}).linkOf 2).tags = none) ∧
    (Tab.find (4#10).toNat ((late 1).linkOf 2).quarantined = some (1, 5) ∧
      Tab.find (4#10).toNat ((linked lkActive {}).linkOf 2).quarantined = none) ∧
    ((State.reset.wr (Reg.SKL_STATUS_OUTCOME.at 2) ocAdmitted).rd (Reg.SKL_STATUS_OUTCOME.at 2) = ocAdmitted ∧
      State.reset.rd (Reg.SKL_STATUS_OUTCOME.at 2) ≠ ocAdmitted) ∧
    (State.reset.chan 2).rstHigh = false ∧
    (∀ st ∈ [lkDetect, lkActive], ∀ again ∈ [false, true], ((admitting st again).chan 2).rstHigh = true ∧
      (admitting st again).rd (Reg.SKL_STATUS_OUTCOME.at 2) = ocNone ∧ ((admitting st again).linkOf 2).newIdent = none ∧
      ((admitting st again).linkOf 2).retrained = again ∧ ((admitting st again).atLeast (((admitting st again).linkOf 2).trainAt +
        (admitting st again).rd Reg.GLB_PRIME_CTL_ADMIT_TIMEOUT * 10 * ms)).lk 2 = st) ∧ lkDetect < lkActive ∧
    (State.reset.shelf.groups = [] ∧ grouped.shelf.groups = [0] :: [1] :: [] ∧ 0 = grouped.shelf.nextGroup ∧ grouped.st = stPRIME ∧
      grouped.prim.pwrStop = false) := by
  decide +kernel

/-! ### Slots -/

/-- Slot 5 in a given state, with its channel's data, in SERVE. -/
def slotted (st : Nat) (c : Chan) : State := { (at_ stSERVE).wr (Reg.SLOT_STATUS_STATE.at 5) st with shelf := { chans := [(5, c)] } }
/-- The same, ON with SLOT_PG. -/
def slotOn (c : Chan) : State := (slotted chOn c).wr (Reg.SLOT_STATUS_PG.at 5) 1

/-- In PRIME on a full start, every slot enabled, with slot groups that wait to start, one started already or none. -/
def inGroups (st next : Nat) : State :=
  { at_ st with img := { booted := some { params := { sklEnable := 2 ^ 48 - 1 } } }, shelf := { groups := [[7]], nextGroup := next } }

theorem witness_SlotsAreCheckedRampedAndReleased :
    State.reset.shelf.groups.flatten = [] ∧
    (∀ next ∈ [0, 1], ((inGroups stPRIME next).chan 5).present = false ∧ (inGroups stPRIME next).shelf.fullStart = true ∧
      (inGroups stPRIME next).st = stPRIME ∧ (inGroups stPRIME next).shelf.groups.flatten ≠ [] ∧
      (inGroups stPRIME next).shelf.groups.flatten.contains 5 = false ∧ (inGroups stPRIME next).chState 5 ≠ chOn ∧
      (inGroups stPRIME next).params.sklEnable / 2 ^ 5 % 2 ≠ 0 ∧
      (((inGroups stPRIME next).shelf.groups.head?.getD []).head?.any fun m =>
        decide (5 < m) && decide (0 < (inGroups stPRIME next).shelf.nextGroup)) = (next == 1)) ∧
    ((slotted chOff {}).chState 5 ≠ chCheck ∧ (slotted chCheck {}).chState 5 = chCheck ∧ (slotted chCheck {}).prim.pwrStop = false) ∧
    ({ senseGood := false : SlotCheck }).senseGood = false ∧
    (({ vout := 1190 : SlotCheck }).senseGood = true ∧ 50 ≤ ({ vout := 1190 : SlotCheck }).vout ∧
      ({ vout := 1190 : SlotCheck }).vin ≤ ({ vout := 1190 : SlotCheck }).vout + 100) ∧
    (50 ≤ ({ vout := 50 : SlotCheck }).vout ∧ ({ vout := 50 : SlotCheck }).vout + 100 < ({ vout := 50 : SlotCheck }).vin ∧
      ((slotted chCheck {}).chan 5).waiting = false) ∧
    (({ riseMv := 19 : SlotCheck }).vout < 50 ∧ ({ riseMv := 19 : SlotCheck }).riseMv < 20) ∧
    (({} : SlotCheck).senseGood = true ∧ ({} : SlotCheck).vout < 50 ∧ 20 ≤ ({} : SlotCheck).riseMv) ∧
    ((slotted chCheck { waiting := true }).chState 5 = chCheck ∧ ((slotted chCheck { waiting := true }).chan 5).waiting = true) ∧
    (∀ r ∈ [false, true], (slotted chRamp { ramped := r }).chState 5 = chRamp ∧ ((slotted chRamp { ramped := r }).chan 5).ramped = r) ∧
    (slotted chOff {}).chState 5 ≠ chRamp ∧
    ((slotOn {}).chState 5 = chOn ∧ ((slotOn {}).chan 5).rstHigh = false ∧ (slotOn {}).is (Reg.SLOT_STATUS_PG.at 5) = true ∧
      stPRIME ≤ (slotOn {}).st ∧ (slotOn {}).st ≠ stHALTED ∧ (slotOn {}).prim.pwrStop = false) ∧
    ((slotOn { rstHigh := true }).chan 5).rstHigh = true ∧ (slotted chOff {}).chState 5 ≠ chOn := by decide

/-- Slot 5 ON, its reverse current blocked, with SLOT_PG or without, its reset high or low. -/
def blockedOn (pg : Nat) (high : Bool) : State :=
  ((slotted chOn { rstHigh := high }).wr (Reg.SLOT_STATUS_PG.at 5) pg).wr (Reg.SLOT_STATUS_REV_BLOCK.at 5) 1
def unblocked (pg : Nat) (high : Bool) : State := (blockedOn pg high).wr (Reg.SLOT_STATUS_REV_BLOCK.at 5) 0

theorem witness_SlotFaultsHoldTheGateOff :
    ((slotted chRamp {}).chState 5 = chRamp ∧ (slotOn {}).chState 5 = chOn) ∧
    ((slotted chOff {}).chState 5 ≠ chRamp ∧ (slotted chOff {}).chState 5 ≠ chOn) ∧
    ((slotOn {}).is (Reg.SLOT_STATUS_REV_BLOCK.at 5) = false ∧ (slotOn {}).shelf.feedLow = false) ∧
    ((blockedOn 1 true).chState 5 = chOn ∧ (blockedOn 1 true).is (Reg.SLOT_STATUS_REV_BLOCK.at 5) = true ∧
      (unblocked 1 true).is (Reg.SLOT_STATUS_PG.at 5) = true) ∧
    (∀ high ∈ [false, true], (blockedOn 0 high).chState 5 = chOn ∧ (unblocked 0 high).is (Reg.SLOT_STATUS_PG.at 5) = false ∧
      (((unblocked 0 high).slotPins 5 true ((unblocked 0 high).chan 5).rstHigh).chan 5).rstHigh = high ∧
      ((unblocked 0 high).slotPins 5 true ((unblocked 0 high).chan 5).rstHigh).lk 5 = lkDown) ∧
    (({ slotOn {} with shelf := { feedLow := true } } : State).chState 5 = chOn ∧
      ({ slotOn {} with shelf := { feedLow := true } } : State).shelf.feedLow = true) ∧
    799 < (at_ stSERVE).rd Reg.SLOT_CFG_UV * 10 ∧ (at_ stSERVE).rd Reg.SLOT_CFG_UV * 10 + 50 ≤ 1200 ∧
    ((State.reset.chan 5).present = false ∧ ((slotOn { present := true }).chan 5).present = true) ∧
    ((slotted chHoldoff {}).chState 5 = chHoldoff ∧ (slotted chOff {}).chState 5 ≠ chHoldoff) ∧
    (ftLimit < 8 ∧ (slotOn {}).lk 5 = lkDown ∧ ((slotOn {}).wr (Reg.SLOT_CTL_AUTO_RETRY.at 5) 0).rd (Reg.SLOT_CTL_AUTO_RETRY.at 5) = 0 ∧
      (((slotOn {}).wr (Reg.SLOT_CTL_AUTO_RETRY.at 5) 3).wr (Reg.SLOT_STATUS_RETRIES_LEFT.at 5) 2).rd (Reg.SLOT_CTL_AUTO_RETRY.at 5) ≠ 0 ∧
      (((slotOn {}).wr (Reg.SLOT_CTL_AUTO_RETRY.at 5) 3).wr (Reg.SLOT_STATUS_RETRIES_LEFT.at 5) 2).rd (Reg.SLOT_STATUS_RETRIES_LEFT.at 5) ≠ 0) := by
  decide

/-! ### Rings, fatal causes, admission, time, launches -/

/-- A ring's register written in SERVE; ring 3 with a record that waits; enabled; a record of the history. -/
def ringed (off : Nat) (v : W32) : State := (at_ stSERVE).writeWord off v
def ringFull : State := (at_ stSERVE).wr (Reg.GLB_EVT_PROD.at 3) 1
def ringOn : State := (at_ stSERVE).wr (Reg.GLB_EVT_SIZE_EN.at 3) 1
def withHistory : State := (at_ stSERVE).fatal ftWatchdog .glb 0x4A0

theorem witness_RingsAreArmedEnabledAndRead :
    (Tab.find 3 ({ State.reset with evt := { coalescing := [(3, 100)] } } : State).evt.coalescing = some 100 ∧
      Tab.find 3 State.reset.evt.coalescing = none) ∧
    ((at_ stSERVE).decodeOf .glb = .all ∧ ({ at_ stHALTED with prim := { answering := false } } : State).decodeOf .glb ≠ .all) ∧
    ((0xFFFF#32 : W32).toNat < 2 ^ 31 ∧ 2 ^ 31 ≤ (0x80000000#32 : W32).toNat) ∧
    ((ringed 0x1070 0xFFFF#32).rd (Reg.GLB_EVT_SIZE_SIZE_LOG2.at 3) = 6 ∧ 2 ^ 6 ≤ (0xFFFF#32 : W32).toNat % 65536 ∧
      (0x80000000#32 : W32).toNat % 65536 < 2 ^ 6) ∧
    (((ringed 0x1070 0x80000000#32).wr (Reg.GLB_EVT_CONS.at 3) 0).wr (Reg.GLB_EVT_CONS_ARM.at 3) 1).rd (Reg.GLB_EVT_PROD.at 3) =
      (((ringed 0x1070 0x80000000#32).wr (Reg.GLB_EVT_CONS.at 3) 0).wr (Reg.GLB_EVT_CONS_ARM.at 3) 1).rd (Reg.GLB_EVT_CONS.at 3) ∧
    (((ringFull.writeWord 0x1070 0x80000000#32).wr (Reg.GLB_EVT_CONS.at 3) 0).wr (Reg.GLB_EVT_CONS_ARM.at 3) 1).rd (Reg.GLB_EVT_PROD.at 3) ≠
      (((ringFull.writeWord 0x1070 0x80000000#32).wr (Reg.GLB_EVT_CONS.at 3) 0).wr (Reg.GLB_EVT_CONS_ARM.at 3) 1).rd (Reg.GLB_EVT_CONS.at 3) ∧
    ((at_ stSERVE).is (Reg.GLB_EVT_SIZE_EN.at 3) = false ∧ ringOn.is (Reg.GLB_EVT_SIZE_EN.at 3) = true) ∧
    (at_ stSERVE).evt.history[(0x80000000#32 : W32).toNat % 256]? = none ∧
    (withHistory.decodeOf .glb = .all ∧ (withHistory.evt.history[(0x80000000#32 : W32).toNat % 256]?).isSome = true) := by decide +kernel

/-- A fatal cause's hold has begun; a watchdog with a period, and warned. -/
def dying : State := { at_ stSERVE with evt := { fatalAt := some 7 } }
def watched (warned : Nat) : State := ((at_ stSERVE).wr Reg.GLB_WDOG_PERIOD 100).wr Reg.GLB_WDOG_WARNED warned

theorem witness_FatalCausesAndTheWatchdogReset :
    (dying.evt.fatalAt = some 7 ∧ (dying.wr Reg.GLB_FATAL_CFG_HOLD 5).rd Reg.GLB_FATAL_CFG_HOLD ≠ 0) ∧
    (State.reset.evt.fatalAt = none ∧ (dying.wr Reg.GLB_FATAL_CFG_HOLD 0).rd Reg.GLB_FATAL_CFG_HOLD = 0) ∧
    ((at_ stSERVE).decodeOf .glb = .all ∧ (1#32 : W32).toNat % 2 = 1 ∧ (0#32 : W32).toNat % 2 = 0) ∧
    ((0x96480001#32 : W32).toNat % 2 = 1 ∧ (0x96480001#32 : W32).toNat / 65536 = 0x9648) ∧ (1#32 : W32).toNat / 65536 ≠ 0x9648 ∧
    (∀ w ∈ [0, 1], (watched w).rd Reg.GLB_WDOG_PERIOD ≠ 0 ∧ (watched w).is Reg.GLB_WDOG_WARNED = (w == 1)) ∧
    ((at_ stSERVE).wr Reg.GLB_WDOG_PERIOD 0).rd Reg.GLB_WDOG_PERIOD = 0 := by decide

/-- Tenant 1 under the root alone, with command 4, a read of one IU, held. -/
def heldCmd : Cmd := { path := .pcie 2 1, ctlr := 2, tenant := 1, sqe := { opcode := 2, nsid := 1, cdw12 := 7 }, stage := .held }
def holding : State :=
  { (srv .qos).wr (Reg.QOS_T_CIR.at 1) 1000 with
    img := { booted := some { params := { levels := 1, nodes := [1] } } }
    host := { cmds := [(4, heldCmd)] }
    qos := { held := [(1, [4])] } }

theorem witness_AdmissionChargesTheChosenCommand :
    ((State.reset.atLeast 5).refuseOverdue.serving = false ∧ ((at_ stSERVE).atLeast 5).refuseOverdue.begins .qos = false ∧
      ((srv .qos).atLeast 5).refuseOverdue.choose = none) ∧
    ((holding.atLeast 5).refuseOverdue.serving = true ∧ (holding.atLeast 5).refuseOverdue.begins .qos = true ∧
      ((holding.atLeast 5).refuseOverdue.choose.any fun e => e.1.tenant == 1 && e.1.id == 4 && e.1.colour == .green) = true ∧
      holding.cmdOf 4 = some heldCmd) ∧
    (Tab.find 3 State.reset.qos.lastAdmit = none ∧
      Tab.find 3 ({ State.reset with qos := { lastAdmit := [(3, 9)] } } : State).qos.lastAdmit = some 9) := by decide +kernel

/-- Shelf time runs; a 1PPS time of day; a peer that serves time. -/
def clocked : State := ((((at_ stSERVE).wr Reg.TIME_SRC_CFG_PPS_EN 1).wr Reg.TIME_TOD_LO 9).wr Reg.TIME_PTP_PORTS_PORT_EN 5).wr
  (Reg.ETH_LINK_UP.at 0) 1
def timing (sv : Nat) (unbounded : Bool) : State :=
  { clocked.wr Reg.TIME_STATUS_SERVO sv with tm := { lastGood := some 11, unbounded := unbounded } }
def neighboured : State := (((clocked.wr (Reg.PL_LINK_NEIGHBOUR_VALID.at 1) 1).wr (Reg.PL_LINK_NEIGHBOUR.at 1) 2).wr
  (Reg.PL_LINK_STATE.at 1) lkActive).wr Reg.TIME_SRC_CFG_PEER_EN 1
def syncs : PtpMsg := { port := 0, master := ⟨0, 3⟩ }
def slaved : State := ((clocked.wr Reg.TIME_PTP_CFG_BC 1).wr Reg.TIME_STATUS_SOURCE 1).wr Reg.TIME_STATUS_PTP_PORT 2
def ppsSeen : State := { clocked with tm := { pps := some (9, 4) } }

theorem witness_ShelfTimeFollowsItsSources :
    (clocked.clocksRun = true ∧ stPRIME ≤ clocked.st ∧
      (clocked.rd (Reg.ETH_LINK_UP.at syncs.port.val) / 2 ^ syncs.subPort.val % 2 == 1) = true ∧
      clocked.ptpPort (8 * syncs.port.val + syncs.subPort.val) = true ∧ syncs.supported = true ∧
      syncs.domain = clocked.ptpDomain ∧ syncs.transport = clocked.rd Reg.TIME_PTP_CFG_TRANSPORT ∧ syncs.best = true) ∧
    (({ syncs with domain := 9 } : PtpMsg).domain ≠ clocked.ptpDomain ∧ ({ syncs with best := false } : PtpMsg).best = false) ∧
    ((clocked.wr Reg.TIME_PTP_CFG_BC 1).is Reg.TIME_PTP_CFG_BC = true ∧ (clocked.wr Reg.TIME_PTP_CFG_BC 1).ptpPort 2 = true ∧
      ((clocked.wr Reg.TIME_PTP_CFG_BC 1).rd Reg.TIME_STATUS_SOURCE == 1 && (clocked.wr Reg.TIME_PTP_CFG_BC 1).rd Reg.TIME_STATUS_PTP_PORT == 2)
        = false ∧ clocked.is Reg.TIME_PTP_CFG_BC = false ∧
      (slaved.rd Reg.TIME_STATUS_SOURCE == 1 && slaved.rd Reg.TIME_STATUS_PTP_PORT == 2) = true) ∧
    ((timing svLocked false).tm.lastGood = some 11 ∧ (timing svLocked false).rd Reg.TIME_STATUS_SERVO = svLocked ∧ clocked.tm.lastGood = none) ∧
    (neighboured.neighbour 1 = some 2 ∧ neighboured.clocksRun = true ∧ neighboured.plState 1 = lkActive ∧
      ({ offset := -4 : PeerTime }).ptpOffset = some 0 ∧ neighboured.is Reg.TIME_SRC_CFG_PEER_EN = true ∧
      ({ offset := -4 : PeerTime }).source = 1 ∧ clocked.neighbour 1 = none ∧ ({ offset := -4, ptpOffset := none : PeerTime }).ptpOffset = none) ∧
    State.reset.clocksRun = false ∧
    (clocked.is Reg.TIME_SRC_CFG_PPS_EN = true ∧ clocked.rd64 Reg.TIME_TOD_LO Reg.TIME_TOD_HI = 9 ∧ clocked.tm.pps = none ∧
      ppsSeen.tm.pps = some (9, 4) ∧ ppsSeen.rd64 Reg.TIME_TOD_LO Reg.TIME_TOD_HI = 9) ∧
    ((at_ stSERVE).decodeOf .time = .all ∧ (at_ stROM).decodeOf .time ≠ .all ∧ (at_ stSERVE).auditFull = false ∧
      auditFullNow.decodeOf .time = .all ∧ auditFullNow.auditFull = true ∧ (0x96480001#32 : W32).toNat % 2 = 1 ∧
      (0x96480001#32 : W32).toNat / 65536 = 0x9648) ∧
    (({ State.reset with tm := { overrideAt := some 3 } } : State).tm.overrideAt = some 3 ∧ State.reset.tm.overrideAt = none) ∧
    ((timing svHoldover false).rd Reg.TIME_STATUS_SERVO = svHoldover ∧ (timing svHoldover false).tm.unbounded = false ∧
      (timing svHoldover false).clocksRun = true) := by decide

/-- A launch register armed for a time before or at shelf time or after it, periodic or not, with coordinated time or without; a serving pair with TIME running;
windows not coordinated. -/
def armedLaunch (coord period : Nat) : State :=
  (((srv .time).wr (Reg.TIME_LAUNCH_STATUS_STATE.at 3) lsArmed).wr (Reg.TIME_LAUNCH_PERIOD.at 3) period).wr Reg.TIME_STATUS_COORD coord
def pairTime : State := ((pair stSERVE).wr (fRun .time) 1).wr (fStopped .time) 0
def uncoordinated : State := (at_ stSERVE).wr Reg.TIME_WIN_STATUS_UNCOORD 1

theorem witness_LaunchesFallDueAndSlotsBegin :
    ((at_ stSERVE).decodeOf .time = .all ∧ (at_ stROM).decodeOf .time ≠ .all ∧ (3 : Fin 16).val < 14 ∧ 14 ≤ (14 : Fin 16).val) ∧
    (2 ^ 31 ≤ (0x80000000#32 : W32).toNat) ∧ ((0x40000000#32 : W32).toNat < 2 ^ 31 ∧ 2 ^ 30 ≤ (0x40000000#32 : W32).toNat) ∧
    (1#32 : W32).toNat < 2 ^ 30 ∧
    ((armedLaunch 1 0).launchArmed 3 = true ∧ State.reset.launchArmed 3 = false ∧
      ((armedLaunch 1 0).atShelf ((armedLaunch 1 0).launchTime 3)).launchArmed 3 = true ∧ (armedLaunch 1 0).dueBefore 3 = [] ∧
      ((armedLaunch 1 0).atShelf ((armedLaunch 1 0).launchTime 3)).launchTime 3 ≤
        ((armedLaunch 1 0).atShelf ((armedLaunch 1 0).launchTime 3)).tm.shelf) ∧
    ((armedLaunch 1 0).is Reg.TIME_STATUS_COORD = true ∧ (armedLaunch 0 0).is Reg.TIME_STATUS_COORD = false ∧
      (armedLaunch 0 0).launchPeriod 3 = 0 ∧ (armedLaunch 0 5).launchPeriod 3 ≠ 0) ∧
    ((srv .time).begins .time = true ∧ (at_ stSERVE).begins .time = false) ∧
    (pairTime.begins .time = true ∧ pairTime.partnerServes = true ∧ pairTime.tm.intentPeer = none ∧
      ({ pairTime with tm := { intentPeer := some [] } } : State).tm.intentPeer ≠ none) ∧ (at_ stSERVE).partnerServes = false ∧
    (uncoordinated.coordinated = false ∧ (State.reset.wr Reg.TIME_WIN_STATUS_UNCOORD 0).coordinated = true) := by decide +kernel

/-! ### Host commands -/

/-- Command 4 of function 2, admitted, with data in its buffer, over a loaded namespace 1 of 1,024 LBAs. -/
def cmdOf_ (q : Sqe) (admin : Bool) (d : List Byte := []) : Cmd :=
  { path := .pcie 2 1, ctlr := 2, sqe := q, stage := .admitted, admin := admin, buf := if d.isEmpty then [] else [(0, d)] }
def ns1 : Ns := { nsze := 1024, keySlot := 17, attached := [2] }
def doing (q : Sqe) (n : Ns) (d : List Byte := []) : State :=
  { srv (pumpBlock 0) with
    host := { cmds := [(4, cmdOf_ q false d)], ctlrs := [(2, { hostId := 5 })] }
    ns := [(1, n)]
    cry := { vault := [(17, { state := slotLoaded, type := keyXts256 })] } }
/-- The same, with a charged bank and three cisterns for a 1 + 1 layout; and with a journal full to its last byte. -/
def writable (s : State) : State :=
  let s := (s.wr Reg.SUMP_STATUS_EVER_CHARGED 1).wr Reg.SUMP_STATUS_FLOAT_EFF 1
  let s := ((s.wr (Reg.PAR_CSTATE_STATE.at 0) cInService).wr (Reg.PAR_CSTATE_STATE.at 1) cInService).wr (Reg.PAR_CSTATE_STATE.at 2) cInService
  { s with img := { booted := some { params := { layouts := [257], mramSize := [512, 0, 192, 32, 32] } } } }
def journalSpent (s : State) : State := { s with img := { booted := some { params := { layouts := [257], mramSize := [0, 0, 192, 32, 32] } } } }
def ioQ (op : Nat) : Sqe := { opcode := op, nsid := 1, cdw12 := 7 }
def ioOps : List Nat := [0x00, 0x01, 0x02, 0x05, 0x08, 0x09, 0x0C, 0x0D, 0x0E, 0x11, 0x15]

theorem witness_IoCommandsPassTheirChecks :
    State.reset.ready 4 false 1 = none ∧
    (∀ op ∈ ioOps, (doing (ioQ op) ns1).ready 4 false op = some (cmdOf_ (ioQ op) false) ∧ (ioQ op).nsid ≠ 0xFFFFFFFF ∧
      (doing { ioQ op with nsid := 9 } ns1).ready 4 false op = some (cmdOf_ { ioQ op with nsid := 9 } false) ∧
      (doing { ioQ op with nsid := 9 } ns1).ioGate 4 (cmdOf_ { ioQ op with nsid := 9 } false) = .refuse nvInvalidNs ∧
      ({ pair stSERVE with ns := [(1, { ns1 with owner := 1 })] } : State).ioGate 4 (cmdOf_ (ioQ op) false) = .forward 1 ∧
      ({ doing (ioQ op) ns1 with pod := { moving := [(1, 1)] } } : State).ioGate 4 (cmdOf_ (ioQ op) false) = .hold) ∧
    (doing { ioQ 0 with nsid := 0xFFFFFFFF } ns1).ready 4 false 0 = some (cmdOf_ { ioQ 0 with nsid := 0xFFFFFFFF } false) ∧
    (doing (ioQ 0) ns1).ioRuns 4 0 (cmdOf_ (ioQ 0) false) ns1 := by
  unfold State.ioRuns
  decide +kernel

/-- A namespace of type 1, and a check of its reference tag that its LBA contradicts; data of one LBA and of one range, inside and outside. -/
def nsPi : Ns := { ns1 with piType := 1 }
def piQ (op : Nat) : Sqe := { ioQ op with cdw12 := 2 ^ 26, cdw14 := 3 }
def lbaData : List Byte := List.replicate 4096 7
def range (slba nlb : Nat) : List Byte := leBytes 4 0 ++ leBytes 4 nlb ++ leBytes 8 slba
def cmpQ : Sqe := { ioQ 5 with cdw12 := 0 }
def dsmQ : Sqe := { ioQ 9 with cdw11 := 4 }

theorem witness_IoCommandsMoveTheirData :
    (∀ op ∈ ioOps, (doing (ioQ op) ns1).ioRuns 4 op (cmdOf_ (ioQ op) false) ns1) ∧
    (512 < ({ ioQ 1 with cdw12 := 512 } : Sqe).nlb ∧ (ioQ 1).nlb ≤ 512 ∧ (ioQ 1).cdw12 / 2 ^ 24 % 2 = 0 ∧
      ({ ioQ 1 with cdw12 := 7 + 2 ^ 24 } : Sqe).cdw12 / 2 ^ 24 % 2 = 1) ∧
    (∀ op ∈ [1, 2, 5], (doing { ioQ op with cdw12 := 512 } ns1).ioRuns 4 op (cmdOf_ { ioQ op with cdw12 := 512 } false) ns1) ∧
    (∀ op ∈ [1, 2, 5, 0xC], (doing (piQ op) nsPi).ioRuns 4 op (cmdOf_ (piQ op) false) nsPi ∧ piRefused nsPi (piQ op) = true ∧
      piRefused ns1 (ioQ op) = false) ∧
    (((writable (doing (ioQ 1) ns1)).tileEvent 0 evCmdStart).writeRefusal 1 ns1 0 8 = none ∧
      ((writable (doing (piQ 1) nsPi)).tileEvent 0 evCmdStart).writeRefusal 1 nsPi 0 1 = none ∧
      (writable (doing (piQ 1) nsPi)).ioRuns 4 1 (cmdOf_ (piQ 1) false) nsPi ∧
      ((doing (ioQ 1) ns1).tileEvent 0 evCmdStart).writeRefusal 1 ns1 0 8 = some nvWriteProtected ∧
      ((doing (ioQ 8) ns1).tileEvent 0 evCmdStart).writeRefusal 1 ns1 0 8 = some nvWriteProtected) := by
  unfold State.ioRuns
  decide +kernel

/-- The commands that bring data, with it and without it; and those that need no slot, with room in the journal and without. -/
theorem witness_IoCommandsMoveTheirData_x :
    (((doing cmpQ ns1).tileEvent 0 evCmdStart).dataWhole (cmdOf_ cmpQ false) = none ∧
      (((doing cmpQ ns1 lbaData).tileEvent 0 evCmdStart).dataWhole (cmdOf_ cmpQ false lbaData)).isSome = true ∧
      piEnter ns1 cmpQ 0 (sectorsOf ns1 cmpQ 0 cmpQ.nlb lbaData) = none ∧
      (piEnter nsPi (piQ 5) 0 (sectorsOf nsPi (piQ 5) 0 (piQ 5).nlb (List.replicate 4104 1))).isSome = true) ∧
    (((writable (doing (ioQ 8) ns1)).tileEvent 0 evCmdStart).writeRefusal 1 ns1 0 8 = none ∧
      ((writable (doing { ioQ 8 with cdw12 := 6 } ns1)).tileEvent 0 evCmdStart).slotsOf (cmdOf_ { ioQ 8 with cdw12 := 6 } false) ≠ 0 ∧
      ((writable (doing { ioQ 8 with cdw12 := 15 } ns1)).tileEvent 0 evCmdStart).slotsOf (cmdOf_ { ioQ 8 with cdw12 := 15 } false) = 0 ∧
      ((writable (doing { ioQ 8 with cdw12 := 15 } ns1)).tileEvent 0 evCmdStart).markersWait (wholeIus ns1 0 16).length = false ∧
      (journalSpent (doing { ioQ 8 with cdw12 := 15 } ns1)).markersWait (wholeIus ns1 0 16).length = true) ∧
    ((ioQ 9).cdw11 / 4 % 2 = 0 ∧ dsmQ.cdw11 / 4 % 2 = 1 ∧ (doing dsmQ ns1).dataWhole (cmdOf_ dsmQ false) = none) ∧
    ((∃ r ∈ dsmRanges (range 1020 8), ns1.nsze < r.1 + r.2) ∧ (∀ r ∈ dsmRanges (range 0 16), r.1 + r.2 ≤ ns1.nsze) ∧
      (∃ r ∈ dsmRanges (range 0 16), r.2 ≠ 0) ∧ (∀ r ∈ dsmRanges (range 0 0), r.2 = 0)) ∧
    (((doing dsmQ ns1).wr Reg.FTL_MEDIA_STATUS_READ_ONLY 1).is Reg.FTL_MEDIA_STATUS_READ_ONLY = true ∧
      (doing dsmQ ns1).is Reg.FTL_MEDIA_STATUS_READ_ONLY = false) ∧
    (({ ns1 with retain := true, retState := retLocked } : Ns).locked = true ∧ ns1.locked = false) ∧
    ((writable (doing dsmQ ns1)).markersWait 1 = false ∧ (journalSpent (doing dsmQ ns1)).markersWait 1 = true) := by decide +kernel

/-- Reservation commands of host 5, their keys (its current 1, another 9) in their data; a namespace that it is registered with under key 1. -/
def resv (op cdw10 : Nat) : Sqe := { ioQ op with cdw10 := cdw10 }
def keysOf (a b : Nat) : List Byte := leBytes 8 a ++ leBytes 8 b
def nsReg (type : Nat) : Ns := { ns1 with registrants := [⟨5, 1⟩], resType := type, resHolder := if type == 0 then 0 else 5 }

theorem witness_ReservationsAreRegisteredAcquiredAndReleased :
    (∀ e ∈ [(0xD, 0), (0xD, 1), (0xD, 2), (0x11, 0x100), (0x15, 0x100), (0x15, 1)],
      (doing (resv e.1 e.2) (nsReg 0)).ready 4 false e.1 = some (cmdOf_ (resv e.1 e.2) false) ∧
      (doing (resv e.1 e.2) (nsReg 0)).ioGate 4 (cmdOf_ (resv e.1 e.2) false) = .run (nsReg 0) ∧
      ((doing (resv e.1 e.2) (nsReg 0)).tileEvent 0 evCmdStart).dataWhole (cmdOf_ (resv e.1 e.2) false) = none ∧
      (((doing (resv e.1 e.2) (nsReg 0)).tileEvent 0 evCmdStart).dataWhole (cmdOf_ (resv e.1 e.2) false (keysOf 1 2))).isSome = true) ∧
    ((doing { ioQ 0xE with cdw11 := 1 } ns1).ready 4 false 0xE = some (cmdOf_ { ioQ 0xE with cdw11 := 1 } false) ∧
      (doing { ioQ 0xE with cdw11 := 1 } ns1).ioGate 4 (cmdOf_ { ioQ 0xE with cdw11 := 1 } false) = .run ns1 ∧
      (doing (ioQ 0xE) ns1).ioGate 4 (cmdOf_ (ioQ 0xE) false) = .run ns1 ∧ (ioQ 0xE).cdw11 % 2 = 0) ∧
    ((doing (resv 0xD 0) ns1).hostOf (cmdOf_ (resv 0xD 0) false) = 5 ∧ ns1.registrant 5 = none ∧ (nsReg 0).registrant 5 = some ⟨5, 1⟩) ∧
    (∀ a ∈ [0, 1, 2, 3], (resv 0xD a).cdw10 % 8 = a ∧ (resv 0xD (a + 8)).cdw10 % 8 = a ∧ (resv 0xD a).cdw10 / 8 % 2 = 0 ∧
      (resv 0xD (a + 8)).cdw10 / 8 % 2 = 1 ∧ (resv 0x11 (a + 0x100)).cdw10 % 8 = a ∧ (resv 0x11 (a + 0x100)).cdw10 / 256 % 256 = 1) ∧
    ((resv 0x11 0x700).cdw10 / 256 % 256 = 7 ∧ (resv 0x11 0).cdw10 / 256 % 256 = 0) ∧
    (leAt (keysOf 1 2) 0 8 = 1 ∧ leAt (keysOf 9 2) 0 8 ≠ 1 ∧ leAt (keysOf 1 2) 8 8 = 2) ∧
    ((nsReg 0).resType = 0 ∧ (nsReg 1).resType ≠ 0 ∧ (nsReg 1).holds 5 = true ∧ (nsReg 0).holds 5 = false ∧
      (nsReg 1).resType = (resv 0x15 0x100).cdw10 / 256 % 256 ∧ (resv 0x15 0x200).cdw10 / 256 % 256 ≠ (nsReg 1).resType) := by decide +kernel

/-- An admin command 4 by a path, with its data where it has come. -/
def admin_ (p : Path) (q : Sqe) (d : List Byte := []) : Cmd :=
  { path := p, ctlr := 2, sqe := q, stage := .admitted, admin := true, buf := if d.isEmpty then [] else [(0, d)] }
def host_ : Path := .pcie 2 0
def admingIn (st : Nat) (p : Path) (q : Sqe) (d : List Byte := []) : State :=
  { ((at_ st).wr (fRun (pumpBlock 0)) 1).wr (fStopped (pumpBlock 0)) 0 with
    host := { cmds := [(4, admin_ p q d)], ctlrs := [(2, { hostId := 5 })] }
    ns := [(1, ns1)]
    cry := { vault := [(17, { state := slotLoaded, type := keyXts256 })] } }
def adming (p : Path) (q : Sqe) (d : List Byte := []) : State := admingIn stSERVE p q d
def adminOps : List Nat :=
  [0x06, 0x02, 0x0A, 0x09, 0x0C, 0x08, 0x0D, 0x15, 0x18, 0x19, 0x1A, 0x1C, 0x01, 0x00, 0x05, 0x04, 0x80]
/-- The audit log as full as commands may leave it. -/
def logFull (s : State) : State := s.wr Reg.CRY_AUDIT_HEAD_LO (State.reset.auditCapacity - 64)
def fab (ft : Nat) : Sqe := { opcode := 0x7F, nsid := ft }

theorem witness_AdminCommandsPassTheirChecks :
    (∀ op ∈ adminOps, State.reset.ready 4 true op = none ∧
      (logFull (adming host_ { opcode := op })).ready 4 true op = some (admin_ host_ { opcode := op })) ∧
    ((logFull (adming host_ { opcode := 9 })).auditFull = true ∧ (adming host_ { opcode := 9 }).auditFull = false ∧
      unrecorded { opcode := 9 } = false ∧ unrecorded { opcode := 6 } = true) ∧
    (∀ op ∈ [0x09, 0x08, 0x0D, 0x15, 0x19, 0x1A, 0x1C, 0x01, 0x00, 0x05, 0x04, 0x80],
      (admingIn stSTRUCT (.mailbox 1 true) { opcode := op }).ready 4 true op = some (admin_ (.mailbox 1 true) { opcode := op }) ∧
      (admingIn stSTRUCT (.mailbox 1 true) { opcode := op }).accepting = false ∧ op ∉ [0x02, 0x06, 0x0A]) ∧
    (∀ ft ∈ [0, 1, 4, 5, 6, 8, 9], (fab ft).fctype = ft ∧ (adming host_ (fab ft)).ready 4 true 0x7F = some (admin_ host_ (fab ft))) ∧
    (unrecorded (fab 1) = false ∧ unrecorded (fab 4) = true ∧ 9 ∉ [5, 6]) ∧
    (∀ ft ∈ [0, 1, 4, 5, 6, 8], (adming host_ (fab ft)).adminRuns 4 0x7F (admin_ host_ (fab ft))) ∧
    (∀ op ∈ [0x01, 0x00, 0x05, 0x04], (adming host_ { opcode := op }).adminRuns 4 op (admin_ host_ { opcode := op }) ∧
      (adming (.rc 3) { opcode := op }).adminRuns 4 op (admin_ (.rc 3) { opcode := op }) ∧ host_.isPcie = true ∧ (Path.rc 3).isPcie = false ∧
      ({ opcode := op } : Sqe).cdw10 % 0x10000 = 0 ∧ queueLimit host_ < ({ opcode := op, cdw10 := 17 } : Sqe).cdw10 % 0x10000) := by
  unfold State.adminRuns
  decide +kernel

/-- Identify of an I/O command set and of none; a page and none; features; events that wait, and eight requests held; a command held. -/
def withCtlr (k : Ctlr) (s : State) : State := { s with host := { s.host with ctlrs := [(2, k)] } }
def aborting : State :=
  let s := adming host_ { opcode := 8, cdw10 := 0x50001 }
  { s with host := { s.host with
    cmds := s.host.cmds ++ [(7, { path := .pcie 2 1, ctlr := 2, sqe := { opcode := 2, cid := 5 }, stage := .held })] } }

theorem witness_AdminCommandsAnswer :
    (∀ q ∈ [({ opcode := 6, cdw10 := 0x1C } : Sqe), { opcode := 6, cdw10 := 0x99 }, { opcode := 2, cdw10 := 3 }, { opcode := 2, cdw10 := 0xC0 },
        { opcode := 2, cdw10 := 0x99 }, { opcode := 2, cdw12 := 2 }, { opcode := 0xA, cdw10 := 0xE }, { opcode := 0xA, cdw10 := 0x81 },
        { opcode := 0xA, cdw10 := 0x81, cdw11 := 1 }, { opcode := 0xA, cdw10 := 2 }, { opcode := 9 },
        { opcode := 9, cdw10 := 0x81, cdw11 := 1 }, { opcode := 0xC }, { opcode := 8, cdw10 := 7 }, { opcode := 0x18 },
        { opcode := 0x19, nsid := 1 }, { opcode := 0x1A, nsid := 1 }, { opcode := 0x1C }],
      (adming host_ q).adminRuns 4 q.opcode (admin_ host_ q)) ∧
    ((adming host_ { opcode := 6, cdw10 := 0x1C }).identify_ 4 (admin_ host_ { opcode := 6, cdw10 := 0x1C }) = (0, [(0, 8, 1)]) ∧
      ((adming host_ { opcode := 6, cdw10 := 0x99 }).identify_ 4 (admin_ host_ { opcode := 6, cdw10 := 0x99 })).1 ≠ 0) ∧
    (((adming host_ { opcode := 2, cdw10 := 3 }).logPage (admin_ host_ { opcode := 2, cdw10 := 3 })).1 = 0 ∧
      ((adming host_ { opcode := 2, cdw10 := 0x99 }).logPage (admin_ host_ { opcode := 2, cdw10 := 0x99 })).1 ≠ 0 ∧
      ({ opcode := 2, cdw12 := 2 } : Sqe).cdw12 % 4 ≠ 0) ∧
    ((adming host_ { opcode := 9 }).dataWhole (admin_ host_ { opcode := 9 }) = some [] ∧
      (adming host_ { opcode := 9, cdw10 := 0x81, cdw11 := 1 }).dataWhole (admin_ host_ { opcode := 9, cdw10 := 0x81, cdw11 := 1 }) = none) ∧
    (((adming host_ { opcode := 0xC }).ctlrOf 2).waiting = [] ∧ ((adming host_ { opcode := 0xC }).ctlrOf 2).aers.length < 8 ∧
      8 ≤ ((withCtlr { aers := List.range 8 } State.reset).ctlrOf 2).aers.length ∧
      ((withCtlr { waiting := [(1, 1)] } State.reset).ctlrOf 2).waiting.head? = some (1, 1)) ∧
    (aborting.adminRuns 4 8 (admin_ host_ { opcode := 8, cdw10 := 0x50001 }) ∧
      ((aborting.host.cmds.find? fun e => e.2.ctlr == 2 && e.2.path.isPcie == true && aborting.queueOf e.2 == 0x50001 % 0x10000 &&
        e.2.sqe.cid == 0x50001 / 0x10000 && e.2.stage == .held).map (·.1)) = some 7) ∧
    ((adming (.rc 3) { opcode := 0x18 }).adminRuns 4 0x18 (admin_ (.rc 3) { opcode := 0x18 })) ∧
    ((adming host_ { opcode := 0x19, nsid := 1 }).visible 4 (admin_ host_ { opcode := 0x19, nsid := 1 }) = some ns1 ∧
      (adming host_ { opcode := 0x19, nsid := 9 }).visible 4 (admin_ host_ { opcode := 0x19, nsid := 9 }) = none ∧
      ((adming host_ { opcode := 0x19, nsid := 1 }).ctlrOf 2).streamsOf 1 = none ∧
      ((withCtlr { streams := [(1, 3)] } (adming host_ { opcode := 0x19, nsid := 1 })).ctlrOf 2).streamsOf 1 = some 3) ∧
    (∀ op ∈ [0, 1, 2, 3, 4], ({ opcode := 0x19, cdw11 := 0x100 + op } : Sqe).cdw11 / 256 % 256 = 1 ∧
      ({ opcode := 0x19, cdw11 := 0x100 + op } : Sqe).cdw11 % 256 = op ∧ ({ opcode := 0x19, cdw11 := op } : Sqe).cdw11 / 256 % 256 = 0) := by
  unfold State.adminRuns
  decide +kernel

/-- PF1 with eight VFs, its commands on VF 5 and on none; commands fused, unlisted and known; a vector that holds its interrupt. -/
def pf1 (q : Sqe) : State := { adming (.pcie 1 0) q with pcie := { vfEnable := true, numVfs := 8 } }
def vfQ (act fn : Nat) : Sqe := { opcode := 0x1C, cdw10 := 0x10000 * fn + act }

theorem witness_AdminCommandsAnswer_x :
    (∀ act ∈ [7, 8, 9], ∀ fn ∈ [1, 5, 20, 34], (pf1 (vfQ act fn)).adminRuns 4 0x1C (admin_ (.pcie 1 0) (vfQ act fn)) ∧
      (vfQ act fn).cdw10 % 16 = act ∧ (vfQ act fn).cdw10 / 0x10000 = fn ∧ (Path.pcie 1 0).fn = 1 ∧ host_.fn ≠ 1) ∧
    ((pf1 (vfQ 7 5)).fnPresent 5 = true ∧ (pf1 (vfQ 7 20)).fnPresent 20 = false) ∧
    State.reset.runnable 4 = none ∧
    (∀ q ∈ [({ opcode := 1, fuse := 1 } : Sqe), { opcode := 0x77 }, { opcode := 1 }], (doing q ns1).runnable 4 = some (cmdOf_ q false)) ∧
    (supported (cmdOf_ { opcode := 0x77 } false) = false ∧ supported (cmdOf_ { opcode := 1 } false) = true ∧
      supported (admin_ host_ { opcode := 0x77 }) = false) ∧
    ((adming host_ { opcode := 0x77 }).runnable 4 = some (admin_ host_ { opcode := 0x77 }) ∧ (adming host_ { opcode := 0x77 }).auditFull = false ∧
      (logFull (adming host_ { opcode := 0x77 })).runnable 4 = some (admin_ host_ { opcode := 0x77 }) ∧
      (logFull (adming host_ { opcode := 0x77 })).auditFull = true ∧ unrecorded { opcode := 0x77 } = false) ∧
    (Tab.has 3 (({ State.reset with pcie := { fns := [(2, { coalHeld := [(3, 1)] })] } } : State).fnOf 2).coalHeld = true ∧
      Tab.has 3 (State.reset.fnOf 2).coalHeld = false) := by
  unfold State.adminRuns
  decide +kernel

/-- A host's failed association with a queue pair in ERR; a Connect's data, all zeros, with its NQN known or not. -/
def rcPath : Path := .rc 3
def inErr : State := { State.reset with rc := { qps := [(3, { st := qpErr, assoc := 64 })] }, host := { ctlrs := [(64, { hostId := 0, nqn := 0 })] } }
def propQ (ft off : Nat) : Sqe := { fab ft with cdw11 := off }

theorem witness_FabricsCommandsAndQueues :
    (∀ q ∈ [fab 1, propQ 4 8, propQ 4 0x30, propQ 0 0x14, propQ 0 8, fab 8, fab 5, fab 6],
      (adming rcPath q).adminRuns 4 0x7F (admin_ rcPath q)) ∧
    ((adming rcPath (fab 1)).dataWhole (admin_ rcPath (fab 1)) = none ∧
      ((adming rcPath (fab 1) (zeros 1024)).dataWhole (admin_ rcPath (fab 1) (zeros 1024))).isSome = true) ∧
    (connectHost (zeros 1024) = 0 ∧ connectNqn (zeros 1024) = 0 ∧ State.reset.hostInErr 0 0 = false ∧ inErr.hostInErr 0 0 = true) ∧
    ((adming rcPath (propQ 4 8)).property ((adming rcPath (propQ 4 8)).ctlrOf 2) 8 = some 0x20000 ∧
      (adming rcPath (propQ 4 8)).property ((adming rcPath (propQ 4 8)).ctlrOf 2) 0x30 = none) := by
  unfold State.adminRuns
  decide +kernel

/-- Function 2 has submission queue 3 on completion queue 3, and completion queue 1. -/
def queued (q : Sqe) : State :=
  { adming host_ q with
    host := { cmds := [(4, admin_ host_ q)], ctlrs := [(2, { hostId := 5 })], sqs := [(queueKey 2 3, { size := 7, cq := 3 })]
              cqs := [(queueKey 2 1, { size := 7 }), (queueKey 2 3, { size := 7 })] } }
def queueQ (op qid : Nat) (size : Nat := 7) (above : Nat := 1) (pc : Nat := 1) : Sqe :=
  { opcode := op, cdw10 := 0x10000 * size + qid, cdw11 := 0x10000 * above + pc }

theorem witness_FabricsCommandsAndQueues_queues :
    (∀ q ∈ [queueQ 1 2, queueQ 1 3, queueQ 1 2 0, queueQ 1 2 7 9, queueQ 1 2 7 1 0, queueQ 0 3, queueQ 0 2, queueQ 5 2, queueQ 5 3,
        queueQ 5 2 0, queueQ 5 2 7 17, queueQ 5 2 7 1 0, queueQ 4 3, queueQ 4 1, queueQ 4 2],
      (queued q).adminRuns 4 q.opcode (admin_ host_ q) ∧ q.cdw10 % 0x10000 ≠ 0 ∧ q.cdw10 % 0x10000 ≤ queueLimit host_) ∧
    (Tab.has (queueKey 2 2) (queued (queueQ 1 2)).host.sqs = false ∧ Tab.has (queueKey 2 3) (queued (queueQ 1 3)).host.sqs = true ∧
      Tab.has (queueKey 2 1) (queued (queueQ 1 2)).host.cqs = true ∧ Tab.has (queueKey 2 9) (queued (queueQ 1 2 7 9)).host.cqs = false ∧
      Tab.has (queueKey 2 2) (queued (queueQ 5 2)).host.cqs = false ∧ Tab.has (queueKey 2 3) (queued (queueQ 5 3)).host.cqs = true) ∧
    (queueSizeGood ((queueQ 1 2).cdw10 / 0x10000) = true ∧ queueSizeGood ((queueQ 1 2 0).cdw10 / 0x10000) = false ∧
      queueLimit host_ < (queueQ 5 2 7 17).cdw11 / 0x10000 ∧ (queueQ 1 2).cdw11 % 2 = 1 ∧ (queueQ 1 2 7 1 0).cdw11 % 2 = 0) ∧
    (∀ e ∈ [(3, true), (1, false)], Tab.has (queueKey 2 e.1) (queued (queueQ 4 e.1)).host.cqs = true ∧
      ((queued (queueQ 4 e.1)).host.sqs.any fun x => x.1 / 0x10000 == host_.fn && x.2.cq == (queueQ 4 e.1).cdw10 % 0x10000) = e.2) := by
  unfold State.adminRuns
  decide +kernel

/-- Four cisterns of two dies in service, for a 1 + 1 layout. -/
def roomy (s : State) : State :=
  let s := (List.range 4).foldl (fun s c => s.wr (Reg.PAR_CSTATE_STATE.at c) cInService) s
  { s with
    shelf := { links := (List.range 4).map fun c => (c, { ident := some { serial := c, pagesPerBlock := 256, blocksPerDie := 1024, dies := 2, nl := 1 } }) }
    img := { booted := some { params := { layouts := [257], pagesPerBlock := 256 } } } }
/-- The data structure of a create, and its command; a delete, an attachment with its list, a format. -/
def createData (nsze : Nat) : List Byte := leBytes 8 nsze ++ leBytes 8 nsze ++ zeros 4080
def creating : Sqe := { opcode := 0xD }
def deleting_ : Sqe := { opcode := 0xD, nsid := 1, cdw10 := 1 }
def attaching (sel : Nat) : Sqe := { opcode := 0x15, nsid := 1, cdw10 := sel }
def listOf (l : List Nat) : List Byte := (leBytes 2 l.length ++ l.flatMap (leBytes 2)) ++ zeros (4094 - 2 * l.length)
def formatting_ (w : Nat) : Sqe := { opcode := 0x80, nsid := 1, cdw10 := w }
/-- Namespace 1, otherwise; the only empty vault slots taken. -/
def withNs (n : Ns) (s : State) : State := { s with ns := [(1, n)] }
def nsLocked : Ns := { ns1 with retain := true, retState := retLocked }

theorem witness_NamespacesAreCreatedDrainedFormattedAndAttached :
    (∀ q ∈ [creating, deleting_, { opcode := 0xD, cdw10 := 2 }, attaching 0, attaching 1, attaching 2, formatting_ 0, formatting_ 1,
        { opcode := 0x80, nsid := 0xFFFFFFFF }],
      (adming host_ q).adminRuns 4 q.opcode (admin_ host_ q)) ∧
    ((adming host_ creating).dataWhole (admin_ host_ creating) = none ∧
      ((adming host_ creating (createData 1000)).dataWhole (admin_ host_ creating (createData 1000))).isSome = true) ∧
    ((roomy (adming host_ creating)).createRefusal (createReq (createData 1000)) = 0 ∧
      (roomy (adming host_ creating)).lowestEmpty = some 16 ∧ (roomy (adming host_ creating)).createRefusal (createReq (createData 0)) ≠ 0) ∧
    (∀ n ∈ [ns1, nsLocked, { ns1 with deleting := true, awaits := [4] }, { ns1 with format := some (3, 0, 0) }],
      ∀ q ∈ [deleting_, formatting_ 0],
      (withNs n (adming host_ q)).adminRuns 4 q.opcode (admin_ host_ q) ∧ (withNs n (adming host_ q)).nsGate 4 (admin_ host_ q) = .run n) ∧
    (∀ q ∈ [deleting_, formatting_ 0], (adming host_ { q with nsid := 9 }).nsGate 4 (admin_ host_ { q with nsid := 9 }) = .refuse nvInvalidNs ∧
      ({ pair stSERVE with ns := [(1, { ns1 with owner := 1 })] } : State).nsGate 4 (admin_ host_ q) = .forward 1 ∧
      ({ adming host_ q with pod := { moving := [(1, 1)] } } : State).nsGate 4 (admin_ host_ q) = .hold) ∧
    (ns1.locked = false ∧ nsLocked.locked = true ∧ ns1.deleting = false ∧ ns1.format = none) ∧
    (∀ w ∈ [4, 16 + 15, 32 * 4, 32, 1, 512 * 3], (3 < w % 16 ∨ 3 < w / 32 % 8 ∨ (w % 16 = 0 ∧ w / 32 % 8 ≠ 0) ∨
      (w % 16 ≠ 0 ∧ w / 16 % 2 = 0) ∨ 2 < w / 512 % 8)) ∧
    (∀ w ∈ [0, 1 + 16 + 32, 512], w % 16 ≤ 3 ∧ w / 32 % 8 ≤ 3 ∧ (w % 16 = 0 → w / 32 % 8 = 0) ∧ (w % 16 ≠ 0 → w / 16 % 2 = 1) ∧ w / 512 % 8 ≤ 2) := by
  unfold State.adminRuns
  decide +kernel

/-- Namespace 1 being deleted, by command 4, by another, by the registers; being formatted. -/
def dying_ (by_ : Option Nat) (awaits : List Nat) : Ns := { ns1 with deleting := true, deleteBy := by_, awaits := awaits }
def forming (ses : Nat) (now : Bool) : Ns := { ns1 with format := some (4, 0, ses), formatting := now }
def draining1 (n : Ns) : State := withNs n (adming host_ (formatting_ 0))

theorem witness_NamespacesAreCreatedDrainedFormattedAndAttached_drain :
    (State.reset.nsOf 1 = none ∧ (draining1 ns1).nsOf 1 = some ns1) ∧
    (∀ b ∈ [none, some 4, some 9], (draining1 (dying_ b [])).nsOf 1 = some (dying_ b []) ∧ (dying_ b []).deleteBy = b) ∧
    ((draining1 (dying_ none [4])).cmdOf 4 = some (admin_ host_ (formatting_ 0)) ∧ (draining1 (dying_ none [9])).cmdOf 9 = none) ∧
    (∀ ses ∈ [0, 1], ∀ now ∈ [false, true], (draining1 (forming ses now)).nsOf 1 = some (forming ses now) ∧
      (draining1 (forming ses now)).nsAdmitted 1 = [] ∧ (draining1 (forming ses now)).clearWaits 1 = false ∧
      (((draining1 (forming ses now)).putNs 1 { ns1 with format := none, formatting := false }).nsChanged 1).cmdOf 4 =
        some (admin_ host_ (formatting_ 0)) ∧
      (((withNs (forming ses now) State.reset).putNs 1 { ns1 with format := none, formatting := false }).nsChanged 1).cmdOf 4 = none) ∧
    ((doing (ioQ 1) (forming 0 false)).nsAdmitted 1 ≠ []) := by decide +kernel

/-- The lists of an attachment: none, function 2, function 3; of function 2 in another tenant. -/
theorem witness_NamespacesAreCreatedDrainedFormattedAndAttached_attach :
    ((adming host_ (attaching 0)).dataWhole (admin_ host_ (attaching 0)) = none ∧
      ((adming host_ (attaching 0) (listOf [2])).dataWhole (admin_ host_ (attaching 0) (listOf [2]))).isSome = true ∧
      (adming rcPath (attaching 0)).adminRuns 4 0x15 (admin_ rcPath (attaching 0))) ∧
    (ctlrList (listOf []) = [] ∧ ctlrList (listOf [2]) = [2] ∧ ctlrList (listOf [3]) = [3]) ∧
    ((adming host_ (attaching 0)).visible 4 (admin_ host_ (attaching 0)) = some ns1 ∧
      (adming host_ { attaching 0 with nsid := 9 }).visible 4 (admin_ host_ { attaching 0 with nsid := 9 }) = none) ∧
    (((adming host_ (attaching 0)).fnOf 2).tenant = ns1.tenant ∧ ((adming host_ (attaching 0)).fnOf 3).tenant = ns1.tenant ∧
      (({ State.reset with pcie := { fns := [(2, { tenant := 6 })] } } : State).fnOf 2).tenant ≠ ns1.tenant) ∧
    (2 ∈ ns1.attached ∧ 3 ∉ ns1.attached ∧ (attaching 0).cdw10 % 16 = 0 ∧ (attaching 1).cdw10 % 16 = 1 ∧ 1 < (attaching 2).cdw10 % 16) := by
  unfold State.adminRuns
  decide +kernel

/-- The namespace registers as a write of FTL_NS_ACC leaves them. -/
def nsRegs (value : W32) (s : State) : State := (s.accessWake .ftl offNsAcc).wrFields .ftl offNsAcc value
/-- The same shelf, in which the registers ask for a namespace of some size, with a home, and for a slot of their own. -/
def asked (nsze : Nat) (s : State) : State :=
  (((roomy s).wr64 Reg.FTL_NS_NSZE_LO Reg.FTL_NS_NSZE_HI nsze).wr Reg.FTL_NS_CFG_HOME_EN 1)
def askedSlot (slot : Nat) (s : State) : State := ((asked 1000 s).wr Reg.FTL_NS_KEY_SLOT_EN 1).wr Reg.FTL_NS_KEY_KEY_SLOT slot

theorem witness_NamespacesAreCreatedDrainedFormattedAndAttached_registers :
    ((at_ stSERVE).decodeOf .ftl = .all ∧ (at_ stSERVE).is (fResetting .ftl) = false ∧ (at_ stSERVE).auditFull = false ∧
      (at_ stROM).decodeOf .ftl ≠ .all ∧ ((at_ stSERVE).wr (fResetting .ftl) 1).is (fResetting .ftl) = true ∧
      auditFullNow.decodeOf .ftl = .all ∧ auditFullNow.is (fResetting .ftl) = false ∧ auditFullNow.auditFull = true) ∧
    (2147483648 ≤ (0x80040009#32 : W32).toNat ∧ (0x00040009#32 : W32).toNat < 2147483648) ∧
    ((nsRegs 0x80020009#32 (withNs ns1 (at_ stSERVE))).rd Reg.FTL_NS_ACC_OP = 2 ∧
      (nsRegs 0x80030009#32 (withNs ns1 (at_ stSERVE))).rd Reg.FTL_NS_ACC_OP = 3 ∧
      (nsRegs 0x80040009#32 (withNs ns1 (at_ stSERVE))).rd Reg.FTL_NS_ACC_OP = 4 ∧
      (nsRegs 0x80040009#32 (withNs ns1 (at_ stSERVE))).nsOf 9 = none ∧
      (nsRegs 0x80040009#32 (withNs ns1 (at_ stSERVE))).rd Reg.FTL_NS_ACC_NSID = 9 ∧
      (nsRegs 0x80030001#32 (withNs (dying_ none []) (at_ stSERVE))).nsOf 1 = some (dying_ none []) ∧
      (nsRegs 0x80040001#32 (withNs ns1 (at_ stSERVE))).nsOf 1 = some ns1 ∧
      (nsRegs 0x80040001#32 (withNs nsLocked (at_ stSERVE))).nsOf 1 = some nsLocked ∧
      (nsRegs 0x80040001#32 (withNs ns1 (at_ stSERVE))).is Reg.FTL_NS_STATUS_BUSY = false ∧
      (nsRegs 0x80040001#32 ((at_ stSERVE).wr Reg.FTL_NS_STATUS_BUSY 1)).is Reg.FTL_NS_STATUS_BUSY = true) ∧
    ((nsRegs 0x80010000#32 (asked 1000 (at_ stSERVE))).rd Reg.FTL_NS_ACC_OP = 1 ∧
      (nsRegs 0x80010000#32 (asked 1000 (at_ stSERVE))).createRefusal (nsRegs 0x80010000#32 (asked 1000 (at_ stSERVE))).nsRequest = 0 ∧
      (nsRegs 0x80010000#32 (asked 0 (at_ stSERVE))).createRefusal (nsRegs 0x80010000#32 (asked 0 (at_ stSERVE))).nsRequest ≠ 0 ∧
      (nsRegs 0x80010000#32 (asked 1000 (at_ stSERVE))).bindSlot.isSome = true ∧
      (nsRegs 0x80010000#32 (askedSlot 3 (at_ stSERVE))).bindSlot.isSome = false ∧
      (nsRegs 0x80010000#32 (askedSlot 3 (at_ stSERVE))).createRefusal (nsRegs 0x80010000#32 (askedSlot 3 (at_ stSERVE))).nsRequest = 0 ∧
      (nsRegs 0x80011001#32 (asked 1000 (at_ stSERVE))).rd Reg.FTL_NS_ACC_NSID = 4097 ∧
      (nsRegs 0x80010001#32 (withNs ns1 (asked 1000 (at_ stSERVE)))).nsOf 1 ≠ none ∧
      (nsRegs 0x80010001#32 (withNs ns1 (asked 1000 (at_ stSERVE)))).createRefusal
        (nsRegs 0x80010001#32 (withNs ns1 (asked 1000 (at_ stSERVE)))).nsRequest = 0) ∧
    ((nsRegs 0x80020001#32 (withNs ns1 (asked 1000 (at_ stSERVE)))).rd64 Reg.FTL_NS_NSZE_LO Reg.FTL_NS_NSZE_HI ≤ ns1.nsze ∧
      ns1.nsze < (nsRegs 0x80020001#32 (withNs ns1 (asked 2000 (at_ stSERVE)))).rd64 Reg.FTL_NS_NSZE_LO Reg.FTL_NS_NSZE_HI ∧
      (nsRegs 0x80020001#32 (withNs ns1 (asked 2000 (at_ stSERVE)))).capacityGood (rawNeed 257 2000 - rawNeed 257 ns1.nsze) = true ∧
      (nsRegs 0x80020001#32 (withNs ns1 (asked (2 ^ 40) (at_ stSERVE)))).capacityGood (rawNeed 257 (2 ^ 40) - rawNeed 257 ns1.nsze) = false) := by
  decide +kernel

/-! ### The sump, the mirror, regions -/

/-- Command 4, a Write of 8 LBAs or a Write Zeroes of whole IUs, waits for slots at its pump, the journal with room or without. -/
def waiting_ (st : Stage) (op : Nat := 1) : Cmd := { cmdOf_ { ioQ op with cdw12 := if op == 8 then 15 else 7 } false with stage := st }
def sumping (st : Stage) (sp : Sump) (op : Nat := 1) : State :=
  { (srv .sump).wr Reg.SUMP_STATUS_FLOAT_EFF 4 with host := { cmds := [(4, waiting_ st op)] }, sump := sp, ns := [(1, ns1)] }
/-- A save whose program is outstanding, and one that had a stripe with no row. -/
def savingOut : State := { saving with shelf := { links := [(2, { tags := [(4, tagOf opProgram (.save 0 0 0))] })] } }
def savingBad : State := { saving with sump := { save := some (.reset, 5), saveBad := true } }

theorem witness_SumpGrantsMonitorsAndSaves :
    (∀ op ∈ [1, 8], (sumping .waitSlots { waiting := [4] } op).cmdOf 4 = some (waiting_ .waitSlots op) ∧
      (sumping .waitSlots { waiting := [4] } op).firstWaiting 4 (waiting_ .waitSlots op) = true ∧
      (sumping .waitSlots { waiting := [4] } op).mayGrant ((sumping .waitSlots { waiting := [4] } op).slotsOf (waiting_ .waitSlots op)) = true ∧
      (waiting_ .waitSlots op).sqe.opcode = op) ∧
    ((sumping .waitSlots { waiting := [4] }).markersWait 0 = false ∧ (writable (sumping .waitSlots { waiting := [4] } 8)).markersWait 1 = false ∧
      (journalSpent (sumping .waitSlots { waiting := [4] } 8)).markersWait 1 = true) ∧
    (State.reset.cmdOf 4 = none ∧ (waiting_ .fetching).stage ≠ .waitSlots ∧ State.reset.mayGrant 8 = false) ∧
    (State.reset.st < stRECOVER ∧ saving.sump.save ≠ none ∧
      stRECOVER ≤ (at_ stSERVE).st ∧ (at_ stSERVE).st ≤ stSERVE ∧ (at_ stSERVE).sump.save = none ∧ (at_ stSERVE).sump.saved = none) ∧
    (saving.sump.save = some (.reset, 5) ∧ saving.savePrograms = false ∧ savingOut.savePrograms = true ∧
      (saving.atLeast 9).sump.saveBad = false ∧ (savingBad.atLeast 9).sump.saveBad = true ∧
      ((saving.atLeast 9).saveDone .reset 5).prim.waiting = some .resetN ∧ ((savingBad.atLeast 9).saveFailed .reset).prim.waiting = some .resetN) ∧
    ((sumping .held { save := some (.pwrfail, 3) }).savePrograms = false ∧
      (((sumping .held { save := some (.pwrfail, 3) }).atLeast 9).saveDone .pwrfail 3).prim.waiting = none) ∧
    (∀ c ∈ [SaveCause.pwrfail, .undervoltage], (sumping .held { saved := some c }).sump.saved = some c) ∧
    (State.reset.sump.saved ≠ some .pwrfail ∧ State.reset.sump.saved ≠ some .undervoltage) ∧
    ((at_ stSERVE).decodeOf .sump = .all ∧ (at_ stROM).decodeOf .sump ≠ .all ∧ (at_ stSERVE).is (fResetting .sump) = false ∧
      ((at_ stSERVE).wr (fResetting .sump) 1).is (fResetting .sump) = true ∧ (0x80#32 : W32).toNat / 128 % 2 = 1 ∧
      (0#32 : W32).toNat / 128 % 2 = 0) := by decide +kernel

/-- Command 4 waits for one acknowledgement, or two, or has lost data; a region write waits on queue pair 3. -/
def mirroring (n : Nat) (lost : List (Nat × Nat × List Nat)) : State :=
  { srv .sump with host := { cmds := [(4, { waiting_ .waitMirror with mirrors := n, lost := lost })] } }
def regionPend : State := { State.reset with rc := { qps := [(3, { mirrorPend := 1 })] } }

theorem witness_MirrorSingleModeAndShutdown :
    ((∀ n ∈ [0, 1, 2], ((mirroring n []).cmdOf 4).any (fun c => c.stage == .waitMirror && c.mirrors == n && c.lost.isEmpty) = true) ∧
      ((mirroring 1 [(1, 0, [])]).cmdOf 4).any (fun c => c.stage == .waitMirror && c.mirrors == 1 && !c.lost.isEmpty) = true ∧
      (waiting_ .held).stage ≠ .waitMirror ∧ State.reset.cmdOf 4 = none) ∧
    (4294967296 ≤ 4294967296 + 3 ∧ (regionPend.qpOf (4294967296 + 3 - 4294967296)).mirrorPend ≠ 0 ∧
      (State.reset.qpOf (4294967296 + 3 - 4294967296)).mirrorPend = 0) ∧
    (State.reset.partner = none ∧ State.reset.st < stRECOVER ∧ (pair stSERVE).partner = some 1 ∧ stRECOVER ≤ (pair stSERVE).st ∧
      (pair stSERVE).st ≤ stSERVE) ∧
    (({ cmd := some 7 } : MirrorFrame).cmd = some 7 ∧ ({} : MirrorFrame).cmd = none) ∧
    ((sumping .held { secured := true }).sump.secured = true ∧ (sumping .held { secured := true }).fencedSelf = false ∧
      (sumping .held {}).sump.secured = false) ∧
    ((pair stSERVE).partner ≠ none ∧ (pair stSERVE).podTalks = true) ∧
    ((sumping .held { securing := true }).sump.securing = true ∧ (sumping .held {}).sump.securing = false) ∧
    (∀ s ∈ [({ (pair stSERVE).wr Reg.SUMP_STATUS_SINGLE 1 with sump := { copyback := true } } : State)],
      s.serving = true ∧ s.is Reg.SUMP_STATUS_SINGLE = true ∧ s.partnerServes = true ∧ s.sump.copyback = true) ∧
    (pair stSERVE).is Reg.SUMP_STATUS_SINGLE = false := by decide +kernel

/-- A takeover that may be forced: the partner fenced and failed, the mirror STALE; a region VALID; a shutdown with what is left. -/
def takeable : State :=
  { (pair stSERVE).wr Reg.POD_STATUS_SERVE_SET 1 with pod := { takeover := true, fenced := true }, sump := { peerStale := true } }
def regionValid : State := { at_ stSERVE with sump := { regions := [(3, { st := 1 })] } }
def shutting (f : Ftl) : State := { ftlState f with sump := { shutting := true } }

theorem witness_MirrorSingleModeAndShutdown_shut :
    ((at_ stSERVE).decodeOf .sump = .all ∧ (at_ stROM).decodeOf .sump ≠ .all ∧ auditFullNow.auditFull = true ∧
      auditFullNow.decodeOf .sump = .all ∧ (at_ stSERVE).auditFull = false) ∧
    ((0x96480002#32 : W32).toNat / 2 % 2 = 1 ∧ (0x96480002#32 : W32).toNat / 65536 = 0x9648 ∧ (0x96480001#32 : W32).toNat % 2 = 1 ∧
      (0x96480001#32 : W32).toNat / 65536 = 0x9648 ∧ (1#32 : W32).toNat / 65536 ≠ 0x9648) ∧
    (((takeable.writeWord offSumpCtl 0x96480002#32).mayTakeOver && (takeable.writeWord offSumpCtl 0x96480002#32).sump.peerStale) = true ∧
      takeable.decodeOf .sump = .all ∧ takeable.auditFull = false ∧
      (((at_ stSERVE).writeWord offSumpCtl 0x96480002#32).mayTakeOver && ((at_ stSERVE).writeWord offSumpCtl 0x96480002#32).sump.peerStale)
        = false) ∧
    (((at_ stRECOVER).writeWord offSumpCtl 0x96480001#32).serving = false ∧ (at_ stRECOVER).decodeOf .sump = .all ∧
      (regionValid.writeWord offSumpCtl 0x96480001#32).serving = true ∧
      (∃ e ∈ (regionValid.writeWord offSumpCtl 0x96480001#32).sump.regions, e.2.st = 1) ∧
      ((at_ stSERVE).writeWord offSumpCtl 0x96480001#32).serving = true ∧
      ((at_ stSERVE).writeWord offSumpCtl 0x96480001#32).sump.shutting = false ∧
      ((at_ stSERVE).writeWord offSumpCtl 0x96480001#32).sump.shutDown = false ∧
      (∀ e ∈ ((at_ stSERVE).writeWord offSumpCtl 0x96480001#32).sump.regions, e.2.st ≠ 1) ∧
      ((shutting {}).writeWord offSumpCtl 0x96480001#32).sump.shutting = true ∧ ((shutting {}).writeWord offSumpCtl 0x96480001#32).serving = true) ∧
    (State.reset.sump.shutting = false ∧ (shutting {}).sump.shutting = true ∧ (shutting {}).ftl.versions = [] ∧ (shutting {}).ftl.asm = [] ∧
      (shutting {}).ftl.fly = [] ∧ (shutting {}).ftl.flushing = none ∧ (shutting {}).mapPending = false ∧
      (shutting { versions := [fragment] }).ftl.versions ≠ [] ∧ (shutting { flushing := some (1, 7, true) }).ftl.flushing ≠ none ∧
      (shutting { journal := [.mapMark 1 0 5 false] }).mapPending = true) := by decide +kernel

/-- Region 3 in a given state, LEN as written, one operation written. -/
def regioned (r : Region) (n : Nat := 2) : State := { (srv .sump).wr Reg.SUMP_REGION_DATA1_LEN n with sump := { regions := [(3, r)] } }
def regionOp (bit : Nat) : W32 := BitVec.ofNat 32 (2 ^ bit + 3)
def regionWr (r : Region) (bit : Nat) (n : Nat := 2) : State := (regioned r n).writeWord offRegionAcc (regionOp bit)
def regionRoomy (n : Nat) : State := ((regioned {} n).wr Reg.SUMP_STATUS_FLOAT_EFF 64).writeWord offRegionAcc (regionOp 30)

theorem witness_RegionsAreRegisteredReadAndRevoked :
    (∀ bit ∈ [29, 30, 31], (regionWr { st := rgValid } bit).decodeOf .sump = .all ∧ (regionWr { st := rgValid } bit).begins .sump = true ∧
      (regionWr { st := rgValid } bit).is Reg.SUMP_REGION_STATUS_BUSY = false ∧ (regionOp bit).toNat / 2 ^ bit % 2 = 1 ∧
      (regionOp bit).toNat % 64 = 3 ∧ ((regionWr { st := rgValid } bit).regionOf 3).st = rgValid ∧ (3#32 : W32).toNat / 2 ^ bit % 2 = 0 ∧
      ((at_ stSERVE).writeWord offRegionAcc (regionOp bit)).begins .sump = false) ∧
    (((regionWr {} 30).regionOf 3).st = rgInvalid ∧ Tab.has 3 (regionWr {} 30).sump.peerRegions = false ∧
      (regionWr {} 30 0).rd Reg.SUMP_REGION_DATA1_LEN = 0 ∧ 16384 < (regionWr {} 30 16385).rd Reg.SUMP_REGION_DATA1_LEN ∧
      (regionRoomy 2).rd Reg.SUMP_REGION_DATA1_LEN = 2 ∧ (regionRoomy 2).regionRoom 2 ≠ none ∧ (regionRoomy 2).begins .sump = true ∧
      ((regionRoomy 2).regionOf 3).st = rgInvalid ∧ ((regioned {} 2).writeWord offRegionAcc (regionOp 30)).regionRoom 2 = none) ∧
    (((regioned { st := rgRevoking }).regionOf 3).st = rgRevoking ∧ ((regioned { st := rgRevoking }).regionOf 3).draining = [] ∧
      ((regioned { st := rgRevoking, draining := [7] }).regionOf 3).draining ≠ [] ∧ ((regioned {}).regionOf 3).st ≠ rgRevoking) ∧
    ((({ State.reset with sump := { zeroing := [(3, 0, 65536)] } } : State).sump.zeroing.find? fun z => z.1 == (3 : Fin 64).val) =
      some (3, 0, 65536) ∧ (State.reset.sump.zeroing.find? fun z => z.1 == (3 : Fin 64).val) = none) := by decide +kernel

/-! ### The manifold, queue pairs, PRD -/

/-- One frame, which port 3's link is sending, to the ports listed, with some copies done. -/
def frame7 (dests done_ : List Nat) : Frame := { len := 512, runs := [{ addr := 0, n := 2 }], part := 0, dests := dests, done := done_ }
def framed (f : Frame) : State :=
  { (at_ stSERVE).wr (Reg.SKL_LINK_STATE.at 3) lkActive with mfd := { frames := [(7, f)], sending := [(3, 7)] } }
def unlinked (f : Frame) : State := (framed f).wr (Reg.SKL_LINK_STATE.at 3) lkDown

/-- Port 0 of the Ethernet ports in mode 1, with PFC; with a frame of 100 bytes coming in. -/
def ethered : State := { (at_ stSERVE).wr (Reg.MFD_PFC_CFG_PFC_EN.at 0) 255 with img := { booted := some { params := { ethMode := [1, 0, 0, 0] } } } }
def ethComing : State := { ethered with mfd := { frames := [(7, { frame7 [56] [] with len := 100, src := 48, complete := false })],
                                                 receiving := [(48, 7)] } }
def heldOff : State := { at_ stSERVE with mfd := { down := [(3, 9), (52, 9)], expired := [53, 3] } }

/-- Priority 3 of port 0 paused until 50; asked to pause at 50 with nothing held and with a frame held. -/
def pausedNow : State := { at_ stSERVE with mfd := { paused := [(8 * 48 + 3, 50)] } }
def xoffNow (f : List (Nat × Frame)) : State := { (at_ stSERVE).wr (Reg.MFD_PFC_THR_XON.at 0) 2 with mfd := { xoff := [(3, 50)], frames := f } }

theorem witness_ManifoldCopiesAgesHoldsAndPauses :
    (Tab.find 7 (framed (frame7 [3] [])).mfd.frames = some (frame7 [3] []) ∧ Tab.find 3 (framed (frame7 [3] [])).mfd.sending = some 7 ∧
      (frame7 [3] []).complete = true ∧ (framed (frame7 [3] [])).portLinked 3 = true ∧
      ({ desc := some 0 } : CopyEcc).desc = some 0 ∧ ({ cell := some 1 } : CopyEcc).cell = some 1 ∧ ({ cell := some 1 } : CopyEcc).desc = none ∧
      ({} : CopyEcc).desc = none ∧ ({} : CopyEcc).cell = none) ∧
    (Tab.find 8 (framed (frame7 [3] [])).mfd.frames = none ∧ Tab.find 5 (framed (frame7 [3] [])).mfd.sending ≠ some 7 ∧
      ({ frame7 [3] [] with complete := false } : Frame).complete = false ∧ (unlinked (frame7 [3] [])).portLinked 3 = false) ∧
    ((((framed (frame7 [3, 4] [3])).atLeast (10 * sec)).mfd.frames = [(7, frame7 [3, 4] [3])] ∧
      ((framed (frame7 [3, 4] [3])).atLeast (10 * sec)).aged (frame7 [3, 4] [3]) ≠ []) ∧
      ((framed (frame7 [3] [])).atLeast (10 * sec)).aged (frame7 [3] []) = []) ∧
    ((∀ p ∈ [3, 48, 52], (at_ stSERVE).portServes p = true) ∧ stPRIME ≤ (at_ stSERVE).st ∧ (at_ stSERVE).st ≠ stHALTED) ∧
    ((at_ stSERVE).portServes 54 = false ∧ State.reset.st < stPRIME ∧ (at_ stHALTED).st = stHALTED) ∧
    (Tab.find 4 heldOff.mfd.down = none ∧ 3 ∈ heldOff.mfd.expired ∧ Tab.find 52 heldOff.mfd.down = some 9 ∧ 52 ∉ heldOff.mfd.expired) ∧
    ((framed (frame7 [3] [])).mfd.frames.any (fun e => e.2.left.contains 3) = true ∧ linkedPort 3 = true ∧
      ((framed (frame7 [3] [])).wr Reg.MFD_HOLD_STALL 1).portUp 3 = true ∧
      ((framed (frame7 [3] [])).wr Reg.MFD_HOLD_STALL 1).is Reg.MFD_HOLD_STALL = true) ∧
    (linkedPort 60 = false ∧ (∀ e ∈ (framed (frame7 [3] [])).mfd.frames, 4 ∉ e.2.left) ∧ heldOff.portUp 52 = false ∧
      ((at_ stSERVE).wr Reg.MFD_HOLD_STALL 0).is Reg.MFD_HOLD_STALL = false) ∧
    (ethered.pfcOn 0 3 = true ∧ (ethered.wr (Reg.MFD_PFC_CFG_PFC_EN.at 0) 0).pfcOn 0 3 = false) ∧
    (Tab.find (8 * 48 + 3) pausedNow.mfd.paused = some 50 ∧ Tab.find (8 * 48 + 3) State.reset.mfd.paused = none) ∧
    (Tab.find 3 (xoffNow []).mfd.xoff = some 50 ∧ Tab.find 3 State.reset.mfd.xoff = none ∧
      ((xoffNow []).atLeast (50 + (xoffNow []).rd Reg.MFD_PAUSE_REFRESH * us)).rxHeld 0 3 <
        ((xoffNow []).atLeast (50 + (xoffNow []).rd Reg.MFD_PAUSE_REFRESH * us)).rd (Reg.MFD_PFC_THR_XON.at 0) ∧
      (xoffNow [(7, { frame7 [3] [] with src := 48, prio := 3 })]).rd (Reg.MFD_PFC_THR_XON.at 0) ≤
        (xoffNow [(7, { frame7 [3] [] with src := 48, prio := 3 })]).rxHeld 0 3) := by
  refine ⟨?_, ?_, ?_, ?_, ?_, ?_, ?_, ?_, ?_, ?_, ?_⟩ <;> decide +kernel

/-- The hold of port 52 ends after that of port 53, and with it dual write mode; that of port 3 alone. -/
theorem witness_ManifoldCopiesAgesHoldsAndPauses_holds :
    (let t := heldOff.atLeast (9 + heldOff.rd Reg.MFD_HOLD * ms)
     let u := (({ t with mfd := { t.mfd with expired := 52 :: t.mfd.expired } } : State).discardPort 52).resumeReads
     52 ∈ (u.dropUnacked 0).mfd.expired ∧ 53 ∈ (u.dropUnacked 0).mfd.expired) ∧
    (let s := { heldOff with mfd := { heldOff.mfd with expired := [] } }
     let t := s.atLeast (9 + s.rd Reg.MFD_HOLD * ms)
     let u := (({ t with mfd := { t.mfd with expired := 3 :: t.mfd.expired } } : State).discardPort 3).resumeReads
     52 ∉ u.mfd.expired) := by decide +kernel

/-- Frames come in whole, in part, after none, and where the port is off, the device not far enough or nothing comes. -/
theorem witness_ManifoldCopiesAgesHoldsAndPauses_frames :
    (stPRIME ≤ ethered.st ∧ ethered.st ≠ stHALTED ∧ ethered.portGbps 0 ≠ 0 ∧ ({ bytes := 60 : EthFrame }).bytes ≠ 0 ∧
      ({ bytes := 60 : EthFrame }).first = true ∧ ({ bytes := 60, first := false : EthFrame }).first = false) ∧
    (ethered.portGbps 1 = 0 ∧ ({ bytes := 0 : EthFrame }).bytes = 0) ∧
    (Tab.has (ethPort 0 0) ethered.mfd.receiving = false ∧ Tab.find (ethPort 0 0) ethComing.mfd.receiving = some 7 ∧
      (Tab.find 7 ethComing.mfd.frames).isSome = true) := by decide +kernel

/-- Queue pair 9 in a given state; WELL runs. -/
def paired (q : Qp) : State := { srv .well with rc := { qps := [(9, q)] } }
def pairedCached (q : Qp) : State := { srv .well with rc := { qps := [(9, q)], cache := [(9, ⟨0, false⟩)] } }
def req (qid : Nat) : CmReq := { port := 0, hostQpn := 5, qid := qid, hsqSize := 15 }
def withAssoc (kato : Nat) : State := { State.reset with host := { ctlrs := [(70, { connected := true, kato := kato })] } }

theorem witness_QueuePairsAreConnectedAndRetired :
    State.reset.st < stSERVE ∧
    (stSERVE ≤ (srv .well).st ∧ (srv .well).accepting = true ∧ (srv .well).stopped .well = false) ∧
    ((at_ stSERVE).stopped .well = true ∧ ({ srv .well with sump := { shutDown := true } } : State).accepting = false ∧ stSERVE ≤ (at_ stSERVE).st) ∧
    ((srv .well).wake 2).cmRefusal (req 200) = some 3 ∧
    (((srv .well).wake 2).cmRefusal (req 0) = none ∧
      Tab.lowestFree ((srv .well).wake 2).rc.qps 0 ((srv .well).wake 2).params.rcQpMax = some 0) ∧
    (({ srv .well with rc := { qps := [(0, { st := qpFree })] }, img := { booted := some { params := { rcQpMax := 1 } } } } : State).cmRefusal (req 0) = none ∧
      Tab.lowestFree [(0, ({ st := qpFree } : Qp))] 0 1 = none) ∧
    (∀ st ∈ [qpInit, qpRtr, qpRts, qpErr, qpQuarantine], ((paired { st := st }).qpOf 9).st = st ∧ (((paired { st := st }).wake 2).qpOf 9).st = st ∧
      st ≠ qpFree) ∧
    (((paired {}).qpOf 8).st = qpFree ∧ qpRts ≠ qpRtr ∧ qpRts ≠ qpInit ∧ qpRts ≠ qpQuarantine ∧ qpRts ≠ qpErr ∧
      (∀ d ∈ [false, true], ((paired { st := qpErr, dreqSeen := d }).qpOf 9).dreqSeen = d)) ∧
    ((paired { st := qpQuarantine, quarUntil := 5 }).atLeast 5).ctxCached 9 = false ∧
    ((pairedCached { st := qpQuarantine, quarUntil := 5 }).atLeast 5).ctxCached 9 = true ∧
    (((withAssoc 5).ctlrOf 70).connected = true ∧ ((withAssoc 5).ctlrOf 70).kato ≠ 0 ∧ ((withAssoc 0).ctlrOf 70).kato = 0 ∧
      (State.reset.ctlrOf 71).connected = false) ∧
    (((at_ stROM).writeWord offQpInspect 0x80000003#32).decodeOf .well ≠ .all ∧ (3#32 : W32).toNat < 2 ^ 31 ∧
      ((at_ stSERVE).writeWord offQpInspect 0x80000003#32).decodeOf .well = .all ∧
      (((at_ stSERVE).writeWord offQpInspect 0x80000003#32).qpOf 3).st = qpFree ∧
      (((paired { st := qpRts }).writeWord offQpInspect 0x80000009#32).qpOf 9).st ≠ qpFree) := by
  refine ⟨?_, ?_, ?_, ?_, ?_, ?_, ?_, ?_, ?_, ?_, ?_, ?_⟩ <;> decide +kernel

/-- A packet for queue pair 9, of generation 1. -/
def pkt (body : RcBody) : RcPkt := { port := 0, qpn := 0x10009#24, psn := 0, body := body }
def fetching9 (q : Qp) : State := { srv .well with rc := { qps := [(9, q)], fetching := [9], missq := [(0, [(3, pkt .ack)])] } }

theorem witness_PacketsAreCheckedAckedAndRetried :
    ((pkt (.send .only [])).body = .send .only [] ∧ (pkt (.other 3)).body = .other 3 ∧ (pkt (.write .only 1 2 3 [])).body = .write .only 1 2 3 [] ∧
      (pkt (.readReq 1 2 3 false)).body = .readReq 1 2 3 false ∧ (pkt (.response .only [])).body = .response .only [] ∧ (pkt .ack).body = .ack ∧
      (pkt (.nak 0 0)).body = .nak 0 0 ∧ (pkt .cnp).body = .cnp) ∧
    (State.reset.st < stSERVE ∧ stSERVE ≤ (srv .well).st ∧ (srv .well).accepting = true ∧ (srv .well).stopped .well = false ∧
      stSERVE ≤ (at_ stSERVE).st ∧ (at_ stSERVE).stopped .well = true) ∧
    (9 ∉ State.reset.rc.fetching ∧ 9 ∈ (fetching9 { st := qpRts, due := [.ackTimeout] }).rc.fetching ∧
      ((fetching9 { st := qpRts, due := [.ackTimeout] }).qpOf 9).due = [.ackTimeout] ∧
      ((List.range 4).flatMap fun n => (Tab.getD n [] (fetching9 {}).rc.missq).filter fun e => e.2.qpn.toNat % 65536 == 9) = [(3, pkt .ack)]) ∧
    (((paired { st := qpRts, unacked := 2 }).qpOf 9).unacked ≠ 0 ∧ ((paired { st := qpRts }).qpOf 9).unacked = 0 ∧
      ((paired { st := qpErr, unacked := 2 }).qpOf 9).st ≠ qpRtr ∧ ((paired { st := qpErr, unacked := 2 }).qpOf 9).st ≠ qpRts) ∧
    ((∀ s ∈ [paired { st := qpRts, sent := [⟨0, 1, .cnp⟩] }, pairedCached { st := qpRts, sent := [⟨0, 1, .cnp⟩] }],
        (s.qpOf 9).st = qpRts ∧ (s.qpOf 9).rnrWait = false ∧ (s.qpOf 9).sent ≠ []) ∧
      ((paired { st := qpErr }).qpOf 9).st ≠ qpRts ∧ ((paired { st := qpRts }).qpOf 9).sent = [] ∧ ((paired { st := qpRts }).qpOf 9).reads = []) ∧
    (∀ s ∈ [paired { st := qpRts, rnrWait := true }, pairedCached { st := qpRts, rnrWait := true }],
      (s.qpOf 9).rnrWait = true ∧ (s.qpOf 9).st = qpRts) ∧
    ((paired { st := qpRts }).atLeast 50).ctxCached 9 = false ∧ ((pairedCached { st := qpRts }).atLeast 50).ctxCached 9 = true := by
  refine ⟨?_, ?_, ?_, ?_, ?_, ?_, ?_, ?_⟩ <;> decide +kernel

/-- PRD host 5, enabled, generation 1, every port, no prefix; shelf time locked. -/
def prdHost : List Nat := [0x10001, 0x0F000000, 0, 0, 0, 0, 0, 0]
def prding (table : List Recent) : State :=
  { (srv .well).wr Reg.TIME_STATUS_EVER_LOCKED 1 with
    img := { booted := some { params := { prdEnable := true } } }
    tm := { unbounded := false }
    prd := { hosts := [(5, prdHost)], ring := table.map fun e => (0, e)
             buckets := table.map fun e => (recentBucket e.host e.gen e.tid, 0), inserted := table.length } }

/-- The submission entry of an opcode for namespace 1; a packet of PRD host 5 with it, transaction 8. -/
def prdSqe (op : Nat) : Sqe := { opcode := op, nsid := 1 }
def prdPkt (op : Byte) : PrdPkt :=
  let head : List Byte := [0x10, 1, 0, 0, 0, 5, 0, 1, 0, 0, 0, 0, 0, 0, 0, 8] ++ List.replicate 17 0 ++ [64] ++ List.replicate 14 0
  let all := head ++ [op, 0, 0, 0, 1] ++ List.replicate 59 0
  { port := 0, src := 0, bytes := all ++ beBytes 4 (crc32c all) }
/-- A probe of that host, of a generation; ENC is bit 0 of the flags. -/
def probePkt (flags gen : Byte) : PrdPkt :=
  let head : List Byte := [0x10, 6, flags, 0, 0, 5, 0, gen, 0, 0, 0, 0, 0, 0, 0, 8] ++ List.replicate 32 0
  { port := 0, src := 0, bytes := head ++ (if flags == 1 then List.replicate 16 0 else beBytes 4 (crc32c head)) }
def recent8 : Recent := { host := 5, gen := 1, tid := 8, crc := sqeCrc (prdSqe 1), expiry := 40 }
def prdHeld (st : Stage) (asked : List Pull) : State := { prding [] with host := { cmds :=
  [(4, { path := .prd 5 1 8, ctlr := 2, sqe := prdSqe 1, stage := st, key := some (5, 1, 8), prd := { asked := asked, entry := prdHost } })] } }
def prdEnds : State := { State.reset with prd := { oldLife := some (1, 2), stepHold := some 3, access := some (5, some prdHost) } }

theorem witness_PrdCommandsAreJudgedByTheTable :
    ((prding []).params.prdEnable = true ∧ stSERVE ≤ (prding []).st ∧ (prding []).accepting = true ∧ (prding []).stopped .well = false) ∧
    (State.reset.params.prdEnable = false ∧ ((prding []).wr Reg.GLB_PRIME_STATUS_STATE stPRIME).params.prdEnable = true ∧
      ((prding []).wr Reg.GLB_PRIME_STATUS_STATE stPRIME).st < stSERVE ∧ ((prding []).wr (fRun .well) 0).accepting = true ∧
      ((prding []).wr (fStopped .well) 1).stopped .well = true) ∧
    (((prding []).wake 2).prdFormat (probePkt 0 1) = true ∧ ((prding []).wake 2).prdFormat { probePkt 0 1 with bytes := [] } = false ∧
      prdFrom (probePkt 0 1) prdHost = true ∧ prdFrom (probePkt 0 9) prdHost = false ∧
      ((prding []).wake 2).prdFormat (probePkt 0 9) = true ∧ ((prding []).wake 2).prdFormat (probePkt 1 1) = true ∧
      prdFrom (probePkt 1 1) prdHost = true ∧ (prdHdr (probePkt 1 1)).enc = true ∧ (((prding []).wake 2).useGcm 0).prdOpen (probePkt 1 1) prdHost = none ∧
      (((prding []).wake 2).prdOpen (probePkt 0 1) prdHost).isSome = true ∧ (prdHdr (probePkt 0 1)).type = prdProbe) ∧
    (((prding []).wake 2).prdSuspend = 0 ∧ (((prding []).wr Reg.TIME_STATUS_EVER_LOCKED 0).wake 2).prdSuspend ≠ 0 ∧
      ((prding []).wake 2).foreignOwner false (prdSqe 1) = none ∧
      ({ pair stSERVE with ns := [(1, { nsze := 16, owner := 1 })] } : State).foreignOwner false (prdSqe 1) = some 1) ∧
    ((prding []).receiver (prdHdr (prdPkt 1)) = none ∧ ((prdHeld .fetching [⟨0, 512, 0, 0⟩]).receiver (prdHdr (prdPkt 1))).isSome = true) ∧
    ((prdHeld .fetching []).cmdOf 3 = none ∧ (∀ st ∈ [Stage.remote, .fetching], ∀ n ∈ [0, 7],
      (((prdHeld st [⟨0, 512, 0, n⟩]).cmdOf 4).map fun c => (c.prd.asked, c.stage)) = some ([⟨0, 512, 0, n⟩], st)) ∧
      0 < (prding []).rd Reg.WELL_PRD_PULL_RETRIES ∧ (prding []).rd Reg.WELL_PRD_PULL_RETRIES ≤ 7) ∧
    (∀ c ∈ (prdHeld .held []).cmdOf 4, c.key ≠ none ∧ c.stage = .held ∧ nonIdempotent c = true ∧ c.prd.asked = []) ∧
    (nonIdempotent { path := .prd 5 1 8, sqe := prdSqe 2, ctlr := 2 } = false ∧ Stage.fetching ≠ .held) ∧
    (prdEnds.prd.oldLife = some (1, 2) ∧ prdEnds.prd.stepHold = some 3 ∧ prdEnds.prd.access = some (5, some prdHost)) ∧
    (State.reset.prd.oldLife = none ∧ State.reset.prd.stepHold = none ∧ State.reset.prd.access = none ∧
      ({ State.reset with prd := { access := some (5, none) } } : State).prd.access = some (5, none)) ∧
    ((State.reset.writeWord offPrdHostAcc 0x40000005#32).decodeOf .well ≠ .all ∧
      ((srv .well).writeWord offPrdHostAcc 0x40000005#32).decodeOf .well = .all ∧ ((srv .well).writeWord offPrdHostAcc 0x40000005#32).begins .well = true ∧
      ((at_ stSERVE).writeWord offPrdHostAcc 0x40000005#32).begins .well = false ∧
      (0x40000005#32 : W32).toNat / 2 ^ 30 % 2 = 1 ∧ (0x80000005#32 : W32).toNat / 2 ^ 31 % 2 = 1 ∧ (5#32 : W32).toNat / 2 ^ 30 % 2 = 0 ∧
      ((srv .well).writeWord offPrdHostAcc 0x40000005#32).is Reg.WELL_PRD_HOST_STATUS_BUSY = false ∧
      (((srv .well).wr Reg.WELL_PRD_HOST_STATUS_BUSY 1).writeWord offPrdHostAcc 0x40000005#32).is Reg.WELL_PRD_HOST_STATUS_BUSY = true) := by
  refine ⟨?_, ?_, ?_, ?_, ?_, ?_, ?_, ?_, ?_, ?_, ?_⟩ <;> decide +kernel

/-- The key's entry done, in progress and absent, the table's answer each time, and a time that is in the future, stale or before the start. -/
theorem witness_PrdCommandsAreJudgedByTheTable_table :
    ((prding []).recentOf 5 1 8 = none ∧ (prding [recent8]).recentOf 5 1 8 = some recent8) ∧
    ((prding []).prdDecide 5 1 8 0 false 1 = .run ∧ (prding []).prdDecide 5 1 8 0 true 1 = .run) ∧
    (prding [recent8]).prdDecide 5 1 8 0 false 1 = .refuse prdTidReused ∧
    (prding [recent8]).prdDecide 5 1 8 0 false (sqeCrc (prdSqe 1)) = .refuse prdInProgress ∧
    (prding [{ recent8 with st := 2 }]).prdDecide 5 1 8 0 false (sqeCrc (prdSqe 1)) = .dup { recent8 with st := 2 } := by
  refine ⟨?_, ?_, ?_, ?_, ?_⟩ <;> decide +kernel

/-! ### The pod -/

/-- Link 0 in a given state; POD and PLA run; the image fits this stepping. -/
def linkUp (st lk : Nat) : State :=
  { (((((pair st).wr (Reg.PL_LINK_STATE.at 0) lk).wr (fRun .pla) 1).wr (fStopped .pla) 0).wr (fRun .pod) 1).wr (fStopped .pod) 0 with
    img := { fuses := { serial := 77 }, booted := some { params := { podSection := true, peerMode := 1, members := members }, steppings := [0xB0] } } }
def hello1 (podId : Nat) : Hello := { podId := podId, serial := 78, member := 1, state := stPOD }
def podFrame (good : Bool) (type : Nat) (seq : BitVec 32) : PodFrame :=
  { hcrc := BitVec.ofNat 32 (crc32c (brontFront type 7 1 0xFF seq.toNat 0 0 0)), crc := if good then 0 else 1, type := type, src := 1, seq := seq }

theorem witness_MembersLinkHearJoinAndFail :
    ((linkUp stSERVE lkDetect).plEnabled 0 = true ∧ (linkUp stSERVE lkDetect).domainFailed 140 = false ∧ stPRIME ≤ (linkUp stSERVE lkDetect).st ∧
      (linkUp stSERVE lkDetect).st ≤ stISOLATED ∧ (linkUp stSERVE lkDetect).stopped (plBlock 0) = false ∧ (linkUp stSERVE lkDetect).plk 0 < lkActive ∧
      (linkUp stSERVE lkDetect).lanesGood 0 8 = true ∧ (linkUp stSERVE lkDetect).paramGood 0 { serial := 78, member := 1 } = true) ∧
    ((linkUp stSERVE lkDetect).plEnabled 1 = false ∧ ((linkUp stSERVE lkDetect).wr (Reg.PWR_DFAIL_FAILED.at 4) (2 ^ 12)).domainFailed 140 = true ∧
      State.reset.st < stPRIME ∧ stISOLATED < (linkUp stHALTED lkDetect).st ∧ ((linkUp stSERVE lkDetect).wr (fStopped .pla) 1).stopped (plBlock 0) = true ∧
      lkActive ≤ (linkUp stSERVE lkActive).plk 0 ∧ (linkUp stSERVE lkDetect).lanesGood 0 3 = false ∧
      (linkUp stSERVE lkDetect).paramGood 0 { serial := 79, member := 1 } = false) ∧
    ((linkUp stSERVE lkActive).plk 0 = lkActive ∧ (linkUp stSERVE lkRecovery).plk 0 = lkRecovery ∧ (linkUp stSERVE lkRecovery).lanesGood 0 8 = true ∧
      (linkUp stSERVE lkActive).plk 1 ≠ lkActive ∧ (linkUp stSERVE lkActive).plk 0 ≠ lkRecovery) ∧
    ((podFrame false 1 1).crcGood = false ∧ (∀ e ∈ [(1, 1), (1, 2), (6, 1)], (podFrame true e.1 e.2).crcGood = true) ∧
      (podFrame true 1 1).type ≠ 6 ∧ (podFrame true 6 1).type = 6) ∧
    ((podFrame true 1 1).seq.toNat = (((linkUp stSERVE lkActive).linkPl 0).rxSeq + 1) % 2 ^ 32 ∧
      (podFrame true 1 2).seq.toNat ≠ (((linkUp stSERVE lkActive).linkPl 0).rxSeq + 1) % 2 ^ 32) ∧
    (State.reset.params.podSection = false ∧ (linkUp stSERVE lkActive).params.podSection = true ∧ stPOD ≤ (linkUp stSERVE lkActive).st ∧
      (linkUp stSERVE lkActive).st ≤ stISOLATED ∧ (linkUp stSERVE lkActive).begins .pod = true ∧
      ((linkUp stSERVE lkActive).wr (fStopped .pod) 1).begins .pod = false) ∧
    ((linkUp stSERVE lkActive).stopped .pod = false ∧ (hello1 0).member.val ≠ (linkUp stSERVE lkActive).selfIndex ∧
      (linkUp stSERVE lkActive).helloMismatch (hello1 3) = some fcNotMember ∧ (linkUp stSERVE lkActive).helloMismatch (hello1 0) = none ∧
      ({ hello1 0 with member := 0 } : Hello).member.val = (linkUp stSERVE lkActive).selfIndex ∧
      ((linkUp stSERVE lkActive).wr (fStopped .pod) 1).stopped .pod = true) ∧
    (((linkUp stPOD lkActive).heardFrom 1).st = stPOD ∧ (linkUp stPOD lkActive).podTalks = true ∧ (linkUp stSERVE lkActive).podTalks = true ∧
      ((linkUp stSERVE lkActive).heardFrom 1).st ≠ stPOD ∧ State.reset.podTalks = false ∧ State.reset.st ≠ stPOD) ∧
    ((linkUp stSERVE lkActive).serving = true ∧ State.reset.serving = false ∧
      (((linkUp stSERVE lkActive).heardFrom 3).toPeer 3 (.liveSet 0 [])).partner ≠ some 3 ∧
      (((linkUp stSERVE lkActive).heardFrom 1).toPeer 1 (.liveSet 0 [])).partner = some 1) ∧
    (((linkUp stSERVE lkActive).heardFrom 1).serving = true ∧ ((linkUp stSERVE lkActive).heardFrom 1).liveEpoch ≤ 4 ∧
      4 < (((linkUp stSERVE lkActive).setLiveEpoch 5).heardFrom 1).liveEpoch ∧ ((linkUp stISOLATED lkActive).heardFrom 1).serving = false) ∧
    (((linkUp stSERVE lkActive).wr Reg.POD_STATUS_REACHABLE 2).rd Reg.POD_STATUS_REACHABLE / 2 ^ 1 % 2 = 1 ∧
      1 ≠ (linkUp stSERVE lkActive).selfIndex ∧ State.reset.rd Reg.POD_STATUS_REACHABLE / 2 ^ 1 % 2 = 0) ∧
    (({ State.reset with pod := { fenceAt := some 4 } } : State).pod.fenceAt = some 4 ∧ State.reset.pod.fenceAt = none) ∧
    State.reset.mayTakeOver = false := by
  refine ⟨?_, ?_, ?_, ?_, ?_, ?_, ?_, ?_, ?_, ?_, ?_, ?_, ?_⟩ <;> decide +kernel

/-- The partner is out, fenced, and may be taken over, with either mirror. -/
def fenced (stale : Bool) : State :=
  { (pair stSERVE).wr Reg.POD_STATUS_SERVE_SET 1 with pod := { takeover := true, fenced := true }, sump := { peerStale := stale } }
theorem witness_MembersLinkHearJoinAndFail_takeover :
    ((fenced true).mayTakeOver = true ∧ (fenced true).enterSingle.sump.peerStale = true) ∧
    ((fenced false).mayTakeOver = true ∧ (fenced false).enterSingle.sump.peerStale = false) := by decide +kernel

/-- A launch that member 1 coordinates, agreed to here; this controller's own proposal, with whose answers are missing. -/
def launch1 : Launch := { coord := 1, time := 10 ^ 9, epoch := 2 }
def engaged_ (go : Bool) : State := { pair stSERVE with pod := { engaged := some launch1, go := go } }
def proposing (go : Bool) (awaiting : List Nat) : State := { pair stSERVE with pod := { proposal := some launch1, go := go, awaiting := awaiting } }
/-- The namespace's map names location 40, of a namespace of this controller or of its partner. -/
def mapped (owner : Nat) (m : Tab MapVal) : State := { pair stSERVE with ns := [(1, { nsze := 64, owner := owner })], ftl := { map := m } }
/-- Tank 5, its release asked for or not; the partner moving or not; a command of another member, one sent to another. -/
def releasing (sent : Bool) : State :=
  { pair stSERVE with ftl := { tanks := [(5, { st := tkFull, layout := 528, members := [], releaseSent := sent })] } }
def forwarding (path : Path) (st : Stage) (dead : Bool) : State :=
  { pair stSERVE with host := { cmds := [(6, { cmdOf_ (ioQ 1) false with path := path, stage := st, dead := dead })] } }
def ownless : State := (linkUp stSERVE lkActive).wr Reg.POD_STATUS_OWN_NONE 1

theorem witness_PodLaunchesAndSharedWork :
    ((pair stSERVE).serving = true ∧ State.reset.serving = false) ∧
    (∀ awaiting ∈ [[1], [1, 2]], (proposing false awaiting).pod.proposal = some launch1 ∧ (proposing false awaiting).pod.go = false ∧
      1 ∈ (proposing false awaiting).pod.awaiting) ∧
    ([1].filter (· != 1) = [] ∧ [1, 2].filter (· != 1) ≠ [] ∧ State.reset.pod.proposal = none ∧ (proposing true [1]).pod.go = true ∧ 3 ∉ (proposing false [1]).pod.awaiting) ∧
    ((engaged_ false).pod.engaged = some launch1 ∧ launch1.coord = 1 ∧ (engaged_ false).pod.go = false ∧ (engaged_ true).pod.go = true ∧
      (engaged_ false).podTalks = true ∧ State.reset.pod.engaged = none ∧ State.reset.podTalks = false) ∧
    ((pair stSERVE).allocator = true ∧ (pair stSERVE).partner = some 1 ∧ distinct [0, 1] = true ∧ distinct [1, 1] = false ∧
      ((pair stSERVE).heardFrom 1).takeBlocks 1 [0, 1] = none ∧ ((pair stSERVE).heardFrom 1).takeBlocks 1 [] = some [] ∧ distinct [] = true ∧
      Tab.lowestFree ((pair stSERVE).heardFrom 1).ftl.tanks 0 8 = some 0 ∧ Tab.lowestFree ((pair stSERVE).heardFrom 1).ftl.tanks 0 0 = none ∧
      (((pair stSERVE).wr Reg.FTL_TANK_ENTRIES 8).heardFrom 1).rd Reg.FTL_TANK_ENTRIES = 8 ∧ (pair stSERVE).partner ≠ some 2 ∧
      State.reset.partner = none) ∧
    (((mapped 0 []).nsOf 1).any (mapped 0 []).owns = true ∧ ((mapped 1 []).nsOf 1).any (mapped 1 []).owns = false ∧ (mapped 0 []).podTalks = true ∧
      Tab.find (iuKey 1 3) ((mapped 0 []).heardFrom 1).ftl.map ≠ some (.media 40) ∧
      Tab.find (iuKey 1 3) ((mapped 0 [(iuKey 1 3, .media 40)]).heardFrom 1).ftl.map = some (.media 40)) ∧
    ((releasing true).partner = some 1 ∧ (((releasing true).heardFrom 1).tankOf 5).releaseSent = true ∧
      (((releasing false).heardFrom 1).tankOf 5).releaseSent = false) ∧
    ((mapped 1 []).nsOf 1 = some { nsze := 64, owner := 1 } ∧ (mapped 1 []).partner = some 1 ∧ (mapped 1 []).nsOf 2 = none ∧
      (mapped 0 []).nsOf 1 = some { nsze := 64 } ∧ ({ nsze := 64 } : Ns).owner ≠ 1) ∧
    ((0x96480001#32 : W32).toNat / 65536 = 0x9648 ∧ (0x96480001#32 : W32).toNat % 2 = 1 ∧ (1#32 : W32).toNat / 65536 ≠ 0x9648 ∧
      (0x96480000#32 : W32).toNat % 2 = 0 ∧ (ownless.writeWord offPodCtl 0x96480001#32).is Reg.POD_STATUS_OWN_NONE = true ∧
      (ownless.writeWord offPodCtl 0x96480001#32).decodeOf .pod = .all ∧ (State.reset.writeWord offPodCtl 0x96480001#32).decodeOf .pod ≠ .all ∧
      ((linkUp stSERVE lkActive).writeWord offPodCtl 0x96480001#32).is Reg.POD_STATUS_OWN_NONE = false) ∧
    ((pair stSERVE).accepting = true ∧ (pair stSERVE).memberServes 1 = true ∧ (pair stSERVE).memberServes 2 = false ∧ State.reset.accepting = false) ∧
    ((∀ dead ∈ [false, true], (((forwarding (.pcie 2 1) .remote dead).heardFrom 1).cmdOf 6).map (fun c => (c.stage, c.dead)) = some (.remote, dead)) ∧
      (((forwarding (.pcie 2 1) .held false).heardFrom 1).cmdOf 6).map (·.stage) = some .held ∧
      ((forwarding (.forwarded 1 6) .held false).heardFrom 1).forwardedBy 1 6 = some (6, { cmdOf_ (ioQ 1) false with path := .forwarded 1 6, stage := .held }) ∧
      ((forwarding (.pcie 2 1) .held false).heardFrom 1).forwardedBy 1 6 = none) ∧
    (State.reset.partner = none ∧ (mapped 0 []).partnerServes = true ∧ ((pair stSERVE).wr Reg.POD_STATUS_SERVE_SET 1).partnerServes = false) := by
  refine ⟨?_, ?_, ?_, ?_, ?_, ?_, ?_, ?_, ?_, ?_, ?_, ?_⟩ <;> decide +kernel

/-- A key from the partner, not listed as destroyed, for an empty slot; listed, and for slots that cannot take it. -/
theorem witness_PodLaunchesAndSharedWork_keys (type : Nat) (key : List Byte) :
    (let u := (pair stSERVE).heardFrom 1
     u.fingerprint type key ∉ u.cry.destroyed ∧ (u.vaultSlot 20).state = slotEmpty) ∧
    (let u := { pair stSERVE with cry := { destroyed := [(pair stSERVE).fingerprint type key] } }
     u.fingerprint type key ∈ u.cry.destroyed) ∧
    (({ pair stSERVE with cry := { vault := [(20, { state := slotLoaded })] } } : State).vaultSlot 20).state ≠ slotEmpty ∧
    ((pair stSERVE).podTalks = true ∧ (pair stSERVE).pod.pairKey = true ∧ State.reset.pod.pairKey = false) := by
  refine ⟨⟨?_, by decide +kernel⟩, List.mem_singleton.2 rfl, by decide, by decide⟩
  rw [show ((pair stSERVE).heardFrom 1).cry.destroyed = [] by decide +kernel]; exact List.not_mem_nil

/-! ### PCIe, attestation, sequencers, power -/

/-- The link is up, RRS over, in SERVE; with tolerance reporting on; PF1 enabled. -/
def linked0 (p : Pcie) : State := { (at_ stSERVE).wr Reg.GLB_PRIME_STATUS_RRS 0 with pcie := p }
def linkUp0 : State := linked0 { linkUp := true }
def ltrOn (last : Option (Nat × Nat)) : State := linked0 { linkUp := true, fns := [(0, { ltrEnable := true })], lastLtr := last }
def fnOn (f : PcieFn) : State := linked0 { fns := [(1, f)] }

/-- Window 3 over the first MiB of DRAM, or of MRAM. -/
def windowed (space write : Nat) : State :=
  { ((((linkUp0.wr (Reg.PCIE_WIN_CTL_EN.at 3) 1).wr (Reg.PCIE_WIN_LEN.at 3) 256).wr (Reg.PCIE_WIN_CTL_WRITE.at 3) write).wr
      (Reg.PCIE_WIN_CTL_SPACE.at 3) space) with mem := { dramBytes := 2 ^ 30 } }
/-- The whole of MRAM is one partition, which the host may write or not. -/
def mramOpen (w : Bool) : State := { linkUp0 with img := { booted := some { params := { mramSize := [1024], mramHostWrite := [w] } } } }
def clockOn : State := State.reset.wr Reg.PWR_CLK_LOCK 0x2000

theorem witness_PcieRequestsAreAnsweredOrRefused :
    (clockOn.pcie.perstLow = false ∧ clockOn.domainFailed 142 = false ∧ clockOn.rd Reg.PWR_CLK_LOCK / 2 ^ 13 % 2 = 1 ∧ 4 ∈ [1, 2, 4, 8]) ∧
    (({ clockOn with pcie := { perstLow := true } } : State).pcie.perstLow = true ∧
      (clockOn.wr (Reg.PWR_DFAIL_FAILED.at 4) (2 ^ 14)).domainFailed 142 = true ∧ (clockOn.wr Reg.PWR_CLK_LOCK 0).rd Reg.PWR_CLK_LOCK / 2 ^ 13 % 2 = 0 ∧
      3 ∉ [1, 2, 4, 8]) ∧
    (State.reset.pcie.linkUp = false ∧ (linkUp0.wr Reg.GLB_PRIME_STATUS_RRS 1).is Reg.GLB_PRIME_STATUS_RRS = true) ∧
    (linkUp0.pcie.linkUp = true ∧ linkUp0.is Reg.GLB_PRIME_STATUS_RRS = false ∧ linkUp0.fnAnswers 33 = false ∧ linkUp0.fnAnswers 1 = true ∧
      (linkUp0.configWord 1 0).isSome = true ∧ linkUp0.configWord 0 0x154 = none) ∧
    (linkUp0.barDecoded 0 3 0 = false ∧ linkUp0.barDecoded 0 4 (3 * 2 ^ 32) = true) ∧
    (∀ p ∈ [0, 1], (windowed p 1).is (Reg.PCIE_WIN_CTL_EN.at 3) = true ∧ 0 + 8 ≤ 4096 * (windowed p 1).rd (Reg.PCIE_WIN_LEN.at 3) ∧
      (windowed p 1).rd (Reg.PCIE_WIN_CTL_SPACE.at 3) = p ∧ (windowed p 1).is (Reg.PCIE_WIN_CTL_WRITE.at 3) = true ∧
      (windowed p 1).barDecoded 0 4 (3 * 2 ^ 32) = true) ∧
    ((windowed 0 0).is (Reg.PCIE_WIN_CTL_WRITE.at 3) = false ∧ linkUp0.is (Reg.PCIE_WIN_CTL_EN.at 3) = false ∧
      4096 * (windowed 0 0).rd (Reg.PCIE_WIN_LEN.at 3) < 2 ^ 20 + 1 ∧ (mramOpen true).mramWritable 0 8 = true ∧ (mramOpen false).mramWritable 0 8 = false) ∧
    ((windowed 0 1).decodeOf .pcie = .all ∧ (windowed 0 1).is (fResetting .pcie) = false ∧
      ((windowed 0 1).writeWord 0x40013C 1#32).windowFits 3 0 = true ∧ (linkUp0.writeWord 0x40013C 1#32).windowFits 3 1 = true ∧
      ((linkUp0.wr (Reg.PCIE_WIN_LEN.at 3) 5).writeWord 0x40013C 1#32).windowFits 3 0 = false ∧
      (State.reset.decodeOf .pcie ≠ .all ∧ (linkUp0.wr (fResetting .pcie) 1).is (fResetting .pcie) = true)) ∧
    (linkUp0.nvmeReachable 1 = true ∧ (linkUp0.fnOf 1).ccEn = false ∧ linkUp0.nvmeReachable 0 = false) ∧
    ((fnOn { ccEn := true, rdy := true }).nvmeReachable 1 = true ∧ ((fnOn { ccEn := true, rdy := true }).fnOf 1).ccEn = true ∧
      ((fnOn { ccEn := true, rdy := true }).fnOf 1).rdy = true ∧ ((fnOn { ccEn := true, rdy := true }).fnOf 1).cfs = false ∧
      ((fnOn { ccEn := true }).fnOf 1).rdy = false ∧ ((fnOn { cfs := true }).fnOf 1).cfs = true) ∧
    (linkUp0.fnPresent 1 = true ∧ linkUp0.fnPresent 5 = false ∧
      (linkUp0.wr (Reg.PCIE_FN_STATUS_MASTER.at 1) mstFlr).rd (Reg.PCIE_FN_STATUS_MASTER.at 1) = mstFlr ∧
      linkUp0.rd (Reg.PCIE_FN_STATUS_MASTER.at 1) ≠ mstFlr) ∧
    ((ltrOn none).pcie.linkUp = true ∧ ((ltrOn none).fnOf 0).ltrEnable = true ∧ (ltrOn none).pcie.lastLtr = none ∧ (linkUp0.fnOf 0).ltrEnable = false ∧
      (ltrOn (some ((ltrOn none).ltrValue, 4))).pcie.lastLtr = some ((ltrOn (some ((ltrOn none).ltrValue, 4))).ltrValue, 4)) := by
  refine ⟨?_, ?_, ?_, ?_, ?_, ?_, ?_, ?_, ?_, ?_, ?_, ?_⟩ <;> decide +kernel

/-- Tag 5: a read of 64 bytes; the same tag quarantined. -/
def read5 : PcieTag := { rd := { fn := 1, use := .queue 1, addr := 0, len := 64 }, left := 64, timeout := 50, at_ := 3 }
def reading : State := linked0 { linkUp := true, tags := [(5, read5)] }
def quarantined5 : State := linked0 { linkUp := true, quarantined := [(5, 1, 90)] }
/-- A completion of `n` bytes for tag 5. -/
def cpl5 (fn status n : Nat) (poisoned : Bool) : PcieCpl :=
  { tag := 5, fn := fn, status := status, poisoned := poisoned, owed := 64, data := List.replicate n 0 }

theorem witness_ExpiredReadTagsAreQuarantined :
    (Tab.find 5 reading.pcie.tags = some read5 ∧ Tab.find 5 reading.pcie.quarantined = none) ∧
    (Tab.find 5 quarantined5.pcie.tags = none ∧ Tab.find 5 quarantined5.pcie.quarantined = some (1, 90) ∧
      (quarantined5.count Reg.PCIE_CNT_LATE_CPL).is Reg.PCIE_LATE_LOG_VALID = false ∧
      ((quarantined5.wr Reg.PCIE_LATE_LOG_VALID 1).count Reg.PCIE_CNT_LATE_CPL).is Reg.PCIE_LATE_LOG_VALID = true) ∧
    (Tab.find 6 quarantined5.pcie.tags = none ∧ Tab.find 6 quarantined5.pcie.quarantined = none ∧ (cpl5 1 0 64 false).malformed = false ∧
      ({ cpl5 1 0 64 false with malformed := true } : PcieCpl).malformed = true) ∧
    ((cpl5 2 0 64 false).fn ≠ read5.rd.fn ∧ (cpl5 1 1 0 false).fn = read5.rd.fn ∧ (cpl5 1 1 0 false).status ≠ 0 ∧ (cpl5 1 0 64 true).status = 0 ∧
      (cpl5 1 0 64 true).poisoned = true) ∧
    (read5.expects (cpl5 1 0 64 false) = true ∧ read5.left - (cpl5 1 0 64 false).data.length = 0 ∧
      ({ read5 with rd := { fn := 1, use := .queue 1, addr := 0, len := 128 }, left := 128 } : PcieTag).expects { cpl5 1 0 64 false with owed := 128 } = true ∧
      128 - (cpl5 1 0 64 false).data.length ≠ 0 ∧ read5.expects (cpl5 1 0 0 false) = false) := by decide

def spdmAt (n : Nat) : State := linked0 { linkUp := true, spdm := { phase := n } }
theorem witness_AttestationAnswersInItsOrder :
    State.reset.doeUp = false ∧ (∀ n < 4, (spdmAt n).doeUp = true ∧ (spdmAt n).pcie.spdm.phase = n) ∧
    (0xFF#8 : BitVec 8).toNat ∉ [0x84, 0xE1, 0xE3, 0x81, 0x82, 0x83, 0xE0] ∧ (0x84#8 : BitVec 8).toNat ∈ [0x84, 0xE1, 0xE3, 0x81, 0x82, 0x83, 0xE0] ∧
    (2 ≤ (2#8 : BitVec 8).toNat ∧ (8#8 : BitVec 8).toNat ≠ 0xFF ∧ 7 < (8#8 : BitVec 8).toNat) := by decide

theorem witness_ResetsGiveMailboxesBack :
    (3 < 32 ∧ (Memory.set [] (mboxBase 3) 1).get (mboxBase 3) ≠ 0 ∧ Memory.get [] (mboxBase 3) = 0) ∧
    (∀ m < 32, (0 : Nat) ≠ mboxBase m ∧ 0 ≠ mboxBase m + 0x10) ∧ ResetKind.resetN ≠ .warm := by decide

def seqing (q : Seq) : State := { (srv .seq).wr Reg.SEQ_MBOX_OWN 8 with seq := q }
def haltedBut (n : Nat) : State := ((List.range 16).filter (· != n)).foldl (fun (s : State) k => s.wr (Reg.SEQ_STATE.at k) sqHalted) (at_ stSERVE)
def atomAt (a : Nat) : State := (srv .seq).wr Reg.SEQ_ATOM_ADDR a

theorem witness_MailboxesScratchpadsAndMonitorsWork :
    ((srv .seq).decodeOf .seq = .all ∧ (srv .seq).begins .seq = true ∧ State.reset.decodeOf .seq ≠ .all ∧ (at_ stSERVE).begins .seq = false) ∧
    ((seqing {}).mboxOwned 3 = true ∧ (seqing {}).mboxOwned 4 = false) ∧
    (Tab.find 3 (seqing {}).seq.running = none ∧
      Tab.find 3 (seqing { running := [(3, some { st := 2 })] }).seq.running = some (some { st := 2 })) ∧
    (State.reset.barDecoded 0 2 0 = false ∧ (seqing {}).barDecoded 0 2 0x3C000 = true ∧ (seqing {}).prim.recovery = false ∧
      ({ seqing {} with prim := { recovery := true } } : State).barDecoded 0 2 0x3C000 = true ∧ 0x3C000 < 0x400000 ∧
      hostArea 0x3C000 = true ∧ hostArea 0 = false ∧ (0x700000 - 0x400000) / 0x100000 = 3) ∧
    ((seqing {}).rd (Reg.SEQ_STATE.at 2) ≠ sqHalted ∧ (haltedBut 2).rd (Reg.SEQ_STATE.at 3) = sqHalted ∧ (haltedBut 2).rd (Reg.SEQ_STATE.at 2) ≠ sqHalted) ∧
    (((atomAt 0x3C008).writeWord 0x3C00304 0x80000000#32).decodeOf .seq = .all ∧ 2 ^ 31 ≤ (0x80000000#32 : W32).toNat ∧
      (atomAt 0x3C008).rd Reg.SEQ_ATOM_ADDR = 0x3C008 ∧ hostArea 0x3C008 = true ∧ 0x3C008 % 8 = 0 ∧ 0x3C004 % 8 ≠ 0 ∧ hostArea 8 = false ∧
      (atomAt 0x3C004).rd Reg.SEQ_ATOM_ADDR = 0x3C004 ∧ (atomAt 8).rd Reg.SEQ_ATOM_ADDR = 8) ∧
    ((srv .pmu).decodeOf .pmu = .all ∧ (srv .pmu).stopped .pmu = false ∧ (srv .pmu).begins .pmu = true ∧
      (srv .pmu).is (fResetting .pmu) = false ∧ State.reset.decodeOf .pmu ≠ .all ∧ (at_ stSERVE).stopped .pmu = true ∧
      (at_ stSERVE).begins .pmu = false ∧ ((srv .pmu).wr (fResetting .pmu) 1).is (fResetting .pmu) = true) ∧
    (((srv .pmu).wr Reg.PMU_SNAP_STATUS_BUSY 1).is Reg.PMU_SNAP_STATUS_BUSY = true ∧ (srv .pmu).is Reg.PMU_SNAP_STATUS_BUSY = false) ∧
    (inRange Reg.PMU_BW_CFG_WINDOW 0 = false ∧ inRange Reg.PMU_BW_CFG_WINDOW 1000 = true) := by
  refine ⟨?_, ?_, ?_, ?_, ?_, ?_, ?_, ?_, ?_⟩ <;> decide +kernel

/-- The last sequencer but one halts, then the last. -/
theorem witness_MailboxesScratchpadsAndMonitorsWork_halts :
    (let u := (((at_ stSERVE).wr (Reg.SEQ_STATE.at 2) sqHalted).count Reg.SEQ_CNT_SEQ_HALTS).raise sevUncorrected .seq (Reg.SEQ_STATE.at 2).off 2
     u.rd (Reg.SEQ_STATE.at 0) ≠ sqHalted) ∧
    (let u := (((haltedBut 2).wr (Reg.SEQ_STATE.at 2) sqHalted).count Reg.SEQ_CNT_SEQ_HALTS).raise sevUncorrected .seq (Reg.SEQ_STATE.at 2).off 2
     ∀ i < 16, u.rd (Reg.SEQ_STATE.at i) = sqHalted) := by decide +kernel

/-- A snapshot without the blocks, and with them to a buffer in DRAM, out of it, and out of alignment. -/
def snapping (blocks addr : Nat) : State :=
  { ((srv .pmu).wr Reg.PMU_SNAP_CTL_BLOCKS blocks).wr64 Reg.PMU_SNAP_ADDR_LO Reg.PMU_SNAP_ADDR_HI addr with mem := { dramBytes := 2 ^ 30 } }
def snapped (s : State) : State :=
  let t := { s with pmu := { s.pmu with snap := s.snapWords } }
  (t.wr64 Reg.PMU_SNAP_TIME_LO Reg.PMU_SNAP_TIME_HI t.tm.shelf).wr Reg.PMU_SNAP_STATUS_VALID 1
theorem witness_MailboxesScratchpadsAndMonitorsWork_snapshots :
    (∀ b ∈ [0, 1], (snapped (snapping b 0)).is Reg.PMU_SNAP_CTL_BLOCKS = (b == 1)) ∧
    (∀ a ∈ [0, 8, 2 ^ 30], (snapped (snapping 1 a)).rd64 Reg.PMU_SNAP_ADDR_LO Reg.PMU_SNAP_ADDR_HI = a) ∧
    (0 % 4096 = 0 ∧ 8 % 4096 ≠ 0 ∧ (snapped (snapping 1 0)).inDram 0 snapBuffer = true ∧ (snapped (snapping 1 0)).inDram (2 ^ 30) snapBuffer = false) := by decide +kernel

/-- In a device state, with a tolerance and a deepest state allowed, at 1 s. -/
def powered (st max tol exiting : Nat) : State :=
  ((((({ State.reset with tm := { mono := 10 ^ 12 } } : State).wr Reg.PWR_STATUS_STATE st).wr Reg.PWR_CTL_MAX_STATE max).wr
    Reg.PCIE_LTR_DEV_TOL tol).wr Reg.PWR_STATUS_EXITING exiting)
def evaluated (s : State) : State := (s.atLeast 9).wr Reg.PWR_STATUS_T_MIN (s.atLeast 9).tMin
def tripped (h : Bool) : State := { at_ stSERVE with prim := { tripHeld := h } }

theorem witness_PowerFollowsStateHeatAndFaults :
    (evaluated (powered 0 0 0 1)).is Reg.PWR_STATUS_EXITING = true ∧
    ((evaluated (powered 0 3 0xFFFF 0)).is Reg.PWR_STATUS_EXITING = false ∧ (evaluated (powered 0 3 0xFFFF 0)).devState < (evaluated (powered 0 3 0xFFFF 0)).deepest) ∧
    ((evaluated (powered 2 0 0xFFFF 0)).is Reg.PWR_STATUS_EXITING = false ∧ (evaluated (powered 2 0 0xFFFF 0)).deepest < (evaluated (powered 2 0 0xFFFF 0)).devState) ∧
    ((evaluated (powered 0 0 0xFFFF 0)).is Reg.PWR_STATUS_EXITING = false ∧ (evaluated (powered 0 0 0xFFFF 0)).deepest = (evaluated (powered 0 0 0xFFFF 0)).devState) ∧
    ((powered 0 0 0 1).is Reg.PWR_STATUS_EXITING = true ∧ (at_ stSERVE).is Reg.PWR_STATUS_EXITING = false) ∧
    ((at_ stSERVE).is Reg.PWR_I3C_FAULT = false ∧ ((at_ stSERVE).wr Reg.PWR_I3C_FAULT 1).is Reg.PWR_I3C_FAULT = true) ∧
    ((115 : Int) ≤ 115 ∧ (114 : Int) < 115 ∧ (94 : Int) < 95 ∧ (95 : Int) ≤ 95 ∧ (tripped false).prim.tripHeld = false ∧ (tripped true).prim.tripHeld = true) ∧
    ((State.reset.wr Reg.PWR_CLK_LOCK 8).rd Reg.PWR_CLK_LOCK / 2 ^ 3 % 2 = 1 ∧ State.reset.rd Reg.PWR_CLK_LOCK / 2 ^ 3 % 2 = 0) := by
  refine ⟨?_, ?_, ?_, ?_, ?_, ?_, ?_, ?_⟩ <;> decide +kernel

/-! ### Ill-formed commands are refused by the checks -/

/-- The last word of BAR0, and one past it; a word that is not aligned. -/
theorem test_wf_registers :
    (Instr.registerWrite 0x3FFFFFC 0#32).wellFormed = true ∧ (Instr.registerWrite 0x4000000 0#32).wellFormed = false ∧
    (Instr.lowWordRead 0x102 4).wellFormed = false ∧ (Instr.rcFieldRead 0x102 2).wellFormed = true ∧ (Instr.rcFieldRead 0x102 0).wellFormed = false ∧
    (Instr.bar0PartialWrite 0x102 0#32).wellFormed = true ∧ (Instr.bar0PartialWrite 0x4000000 0#32).wellFormed = false := by decide

theorem test_wf_namespaces :
    (∀ nsid ∈ [0, 4097], (Instr.eraseDelayExpiry nsid).wellFormed = false ∧ (Instr.formatStart nsid).wellFormed = false ∧
      (Instr.balancingMoveStart nsid).wellFormed = false ∧ (Instr.copyMap 1 nsid 0 0 0).wellFormed = false) ∧
    (Instr.formatStart 4096).wellFormed = true := by decide

theorem test_wf_ports :
    (Instr.portLinkUp 575).wellFormed = true ∧ (Instr.portLinkUp 576).wellFormed = false ∧
    (Instr.ethFrameReceive 0 { bytes := 64, dests := [576] }).wellFormed = false ∧ (Instr.bandwidthWindowEnd [(600, 0, 0)]).wellFormed = false ∧
    (Instr.pfcFrameReceive 0 0 [(0, 65536)]).wellFormed = false := by decide

/-- 16 + 2 and a mirror of three are layouts, 1 + 1 and a mirror of four are not. -/
theorem test_wf_layouts :
    (Instr.stripeAssemblyTimeout 0x210 0).wellFormed = true ∧ (Instr.stripeAssemblyTimeout 0x101 0).wellFormed = false ∧
    layoutWord 0x8003 = true ∧ layoutWord 0x8004 = false ∧ (Instr.grantReq 1 0x210 0 [48]).wellFormed = false ∧
    (Instr.holdupSample 0 [48]).wellFormed = false := by decide

theorem test_wf_slots :
    (Instr.slotCheckDone 3 { vout := 4096 } false).wellFormed = false ∧ (Instr.slotFeedUv 4096).wellFormed = false ∧
    (Instr.slotGroupStart 48).wellFormed = false ∧ (Instr.drawdownOpIssue 0 256).wellFormed = false := by decide

theorem test_wf_messages :
    ({ trained := 0x0F#8, deviceLost := 0x10#8, capacityGiB := 64 : MemInit }).good = false ∧
    (req 0).good = true ∧ ({ req 0 with pmtu := 6 } : CmReq).good = false ∧
    ({ tag := 1024, fn := 0 : PcieCpl }).good = false ∧ ({ tag := 0, fn := 34 : PcieCpl }).good = false ∧
    (Instr.windowAccess 0 4 (some [0])).wellFormed = false ∧
    (Instr.ccEnWrite 1 0 0 8 0).wellFormed = false ∧ (Instr.vfEnable true 33).wellFormed = false ∧
    (Instr.pcieLinkTrained 5 3 false).wellFormed = false ∧ (Instr.bar2Write 0x3FFFFFF (.write [0, 0]) {}).wellFormed = false ∧
    (Instr.liveSet 0 0 [(2, 0#32)]).wellFormed = false := by decide

/-! ### The queue -/

/-- No row of the table has bits: no word spells a command. -/
theorem test_no_word_is_a_command : decodeTableWord 32 0x12345678 = none ∧ State.reset.withFetchWord 32 1 = State.reset := ⟨rfl, rfl⟩

/-- The front command runs first and the rest stay queued. -/
theorem test_queue_is_fifo :
    (match step (State.reset.withPending [.mirrorAckReceive 1, .suspendAck]) with
     | .next t => decide (t.pending = [.suspendAck])
     | _ => false) = true := by decide

/-! ### Single steps -/

/-- What a step leaves of a register field. -/
def after_ (c : Instr) (f : Field) (s : State) : Option Nat :=
  match exec c s with
  | .next t => some (t.rd f)
  | _ => none

/-- R11: a partial write is discarded and sets PARTIAL_WR. -/
theorem test_partial_write : after_ (.bar0PartialWrite 4 5#32) (fErr .glb 8) (at_ stSERVE) = some 1 := by decide

/-- R543 and Table 21.4: the watchdog's cause is recorded with VALID. -/
theorem test_fatal_is_recorded : after_ (.fatalError .rail) Reg.GLB_FATAL_VALID (at_ stSERVE) = some 1 := by decide +kernel

/-- R441: the lock is given to the one who asks while it is free, and kept from a second. -/
theorem test_look_aside_lock :
    after_ (.laAcquire .host) Reg.CRY_LA_LOCK_OWNER (at_ stSERVE) = some 1 ∧
    after_ (.laAcquire (.seq 2)) Reg.CRY_LA_LOCK_OWNER ((at_ stSERVE).wr Reg.CRY_LA_LOCK_OWNER 1) = some 1 := by decide +kernel

/-- R391: VOUT at 0.50 V counts as driven from outside, at 0.49 V it does not. -/
theorem test_slot_check :
    after_ (.slotCheckDone 5 { vout := 49, vin := 1200 } false) (Reg.SLOT_STATUS_STATE.at 5) (slotted chCheck {}) = some chRamp ∧
    after_ (.slotCheckDone 5 { vout := 50, vin := 1200 } false) (Reg.SLOT_STATUS_STATE.at 5) (slotted chCheck {}) = some chCheck := by
  decide +kernel

/-- R427: SAVE_LOST is cleared by writing 1, kept by writing 0. -/
theorem test_save_lost :
    after_ (.saveLostClear 0x80#32) Reg.SUMP_STATUS_SAVE_LOST ((at_ stSERVE).wr Reg.SUMP_STATUS_SAVE_LOST 1) = some 0 ∧
    after_ (.saveLostClear 0#32) Reg.SUMP_STATUS_SAVE_LOST ((at_ stSERVE).wr Reg.SUMP_STATUS_SAVE_LOST 1) = some 1 := by decide +kernel

/-- R539: the trip is at 115 degrees, not at 114. -/
theorem test_thermal_trip :
    after_ (.thermalTrip 115) Reg.PWR_THERM_STATUS_TRIPPED (at_ stSERVE) = some 1 ∧
    after_ (.thermalTrip 114) Reg.PWR_THERM_STATUS_TRIPPED (at_ stSERVE) = some 0 := by decide +kernel

/-- Table 6.9: a write, from mailbox 3, while the bank has never been charged is refused as write protected. -/
theorem test_write_needs_a_charged_bank :
    (match exec (.write 4) { doing (ioQ 1) ns1 with host :=
        { cmds := [(4, { cmdOf_ (ioQ 1) false with path := .mailbox 3 false })], ctlrs := [(2, { hostId := 5 })] } } with
     | .next t => decide (t.seq.running = [(3, some { st := 1, cqe := some (nvWriteProtected, 0) })])
     | _ => false) = true := by decide +kernel

/-- CRC-32C (R22) of "123456789" is E3069283h. -/
theorem test_crc32c : crc32c [0x31, 0x32, 0x33, 0x34, 0x35, 0x36, 0x37, 0x38, 0x39] = 0xE3069283 := by decide +kernel

/-! ### The signed image in the ROM and staged -/

/-- The image in slot A boots: the ROM reads its bytes, checks its CRCs, its key against the fuses and its signature, and finds no fault;
with BOOT_MODE 2 and the debug fuse set it stops there for JTAG. -/
def toJtag : State := { inRom.wr Reg.GLB_STRAP_BOOT_MODE 2 with img := { nor := goodNor, fuses := { goodFuses with debug := true } } }

set_option maxRecDepth 100000 in
theorem witness_PrimingUpToStruct_image :
    inRom.primes stROM = true ∧ inRom.rd Reg.GLB_STRAP_BOOT_MODE = 0 ∧ (inRom.advance 1).romBoot.2 = true ∧
    (inRom.advance 1).romBoot.1.rd Reg.GLB_STRAP_BOOT_MODE ≠ 2 := by decide +kernel

set_option maxRecDepth 100000 in
theorem witness_PrimingUpToStruct_jtag :
    toJtag.primes stROM = true ∧ toJtag.rd Reg.GLB_STRAP_BOOT_MODE ≠ 1 ∧ (toJtag.advance 1).romBoot.2 = true ∧
    (toJtag.advance 1).romBoot.1.rd Reg.GLB_STRAP_BOOT_MODE = 2 ∧ (toJtag.advance 1).romBoot.1.img.fuses.debug = true := by decide +kernel

set_option maxRecDepth 100000 in
/-- A staged copy of the signed image passes. -/
theorem witness_ImagesAreStagedTriedAndAccepted_passes :
    (staging imageBytes).is Reg.IMG_STAGE_STATUS_BUSY = true ∧ (staging imageBytes).img.staged = some imageBytes ∧
    checkImage (staging imageBytes).img.fuses imageBytes.length (readImage imageBytes imageBytes.length) = none := by decide +kernel

/-! ### The balls (R567 to R570) -/

/-- The worked examples of Table 23.2: SKL37_TX1_P is CH36, SLOT29_SENSE_N is AG38, MEM5_A_DQ0 is AD45. -/
theorem test_balls_worked_examples :
    ((rowNamed ['C', 'H']).bind fun r => ballAt r 36) = some (.lane (.skl 37) 1 true false) ∧
    ((rowNamed ['A', 'G']).bind fun r => ballAt r 38) = some (.slot 29 .senseN) ∧
    ((rowNamed ['A', 'D']).bind fun r => ballAt r 45) = some (.dram 5 false (.dq 0)) := by decide +kernel

/-- The rows of Table 23.4 by their letters, and the last row, CM. -/
theorem test_ball_rows :
    [50, 52, 54, 56, 58, 60, 62, 64, 66, 68, 69].map rowName =
      [['B', 'M'], ['B', 'P'], ['B', 'U'], ['B', 'W'], ['C', 'A'], ['C', 'C'], ['C', 'E'], ['C', 'G'], ['C', 'J'], ['C', 'L'], ['C', 'M']] := by
  decide +kernel

/-- A DRAM region: 54 GND balls, 8 reserved, 154 signals, none twice (R569). -/
theorem test_ball_counts :
    (let l := (List.range 216).map fun i => dramBall 3 (i / 18) (i % 18)
     l.count .gnd = 54 ∧ l.count .rsvd = 8 ∧ (l.filter fun b => b != .gnd && b != .rsvd).eraseDups.length = 154) := by decide +kernel

end Sys2Proof.Tests
end

/-! ## The check of the audit chain (R452) -/

section
namespace Sys2Proof.Machine

/-! ### Registers: a 64-bit value, and what the end of a command shows -/

/-- A 64-bit value written to two words of 32 bits is read back. -/
theorem State.rd64_wr64_same (s : State) (lo hi : Field) (v : Nat) (hlo : lo.width = 32) (hhi : hi.width = 32)
    (hne : lo.key ≠ hi.key) (hv : v < 2 ^ 64) : (s.wr64 lo hi v).rd64 lo hi = v := by
  have low : (s.wr64 lo hi v).rd lo = v % 2 ^ 32 := by
    unfold State.wr64
    rw [State.rd_wr_ne _ _ _ _ hne, State.rd_wr_same _ _ _ (Nat.le_of_eq hlo), hlo, Nat.mod_mod]
  have high : (s.wr64 lo hi v).rd hi = v / 2 ^ 32 := by
    unfold State.wr64
    rw [State.rd_wr_same _ _ _ (Nat.le_of_eq hhi), hhi]
    exact Nat.mod_eq_of_lt (by omega)
  rw [State.rd64, low, high, Nat.mod_add_div]

theorem State.rd_wr64_ne (s : State) (lo hi f : Field) (v : Nat) (hlo : f.key ≠ lo.key) (hhi : f.key ≠ hi.key) :
    (s.wr64 lo hi v).rd f = s.rd f := by
  rw [State.wr64, State.rd_wr_ne _ _ _ _ hhi, State.rd_wr_ne _ _ _ _ hlo]

/-- The end of a command keeps every field that stands for no count of the state. -/
theorem State.rd_settle_of_not_shown (s : State) (f : Field) (h : f.key ∉ shownFields.map Field.key) : s.settle.rd f = s.rd f := by
  simp only [shownFields, List.map_cons, List.map_nil, List.mem_cons, List.not_mem_nil, or_false, not_or] at h
  exact State.rd_settle s f h.1 h.2

/-- Both words of a 64-bit value written. -/
theorem RegistersChange.wr64 {s t : State} {fs : List Field} (h : RegistersChange s t fs) (lo hi : Field) (v : Nat)
    (hlo : lo.key ∈ (shownFields ++ fs).map Field.key) (hhi : hi.key ∈ (shownFields ++ fs).map Field.key) :
    RegistersChange s (t.wr64 lo hi v) fs :=
  (h.wr lo _ hlo).wr hi _ hhi

/-! ### The first failing record -/

/-- The search finds none among records that all pass. -/
theorem State.firstBad_eq_none (s : State) (i k : Nat) (good : ∀ m, i ≤ m → m < i + k → s.auditBadAt m = false) :
    s.firstBad i k = none := by
  induction k generalizing i with
  | zero => rfl
  | succ k ih =>
    have here : s.auditBadAt i = false := good i (Nat.le_refl i) (by omega)
    have later : s.firstBad (i + 1) k = none := ih (i + 1) fun m hi hm => good m (by omega) (by omega)
    rw [State.firstBad, here, later]
    rfl

/-- The search finds the failing record before which all pass. -/
theorem State.firstBad_eq_some (s : State) (i k n : Nat) (hi : i ≤ n) (hn : n < i + k) (bad : s.auditBadAt n = true)
    (good : ∀ m, i ≤ m → m < n → s.auditBadAt m = false) : s.firstBad i k = some n := by
  induction k generalizing i with
  | zero => omega
  | succ k ih =>
    rw [State.firstBad]
    by_cases e : i = n
    · rw [e, bad]
      rfl
    · have here : s.auditBadAt i = false := good i (Nat.le_refl i) (by omega)
      have later : s.firstBad (i + 1) k = some n := ih (i + 1) (by omega) (by omega) fun m hm => good m (by omega)
      rw [here, later]
      rfl

/-- Record 0 fails by its MAC, or by a PREV_MAC other than 0 (R450). -/
theorem State.auditBadAt_zero (s : State) (r : AuditRec) (h : s.auditAt 0 = some r) :
    s.auditBadAt 0 = true ↔ r.mac ≠ s.auditMac r.body ∨ r.body.prevMac ≠ 0 := by
  simp [State.auditBadAt, h]

/-- A later record fails by its MAC, or by a PREV_MAC other than the MAC of the record before it (R450). -/
theorem State.auditBadAt_of_pred (s : State) (n : Nat) (r p : AuditRec) (hn : n ≠ 0) (h : s.auditAt n = some r)
    (hp : s.auditAt (n - 1) = some p) : s.auditBadAt n = true ↔ r.mac ≠ s.auditMac r.body ∨ r.body.prevMac ≠ p.mac := by
  simp [State.auditBadAt, h, hp, hn]

/-! ### What the two commands do, case by case -/

theorem exec_auditVerify_of_not_reached (s : State) (h : s.reached .cry = false) :
    exec .auditVerify s = .next (s.unreached .cry).settle := by
  show execAuditVerify s = _
  simp [execAuditVerify, settled, h]

theorem exec_auditVerify_of_busy (s : State) (h : s.reached .cry = true) (busy : s.is Reg.CRY_AUDIT_VERIFY_BUSY = true) :
    exec .auditVerify s = .next s.settle := by
  show execAuditVerify s = _
  simp [execAuditVerify, settled, h, busy]

theorem exec_auditVerify_of_idle (s : State) (h : s.reached .cry = true) (idle : s.is Reg.CRY_AUDIT_VERIFY_BUSY = false) :
    exec .auditVerify s =
      .next (State.wr { s with cry := { s.cry with verifyTo := s.auditHead } } Reg.CRY_AUDIT_VERIFY_BUSY 1).settle := by
  show execAuditVerify s = _
  simp [execAuditVerify, settled, h, idle, State.wr]

theorem exec_auditVerifyDone_of_idle_or_stopped (s : State)
    (h : s.is Reg.CRY_AUDIT_VERIFY_BUSY = false ∨ s.stopped .cry = true) : exec .auditVerifyDone s = .next s.settle := by
  show execAuditVerifyDone s = _
  rcases h with h | h <;> simp [execAuditVerifyDone, settled, h]

theorem exec_auditVerifyDone_of_none (s : State) (busy : s.is Reg.CRY_AUDIT_VERIFY_BUSY = true) (runs : s.stopped .cry = false)
    (h : s.firstBad s.auditArch (s.cry.verifyTo - s.auditArch) = none) :
    exec .auditVerifyDone s =
      .next ((s.wr Reg.CRY_AUDIT_VERIFY_BUSY 0).wr Reg.CRY_AUDIT_STATUS_CHAIN_BAD 0).settle := by
  show execAuditVerifyDone s = _
  simp [execAuditVerifyDone, settled, busy, runs, h]

theorem exec_auditVerifyDone_of_some (s : State) (n : Nat) (busy : s.is Reg.CRY_AUDIT_VERIFY_BUSY = true)
    (runs : s.stopped .cry = false) (h : s.firstBad s.auditArch (s.cry.verifyTo - s.auditArch) = some n) :
    exec .auditVerifyDone s = .next (((s.wr Reg.CRY_AUDIT_VERIFY_BUSY 0).wr64 Reg.CRY_AUDIT_BAD_LO Reg.CRY_AUDIT_BAD_HI n).wr
      Reg.CRY_AUDIT_STATUS_CHAIN_BAD 1).settle := by
  show execAuditVerifyDone s = _
  simp [execAuditVerifyDone, settled, busy, runs, h]

/-! ### What a check that starts and one that ends show -/

/-- A check starts: BUSY, up to HEAD. -/
theorem auditVerify_starts (s : State) (h : s.reached .cry = true) (idle : s.is Reg.CRY_AUDIT_VERIFY_BUSY = false) :
    ∃ t : State, exec .auditVerify s = .next t ∧ t.rd Reg.CRY_AUDIT_VERIFY_BUSY = 1 ∧ t.cry.verifyTo = s.auditHead ∧
      RegistersChange { s with cry := t.cry } t [Reg.CRY_AUDIT_VERIFY_BUSY] := by
  refine ⟨_, exec_auditVerify_of_idle s h idle, ?_, ?_, ?_⟩
  · rw [State.rd_settle_of_not_shown _ _ (by decide)]
    exact State.rd_wr_same _ _ _ (by decide)
  · rw [State.settle_cry, State.wr_cry]
  · rw [State.settle_cry, State.wr_cry]
    exact RegistersChange.wr_settle _ _ _

/-- A check ends that finds record `n` failing, and none before it. -/
theorem auditVerifyDone_reports (s : State) (n : Nat) (busy : s.is Reg.CRY_AUDIT_VERIFY_BUSY = true)
    (runs : s.stopped .cry = false) (hn : n < 2 ^ 64) (lo : s.auditArch ≤ n) (hi : n < s.cry.verifyTo)
    (bad : s.auditBadAt n = true) (good : ∀ m, s.auditArch ≤ m → m < n → s.auditBadAt m = false) :
    ∃ t : State, exec .auditVerifyDone s = .next t ∧ t.rd Reg.CRY_AUDIT_VERIFY_BUSY = 0 ∧
      t.rd Reg.CRY_AUDIT_STATUS_CHAIN_BAD = 1 ∧ t.rd64 Reg.CRY_AUDIT_BAD_LO Reg.CRY_AUDIT_BAD_HI = n ∧
      RegistersChange s t [Reg.CRY_AUDIT_VERIFY_BUSY, Reg.CRY_AUDIT_STATUS_CHAIN_BAD, Reg.CRY_AUDIT_BAD_LO,
        Reg.CRY_AUDIT_BAD_HI] := by
  have found : s.firstBad s.auditArch (s.cry.verifyTo - s.auditArch) = some n :=
    s.firstBad_eq_some _ _ n lo (by omega) bad good
  refine ⟨_, exec_auditVerifyDone_of_some s n busy runs found, ?_, ?_, ?_, ?_⟩
  · rw [State.rd_settle_of_not_shown _ _ (by decide), State.rd_wr_ne _ _ _ _ (by decide),
      State.rd_wr64_ne _ _ _ _ _ (by decide) (by decide)]
    exact State.rd_wr_same _ _ _ (by decide)
  · rw [State.rd_settle_of_not_shown _ _ (by decide)]
    exact State.rd_wr_same _ _ _ (by decide)
  · rw [State.rd64, State.rd_settle_of_not_shown _ _ (by decide), State.rd_settle_of_not_shown _ _ (by decide),
      State.rd_wr_ne _ _ _ _ (by decide), State.rd_wr_ne _ _ _ _ (by decide)]
    exact State.rd64_wr64_same _ _ _ n rfl rfl (by decide) hn
  · exact ((((RegistersChange.refl s _).wr _ _ (by decide)).wr64 _ _ _ (by decide) (by decide)).wr _ _ (by decide)).settled

/-- A check ends that finds no record failing. -/
theorem auditVerifyDone_clears (s : State) (busy : s.is Reg.CRY_AUDIT_VERIFY_BUSY = true) (runs : s.stopped .cry = false)
    (good : ∀ m, s.auditArch ≤ m → m < s.cry.verifyTo → s.auditBadAt m = false) :
    ∃ t : State, exec .auditVerifyDone s = .next t ∧ t.rd Reg.CRY_AUDIT_VERIFY_BUSY = 0 ∧
      t.rd Reg.CRY_AUDIT_STATUS_CHAIN_BAD = 0 ∧
      RegistersChange s t [Reg.CRY_AUDIT_VERIFY_BUSY, Reg.CRY_AUDIT_STATUS_CHAIN_BAD] := by
  have found : s.firstBad s.auditArch (s.cry.verifyTo - s.auditArch) = none :=
    s.firstBad_eq_none _ _ fun m lo hi => good m lo (by omega)
  refine ⟨_, exec_auditVerifyDone_of_none s busy runs found, ?_, ?_, ?_⟩
  · rw [State.rd_settle_of_not_shown _ _ (by decide), State.rd_wr_ne _ _ _ _ (by decide)]
    exact State.rd_wr_same _ _ _ (by decide)
  · rw [State.rd_settle_of_not_shown _ _ (by decide)]
    exact State.rd_wr_same _ _ _ (by decide)
  · exact (((RegistersChange.refl s _).wr _ _ (by decide)).wr _ _ (by decide)).settled

/-- Settles O23: the search from ARCH returns the first failing record, by induction on the number of records searched, and what
each end of the check writes is read back past the counts shown. -/
theorem auditVerifyReportsTheFirstBadRecord : Obligations.AuditVerifyReportsTheFirstBadRecord := by
  refine ⟨fun s => ⟨exec_auditVerify_of_not_reached s, exec_auditVerify_of_busy s, auditVerify_starts s⟩,
    exec_auditVerifyDone_of_idle_or_stopped, fun n s => auditVerifyDone_reports s n, auditVerifyDone_clears,
    fun n r p s h => ⟨?_, fun hn hp => s.auditBadAt_of_pred n r p hn h hp⟩⟩
  rintro rfl
  exact s.auditBadAt_zero r h

end Sys2Proof.Machine
end

/-! ## The completions of the master engine's reads (R498, R499, R502) -/

section
namespace Sys2Proof.Machine

/-! ### A read's timeout, and the quarantine of its tag -/

theorem exec_pcieCompletionTimeout_of_not_outstanding (tag : Fin 1024) (s : State) (free : Tab.find tag.val s.pcie.tags = none) :
    exec (.pcieCompletionTimeout tag) s = .next s.settle := by
  show execPcieCompletionTimeout tag s = _
  simp only [execPcieCompletionTimeout, settled, free]

/-- An expired read: its tag is quarantined before it is freed, so that no read is issued with it meanwhile. -/
theorem exec_pcieCompletionTimeout_of_outstanding (tag : Fin 1024) (r : PcieTag) (s u : State)
    (out : Tab.find tag.val s.pcie.tags = some r) (hu : u = (s.atLeast (r.at_ + r.timeout)).count Reg.PCIE_CNT_CPL_TIMEOUT) :
    exec (.pcieCompletionTimeout tag) s = .next ((((({ u with pcie := { u.pcie with
      quarantined := Tab.put tag.val (r.rd.fn, u.tm.mono + 2 * r.timeout) u.pcie.quarantined } } : State).freeRead
        tag.val r.rd).aerReport r.rd.fn aerTimeout).readFails r.rd).settle) := by
  subst hu
  show execPcieCompletionTimeout tag s = _
  simp only [execPcieCompletionTimeout, settled, out]

theorem exec_pcieTagQuarantineEnd_of_not_quarantined (tag : Fin 1024) (s : State)
    (free : Tab.find tag.val s.pcie.quarantined = none) : exec (.pcieTagQuarantineEnd tag) s = .next s.settle := by
  show execPcieTagQuarantineEnd tag s = _
  simp only [execPcieTagQuarantineEnd, settled, free]

theorem exec_pcieTagQuarantineEnd_of_quarantined (tag : Fin 1024) (fn until_ : Nat) (s u : State)
    (held : Tab.find tag.val s.pcie.quarantined = some (fn, until_)) (hu : u = s.atLeast until_) :
    exec (.pcieTagQuarantineEnd tag) s = .next (({ u with pcie := { u.pcie with
      quarantined := Tab.del tag.val u.pcie.quarantined } } : State).drainReads).settle := by
  subst hu
  show execPcieTagQuarantineEnd tag s = _
  simp only [execPcieTagQuarantineEnd, settled, held]

/-! ### A late completion -/

theorem State.lateCpl_of_logged (s : State) (tag fn : Nat)
    (full : (s.count Reg.PCIE_CNT_LATE_CPL).is Reg.PCIE_LATE_LOG_VALID = true) :
    s.lateCpl tag fn = s.count Reg.PCIE_CNT_LATE_CPL := by
  simp only [State.lateCpl, full, if_true]

theorem State.lateCpl_of_empty (s : State) (tag fn : Nat)
    (empty : (s.count Reg.PCIE_CNT_LATE_CPL).is Reg.PCIE_LATE_LOG_VALID = false) :
    s.lateCpl tag fn = (((s.count Reg.PCIE_CNT_LATE_CPL).wr Reg.PCIE_LATE_LOG_TAG tag).wr Reg.PCIE_LATE_LOG_FUNCTION fn).wr
      Reg.PCIE_LATE_LOG_VALID 1 := by
  simp only [State.lateCpl, empty, Bool.false_eq_true, if_false]

/-! ### A completion arrives, by what is wrong with it first -/

section
variable (c : PcieCpl) (s : State)

theorem exec_pcieCompletionReceive_of_malformed (bad : c.malformed = true) :
    exec (.pcieCompletionReceive c) s = .next (s.aerReport (c.fn % 34) aerMalformed).settle := by
  show execPcieCompletionReceive c s = _
  simp only [execPcieCompletionReceive, settled, bad, if_true]

variable (ok : c.malformed = false)
include ok

theorem exec_pcieCompletionReceive_of_unknown_tag (free : Tab.find c.tag s.pcie.tags = none)
    (unheld : Tab.find c.tag s.pcie.quarantined = none) :
    exec (.pcieCompletionReceive c) s = .next (s.aerReport (c.fn % 34) aerUnexpected).settle := by
  show execPcieCompletionReceive c s = _
  simp only [execPcieCompletionReceive, settled, ok, free, unheld, Bool.false_eq_true, if_false]

theorem exec_pcieCompletionReceive_of_quarantined (fn until_ : Nat) (free : Tab.find c.tag s.pcie.tags = none)
    (held : Tab.find c.tag s.pcie.quarantined = some (fn, until_)) :
    exec (.pcieCompletionReceive c) s = .next (s.lateCpl c.tag fn).settle := by
  show execPcieCompletionReceive c s = _
  simp only [execPcieCompletionReceive, settled, ok, free, held, Bool.false_eq_true, if_false]

variable (r : PcieTag) (out : Tab.find c.tag s.pcie.tags = some r)
include out

theorem exec_pcieCompletionReceive_of_other_function (other : c.fn ≠ r.rd.fn) :
    exec (.pcieCompletionReceive c) s = .next (s.aerReport (c.fn % 34) aerUnexpected).settle := by
  show execPcieCompletionReceive c s = _
  simp [execPcieCompletionReceive, settled, ok, out, other]

variable (own : c.fn = r.rd.fn)
include own

theorem exec_pcieCompletionReceive_of_failed_status (failed : c.status ≠ 0) :
    exec (.pcieCompletionReceive c) s = .next ((s.freeRead c.tag r.rd).readFails r.rd).settle := by
  show execPcieCompletionReceive c s = _
  simp [execPcieCompletionReceive, settled, ok, out, own, failed]

variable (success : c.status = 0)
include success

theorem exec_pcieCompletionReceive_of_poisoned (ep : c.poisoned = true) :
    exec (.pcieCompletionReceive c) s =
      .next ((((s.count Reg.PCIE_CNT_POISONED_RX).aerReport c.fn aerPoisoned).freeRead c.tag r.rd).readFails r.rd).settle := by
  show execPcieCompletionReceive c s = _
  simp [execPcieCompletionReceive, settled, ok, out, own, success, ep]

variable (clean : c.poisoned = false)
include clean

/-- A wrong address or byte count (R498); the read stays outstanding. -/
theorem exec_pcieCompletionReceive_of_unexpected (wrong : r.expects c = false) :
    exec (.pcieCompletionReceive c) s = .next (s.aerReport (c.fn % 34) aerUnexpected).settle := by
  show execPcieCompletionReceive c s = _
  simp [execPcieCompletionReceive, settled, ok, out, own, success, clean, wrong]

variable (right : r.expects c = true) (q : PcieTag)
  (hq : q = { r with left := r.left - c.data.length, data := r.data ++ c.data })
include right hq

/-- A part that the read expects: its consumer acts where nothing is left to come, and the read waits on otherwise. -/
theorem exec_pcieCompletionReceive_of_expected :
    exec (.pcieCompletionReceive c) s = .next (if q.left = 0 then (s.freeRead c.tag r.rd).readArrived q
      else { s with pcie := { s.pcie with tags := Tab.put c.tag q s.pcie.tags } }).settle := by
  subst hq
  show execPcieCompletionReceive c s = _
  simp [execPcieCompletionReceive, settled, ok, out, own, success, clean, right]

theorem exec_pcieCompletionReceive_of_last_part (done : q.left = 0) :
    exec (.pcieCompletionReceive c) s = .next ((s.freeRead c.tag r.rd).readArrived q).settle := by
  rw [exec_pcieCompletionReceive_of_expected c s ok r out own success clean right q hq, if_pos done]

theorem exec_pcieCompletionReceive_of_part (more : q.left ≠ 0) :
    exec (.pcieCompletionReceive c) s =
      .next ({ s with pcie := { s.pcie with tags := Tab.put c.tag q s.pcie.tags } } : State).settle := by
  rw [exec_pcieCompletionReceive_of_expected c s ok r out own success clean right q hq, if_neg more]

end

/-- Settles O56: each command's branches, taken one by one; a late completion by whether the log already holds one. -/
theorem expiredReadTagsAreQuarantined : Obligations.ExpiredReadTagsAreQuarantined := by
  refine ⟨fun tag s => ⟨?expiryOfFree, ?expiry, ?endOfFree, ?quarantineEnd⟩, ?late,
    fun c s => ⟨?malformed, ?unknownTag, ?outstanding⟩⟩
  case expiryOfFree => exact exec_pcieCompletionTimeout_of_not_outstanding tag s
  case expiry => exact fun r u => exec_pcieCompletionTimeout_of_outstanding tag r s u
  case endOfFree => exact exec_pcieTagQuarantineEnd_of_not_quarantined tag s
  case quarantineEnd => exact fun fn until_ u => exec_pcieTagQuarantineEnd_of_quarantined tag fn until_ s u
  case late =>
    rintro c fn until_ s _ ok free held rfl
    have late := exec_pcieCompletionReceive_of_quarantined c s ok fn until_ free held
    constructor
    · intro full
      rw [late, s.lateCpl_of_logged _ _ full]
    · intro empty
      rw [late, s.lateCpl_of_empty _ _ empty]
  case malformed => exact exec_pcieCompletionReceive_of_malformed c s
  case unknownTag => exact exec_pcieCompletionReceive_of_unknown_tag c s
  case outstanding =>
    intro r q ok out hq
    exact ⟨exec_pcieCompletionReceive_of_other_function c s ok r out,
      exec_pcieCompletionReceive_of_failed_status c s ok r out,
      exec_pcieCompletionReceive_of_poisoned c s ok r out,
      exec_pcieCompletionReceive_of_unexpected c s ok r out,
      fun own success clean right =>
        ⟨exec_pcieCompletionReceive_of_last_part c s ok r out own success clean right q hq,
          exec_pcieCompletionReceive_of_part c s ok r out own success clean right q hq⟩⟩

end Sys2Proof.Machine
end

/-! ## Mailboxes after a reset (R518) -/

section
namespace Sys2Proof.Machine

/-! ### Registers: a field that a reset does not keep -/

theorem Tab.find_filter_of_dropped {α : Type} (p : Nat × α → Bool) (k : Nat) (t : Tab α) (dropped : ∀ a, p (k, a) = false) :
    Tab.find k (t.filter p) = none := by
  induction t with
  | nil => rfl
  | cons e t ih =>
    obtain ⟨j, a⟩ := e
    by_cases hj : j = k
    · subst hj
      rw [List.filter_cons_of_neg (by simp [dropped]), ih]
    · rw [List.filter_cons]
      split <;> simp [Tab.find, hj, ih]

/-- A field that a reset does not keep reads its table's value after it. -/
theorem State.field_resetRegs_of_not_kept (s : State) (k : ResetKind) (keepImg : Bool) (f : Field)
    (listed : fieldOfKey f.key = some f) (lost : keepField k keepImg f = false) :
    (s.resetRegs k keepImg).field f = BitVec.ofNat 32 f.reset := by
  unfold State.field State.resetRegs Tab.getD
  rw [Tab.find_filter_of_dropped _ _ _ fun _ => by simp only [listed, lost], Option.getD_none]

/-- No mailbox shows as owned by the controller once a warm reset has returned the registers. -/
theorem State.rd_mboxOwn_resetRegs_warm (s : State) : (s.resetRegs .warm false).rd Reg.SEQ_MBOX_OWN = 0 := by
  have listed : fieldOfKey Reg.SEQ_MBOX_OWN.key = some Reg.SEQ_MBOX_OWN := by decide
  unfold State.rd
  rw [s.field_resetRegs_of_not_kept .warm false _ listed rfl]
  rfl

/-! ### BAR2: one mailbox given back, then all of them -/

/-- One mailbox given back: OWNER 0 and STATUS ABORTED. -/
def abortMbox (bar2 : Memory) (m : Nat) : Memory := (bar2.set (mboxBase m) 0).set (mboxBase m + 0x10) 3

/-- The mailboxes that the controller owns, as their OWNER bytes say. -/
def ownedMboxes (bar2 : Memory) : List Nat := (List.range 32).filter fun m => bar2.get (mboxBase m) != 0

theorem mem_ownedMboxes (b : Memory) (m : Nat) : m ∈ ownedMboxes b ↔ m < 32 ∧ b.get (mboxBase m) ≠ 0 := by
  simp [ownedMboxes]

theorem abortMboxes_eq_foldl (b : Memory) : abortMboxes b = (ownedMboxes b).foldl abortMbox b := rfl

theorem get_abortMbox (b : Memory) (m a : Nat) :
    (abortMbox b m).get a = if a = mboxBase m + 0x10 then 3 else if a = mboxBase m then 0 else b.get a := by
  rw [abortMbox, Memory.get_set, Memory.get_set]

theorem mboxBase_inj (m n : Nat) : mboxBase m = mboxBase n ↔ m = n := by
  unfold mboxBase; omega

/-- No mailbox's STATUS lies at a mailbox's OWNER: the mailboxes are 1 MiB apart (R515). -/
theorem mboxBase_ne_status (m n : Nat) : mboxBase m ≠ mboxBase n + 0x10 := by
  unfold mboxBase; omega

theorem get_abortMbox_owner (b : Memory) (m n : Nat) :
    (abortMbox b n).get (mboxBase m) = if m = n then 0 else b.get (mboxBase m) := by
  rw [get_abortMbox, if_neg (mboxBase_ne_status m n)]
  simp only [mboxBase_inj]

theorem get_abortMbox_status (b : Memory) (m n : Nat) :
    (abortMbox b n).get (mboxBase m + 0x10) = if m = n then 3 else b.get (mboxBase m + 0x10) := by
  rw [get_abortMbox, if_neg (mboxBase_ne_status n m).symm]
  simp only [Nat.add_right_cancel_iff, mboxBase_inj]

/-- A byte that is neither OWNER nor STATUS of a mailbox the controller owns stays as it is. -/
theorem get_abortMboxes_of_untouched (b : Memory) (a : Nat)
    (apart : ∀ m ∈ ownedMboxes b, a ≠ mboxBase m ∧ a ≠ mboxBase m + 0x10) : (abortMboxes b).get a = b.get a := by
  rw [abortMboxes_eq_foldl]
  refine List.foldlRecOn (motive := fun u : Memory => u.get a = b.get a) _ _ rfl fun u kept m owned => ?_
  obtain ⟨notOwner, notStatus⟩ := apart m owned
  rw [get_abortMbox, if_neg notStatus, if_neg notOwner, kept]

theorem get_abortMboxes_owner (b : Memory) (m : Nat) (hm : m < 32) : (abortMboxes b).get (mboxBase m) = 0 := by
  have kept (u : Memory) (n : Nat) (free : u.get (mboxBase m) = 0) : (abortMbox u n).get (mboxBase m) = 0 := by
    rw [get_abortMbox_owner, free, ite_self]
  rw [abortMboxes_eq_foldl]
  by_cases free : b.get (mboxBase m) = 0
  · exact foldl_keeps _ _ kept _ _ free
  · exact foldl_brings (fun u : Memory => u.get (mboxBase m) = 0) _ m (fun u => by rw [get_abortMbox_owner, if_pos rfl]) kept _ _
      ((mem_ownedMboxes b m).2 ⟨hm, free⟩)

theorem get_abortMboxes_status_of_owned (b : Memory) (m : Nat) (owned : m ∈ ownedMboxes b) :
    (abortMboxes b).get (mboxBase m + 0x10) = 3 := by
  refine foldl_brings (fun u : Memory => u.get (mboxBase m + 0x10) = 3) abortMbox m (fun u => ?brought) (fun u n aborted => ?kept) _ b owned
  case brought => rw [get_abortMbox_status, if_pos rfl]
  case kept => rw [get_abortMbox_status, aborted, ite_self]

theorem get_abortMboxes_status_of_not_owned (b : Memory) (m : Nat) (free : b.get (mboxBase m) = 0) :
    (abortMboxes b).get (mboxBase m + 0x10) = b.get (mboxBase m + 0x10) := by
  refine get_abortMboxes_of_untouched b _ fun n owned => ⟨(mboxBase_ne_status n m).symm, fun same => ?_⟩
  rw [Nat.add_right_cancel_iff, mboxBase_inj] at same
  subst same
  exact ((mem_ownedMboxes b m).1 owned).2 free

/-! ### The resets -/

theorem State.bar2_resetBlocks_warm (s : State) : (s.resetBlocks .warm).mem.bar2 = abortMboxes s.mem.bar2 := rfl

/-- Every reset but a warm one leaves no memory but MRAM (Table 3.5). -/
theorem State.mem_resetBlocks_of_not_warm (s : State) (k : ResetKind) (full : k ≠ .warm) :
    (s.resetBlocks k).mem = { mram := s.mem.mram } := by
  have cold : k.isWarm = false := by simpa [ResetKind.isWarm] using full
  simp only [State.resetBlocks, cold, Bool.false_eq_true, if_false]

/-- SEQ at its reset: the mailboxes given back and no mailbox waiting or under way. -/
def State.mboxesBack (s : State) : State := { s with mem := { s.mem with bar2 := abortMboxes s.mem.bar2 }, seq := {} }

theorem State.resetInside_seq (s : State) : s.resetInside .seq = s.mboxesBack.loseCmds fun c => c.path.isMailbox := rfl

/-- Settles O58: the OWNER and STATUS bytes of the mailboxes all lie apart, so that giving back one mailbox after another undoes none and touches
no other byte. -/
theorem resetsGiveMailboxesBack : Obligations.ResetsGiveMailboxesBack := by
  refine ⟨fun s => ?warm, fun s => ?seq, fun b m hm => ?mailbox, fun b a apart => ?frame, fun k s full => ?full⟩
  case warm => exact ⟨s.bar2_resetBlocks_warm, s.rd_mboxOwn_resetRegs_warm⟩
  case seq => exact ⟨s.mboxesBack, s.resetInside_seq, rfl, rfl, rfl⟩
  case mailbox =>
    exact ⟨get_abortMboxes_owner b m hm,
      fun owned => get_abortMboxes_status_of_owned b m ((mem_ownedMboxes b m).2 ⟨hm, owned⟩),
      get_abortMboxes_status_of_not_owned b m⟩
  case frame =>
    exact get_abortMboxes_of_untouched b a fun m owned => apart m ((mem_ownedMboxes b m).1 owned).1
  case full =>
    rw [s.mem_resetBlocks_of_not_warm k full]
    exact ⟨rfl, rfl⟩

end Sys2Proof.Machine
end

/-! ## The queue, the counts shown, reset -/

section
namespace Sys2Proof.Machine

/-! ### The counts shown -/

theorem State.rc_showing (s : State) (f : Field) (v : Nat) : (s.showing f v).rc = s.rc := by
  rcases s.showing_eq f v with e | e <;> rw [e]
  rfl

theorem State.openQps_of_rc {s t : State} (h : t.rc = s.rc) : t.openQps = s.openQps := by
  rw [State.openQps, h, State.openQps]

theorem State.occupiedSlots_of_parts {s t : State} (ftl : t.ftl = s.ftl) (sump : t.sump = s.sump) :
    t.occupiedSlots = s.occupiedSlots := by
  rw [State.occupiedSlots, State.heldSlots, ftl, sump, State.occupiedSlots, State.heldSlots]

theorem State.rd_settle_qpOpen (s : State) : s.settle.rd Reg.WELL_RC_STATUS_QP_OPEN = s.openQps % 2 ^ 17 := by
  have shown := s.rd_showing_same Reg.WELL_RC_STATUS_QP_OPEN s.openQps (by decide)
  unfold State.settle
  simp only
  split
  · rw [State.rd_showing_ne _ _ _ _ (by decide), shown]; rfl
  · rw [shown]; rfl

theorem State.rd_settle_occupied (s : State) (serves : s.serving = true) :
    s.settle.rd Reg.SUMP_OCC_OCCUPIED = s.occupiedSlots % 2 ^ 23 := by
  have keeps : (s.showing Reg.WELL_RC_STATUS_QP_OPEN s.openQps).serving = true := by
    rw [State.serving, State.st, State.rd_showing_ne _ _ _ _ (by decide)]
    exact serves
  have same : (s.showing Reg.WELL_RC_STATUS_QP_OPEN s.openQps).occupiedSlots = s.occupiedSlots := by
    rcases s.showing_eq Reg.WELL_RC_STATUS_QP_OPEN s.openQps with e | e <;> rw [e]
    rfl
  unfold State.settle
  simp only [keeps, if_true]
  rw [State.rd_showing_same _ _ _ (by decide), same]
  rfl

/-- The end of a command brings both shown counts up to date. -/
theorem State.countsShown_settle (s : State) : s.settle.countsShown := by
  constructor
  · rw [s.rd_settle_qpOpen, State.openQps_of_rc s.settle_rc]
  · intro serves
    have serves : s.serving = true := by rwa [State.serving, State.st_settle] at serves
    rw [s.rd_settle_occupied serves, State.occupiedSlots_of_parts s.settle_ftl s.settle_sump]

theorem exec_countsShown (c : Instr) (s : State) : ∃ t : State, exec c s = .next t ∧ t.countsShown := by
  obtain ⟨t, ends⟩ := exec_settled c s
  exact ⟨t.settle, ends, t.countsShown_settle⟩

/-! ### The queue -/

theorem step_of_front {s : State} {c : Instr} {rest : List Instr} (front : s.pending = c :: rest) :
    step s = exec c (s.withPending rest) := by
  unfold step; rw [front]

theorem step_of_empty {s : State} (empty : s.pending = []) : step s = .next s := by
  unfold step; rw [empty]

/-- Settles O1, by the two cases of the queue. -/
theorem stepRunsTheFrontCommand : Obligations.StepRunsTheFrontCommand :=
  ⟨fun _ _ _ => step_of_front, fun _ => step_of_empty⟩

/-- Settles O4: every command ends in `settle`. -/
theorem everyCommandAnswers : Obligations.EveryCommandAnswers := exec_countsShown

/-- Settles O2: an empty queue keeps the state and its counts; a command ends by bringing them up to date, whatever they showed before. -/
theorem stepKeepsShownCounts : Obligations.StepKeepsShownCounts := by
  intro s t shown next
  cases queue : s.pending with
  | nil =>
    rw [step_of_empty queue] at next
    cases next
    exact shown
  | cons c rest =>
    obtain ⟨u, ends, counts⟩ := exec_countsShown c (s.withPending rest)
    rw [step_of_front queue, ends] at next
    cases next
    exact counts

/-! ### Reset -/

theorem State.field_reset (f : Field) : State.reset.field f = BitVec.ofNat 32 f.reset := rfl

/-- Settles O3: no queue pair is open and no slot occupied. -/
theorem resetShowsCounts : Obligations.ResetShowsCounts := ⟨rfl, fun _ => rfl⟩

/-- Settles O5: no table of the register file lists an entry. -/
theorem resetLeavesRegistersAtTheirTableValues : Obligations.ResetLeavesRegistersAtTheirTableValues := by
  refine ⟨State.field_reset, fun _ => ⟨rfl, rfl⟩, fun f => ?shadow, rfl, rfl, rfl⟩
  case shadow =>
    show Tab.getD f.key (State.reset.field f) [] = State.reset.field f
    rfl

end Sys2Proof.Machine
end

/-! ## Plain BAR0 accesses (chapters 0 and 22) -/

section
namespace Sys2Proof.Machine

/-! ### A whole word written -/

theorem State.writeWord_of_unallocated (s : State) (off : Nat) (value : W32) (h : blockAt off = none) : s.writeWord off value = s := by
  simp only [State.writeWord, h]

theorem State.writeWord_of_ones (s : State) (off : Nat) (value : W32) (b : Block) (h : blockAt off = some b) (d : s.decodeOf b = .ones) :
    s.writeWord off value = s := by
  simp only [State.writeWord, h, d]

theorem State.writeWord_of_undecoded (s : State) (off : Nat) (value : W32) (b : Block) (h : blockAt off = some b)
    (d : s.decodeOf b = .none) : s.writeWord off value = s.unsupportedReq 0 := by
  simp only [State.writeWord, h, d]

theorem State.writeWord_of_decoded (s : State) (off : Nat) (value : W32) (b : Block) (h : blockAt off = some b) (d : s.decodeOf b = .all) :
    s.writeWord off value = (s.accessWake b off).wrDecoded b off value := by
  simp only [State.writeWord, h, d]

/-- The namespace registers lie outside the MSI-X table. -/
theorem not_msix_of_nsRegister {off : Nat} (h : nsRegister off = true) : ¬ (0x600000 ≤ off ∧ off < 0x608000) := by
  have := of_decide_eq_true h
  omega

theorem State.wrDecoded_of_left_alone (u : State) (b : Block) (off : Nat) (value : W32)
    (h : (u.is (fResetting b) = true ∧ off / 0x20 ≠ commonBase b / 0x20) ∨ u.absentNode off = true) : u.wrDecoded b off value = u := by
  unfold State.wrDecoded
  rcases h with ⟨resetting, outside⟩ | absent
  · simp [resetting, outside]
  · simp [absent]

section
variable (u : State) (b : Block) (off : Nat) (value : W32) (out : u.is (fResetting b) = false) (there : u.absentNode off = false)
include out there

theorem State.wrDecoded_of_msix (h : 0x600000 ≤ off ∧ off < 0x608000) : u.wrDecoded b off value = u.wrMsixTable off value := by
  simp [State.wrDecoded, out, there, h]

theorem State.wrDecoded_of_ns_full (h : nsRegister off = true) (full : u.auditFull = true) :
    u.wrDecoded b off value = u.setErr .cry 9 := by
  simp [State.wrDecoded, out, there, not_msix_of_nsRegister h, h, full]

theorem State.wrDecoded_of_ns (h : nsRegister off = true) (room : u.auditFull = false) :
    u.wrDecoded b off value = (u.wrFields b off value).audited off value false := by
  simp [State.wrDecoded, out, there, not_msix_of_nsRegister h, h, room]

theorem State.wrDecoded_of_plain (h : ¬ (0x600000 ≤ off ∧ off < 0x608000)) (other : nsRegister off = false) :
    u.wrDecoded b off value = u.wrFields b off value := by
  simp [State.wrDecoded, out, there, h, other]

end

/-- Settles O6: a write is what `State.writeWord` makes of it, by the way its block is decoded and then by the kind of word. -/
theorem registerWriteAppliesEveryFieldOfTheWord : Obligations.RegisterWriteAppliesEveryFieldOfTheWord := by
  intro off value s

  refine ⟨fun h => ?outside, fun b h d => ?ones, fun b h d => ?undecoded, fun b u h d hu => ?decoded⟩
  case outside => show settled _ = _; rw [s.writeWord_of_unallocated off value h]; rfl
  case ones => show settled _ = _; rw [s.writeWord_of_ones off value b h d]; rfl
  case undecoded => show settled _ = _; rw [s.writeWord_of_undecoded off value b h d]; rfl
  case decoded =>
    subst hu
    have write : exec (.registerWrite off value) s = .next ((s.accessWake b off).wrDecoded b off value).settle := by
      show settled _ = _; rw [s.writeWord_of_decoded off value b h d]; rfl
    rw [write]
    refine ⟨fun alone => ?alone, fun out there => ⟨fun lo hi => ?msix, fun ns full => ?full, fun ns room => ?ns, fun no other => ?plain⟩⟩
    case alone => rw [State.wrDecoded_of_left_alone _ _ _ _ alone]
    case msix => rw [State.wrDecoded_of_msix _ _ _ _ out there ⟨lo, hi⟩]
    case full => rw [State.wrDecoded_of_ns_full _ _ _ _ out there ns full]
    case ns => rw [State.wrDecoded_of_ns _ _ _ _ out there ns room]; rfl
    case plain => rw [State.wrDecoded_of_plain _ _ _ _ out there no other]; rfl

/-! ### One field of a written word -/

/-- The bits of a written word that a field takes. -/
def Field.bits (f : Field) (value : W32) : Nat := value.toNat / 2 ^ f.lo % 2 ^ f.width

theorem clip_bits (f : Field) (value : W32) : clip f (f.bits value) = BitVec.ofNat 32 (f.bits value) := by
  rw [clip, Field.bits, Nat.mod_mod]

section
variable (b : Block) (value : W32) (f : Field) (s : State) (free : hasOwnRow f = false)
include free

theorem State.wrField_of_kept (h : f.acc = .ro ∨ f.acc = .img ∨ f.acc = .rc ∨ f.acc = .wo ∨ f.acc = .w1s) : s.wrField b value f = s := by
  rcases h with h | h | h | h | h <;> simp [State.wrField, free, h]

theorem State.wrField_of_w1c (h : f.acc = .w1c) : s.wrField b value f = s.wr f (s.rd f - (s.rd f &&& f.bits value)) := by
  simp [State.wrField, free, h, Field.bits]

variable (acc : f.acc = .rw ∨ f.acc = .rws)
include acc

theorem State.wrField_of_static (h : f.cls = .static) : s.wrField b value f = s := by
  rcases acc with acc | acc <;> simp [State.wrField, free, acc, h]

theorem State.wrField_of_running (h : f.cls = .quiescent) (runs : s.stopped b = false) :
    s.wrField b value f = s.setErr b 0 := by
  rcases acc with acc | acc <;> simp [State.wrField, free, acc, h, runs]

theorem State.wrField_of_stopped (h : f.cls = .quiescent) (stopped : s.stopped b = true) :
    s.wrField b value f = s.wrPaired f (f.bits value) fun s f v => s.wr f v := by
  rcases acc with acc | acc <;> simp [State.wrField, free, acc, h, stopped, Field.bits]

theorem State.wrField_of_live (h : f.cls = .live) : s.wrField b value f = s.wrPaired f (f.bits value) State.wrLive := by
  rcases acc with acc | acc <;> simp [State.wrField, free, acc, h, Field.bits]

end

theorem State.wrPaired_of_single (s : State) (f : Field) (v : Nat) (put : State → Field → Nat → State) (hi : highOf f = none)
    (lo : lowOf f = none) : s.wrPaired f v put = put s f v := by
  simp [State.wrPaired, hi, lo]

theorem State.wrPaired_of_low (s : State) (f h : Field) (v : Nat) (put : State → Field → Nat → State) (hi : highOf f = some h) :
    s.wrPaired f v put = { s with regs := { s.regs with writeLatch := Tab.put f.off (BitVec.ofNat 32 v) s.regs.writeLatch } } := by
  simp [State.wrPaired, hi]

theorem State.wrPaired_of_high (s : State) (f l : Field) (v : Nat) (w : W32) (put : State → Field → Nat → State) (hi : highOf f = none)
    (lo : lowOf f = some l) (waits : Tab.find l.off s.regs.writeLatch = some w) : s.wrPaired f v put =
      put (put { s with regs := { s.regs with writeLatch := Tab.del l.off s.regs.writeLatch } } l w.toNat) f v := by
  simp [State.wrPaired, hi, lo, waits]

theorem State.wrLive_of_locked (s : State) (f : Field) (v : Nat) (shadowed : f.shadowed = true)
    (locked : s.is Reg.GLB_COMMIT_STATUS_LOCKED = true) : s.wrLive f v = s.setErr .glb 9 := by
  simp [State.wrLive, shadowed, locked]

theorem State.wrLive_of_shadowed (s : State) (f : Field) (v : Nat) (shadowed : f.shadowed = true)
    (open_ : s.is Reg.GLB_COMMIT_STATUS_LOCKED = false) : s.wrLive f v = s.wrShadow f v := by
  simp [State.wrLive, shadowed, open_]

theorem State.wrLive_of_direct (s : State) (f : Field) (v : Nat) (direct : f.shadowed = false) : s.wrLive f v = s.wrDirect f v := by
  simp [State.wrLive, direct]

/-- The registers whose rules add to the general one aside, a field written directly takes the value. -/
theorem State.wrDirect_of_plain (s : State) (f : Field) (v : Nat) (launch : launchAt f.off = none) (empty : f.off ≠ 0x400400)
    (lo : f.off ≠ Reg.CRY_LA_RING_LO.off) (hi : f.off ≠ Reg.CRY_LA_RING_HI.off) (size : f.off ≠ Reg.CRY_LA_RING_SIZE.off)
    (range : rangeKept f = false) (acc : f.acc = .rw) : s.wrDirect f v = s.wr f v := by
  simp [State.wrDirect, launch, empty, lo, hi, size, range, acc]

theorem State.shadowOf_wrShadow_same (s : State) (f : Field) (v : Nat) : (s.wrShadow f v).shadowOf f = clip f v := by
  rw [State.shadowOf, State.wrShadow, Tab.getD_put, if_pos rfl]

/-- Settles O7, by access code and class. -/
theorem fieldWriteFollowsAccessAndClass : Obligations.FieldWriteFollowsAccessAndClass := by
  intro b value f s free hi lo _
  have single (put : State → Field → Nat → State) := s.wrPaired_of_single f (f.bits value) put hi lo
  refine ⟨s.wrField_of_kept b value f free, s.wrField_of_static b value f free, s.wrField_of_running b value f free,
    fun acc cls stopped => ?quiescent, fun acc cls shadowed locked => ?locked, fun acc cls shadowed open_ => ?shadow,
    fun acc cls direct launch empty ringLo ringHi size range rw_ => ?direct, s.wrField_of_w1c b value f free⟩
  case quiescent => rw [s.wrField_of_stopped b value f free acc cls stopped, single]; rfl
  case locked => rw [s.wrField_of_live b value f free acc cls, single, s.wrLive_of_locked f _ shadowed locked]; rfl
  case shadow =>
    rw [s.wrField_of_live b value f free acc cls, single, s.wrLive_of_shadowed f _ shadowed open_]
    exact ⟨by rw [State.shadowOf_wrShadow_same, clip_bits]; rfl, fun _ => rfl⟩
  case direct =>
    rw [s.wrField_of_live b value f free acc cls, single, s.wrLive_of_direct f _ direct,
      s.wrDirect_of_plain f _ launch empty ringLo ringHi size range rw_]
    rfl

/-! ### Reads -/

theorem State.accessWake_eq (s : State) (b : Block) (off : Nat) :
    s.accessWake b off = s ∨ s.accessWake b off = s.wr Reg.PWR_WAKE_CAUSE 7 := by
  unfold State.accessWake
  split
  · exact .inl rfl
  · split
    · exact .inl rfl
    · split
      · exact .inl rfl
      · exact .inr rfl

theorem State.out_accessWake (s : State) (b : Block) (off : Nat) : (s.accessWake b off).out = s.out := by
  rcases s.accessWake_eq b off with e | e <;> rw [e]
  rfl

theorem State.decodes_eq_true {s : State} {off : Nat} (h : s.decodes off = true) :
    ∃ b : Block, blockAt off = some b ∧ s.decodeOf b = .all := by
  unfold State.decodes at h
  split at h
  · cases h
  · next b at_ => exact ⟨b, at_, eq_of_beq h⟩

theorem State.decodes_of_decoded {s : State} {off : Nat} {b : Block} (at_ : blockAt off = some b) (d : s.decodeOf b = .all) :
    s.decodes off = true := by
  simp [State.decodes, at_, d]

theorem State.readWord_of_decoded {s : State} {off : Nat} {b : Block} (at_ : blockAt off = some b) (d : s.decodeOf b = .all) :
    s.readWord off = some ((Tab.find off s.regs.readLatch).getD (s.word off)) := by
  simp only [State.readWord, at_, d]

/-- A read of a decoded block answers the addressed bytes. -/
theorem State.out_answerRead {s : State} {off n : Nat} {b : Block} (at_ : blockAt (regOf off) = some b) (d : s.decodeOf b = .all) :
    ∃ w : W32, s.readWord (regOf off) = some w ∧ (s.answerRead off n).out = .readData off n (addressed off n w) :: s.out := by
  have read := State.readWord_of_decoded at_ d
  refine ⟨_, read, ?_⟩
  simp only [State.answerRead, read, at_, Option.elim_some]
  show _ :: (s.accessWake b _).out = _
  rw [s.out_accessWake]

/-! ### 64-bit values (R12) -/

theorem exec_lowWordRead_of_low (off n : Nat) (s : State) (d : s.decodes (regOf off) = true) (low : isLowWord (behind (regOf off)) = true) :
    exec (.lowWordRead off n) s = .next ({ s.answerRead off n with regs := { (s.answerRead off n).regs with
      readLatch := Tab.put (regOf off + 4) (s.word (regOf off + 4)) (s.answerRead off n).regs.readLatch } } : State).settle := by
  show execLowWordRead off n s = _
  simp [execLowWordRead, settled, d, low]

theorem exec_lowWordRead_of_other (off n : Nat) (s : State)
    (h : s.decodes (regOf off) = false ∨ isLowWord (behind (regOf off)) = false) :
    exec (.lowWordRead off n) s = .next (s.answerRead off n).settle := by
  show execLowWordRead off n s = _
  rcases h with h | h <;> simp [execLowWordRead, settled, h]

/-- A low word and its high word, both written by software without a rule of their own, and the latch between them. -/
def plainPair (l h : Field) : Prop :=
  hasOwnRow l = false ∧ hasOwnRow h = false ∧ highOf l = some h ∧ highOf h = none ∧ lowOf h = some l ∧
  (∀ f ∈ [l, h], f.acc = .rw ∧ f.cls = .live ∧ f.shadowed = false ∧ f.width = 32 ∧ f.lo = 0 ∧ launchAt f.off = none ∧ f.off ≠ 0x400400 ∧
    f.off ≠ Reg.CRY_LA_RING_LO.off ∧ f.off ≠ Reg.CRY_LA_RING_HI.off ∧ f.off ≠ Reg.CRY_LA_RING_SIZE.off ∧ rangeKept f = false) ∧
  l.key ≠ h.key

/-- A low word written waits for its high word. -/
theorem State.wrField_low (s : State) (b : Block) (v : W32) (l h : Field) (free : hasOwnRow l = false) (acc : l.acc = .rw ∨ l.acc = .rws)
    (cls : l.cls = .live) (hi : highOf l = some h) : s.wrField b v l =
      { s with regs := { s.regs with writeLatch := Tab.put l.off (BitVec.ofNat 32 (l.bits v)) s.regs.writeLatch } } := by
  rw [s.wrField_of_live b v l free acc cls, s.wrPaired_of_low l h _ _ hi]

/-- The write of the high word applies both. -/
theorem State.wrField_high (s : State) (b : Block) (v w : W32) (l h : Field) (free : hasOwnRow h = false) (acc : h.acc = .rw ∨ h.acc = .rws)
    (cls : h.cls = .live) (hi : highOf h = none) (lo : lowOf h = some l) (waits : Tab.find l.off s.regs.writeLatch = some w) :
    s.wrField b v h = (({ s with regs := { s.regs with writeLatch := Tab.del l.off s.regs.writeLatch } } : State).wrLive l w.toNat).wrLive h
      (h.bits v) := by
  rw [s.wrField_of_live b v h free acc cls, s.wrPaired_of_high h l _ w _ hi lo waits]

theorem Field.bits_of_whole (f : Field) (v : W32) (lo : f.lo = 0) (width : f.width = 32) : f.bits v = v.toNat := by
  rw [Field.bits, lo, width, Nat.pow_zero, Nat.div_one, Nat.mod_eq_of_lt v.isLt]

theorem clip_whole (f : Field) (v : W32) (width : f.width = 32) : clip f v.toNat = v := by
  rw [clip, width, Nat.mod_eq_of_lt v.isLt, BitVec.ofNat_toNat, BitVec.setWidth_eq]

/-- Both words of such a value then hold what was written. -/
theorem State.field_wrField_pair (s : State) (b : Block) (v w : W32) (l h : Field) (plain : plainPair l h) :
    ((s.wrField b v l).wrField b w h).field l = v ∧ ((s.wrField b v l).wrField b w h).field h = w := by
  obtain ⟨freeL, freeH, hi, top, lo, rules, apart⟩ := plain
  obtain ⟨accL, clsL, shL, widthL, loL, laL, emL, l1, l2, l3, raL⟩ := rules l (by simp)
  obtain ⟨accH, clsH, shH, widthH, loH, laH, emH, h1, h2, h3, raH⟩ := rules h (by simp)
  have waits : Tab.find l.off (Tab.put l.off (BitVec.ofNat 32 (l.bits v)) s.regs.writeLatch) = some v := by
    rw [Tab.find_put, if_pos rfl, l.bits_of_whole v loL widthL, BitVec.ofNat_toNat, BitVec.setWidth_eq]
  rw [s.wrField_low b v l h freeL (.inl accL) clsL hi, State.wrField_high _ b w v l h freeH (.inl accH) clsH top lo waits,
    State.wrLive_of_direct _ l _ shL, State.wrDirect_of_plain _ l _ laL emL l1 l2 l3 raL accL,
    State.wrLive_of_direct _ h _ shH, State.wrDirect_of_plain _ h _ laH emH h1 h2 h3 raH accH, h.bits_of_whole w loH widthH]
  constructor
  · rw [State.field_wr_ne _ _ _ _ apart, State.field_wr_same, clip_whole l v widthL]
  · rw [State.field_wr_same, clip_whole h w widthH]

/-- Settles O8: the latch of a read and the waiting low word of a write, and for the seven values the rules of their registers, which add
nothing. -/
theorem sixtyFourBitValuesMoveWhole : Obligations.SixtyFourBitValuesMoveWhole := by
  refine ⟨fun off n s d low => ?read, exec_lowWordRead_of_other, fun b v l h s free acc cls hi => ?low,
    fun b v w l h s => s.wrField_high b v w l h, fun b v w s p mem => ?both⟩
  case read =>
    obtain ⟨b, at_, all⟩ := State.decodes_eq_true d
    obtain ⟨w, read, out⟩ := State.out_answerRead (n := n) at_ all
    refine ⟨_, exec_lowWordRead_of_low off n s d low, ⟨w, read, ?_⟩, ?_, fun u latch decoded => ?_⟩
    · rw [State.settle_out]; exact out
    · rw [State.settle_regs_readLatch, Tab.find_put, if_pos rfl]
    · obtain ⟨c, at', all'⟩ := State.decodes_eq_true decoded
      rw [State.readWord_of_decoded at' all', latch, State.settle_regs_readLatch, Tab.find_put, if_pos rfl, Option.getD_some]
  case low =>
    rw [s.wrField_low b v l h free acc cls hi]
    exact ⟨fun _ => rfl, by rw [Tab.find_put, if_pos rfl]; rfl⟩
  case both =>
    refine s.field_wrField_pair b v w p.1 p.2 ?_
    revert p
    unfold plainPair
    decide

/-! ### Partial writes, and fields that a read clears -/

theorem exec_bar0PartialWrite_of_undecoded (off : Nat) (value : W32) (b : Block) (s : State) (at_ : blockAt off = some b)
    (d : s.decodeOf b = .none) : exec (.bar0PartialWrite off value) s = .next (s.unsupportedReq 0).settle := by
  show execBar0PartialWrite off value s = _
  simp only [execBar0PartialWrite, settled, at_, d]

theorem exec_bar0PartialWrite_of_other (off : Nat) (value : W32) (s : State) (h : ∀ b : Block, blockAt off = some b → s.decodeOf b ≠ .none) :
    exec (.bar0PartialWrite off value) s = .next (s.setErr .glb 8).settle := by
  show execBar0PartialWrite off value s = _
  unfold execBar0PartialWrite settled
  cases at_ : blockAt off with
  | none => rfl
  | some b =>
    cases d : s.decodeOf b with
    | all => simp only [d]
    | ones => simp only [d]
    | none => exact absurd d (h b at_)

theorem State.rd_clearRc (s : State) (off : Nat) (f : Field) (mem : f ∈ fieldsAt off) (rc : f.acc = .rc) : (s.clearRc off).rd f = 0 := by
  have cleared (u : State) (g : Field) (same : f.key = g.key) : (u.wr g 0).rd f = 0 := by
    rw [State.rd, State.field_wr, if_pos same, clip, Nat.zero_mod]; rfl
  refine foldl_brings (fun u : State => u.rd f = 0) _ f (fun u => ?brought) (fun u g zero => ?kept) _ s mem
  case brought =>
    rw [if_pos (by rw [rc]; rfl)]
    exact cleared u f rfl
  case kept =>
    split
    · by_cases same : f.key = g.key
      · exact cleared u g same
      · rw [State.rd_wr_ne _ _ _ _ same, zero]
    · exact zero

theorem State.out_clearRc (s : State) (off : Nat) : (s.clearRc off).out = s.out :=
  foldl_keeps (fun u : State => u.out = s.out) _ (fun u f kept => by
    show (if _ then _ else _ : State).out = _
    rw [State.ite_out, State.wr_out, ite_self, kept]) _ s rfl

/-- Settles O9: a partial write by the way its block is decoded; a read clears what the fold over the word's fields reaches. -/
theorem partialWritesAreDiscardedAndReadsClear : Obligations.PartialWritesAreDiscardedAndReadsClear := by
  refine ⟨fun off value s h => ?discarded, exec_bar0PartialWrite_of_undecoded, fun off n b s at_ d => ?read, fun off n s d => ?undecoded⟩
  case discarded =>
    refine ⟨_, exec_bar0PartialWrite_of_other off value s h, ?_, RegistersChange.wr_settle s _ _⟩
    rw [State.rd_settle _ _ (by decide) (by decide), State.setErr, State.rd_wr_same _ _ _ (by decide)]
    rfl
  case read =>
    obtain ⟨w, read, out⟩ := State.out_answerRead (n := n) at_ d
    have decodes := State.decodes_of_decoded at_ d
    cases resetting : s.is (fResetting b) with
    | true =>
      refine ⟨(s.answerRead off n).settle, ?_, ⟨w, read, by rw [State.settle_out, out]⟩, nofun⟩
      show execRcFieldRead off n s = _
      simp [execRcFieldRead, settled, at_, resetting]
    | false =>
      refine ⟨((s.answerRead off n).clearRc (regOf off)).settle, ?_, ⟨w, read, ?_⟩, fun _ f mem rc other => ?_⟩
      · show execRcFieldRead off n s = _
        simp [execRcFieldRead, settled, at_, decodes, resetting]
      · rw [State.settle_out, State.out_clearRc, out]
      · rw [State.rd_settle_of_not_shown _ _ other, State.rd_clearRc _ _ _ mem rc]
  case undecoded =>
    show execRcFieldRead off n s = _
    simp [execRcFieldRead, settled, d]

end Sys2Proof.Machine
end

/-! ## Resets (chapter 3) -/

section
namespace Sys2Proof.Machine

/-! ### What begins each reset -/

theorem exec_powerOn_of_rise (board : Board) (s : State) (h : s.prim.powered = false ∨ s.st = stAON) :
    exec (.powerOn board) s = .next (({ s with
      prim := { s.prim with powered := true }
      img := { s.img with nor := board.nor.getD s.img.nor, fuses := board.fuses.getD s.img.fuses }
      sump := { s.sump with pwrfailLow := false, inputLow := false } } : State).resetNow .powerOn).settle := by
  show execPowerOn board s = _
  rcases h with h | h <;> simp [execPowerOn, settled, h]

theorem exec_powerOn_of_powered (board : Board) (s : State) (powered : s.prim.powered = true) (past : s.st ≠ stAON) :
    exec (.powerOn board) s = .next s.settle := by
  show execPowerOn board s = _
  simp [execPowerOn, settled, powered, past]

/-- RESET_N falls: a reset unless something holds the controller in reset already. -/
theorem exec_resetNAsserted (s : State) : exec .resetNAsserted s =
    .next (if s.heldInReset then { s with prim := { s.prim with resetNLow := true } }
      else ({ s with prim := { s.prim with resetNLow := true } } : State).takeReset .resetN).settle := rfl

theorem exec_resetNSaveTimeout_of_saving (s : State) (cause : SaveCause) (since : Nat) (waits : s.prim.waiting = some .resetN)
    (saving : s.sump.save = some (cause, since)) : exec .resetNSaveTimeout s =
      .next (((s.atLeast (s.prim.resetNAt + 100 * ms)).saveFailed cause).resetSaved .resetN false).settle := by
  show execResetNSaveTimeout s = _
  simp only [execResetNSaveTimeout, settled, waits, saving]

theorem exec_resetNSaveTimeout_of_other (s : State) (h : s.prim.waiting ≠ some .resetN ∨ s.sump.save = none) :
    exec .resetNSaveTimeout s = .next s.settle := by
  show execResetNSaveTimeout s = _
  unfold execResetNSaveTimeout settled
  split
  · next waits saving => simp [waits, saving] at h
  · rfl

/-- A write of GLB_RESET: FULL takes a software full reset, WARM without FULL a warm one. -/
theorem exec_warmReset (value : W32) (s : State) : exec (.warmReset value) s =
    .next (if s.resetWrite value = false then s.writeWord offReset value
      else if value.toNat % 2 = 1 then (s.writeWord offReset value).takeReset .softFull
      else if value.toNat / 2 % 2 = 1 then (s.writeWord offReset value).takeReset .warm
      else s.writeWord offReset value).settle := by
  show execWarmReset value s = _
  simp [execWarmReset, settled]

theorem exec_softwareFullReset (value : W32) (s : State) : exec (.softwareFullReset value) s =
    .next (if s.resetWrite value = true ∧ value.toNat % 2 = 1 then (s.writeWord offReset value).takeReset .softFull
      else s.writeWord offReset value).settle := by
  show execSoftwareFullReset value s = _
  simp [execSoftwareFullReset, settled]

theorem exec_primingPwrfailRelease (s : State) : exec .primingPwrfailRelease s =
    .next (if !s.prim.pwrStop then s
      else ({ s with sump := { s.sump with pwrfailLow := false, inputLow := false } } : State).resetNow .softFull).settle := rfl

theorem exec_resetNRelease (s : State) : exec .resetNRelease s =
    .next (if !s.prim.resetNLow then s else ({ s with prim := { s.prim with resetNLow := false } } : State).leaveReset).settle := rfl

/-- With RESET_N high again, the input and the thermal trip alone hold the controller. -/
theorem State.leaveReset_of_released (s : State) : ({ s with prim := { s.prim with resetNLow := false } } : State).leaveReset =
    if s.prim.powered = false ∨ s.prim.tripHeld = true ∨ s.st ≠ stAON then { s with prim := { s.prim with resetNLow := false } }
    else ({ s with prim := { s.prim with resetNLow := false } } : State).enterState stAON := by
  have same : ({ s with prim := { s.prim with resetNLow := false } } : State).st = s.st := rfl
  unfold State.leaveReset State.heldInReset
  rw [same]
  by_cases h : s.prim.powered = false ∨ s.prim.tripHeld = true ∨ s.st ≠ stAON
  · rw [if_pos h, if_pos (by simpa [or_assoc] using h)]
  · rw [if_neg h, if_neg (by simpa [or_assoc] using h)]

/-- Settles O10, command by command. -/
theorem resetsBegin : Obligations.ResetsBegin := by
  refine ⟨fun board s => ⟨exec_powerOn_of_rise board s, exec_powerOn_of_powered board s⟩, fun s u hu => ?resetN,
    fun s => ⟨exec_resetNSaveTimeout_of_saving s, exec_resetNSaveTimeout_of_other s⟩, fun value s => ⟨fun key full => ?full,
      fun key warm => ?warm, fun no => ?noWarm, fun no => ?noFull⟩, fun s => ?pwrfail, fun s u hu => ?release⟩
  case resetN =>
    subst hu
    rw [exec_resetNAsserted]
    exact ⟨fun free => by rw [free]; rfl, fun held => by rw [held]; rfl⟩
  case full => rw [exec_softwareFullReset, exec_warmReset]; simp [key, full]
  case warm =>
    have notFull : value.toNat % 2 ≠ 1 := by omega
    have isWarm : value.toNat / 2 % 2 = 1 := by omega
    rw [exec_warmReset]; simp [key, notFull, isWarm]
  case noWarm =>
    rw [exec_warmReset]
    rcases no with key | none
    · simp [key]
    · have notFull : value.toNat % 2 ≠ 1 := by omega
      have notWarm : value.toNat / 2 % 2 ≠ 1 := by omega
      simp [notFull, notWarm]
  case noFull =>
    rw [exec_softwareFullReset]
    rcases no with key | even <;> simp [*]
  case pwrfail =>
    rw [exec_primingPwrfailRelease]
    exact ⟨fun stop => by rw [stop]; rfl, fun runs => by rw [runs]; rfl⟩
  case release =>
    subst hu
    rw [exec_resetNRelease, State.leaveReset_of_released]
    refine ⟨fun high => by rw [high]; rfl, fun low held => ?_, fun low powered cool aon => ?_⟩
    · simp [low, held]
    · simp [low, powered, cool, aon]

/-! ### What a reset keeps -/

theorem Tab.find_filter_of_kept {α : Type} (p : Nat × α → Bool) (k : Nat) (t : Tab α) (kept : ∀ a, p (k, a) = true) :
    Tab.find k (t.filter p) = Tab.find k t := by
  induction t with
  | nil => rfl
  | cons e t ih =>
    obtain ⟨j, a⟩ := e
    by_cases hj : j = k
    · subst hj
      rw [List.filter_cons_of_pos (kept a)]
      simp [Tab.find]
    · rw [List.filter_cons]
      split <;> simp [Tab.find, hj, ih]

theorem State.field_resetRegs_of_kept (s : State) (k : ResetKind) (keepImg : Bool) (f : Field) (listed : fieldOfKey f.key = some f)
    (kept : keepField k keepImg f = true) : (s.resetRegs k keepImg).field f = s.field f := by
  unfold State.field State.resetRegs Tab.getD
  rw [Tab.find_filter_of_kept _ _ _ fun _ => by simp only [listed, kept]]

theorem State.counter_resetRegs (s : State) (k : ResetKind) (keepImg : Bool) (c : Counter) :
    (s.resetRegs k keepImg).counter c = if k = .warm then s.counter c else 0 := by
  unfold State.counter State.resetRegs
  split <;> rfl

/-! ### What holds the controller in reset outlasts one -/

theorem State.wrBit_regs (s : State) (lo hi : Field) (n : Nat) (b : Bool) : ∃ r : Regs, s.wrBit lo hi n b = { s with regs := r } := by
  unfold State.wrBit
  simp only
  generalize (if n < 32 then lo else hi) = f
  split
  · exact ⟨_, rfl⟩
  · split <;> exact ⟨_, rfl⟩

/-- Driving a slot's pins changes the registers, the slots' side and the outbox alone. -/
theorem State.slotPins_parts (s : State) (n : Nat) (pg rst : Bool) :
    ∃ (r : Regs) (h : Shelf) (o : List Out), s.slotPins n pg rst = { s with regs := r, shelf := h, out := o } := by
  obtain ⟨r, e⟩ := (s.wrB (Reg.SLOT_STATUS_PG.at n) pg).wrBit_regs Reg.SLOT_PG_LO Reg.SLOT_PG_HI n pg
  unfold State.slotPins
  simp only [e]
  exact ⟨_, _, _, rfl⟩

theorem State.prim_foldl_slotPins (l : List Nat) (s : State) (pg rst : Bool) :
    (l.foldl (fun s n => s.slotPins n pg rst) s).prim = s.prim := by
  refine foldl_keeps (fun t : State => t.prim = s.prim) _ (fun t n kept => ?_) l s rfl
  obtain ⟨r, h, o, e⟩ := t.slotPins_parts n pg rst
  rw [e]; exact kept

theorem State.prim_foldl_wr {α : Type} (f : α → Field) (v : State → α → Nat) (l : List α) (s : State) :
    (l.foldl (fun s a => s.wr (f a) (v s a)) s).prim = s.prim :=
  foldl_keeps (fun t : State => t.prim = s.prim) (fun s a => s.wr (f a) (v s a)) (fun _ _ kept => kept) l s rfl

theorem State.prim_resetParents (s : State) : s.resetParents.prim = s.prim := by
  unfold State.resetParents
  split
  · rfl
  · simp only
    rw [State.prim_foldl_wr (fun t => Reg.QOS_T_CFG_PARENT.at t)]
    refine foldl_keeps (fun t : State => t.prim = s.prim) _ (fun t n kept => ?_) _ s rfl
    split
    · exact kept
    · exact kept

theorem State.prim_showParams (s : State) : s.showParams.prim = s.prim := by
  simp only [State.showParams, State.auditShow, State.wr_prim, State.wrB_prim, State.prim_resetParents]
  rw [State.prim_foldl_wr (fun k => Reg.MFD_PART_SIZE.at k) fun _ k => s.params.mfdPart.getD k 0]
  simp only [State.wr_prim]
  exact State.prim_foldl_wr (fun n => Reg.ETH_LINK_MODE.at n) (fun _ n => s.params.ethMode.getD n 0) _ s

theorem State.prim_ite {c : Prop} [Decidable c] {s t : State} {p : Prim} (hs : s.prim = p) (ht : t.prim = p) :
    (if c then s else t).prim = p := by
  rw [State.ite_prim, hs, ht, ite_self]

theorem State.prim_shown (s : State) : s.showIdentity.auditShow.showSaveLost.showHosts.prim = s.prim := rfl

/-- What holds the controller in reset is kept in `prim`. -/
theorem State.heldInReset_of_prim {s t : State} (h : t.prim = s.prim) : t.heldInReset = s.heldInReset := by
  rw [State.heldInReset, h, State.heldInReset]

/-- A reset lets go of nothing that holds the controller, and starts at its kind's state where nothing does. -/
theorem State.st_resetNow (s : State) (k : ResetKind) (keepImg : Bool) (free : s.heldInReset = false) :
    (s.resetNow k keepImg).st = k.startsAt := by
  have starts : k.startsAt % 16 = k.startsAt := by cases k <;> rfl
  unfold State.resetNow
  simp only
  rw [if_neg, State.st_enterState, starts]
  have saved (r : State) (hr : r.prim = s.prim) : ((r.resetRegs k keepImg).resetBlocks k).heldInReset = false :=
    (State.heldInReset_of_prim hr).trans free
  rw [Bool.not_eq_true]
  refine Eq.trans (State.heldInReset_of_prim ?_) (saved (if s.sump.save.isSome then s.wr Reg.SUMP_LAST_SAVE_RESULT 2 else s)
    (State.prim_ite rfl rfl))
  refine State.prim_ite ((State.wr_prim _ _ _).trans ((State.prim_showParams _).trans ?_)) ?_ <;>
    refine (State.prim_shown _).trans (State.prim_ite ((State.wr_prim _ _ _).trans ?_)
      ((State.prim_foldl_slotPins _ _ _ _).trans ((State.wr_prim _ _ _).trans ?_))) <;>
    exact State.prim_ite rfl (State.prim_ite rfl rfl)

/-- Settles O11: the register file after a reset is the one before it, cut to the fields kept. -/
theorem resetFollowsTheDomain : Obligations.ResetFollowsTheDomain := by
  intro k keepImg s
  refine ⟨fun f listed => ⟨s.field_resetRegs_of_kept k keepImg f listed, s.field_resetRegs_of_not_kept k keepImg f listed, ?shadow⟩,
    s.counter_resetRegs k keepImg, fun f sticky => ?sticky, fun f mram => ?mram, fun f powerOn => ?powerOn, s.st_resetNow k keepImg⟩
  case shadow => rfl
  case sticky => simp [keepField, sticky]
  case mram => simp [keepField, mram]
  case powerOn => simp [keepField, powerOn]

end Sys2Proof.Machine
end

/-! ## Priming (chapter 3) -/

section
namespace Sys2Proof.Machine

/-! ### From AON to MEM -/

/-- The fields that priming shows lie apart from what entering a state writes. -/
theorem State.rd_settle_enterState (s : State) (st : Nat) (f : Field) (q : f.key ≠ Reg.WELL_RC_STATUS_QP_OPEN.key)
    (o : f.key ≠ Reg.SUMP_OCC_OCCUPIED.key) (h1 : f.key ≠ Reg.GLB_PRIME_STATUS_STATE.key)
    (h2 : f.key ≠ Reg.GLB_PRIME_STATUS_FAIL_CAUSE.key) (h3 : ∀ n ≤ 7, f.key ≠ (Reg.GLB_PRIME_DUR.at n).key)
    (h4 : f.key ≠ (fEvtPend .glb).key) (h5 : ringKey f.key = false) : (s.enterState st).settle.rd f = s.rd f := by
  rw [State.rd_settle _ _ q o, State.rd_enterState _ _ _ _ h1 h2 h3 h4 h5]

section
variable (took : Nat) (s : State)

theorem exec_aonDone_of_idle (good : Bool) (mode : BitVec 2) (idle : s.primes stAON = false) :
    exec (.aonDone good mode took) s = .next s.settle := by
  show execAonDone good mode took s = _
  simp [execAonDone, settled, idle]

theorem exec_aonDone_of_bad (mode : BitVec 2) (primes : s.primes stAON = true) :
    exec (.aonDone false mode took) s = .next ((s.advance took).halt fcRegulator).settle := by
  show execAonDone false mode took s = _
  simp [execAonDone, settled, primes]

/-- AON done: the straps are shown and ROM is entered. -/
def State.aonEnds (s : State) (mode : BitVec 2) (took : Nat) : State :=
  ((((s.advance took).wr Reg.GLB_STRAP_BOOT_MODE mode.toNat).showIdentity).smart 112).enterState stROM

theorem exec_aonDone_of_good (mode : BitVec 2) (primes : s.primes stAON = true) :
    exec (.aonDone true mode took) s = .next (s.aonEnds mode took).settle := by
  show execAonDone true mode took s = _
  simp [execAonDone, settled, primes, State.aonEnds]

theorem State.rd_showIdentity (f : Field) (h : f.key ∉ [Reg.GLB_SERIAL_LO, Reg.GLB_SERIAL_HI, Reg.IMG_FUSE_STATUS_PROGRAMMED,
    Reg.IMG_FUSE_STATUS_REVOKED, Reg.IMG_FUSE_STATUS_PQ_SET].map Field.key) : s.showIdentity.rd f = s.rd f := by
  simp only [List.map_cons, List.map_nil, List.mem_cons, List.not_mem_nil, or_false, not_or] at h
  obtain ⟨lo, hi, programmed, revoked, pq⟩ := h
  unfold State.showIdentity
  rw [State.rd_wr_ne _ _ _ _ pq, State.rd_wr_ne _ _ _ _ revoked, State.rd_wr_ne _ _ _ _ programmed, State.rd_wr64_ne _ _ _ _ _ lo hi]

theorem State.bootMode_aonEnds (mode : BitVec 2) : (s.aonEnds mode took).settle.rd Reg.GLB_STRAP_BOOT_MODE = mode.toNat := by
  rw [State.aonEnds, State.rd_settle_enterState _ _ _ (by decide) (by decide) (by decide) (by decide) (by decide) (by decide) (by decide),
    State.rd_smart, State.rd_showIdentity _ _ (by decide), State.rd_wr_same _ _ _ (by decide)]
  exact Nat.mod_eq_of_lt mode.isLt

theorem exec_romImageCheck_of_idle (idle : s.primes stROM = false) : exec (.romImageCheck took) s = .next s.settle := by
  show execRomImageCheck took s = _
  simp [execRomImageCheck, settled, idle]

theorem exec_romImageCheck_of_recovery_strap (primes : s.primes stROM = true) (mode : s.rd Reg.GLB_STRAP_BOOT_MODE = 1) :
    exec (.romImageCheck took) s =
      .next (((s.advance took).showImage imgNone false false false false 0 0 noRecord).enterRecovery fcNone).settle := by
  show execRomImageCheck took s = _
  simp [execRomImageCheck, settled, primes, mode]

theorem exec_romImageCheck_of_choice (primes : s.primes stROM = true) (mode : s.rd Reg.GLB_STRAP_BOOT_MODE ≠ 1) (u : State) (found : Bool)
    (boot : (s.advance took).romBoot = (u, found)) : exec (.romImageCheck took) s =
      .next (if found = false then u.enterRecovery fcImage
        else if u.rd Reg.GLB_STRAP_BOOT_MODE = 2 ∧ u.img.fuses.debug = true then { u with prim := { u.prim with jtagStop := true } }
        else u.enterState stCLOCKS).settle := by
  show execRomImageCheck took s = _
  cases found <;> simp [execRomImageCheck, settled, primes, mode, boot]

theorem exec_clocksLocked_of_idle (locked : BitVec 20) (idle : s.primes stCLOCKS = false) :
    exec (.clocksLocked locked took) s = .next s.settle := by
  show execClocksLocked locked took s = _
  simp [execClocksLocked, settled, idle]

theorem exec_clocksLocked_of_fewer (locked : BitVec 20) (primes : s.primes stCLOCKS = true) (fewer : locked ≠ 0xFFFFF#20) :
    exec (.clocksLocked locked took) s = .next (((s.advance took).wr Reg.PWR_CLK_LOCK locked.toNat).halt fcClock).settle := by
  show execClocksLocked locked took s = _
  simp [execClocksLocked, settled, primes, fewer]

/-- All clock domains locked: MEM is entered and the clocks start. -/
def State.clocksEnd (s : State) (took : Nat) : State :=
  let t := (((s.advance took).wr Reg.PWR_CLK_LOCK 0xFFFFF).enterState stMEM).startClocks
  { t with prim := { t.prim with answering := true } }

theorem exec_clocksLocked_of_all (primes : s.primes stCLOCKS = true) :
    exec (.clocksLocked 0xFFFFF#20 took) s = .next (s.clocksEnd took).settle := by
  show execClocksLocked 0xFFFFF#20 took s = _
  simp [execClocksLocked, settled, primes, State.clocksEnd]

theorem exec_memInitDone_of_idle (m : MemInit) (idle : s.primes stMEM = false) : exec (.memInitDone m took) s = .next s.settle := by
  show execMemInitDone m took s = _
  simp [execMemInitDone, settled, idle]

/-- What the memory test found is shown. -/
def State.memShown (s : State) (m : MemInit) (took : Nat) : State :=
  let t := s.advance took
  let trained := m.trained.toNat &&& t.params.populated
  (((t.wr Reg.MEM_STATUS_TRAINED trained).wr Reg.MEM_STATUS_DISABLED (t.params.populated - trained)).wr Reg.MEM_STATUS_DEVICE_LOST
    (m.deviceLost.toNat &&& trained)).wr Reg.MEM_STATUS_CAPACITY m.capacityGiB

/-- The memory that a good test leaves: a warm reset keeps DRAM, a full start begins with it empty. -/
def State.memReady (s : State) (m : MemInit) : State :=
  if s.prim.warm then s.wr Reg.GLB_PRIME_STATUS_DRAM_INIT_DONE 1
  else { s with mem := { s.mem with dram := [], dramBytes := m.capacityGiB * 2 ^ 30 } }

theorem exec_memInitDone (m : MemInit) (primes : s.primes stMEM = true) : exec (.memInitDone m took) s =
    .next (if m.trained.toNat &&& s.params.populated = 0 ∨ m.capacityGiB < 128 then (s.memShown m took).halt fcDram
      else if m.mramAnswers = false then (s.memShown m took).halt fcMram
      else if s.prim.warm = false ∧ m.sramGood = false then (s.memShown m took).halt fcSram
      else ((s.memShown m took).memReady m).enterState stSTRUCT).settle := by
  have params : (s.advance took).params = s.params := rfl
  show execMemInitDone m took s = _
  simp [execMemInitDone, settled, primes, State.memShown, State.memReady, params]

/-- A halted start shows HALTED and its cause. -/
theorem State.halted_settle (cause : Nat) (h : cause < 256) :
    (s.halt cause).settle.st = stHALTED ∧ (s.halt cause).settle.rd Reg.GLB_PRIME_STATUS_FAIL_CAUSE = cause := by
  rw [State.st_settle, State.rd_settle _ _ (by decide) (by decide), State.st_halt, State.failCause_halt]
  exact ⟨rfl, Nat.mod_eq_of_lt h⟩

end

theorem State.mem_memReady (s : State) (m : MemInit) (took : Nat) :
    (s.prim.warm = false → ((s.memShown m took).memReady m).mem = { s.mem with dram := [], dramBytes := m.capacityGiB * 2 ^ 30 }) ∧
    (s.prim.warm = true → ((s.memShown m took).memReady m).mem = s.mem) := by
  have warm : (s.memShown m took).prim.warm = s.prim.warm := rfl
  unfold State.memReady
  rw [warm]
  exact ⟨fun full => by rw [full]; rfl, fun kept => by rw [kept]; rfl⟩

/-- Settles O12, completion by completion. -/
theorem primingUpToStruct : Obligations.PrimingUpToStruct := by
  refine ⟨fun good mode took s => exec_aonDone_of_idle took s good mode, fun mode took s primes => ⟨?aon, exec_aonDone_of_bad took s mode primes⟩,
    exec_romImageCheck_of_idle, fun took s primes mode => ?recovery, fun took s u found primes mode boot => ?choice,
    fun locked took s => exec_clocksLocked_of_idle took s locked, fun took s primes => ?clocks,
    fun locked took s => exec_clocksLocked_of_fewer took s locked, fun m took s => exec_memInitDone_of_idle took s m,
    fun m took s primes size answers sram trained => ?mem, fun m took s primes => ?memFails⟩
  case aon =>
    refine ⟨_, exec_aonDone_of_good took s mode primes, ?_, s.bootMode_aonEnds took mode, ?_⟩
    · rw [State.st_settle, State.aonEnds, State.st_enterState]; rfl
    · rw [State.settle_tm, State.aonEnds, State.enterState_tm]; rfl
  case recovery =>
    refine ⟨_, exec_romImageCheck_of_recovery_strap took s primes mode, ?_, ?_⟩
    · rw [State.settle_prim]; rfl
    · rw [State.settle_img]; rfl
  case choice =>
    have ends := exec_romImageCheck_of_choice took s primes mode u found boot
    refine ⟨fun none => ?_, fun some other => ?_, fun some jtag debug => ?_⟩
    · rw [ends, if_pos none]
    · rw [ends, if_neg (by simp [some]), if_neg (fun both => other.elim (fun mode => mode both.1) fun clear =>
        ne_true_of_eq_false clear both.2), State.st_settle, State.st_enterState]
      exact ⟨rfl, rfl⟩
    · rw [ends, if_neg (by simp [some]), if_pos ⟨jtag, debug⟩]
  case clocks =>
    refine ⟨_, exec_clocksLocked_of_all took s primes, ?_, ?_, ?_, ?_, ?_⟩
    · rw [State.st_settle]
      exact (State.st_enterState _ stMEM 0)
    · rw [State.settle_tm]; rfl
    · rw [State.settle_tm]; rfl
    · rw [State.settle_tm]
      show (State.enterState _ stMEM).tm.floor = _
      rw [State.enterState_tm]; rfl
    · rw [State.rd_settle _ _ (by decide) (by decide)]
      show (State.enterState _ stMEM).rd _ = _
      rw [State.rd_enterState _ _ _ _ (by decide) (by decide) (by decide) (by decide) (by decide), State.rd_wr_same _ _ _ (by decide)]
      rfl
  case mem =>
    have ready := exec_memInitDone took s m primes
    rw [if_neg (by omega), if_neg (by simp [answers]), if_neg (by rcases sram with h | h <;> simp [h])] at ready
    refine ⟨_, ready, ?_, fun full => ?_, fun warm => ?_⟩
    · rw [State.st_settle, State.st_enterState]; rfl
    · rw [State.settle_mem, State.enterState_mem, (s.mem_memReady m took).1 full]
      exact ⟨rfl, rfl⟩
    · rw [State.settle_mem, State.enterState_mem, (s.mem_memReady m took).2 warm]
      exact ⟨rfl, rfl⟩
  case memFails =>
    refine ⟨fun dram => ?_, fun trained size silent => ?_, fun trained size answers full bad => ?_⟩
    · have ends := exec_memInitDone took s m primes
      rw [if_pos dram] at ends
      exact ⟨_, ends, State.halted_settle _ fcDram (by decide)⟩
    · have ends := exec_memInitDone took s m primes
      rw [if_neg (by omega), if_pos silent] at ends
      exact ⟨_, ends, State.halted_settle _ fcMram (by decide)⟩
    · have ends := exec_memInitDone took s m primes
      rw [if_neg (by omega), if_neg (by simp [answers]), if_pos ⟨full, bad⟩] at ends
      exact ⟨_, ends, State.halted_settle _ fcSram (by decide)⟩

/-! ### From STRUCT to SERVE -/

section
variable (took : Nat) (s : State)

/-- What STRUCT applies POLICY to: after a warm reset only the fields which that reset did not keep. -/
theorem exec_structDone (seqPass : BitVec 16) (primes : s.primes stSTRUCT = true) (v u : State) (bad : Option Nat) (hv : v = s.advance took)
    (policy : v.applyPolicy (fun f => !v.prim.warm || !keepField .warm false f) v.policy = (u, bad)) : exec (.structDone seqPass took) s =
      .next (match bad with
        | some record => u.policyFails record
        | none => if seqPass ≠ 0xFFFF then u.halt fcSeq
          else if u.scheduleGood = false then (u.setErr .time 8).policyFails noRecord
          else ((startOrder (u.params.peerMode != 0)).foldl (fun (s : State) b => s.startBlock b) u).enterPrime).settle := by
  subst hv
  rw [State.prim_advance] at policy
  show execStructDone seqPass took s = _
  cases bad <;> simp [execStructDone, settled, primes, policy]

theorem exec_dramInitDone : exec .dramInitDone s =
    .next (if s.mem.dramBytes = 0 ∨ s.st < stSTRUCT ∨ s.st = stHALTED ∨ s.heldInReset = true then s
      else s.wr Reg.GLB_PRIME_STATUS_DRAM_INIT_DONE 1).settle := by
  show execDramInitDone s = _
  simp [execDramInitDone, settled, or_assoc]

theorem exec_primeDone (good : Bool) (facts : RecoverFacts) (primes : s.primes stPRIME = true) : exec (.primeDone good facts took) s =
    .next (if good = false then (s.advance took).halt fcSlot
      else if s.is Reg.GLB_PRIME_STATUS_DRAM_INIT_DONE = false ∨ s.shelf.groups ≠ [] ∨ slots48.all s.slotSettled = false then s
      else ((s.advance took).enterState stRECOVER).beginRecover facts).settle := by
  show execPrimeDone good facts took s = _
  simp [execPrimeDone, settled, primes, or_assoc]

theorem exec_recoverDone (primes : s.primes stRECOVER = true) (u v : State) (hu : u = s.advance took)
    (hv : v = if u.ftl.versions = [] ∧ u.ftl.asm = [] then u else (u.composeAll.assignAll).padStripes) : exec (.recoverDone took) s =
      .next (if v.placing then v else v.endRecover.afterRecover).settle := by
  subst hu hv
  show execRecoverDone took s = _
  simp [execRecoverDone, settled, primes]

theorem exec_joinTimeout (primes : s.primes stPOD = true) : exec .joinTimeout s =
    .next (if s.rd Reg.POD_STATUS_SERVE_SET ≠ 0 then s
      else (s.atLeast (s.prim.enteredAt + s.rd Reg.GLB_PRIME_CTL2_JOIN_TIMEOUT * 10 * ms)).enterServe).settle := by
  show execJoinTimeout s = _
  simp [execJoinTimeout, settled, primes]

theorem exec_podJoinDone (primes : s.primes stPOD = true) : exec (.podJoinDone took) s =
    .next (if (s.pod.heard.any fun e => e.2.hello.isSome) = false ∨ (s.rd Reg.POD_STATUS_SERVE_SET ≠ 0 ∧ s.pod.liveDone = false) ∨
        (s.partnerServes = true ∧ s.pod.pairKey = false) then s
      else (s.advance took).enterServe).settle := by
  show execPodJoinDone took s = _
  simp only [execPodJoinDone, settled, primes, Bool.not_true, Bool.false_or, Bool.or_eq_true, Bool.and_eq_true, Bool.not_eq_true',
    bne_iff_ne, or_assoc]

end

/-- Settles O13, completion by completion. -/
theorem primingFromStructToServe : Obligations.PrimingFromStructToServe := by
  refine ⟨fun seqPass facts good took s => ⟨fun idle => ?struct, fun idle => ?prime, fun idle => ?recover, fun idle => ⟨?timeout, ?join⟩⟩,
    fun seqPass took s v u bad primes hv policy => ?policy, fun s => ?dram, fun facts took s primes => ?primed,
    fun took s u primes hu => ?recovered, fun s primes => ?timedOut, fun took s primes => ?joined⟩
  case struct => show execStructDone seqPass took s = _; simp [execStructDone, settled, idle]
  case prime => show execPrimeDone good facts took s = _; simp [execPrimeDone, settled, idle]
  case recover => show execRecoverDone took s = _; simp [execRecoverDone, settled, idle]
  case timeout => show execJoinTimeout s = _; simp [execJoinTimeout, settled, idle]
  case join => show execPodJoinDone took s = _; simp [execPodJoinDone, settled, idle]
  case policy =>
    have ends (pass : BitVec 16) := exec_structDone took s pass primes v u bad hv policy
    refine ⟨fun record refused => ?_, fun fine fails => ?_, fun fine clash => ?_, fun fine good => ?_⟩
    · rw [ends, refused]
    · rw [ends, fine]; simp only [if_pos fails]
    · rw [ends, fine]; simp [clash]
    · rw [ends, fine]; simp [good]
  case dram =>
    rw [exec_dramInitDone]
    refine ⟨fun sized past running free => ?_, fun h => by rw [if_pos h]⟩
    rw [if_neg (by simp [sized, past, running, free])]
    refine ⟨_, rfl, ?_, RegistersChange.wr_settle _ _ _⟩
    rw [State.rd_settle _ _ (by decide) (by decide), State.rd_wr_same _ _ _ (by decide)]
    rfl
  case primed =>
    rw [exec_primeDone took s _ facts primes, exec_primeDone took s _ facts primes]
    refine ⟨fun done groups settled => ?_, fun waits => ?_, rfl⟩
    · rw [if_neg (by decide), if_neg (by simp [done, groups, settled])]
    · rw [if_neg (by decide), if_pos waits]
  case recovered =>
    refine ⟨fun none empty idle => ?_, fun none empty places => ?_, fun v left hv => ?_⟩
    · rw [exec_recoverDone took s primes u u hu (if_pos ⟨none, empty⟩).symm, idle]; rfl
    · rw [exec_recoverDone took s primes u u hu (if_pos ⟨none, empty⟩).symm, places]; rfl
    · refine exec_recoverDone took s primes u v hu ?_
      rw [if_neg (by rcases left with h | h <;> simp [h]), hv]
  case timedOut =>
    rw [exec_joinTimeout s primes]
    exact ⟨fun none => by rw [if_neg (Classical.not_not.2 none)], fun some => by rw [if_pos some]⟩
  case joined =>
    rw [exec_podJoinDone took s primes]
    refine ⟨fun heard live pair => ?_, fun waits => by rw [if_pos waits]⟩
    rw [if_neg]
    simp only [heard, Bool.true_eq_false, false_or, not_or, not_and]
    exact ⟨fun some => by simpa [some] using live, fun serves => by simpa [serves] using pair⟩

/-! ### HALTED -/

/-- The fields that turning channel `n` off writes. -/
def chanKeys (n : Nat) : List Nat :=
  [(Reg.SLOT_STATUS_STATE.at n).key, (Reg.SLOT_STATUS_PG.at n).key, (Reg.SLOT_STATUS_REV_BLOCK.at n).key,
   (Reg.SLOT_STATUS_JOINED.at n).key, Reg.SLOT_FAULTED_LO.key, Reg.SLOT_FAULTED_HI.key, Reg.SLOT_PG_LO.key, Reg.SLOT_PG_HI.key]

theorem State.rd_slotPins_of_apart (s : State) (n : Nat) (pg rst : Bool) (f : Field) (h : f.key ∉ chanKeys n) :
    (s.slotPins n pg rst).rd f = s.rd f := by
  simp only [chanKeys, List.mem_cons, List.not_mem_nil, or_false, not_or] at h
  obtain ⟨_, hpg, _, _, _, _, lo, hi⟩ := h
  unfold State.slotPins
  rw [State.rd_send]
  show (State.wrBit _ _ _ _ _).rd f = _
  rw [State.rd_wrBit _ _ _ _ _ _ lo hi]
  exact State.rd_wr_ne _ _ _ _ hpg

theorem State.rd_setChan_of_apart (s : State) (n st : Nat) (f : Field) (state : f.key ≠ (Reg.SLOT_STATUS_STATE.at n).key)
    (lo : f.key ≠ Reg.SLOT_FAULTED_LO.key) (hi : f.key ≠ Reg.SLOT_FAULTED_HI.key) : (s.setChan n st).rd f = s.rd f := by
  unfold State.setChan
  rw [State.rd_wrBit _ _ _ _ _ _ lo hi, State.rd_wr_ne _ _ _ _ state]

/-- Turning a channel off, but for a wait in HOLDOFF: its state and its two flags, and its pins where it was ON. -/
theorem State.rd_chanOff_eq (s : State) (n st : Nat) (f : Field) : (s.chanOff n st).rd f =
    (if s.chState n == chOn then
      (((s.setChan n st).wr (Reg.SLOT_STATUS_REV_BLOCK.at n) 0).wr (Reg.SLOT_STATUS_JOINED.at n) 0).slotPins n false false
    else ((s.setChan n st).wr (Reg.SLOT_STATUS_REV_BLOCK.at n) 0).wr (Reg.SLOT_STATUS_JOINED.at n) 0).rd f := by
  unfold State.chanOff
  simp only
  split <;> rfl

theorem State.rd_chanOff_of_apart (s : State) (n st : Nat) (f : Field) (h : f.key ∉ chanKeys n) : (s.chanOff n st).rd f = s.rd f := by
  have apart := h
  simp only [chanKeys, List.mem_cons, List.not_mem_nil, or_false, not_or] at apart
  obtain ⟨state, _, rev, joined, faultLo, faultHi, _, _⟩ := apart
  have flags : (((s.setChan n st).wr (Reg.SLOT_STATUS_REV_BLOCK.at n) 0).wr (Reg.SLOT_STATUS_JOINED.at n) 0).rd f = s.rd f := by
    rw [State.rd_wr_ne _ _ _ _ joined, State.rd_wr_ne _ _ _ _ rev, State.rd_setChan_of_apart _ _ _ _ state faultLo faultHi]
  rw [State.rd_chanOff_eq]
  split
  · rw [State.rd_slotPins_of_apart _ _ _ _ _ h, flags]
  · exact flags

/-- The state of a channel is a field of its own. -/
theorem chState_ne_others (n m : Nat) : (Reg.SLOT_STATUS_STATE.at n).key ∉ (Reg.SKL_LINK_STATE.at m).key ::
    [(Reg.SLOT_STATUS_PG.at m).key, (Reg.SLOT_STATUS_REV_BLOCK.at m).key, (Reg.SLOT_STATUS_JOINED.at m).key, Reg.SLOT_FAULTED_LO.key,
     Reg.SLOT_FAULTED_HI.key, Reg.SLOT_PG_LO.key, Reg.SLOT_PG_HI.key] := by
  simp only [List.mem_cons, List.not_mem_nil, or_false, not_or, Field.key, Field.at, Reg.SLOT_STATUS_STATE, Reg.SKL_LINK_STATE,
    Reg.SLOT_STATUS_PG, Reg.SLOT_STATUS_REV_BLOCK, Reg.SLOT_STATUS_JOINED, Reg.SLOT_FAULTED_LO, Reg.SLOT_FAULTED_HI, Reg.SLOT_PG_LO,
    Reg.SLOT_PG_HI]
  omega

theorem chState_key_inj {n m : Nat} (h : (Reg.SLOT_STATUS_STATE.at n).key = (Reg.SLOT_STATUS_STATE.at m).key) : n = m := by
  simp only [Field.key, Field.at, Reg.SLOT_STATUS_STATE] at h
  omega

theorem State.chState_chanOff (s : State) (n st : Nat) : (s.chanOff n st).chState n = st % 8 := by
  have others := chState_ne_others n n
  simp only [List.mem_cons, List.not_mem_nil, or_false, not_or] at others
  obtain ⟨_, pg, rev, joined, faultLo, faultHi, pgLo, pgHi⟩ := others
  have flags : (((s.setChan n st).wr (Reg.SLOT_STATUS_REV_BLOCK.at n) 0).wr (Reg.SLOT_STATUS_JOINED.at n) 0).chState n = st % 8 := by
    unfold State.chState State.setChan
    rw [State.rd_wr_ne _ _ _ _ joined, State.rd_wr_ne _ _ _ _ rev, State.rd_wrBit _ _ _ _ _ _ faultLo faultHi,
      State.rd_wr_same _ _ _ (by decide : (3 : Nat) ≤ 32)]
    rfl
  rw [State.chState, State.rd_chanOff_eq]
  split
  · unfold State.slotPins
    rw [State.rd_send]
    show (State.wrBit _ _ _ _ _).rd _ = _
    rw [State.rd_wrBit _ _ _ _ _ _ pgLo pgHi]
    exact (State.rd_wr_ne _ _ _ _ pg).trans flags
  · exact flags

/-- HALTED's part for one slot: its channel off, its Skalas link down. -/
def State.haltSlot (s : State) (n : Nat) : State :=
  (if s.chState n == chOff then s else s.chanOff n chOff).wr (Reg.SKL_LINK_STATE.at n) lkDown

/-- HALTED's part for the Ethernet and peer links, and Request Retry Status. -/
def State.haltLinks (s : State) (cause : Nat) : State :=
  (List.range 2).foldl (fun (s : State) n => s.wr (Reg.PL_LINK_STATE.at n) 0)
    ((List.range 4).foldl (fun (s : State) n => s.wr (Reg.ETH_LINK_UP.at n) 0) ((s.enterState stHALTED cause).wr Reg.GLB_PRIME_STATUS_RRS 0))

theorem State.halt_eq (s : State) (cause : Nat) : s.halt cause = slots48.foldl State.haltSlot (s.haltLinks cause) := rfl

theorem State.rd_haltSlot_of_apart (s : State) (n : Nat) (f : Field) (link : f.key ≠ (Reg.SKL_LINK_STATE.at n).key)
    (h : f.key ∉ chanKeys n) : (s.haltSlot n).rd f = s.rd f := by
  unfold State.haltSlot
  rw [State.rd_wr_ne _ _ _ _ link]
  split
  · rfl
  · exact s.rd_chanOff_of_apart n chOff f h

theorem State.chState_haltSlot_same (s : State) (n : Nat) : (s.haltSlot n).chState n = chOff := by
  have others := chState_ne_others n n
  rw [List.mem_cons, not_or] at others
  unfold State.haltSlot
  rw [State.chState, State.rd_wr_ne _ _ _ _ others.1]
  split
  · next off => exact eq_of_beq off
  · exact s.chState_chanOff n chOff

theorem State.chState_haltSlot_ne (s : State) (n m : Nat) (h : n ≠ m) : (s.haltSlot m).chState n = s.chState n := by
  have others := chState_ne_others n m
  rw [List.mem_cons, not_or] at others
  refine s.rd_haltSlot_of_apart m _ others.1 ?_
  rw [chanKeys, List.mem_cons, not_or]
  exact ⟨fun same => h (chState_key_inj same), others.2⟩

theorem State.linkDown_haltSlot_same (s : State) (n : Nat) : (s.haltSlot n).rd (Reg.SKL_LINK_STATE.at n) = lkDown := by
  unfold State.haltSlot
  exact State.rd_wr_same _ _ _ (by decide : (4 : Nat) ≤ 32)

theorem State.linkDown_haltSlot_ne (s : State) (n m : Nat) (h : n ≠ m) :
    (s.haltSlot m).rd (Reg.SKL_LINK_STATE.at n) = s.rd (Reg.SKL_LINK_STATE.at n) := by
  refine s.rd_haltSlot_of_apart m _ ?_ ?_
  · simp only [Field.key, Field.at, Reg.SKL_LINK_STATE]
    omega
  · simp only [chanKeys, List.mem_cons, List.not_mem_nil, or_false, not_or, Field.key, Field.at, Reg.SLOT_STATUS_STATE, Reg.SKL_LINK_STATE,
      Reg.SLOT_STATUS_PG, Reg.SLOT_STATUS_REV_BLOCK, Reg.SLOT_STATUS_JOINED, Reg.SLOT_FAULTED_LO, Reg.SLOT_FAULTED_HI, Reg.SLOT_PG_LO,
      Reg.SLOT_PG_HI]
    omega

/-- A field that no slot's part of HALTED writes. -/
theorem State.rd_halt_of_apart (s : State) (cause : Nat) (f : Field)
    (h : ∀ n < 48, f.key ∉ (Reg.SKL_LINK_STATE.at n).key :: chanKeys n) : (s.halt cause).rd f = (s.haltLinks cause).rd f := by
  rw [State.halt_eq]
  refine List.foldlRecOn (motive := fun t : State => t.rd f = (s.haltLinks cause).rd f) _ _ rfl fun t kept n mem => ?_
  have apart := h n (List.mem_range.1 mem)
  rw [List.mem_cons, not_or] at apart
  rw [t.rd_haltSlot_of_apart n f apart.1 apart.2, kept]

theorem State.rd_foldl_wr_ne {α : Type} (g : α → Field) (v : Nat) (l : List α) (s : State) (f : Field) (h : ∀ a ∈ l, f.key ≠ (g a).key) :
    (l.foldl (fun (s : State) a => s.wr (g a) v) s).rd f = s.rd f :=
  List.foldlRecOn (motive := fun t : State => t.rd f = s.rd f) l _ rfl fun _ kept a mem => (State.rd_wr_ne _ _ _ _ (h a mem)).trans kept

/-- Every field that a loop writes 0 reads 0 after it. -/
theorem State.rd_foldl_wr_zero {α : Type} (g : α → Field) (l : List α) (s : State) (a : α) (mem : a ∈ l) :
    (l.foldl (fun (s : State) a => s.wr (g a) 0) s).rd (g a) = 0 := by
  have zeroed (t : State) (f h : Field) (same : f.key = h.key) : (t.wr h 0).rd f = 0 := by
    rw [State.rd, State.field_wr, if_pos same, clip, Nat.zero_mod]; rfl
  refine foldl_brings (fun t : State => t.rd (g a) = 0) _ a (fun t => zeroed t _ _ rfl) (fun t b zero => ?_) _ _ mem
  by_cases same : (g a).key = (g b).key
  · exact zeroed t _ _ same
  · rw [State.rd_wr_ne _ _ _ _ same, zero]

/-- Settles O14: a slot's part of HALTED brings its channel and its link down, and no other slot's part touches them. -/
theorem haltedTakesEverySlotAndLinkDown : Obligations.HaltedTakesEverySlotAndLinkDown := by
  intro cause s small
  refine ⟨s.st_halt cause, ?cause, ?rrs, fun n hn => ⟨?channel, ?link⟩, fun n hn => ?eth, fun n hn => ?peer⟩
  case cause => rw [State.failCause_halt, Nat.mod_eq_of_lt small]
  case channel =>
    rw [State.halt_eq]
    refine foldl_brings (fun t : State => t.chState n = chOff) _ n (fun t => t.chState_haltSlot_same n) (fun t m off => ?_) _ _
      (List.mem_range.2 hn)
    by_cases same : n = m
    · rw [← same, t.chState_haltSlot_same]
    · rw [t.chState_haltSlot_ne n m same, off]
  case link =>
    rw [State.halt_eq]
    refine foldl_brings (fun t : State => t.rd (Reg.SKL_LINK_STATE.at n) = lkDown) _ n (fun t => t.linkDown_haltSlot_same n)
      (fun t m down => ?_) _ _ (List.mem_range.2 hn)
    by_cases same : n = m
    · rw [← same, t.linkDown_haltSlot_same]
    · rw [t.linkDown_haltSlot_ne n m same, down]
  case rrs =>
    rw [State.rd_halt_of_apart _ _ _ (by decide), State.haltLinks, State.rd_foldl_wr_ne _ _ _ _ _ (by decide),
      State.rd_foldl_wr_ne _ _ _ _ _ (by decide), State.rd_wr_same _ _ _ (by decide)]
    rfl
  case eth =>
    have apart : ∀ n < 4, (∀ m < 48, (Reg.ETH_LINK_UP.at n).key ∉ (Reg.SKL_LINK_STATE.at m).key :: chanKeys m) ∧
        ∀ m ∈ List.range 2, (Reg.ETH_LINK_UP.at n).key ≠ (Reg.PL_LINK_STATE.at m).key := by decide
    rw [State.rd_halt_of_apart _ _ _ (apart n hn).1, State.haltLinks, State.rd_foldl_wr_ne _ _ _ _ _ (apart n hn).2]
    exact State.rd_foldl_wr_zero (fun n => Reg.ETH_LINK_UP.at n) _ _ n (List.mem_range.2 hn)
  case peer =>
    have apart : ∀ n < 2, ∀ m < 48, (Reg.PL_LINK_STATE.at n).key ∉ (Reg.SKL_LINK_STATE.at m).key :: chanKeys m := by decide
    rw [State.rd_halt_of_apart _ _ _ (apart n hn)]
    exact State.rd_foldl_wr_zero (fun n => Reg.PL_LINK_STATE.at n) _ _ n (List.mem_range.2 hn)

end Sys2Proof.Machine
end

/-! ## The shelf image and fuses (chapters 2 and 22) -/

section
namespace Sys2Proof.Machine

/-! ### Staging, trial, acceptance -/

section
variable (s : State)

theorem exec_imageStage : exec .imageStage s =
    .next (if s.reached .img = false then s.unreached .img
      else if s.is Reg.IMG_STAGE_STATUS_BUSY = true then s
      else if s.is Reg.IMG_STATUS_TRIAL = true then s.wr Reg.IMG_STAGE_STATUS_RESULT imgTrialPending
      else { (s.wr Reg.IMG_STAGE_STATUS_BUSY 1).wr Reg.IMG_STAGE_STATUS_RESULT imgNone with
        img := { s.img with staged := some s.stagedBytes } }).settle := by
  show execImageStage s = _
  simp [execImageStage, settled]

theorem exec_stagingDone (good : Bool) : exec (.stagingDone good) s =
    .next (if s.is Reg.IMG_STAGE_STATUS_BUSY then s.stageDone good else s).settle := rfl

theorem exec_trialNext (f : Selector → Selector) (hf : f = fun c => { c with preferred := s.targetSlot, trial := true, trialUsed := false }) :
    exec .trialNext s = .next (if s.reached .img = false then s.unreached .img
      else if s.is Reg.IMG_STAGE_STATUS_BUSY = true ∨ s.rd Reg.IMG_STAGE_STATUS_RESULT ≠ imgOk then s
      else ({ s with img := { s.img with nor := norRewrite (norRewrite s.img.nor f) f } } : State)).settle := by
  subst hf
  show execTrialNext s = _
  simp [execTrialNext, settled]

theorem exec_imageAccept : exec .imageAccept s =
    .next (if s.reached .img = false then s.unreached .img
      else if s.img.booted = none then s
      else if s.auditFull = true then s.setErr .cry 9
      else s.acceptImage.audited 0x200010 4 false).settle := by
  show execImageAccept s = _
  simp [execImageAccept, settled, State.auditedWrite]

variable (good : Bool) (l : List Byte) (staged : s.img.staged = some l)
include staged

/-- A staged copy that fails R66: its code is shown, and it is dropped. -/
theorem State.stageDone_of_bad (code index : Nat) (bad : checkImage s.img.fuses l.length (readImage l l.length) = some (code, index)) :
    s.stageDone good = { (s.wr Reg.IMG_STAGE_STATUS_BUSY 0).wr Reg.IMG_STAGE_STATUS_RESULT code with
      img := { s.img with staged := none } } := by
  have copy : s.img.staged.getD [] = l := by rw [staged]; rfl
  simp only [State.stageDone, copy, State.wr_img, bad]

/-- The slot programmed with a copy that passes, erased where it does not read back. -/
def State.stageTarget (s : State) (good : Bool) (l : List Byte) : State :=
  { s.wr Reg.IMG_STAGE_STATUS_BUSY 0 with
    img := { s.img with nor := norProgram s.img.nor (slotRegion s.targetSlot) (if good then l else []), staged := none } }

theorem State.stageDone_of_good (pass : checkImage s.img.fuses l.length (readImage l l.length) = none) :
    s.stageDone good = if good then (s.stageTarget good l).wr Reg.IMG_STAGE_STATUS_RESULT imgOk
      else ((s.stageTarget good l).wr Reg.IMG_STAGE_STATUS_RESULT (s.freeVal 4)).freeNext := by
  have copy : s.img.staged.getD [] = l := by rw [staged]; rfl
  have slot : (s.wr Reg.IMG_STAGE_STATUS_BUSY 0).targetSlot = s.targetSlot := by
    rw [State.targetSlot, State.is, State.rd_wr_ne _ _ _ _ (by decide)]; rfl
  simp only [State.stageDone, copy, State.wr_img, pass, slot, State.stageTarget]
  rfl

end

theorem State.busy_cleared (s : State) (code : Nat) :
    (((s.wr Reg.IMG_STAGE_STATUS_BUSY 0).wr Reg.IMG_STAGE_STATUS_RESULT code).rd Reg.IMG_STAGE_STATUS_BUSY = 0) := by
  rw [State.rd_wr_ne _ _ _ _ (by decide), State.rd_wr_same _ _ _ (by decide)]
  rfl

/-- Settles O15, command by command; a staging that ends by what the check of R66 and the read-back find. -/
theorem imagesAreStagedTriedAndAccepted : Obligations.ImagesAreStagedTriedAndAccepted := by
  refine ⟨fun s out c mem => ?unreached, fun s reached => ⟨fun busy => ?ignored, fun idle trial => ?pending, fun idle settled => ?staging⟩,
    fun good s idle => ?notStaging, fun l good s busy staged => ⟨fun code index bad => ?fails, fun pass => ?passes⟩,
    fun s reached => ⟨fun no => ?noTrial, fun f hf idle ok => ?trial⟩,
    fun s reached => ⟨fun none => ?notBooted, fun booted full => ?full, fun b booted room => ?accept⟩⟩
  case unreached =>
    simp only [List.mem_cons, List.not_mem_nil, or_false] at mem
    rcases mem with rfl | rfl | rfl
    · rw [exec_imageStage, if_pos out]
    · rw [exec_trialNext s _ rfl, if_pos out]
    · rw [exec_imageAccept, if_pos out]
  case ignored => rw [exec_imageStage]; simp [reached, busy]
  case pending =>
    refine ⟨_, exec_imageStage s, ?_⟩
    simp only [reached, idle, trial, Bool.true_eq_false, Bool.false_eq_true, if_false, if_true]
    refine ⟨?_, RegistersChange.wr_settle _ _ _⟩
    rw [State.rd_settle _ _ (by decide) (by decide), State.rd_wr_same _ _ _ (by decide)]
    rfl
  case staging =>
    refine ⟨_, exec_imageStage s, ?_⟩
    simp only [reached, idle, settled, Bool.true_eq_false, Bool.false_eq_true, if_false]
    refine ⟨?_, ?_, by rw [State.settle_img]⟩
    · rw [State.rd_settle _ _ (by decide) (by decide)]
      show ((s.wr _ 1).wr _ _).rd _ = _
      rw [State.rd_wr_ne _ _ _ _ (by decide), State.rd_wr_same _ _ _ (by decide)]
      rfl
    · rw [State.rd_settle _ _ (by decide) (by decide)]
      exact State.rd_wr_same _ _ _ (by decide)
  case notStaging => rw [exec_stagingDone, idle]; rfl
  case fails =>
    refine ⟨_, exec_stagingDone s good, ?_⟩
    rw [if_pos busy, s.stageDone_of_bad good l staged code index bad]
    refine ⟨?_, ?_, by rw [State.settle_img]⟩
    · rw [State.rd_settle _ _ (by decide) (by decide)]
      exact s.busy_cleared code
    · rw [State.rd_settle _ _ (by decide) (by decide)]
      exact State.rd_wr_same _ _ _ (by decide)
  case passes =>
    refine ⟨_, exec_stagingDone s good, ?_⟩
    rw [if_pos busy, s.stageDone_of_good good l staged pass, State.rd_settle _ _ (by decide) (by decide),
      State.rd_settle _ _ (by decide) (by decide), State.settle_img]
    cases good with
    | true => exact ⟨s.busy_cleared imgOk, fun _ => State.rd_wr_same _ Reg.IMG_STAGE_STATUS_RESULT _ (by decide), rfl⟩
    | false => exact ⟨s.busy_cleared (s.freeVal 4), nofun, rfl⟩
  case noTrial => rw [exec_trialNext s _ rfl, if_neg (by simp [reached]), if_pos no]
  case trial => rw [exec_trialNext s f hf, if_neg (by simp [reached]), if_neg (by simp [idle, ok])]
  case notBooted => rw [exec_imageAccept, if_neg (by simp [reached]), if_pos none]
  case full => rw [exec_imageAccept, if_neg (by simp [reached]), if_neg booted, if_pos full]
  case accept =>
    refine ⟨by rw [exec_imageAccept]; simp [reached, booted, room], ?_, ?_⟩
    · show max _ (s.img.booted.getD {}).svn = _
      rw [booted]; rfl
    · exact State.rd_wr_same _ _ _ (by decide)

/-! ### Fuse operations -/

/-- A write of `IMG_FUSE_CTL`, after its register write `u`. -/
theorem State.fuseWrite_eq (s u : State) (value : W32) (revoke : Bool) (hu : u = s.imgWrite 0x200080 value) : s.fuseWrite value revoke =
    if u.reached .img = false ∨ value.toNat / 65536 ≠ 0x9648 ∨ u.is Reg.IMG_FUSE_STATUS_BUSY = true then u
    else if u.auditFull = true then u.setErr .cry 9
    else (u.fuseStart revoke).audited 0x200080 value (((u.fuseStart revoke).img.fusePlan.map fun p => p.result != fuseOk).getD false) := by
  subst hu
  cases plan : ((s.imgWrite 0x200080 value).fuseStart revoke).img.fusePlan <;> simp [State.fuseWrite, plan, or_assoc]

theorem exec_fuse_of_plan (value : W32) (s : State) (e : Instr × Bool) (mem : e ∈ [(Instr.fuseProgram value, false), (.fuseRevoke value, true)]) :
    exec e.1 s = .next (s.fuseWrite value e.2).settle := by
  simp only [List.mem_cons, List.not_mem_nil, or_false] at mem
  rcases mem with rfl | rfl <;> rfl

/-- A slot changed in the fuses: the list is lengthened to hold it. -/
theorem setFuse_getElem? (l : List FuseSlot) (i : Nat) (f : FuseSlot → FuseSlot) : (setFuse l i f)[i]? = some (f (l.getD i {})) := by
  have long : i < max l.length (i + 1) := by omega
  rw [setFuse, List.getElem?_modify_eq, List.getElem?_map, List.getElem?_range long]
  rfl

theorem exec_fuseOpDone (s : State) (p : FusePlan) (plan : s.img.fusePlan = some p) : exec .fuseOpDone s =
    .next ((({ s.fuseApply p with img := { (s.fuseApply p).img with fusePlan := none } } : State).wr Reg.IMG_FUSE_STATUS_BUSY 0).wr
      Reg.IMG_FUSE_STATUS_RESULT p.result).showIdentity.settle := by
  show execFuseOpDone s = _
  simp only [execFuseOpDone, settled, plan]

theorem State.fuses_fuseApply (s : State) (p : FusePlan) :
    (p.result ≠ fuseOk → (s.fuseApply p).img.fuses = s.img.fuses) ∧
    (p.result = fuseOk → p.revoke = false → (s.fuseApply p).img.fuses.owner[p.index]? = some
      { (s.img.fuses.owner.getD p.index {}) with programmed := true, hash := p.hash, pq := p.pq }) ∧
    (p.result = fuseOk → p.revoke = true → (s.fuseApply p).img.fuses.owner[p.index]? = some
      { (s.img.fuses.owner.getD p.index {}) with revoked := true }) := by
  refine ⟨fun refused => ?_, fun ok program => ?_, fun ok revoke => ?_⟩
  · rw [State.fuseApply, if_pos (by simpa using refused)]
  · simp only [State.fuseApply, ok, program, bne_self_eq_false, Bool.false_eq_true, if_false]
    exact setFuse_getElem? _ _ _
  · simp only [State.fuseApply, ok, revoke, bne_self_eq_false, Bool.false_eq_true, if_false, if_true]
    exact setFuse_getElem? _ _ _

/-- Settles O16: the write by its guards, the plan by PROVISION and the slot, the end by the plan's outcome. -/
theorem fuseOperationsAreKeyedAuditedAndChecked : Obligations.FuseOperationsAreKeyedAuditedAndChecked := by
  refine ⟨fun value s u hu e mem => ?write, fun revoke u => ?plan, fun s none => ?noPlan, fun p s plan small => ?done⟩
  case write =>
    rw [exec_fuse_of_plan value s e mem, s.fuseWrite_eq u value e.2 hu]
    refine ⟨fun no => by rw [if_pos no], fun reached key idle => ?_⟩
    rw [if_neg (by simp [reached, key, idle])]
    refine ⟨fun full => by rw [if_pos full], fun p room plan => ?_⟩
    rw [if_neg (by simp [room]), plan]
    rfl
  case plan =>
    refine ⟨_, rfl, rfl, rfl, rfl, State.rd_wr_same _ _ _ (by decide), ?_⟩
    cases (u.img.booted.getD {}).provision <;> cases (u.img.fuses.owner.getD (u.rd Reg.IMG_FUSE_CTL_INDEX) {}).programmed <;>
      cases revoke <;> simp [fuseOk, fuseNotProvision, fuseAlready, fuseNotProgrammed]
  case noPlan =>
    show execFuseOpDone s = _
    simp only [execFuseOpDone, settled, none]
  case done =>
    refine ⟨_, exec_fuseOpDone s p plan, ?_⟩
    have shown (f : Field) (h : f.key ≠ Reg.WELL_RC_STATUS_QP_OPEN.key) (h' : f.key ≠ Reg.SUMP_OCC_OCCUPIED.key)
        (other : f.key ∉ [Reg.GLB_SERIAL_LO, Reg.GLB_SERIAL_HI, Reg.IMG_FUSE_STATUS_PROGRAMMED, Reg.IMG_FUSE_STATUS_REVOKED,
          Reg.IMG_FUSE_STATUS_PQ_SET].map Field.key) (u : State) : u.showIdentity.settle.rd f = u.rd f := by
      rw [State.rd_settle _ _ h h', State.rd_showIdentity _ _ other]
    rw [State.settle_img, shown _ (by decide) (by decide) (by decide), shown _ (by decide) (by decide) (by decide)]
    refine ⟨rfl, ?_, ?_, s.fuses_fuseApply p⟩
    · rw [State.rd_wr_ne _ _ _ _ (by decide), State.rd_wr_same _ _ _ (by decide)]; rfl
    · rw [State.rd_wr_same _ _ _ (by decide)]
      exact Nat.mod_eq_of_lt (Nat.lt_of_lt_of_le small (by decide : (4 : Nat) ≤ 2 ^ Reg.IMG_FUSE_STATUS_RESULT.width))

end Sys2Proof.Machine
end

/-! ## Commits (R74 to R76) and block control (R72, R99, R558) -/

section
namespace Sys2Proof.Machine

/-! ### Commit points -/

theorem exec_commit_of_either (value : W32) (s : State) (c : Instr) (mem : c ∈ [Instr.commit value, .commitAbort value]) :
    exec c s = .next (s.writeCommit value).settle := by
  simp only [List.mem_cons, List.not_mem_nil, or_false] at mem
  rcases mem with rfl | rfl <;> rfl

theorem State.writeCommit_eq (s : State) (value : W32) : s.writeCommit value =
    if s.commitOpen = false then s.writeWord 0x100 value
    else if s.is Reg.GLB_COMMIT_STATUS_LOCKED = true then (s.writeWord 0x100 value).setErr .glb 9
    else if value.toNat / 2 % 2 = 1 then (s.writeWord 0x100 value).abortCommit
    else if value.toNat % 2 = 1 then (s.writeWord 0x100 value).commitPoint .write
    else s.writeWord 0x100 value := by
  simp [State.writeCommit]

theorem State.commitPoint_of_idle (s : State) (src : CommitSource) (idle : s.is Reg.GLB_COMMIT_STATUS_BUSY = false) :
    s.commitPoint src = s.beginCommit src := by
  simp [State.commitPoint, idle]

theorem State.commitPoint_of_busy (s : State) (src : CommitSource) (busy : s.is Reg.GLB_COMMIT_STATUS_BUSY = true) : s.commitPoint src =
    { s with commit := { s.commit with held := some (s.commit.held.elim src fun h => if src = .pod then .pod else h) } } := by
  cases held : s.commit.held <;> simp [State.commitPoint, busy, held]

theorem exec_commitApplyDone_of_idle (s : State) (idle : s.is Reg.GLB_COMMIT_STATUS_BUSY = false) :
    exec .commitApplyDone s = .next s.settle := by
  show execCommitApplyDone s = _
  simp [execCommitApplyDone, settled, idle]

theorem exec_commitApplyDone_of_busy (s v : State) (busy : s.is Reg.GLB_COMMIT_STATUS_BUSY = true)
    (hv : v = { s.settleCommit with commit := { s.settleCommit.commit with held := none } }) :
    exec .commitApplyDone s = .next (s.commit.held.elim v fun src => v.commitPoint src).settle := by
  subst hv
  show execCommitApplyDone s = _
  cases held : s.commit.held <;> simp [execCommitApplyDone, settled, busy, held]

/-- Settles O17: the write by its bits, the commit point by whether a commit is BUSY or held. -/
theorem commitPointsTakeASnapshot : Obligations.CommitPointsTakeASnapshot := by
  refine ⟨fun value s u hu c mem => ?write, fun u => ⟨rfl, ?aborted, rfl, fun f other => State.field_wr_ne _ _ _ _ other⟩,
    fun src u => ⟨fun busy none => ?holds, fun h busy held => ?merges, u.commitPoint_of_idle src⟩, exec_commitApplyDone_of_idle,
    fun s v busy hv => ⟨fun none => ?applied, fun src held => ?next⟩⟩
  case write =>
    subst hu
    rw [exec_commit_of_either value s c mem, State.writeCommit_eq]
    refine ⟨fun shut => by rw [if_pos shut], fun open_ locked => ?_, fun open_ free => ⟨fun neither => ?_, fun commit => ?_, fun abort => ?_⟩⟩
    · rw [if_neg (by simp [open_]), if_pos locked]
    · rw [if_neg (by simp [open_]), if_neg (by simp [free]), if_neg (by omega), if_neg (by omega)]
    · rw [if_neg (by simp [open_]), if_neg (by simp [free]), if_neg (by omega), if_pos (by omega)]
    · rw [if_neg (by simp [open_]), if_neg (by simp [free]), if_pos abort]
  case aborted => exact State.rd_wr_same _ _ _ (by decide)
  case holds => rw [u.commitPoint_of_busy src busy, none]; rfl
  case merges => rw [u.commitPoint_of_busy src busy, held]; rfl
  case applied => rw [exec_commitApplyDone_of_busy s v busy hv, none]; rfl
  case next => rw [exec_commitApplyDone_of_busy s v busy hv, held]; rfl

/-! ### A commit as a whole -/

/-- A 64-bit value written to two words of 32 bits, cut to 64 bits. -/
theorem State.rd64_wr64_mod (s : State) (lo hi : Field) (v : Nat) (hlo : lo.width = 32) (hhi : hi.width = 32) (hne : lo.key ≠ hi.key) :
    (s.wr64 lo hi v).rd64 lo hi = v % 2 ^ 64 := by
  rw [State.rd64, State.wr64, State.rd_wr_ne _ _ _ _ hne, State.rd_wr_same _ _ _ (Nat.le_of_eq hlo),
    State.rd_wr_same _ _ _ (Nat.le_of_eq hhi), hlo, hhi]
  omega

theorem Tab.find_of_all_lt {α : Type} (k : Nat) (t : Tab α) (h : t.all (fun e => decide (k < e.1)) = true) : Tab.find k t = none := by
  induction t with
  | nil => rfl
  | cons e t ih =>
    obtain ⟨j, a⟩ := e
    simp only [List.all_cons, Bool.and_eq_true, decide_eq_true_eq] at h
    rw [Tab.find, if_neg (Nat.ne_of_gt h.1), ih h.2]

/-- Values listed in rising order, put into a table one after the other: each stands under its own number. -/
theorem Tab.find_foldl_put {α : Type} (vals t : Tab α) (k : Nat) (sorted : Tab.sorted vals = true) :
    Tab.find k (vals.foldl (fun (t : Tab α) (e : Nat × α) => Tab.put e.1 e.2 t) t) = (Tab.find k vals).or (Tab.find k t) := by
  induction vals generalizing t with
  | nil => rfl
  | cons e vals ih =>
    obtain ⟨j, a⟩ := e
    simp only [Tab.sorted, Bool.and_eq_true] at sorted
    rw [List.foldl_cons, ih _ sorted.2, Tab.find_put]
    by_cases same : j = k
    · subst same
      rw [Tab.find_of_all_lt j vals sorted.1, Tab.find, if_pos rfl, if_pos rfl]
      rfl
    · rw [Tab.find, if_neg same, if_neg (Ne.symm same)]

theorem State.field_overlay (s : State) (vals : Tab W32) (sorted : Tab.sorted vals = true) (f : Field) :
    (s.overlay vals).field f = (Tab.find f.key vals).getD (s.field f) := by
  unfold State.field State.overlay Tab.getD
  rw [Tab.find_foldl_put _ _ _ sorted]
  cases Tab.find f.key vals <;> rfl

/-- What a commit shows as it begins. -/
def State.commitShown (s : State) : State :=
  (s.wr Reg.GLB_COMMIT_STATUS_BUSY 1).wr64 Reg.GLB_COMMIT_TIME_LO Reg.GLB_COMMIT_TIME_HI s.tm.shelf

theorem State.beginCommit_of_refused (s : State) (src : CommitSource) (b : Block)
    (refused : s.commitShown.refuser src s.commitShown.pendingShadows = some b) : s.beginCommit src =
      { s.commitShown with commit := { s.commitShown.commit with refused := some (blockCode b), source := src } } := by
  unfold State.commitShown at refused ⊢
  simp only [State.beginCommit, refused]

theorem State.beginCommit_of_accepted (s : State) (src : CommitSource) (accepted : s.commitShown.refuser src s.commitShown.pendingShadows = none)
    (epoch : s.commitShown.epochAfter src s.commitShown.pendingShadows = s.commitShown.liveEpoch) : s.beginCommit src =
      { s.commitShown.applyValues s.commitShown.pendingShadows s.commitShown.tm.mono with
        commit := { (s.commitShown.applyValues s.commitShown.pendingShadows s.commitShown.tm.mono).commit with
          refused := none, source := src } } := by
  unfold State.commitShown at accepted epoch ⊢
  simp only [State.beginCommit, accepted, epoch, beq_self_eq_true, if_true]

/-- The outcome of the commit under way, as it is shown. -/
def State.commitOutcome (s : State) : State :=
  match s.commit.refused with
  | some b => (s.wr Reg.GLB_COMMIT_STATUS_LAST_RESULT crRejected).wr Reg.GLB_COMMIT_STATUS_REJECT_BLOCK b
  | none => s.wr Reg.GLB_COMMIT_STATUS_LAST_RESULT crApplied

theorem State.settleCommit_of_own (s : State) (own : s.commit.source ≠ .pod) : s.settleCommit =
    (s.commitOutcome.wr Reg.GLB_COMMIT_STATUS_LAST_SOURCE (if s.commit.source = .write then 0 else 1)).wr Reg.GLB_COMMIT_STATUS_BUSY 0 := by
  unfold State.settleCommit State.commitOutcome
  simp only
  rw [if_neg own] <;> rfl

theorem State.commitOutcome_of_none (s : State) (none : s.commit.refused = none) :
    s.commitOutcome = s.wr Reg.GLB_COMMIT_STATUS_LAST_RESULT crApplied := by
  simp only [State.commitOutcome, none]

theorem State.commitOutcome_of_some (s : State) (b : Nat) (some : s.commit.refused = some b) :
    s.commitOutcome = (s.wr Reg.GLB_COMMIT_STATUS_LAST_RESULT crRejected).wr Reg.GLB_COMMIT_STATUS_REJECT_BLOCK b := by
  simp only [State.commitOutcome, some]

/-- Settles O18: the snapshot's numbers rise, so that each value stands in its own field whatever the order of the others. -/
theorem commitsApplyAllOrNone : Obligations.CommitsApplyAllOrNone := by
  refine ⟨fun src s u hu => ?begins, fun vals s sorted f => s.field_overlay vals sorted f, fun vals time s v hv => ?applies,
    fun s own => ?ends⟩
  case begins =>
    have hu : u = s.commitShown := hu
    subst hu
    refine ⟨?_, State.rd64_wr64_mod _ _ _ _ rfl rfl (by decide), fun b refused => ?_, s.beginCommit_of_accepted src⟩
    · rw [State.commitShown, State.rd_wr64_ne _ _ _ _ _ (by decide) (by decide), State.rd_wr_same _ _ _ (by decide)]
      rfl
    · rw [s.beginCommit_of_refused src b refused]
      exact ⟨rfl, rfl⟩
  case applies => subst hv; rfl
  case ends =>
    rw [s.settleCommit_of_own own]
    have result : ((s.commitOutcome.wr Reg.GLB_COMMIT_STATUS_LAST_SOURCE (if s.commit.source = .write then 0 else 1)).wr
        Reg.GLB_COMMIT_STATUS_BUSY 0).rd Reg.GLB_COMMIT_STATUS_LAST_RESULT = s.commitOutcome.rd Reg.GLB_COMMIT_STATUS_LAST_RESULT := by
      rw [State.rd_wr_ne _ _ _ _ (by decide), State.rd_wr_ne _ _ _ _ (by decide)]
    refine ⟨State.rd_wr_same _ _ _ (by decide), fun none => ?_, fun b some => ⟨?_, ?_⟩, ?_, fun f other => ?_⟩
    · rw [result, s.commitOutcome_of_none none]
      exact State.rd_wr_same _ _ _ (by decide)
    · rw [result, s.commitOutcome_of_some b some, State.rd_wr_ne _ _ _ _ (by decide)]
      exact State.rd_wr_same _ _ _ (by decide)
    · rw [State.rd_wr_ne _ _ _ _ (by decide), State.rd_wr_ne _ _ _ _ (by decide), s.commitOutcome_of_some b some]
      exact State.rd_wr_same _ _ _ (by decide)
    · show s.commitOutcome.regs.shadow = _
      cases refused : s.commit.refused with
      | none => rw [s.commitOutcome_of_none refused]; rfl
      | some b => rw [s.commitOutcome_of_some b refused]; rfl
    · simp only [List.map_cons, List.map_nil, List.mem_cons, List.not_mem_nil, or_false, not_or] at other
      obtain ⟨hresult, hsource, hbusy, hblock⟩ := other
      rw [State.field_wr_ne _ _ _ _ hbusy, State.field_wr_ne _ _ _ _ hsource]
      cases refused : s.commit.refused with
      | none => rw [s.commitOutcome_of_none refused, State.field_wr_ne _ _ _ _ hresult]
      | some b => rw [s.commitOutcome_of_some b refused, State.field_wr_ne _ _ _ _ hblock, State.field_wr_ne _ _ _ _ hresult]

/-! ### Block control -/

/-- A write of a block's control register (R558): what follows the register write, where BAR0 decodes the block. -/
theorem State.controlWrite_eq (s : State) (b : Block) (value : W32) (f : State → State) : s.controlWrite b value f =
    if s.decodeOf b = .all then f (s.writeWord (commonBase b + 4) value) else s.writeWord (commonBase b + 4) value := by
  simp [State.controlWrite]

section
variable (b : Block) (s : State)

theorem exec_blockControl_of_undecoded (no : s.decodeOf b ≠ .all) :
    exec (.blockStop b) s = .next (s.writeWord (commonBase b + 4) 0#32).settle ∧
    exec (.blockStart b) s = .next (s.writeWord (commonBase b + 4) 1#32).settle ∧
    exec (.blockReset b) s = .next (s.writeWord (commonBase b + 4) 2#32).settle := by
  refine ⟨?stop, ?start, ?reset⟩
  case stop => show settled (s.controlWrite b _ _) = _; rw [State.controlWrite_eq, if_neg no]; rfl
  case start => show settled (s.controlWrite b _ _) = _; rw [State.controlWrite_eq, if_neg no]; rfl
  case reset => show settled (s.controlWrite b _ _) = _; rw [State.controlWrite_eq, if_neg no]; rfl

theorem exec_blockStop (decodes : s.decodeOf b = .all) (u : State) (hu : u = s.writeWord (commonBase b + 4) 0#32) :
    exec (.blockStop b) s = .next (if alwaysRuns b = true then u.setErr b 1
      else if (u.wr (fRun b) 0).stopped b = true ∨ u.prim.stopping.contains (blockCode b) = true then u.wr (fRun b) 0
      else { u.wr (fRun b) 0 with prim := { u.prim with stopping := blockCode b :: u.prim.stopping } }).settle := by
  subst hu
  show settled (s.controlWrite b _ _) = _
  rw [State.controlWrite_eq, if_pos decodes]
  simp [settled]

theorem exec_blockStart (decodes : s.decodeOf b = .all) (v : State) (hv : v = s.writeWord (commonBase b + 4) 1#32) :
    exec (.blockStart b) s = .next (if alwaysRuns b = true then v
      else if v.stopped b = true ∧ v.is (fResetting b) = false then v.startBlock b else v.wr (fRun b) 1).settle := by
  subst hv
  show settled (s.controlWrite b _ _) = _
  rw [State.controlWrite_eq, if_pos decodes]
  simp [settled]

theorem exec_blockReset (decodes : s.decodeOf b = .all) (w : State) (hw : w = s.writeWord (commonBase b + 4) 2#32) :
    exec (.blockReset b) s = .next (if alwaysRuns b = true ∨ w.stopped b = false then w.setErr b 2
      else (w.resetBlock b).wr (fResetting b) 1).settle := by
  subst hw
  show settled (s.controlWrite b _ _) = _
  rw [State.controlWrite_eq, if_pos decodes]
  simp [settled]

theorem exec_blockStopped_of_waiting
    (h : s.prim.stopping.contains (blockCode b) = false ∨ s.is Reg.GLB_COMMIT_STATUS_BUSY = true ∨ s.blockBusy b = true) :
    exec (.blockStopped b) s = .next s.settle := by
  show execBlockStopped b s = _
  unfold execBlockStopped settled
  rw [if_pos]
  rcases h with h | h | h <;> simp only [h, Bool.not_false, Bool.true_or, Bool.or_true]

/-- What a block that has stopped leaves besides: TIME ends what is under way in its windows, WELL shows that PRD is off. -/
def State.stopLeaves (s : State) (b : Block) : State :=
  if b = .time then s.endUnits.showUnits.checkCoord.showMode else if b = .well then s.showPrd else s

theorem exec_blockStopped_of_drained (stopping : s.prim.stopping.contains (blockCode b) = true)
    (applied : s.is Reg.GLB_COMMIT_STATUS_BUSY = false) (idle : s.blockBusy b = false) (u : State)
    (hu : u = ({ s with prim := { s.prim with stopping := s.prim.stopping.filter (· != blockCode b) } } : State).wr (fStopped b) 1) :
    exec (.blockStopped b) s = .next (if (u.stopLeaves b).is (fRun b) then (u.stopLeaves b).startBlock b else u.stopLeaves b).settle := by
  subst hu
  show execBlockStopped b s = _
  unfold execBlockStopped settled
  rw [if_neg (by simp only [stopping, applied, idle]; decide)]
  cases b <;> simp only [State.stopLeaves, reduceCtorEq, if_true, if_false]

theorem exec_blockResetDone (u : State) (hu : u = s.wr (fResetting b) 0) : exec (.blockResetDone b) s =
    .next (if s.is (fResetting b) = false then s
      else if u.is (fRun b) = true ∧ u.stopped b = true then u.startBlock b else u).settle := by
  subst hu
  show execBlockResetDone b s = _
  simp [execBlockResetDone, settled]

end

/-- Settles O19, trigger by trigger. -/
theorem blocksStopDrainStartAndReset : Obligations.BlocksStopDrainStartAndReset := by
  refine ⟨exec_blockControl_of_undecoded, fun b s u v w decodes hu hv hw => ⟨fun always => ?always, fun stops => ?control⟩,
    exec_blockStopped_of_waiting, fun b s u stopping applied idle hu => ?stopped, fun b s u hu => ?resetDone⟩
  case always =>
    rw [exec_blockStop b s decodes u hu, exec_blockStart b s decodes v hv, exec_blockReset b s decodes w hw]
    simp [always]
  case control =>
    rw [exec_blockStop b s decodes u hu, exec_blockStart b s decodes v hv, exec_blockReset b s decodes w hw]
    simp only [stops, Bool.false_eq_true, if_false, false_or]
    refine ⟨fun already => by rw [if_pos already], fun runs fresh => ?_, fun stopped out => by rw [if_pos ⟨stopped, out⟩], fun no => ?_,
      fun stopped => by rw [if_neg (by simp [stopped])], fun runs => by rw [if_pos runs]⟩
    · rw [if_neg (not_or.2 ⟨ne_true_of_eq_false runs, ne_true_of_eq_false fresh⟩)]
      refine ⟨_, rfl, by rw [State.settle_prim], ?_⟩
      rw [State.settle_prim]
      exact RegistersChange.wr_settle { u with prim := { u.prim with stopping := blockCode b :: u.prim.stopping } } (fRun b) 0
    · rw [if_neg (by rcases no with h | h <;> simp [h])]
  case stopped =>
    rw [exec_blockStopped_of_drained b s stopping applied idle u hu]
    refine ⟨fun time well => ?_, fun well => ?_, fun v time hv => ?_⟩
    · rw [State.stopLeaves, if_neg time, if_neg well]
      exact ⟨fun off => by rw [off]; rfl, fun on => by rw [on]; rfl⟩
    · subst well; rfl
    · subst time hv; rfl
  case resetDone =>
    rw [exec_blockResetDone b s u hu]
    refine ⟨fun out => by rw [if_pos out], fun resets run stopped => ?_, fun resets no => ?_⟩
    · rw [if_neg (by simp [resets]), if_pos ⟨run, stopped⟩]
    · rw [if_neg (by simp [resets]), if_neg (by rcases no with h | h <;> simp [h])]

end Sys2Proof.Machine
end

/-! ## Keys, look-aside cipher, audit, retention (chapter 16) -/

section
namespace Sys2Proof.Machine

/-! ### Fields of a settled state, past an update of the ciphers' side -/

theorem State.rd_withCry (s : State) (c : Cry) (f : Field) : ({ s with cry := c } : State).rd f = s.rd f := rfl

/-! ### Vault operations -/

theorem exec_keyStart (value : W32) (s : State) (e : Instr × Nat)
    (mem : e ∈ [(Instr.keyImport value, 1), (.keyGenerate value, 2), (.keyDestroy value, 3), (.keyInfo value, 4), (.exportPub value, 5)]) :
    exec e.1 s = .next (s.keyStart value e.2).settle := by
  simp only [List.mem_cons, List.not_mem_nil, or_false] at mem
  rcases mem with rfl | rfl | rfl | rfl | rfl <;> rfl

/-- A vault operation as the registers name it. -/
def State.keyOpOf (u : State) (op : Nat) : KeyOp :=
  { op := op, slot := u.rd Reg.CRY_KEY_ACC_SLOT, type := u.rd Reg.CRY_KEY_ACC_TYPE, addr := u.rd64 Reg.CRY_KEY_ADDR_LO Reg.CRY_KEY_ADDR_HI }

theorem State.keyStart_eq (s : State) (value : W32) (op : Nat) : s.keyStart value op =
    if s.reached .cry = false then s.unreached .cry
    else if s.is Reg.CRY_KEY_STATUS_BUSY = true then s
    else State.wr { s.writeWord offKeyAcc value with
      cry := { (s.writeWord offKeyAcc value).cry with keyOp := some ((s.writeWord offKeyAcc value).keyOpOf op) } } Reg.CRY_KEY_STATUS_BUSY 1 := by
  simp [State.keyStart, State.keyOpOf, State.wr]

theorem exec_keyOpDone_of_none (s : State) (h : s.stopped .cry = true ∨ s.cry.keyOp = none) : exec .keyOpDone s = .next s.settle := by
  show execKeyOpDone s = _
  rcases h with h | h <;> simp [execKeyOpDone, settled, h]

theorem exec_keyOpDone_of_some (k : KeyOp) (s u : State) (runs : s.stopped .cry = false) (op : s.cry.keyOp = some k)
    (hu : u = (if k.op ≤ 3 && !s.auditFull then (s.keyRun k).1.audited offKeyAcc
        (BitVec.ofNat 32 (k.slot + 2 ^ 16 * k.op + 2 ^ 19 * k.type + 2 ^ 31)) ((s.keyRun k).2 != keyOk) 0 k.slot
      else (s.keyRun k).1)) : exec .keyOpDone s =
    .next ((({ u with cry := { u.cry with keyOp := none } } : State).wr Reg.CRY_KEY_STATUS_BUSY 0).wr Reg.CRY_KEY_STATUS_RESULT
      (s.keyRun k).2).settle := by
  subst hu
  show execKeyOpDone s = _
  simp only [execKeyOpDone, settled, runs, op]
  rfl

section
variable (k : KeyOp) (s : State)

theorem State.keyRun_of_export (h : k.op = 5) : s.keyRun k = s.doExport k := by
  simp [State.keyRun, h]

theorem State.keyRun_of_full (noExport : k.op ≠ 5) (noInfo : k.op ≠ 4) (full : s.auditFull = true) : s.keyRun k = (s, keyAuditFull) := by
  simp [State.keyRun, noExport, noInfo, full]

theorem State.keyRun_of_low (noExport : k.op ≠ 5) (room : k.op = 4 ∨ s.auditFull = false) (low : k.slot < 16) :
    s.keyRun k = (s, keyBadSlot) := by
  rcases room with h | h <;> simp [State.keyRun, noExport, h, low]

/-- The row of an operation on a slot that it may name, the audit log not full. -/
theorem State.keyRun_of_row (slot : 16 ≤ k.slot) (room : s.auditFull = false) :
    (k.op = 1 → s.keyRun k = s.doImport k) ∧ (k.op = 2 → s.keyRun k = s.doGenerate k) ∧ (k.op = 3 → s.keyRun k = s.doDestroy k) ∧
    (k.op = 4 → s.keyRun k = s.doInfo k) := by
  have high : ¬ k.slot < 16 := Nat.not_lt.2 slot
  refine ⟨fun op => ?_, fun op => ?_, fun op => ?_, fun op => ?_⟩ <;> simp [State.keyRun, op, room, high]

end

/-- Settles O20: the taking by its guards, the end by the operation, the results by the order of Table 16.3. -/
theorem vaultOperationsAreTakenAndAnswered : Obligations.VaultOperationsAreTakenAndAnswered := by
  refine ⟨fun value s u hu e mem => ?start, exec_keyOpDone_of_none, fun k s u runs op hu => ?done, fun k s => s.keyRun_of_export k,
    fun k s => s.keyRun_of_full k, fun k s => s.keyRun_of_low k, fun k s slot room => ?rows⟩
  case start =>
    subst hu
    rw [exec_keyStart value s e mem, State.keyStart_eq]
    refine ⟨fun out => by rw [if_pos out], fun reached busy => ?_, fun reached idle => ?_⟩
    · rw [if_neg (by simp [reached]), if_pos busy]
    · rw [if_neg (by simp [reached]), if_neg (by simp [idle])]
      refine ⟨_, rfl, by rw [State.settle_cry, State.wr_cry]; rfl, ?_, ?_⟩
      · rw [State.rd_settle _ _ (by decide) (by decide)]
        exact State.rd_wr_same _ _ _ (by decide)
      · rw [State.settle_cry, State.wr_cry]
        exact RegistersChange.wr_settle _ _ _
  case done =>
    refine ⟨_, exec_keyOpDone_of_some k s u runs op hu, by rw [State.settle_cry, State.wr_cry, State.wr_cry], ?_, ?_, ?_⟩
    · rw [State.rd_settle _ _ (by decide) (by decide), State.rd_wr_ne _ _ _ _ (by decide), State.rd_wr_same _ _ _ (by decide)]
      rfl
    · rw [State.rd_settle _ _ (by decide) (by decide)]
      exact State.rd_wr_same _ _ _ (by decide)
    · rw [State.settle_cry, State.wr_cry, State.wr_cry]
      exact (((RegistersChange.refl _ _).wr _ _ (by decide)).wr _ _ (by decide)).settled
  case rows =>
    obtain ⟨import_, generate, destroy, info⟩ := s.keyRun_of_row k slot room
    refine ⟨fun op loaded => ?_, fun op free other => ?_, fun op free own bad => ?_, fun op held => ?_, fun op empty known usable => ?_,
      fun op used => ?_, fun op unused => ?_, info⟩
    · rw [import_ op]; simp [State.doImport, loaded]
    · rw [import_ op]; simp [State.doImport, free, other]
    · rw [import_ op]; simp [State.doImport, free, own, bad]
    · rw [generate op]; simp [State.doGenerate, held]
    · rw [generate op]; simp [State.doGenerate, empty, known, usable]
    · rw [destroy op]; simp [State.doDestroy, used]
    · rw [destroy op]; simp [State.doDestroy, unused]

/-! ### The look-aside ring -/

section
variable (who : Writer) (prod : BitVec 8) (s : State)

theorem exec_la_of_unreached (out : s.laReached who = false) (c : Instr) (mem : c ∈ [Instr.laAcquire who, .laRelease who, .laProducerWrite who prod]) :
    exec c s = .next (s.laUnreached who).settle := by
  simp only [List.mem_cons, List.not_mem_nil, or_false] at mem
  rcases mem with rfl | rfl | rfl
  · show execLaAcquire who s = _; simp [execLaAcquire, settled, out]
  · show execLaRelease who s = _; simp [execLaRelease, settled, out]
  · show execLaProducerWrite who prod s = _; simp [execLaProducerWrite, settled, out]

theorem exec_laAcquire (reached : s.laReached who = true) : exec (.laAcquire who) s =
    .next (if s.rd Reg.CRY_LA_LOCK_OWNER = 0 then s.laTouch.wr Reg.CRY_LA_LOCK_OWNER (ownerCode who) else s).settle := by
  show execLaAcquire who s = _
  simp only [execLaAcquire, settled, reached, beq_iff_eq]
  rfl

theorem exec_laRelease (reached : s.laReached who = true) : exec (.laRelease who) s =
    .next (if s.rd Reg.CRY_LA_LOCK_OWNER ≠ ownerCode who then s else if s.laIdle then s.laFree
      else { s with cry := { s.cry with laReleasing := true } }).settle := by
  show execLaRelease who s = _
  simp only [execLaRelease, settled, reached, bne_iff_ne]
  rfl

theorem exec_laProducerWrite (reached : s.laReached who = true) : exec (.laProducerWrite who prod) s =
    .next (if s.rd Reg.CRY_LA_LOCK_OWNER = ownerCode who then (s.laTouch.wr Reg.CRY_LA_PROD prod.toNat).laShow else s.setErr .cry 8).settle := by
  show execLaProducerWrite who prod s = _
  simp only [execLaProducerWrite, settled, reached, beq_iff_eq]
  rfl

end

theorem ownerCode_lt (who : Writer) : ownerCode who < 2 ^ 8 := by
  cases who with
  | host => decide
  | seq n => show 0x10 + n.val < 2 ^ 8; omega

theorem exec_laForce (value : W32) (s : State) : exec (.laForce value) s =
    .next (if s.reached .cry = false then s.unreached .cry else if value.toNat / 65536 = 0x9648 then (s.laAbort 256).laFree else s).settle := by
  show execLaForce value s = _
  simp [execLaForce, settled]

theorem exec_laDescriptorDone_of_idle (s : State) (h : s.laIdle = true ∨ s.stopped .cry = true) :
    exec .laDescriptorDone s = .next s.settle := by
  show execLaDescriptorDone s = _
  rcases h with h | h <;> simp [execLaDescriptorDone, settled, h]

theorem exec_laDescriptorDone_of_busy (d : LaDesc) (s u : State) (busy : s.laIdle = false) (runs : s.stopped .cry = false)
    (hd : d = s.laDesc (s.laEntry (s.rd Reg.CRY_LA_CONS))) (hu : u = (s.laOne d).laAdvance) : exec .laDescriptorDone s =
      .next (if d.flags % 2 = 1 then u.raiseIn groupNotice sevInfo .cry Reg.CRY_LA_CONS.off noInstance (s.rd Reg.CRY_LA_CONS) else u).settle := by
  subst hu hd
  show execLaDescriptorDone s = _
  simp [execLaDescriptorDone, settled, busy, runs]

theorem exec_laLockTimeout_of_other (s : State) (h : s.rd Reg.CRY_LA_LOCK_OWNER = 0 ∨ s.laIdle = false) :
    exec .laLockTimeout s = .next s.settle := by
  show execLaLockTimeout s = _
  rcases h with h | h <;> simp [execLaLockTimeout, settled, h]

theorem exec_laLockTimeout_of_held (s : State) (held : s.rd Reg.CRY_LA_LOCK_OWNER ≠ 0) (idle : s.laIdle = true) :
    exec .laLockTimeout s = .next (((s.atLeast (s.cry.laIdleSince + s.rd Reg.CRY_LA_CFG_LOCK_TIMEOUT * ms)).laFree.count
      Reg.CRY_CNT_LOCK_TIMEOUTS).raise sevInfo .cry Reg.CRY_LA_LOCK_OWNER.off).settle := by
  show execLaLockTimeout s = _
  simp [execLaLockTimeout, settled, held, idle]

theorem State.owner_laFree (s : State) : s.laFree.rd Reg.CRY_LA_LOCK_OWNER = 0 :=
  State.rd_wr_same s Reg.CRY_LA_LOCK_OWNER 0 (by decide)

/-- Settles O21, request by request. -/
theorem lookAsideRingHasOneHolder : Obligations.LookAsideRingHasOneHolder := by
  refine ⟨exec_la_of_unreached, fun who prod s reached => ⟨fun free => ?acquire, fun held => ?stays, fun own idle => ?release,
      fun own busy => ?later, fun other => ?notHolder, fun own => ?produce, fun other => ?refused⟩, fun value s => ?force,
    exec_laDescriptorDone_of_idle, fun d s u busy runs hd hu => ?descriptor, exec_laLockTimeout_of_other, fun s held idle => ?timeout⟩
  case acquire =>
    rw [exec_laAcquire who s reached, if_pos free]
    refine ⟨_, rfl, ?_, RegistersChange.wr_settle s.laTouch _ _⟩
    rw [State.rd_settle _ _ (by decide) (by decide), State.rd_wr_same _ _ _ (by decide)]
    exact Nat.mod_eq_of_lt (ownerCode_lt who)
  case stays => rw [exec_laAcquire who s reached, if_neg held]
  case release =>
    rw [exec_laRelease who s reached, if_neg (Classical.not_not.2 own), if_pos idle]
    refine ⟨_, rfl, ?_, RegistersChange.wr_settle ({ s with cry := { s.cry with laReleasing := false } } : State) _ _⟩
    rw [State.rd_settle _ _ (by decide) (by decide), State.owner_laFree]
  case later => rw [exec_laRelease who s reached, if_neg (Classical.not_not.2 own), busy]; rfl
  case notHolder => rw [exec_laRelease who s reached, if_pos other]
  case produce =>
    rw [exec_laProducerWrite who prod s reached, if_pos own]
    refine ⟨_, rfl, ?_, (((RegistersChange.refl s.laTouch _).wr _ _ (by decide)).wr _ _ (by decide)).settled⟩
    rw [State.rd_settle _ _ (by decide) (by decide), State.laShow, State.wrB, State.rd_wr_ne _ _ _ _ (by decide),
      State.rd_wr_same _ _ _ (by decide)]
    exact Nat.mod_eq_of_lt prod.isLt
  case refused =>
    rw [exec_laProducerWrite who prod s reached, if_neg other]
    refine ⟨_, rfl, ?_, RegistersChange.wr_settle s _ _⟩
    rw [State.rd_settle _ _ (by decide) (by decide)]
    exact State.rd_wr_same _ _ _ (by decide)
  case force =>
    rw [exec_laForce]
    refine ⟨fun out => by rw [if_pos out], fun reached noKey => ?_, fun reached key => ⟨?_, State.owner_laFree _, rfl⟩⟩
    · rw [if_neg (by simp [reached]), if_neg noKey]
    · rw [if_neg (by simp [reached]), if_pos key]
  case descriptor =>
    rw [exec_laDescriptorDone_of_busy d s u busy runs hd hu]
    exact ⟨fun silent => by rw [if_neg (by omega)], fun asks => by rw [if_pos asks]⟩
  case timeout =>
    refine ⟨_, exec_laLockTimeout_of_held s held idle, ?_, ?_⟩
    · rw [State.rd_settle _ _ (by decide) (by decide), State.rd_raise _ _ _ _ _ _ _ (by decide) (by decide), State.rd_count, State.owner_laFree]
    · rw [State.counter_settle, State.counter_raise _ _ _ _ _ _ _ (by decide), State.counter_count_same]
      rfl

/-! ### The audit chain -/

/-- The record that an audit appends. -/
def State.auditRecord (s : State) (type : Nat) (a : Actor) (refused : Bool) (nsid slot : Nat) (d : AuditDetail) : AuditRec :=
  let body : AuditBody :=
    { seq := s.auditHead, secure := s.tm.secure, shelf := s.tm.shelf, type := type, actorKind := a.kind, refused := refused
      actor := a.id, nsid := nsid, slot := slot, detail := d, prevMac := (s.cry.audit.head?.map fun r => r.mac).getD 0 }
  ⟨body, s.auditMac body⟩

theorem State.ring_audit (s : State) (type : Nat) (a : Actor) (refused : Bool) (nsid slot : Nat) (d : AuditDetail) :
    (s.audit type a refused nsid slot d).cry.audit = (s.auditRecord type a refused nsid slot d :: s.cry.audit).take s.auditCapacity := by
  unfold State.audit State.auditRecord
  cases s.cry.audit <;> rfl

/-- What is shown of the audit ring leaves HEAD and ARCH. -/
theorem State.rd64_auditShow (s : State) (lo hi : Field) (h : ∀ f ∈ [lo, hi], f.key ≠ Reg.CRY_AUDIT_STATUS_FULL.key ∧
    f.key ≠ Reg.CRY_AUDIT_STATUS_CAPACITY.key) : s.auditShow.rd64 lo hi = s.rd64 lo hi := by
  have kept (f : Field) (mem : f ∈ [lo, hi]) : s.auditShow.rd f = s.rd f := by
    obtain ⟨full, capacity⟩ := h f mem
    rw [State.auditShow, State.wrB, State.rd_wr_ne _ _ _ _ capacity, State.rd_wr_ne _ _ _ _ full]
  rw [State.rd64, kept lo (by simp), kept hi (by simp), State.rd64]

theorem State.auditHead_audit (s : State) (type : Nat) (a : Actor) (refused : Bool) (nsid slot : Nat) (d : AuditDetail)
    (fits : s.auditHead + 1 < 2 ^ 64) : (s.audit type a refused nsid slot d).auditHead = s.auditHead + 1 := by
  unfold State.audit
  simp only
  rw [State.auditHead, State.rd64_auditShow _ _ _ (by decide)]
  exact State.rd64_wr64_same _ _ _ _ rfl rfl (by decide) fits

theorem exec_auditArchWrite (arch : W64) (s : State) : exec (.auditArchWrite arch) s =
    .next (if s.reached .cry = false then s.unreached .cry
      else if arch.toNat < s.auditArch ∨ s.auditHead < arch.toNat then s
      else (s.wr64 Reg.CRY_AUDIT_ARCH_LO Reg.CRY_AUDIT_ARCH_HI arch.toNat).auditShow).settle := by
  show execAuditArchWrite arch s = _
  simp [execAuditArchWrite, settled]

theorem State.auditBadAt_of_unheld (s : State) (n : Nat) (h : s.auditAt n = none) : s.auditBadAt n = true := by
  simp only [State.auditBadAt, h]

/-- A record whose predecessor the ring does not hold fails by its own MAC alone. -/
theorem State.auditBadAt_of_first_held (s : State) (n : Nat) (r : AuditRec) (hn : n ≠ 0) (h : s.auditAt n = some r)
    (hp : s.auditAt (n - 1) = none) : s.auditBadAt n = true ↔ r.mac ≠ s.auditMac r.body := by
  simp [State.auditBadAt, h, hp, hn]

/-- Settles O22: the record appended heads the ring, and HEAD and ARCH are read back past what is shown of the ring. -/
theorem auditRecordsAreChainedAndArchived : Obligations.AuditRecordsAreChainedAndArchived := by
  refine ⟨fun type a refused nsid slot d s room fits => ?record, fun arch s reached above below => ?raised, fun arch s reached out => ?ignored,
    fun arch s out => ?unreached, fun n s => s.auditBadAt_of_unheld n, fun n r s => s.auditBadAt_of_first_held n r⟩
  case record =>
    refine ⟨s.auditRecord type a refused nsid slot d, ?_, rfl, rfl, rfl, rfl, rfl, rfl, fun q last => ?_,
      s.auditHead_audit type a refused nsid slot d fits⟩
    · obtain ⟨n, capacity⟩ := Nat.exists_eq_add_one_of_ne_zero (Nat.ne_of_gt room)
      rw [State.ring_audit, capacity]; rfl
    · show (s.cry.audit.head?.map fun r => r.mac).getD 0 = q.mac
      rw [last]; rfl
  case raised =>
    rw [exec_auditArchWrite, if_neg (by simp [reached]), if_neg (by omega)]
    refine ⟨_, rfl, ?_, ?_⟩
    · rw [State.auditArch, State.rd64, State.rd_settle _ _ (by decide) (by decide), State.rd_settle _ _ (by decide) (by decide),
        ← State.rd64, State.rd64_auditShow _ _ _ (by decide)]
      exact State.rd64_wr64_same _ _ _ _ rfl rfl (by decide) arch.isLt
    · exact ((((RegistersChange.refl s _).wr64 _ _ _ (by decide) (by decide)).wr _ _ (by decide)).wr _ _ (by decide)).settled
  case ignored => rw [exec_auditArchWrite, if_neg (by simp [reached]), if_pos out]
  case unreached => rw [exec_auditArchWrite, if_pos out]

/-! ### Retention -/

theorem State.retOp_of_unreached (s u : State) (value : W32) (change : Ns → Option Ns) (hu : u = s.writeWord offRetAcc value)
    (out : u.reached .cry = false) : s.retOp value change = u := by
  subst hu
  simp [State.retOp, out]

section
variable (s u : State) (value : W32) (change : Ns → Option Ns) (id : Nat) (hu : u = s.writeWord offRetAcc value)
  (hid : id = u.rd Reg.CRY_RET_ACC_NSID) (reached : u.reached .cry = true)
include hu hid reached

theorem State.retOp_of_full (full : u.auditFull = true) : s.retOp value change = u.retShow id retAuditFull := by
  subst hid hu
  simp [State.retOp, reached, full]

variable (room : u.auditFull = false)
include room

theorem State.retOp_of_unlocked (h : Tab.find id u.ns = none ∨ ∃ n : Ns, Tab.find id u.ns = some n ∧ n.retain = false) :
    s.retOp value change = (u.audited offRetAcc value true id).retShow id retNotLocked := by
  subst hid hu
  rcases h with h | ⟨n, h, open_⟩
  · simp [State.retOp, reached, room, h]
  · simp [State.retOp, reached, room, h, open_]

variable (n : Ns) (found : Tab.find id u.ns = some n) (locked : n.retain = true)
include found locked

theorem State.retOp_of_locked : s.retOp value change = (change n).elim ((u.audited offRetAcc value true id).retShow id retNotLater) fun n' =>
    (((u.putNs id n').audited offRetAcc value false id).retJudge id).retShow id retOk := by
  subst hid hu
  cases new : change n <;> simp [State.retOp, reached, room, found, locked, new]

end

theorem exec_eraseDelayExpiry_of_none (nsid : Nat) (s : State) (none : Tab.find nsid s.ns = none) :
    exec (.eraseDelayExpiry nsid) s = .next s.settle := by
  show execEraseDelayExpiry nsid s = _
  simp only [execEraseDelayExpiry, settled, none]

theorem exec_eraseDelayExpiry_of_some (nsid : Nat) (n : Ns) (s : State) (found : Tab.find nsid s.ns = some n) :
    exec (.eraseDelayExpiry nsid) s =
      .next (if n.retState ≠ retExpiring ∨ s.owns n = false ∨ n.hold = true ∨ s.tm.secure < n.expiry ∨ s.auditSpent = true then s
        else (((s.advance ((s.rd Reg.CRY_RET_CFG_ERASE_DELAY * 3600 - n.expiringSecs) * sec)).destroyKey n.keySlot actController .expiry
          nsid).retChange nsid n retExpired).count Reg.CRY_CNT_RET_EXPIRED).settle := by
  show execEraseDelayExpiry nsid s = _
  simp [execEraseDelayExpiry, settled, found, or_assoc]

theorem State.retJudge_eq (s : State) (nsid : Nat) (n : Ns) (found : Tab.find nsid s.ns = some n) : s.retJudge nsid =
    if n.retState = retLocked ∧ n.hold = false ∧ n.expiry ≤ s.tm.secure then s.retChange nsid n retExpiring
    else if n.retState = retExpiring ∧ (n.hold = true ∨ s.tm.secure < n.expiry) then s.retChange nsid n retLocked else s := by
  simp [State.retJudge, found, and_assoc]

theorem exec_retentionRead (value : W32) (s u : State) (hu : u = s.writeWord offRetAcc value) : exec (.retentionRead value) s =
    .next (if u.reached .cry = false then u else u.retShow (u.rd Reg.CRY_RET_ACC_NSID)
      (if (Tab.getD (u.rd Reg.CRY_RET_ACC_NSID) { nsze := 0 } u.ns).retain then retOk else retNotLocked)).settle := by
  subst hu
  show execRetentionRead value s = _
  simp [execRetentionRead, settled]

/-- HOLD_SET, HOLD_CLEAR and EXTEND differ in the change that they make. -/
theorem exec_retOp (value : W32) (s : State) (c : Instr) (mem : c ∈ [Instr.holdSet value, .holdClear value, .extend value]) :
    ∃ change : Ns → Option Ns, exec c s = .next (s.retOp value change).settle := by
  simp only [List.mem_cons, List.not_mem_nil, or_false] at mem
  rcases mem with rfl | rfl | rfl <;> exact ⟨_, rfl⟩

/-- Settles O24: one rule for the three changes, and the judgement by state, hold and EXPIRY. -/
theorem retentionIsReportedHeldExtendedAndExpired : Obligations.RetentionIsReportedHeldExtendedAndExpired := by
  refine ⟨fun value id s u hu hid => ⟨fun out c mem => ?unreached, fun reached => ?read, fun reached full c mem => ?full,
      fun reached room no c mem => ?unlocked, fun n reached room found locked => ⟨?hold, ?clear, fun until_ hun => ⟨fun later => ?extend,
        fun earlier => ?notLater⟩⟩⟩, fun s => ?check, fun nsid n s found => ?judge, exec_eraseDelayExpiry_of_none,
    fun nsid n s found => ?erase⟩
  case unreached =>
    rw [List.mem_cons] at mem
    rcases mem with rfl | mem
    · rw [exec_retentionRead value s u hu, if_pos out]
    · obtain ⟨change, ends⟩ := exec_retOp value s c mem
      rw [ends, s.retOp_of_unreached u value change hu out]
  case read => subst hid; rw [exec_retentionRead value s u hu, if_neg (by simp [reached])]
  case full =>
    obtain ⟨change, ends⟩ := exec_retOp value s c mem
    rw [ends, s.retOp_of_full u value change id hu hid reached full]
  case unlocked =>
    obtain ⟨change, ends⟩ := exec_retOp value s c mem
    rw [ends, s.retOp_of_unlocked u value change id hu hid reached room no]
  case hold => show settled (s.retOp value _) = _; rw [s.retOp_of_locked u value _ id hu hid reached room n found locked]; rfl
  case clear => show settled (s.retOp value _) = _; rw [s.retOp_of_locked u value _ id hu hid reached room n found locked]; rfl
  case extend =>
    subst hun
    show settled (s.retOp value _) = _
    rw [s.retOp_of_locked u value _ id hu hid reached room n found locked, if_pos later]; rfl
  case notLater =>
    subst hun
    show settled (s.retOp value _) = _
    rw [s.retOp_of_locked u value _ id hu hid reached room n found locked, if_neg (by omega)]; rfl
  case check => rfl
  case judge =>
    rw [s.retJudge_eq nsid n found]
    refine ⟨fun locked free past => if_pos ⟨locked, free, past⟩, fun expiring stays => ?_, fun locked stays => ?_⟩
    · rw [if_neg (by simp [expiring, retExpiring, retLocked]), if_pos ⟨expiring, stays⟩]
    · rw [if_neg, if_neg (by simp [locked, retExpiring, retLocked])]
      rintro ⟨_, free, past⟩
      rcases stays with hold | before
      · rw [hold] at free; cases free
      · omega
  case erase =>
    rw [exec_eraseDelayExpiry_of_some nsid n s found]
    refine ⟨fun stays => by rw [if_pos stays], fun expiring owned free past room => ?_⟩
    rw [if_neg]
    simp only [expiring, owned, free, room, ne_eq, not_true_eq_false, Bool.true_eq_false, Bool.false_eq_true, false_or, or_false]
    omega

end Sys2Proof.Machine
end
/-! ## Flash translation: stripes, the map store, tanks and media (O25 to O28) -/

section
namespace Sys2Proof.Machine

/-! ### Stripes -/

theorem exec_stripeAssemblyTimeout (layout cls : Nat) (s : State) : exec (.stripeAssemblyTimeout layout cls) s =
    .next ((Tab.find (clsKey cls layout) s.ftl.asm).elim s fun st =>
      ((((s.atLeast (st.since + s.rd Reg.FTL_ASSEMBLY_ASSEMBLY_WAIT * 100 * us)).programStripe (clsKey cls layout)).count
        Reg.FTL_CNT_STRIPES_PADDED).assignAll)).settle := by
  show execStripeAssemblyTimeout layout cls s = _
  unfold execStripeAssemblyTimeout settled
  cases Tab.find (clsKey cls layout) s.ftl.asm <;> rfl

theorem exec_mergeWaitExpiry (nsid iu : Nat) (s : State) : exec (.mergeWaitExpiry nsid iu) s =
    .next ((s.ftl.versions.find? fun v => v.nsid == nsid && v.iu == iu && !v.whole).elim s fun v =>
      (s.atLeast (v.since + s.rd Reg.FTL_ASSEMBLY_MERGE_WAIT * 100 * us)).compose nsid iu).settle := by
  show execMergeWaitExpiry nsid iu s = _
  unfold execMergeWaitExpiry settled
  cases s.ftl.versions.find? _ <;> rfl

theorem exec_stripeCommit_of_none (seq : Nat) (s : State) (none : Tab.find seq s.ftl.fly = none) :
    exec (.stripeCommit seq) s = .next s.settle := by
  show execStripeCommit seq s = _
  simp only [execStripeCommit, settled, none]

theorem exec_stripeCommit_of_some (seq : Nat) (s : State) (st : Stripe) (fly : Tab.find seq s.ftl.fly = some st) :
    exec (.stripeCommit seq) s = .next (if st.settled = false ∨ s.commitWaits st = true then s
      else (if st.missing = [] then s.commitStripe st else s.settleShort st).composeForSpace.movesGoOn).settle := by
  show execStripeCommit seq s = _
  simp [execStripeCommit, settled, fly]

/-- Settles O25: each command acts on the stripe or fragment it finds, and a commit waits for its answers and its room. -/
theorem stripesAreAssembledComposedAndCommitted : Obligations.StripesAreAssembledComposedAndCommitted := by
  refine ⟨fun layout cls s => ?assembly, fun nsid iu s => ?merge, fun seq s => ⟨exec_stripeCommit_of_none seq s, fun st fly => ?commit⟩⟩
  case assembly =>
    rw [exec_stripeAssemblyTimeout]
    exact ⟨fun none => by rw [none]; rfl, fun st some => by rw [some]; rfl⟩
  case merge =>
    rw [exec_mergeWaitExpiry]
    exact ⟨fun none => by rw [none]; rfl, fun v some => by rw [some]; rfl⟩
  case commit =>
    rw [exec_stripeCommit_of_some seq s st fly]
    refine ⟨fun waits => by rw [if_pos waits], fun settled room whole => ?_, fun settled room short => ?_⟩
    · rw [if_neg (by simp [settled, room]), if_pos whole]
    · rw [if_neg (by simp [settled, room]), if_neg short]

/-! ### The map store -/

theorem exec_checkpointTrigger (s : State) : exec .checkpointTrigger s =
    .next (if s.ftl.journal = [] ∨ s.ftl.flushing ≠ none then s else (s.atLeast (s.ftl.lastCkpt + s.ckptMax * 10 * ms)).beginFlush).settle := by
  show execCheckpointTrigger s = _
  simp [execCheckpointTrigger, settled, Option.isSome_iff_ne_none]

theorem exec_checkpointDone_of_waiting (s : State) (h : (∀ n q : Nat, s.ftl.flushing ≠ some (n, q, true)) ∨ s.ftl.metaRedo ≠ []) :
    exec .checkpointDone s = .next s.settle := by
  show execCheckpointDone s = _
  unfold execCheckpointDone settled
  split
  case h_1 n q durable =>
    rw [if_pos]
    rcases h with h | h
    · exact absurd durable (h n q)
    · simpa using h
  case h_2 => rfl

theorem exec_segmentRotate (nsid seg : Nat) (s : State) : exec (.segmentRotate nsid seg) s =
    .next (if (s.nsOf nsid).any (fun n => decide (seg < n.segments)) = false then s
      else (s.atLeast (Tab.getD seg 0 (Tab.getD nsid {} s.ftl.segs).rotated + s.rd Reg.FTL_CKPT_ROTATE * 10 * sec)).writeMeta
        (.base nsid seg)).settle := by
  show execSegmentRotate nsid seg s = _
  cases h : (s.nsOf nsid).any fun n => decide (seg < n.segments) <;> simp only [execSegmentRotate, settled, h] <;> rfl

theorem exec_segmentFetchDone (nsid seg : Nat) (room : Bool) (s : State) : exec (.segmentFetchDone nsid seg room) s =
    .next (if (nsid, seg) ∉ s.ftl.waitSegs then s
      else if room = true then s.loadSegment nsid seg
      else s.lruSegment.elim s fun e => (s.evict e.1 e.2).loadSegment nsid seg).settle := by
  show execSegmentFetchDone nsid seg room s = _
  unfold execSegmentFetchDone settled
  cases s.lruSegment <;> simp

/-- Settles O26: a flush ends once its copies are durable and none is to be written again. -/
theorem mapStoreIsFlushedRotatedAndFetched : Obligations.MapStoreIsFlushedRotatedAndFetched := by
  refine ⟨fun s => ?trigger, exec_checkpointDone_of_waiting, fun n q seq s v durable redo hseq hv => ?done, fun nsid seg s => ?rotate,
    fun nsid seg s => ⟨fun idle room => ?idle, fun waits => ⟨?room, fun none => ?stuck, fun e lru => ?evicts⟩⟩⟩
  case trigger =>
    rw [exec_checkpointTrigger]
    exact ⟨fun waits free => by rw [if_neg (by simp [waits, free])], fun idle => by rw [if_pos idle]⟩
  case done =>
    subst hv hseq
    show execCheckpointDone s = _
    simp only [execCheckpointDone, settled, durable, redo, List.isEmpty_nil, Bool.not_true, Bool.false_eq_true, if_false] <;> rfl
  case rotate =>
    rw [exec_segmentRotate]
    exact ⟨fun there => by rw [if_neg (by simp [there])], fun none => by rw [if_pos none]⟩
  case idle => rw [exec_segmentFetchDone, if_pos idle]
  case room => rw [exec_segmentFetchDone, if_neg (Classical.not_not.2 waits), if_pos rfl]
  case stuck => rw [exec_segmentFetchDone, if_neg (Classical.not_not.2 waits), if_neg (by decide), none]; rfl
  case evicts => rw [exec_segmentFetchDone, if_neg (Classical.not_not.2 waits), if_neg (by decide), lru]; rfl

/-! ### Tanks -/

theorem exec_openIdleExpiry (tank : Nat) (s : State) : exec (.openIdleExpiry tank) s =
    .next (if (s.tankOf tank).st ≠ tkOpen ∨ (s.tankOf tank).mine = false then s
      else ((s.atLeast ((s.tankOf tank).lastStripe + s.rd Reg.FTL_TANK_CFG_OPEN_IDLE * sec)).closeShort tank).assignAll).settle := by
  show execOpenIdleExpiry tank s = _
  simp [execOpenIdleExpiry, settled]

theorem exec_drawdownCopyIssue (s u : State) (hu : u = if (s.nextCopy true fun _ _ => true).isSome then s else s.feedSources) :
    exec .drawdownCopyIssue s = .next (if s.ftl.debt = 0 ∨ s.begins .ftl = false then s
      else u.issueCopy true fun c d => u.mayIssue c d u.readBound).settle := by
  subst hu
  show execDrawdownCopyIssue s = _
  simp [execDrawdownCopyIssue, settled]

theorem exec_tankDrawDone (tank : Nat) (s : State) : exec (.tankDrawDone tank) s =
    .next (if (s.tankOf tank).st ≠ tkDraw ∨ (s.tankOf tank).mine = false ∨ s.validSectors tank ≠ 0 ∨ (s.tankOf tank).readers ≠ 0 then s
      else if s.partnerServes = true ∧ (s.tankOf tank).released = false then
        (if (s.tankOf tank).releaseSent = true then s
         else (s.toPartner (.release tank)).updTank tank fun tk => { tk with releaseSent := true })
      else ((s.updTank tank fun tk => { tk with st := tkErasing }).journalTank tank tkErasing).showTanks).settle := by
  show execTankDrawDone tank s = _
  simp [execTankDrawDone, settled, or_assoc]

/-- What ends the erasure of a tank: every member erased, or its cistern gone. -/
def State.tankErased (s : State) (tank : Nat) : Bool :=
  (s.tankOf tank).members.all fun m => m.erased || s.cst m.cistern == cFailed || s.cst m.cistern == cEmpty

theorem State.tankErased_iff (s : State) (tank : Nat) : s.tankErased tank = true ↔
    ∀ m ∈ (s.tankOf tank).members, m.erased = true ∨ s.cst m.cistern = cFailed ∨ s.cst m.cistern = cEmpty := by
  simp [State.tankErased, or_assoc]

theorem exec_tankEraseDone_of_waiting (tank : Nat) (s : State) (h : (s.tankOf tank).st ≠ tkErasing ∨ s.tankErased tank = false) :
    exec (.tankEraseDone tank) s = .next s.settle := by
  show settled (if ((s.tankOf tank).st != tkErasing || !s.tankErased tank) = true then s else _) = _
  rw [if_pos (by simpa using h)]; rfl

theorem exec_refreshScan (s u : State) (hu : u = s.atLeast (s.ftl.lastScan + s.rd Reg.FTL_REFRESH_SCAN * 60 * sec)) :
    exec .refreshScan s = .next (if u.begins .ftl = true then u.scanTanks else u).settle := by
  subst hu; rfl

/-- Settles O27: the states of a tank in turn, each left once its condition is met. -/
theorem tanksAreClosedDrawnErasedAndScanned : Obligations.TanksAreClosedDrawnErasedAndScanned := by
  refine ⟨fun tank s => ?idle, fun s => ?copy, fun tank s => ?draw, fun tank s waits => ?waits, fun tank s u v erasing done hu hv => ?done,
    fun s u hu => ?scan⟩
  case idle =>
    rw [exec_openIdleExpiry]
    exact ⟨fun isOpen mine => by rw [if_neg (by simp [isOpen, mine])], fun other => by rw [if_pos other]⟩
  case copy =>
    rw [exec_drawdownCopyIssue s _ rfl]
    refine ⟨fun debt runs next => ?_, fun debt runs none => ?_, fun idle => by rw [if_pos idle]⟩
    · rw [if_neg (by simp [debt, runs]), if_pos next]
    · rw [if_neg (by simp [debt, runs]), if_neg (by simp [none])]
  case draw =>
    rw [exec_tankDrawDone]
    refine ⟨fun other => by rw [if_pos other], fun drawn mine empty unread => ?_⟩
    rw [if_neg (by simp [drawn, mine, empty, unread])]
    refine ⟨fun serves kept sent => ?_, fun serves kept unsent => ?_, fun alone => ?_⟩
    · rw [if_pos ⟨serves, kept⟩, if_pos sent]
    · rw [if_pos ⟨serves, kept⟩, if_neg (by simp [unsent])]
    · rw [if_neg]
      rintro ⟨serves, kept⟩
      rcases alone with h | h
      · rw [h] at serves; cases serves
      · rw [h] at kept; cases kept
  case waits =>
    refine exec_tankEraseDone_of_waiting tank s (waits.imp_right fun ⟨m, mem, unerased, present⟩ => ?_)
    rw [← Bool.not_eq_true, s.tankErased_iff]
    intro all
    rcases all m mem with h | h
    · rw [h] at unerased; cases unerased
    · exact h.elim present.1 present.2
  case done =>
    subst hv hu
    show settled (if ((s.tankOf tank).st != tkErasing || !s.tankErased tank) = true then s else _) = _
    rw [if_neg (by simp [erasing, (s.tankErased_iff tank).2 done])]
    rfl
  case scan =>
    rw [exec_refreshScan s u hu]
    exact ⟨fun runs => by rw [if_pos runs], fun stopped => by rw [if_neg (by simp [stopped])]⟩

/-! ### Media -/

/-- The block that FTL_BLOCK_ACC names, and whether it is there. -/
def State.accBlock (u : State) : Nat :=
  blkKey (u.rd Reg.FTL_BLOCK_ACC_CISTERN) (u.rd Reg.FTL_BLOCK_SEL_DIE) (u.rd Reg.FTL_BLOCK_SEL_BLOCK)

def State.accThere (u : State) : Bool :=
  decide (u.rd Reg.FTL_BLOCK_ACC_CISTERN < 48) && decide (u.rd Reg.FTL_BLOCK_SEL_DIE < u.dies (u.rd Reg.FTL_BLOCK_ACC_CISTERN)) &&
    decide (u.rd Reg.FTL_BLOCK_SEL_BLOCK < u.blocksPerDie (u.rd Reg.FTL_BLOCK_ACC_CISTERN))

/-- What RETIRE does of a block that is there. -/
def State.accRetire (u : State) : State :=
  let v := u.wr Reg.FTL_BLOCK_STATUS_RESULT brOk
  if 2 ≤ (u.blkOf u.accBlock).st then u.wr Reg.FTL_BLOCK_STATUS_RESULT brAlready
  else ((if (v.blkOf u.accBlock).tank.isNone then v.updBlk u.accBlock id else v).markBlock u.accBlock).checkWorn (u.rd Reg.FTL_BLOCK_ACC_CISTERN)

/-- What READ shows of a block that is there. -/
def State.accShow (w : State) (k : Nat) : State :=
  ((w.wr Reg.FTL_BLOCK_STATUS_RESULT brOk).wr Reg.FTL_BLOCK_DATA0_RECORD ((w.blkOf k).pe + 2 ^ 20 * (w.blkOf k).st + 2 ^ 23 * (w.blkOf k).unc)).wr
    Reg.FTL_BLOCK_DATA1_TANK ((w.blkOf k).tank.getD 0xFFFFFFFF)

theorem State.blockAccess_eq (s u : State) (value : W32) (hu : u = s.writeWord 0x1C00224 value) : s.blockAccess value =
    if u.decodeOf .ftl ≠ .all then u
    else
      let w := if value.toNat / 2 ^ 30 % 2 = 0 then u
        else if u.accThere = false then u.wr Reg.FTL_BLOCK_STATUS_RESULT brBadAddress else u.accRetire
      if value.toNat / 2 ^ 31 = 0 then w
      else if u.accThere = false then w.wr Reg.FTL_BLOCK_STATUS_RESULT brBadAddress else w.accShow u.accBlock := by
  subst hu
  unfold State.blockAccess
  simp only [bne_iff_ne, beq_iff_eq, Bool.not_eq_true']
  rfl

theorem State.accShow_shows (w : State) (k : Nat) : (w.accShow k).settle.rd Reg.FTL_BLOCK_STATUS_RESULT = brOk ∧
    (w.accShow k).settle.rd Reg.FTL_BLOCK_DATA0_RECORD = ((w.blkOf k).pe + 2 ^ 20 * (w.blkOf k).st + 2 ^ 23 * (w.blkOf k).unc) % 2 ^ 25 ∧
    (w.accShow k).settle.rd Reg.FTL_BLOCK_DATA1_TANK = (w.blkOf k).tank.getD 0xFFFFFFFF % 2 ^ 32 := by
  refine ⟨?_, ?_, ?_⟩
  · rw [State.rd_settle _ _ (by decide) (by decide), State.accShow, State.rd_wr_ne _ _ _ _ (by decide), State.rd_wr_ne _ _ _ _ (by decide),
      State.rd_wr_same _ _ _ (by decide)]
    rfl
  · rw [State.rd_settle _ _ (by decide) (by decide), State.accShow, State.rd_wr_ne _ _ _ _ (by decide), State.rd_wr_same _ _ _ (by decide)]
    rfl
  · rw [State.rd_settle _ _ (by decide) (by decide), State.accShow, State.rd_wr_same _ _ _ (by decide)]
    rfl

theorem State.accShow_registers (w : State) (k : Nat) : RegistersChange w (w.accShow k).settle
    [Reg.FTL_BLOCK_STATUS_RESULT, Reg.FTL_BLOCK_DATA0_RECORD, Reg.FTL_BLOCK_DATA1_TANK] :=
  ((((RegistersChange.refl w _).wr _ _ (by decide)).wr _ _ (by decide)).wr _ _ (by decide)).settled

/-- BLOCK_RETIRE and BLOCK_RECORD_READ are one write of one register. -/
theorem exec_blockAccess (value : W32) (s : State) (c : Instr) (mem : c ∈ [Instr.blockRetire value, .blockRecordRead value]) :
    exec c s = .next (s.blockAccess value).settle := by
  simp only [List.mem_cons, List.not_mem_nil, or_false] at mem
  rcases mem with rfl | rfl <;> rfl

theorem State.rd_result_settle (u : State) (code : Nat) (h : code < 4) :
    (u.wr Reg.FTL_BLOCK_STATUS_RESULT code).settle.rd Reg.FTL_BLOCK_STATUS_RESULT = code := by
  rw [State.rd_settle _ _ (by decide) (by decide), State.rd_wr_same _ _ _ (by decide)]
  exact Nat.mod_eq_of_lt h

section
variable (s u : State) (value : W32) (hu : u = s.writeWord 0x1C00224 value) (decodes : u.decodeOf .ftl = .all)
include hu decodes

theorem State.blockAccess_of_absent (absent : u.accThere = false) (asks : 2 ^ 30 ≤ value.toNat) :
    ∃ v : State, s.blockAccess value = v.wr Reg.FTL_BLOCK_STATUS_RESULT brBadAddress ∧
      (v = u ∨ v = u.wr Reg.FTL_BLOCK_STATUS_RESULT brBadAddress) := by
  have small := value.isLt
  rw [s.blockAccess_eq u value hu, if_neg (Classical.not_not.2 decodes)]
  simp only [absent, if_true]
  by_cases reads : value.toNat / 2 ^ 31 = 0
  · rw [if_pos reads, if_neg (by omega)]
    exact ⟨u, rfl, .inl rfl⟩
  · rw [if_neg reads]
    by_cases retires : value.toNat / 2 ^ 30 % 2 = 0
    · rw [if_pos retires]
      exact ⟨u, rfl, .inl rfl⟩
    · rw [if_neg retires]
      exact ⟨_, rfl, .inr rfl⟩

variable (there : u.accThere = true)
include there

theorem State.blockAccess_of_retire (asks : 2 ^ 30 ≤ value.toNat) (alone : value.toNat < 2 ^ 31) : s.blockAccess value = u.accRetire := by
  rw [s.blockAccess_eq u value hu, if_neg (Classical.not_not.2 decodes)]
  simp only [there, Bool.true_eq_false, if_false]
  rw [if_pos (by omega), if_neg (by omega)]

theorem State.blockAccess_of_read (asks : 2 ^ 31 ≤ value.toNat) (alone : value.toNat < 3 * 2 ^ 30) :
    s.blockAccess value = u.accShow u.accBlock := by
  rw [s.blockAccess_eq u value hu, if_neg (Classical.not_not.2 decodes)]
  simp only [there, Bool.true_eq_false, if_false]
  rw [if_neg (by omega), if_pos (by omega)]

theorem State.blockAccess_of_both (asks : 3 * 2 ^ 30 ≤ value.toNat) : s.blockAccess value = u.accRetire.accShow u.accBlock := by
  have small := value.isLt
  rw [s.blockAccess_eq u value hu, if_neg (Classical.not_not.2 decodes)]
  simp only [there, Bool.true_eq_false, if_false]
  rw [if_neg (by omega), if_neg (by omega)]

end

theorem exec_graceExpiry (slot : Fin 48) (s : State) : exec (.graceExpiry slot) s =
    .next ((Tab.find slot.val s.ftl.graceAt).elim s fun t => if s.cst slot ≠ cAbsent then s else (s.atLeast t).toRebuilding slot).settle := by
  show execGraceExpiry slot s = _
  unfold execGraceExpiry settled
  cases Tab.find slot.val s.ftl.graceAt <;> simp

/-- A choice by two conditions is a choice inside a choice. -/
theorem ite_conj {α : Type} (p q : Prop) [Decidable p] [Decidable q] (x y : α) :
    (if p ∧ q then x else y) = if p then (if q then x else y) else y := by
  by_cases hp : p <;> simp only [hp, true_and, false_and, if_true, if_false]

theorem exec_cisternFail (slot : Fin 48) (value : W32) (s u : State) (hu : u = s.writeWord (0x2000200 + 4 * slot.val) value) :
    exec (.cisternFail slot value) s = .next (if (u.decodeOf .par = .all ∧ value.toNat / 2 ^ 16 % 2 = 1) ∧
      (u.inService slot = true ∨ u.cst slot = cAbsent) then u.toRebuilding slot else u).settle := by
  subst hu
  show execCisternFail slot value s = _
  simp [execCisternFail, settled, State.hardFail, ite_conj]

theorem exec_rebuildSweepDone (slot : Fin 48) (s : State) : exec (.rebuildSweepDone slot) s =
    .next (if s.cst slot ≠ cRebuilding ∨ slot.val ∈ s.ftl.swept ∨ s.ftl.waitSegs ≠ [] then s
      else (({ s with ftl := { s.ftl with swept := slot.val :: s.ftl.swept, found := s.sweep slot } } : State).checkAllFailed.startSubst
        ).showRebuild).settle := by
  show execRebuildSweepDone slot s = _
  simp [execRebuildSweepDone, settled, or_assoc]

theorem exec_tankSubstituted (s : State) : exec .tankSubstituted s =
    .next (s.ftl.subst.elim s.startSubst.showRebuild fun u => if u.stripe < (s.tankOf u.tank).begun then s
      else ((s.atLeast (u.since + 10 * s.substBytes u / max 1 (s.substRate u))).substituteTank u).showRebuild).settle := by
  show execTankSubstituted s = _
  unfold execTankSubstituted settled
  cases s.ftl.subst <;> rfl

/-- An entry of the lost list in the DATA registers. -/
def State.lostShown (u : State) (e : Lost) : State :=
  [e.nsid, e.nlb - 1, e.slba % 2 ^ 32, e.slba / 2 ^ 32, e.tank, e.stripe + 2 ^ 16 * e.cause, e.time % 2 ^ 32, e.time / 2 ^ 32].zipIdx.foldl
    (fun s w => s.wr (Reg.PAR_LOST_DATA.at w.2) w.1) (u.wr Reg.PAR_LOST_ACC_STATUS_VALID 1)

theorem exec_lostListRead_of_out (value : W32) (s u : State) (hu : u = s.writeWord 0x2000310 value)
    (out : u.decodeOf .par ≠ .all ∨ value.toNat / 2 ^ 31 = 0) : exec (.lostListRead value) s = .next u.settle := by
  show execLostListRead value s = _
  unfold execLostListRead settled
  simp only [← hu]
  rw [if_pos (by simpa using out)]

theorem exec_lostListRead_of_asked (value : W32) (s u : State) (hu : u = s.writeWord 0x2000310 value) (decodes : u.decodeOf .par = .all)
    (asks : value.toNat / 2 ^ 31 ≠ 0) : exec (.lostListRead value) s =
      .next (u.ftl.lost[u.rd Reg.PAR_LOST_ACC_INDEX]?.elim (u.wr Reg.PAR_LOST_ACC_STATUS_VALID 0) u.lostShown).settle := by
  show execLostListRead value s = _
  unfold execLostListRead settled
  simp only [← hu]
  rw [if_neg (by simpa [decodes] using asks)]
  cases u.ftl.lost[u.rd Reg.PAR_LOST_ACC_INDEX]? <;> simp only [Option.elim, State.lostShown]

theorem State.lostShown_registers (u : State) (e : Lost) : RegistersChange u (u.lostShown e).settle
    (Reg.PAR_LOST_ACC_STATUS_VALID :: (List.range 8).map Reg.PAR_LOST_DATA.at) := by
  have step (s : State) (i v : Nat) (hi : i ∈ List.range 8)
      (h : RegistersChange u s (Reg.PAR_LOST_ACC_STATUS_VALID :: (List.range 8).map Reg.PAR_LOST_DATA.at)) :
      RegistersChange u (s.wr (Reg.PAR_LOST_DATA.at i) v) (Reg.PAR_LOST_ACC_STATUS_VALID :: (List.range 8).map Reg.PAR_LOST_DATA.at) :=
    h.wr _ _ (List.mem_map_of_mem (List.mem_append_right _ (List.mem_cons_of_mem _ (List.mem_map_of_mem hi))))
  refine RegistersChange.settled ?_
  simp only [State.lostShown, List.zipIdx, List.foldl]
  repeat refine step _ _ _ (by decide) ?_
  exact (RegistersChange.refl u _).wr _ _ (List.mem_map_of_mem (List.mem_append_right _ List.mem_cons_self))

theorem State.rd_lostShown_valid (u : State) (e : Lost) : (u.lostShown e).settle.rd Reg.PAR_LOST_ACC_STATUS_VALID = 1 := by
  rw [State.rd_settle _ _ (by decide) (by decide)]
  simp only [State.lostShown, List.zipIdx, List.foldl]
  repeat rw [State.rd_wr_ne _ _ _ _ (by decide)]
  exact State.rd_wr_same _ _ _ (by decide)

theorem State.rd_lostShown_data (u : State) (e : Lost) : let t := (u.lostShown e).settle
    t.rd (Reg.PAR_LOST_DATA.at 0) = e.nsid % 2 ^ 32 ∧ t.rd (Reg.PAR_LOST_DATA.at 1) = (e.nlb - 1) % 2 ^ 32 ∧
    t.rd (Reg.PAR_LOST_DATA.at 2) = e.slba % 2 ^ 32 ∧ t.rd (Reg.PAR_LOST_DATA.at 3) = e.slba / 2 ^ 32 % 2 ^ 32 ∧
    t.rd (Reg.PAR_LOST_DATA.at 4) = e.tank % 2 ^ 32 ∧ t.rd (Reg.PAR_LOST_DATA.at 5) = (e.stripe + 65536 * e.cause) % 2 ^ 32 ∧
    t.rd (Reg.PAR_LOST_DATA.at 6) = e.time % 2 ^ 32 ∧ t.rd (Reg.PAR_LOST_DATA.at 7) = e.time / 2 ^ 32 % 2 ^ 32 := by
  intro t
  have shown (i : Nat) (hi : i ∈ List.range 8) : t.rd (Reg.PAR_LOST_DATA.at i) = (u.lostShown e).rd (Reg.PAR_LOST_DATA.at i) := by
    refine State.rd_settle _ _ ?_ ?_ <;> revert i <;> decide
  rw [shown 0 (by decide), shown 1 (by decide), shown 2 (by decide), shown 3 (by decide), shown 4 (by decide), shown 5 (by decide),
    shown 6 (by decide), shown 7 (by decide)]
  simp only [State.lostShown, List.zipIdx, List.foldl]
  refine ⟨?_, ?_, ?_, ?_, ?_, ?_, ?_, ?_⟩ <;>
  · repeat rw [State.rd_wr_ne _ _ _ _ (by decide)]
    rw [State.rd_wr_same _ _ _ (by decide)]
    simp [Field.at, Reg.PAR_LOST_DATA]

/-- Settles O28: one write serves both triggers of FTL_BLOCK_ACC; each other command acts on the cistern, tank or entry it finds. -/
theorem mediaIsRetiredRebuiltAndAccounted : Obligations.MediaIsRetiredRebuiltAndAccounted := by
  refine ⟨fun value k there s u hu hk hthere c mem => ?block, fun slot s => ?grace, fun slot value s u hu => ?fail, fun slot s => ?sweep,
    fun s => ?subst, fun value s u hu => ?lost⟩
  case block =>
    rw [exec_blockAccess value s c mem]
    have accBlock : k = u.accBlock := hk
    have accThere : there = u.accThere := hthere
    refine ⟨fun out => ?undecoded, fun decodes asks absent => ?absent, fun v w hv hw => ?there⟩
    case undecoded =>
      rw [s.blockAccess_eq u value hu]
      by_cases d : u.decodeOf .ftl = .all
      · have small : value.toNat < 2 ^ 30 := out.resolve_left (Classical.not_not.2 d)
        rw [if_neg (Classical.not_not.2 d)]
        simp only
        rw [if_pos (by omega), if_pos (by omega)]
      · rw [if_pos d]
    case absent =>
      obtain ⟨v, ends, hv⟩ := s.blockAccess_of_absent u value hu decodes (accThere ▸ absent) asks
      rw [ends]
      refine ⟨_, rfl, State.rd_result_settle v brBadAddress (by decide), ?_⟩
      rcases hv with rfl | rfl
      · exact RegistersChange.wr_settle _ _ _
      · exact (((RegistersChange.refl u _).wr _ _ (by decide)).wr _ _ (by decide)).settled
    case there =>
      have retired : w = u.accRetire := by subst hw hv; rw [accBlock]; rfl
      refine ⟨fun decodes asks alone present => ?_, fun decodes asks alone present => ?_, fun decodes asks present => ?_⟩
      · rw [s.blockAccess_of_retire u value hu decodes (accThere ▸ present) asks alone, retired]
      · rw [s.blockAccess_of_read u value hu decodes (accThere ▸ present) asks alone, accBlock]
        obtain ⟨result, record, tank⟩ := u.accShow_shows u.accBlock
        exact ⟨_, rfl, result, u.accShow_registers _, record, tank⟩
      · rw [s.blockAccess_of_both u value hu decodes (accThere ▸ present) asks, retired, accBlock]
        exact ⟨_, rfl, u.accRetire.accShow_shows u.accBlock⟩
  case grace =>
    rw [exec_graceExpiry]
    refine ⟨fun at_ found absent => by rw [found, Option.elim, if_neg (Classical.not_not.2 absent)], fun other => ?_⟩
    cases found : Tab.find slot.val s.ftl.graceAt
    · rfl
    · rw [Option.elim, if_pos (other.resolve_left (by simp [found]))]
  case fail =>
    rw [exec_cisternFail slot value s u hu]
    refine ⟨fun decodes asks live => by rw [if_pos ⟨⟨decodes, asks⟩, live⟩], fun other => ?_⟩
    rw [if_neg]
    rintro ⟨⟨decodes, asks⟩, live⟩
    rcases other with h | h | ⟨out, present⟩
    · exact h decodes
    · omega
    · exact live.elim (by simp [out]) present
  case sweep =>
    rw [exec_rebuildSweepDone]
    exact ⟨fun rebuilding fresh none => by rw [if_neg (by simp [rebuilding, fresh, none])], fun other => by rw [if_pos other]⟩
  case subst =>
    rw [exec_tankSubstituted]
    refine ⟨fun none => by rw [none]; rfl, fun u some short => ?_, fun u some all => ?_⟩
    · rw [some, Option.elim, if_pos short]
    · rw [some, Option.elim, if_neg (by omega)]
  case lost =>
    have small := value.isLt
    have bit : 2 ^ 31 ≤ value.toNat ↔ value.toNat / 2 ^ 31 ≠ 0 := by omega
    refine ⟨fun out => exec_lostListRead_of_out value s u hu (out.imp_right fun h => by omega), fun decodes asks none => ?_,
      fun e decodes asks some => ?_⟩
    · rw [exec_lostListRead_of_asked value s u hu decodes (bit.1 asks), none]
      refine ⟨_, rfl, ?_, RegistersChange.wr_settle _ _ _⟩
      rw [Option.elim, State.rd_settle _ _ (by decide) (by decide), State.rd_wr_same _ _ _ (by decide), Nat.zero_mod]
    · rw [exec_lostListRead_of_asked value s u hu decodes (bit.1 asks), some, Option.elim_some]
      obtain ⟨d0, d1, d2, d3, d4, d5, d6, d7⟩ := u.rd_lostShown_data e
      exact ⟨_, rfl, u.rd_lostShown_valid e, d0, d1, d2, d3, d4, d5, d6, d7, u.lostShown_registers e⟩

end Sys2Proof.Machine
end
/-! ## The Skalas links: training, FLITs, completions, tags and admission (O29 to O31) -/

section
namespace Sys2Proof.Machine

/-! ### Training, recovery, sleep and FLITs -/

theorem exec_sklTrainingRestart (link : Fin 48) (s : State) : exec (.sklTrainingRestart link) s =
    .next (if lkDetect ≤ s.lk link ∧ s.lk link ≤ 5 then s.wr (Reg.SKL_LINK_STATE.at link) lkDetect else s).settle := by
  show execSklTrainingRestart link s = _
  simp [execSklTrainingRestart, settled]

/-- A link once training has found its lanes. -/
def State.trainedLink (s : State) (n : Nat) (t : Trained) : State :=
  ((((((s.wr (Reg.SKL_LINK_STATE.at n) lkActive).portBack n).wr (Reg.SKL_LINK_WIDTH.at n) (min 2 t.lanes)).wr
    (Reg.SKL_LINK_POL_INV.at n) t.polInv).wrB (Reg.SKL_LINK_REVERSED.at n) t.reversed).wrB
    (Reg.SKL_LINK_DEGRADED.at n) (t.lanes == 1)).wr (Reg.SKL_LINK_BRIDGE_PORT.at n) t.port

theorem exec_sklTrainingDone (link : Fin 48) (t : Trained) (s v : State)
    (hv : v = (if t.lanes = 1 then (s.trainedLink link t).sklEvent link sevUncorrected 0x100 1 else s.trainedLink link t).updLink link fun l =>
      { l with rxSeq := 0, ackSeq := 0, nakSent := false, replays := 0, command := t.commandCredits
               program := t.programCredits, replayFlits := t.replayFlits, alerts := 0, txSeq := 0, replay := [], txWait := [] }) :
    exec (.sklTrainingDone link t) s = .next (if s.lk link < lkDetect ∨ 5 < s.lk link then s
      else if t.lanes = 0 ∨ (t.lanes = 1 ∧ s.is (Reg.SKL_LINK_CFG_LANE_REPAIR.at link) = false) then s.trainFailed link
      else (v.sendParams link).identify link).settle := by
  subst hv
  show execSklTrainingDone link t s = _
  simp only [execSklTrainingDone, settled, State.trainedLink, Bool.or_eq_true, Bool.and_eq_true, decide_eq_true_eq, beq_iff_eq,
    Bool.not_eq_true']

theorem exec_sklRecoveryEntry (link : Fin 48) (s : State) : exec (.sklRecoveryEntry link) s =
    .next (if s.lk link = lkActive ∨ s.lk link = lkL1 then s.recover link else s).settle := by
  show execSklRecoveryEntry link s = _
  simp [execSklRecoveryEntry, settled]

theorem exec_sklRecoveryDone (link : Fin 48) (s : State) : exec (.sklRecoveryDone link) s = .next (if s.lk link ≠ lkRecovery then s
    else ((((s.wr (Reg.SKL_LINK_STATE.at link) lkActive).replayFlits link).portBack link).startPort link).issueAll link).settle := by
  show execSklRecoveryDone link s = _
  simp [execSklRecoveryDone, settled]

theorem exec_sklRetrainLimit (link : Fin 48) (s : State) : exec (.sklRetrainLimit link) s = .next (if s.lk link ≠ lkRecovery then s
    else (s.atLeast ((s.linkOf link).recoveryAt + s.rd (Reg.SKL_LINK_CFG_RETRAIN_LIMIT.at link) * ms)).linkLost link).settle := by
  show execSklRetrainLimit link s = _
  simp [execSklRetrainLimit, settled]

theorem exec_sklL1Entry (link : Fin 48) (s : State) : exec (.sklL1Entry link) s =
    .next (if s.lk link = lkActive ∧ 2 ≤ s.rd Reg.PWR_STATUS_STATE ∧ (s.linkOf link).tags = [] ∧ (s.linkOf link).backlog = [] then
      s.wr (Reg.SKL_LINK_STATE.at link) lkL1 else s).settle := by
  show execSklL1Entry link s = _
  simp [execSklL1Entry, settled, and_assoc]

/-- A FLIT taken in order, or a NOP FLIT, gives its ACK, NAK and credits. -/
def State.flitTaken (u : State) (n : Nat) (f : Flit) (acked : Nat) : State :=
  let v := if f.nop then u else (u.updLink n fun l => { l with rxSeq := (l.rxSeq + 1) % 1024, nakSent := false }).sendNop n false
  let w := if f.ackSeq.toNat = acked then v else
    (v.updLink n fun l => { l with ackSeq := f.ackSeq.toNat, replays := 0 }).ackFlits n f.ackSeq.toNat
  let x := if f.nak then w.onNak n f else w
  (x.updLink n fun l =>
    { l with command := if f.creditClass == 0 then l.command + f.credit else l.command
             program := if f.creditClass == 1 then l.program + f.credit else l.program }).startPort n

theorem exec_flitReceive (link : Fin 48) (f : Flit) (s u : State)
    (hu : u = s.corrected (.skl (Fin.ofNat 48 link.val)) (Reg.SKL_CNT_FEC_CORRECTED.at link) f.fecCorrected link) :
    exec (.flitReceive link f) s = .next (if s.lk link ≠ lkActive then s
      else if f.crcGood = false then
        (if (s.linkOf link).nakSent = true then u.count (Reg.SKL_CNT_FLIT_CRC_ERR.at link)
         else ((u.count (Reg.SKL_CNT_FLIT_CRC_ERR.at link)).sendNop link true).updLink link fun l => { l with nakSent := true })
      else if f.nop = false ∧ f.seq.toNat ≠ (s.linkOf link).rxSeq then u
      else u.flitTaken link f (s.linkOf link).ackSeq).settle := by
  subst hu
  show execFlitReceive link f s = _
  simp only [execFlitReceive, settled, State.flitTaken, bne_iff_ne, Bool.not_eq_true', Bool.and_eq_true, beq_iff_eq]

/-- Settles O29: the states that each command acts in, and the four ways of a FLIT. -/
theorem linksTrainSleepAndCarryFlits : Obligations.LinksTrainSleepAndCarryFlits := by
  refine ⟨fun link tr s => ⟨fun out => ?off, fun low high => ?restart, fun low high lost => ?lost, fun u v low high lanes repair hu hv => ?up⟩,
    fun link s => ⟨fun live => ?entry, fun h h' => ?noEntry, fun recovering => ⟨?done, ?limit⟩, fun other => ⟨?noDone, ?noLimit⟩,
      fun active deep free idle => ?sleep, fun busy => ?awake⟩,
    fun link f s u hu => ⟨fun off => ?ignored, fun active bad sent => ?again, fun active bad fresh => ?nak, fun active good data late => ?late,
      fun v w x y active good next hv hw hx hy => ?taken⟩⟩
  case off =>
    rw [exec_sklTrainingDone link tr s _ rfl, if_pos out, exec_sklTrainingRestart, if_neg (by omega)]
    exact ⟨rfl, rfl⟩
  case restart => rw [exec_sklTrainingRestart, if_pos ⟨low, high⟩]
  case lost => rw [exec_sklTrainingDone link tr s _ rfl, if_neg (by omega), if_pos lost]
  case up =>
    subst hu
    rw [exec_sklTrainingDone link tr s v hv, if_neg (by omega), if_neg]
    rintro (none | ⟨one, unrepaired⟩)
    · exact lanes none
    · rw [repair one] at unrepaired; cases unrepaired
  case entry => rw [exec_sklRecoveryEntry, if_pos live]
  case noEntry => rw [exec_sklRecoveryEntry, if_neg (not_or.2 ⟨h, h'⟩)]
  case done => rw [exec_sklRecoveryDone, if_neg (Classical.not_not.2 recovering)]
  case limit => rw [exec_sklRetrainLimit, if_neg (Classical.not_not.2 recovering)]
  case noDone => rw [exec_sklRecoveryDone, if_pos other]
  case noLimit => rw [exec_sklRetrainLimit, if_pos other]
  case sleep => rw [exec_sklL1Entry, if_pos ⟨active, deep, free, idle⟩]
  case awake =>
    rw [exec_sklL1Entry, if_neg]
    rintro ⟨active, deep, free, idle⟩
    rcases busy with h | h | h | h
    · exact h active
    · omega
    · exact h free
    · exact h idle
  case ignored => rw [exec_flitReceive link f s u hu, if_pos off]
  case again => rw [exec_flitReceive link f s u hu, if_neg (Classical.not_not.2 active), if_pos bad, if_pos sent]
  case nak => rw [exec_flitReceive link f s u hu, if_neg (Classical.not_not.2 active), if_pos bad, if_neg (by simp [fresh])]
  case late => rw [exec_flitReceive link f s u hu, if_neg (Classical.not_not.2 active), if_neg (by simp [good]), if_pos ⟨data, late⟩]
  case taken =>
    subst hy hx hw hv
    rw [exec_flitReceive link f s u hu, if_neg (Classical.not_not.2 active), if_neg (by simp [good]), if_neg (fun h => h.2 (next h.1))]
    rfl

/-! ### Completions -/

section
variable (s : State) (n : Nat) (c : Cpl)

theorem State.takeCpl_of_inactive (off : s.lk n ≠ lkActive) : s.takeCpl n c = (none, s) := by
  simp [State.takeCpl, off]

variable (active : s.lk n = lkActive)
include active

theorem State.takeCpl_of_bad (bad : c.hcrcGood = false) : s.takeCpl n c = (none, s.count (Reg.SKL_CNT_BAD_CAPSULE.at n)) := by
  simp [State.takeCpl, active, bad]

variable (good : c.hcrcGood = true)
include good

theorem State.takeCpl_of_late (late : Tab.has c.tag.toNat (s.linkOf n).quarantined = true) (u : State)
    (hu : u = s.count (Reg.SKL_CNT_LATE_CPL.at n)) : s.takeCpl n c =
      if u.is (Reg.SKL_LATE_LOG_VALID.at n) = true then (none, u)
      else (none, ((u.wr (Reg.SKL_LATE_LOG_TAG.at n) c.tag.toNat).wr (Reg.SKL_LATE_LOG_OPCODE.at n) c.opcode.toNat).wr
        (Reg.SKL_LATE_LOG_VALID.at n) 1) := by
  subst hu
  simp only [State.takeCpl, active, good, late, bne_self_eq_false, Bool.not_true, Bool.false_eq_true, if_false, if_true]

variable (inTime : Tab.has c.tag.toNat (s.linkOf n).quarantined = false)
include inTime

theorem State.takeCpl_of_unknown (unknown : ∀ t : Tag, Tab.find c.tag.toNat (s.linkOf n).tags = some t → c.opcode.toNat ≠ 0x80 + t.opcode) :
    s.takeCpl n c = (none, s.count (Reg.SKL_CNT_BAD_CAPSULE.at n)) := by
  simp only [State.takeCpl, active, good, inTime, bne_self_eq_false, Bool.not_true, Bool.false_eq_true, if_false]
  cases found : Tab.find c.tag.toNat (s.linkOf n).tags with
  | none => rfl
  | some t => simp only [bne_iff_ne, unknown t found, ne_eq, not_false_eq_true, if_true]

theorem State.takeCpl_of_known (t : Tag) (found : Tab.find c.tag.toNat (s.linkOf n).tags = some t) (same : c.opcode.toNat = 0x80 + t.opcode)
    (u v : State) (hu : u = ((((if c.dup then s.count (Reg.SKL_CNT_DUP_CPL.at n) else s).wr64 (Reg.SKL_EPOCH_LO.at n) (Reg.SKL_EPOCH_HI.at n)
      c.epoch.toNat).wr (Reg.SKL_EPOCH_STATUS_WRITERS.at n) c.writers.toNat).updLink n fun l => { l with tags := Tab.del c.tag.toNat l.tags }))
    (hv : v = (u.afterTag n c.tag.toNat).onAlert n c) :
    s.takeCpl n c = (some t, if c.status = skDieFailed then v.hardFail n else v) := by
  subst hv hu
  simp only [State.takeCpl, active, good, inTime, found, same, bne_self_eq_false, Bool.not_true, Bool.false_eq_true, if_false, beq_iff_eq]

end

theorem exec_completion_of_untaken (link : Fin 48) (c : Cpl) (id : Ident) (bad : List (Nat × Nat)) (st : CisternStatus) (xs : List SectorIn)
    (front : List Byte) (s u : State) (untaken : s.takeCpl link c = (none, u)) (k : Instr) (mem : k ∈ [Instr.identifyDone link c id,
      .badblocksDone link c bad, .statusDone link c st, .epochSetDone link c, .readDone link c xs front, .programDone link c,
      .eraseDone link c]) : exec k s = .next u.settle := by
  simp only [List.mem_cons, List.not_mem_nil, or_false] at mem
  rcases mem with rfl | rfl | rfl | rfl | rfl | rfl | rfl
  · show execIdentifyDone link c id s = _
    simp only [execIdentifyDone, settled, untaken]
  · show execBadblocksDone link c bad s = _
    simp only [execBadblocksDone, settled, untaken]
  · show execStatusDone link c st s = _
    simp only [execStatusDone, settled, untaken]
  · show execEpochSetDone link c s = _
    simp only [execEpochSetDone, settled, untaken]
  · show execReadDone link c xs front s = _
    simp only [execReadDone, settled, untaken]
  · show execProgramDone link c s = _
    simp only [execProgramDone, settled, untaken]
  · show execEraseDone link c s = _
    simp only [execEraseDone, settled, untaken]

section
variable {link : Fin 48} {c : Cpl} {t : Tag} {s u : State} (taken : s.takeCpl link c = (some t, u))
include taken

theorem exec_identifyDone_of_taken (id : Ident) (v : State) (hv : v = (((((u.wr64 (Reg.SKL_ID_SERIAL_LO.at link) (Reg.SKL_ID_SERIAL_HI.at link)
      id.serial).wr (Reg.SKL_ID_GEN_GENERATION.at link) id.generation).wr (Reg.SKL_ID_GEOM_DIES.at link) id.dies).wr
      (Reg.SKL_ID_GEOM_VERSION.at link) id.version).wr64 (Reg.SKL_EPOCH_LO.at link) (Reg.SKL_EPOCH_HI.at link) id.epoch).wr
      (Reg.SKL_EPOCH_STATUS_WRITERS.at link) id.writers) : exec (.identifyDone link c id) s =
    .next (if t.use ≠ .identify then u else if c.status ≠ skOk then u.badEvent link c
      else if v.geometryMatches id = false then (v.setOutcome link ocMismatch).sklEvent link sevUncorrected 0x140 ocMismatch
      else (v.updLink link fun l =>
        { l with newIdent := some id, newBad := [], badLeft := (id.badCount + 1021) / 1022 }).nextBadPage link 0).settle := by
  subst hv
  show execIdentifyDone link c id s = _
  simp only [execIdentifyDone, settled, taken, bne_iff_ne, Bool.not_eq_true']

theorem exec_badblocksDone_of_other (bad : List (Nat × Nat)) (other : ∀ page : Nat, t.use ≠ .badBlocks page) :
    exec (.badblocksDone link c bad) s = .next u.settle := by
  show execBadblocksDone link c bad s = _
  simp only [execBadblocksDone, settled, taken]

theorem exec_badblocksDone_of_page (bad : List (Nat × Nat)) (page : Nat) (use : t.use = .badBlocks page) : exec (.badblocksDone link c bad) s =
    .next (if c.status ≠ skOk then u.badEvent link c
      else (u.updLink link fun l => { l with newBad := l.newBad ++ bad, badLeft := l.badLeft - 1 }).nextBadPage link (page + 1)).settle := by
  show execBadblocksDone link c bad s = _
  simp only [execBadblocksDone, settled, taken, use, bne_iff_ne]

/-- A status shown: the temperature, the epoch and its writers, and the histogram of the slot. -/
def State.statusShown (u : State) (n : Nat) (st : CisternStatus) : State :=
  let v := ((((u.wr (Reg.SKL_STATUS_TEMP.at n) (st.temp % 256).toNat).wr64 (Reg.SKL_EPOCH_LO.at n) (Reg.SKL_EPOCH_HI.at n)
    st.epoch.toNat).wr (Reg.SKL_EPOCH_STATUS_WRITERS.at n) st.writers.toNat).updLink n fun l =>
    { l with alerts := st.alerts, tempAt := u.tm.mono }).slotCount n (0x80 + 4 * tempBand st.temp)
  { v with ftl := { v.ftl with slots := Tab.upd n [] (Tab.upd 0x0E 0 (max (st.temp + 256).toNat)) v.ftl.slots } }

theorem exec_statusDone_of_taken (st : CisternStatus) : exec (.statusDone link c st) s =
    .next (if t.use ≠ .status then u else if c.status ≠ skOk then u.badEvent link c
      else if st.failed = true ∨ 0 < st.failedDies then (u.statusShown link st).hardFail link else u.statusShown link st).settle := by
  show execStatusDone link c st s = _
  simp only [execStatusDone, settled, taken, bne_iff_ne, Bool.or_eq_true, decide_eq_true_eq]
  rfl

theorem exec_epochSetDone_of_other (other : ∀ e w : Nat, t.use ≠ .epochSet e w) : exec (.epochSetDone link c) s = .next u.settle := by
  show execEpochSetDone link c s = _
  simp only [execEpochSetDone, settled, taken]

theorem exec_epochSetDone_of_epoch (e w : Nat) (use : t.use = .epochSet e w) (v : State)
    (hv : v = { u with pod := { u.pod with epochs := Tab.put link e u.pod.epochs } }) : exec (.epochSetDone link c) s =
    .next (if u.pod.fencing.contains link.val = true ∧ u.superseded link e = true then
        (if c.status = skOk then v else if c.status = skEpochOld then u else u.badEvent link c)
      else if u.pod.fencing.contains link.val = true then
        (if c.status = skOk then u.fenceDone link e false else if c.status = skEpochOld then u.fenceDone link e true else u.badEvent link c)
      else if c.status = skOk then
        ((if w = 3 then (v.wr (Reg.SKL_EPOCH_STATUS_FENCED.at link) 0).toPartner (.epochNote link e)
          else v.wr (Reg.SKL_EPOCH_STATUS_FENCED.at link) 0).admitted link).reissueRefused link
      else if c.status ≠ skEpochOld then u.badEvent link c
      else if (u.linkOf link).epochTries = 0 then
        (u.updLink link fun l => { l with epochTries := 1 }).epochSet link (c.epoch.toNat + 1) w
      else (u.setOutcome link ocFailed).sklEvent link sevUncorrected 0x140 ocFailed).settle := by
  subst hv
  show execEpochSetDone link c s = _
  simp only [execEpochSetDone, settled, taken, use, bne_iff_ne, beq_iff_eq, Bool.and_eq_true]

theorem exec_readDone_of_other (xs : List SectorIn) (front : List Byte) (other : ∀ k p : Nat, t.use ≠ .read k p) :
    exec (.readDone link c xs front) s = .next u.settle := by
  show execReadDone link c xs front s = _
  simp only [execReadDone, settled, taken]

/-- Does a page of the completion's fail to decode, for the sector `i`? -/
def pageUndecoded (c : Cpl) (t : Tag) (i : Nat) : Bool := decide (2 ≤ c.pageStatus / 4 ^ (if t.count == 4 then i / 4 else 0) % 4)

/-- The parts that a read's sectors give, and what their judgement counts. -/
def State.readParts (w : State) (c : Cpl) (t : Tag) (k p : Nat) (xs : List SectorIn) : List Part :=
  (w.judge k p xs).zipIdx.map fun (e : Part × Nat) => if pageUndecoded c t e.2 then {} else e.1

def State.readCounted (w : State) (n : Nat) (parts : List Part) : State :=
  if (parts.countP fun (x : Part) => x.wrong) = 0 then w else
    (w.count Reg.FTL_CNT_CRC_MISMATCH (parts.countP fun (x : Part) => x.wrong)).slotCount n 0x50 (parts.countP fun (x : Part) => x.wrong)

theorem exec_readDone_of_read (xs : List SectorIn) (front : List Byte) (k p : Nat) (use : t.use = .read k p) (allGood : Bool) (v w x : State)
    (good : allGood = (List.range xs.length).all fun i => !pageUndecoded c t i)
    (hv : v = if (u.jobOf k).any Job.isCopy then u.unitDone link t.die else u) (hw : w = (v.jobOf k).elim v fun j => v.useKey j.nsid)
    (hx : x = w.readCounted link (w.readParts c t k p xs)) : exec (.readDone link c xs front) s =
    .next (if badStatus c.status = true ∨ c.status = skDieFailed then (v.badEvent link c).readTimeout k p
      else if c.status ≠ skOk ∨ (t.count = 4 ∧ allGood = true ∧ headerGood front xs = false) then v.readAnswer k p []
      else (if t.count = 4 ∧ allGood = true then x.updJob k fun j => { j with front := front } else x).readAnswer k p
        (w.readParts c t k p xs)).settle := by
  subst good hv hw hx
  show execReadDone link c xs front s = _
  simp only [execReadDone, settled, taken, use, State.readCounted, State.readParts, pageUndecoded, bne_iff_ne, beq_iff_eq, Bool.or_eq_true,
    Bool.and_eq_true, Bool.not_eq_true', and_assoc]

/-! ### Programs and erases -/

theorem exec_programDone_of_other (stripe : ∀ q p : Nat, t.use ≠ .program q p) (subst : ∀ q i m : Nat, t.use ≠ .subst q i m)
    (save : ∀ i k p : Nat, t.use ≠ .save i k p) : exec (.programDone link c) s = .next u.settle := by
  show execProgramDone link c s = _
  simp only [execProgramDone, settled, taken]

theorem exec_programDone_of_program (q p : Nat) (use : t.use = .program q p) : exec (.programDone link c) s =
    .next (if c.status = skOk then u.acked q p
      else if c.status = skProgramFail ∨ c.status = skDupExpired then u.nandProgramFail link t q
      else if c.status = skStaleEpoch ∨ c.status = skFenced then
        (if ((Tab.find q u.ftl.fly).any fun st => st.cls == clsMeta) = true then
          ((u.count (Reg.SKL_CNT_EPOCH_REFUSED.at link)).wr (Reg.SKL_EPOCH_STATUS_FENCED.at link) 1).programFailed q
         else u.epochRefused link t c)
      else if c.status = skPoisoned then u.issue link t
      else (u.badEvent link c).programFailed q).settle := by
  show execProgramDone link c s = _
  simp only [execProgramDone, settled, taken, use, beq_iff_eq, Bool.or_eq_true]

theorem exec_programDone_of_subst (q i m : Nat) (use : t.use = .subst q i m) : exec (.programDone link c) s =
    .next (if c.status = skOk then (u.substAcked q i m).showRebuild
      else if c.status = skStaleEpoch ∨ c.status = skFenced then u.epochRefused link t c
      else if c.status = skPoisoned then u.issue link t
      else if c.status = skProgramFail ∨ c.status = skDupExpired then
        ((u.count Reg.FTL_CNT_PROGRAM_FAIL).slotCount link 0x28).substFailed q (blkKey link t.die t.block)
      else (u.badEvent link c).abandonSubst.startSubst).settle := by
  show execProgramDone link c s = _
  simp only [execProgramDone, settled, taken, use, beq_iff_eq, Bool.or_eq_true]
  by_cases nand : c.status = skProgramFail ∨ c.status = skDupExpired <;> simp only [nand, if_true, if_false]

theorem exec_programDone_of_save (i k p : Nat) (use : t.use = .save i k p) : exec (.programDone link c) s =
    .next (if c.status = skOk then u else if c.status = skPoisoned then u.issue link t else u.saveChunkFailed i k).settle := by
  show execProgramDone link c s = _
  simp only [execProgramDone, settled, taken, use, beq_iff_eq]

theorem exec_eraseDone_of_taken : exec (.eraseDone link c) s = .next (if t.opcode ≠ opErase then u
      else if c.status = skOk then u.eraseEnded link t false
      else if c.status = skEraseFail ∨ c.status = skDupExpired then u.eraseEnded link t true
      else if c.status = skStaleEpoch ∨ c.status = skFenced then (u.unitDone link t.die).epochRefused link t c
      else if c.status = skPoisoned then u.issue link t
      else (u.unitDone link t.die).badEvent link c).settle := by
  show execEraseDone link c s = _
  simp only [execEraseDone, settled, taken, bne_iff_ne, beq_iff_eq, Bool.or_eq_true]

end

/-- Settles O30: what takes a completion, and then its effect by the tag's use and the status. -/
theorem completionsAreTakenByTag : Obligations.CompletionsAreTakenByTag := by
  refine ⟨fun link c s => ⟨s.takeCpl_of_inactive link c, s.takeCpl_of_bad link c, fun u active good late hu => ?late,
      s.takeCpl_of_unknown link c, fun t u v active good inTime found same hu hv =>
        s.takeCpl_of_known link c active good inTime t found same u v hu hv⟩,
    exec_completion_of_untaken, fun link c id t s u v taken hv => ?identify, fun link c bad t s u taken => ?badblocks,
    fun link c st t s u v w taken hv hw => ?status, fun link c t s u taken => ⟨exec_epochSetDone_of_other taken, fun e w v use hv => ?epoch⟩,
    fun link c xs front t s u taken => ⟨exec_readDone_of_other taken xs front, fun k p bad allGood v use hbad hgood hv => ?read⟩,
    fun link c t s u taken => ⟨exec_programDone_of_other taken, fun q p use => ?program, fun q i m use => ?subst, fun i k p use => ?save⟩,
    fun link c t s u taken => ?erase⟩
  case late => rw [s.takeCpl_of_late link c active good late u hu]; exact ⟨fun logged => if_pos logged, fun first => if_neg (by simp [first])⟩
  case identify =>
    rw [exec_identifyDone_of_taken taken id v hv]
    refine ⟨fun other => by rw [if_pos other], fun use bad => ?_, fun use ok mismatch => ?_, fun use ok same => ?_⟩
    · rw [if_neg (Classical.not_not.2 use), if_pos bad]
    · rw [if_neg (Classical.not_not.2 use), if_neg (Classical.not_not.2 ok), if_pos mismatch]
    · rw [if_neg (Classical.not_not.2 use), if_neg (Classical.not_not.2 ok), if_neg (by simp [same])]
  case badblocks =>
    refine ⟨exec_badblocksDone_of_other taken bad, fun page use => ?_⟩
    rw [exec_badblocksDone_of_page taken bad page use]
    exact ⟨fun bad => by rw [if_pos bad], fun ok => by rw [if_neg (Classical.not_not.2 ok)]⟩
  case status =>
    subst hv
    have shown : w = u.statusShown link st := hw
    rw [exec_statusDone_of_taken taken st, ← shown]
    refine ⟨fun other => by rw [if_pos other], fun use bad => ?_, fun use ok failed => ?_, fun use ok good none => ?_⟩
    · rw [if_neg (Classical.not_not.2 use), if_pos bad]
    · rw [if_neg (Classical.not_not.2 use), if_neg (Classical.not_not.2 ok), if_pos failed]
    · rw [if_neg (Classical.not_not.2 use), if_neg (Classical.not_not.2 ok), if_neg (by simp [good, none])]
  case epoch =>
    rw [exec_epochSetDone_of_epoch taken e w use v hv]
    have apart : skEpochOld ≠ skOk := by decide
    refine ⟨fun bad notOld => ?_, fun fencing later => ⟨fun ok => ?_, fun old => ?_⟩, fun fencing last => ⟨fun ok => ?_, fun old => ?_⟩,
      fun free => ⟨fun ok => ?_, fun old first => ?_, fun old again => ?_⟩⟩
    · simp only [bad, notOld, if_false, ne_eq, not_false_eq_true, if_true, ite_self]
    · rw [if_pos ⟨fencing, later⟩, if_pos ok]
    · rw [if_pos ⟨fencing, later⟩, if_neg (old ▸ apart), if_pos old]
    · rw [if_neg (fun h => by simp [last] at h), if_pos fencing, if_pos ok]
    · rw [if_neg (fun h => by simp [last] at h), if_pos fencing, if_neg (old ▸ apart), if_pos old]
    · rw [if_neg (fun h => ne_true_of_eq_false free h.1), if_neg (ne_true_of_eq_false free), if_pos ok]
    · rw [if_neg (fun h => ne_true_of_eq_false free h.1), if_neg (ne_true_of_eq_false free), if_neg (old ▸ apart), if_neg (Classical.not_not.2 old),
        if_pos first]
    · rw [if_neg (fun h => ne_true_of_eq_false free h.1), if_neg (ne_true_of_eq_false free), if_neg (old ▸ apart), if_neg (Classical.not_not.2 old),
        if_neg again]
  case read =>
    have decoded : bad = pageUndecoded c t := hbad
    subst decoded
    refine ⟨fun failed => ?_, fun good alive short => ?_, fun w x y parts ok whole hw hparts hx hy => ?_⟩
    · rw [exec_readDone_of_read taken xs front k p use allGood v _ _ hgood hv rfl rfl, if_pos failed]
    · rw [exec_readDone_of_read taken xs front k p use allGood v _ _ hgood hv rfl rfl, if_neg (by simp [good, alive]), if_pos short]
    · subst hparts
      rw [exec_readDone_of_read taken xs front k p use allGood v w x hgood hv hw hx, if_neg (by rw [ok]; decide), if_neg, ← hy]
      · rfl
      · rintro (bad | ⟨four, all, header⟩)
        · exact bad ok
        · rw [whole four all] at header; cases header
  case program =>
    rw [exec_programDone_of_program taken q p use]
    simp only [List.mem_cons, List.not_mem_nil, or_false, not_or]
    refine ⟨fun ok => by rw [if_pos ok], fun nand => ?_, fun stale => ⟨fun metas => ?_, fun data => ?_⟩, fun poisoned => ?_,
      fun ⟨ok, fail, dup, stale, fenced, poisoned⟩ => ?_⟩
    · rw [if_neg (by rcases nand with h | h <;> rw [h] <;> decide), if_pos nand]
    · rw [if_neg (by rcases stale with h | h <;> rw [h] <;> decide), if_neg (by rcases stale with h | h <;> rw [h] <;> decide), if_pos stale,
        if_pos metas]
    · rw [if_neg (by rcases stale with h | h <;> rw [h] <;> decide), if_neg (by rcases stale with h | h <;> rw [h] <;> decide), if_pos stale,
        if_neg (ne_true_of_eq_false data)]
    · rw [if_neg (by rw [poisoned]; decide), if_neg (by rw [poisoned]; decide), if_neg (by rw [poisoned]; decide), if_pos poisoned]
    · rw [if_neg ok, if_neg (not_or.2 ⟨fail, dup⟩), if_neg (not_or.2 ⟨stale, fenced⟩), if_neg poisoned]
  case subst =>
    rw [exec_programDone_of_subst taken q i m use]
    simp only [List.mem_cons, List.not_mem_nil, or_false, not_or]
    refine ⟨fun ok => by rw [if_pos ok], fun stale => ?_, fun poisoned => ?_, fun nand => ?_,
      fun ⟨ok, fail, dup, stale, fenced, poisoned⟩ => ?_⟩
    · rw [if_neg (by rcases stale with h | h <;> rw [h] <;> decide), if_pos stale]
    · rw [if_neg (by rw [poisoned]; decide), if_neg (by rw [poisoned]; decide), if_pos poisoned]
    · rw [if_neg (by rcases nand with h | h <;> rw [h] <;> decide), if_neg (by rcases nand with h | h <;> rw [h] <;> decide),
        if_neg (by rcases nand with h | h <;> rw [h] <;> decide), if_pos nand]
    · rw [if_neg ok, if_neg (not_or.2 ⟨stale, fenced⟩), if_neg poisoned, if_neg (not_or.2 ⟨fail, dup⟩)]
  case save =>
    rw [exec_programDone_of_save taken i k p use]
    refine ⟨fun ok => by rw [if_pos ok], fun poisoned => ?_, fun bad again => by rw [if_neg bad, if_neg again]⟩
    rw [if_neg (by rw [poisoned]; decide), if_pos poisoned]
  case erase =>
    rw [exec_eraseDone_of_taken taken]
    simp only [List.mem_cons, List.not_mem_nil, or_false, not_or]
    refine ⟨fun other => by rw [if_pos other], fun erase => ?_⟩
    rw [if_neg (Classical.not_not.2 erase)]
    refine ⟨fun ok => by rw [if_pos ok], fun failed => ?_, fun stale => ?_, fun poisoned => ?_,
      fun ⟨ok, fail, dup, stale, fenced, poisoned⟩ => ?_⟩
    · rw [if_neg (by rcases failed with h | h <;> rw [h] <;> decide), if_pos failed]
    · rw [if_neg (by rcases stale with h | h <;> rw [h] <;> decide), if_neg (by rcases stale with h | h <;> rw [h] <;> decide), if_pos stale]
    · rw [if_neg (by rw [poisoned]; decide), if_neg (by rw [poisoned]; decide), if_neg (by rw [poisoned]; decide), if_pos poisoned]
    · rw [if_neg ok, if_neg (not_or.2 ⟨fail, dup⟩), if_neg (not_or.2 ⟨stale, fenced⟩), if_neg poisoned]

end Sys2Proof.Machine
end
/-! ## Tags, admission and slot power (O31 to O33) -/

section
namespace Sys2Proof.Machine

/-! ### Tags and admission -/

theorem exec_sklTagTimeout_of_none (link : Fin 48) (tag : BitVec 10) (s : State) (none : Tab.find tag.toNat (s.linkOf link).tags = none) :
    exec (.sklTagTimeout link tag) s = .next s.settle := by
  show execSklTagTimeout link tag s = _
  simp only [execSklTagTimeout, settled, none]

theorem exec_sklTagTimeout_of_some (link : Fin 48) (tag : BitVec 10) (s : State) (t : Tag)
    (some : Tab.find tag.toNat (s.linkOf link).tags = some t) (u v : State)
    (hu : u = (s.atLeast (t.at_ + t.timeout)).count (Reg.SKL_CNT_TIMEOUTS.at link))
    (hv : v = u.updLink link fun l => { l with
      tags := Tab.del tag.toNat l.tags, quarantined := Tab.put tag.toNat (t.opcode, u.tm.mono + 2 * t.timeout) l.quarantined }) :
    exec (.sklTagTimeout link tag) s = .next (((v.dropCapsule link tag.toNat).afterTimeout link t).afterTag link tag.toNat).settle := by
  subst hv hu
  show execSklTagTimeout link tag s = _
  simp only [execSklTagTimeout, settled, some]

theorem exec_sklTagQuarantineEnd (link : Fin 48) (tag : BitVec 10) (s : State) : exec (.sklTagQuarantineEnd link tag) s =
    .next ((Tab.find tag.toNat (s.linkOf link).quarantined).elim s fun e =>
      ((s.atLeast e.2).updLink link fun l => { l with quarantined := Tab.del tag.toNat l.quarantined }).issueAll link).settle := by
  show execSklTagQuarantineEnd link tag s = _
  cases found : Tab.find tag.toNat (s.linkOf link).quarantined <;> simp only [execSklTagQuarantineEnd, settled, found, Option.elim]

theorem exec_cisternStatusPoll (link : Fin 48) (s : State) : exec (.cisternStatusPoll link) s =
    .next (if s.rd (Reg.SKL_STATUS_OUTCOME.at link) ≠ ocAdmitted then s
      else (s.atLeast ((s.linkOf link).statusAt + sec)).poll link).settle := by
  show execCisternStatusPoll link s = _
  simp [execCisternStatusPoll, settled]

theorem exec_admitTimeout (n : Fin 48) (s u : State)
    (hu : u = s.atLeast ((s.linkOf n).trainAt + s.rd Reg.GLB_PRIME_CTL_ADMIT_TIMEOUT * 10 * ms)) : exec (.admitTimeout n) s =
    .next (if (s.chan n).rstHigh = false ∨ s.rd (Reg.SKL_STATUS_OUTCOME.at n) ≠ ocNone ∨ (s.linkOf n).newIdent ≠ none then s
      else if u.lk n < lkActive then u.trainFailed n
      else if (s.linkOf n).retrained = true then u
      else (u.setOutcome n ocUnresponsive).sklEvent n sevUncorrected 0x140 ocUnresponsive).settle := by
  subst hu
  show execAdmitTimeout n s = _
  simp [execAdmitTimeout, settled, or_assoc, Option.isSome_iff_ne_none]

theorem exec_slotGroupStart_of_other (k : Nat) (s : State)
    (other : s.shelf.groups = [] ∨ k ≠ s.shelf.nextGroup ∨ s.st ≠ stPRIME ∨ s.prim.pwrStop = true) :
    exec (.slotGroupStart k) s = .next s.settle := by
  show execSlotGroupStart k s = _
  unfold execSlotGroupStart settled
  cases groups : s.shelf.groups with
  | nil => rfl
  | cons g rest =>
    simp only
    rw [if_pos]
    simpa [groups, or_assoc] using other

theorem exec_slotGroupStart_of_due (k : Nat) (s : State) (g : List Nat) (rest left : List (List Nat)) (late : List Nat) (u : State)
    (groups : s.shelf.groups = g :: rest) (next : k = s.shelf.nextGroup) (prime : s.st = stPRIME) (power : s.prim.pwrStop = false)
    (hu : u = s.atLeast (s.prim.enteredAt + s.rd Reg.GLB_PRIME_CTL_SLOT_INTERVAL * ms * k))
    (hl : left = if rest = [] then groupsOf (s.rd Reg.GLB_PRIME_CTL_SLOT_GROUP) s.shelf.late 48 else rest)
    (hlate : late = if left.any fun g => s.shelf.late.any g.contains then [] else s.shelf.late) : exec (.slotGroupStart k) s =
      .next (g.foldl (fun s n => s.tryCheck n)
        ({ u with shelf := { u.shelf with groups := left, nextGroup := k + 1, late := late } } : State)).settle := by
  subst hlate hl hu
  show execSlotGroupStart k s = _
  unfold execSlotGroupStart settled
  rw [groups]
  simp only
  rw [if_neg (by simp [next, prime, power])]
  cases rest <;> rfl

/-- Settles O31: what a tag's end finds of the tag, and what an admission or a group's start finds of the slot. -/
theorem tagsTimeOutAndAdmissionIsBounded : Obligations.TagsTimeOutAndAdmissionIsBounded := by
  refine ⟨fun link tag s => ⟨exec_sklTagTimeout_of_none link tag s, fun t u v found hu hv =>
      exec_sklTagTimeout_of_some link tag s t found u v hu hv, fun none => ?free, fun op at_ some => ?quarantined⟩,
    fun link s => ?poll, fun n s u hu => ?admission, fun k s => ⟨exec_slotGroupStart_of_other k s,
      fun g rest left late u groups next prime power hu hl hlate =>
        exec_slotGroupStart_of_due k s g rest left late u groups next prime power hu hl hlate⟩⟩
  case free => rw [exec_sklTagQuarantineEnd, none]; rfl
  case quarantined => rw [exec_sklTagQuarantineEnd, some]; rfl
  case poll =>
    rw [exec_cisternStatusPoll]
    exact ⟨fun admitted => by rw [if_neg (Classical.not_not.2 admitted)], fun other => by rw [if_pos other]⟩
  case admission =>
    rw [exec_admitTimeout n s u hu]
    refine ⟨fun done => by rw [if_pos done], fun released none unknown => ?_⟩
    rw [if_neg (by simp [released, none, unknown])]
    refine ⟨fun down => by rw [if_pos down], fun up again => ?_, fun up first => ?_⟩
    · rw [if_neg (by omega), if_pos again]
    · rw [if_neg (by omega), if_neg (by simp [first])]

/-! ### A slot's sequence -/

theorem State.rd_prsnt (s : State) (slot : Fin 48) (f : Field) (v : Nat) (h : belowSlots f ∨ f.key = (Reg.SLOT_STATUS_STATE.at slot).key) :
    (s.wr (Reg.SLOT_STATUS_PRSNT.at slot) v).rd f = s.rd f := by
  refine State.rd_wr_ne _ _ _ _ ?_
  rcases h with below | state
  · exact below.ne_at _ _ (by decide)
  · rw [state]
    simp only [Field.key, Field.at, Reg.SLOT_STATUS_STATE, Reg.SLOT_STATUS_PRSNT]
    omega

/-- Does a slot whose cistern comes join no group that waits? -/
def State.joinsNone (s : State) (n : Nat) : Prop :=
  (s.chan n).present = true ∨ s.shelf.fullStart = false ∨ s.st ≠ stPRIME ∨ s.shelf.groups.flatten = [] ∨
    s.shelf.groups.flatten.contains n = true ∨ s.chState n = chOn ∨ s.params.sklEnable / 2 ^ n % 2 = 0

theorem exec_prsntDebounced (slot : Fin 48) (s u : State)
    (hu : u = (s.updChan slot fun c => { c with present := true }).wr (Reg.SLOT_STATUS_PRSNT.at slot) 1) (late : Bool)
    (hl : late = (s.shelf.groups.head?.getD []).head?.any fun m => decide (slot.val < m) && decide (0 < s.shelf.nextGroup)) :
    (s.joinsNone slot → exec (.prsntDebounced slot) s = .next (u.tryCheck slot).settle) ∧
    (¬ s.joinsNone slot → exec (.prsntDebounced slot) s = .next ((if late = true then
        ({ u with shelf := { u.shelf with late := s.shelf.late ++ [slot.val] } } : State)
      else { u with shelf := { u.shelf with
        groups := (groupsOf (s.rd Reg.GLB_PRIME_CTL_SLOT_GROUP)
          (slots48.filter fun m => m == slot.val || s.shelf.groups.flatten.contains m) 48) } }).tryCheck slot).settle) := by
  have st : u.st = s.st := by subst hu; exact State.rd_prsnt _ _ _ _ (.inl (by unfold belowSlots; decide))
  have ch : u.chState slot = s.chState slot := by subst hu; exact State.rd_prsnt _ _ _ _ (.inr rfl)
  have group : u.rd Reg.GLB_PRIME_CTL_SLOT_GROUP = s.rd Reg.GLB_PRIME_CTL_SLOT_GROUP := by
    subst hu; exact State.rd_prsnt _ _ _ _ (.inl (by unfold belowSlots; decide))
  have shelf : u.shelf.groups = s.shelf.groups ∧ u.shelf.fullStart = s.shelf.fullStart ∧ u.shelf.late = s.shelf.late ∧
      u.shelf.nextGroup = s.shelf.nextGroup ∧ u.params = s.params := by subst hu; exact ⟨rfl, rfl, rfl, rfl, rfl⟩
  obtain ⟨groups, fullStart, lateList, nextGroup, params⟩ := shelf
  have cond : (!(!(s.chan slot).present) || !u.shelf.fullStart || u.st != stPRIME || u.shelf.groups.flatten.isEmpty ||
      u.shelf.groups.flatten.contains slot.val || u.chState slot == chOn || u.params.sklEnable / 2 ^ slot.val % 2 == 0) = true ↔
      s.joinsNone slot := by
    rw [st, ch, groups, fullStart, params]
    simp only [State.joinsNone, Bool.or_eq_true, Bool.not_not, Bool.not_eq_true', bne_iff_ne, beq_iff_eq, List.isEmpty_iff, or_assoc]
  refine ⟨fun none => ?_, fun joins => ?_⟩ <;> show execPrsntDebounced slot s = _ <;> unfold execPrsntDebounced settled <;>
    simp only [← hu]
  · rw [if_pos (cond.2 none)]
  · rw [if_neg (fun h => joins (cond.1 h)), groups, lateList, nextGroup, group, hl]

theorem exec_slotCheckDone (slot : Fin 48) (m : SlotCheck) (peerOn : Bool) (s u v : State)
    (hu : u = (s.wr (Reg.SLOT_SENSE_VOUT.at slot) m.vout).wr Reg.SLOT_INPUT_VIN m.vin)
    (hv : v = u.atLeast ((s.chan slot).checkAt + 800 * us)) : exec (.slotCheckDone slot m peerOn) s =
    .next (if s.chState slot ≠ chCheck ∨ s.prim.pwrStop = true then s
      else if m.senseGood = false then u.latchFault slot ftOpenSense peerOn
      else if 50 ≤ m.vout then
        (if m.vin ≤ m.vout + 100 then u.enterRamp slot true
         else if (s.chan slot).waiting = true then u
         else u.updChan slot fun c => { c with waiting := true, checkAt := s.tm.mono })
      else if m.riseMv < 20 then v.latchFault slot ftShort peerOn else v.enterRamp slot false).settle := by
  subst hv hu
  show execSlotCheckDone slot m peerOn s = _
  simp only [execSlotCheckDone, settled, bne_iff_ne, Bool.or_eq_true, Bool.not_eq_true']
  rfl

theorem exec_slotBackfeedWaitEnd (slot : Fin 48) (peerOn : Bool) (s : State) : exec (.slotBackfeedWaitEnd slot peerOn) s =
    .next (if s.chState slot = chCheck ∧ (s.chan slot).waiting = true then
      (s.atLeast ((s.chan slot).checkAt + 100 * ms)).latchFault slot ftBackfeed peerOn else s).settle := by
  show execSlotBackfeedWaitEnd slot peerOn s = _
  simp [execSlotBackfeedWaitEnd, settled]

theorem exec_slotRampDone (slot : Fin 48) (s : State) : exec (.slotRampDone slot) s =
    .next (if s.chState slot = chRamp ∧ (s.chan slot).ramped = false then
      s.updChan slot fun c => { c with ramped := true, rampedAt := s.tm.mono } else s).settle := by
  show execSlotRampDone slot s = _
  simp [execSlotRampDone, settled]

/-- The channel is ON: its reset still low, and the insertion counted. -/
def State.gateEnhanced (s : State) (n : Nat) : State :=
  let u := s.atLeast ((s.chan n).rampedAt + ms)
  (((u.setChan n chOn).count Reg.SLOT_CNT_INSERTIONS).updChan n fun c => { c with onAt := u.tm.mono }).slotPins n true false

theorem exec_slotGateEnhanced (slot : Fin 48) (s : State) : exec (.slotGateEnhanced slot) s =
    .next (if s.chState slot = chRamp ∧ (s.chan slot).ramped = true then s.gateEnhanced slot else s).settle := by
  show execSlotGateEnhanced slot s = _
  simp only [execSlotGateEnhanced, settled, State.gateEnhanced, Bool.and_eq_true, beq_iff_eq]

theorem exec_slotGateTimeout (slot : Fin 48) (peerOn : Bool) (s : State) : exec (.slotGateTimeout slot peerOn) s =
    .next (if s.chState slot = chRamp ∧ (s.chan slot).ramped = true then
      (s.atLeast ((s.chan slot).rampedAt + 2 * ms)).latchFault slot ftGate peerOn else s).settle := by
  show execSlotGateTimeout slot peerOn s = _
  simp [execSlotGateTimeout, settled]

theorem exec_slotResetRelease (slot : Fin 48) (s u : State)
    (hu : u = (((s.atLeast ((s.chan slot).onAt + ms)).slotPins slot true true).toDetect slot).setOutcome slot ocNone) :
    exec (.slotResetRelease slot) s =
    .next (if s.chState slot ≠ chOn ∨ (s.chan slot).rstHigh = true ∨ s.is (Reg.SLOT_STATUS_PG.at slot) = false ∨ s.st < stPRIME ∨
        s.st = stHALTED ∨ s.prim.pwrStop = true then s
      else u.updLink slot fun l => { l with trainAt := u.tm.mono, retrained := false }).settle := by
  subst hu
  show execSlotResetRelease slot s = _
  simp only [execSlotResetRelease, settled, bne_iff_ne, beq_iff_eq, Bool.or_eq_true, Bool.not_eq_true', decide_eq_true_eq, or_assoc]

theorem exec_slotOnSettled (slot : Fin 48) (s : State) : exec (.slotOnSettled slot) s =
    .next (if s.chState slot ≠ chOn then s else (s.atLeast ((s.chan slot).onAt + 10 * sec)).loadRetries slot).settle := by
  show execSlotOnSettled slot s = _
  simp [execSlotOnSettled, settled]

/-- A register of a slot is none of the two that every command brings up to date. -/
theorem State.rd_settle_slot (s : State) (f : Field) (n : Nat) (h : 0x2400000 ≤ f.off) (step : f.s1 = 32) (bits : f.lo < 32) (apart : f.off % 32 ≠ 20) :
    s.settle.rd (f.at n) = s.rd (f.at n) := by
  refine State.rd_settle _ _ ?_ ?_
  · exact (belowSlots.ne_at (f := Reg.WELL_RC_STATUS_QP_OPEN) (by unfold belowSlots; decide) f n h).symm
  · simp only [Field.key, Field.at, Reg.SUMP_OCC_OCCUPIED, step]
    omega

theorem Tab.getD_upd_same {α : Type} (k : Nat) (d : α) (f : α → α) (t : Tab α) : Tab.getD k d (Tab.upd k d f t) = f (Tab.getD k d t) := by
  rw [Tab.upd, Tab.getD_put, if_pos rfl]

theorem State.chan_slotPins (s : State) (n : Nat) (pg rst : Bool) : (s.slotPins n pg rst).chan n = { s.chan n with rstHigh := rst } := by
  obtain ⟨r, e⟩ := (s.wrB (Reg.SLOT_STATUS_PG.at n) pg).wrBit_regs Reg.SLOT_PG_LO Reg.SLOT_PG_HI n pg
  unfold State.slotPins
  simp only [e]
  show Tab.getD n {} (Tab.upd n {} (fun c => { c with rstHigh := rst }) s.shelf.chans) = _
  rw [Tab.getD_upd_same]
  rfl

theorem State.tm_slotPins (s : State) (n : Nat) (pg rst : Bool) : (s.slotPins n pg rst).tm = s.tm := by
  obtain ⟨r, h, o, e⟩ := s.slotPins_parts n pg rst
  rw [e]

theorem State.tm_setChan (s : State) (n st : Nat) : (s.setChan n st).tm = s.tm := by
  obtain ⟨r, e⟩ := (s.wr (Reg.SLOT_STATUS_STATE.at n) st).wrBit_regs Reg.SLOT_FAULTED_LO Reg.SLOT_FAULTED_HI n (st == chFault)
  rw [State.setChan, e]
  rfl

/-- The counters of the tiles alone run with the clock. -/
theorem State.counter_advance (s : State) (d : Nat) (c : Counter) (h : c.off < 0x3E01000) : (s.advance d).counter c = s.counter c := by
  suffices Tab.getD c.off (0, false) (s.accrueCounts d) = Tab.getD c.off (0, false) s.regs.counts by
    show (Tab.getD c.off (0, false) (s.accrueCounts d)).1.toNat = _
    rw [this]; rfl
  unfold State.accrueCounts
  refine foldl_keeps (fun t => Tab.getD c.off (0, false) t = Tab.getD c.off (0, false) s.regs.counts) _ (fun t x kept => ?_) _ _ rfl
  have apart : c.off ≠ ((Reg.PMU_CNT_TILE x.2).at x.1).off := by
    simp only [Counter.at, Reg.PMU_CNT_TILE]
    omega
  simp only
  split
  · rw [Tab.getD_put, if_neg apart, kept]
  · exact kept

theorem State.counter_atLeast (s : State) (t : Nat) (c : Counter) (h : c.off < 0x3E01000) : (s.atLeast t).counter c = s.counter c :=
  s.counter_advance _ c h

theorem State.counter_wrBit (s : State) (lo hi : Field) (n : Nat) (b : Bool) (c : Counter) : (s.wrBit lo hi n b).counter c = s.counter c := by
  unfold State.wrBit
  simp only
  generalize (if n < 32 then lo else hi) = f
  split
  · rfl
  · split <;> rfl

theorem State.rd_pg_slotPins (s : State) (n : Nat) (rst : Bool) : (s.slotPins n true rst).rd (Reg.SLOT_STATUS_PG.at n) = 1 := by
  have apart : (Reg.SLOT_STATUS_PG.at n).key ≠ Reg.SLOT_PG_LO.key ∧ (Reg.SLOT_STATUS_PG.at n).key ≠ Reg.SLOT_PG_HI.key := by
    simp only [Field.key, Field.at, Reg.SLOT_STATUS_PG, Reg.SLOT_PG_LO, Reg.SLOT_PG_HI]
    omega
  unfold State.slotPins
  rw [State.rd_send]
  show (State.wrBit _ _ _ _ _).rd _ = _
  rw [State.rd_wrBit _ _ _ _ _ _ apart.1 apart.2]
  exact State.rd_wr_same _ _ _ (by decide : (1 : Nat) ≤ 32)

theorem State.chState_gateEnhanced (s : State) (n : Nat) : (s.gateEnhanced n).chState n = chOn := by
  have others := chState_ne_others n n
  simp only [List.mem_cons, List.not_mem_nil, or_false, not_or] at others
  obtain ⟨_, pg, _, _, faultLo, faultHi, pgLo, pgHi⟩ := others
  unfold State.gateEnhanced State.chState State.slotPins
  rw [State.rd_send]
  show (State.wrBit _ _ _ _ _).rd _ = _
  rw [State.rd_wrBit _ _ _ _ _ _ pgLo pgHi, State.wrB, State.rd_wr_ne _ _ _ _ pg, State.rd_updChan, State.rd_count, State.setChan,
    State.rd_wrBit _ _ _ _ _ _ faultLo faultHi, State.rd_wr_same _ _ _ (by decide : (3 : Nat) ≤ 32)]
  rfl

theorem State.chan_gateEnhanced (s : State) (n : Nat) : (s.gateEnhanced n).chan n =
    { (((s.atLeast ((s.chan n).rampedAt + ms)).setChan n chOn).count Reg.SLOT_CNT_INSERTIONS).chan n with
      onAt := (s.atLeast ((s.chan n).rampedAt + ms)).tm.mono, rstHigh := false } := by
  unfold State.gateEnhanced
  rw [State.chan_slotPins]
  unfold State.chan State.updChan
  rw [Tab.getD_upd_same]

theorem State.tm_gateEnhanced (s : State) (n : Nat) : (s.gateEnhanced n).tm = (s.atLeast ((s.chan n).rampedAt + ms)).tm := by
  unfold State.gateEnhanced
  rw [State.tm_slotPins]
  exact State.tm_setChan _ _ _

theorem State.counter_gateEnhanced (s : State) (n : Nat) : (s.gateEnhanced n).counter Reg.SLOT_CNT_INSERTIONS =
    (s.counter Reg.SLOT_CNT_INSERTIONS + 1) % 2 ^ 48 := by
  unfold State.gateEnhanced State.slotPins
  rw [State.counter_send]
  show (State.wrBit _ _ _ _ _).counter _ = _
  rw [State.counter_wrBit]
  show (State.count _ _ _).counter _ = _
  rw [State.counter_count_same, State.setChan, State.counter_wrBit, State.counter_wr, State.counter_atLeast _ _ _ (by decide)]

/-- Settles O32: in each state of the channel the one thing that its command does. -/
theorem slotsAreCheckedRampedAndReleased : Obligations.SlotsAreCheckedRampedAndReleased := by
  refine ⟨fun slot s u hu => ⟨(exec_prsntDebounced slot s u hu _ rfl).1, fun late absent full prime groups out off enabled hl => ?joins⟩,
    fun slot m peerOn s u v hu hv => ?check, fun slot peerOn s => ?backfeed, fun slot s => ?ramp,
    fun slot peerOn s => ⟨fun ramp ramped => ?enhanced, fun other => ?noGate⟩, fun slot s => ?release, fun slot s => ?onSettled⟩
  case joins =>
    have joins : ¬ s.joinsNone slot := by
      rintro (h | h | h | h | h | h | h)
      · rw [h] at absent; cases absent
      · rw [h] at full; cases full
      · exact h prime
      · exact groups h
      · rw [h] at out; cases out
      · exact off h
      · exact enabled h
    rw [(exec_prsntDebounced slot s u hu late hl).2 joins]
    refine ⟨fun isLate => by rw [if_pos isLate], fun g early hg => ?_⟩
    rw [if_neg (ne_true_of_eq_false early), hg]
  case check =>
    rw [exec_slotCheckDone slot m peerOn s u v hu hv]
    refine ⟨fun out => by rw [if_pos out], fun checks power => ?_⟩
    rw [if_neg (by simp [checks, power])]
    refine ⟨fun bad => by rw [if_pos bad], fun good high peer => ?_, fun good high driven waits => ?_, fun good high driven fresh => ?_,
      fun good low short => ?_, fun good low rises => ?_⟩
    · rw [if_neg (ne_false_of_eq_true good), if_pos high, if_pos peer]
    · rw [if_neg (ne_false_of_eq_true good), if_pos high, if_neg (by omega), if_pos waits]
    · rw [if_neg (ne_false_of_eq_true good), if_pos high, if_neg (by omega), if_neg (ne_true_of_eq_false fresh)]
    · rw [if_neg (ne_false_of_eq_true good), if_neg (by omega), if_pos short]
    · rw [if_neg (ne_false_of_eq_true good), if_neg (by omega), if_neg (by omega)]
  case backfeed =>
    rw [exec_slotBackfeedWaitEnd]
    refine ⟨fun checks waits => by rw [if_pos ⟨checks, waits⟩], fun other => ?_⟩
    rw [if_neg fun h => other.elim (· h.1) fun no => ne_true_of_eq_false no h.2]
  case ramp =>
    rw [exec_slotRampDone]
    refine ⟨fun ramp first => by rw [if_pos ⟨ramp, first⟩], fun other => ?_⟩
    rw [if_neg fun h => other.elim (· h.1) fun no => ne_false_of_eq_true no h.2]
  case enhanced =>
    rw [exec_slotGateEnhanced, if_pos ⟨ramp, ramped⟩, exec_slotGateTimeout, if_pos ⟨ramp, ramped⟩]
    have chan : (s.gateEnhanced slot).settle.chan slot = (s.gateEnhanced slot).chan slot := by
      unfold State.chan; rw [State.settle_shelf]
    refine ⟨⟨_, rfl, ?_, ?_, ?_, ?_, ?_, ?_⟩, rfl⟩
    · exact (State.rd_settle_slot _ Reg.SLOT_STATUS_STATE slot (by decide) rfl (by decide) (by decide)).trans (s.chState_gateEnhanced slot)
    · rw [State.rd_settle_slot _ _ _ (by decide) rfl (by decide) (by decide)]
      exact State.rd_pg_slotPins _ _ _
    · rw [chan, State.chan_gateEnhanced]
    · rw [chan, State.chan_gateEnhanced, State.settle_tm, State.tm_gateEnhanced]
    · rw [State.settle_tm, State.tm_gateEnhanced]
      exact State.le_atLeast _ _
    · rw [State.counter_settle, State.counter_gateEnhanced]
  case noGate =>
    have no : ¬ (s.chState slot = chRamp ∧ (s.chan slot).ramped = true) := fun h => other.elim (· h.1) fun f => ne_true_of_eq_false f h.2
    rw [exec_slotGateEnhanced, if_neg no, exec_slotGateTimeout, if_neg no]
    exact ⟨rfl, rfl⟩
  case release =>
    refine ⟨fun isOn low good late running power u hu => ?_, fun other => ?_⟩
    · rw [exec_slotResetRelease slot s u hu, if_neg]
      rintro (h | h | h | h | h | h)
      · exact h isOn
      · rw [h] at low; cases low
      · rw [h] at good; cases good
      · omega
      · exact running h
      · rw [h] at power; cases power
    · rw [exec_slotResetRelease slot s _ rfl, if_pos other]
  case onSettled =>
    rw [exec_slotOnSettled]
    exact ⟨fun isOn => by rw [if_neg (Classical.not_not.2 isOn)], fun off => by rw [if_pos off]⟩

/-! ### A slot's protection -/

theorem exec_slotLimitTimeout (slot : Fin 48) (iout : Nat) (peerOn : Bool) (s : State) : exec (.slotLimitTimeout slot iout peerOn) s =
    .next (if s.chState slot = chRamp ∨ s.chState slot = chOn then (s.seeCurrent slot iout).latchFault slot ftLimit peerOn else s).settle := by
  show execSlotLimitTimeout slot iout peerOn s = _
  simp [execSlotLimitTimeout, settled]

theorem exec_fastTrip (slot : Fin 48) (iout : Nat) (limitToo peerOn : Bool) (s : State) : exec (.fastTrip slot iout limitToo peerOn) s =
    .next (if s.chState slot = chRamp ∨ s.chState slot = chOn then
      (if limitToo then (s.seeCurrent slot iout).seeCause slot ftLimit else s.seeCurrent slot iout).latchFault slot ftFastTrip peerOn
    else s).settle := by
  show execFastTrip slot iout limitToo peerOn s = _
  simp [execFastTrip, settled]

theorem exec_reverseCurrent_of_off (slot : Fin 48) (r : Reverse) (s : State) (off : s.chState slot ≠ chOn) :
    exec (.reverseCurrent slot r) s = .next s.settle := by
  show execReverseCurrent slot r s = _
  unfold execReverseCurrent settled
  simp only
  rw [if_pos (by simpa using off)]

theorem exec_reverseCurrent_below (slot : Fin 48) (s : State) (on : s.chState slot = chOn) : exec (.reverseCurrent slot .below) s =
    .next (if s.is (Reg.SLOT_STATUS_REV_BLOCK.at slot) = true then s
      else (s.wr (Reg.SLOT_STATUS_REV_BLOCK.at slot) 1).count Reg.SLOT_CNT_REVERSE_BLOCKS).settle := by
  show execReverseCurrent slot .below s = _
  unfold execReverseCurrent settled
  simp only
  rw [if_neg (by simp [on])]

theorem exec_reverseCurrent_cleared (slot : Fin 48) (s u v : State) (on : s.chState slot = chOn)
    (hu : u = s.wr (Reg.SLOT_STATUS_REV_BLOCK.at slot) 0) (hv : v = u.slotPins slot true (u.chan slot).rstHigh) :
    exec (.reverseCurrent slot .cleared) s = .next (if u.is (Reg.SLOT_STATUS_PG.at slot) = true then u
      else if (v.chan slot).rstHigh = true ∧ v.lk slot = lkDown then
        (v.toDetect slot).updLink slot fun l => { l with trainAt := v.tm.mono, retrained := true }
      else v).settle := by
  subst hv hu
  show execReverseCurrent slot .cleared s = _
  unfold execReverseCurrent settled
  simp only [Bool.and_eq_true, beq_iff_eq]
  rw [if_neg (by simp [on])]

theorem exec_slotPgLoss (slot : Fin 48) (why : PgLoss) (peerOn : Bool) (s : State) : exec (.slotPgLoss slot why peerOn) s =
    .next (if s.chState slot ≠ chOn then s
      else if s.is (Reg.SLOT_STATUS_REV_BLOCK.at slot) = true ∨ s.shelf.feedLow = true then
        (s.slotPins slot false (s.chan slot).rstHigh).linkOff slot peerOn
      else s.latchFault slot (if why = .voutLow then ftPgLost else ftGate) peerOn).settle := by
  show execSlotPgLoss slot why peerOn s = _
  cases why <;> simp [execSlotPgLoss, settled]

theorem exec_slotFeedUv (vin : Nat) (s u : State) (hu : u = s.wr Reg.SLOT_INPUT_VIN vin) : exec (.slotFeedUv vin) s =
    .next (if s.rd Reg.SLOT_CFG_UV * 10 ≤ vin then s
      else slots48.foldl (fun s n => if chCheck ≤ s.chState n && s.chState n ≤ chOn then s.gateOff n chOff else s)
        ({ u with shelf := { u.shelf with feedLow := true } } : State)).settle := by
  subst hu; rfl

theorem exec_slotFeedRestored (vin : Nat) (s u : State) (hu : u = s.wr Reg.SLOT_INPUT_VIN vin) : exec (.slotFeedRestored vin) s =
    .next (if vin < s.rd Reg.SLOT_CFG_UV * 10 + 50 then s
      else ({ u with shelf := { u.shelf with feedLow := false } } : State).tryChecks).settle := by
  subst hu; rfl

theorem exec_slotRemoval_of_absent (slot : Fin 48) (s : State) (absent : (s.chan slot).present = false) :
    exec (.slotRemoval slot) s = .next s.settle := by
  show execSlotRemoval slot s = _
  unfold execSlotRemoval settled
  simp only
  rw [if_pos (by simp [absent])]

theorem exec_slotRemoval_of_present (slot : Fin 48) (s u v w x : State) (present : (s.chan slot).present = true)
    (hu : u = ((s.updChan slot fun c => { c with present := false }).wr (Reg.SLOT_STATUS_PRSNT.at slot) 0).count Reg.SLOT_CNT_REMOVALS)
    (hv : v = ({ u with
      shelf := { u.shelf with groups := (u.shelf.groups.map fun (g : List Nat) => g.filter (· != slot.val))
                              late := u.shelf.late.filter (· != slot.val) }
      ftl := { u.ftl with waitingId := Tab.del slot u.ftl.waitingId } } : State).loadRetries slot)
    (hw : w = if v.chState slot = chFault then v.clearFault slot
      else if v.chState slot = chOff ∨ v.chState slot = chHoldoff then v else v.gateOff slot chHoldoff)
    (hx : x = (w.wr (Reg.SLOT_SENSE_VOUT.at slot) 0).linkOff slot) : exec (.slotRemoval slot) s =
      .next (if x.cst slot = cFailed then (x.setCst slot cEmpty).updLink slot fun l => { l with ident := none } else x).settle := by
  show execSlotRemoval slot s = _
  unfold execSlotRemoval settled
  simp only [← hu]
  simp only [← hv]
  rw [if_neg (by simp [present])]
  have faults : (if (v.chState slot == chFault) = true then v.clearFault slot
      else if (v.chState slot == chOff || v.chState slot == chHoldoff) = true then v else v.gateOff slot chHoldoff) = w := by
    rw [hw]; simp only [beq_iff_eq, Bool.or_eq_true]
  rw [faults, ← hx]
  simp only [beq_iff_eq]

theorem exec_slotCtl (slot : Fin 48) (value : W32) (s : State) (c : Instr)
    (mem : c ∈ [Instr.faultClr slot value, .slotEnWrite slot value, .autoRetryWrite slot value]) :
    exec c s = .next (s.slotCtlWrite slot value).settle := by
  simp only [List.mem_cons, List.not_mem_nil, or_false] at mem
  rcases mem with rfl | rfl | rfl <;> rfl

theorem exec_holdoffExpiry (slot : Fin 48) (s : State) : exec (.holdoffExpiry slot) s =
    .next (if s.chState slot ≠ chHoldoff then s else ((s.atLeast (s.chan slot).holdoff).setChan slot chOff).tryCheck slot).settle := by
  show execHoldoffExpiry slot s = _
  simp [execHoldoffExpiry, settled]

/-! ### A latched fault -/

/-- The fault seen, recorded and counted. -/
def State.faultNoted (s : State) (n cause : Nat) : State :=
  let u := if s.chState n == chCheck then s.count Reg.SLOT_CNT_PRE_ENABLE_REFUSALS else s
  let v := if cause == ftFastTrip then u.count Reg.SLOT_CNT_FAST_TRIPS
    else if cause == ftLimit then u.count Reg.SLOT_CNT_LIMIT_TIMEOUTS else u
  let w := (v.seeCause n cause).wr (Reg.SLOT_STATUS_FAULT_CAUSE.at n) cause
  w.wr (Reg.SLOT_HIST_FAULTS.at n) (min 255 (w.rd (Reg.SLOT_HIST_FAULTS.at n) + 1))

/-- The gate is off and the event raised; an automatic retry is still to be judged. -/
def State.faultLatched (s : State) (n cause : Nat) : State :=
  ((s.faultNoted n cause).gateOff n chFault true).raise sevUncorrected .slot (0x100C + 0x20 * n) n cause

theorem State.latchFault_of_held (s : State) (n cause : Nat) : s.latchFault n cause true =
    if (s.faultLatched n cause).is (Reg.SLOT_CTL_AUTO_RETRY.at n) = true ∧ (s.faultLatched n cause).rd (Reg.SLOT_STATUS_RETRIES_LEFT.at n) ≠ 0 then
      ((s.faultLatched n cause).wr (Reg.SLOT_STATUS_RETRIES_LEFT.at n)
        ((s.faultLatched n cause).rd (Reg.SLOT_STATUS_RETRIES_LEFT.at n) - 1)).chanOff n chHoldoff
    else s.faultLatched n cause := by
  show (if (_ && _ != 0) = true then _ else _) = _
  simp only [Bool.and_eq_true, bne_iff_ne]
  rfl

/-- The counts of a fault leave the registers. -/
theorem State.rd_faultNoted_eq (s : State) (n cause : Nat) (f : Field) : (s.faultNoted n cause).rd f =
    (let w := (s.seeCause n cause).wr (Reg.SLOT_STATUS_FAULT_CAUSE.at n) cause
     w.wr (Reg.SLOT_HIST_FAULTS.at n) (min 255 (w.rd (Reg.SLOT_HIST_FAULTS.at n) + 1))).rd f := by
  unfold State.faultNoted
  simp only
  split <;> split
  all_goals try split
  all_goals rfl

/-- A register of a slot's status or control word that neither the fault's record nor its gate touches. -/
def retryField (n : Nat) (f : Field) : Prop := f = Reg.SLOT_CTL_AUTO_RETRY.at n ∨ f = Reg.SLOT_STATUS_RETRIES_LEFT.at n

/-- What a fault with its gate off, and a link that was down, may write beside the channel's own fields. -/
def offKeys (n : Nat) : List Nat :=
  [(Reg.SLOT_SENSE_IOUT.at n).key, (Reg.SKL_LINK_STATE.at n).key, (Reg.SKL_STATUS_OUTCOME.at n).key, Reg.GLB_PRIME_ADMITTED_LO.key,
   Reg.GLB_PRIME_ADMITTED_HI.key]

theorem State.linkOff_of_down (s : State) (n : Nat) (down : s.lk n = lkDown) :
    s.linkOff n true = (s.setOutcome n ocNone).wr (Reg.SKL_LINK_STATE.at n) lkDown := by
  simp [State.linkOff, down, lkDown, lkActive]

theorem State.rd_gateOff_of_down (s : State) (n st : Nat) (down : s.lk n = lkDown) (f : Field) (apart : f.key ∉ offKeys n) :
    (s.gateOff n st true).rd f = (s.chanOff n st).rd f := by
  simp only [offKeys, List.mem_cons, List.not_mem_nil, or_false, not_or] at apart
  obtain ⟨iout, link, outcome, lo, hi⟩ := apart
  have lkIout : (Reg.SKL_LINK_STATE.at n).key ≠ (Reg.SLOT_SENSE_IOUT.at n).key := by
    simp only [Field.key, Field.at, Reg.SKL_LINK_STATE, Reg.SLOT_SENSE_IOUT]; omega
  have lkChan : (Reg.SKL_LINK_STATE.at n).key ∉ chanKeys n := by
    simp only [chanKeys, List.mem_cons, List.not_mem_nil, or_false, not_or, Field.key, Field.at, Reg.SLOT_STATUS_STATE, Reg.SKL_LINK_STATE,
      Reg.SLOT_STATUS_PG, Reg.SLOT_STATUS_REV_BLOCK, Reg.SLOT_STATUS_JOINED, Reg.SLOT_FAULTED_LO, Reg.SLOT_FAULTED_HI, Reg.SLOT_PG_LO,
      Reg.SLOT_PG_HI]
    omega
  unfold State.gateOff
  simp only
  rw [State.linkOff_of_down, State.rd_wr_ne _ _ _ _ link, State.setOutcome, State.rd_wrBit _ _ _ _ _ _ lo hi, State.rd_wr_ne _ _ _ _ outcome,
    State.rd_wr_ne _ _ _ _ iout, State.rd_updChan]
  unfold State.lk
  rw [State.rd_wr_ne _ _ _ _ lkIout, State.rd_updChan, State.rd_chanOff_of_apart _ _ _ _ lkChan]
  exact down

theorem State.rd_faultNoted_of_apart (s : State) (n cause : Nat) (f : Field) (seen : f.key ≠ (Reg.SLOT_HIST_SEEN.at n).key)
    (faultCause : f.key ≠ (Reg.SLOT_STATUS_FAULT_CAUSE.at n).key) (faults : f.key ≠ (Reg.SLOT_HIST_FAULTS.at n).key) :
    (s.faultNoted n cause).rd f = s.rd f := by
  rw [State.rd_faultNoted_eq]
  simp only
  rw [State.rd_wr_ne _ _ _ _ faults, State.rd_wr_ne _ _ _ _ faultCause, State.seeCause, State.rd_wr_ne _ _ _ _ seen]

theorem State.cause_faultNoted (s : State) (n cause : Nat) (fits : cause < 8) :
    (s.faultNoted n cause).rd (Reg.SLOT_STATUS_FAULT_CAUSE.at n) = cause := by
  have apart : (Reg.SLOT_STATUS_FAULT_CAUSE.at n).key ≠ (Reg.SLOT_HIST_FAULTS.at n).key := by
    simp only [Field.key, Field.at, Reg.SLOT_STATUS_FAULT_CAUSE, Reg.SLOT_HIST_FAULTS]; omega
  rw [State.rd_faultNoted_eq]
  simp only
  rw [State.rd_wr_ne _ _ _ _ apart, State.rd_wr_same _ _ _ (by decide : (3 : Nat) ≤ 32)]
  exact Nat.mod_eq_of_lt fits

theorem State.lk_faultNoted (s : State) (n cause : Nat) : (s.faultNoted n cause).lk n = s.lk n := by
  refine State.rd_faultNoted_of_apart s n cause _ ?_ ?_ ?_ <;>
    simp only [Field.key, Field.at, Reg.SKL_LINK_STATE, Reg.SLOT_HIST_SEEN, Reg.SLOT_STATUS_FAULT_CAUSE, Reg.SLOT_HIST_FAULTS] <;> omega

/-- A slot's field past the raising of its event. -/
theorem State.rd_raise_slot (s : State) (sev off a0 a1 : Nat) (f : Field) (h : 0x2800100 * 32 ≤ f.key) :
    (s.raise sev .slot off a0 a1).rd f = s.rd f := by
  have pend : (fEvtPend .slot).key < 0x2800100 * 32 := by decide
  have hist : Reg.GLB_HIST_COUNT.key < 0x2800100 * 32 := by decide
  refine State.rd_raise _ _ _ _ _ _ _ (by omega) ?_
  simp only [ringKey, Bool.or_eq_false_iff, beq_eq_false_iff_ne, Bool.and_eq_false_imp, decide_eq_true_eq, decide_eq_false_iff_not]
  omega

theorem State.rd_faultLatched (s : State) (n cause : Nat) (down : s.lk n = lkDown) (f : Field) (h : 0x2800100 * 32 ≤ f.key)
    (apart : f.key ∉ offKeys n) : (s.faultLatched n cause).rd f = ((s.faultNoted n cause).chanOff n chFault).rd f := by
  unfold State.faultLatched
  rw [State.rd_raise_slot _ _ _ _ _ _ h, State.rd_gateOff_of_down _ _ _ ((s.lk_faultNoted n cause).trans down) _ apart]

section
variable (s : State) (n cause : Nat) (down : s.lk n = lkDown)
include down

theorem State.chState_faultLatched : (s.faultLatched n cause).chState n = chFault := by
  unfold State.chState
  rw [State.rd_faultLatched s n cause down]
  · exact State.chState_chanOff _ n chFault
  · simp only [Field.key, Field.at, Reg.SLOT_STATUS_STATE]; omega
  · simp only [offKeys, List.mem_cons, List.not_mem_nil, or_false, not_or, Field.key, Field.at, Reg.SLOT_STATUS_STATE, Reg.SLOT_SENSE_IOUT,
      Reg.SKL_LINK_STATE, Reg.SKL_STATUS_OUTCOME, Reg.GLB_PRIME_ADMITTED_LO, Reg.GLB_PRIME_ADMITTED_HI]
    omega

theorem State.cause_faultLatched (fits : cause < 8) : (s.faultLatched n cause).rd (Reg.SLOT_STATUS_FAULT_CAUSE.at n) = cause := by
  rw [State.rd_faultLatched s n cause down, State.rd_chanOff_of_apart, s.cause_faultNoted n cause fits]
  · simp only [chanKeys, List.mem_cons, List.not_mem_nil, or_false, not_or, Field.key, Field.at, Reg.SLOT_STATUS_STATE,
      Reg.SLOT_STATUS_FAULT_CAUSE, Reg.SLOT_STATUS_PG, Reg.SLOT_STATUS_REV_BLOCK, Reg.SLOT_STATUS_JOINED, Reg.SLOT_FAULTED_LO,
      Reg.SLOT_FAULTED_HI, Reg.SLOT_PG_LO, Reg.SLOT_PG_HI]
    omega
  · simp only [Field.key, Field.at, Reg.SLOT_STATUS_FAULT_CAUSE]; omega
  · simp only [offKeys, List.mem_cons, List.not_mem_nil, or_false, not_or, Field.key, Field.at, Reg.SLOT_STATUS_FAULT_CAUSE,
      Reg.SLOT_SENSE_IOUT, Reg.SKL_LINK_STATE, Reg.SKL_STATUS_OUTCOME, Reg.GLB_PRIME_ADMITTED_LO, Reg.GLB_PRIME_ADMITTED_HI]
    omega

theorem State.retry_faultLatched (f : Field) (h : retryField n f) : (s.faultLatched n cause).rd f = s.rd f := by
  rcases h with rfl | rfl <;> rw [State.rd_faultLatched s n cause down, State.rd_chanOff_of_apart, State.rd_faultNoted_of_apart] <;>
    simp only [chanKeys, offKeys, List.mem_cons, List.not_mem_nil, or_false, not_or, Field.key, Field.at, Reg.SLOT_STATUS_STATE,
      Reg.SLOT_CTL_AUTO_RETRY, Reg.SLOT_STATUS_RETRIES_LEFT, Reg.SLOT_HIST_SEEN, Reg.SLOT_HIST_FAULTS, Reg.SLOT_STATUS_FAULT_CAUSE,
      Reg.SLOT_STATUS_PG, Reg.SLOT_STATUS_REV_BLOCK, Reg.SLOT_STATUS_JOINED, Reg.SLOT_FAULTED_LO, Reg.SLOT_FAULTED_HI, Reg.SLOT_PG_LO,
      Reg.SLOT_PG_HI, Reg.SLOT_SENSE_IOUT, Reg.SKL_LINK_STATE, Reg.SKL_STATUS_OUTCOME, Reg.GLB_PRIME_ADMITTED_LO,
      Reg.GLB_PRIME_ADMITTED_HI] <;> omega

/-- Without a retry left the fault stays; with one it waits in HOLDOFF with one less. -/
theorem State.latchFault_cases :
    (s.rd (Reg.SLOT_CTL_AUTO_RETRY.at n) = 0 ∨ s.rd (Reg.SLOT_STATUS_RETRIES_LEFT.at n) = 0 → s.latchFault n cause true = s.faultLatched n cause) ∧
    (s.rd (Reg.SLOT_CTL_AUTO_RETRY.at n) ≠ 0 → s.rd (Reg.SLOT_STATUS_RETRIES_LEFT.at n) ≠ 0 → s.latchFault n cause true =
      ((s.faultLatched n cause).wr (Reg.SLOT_STATUS_RETRIES_LEFT.at n) (s.rd (Reg.SLOT_STATUS_RETRIES_LEFT.at n) - 1)).chanOff n chHoldoff) := by
  rw [State.latchFault_of_held, State.is, s.retry_faultLatched n cause down _ (.inl rfl), s.retry_faultLatched n cause down _ (.inr rfl)]
  refine ⟨fun none => if_neg ?_, fun auto left => if_pos ⟨by simpa using auto, left⟩⟩
  rintro ⟨auto, left⟩
  exact none.elim (by simpa using auto) left

end

theorem State.retries_chanOff (s : State) (n v : Nat) :
    ((s.wr (Reg.SLOT_STATUS_RETRIES_LEFT.at n) v).chanOff n chHoldoff).rd (Reg.SLOT_STATUS_RETRIES_LEFT.at n) = v % 8 := by
  rw [State.rd_chanOff_of_apart, State.rd_wr_same _ _ _ (by decide : (3 : Nat) ≤ 32)]
  · rfl
  · simp only [chanKeys, List.mem_cons, List.not_mem_nil, or_false, not_or, Field.key, Field.at, Reg.SLOT_STATUS_STATE,
      Reg.SLOT_STATUS_RETRIES_LEFT, Reg.SLOT_STATUS_PG, Reg.SLOT_STATUS_REV_BLOCK, Reg.SLOT_STATUS_JOINED, Reg.SLOT_FAULTED_LO,
      Reg.SLOT_FAULTED_HI, Reg.SLOT_PG_LO, Reg.SLOT_PG_HI]
    omega

/-- Settles O33: each command in the states of the channel that it acts in; a latched fault by its retries. -/
theorem slotFaultsHoldTheGateOff : Obligations.SlotFaultsHoldTheGateOff := by
  refine ⟨fun slot iout limitToo peerOn s => ⟨fun live => ?trips, fun ramp on => ?noTrip⟩,
    fun slot r s => ⟨exec_reverseCurrent_of_off slot r s, fun on blocked => ?stays, fun on free => ?blocks, fun u v on hu hv => ?unblocks⟩,
    fun slot why peerOn s => ⟨fun off => ?pgOff, fun on explained => ?explained, fun on free feed => ?pgLost⟩, fun vin s u hu => ?feed,
    fun slot s => ⟨exec_slotRemoval_of_absent slot s, fun u v w x present hu hv hw hx =>
      exec_slotRemoval_of_present slot s u v w x present hu hv hw hx⟩, exec_slotCtl, fun slot s => ?holdoff,
    fun slot cause s fits on down => ⟨fun none => ?latched, fun auto left => ?retried⟩⟩
  case trips =>
    rw [exec_slotLimitTimeout, if_pos live, exec_fastTrip, if_pos live, exec_fastTrip, if_pos live]
    exact ⟨rfl, rfl, rfl⟩
  case noTrip =>
    rw [exec_slotLimitTimeout, if_neg (not_or.2 ⟨ramp, on⟩), exec_fastTrip, if_neg (not_or.2 ⟨ramp, on⟩)]
    exact ⟨rfl, rfl⟩
  case stays => rw [exec_reverseCurrent_below slot s on, if_pos blocked]
  case blocks => rw [exec_reverseCurrent_below slot s on, if_neg (ne_true_of_eq_false free)]
  case unblocks =>
    rw [exec_reverseCurrent_cleared slot s u v on hu hv]
    refine ⟨fun good => by rw [if_pos good], fun bad high down => ?_, fun bad other => ?_⟩
    · rw [if_neg (ne_true_of_eq_false bad), if_pos ⟨high, down⟩]
    · rw [if_neg (ne_true_of_eq_false bad), if_neg]
      exact fun h => other.elim (ne_false_of_eq_true h.1) (· h.2)
  case pgOff => rw [exec_slotPgLoss, if_pos off]
  case explained => rw [exec_slotPgLoss, if_neg (Classical.not_not.2 on), if_pos explained]
  case pgLost =>
    have quiet : ¬ (s.is (Reg.SLOT_STATUS_REV_BLOCK.at slot) = true ∨ s.shelf.feedLow = true) := by simp [free, feed]
    refine ⟨?_, ?_⟩ <;> rw [exec_slotPgLoss, if_neg (Classical.not_not.2 on), if_neg quiet]
    · rw [if_pos rfl]
    · rw [if_neg (by decide)]
  case feed =>
    rw [exec_slotFeedUv vin s u hu, exec_slotFeedRestored vin s u hu]
    exact ⟨fun good => by rw [if_pos good], fun low => by rw [if_neg (by omega)], fun low => by rw [if_pos low],
      fun good => by rw [if_neg (by omega)]⟩
  case holdoff =>
    rw [exec_holdoffExpiry]
    exact ⟨fun waits => by rw [if_neg (Classical.not_not.2 waits)], fun other => by rw [if_pos other]⟩
  case latched =>
    rw [(s.latchFault_cases slot cause down).1 none]
    exact ⟨s.chState_faultLatched slot cause down, s.cause_faultLatched slot cause down fits⟩
  case retried =>
    rw [(s.latchFault_cases slot cause down).2 auto left]
    exact ⟨State.chState_chanOff _ _ _, State.retries_chanOff _ _ _⟩

end Sys2Proof.Machine
end
/-! ## Events, admission and time (O34 to O38) -/

section
namespace Sys2Proof.Machine

/-! ### Event rings and the history -/

theorem exec_ringCoalesceExpiry (ring : Fin 256) (s : State) : exec (.ringCoalesceExpiry ring) s =
    .next ((Tab.find ring.val s.evt.coalescing).elim s fun at_ => (s.atLeast at_).ringMessage ring).settle := by
  show execRingCoalesceExpiry ring s = _
  cases found : Tab.find ring.val s.evt.coalescing <;> simp only [execRingCoalesceExpiry, settled, found, Option.elim]

theorem exec_ringConsWrite (ring : Fin 256) (value : W32) (s u v w : State) (hu : u = s.writeWord (0x1010 + 0x20 * ring.val) value)
    (hv : v = if 2 ^ u.rd (Reg.GLB_EVT_SIZE_SIZE_LOG2.at ring) ≤ value.toNat % 65536 then u.setErr .glb 1
      else u.wr (Reg.GLB_EVT_CONS.at ring) (value.toNat % 65536))
    (hw : w = v.wr (Reg.GLB_EVT_CONS_ARM.at ring) 1) : exec (.ringConsWrite ring value) s =
    .next (if s.decodeOf .glb ≠ .all then u else if value.toNat / 2 ^ 31 = 0 then v
      else if w.rd (Reg.GLB_EVT_PROD.at ring) = w.rd (Reg.GLB_EVT_CONS.at ring) then w else w.ringMessage ring).settle := by
  show execRingConsWrite ring value s = _
  unfold execRingConsWrite settled
  simp only [← hu, bne_iff_ne, beq_iff_eq]
  simp only [← hv]
  simp only [← hw]

/-- A ring that EN raised enables. -/
def State.ringRaised (u : State) (r : Nat) : State :=
  (((u.wr (Reg.GLB_EVT_SIZE_EN.at r) 1).wr (Reg.GLB_EVT_PROD.at r) 0).wr (Reg.GLB_EVT_PROD_PHASE.at r) 1).wr (Reg.GLB_EVT_CONS.at r) 0

theorem exec_ringEnable (ring : Fin 256) (value : W32) (s u : State) (hu : u = s.writeWord (0x1008 + 0x20 * ring.val) value) :
    exec (.ringEnable ring value) s = .next (if s.decodeOf .glb ≠ .all then u
      else if value.toNat / 2 ^ 31 = 0 then u.wr (Reg.GLB_EVT_SIZE_EN.at ring) 0
      else if s.is (Reg.GLB_EVT_SIZE_EN.at ring) = true then u else u.ringRaised ring).settle := by
  show execRingEnable ring value s = _
  unfold execRingEnable settled State.ringRaised
  simp only [← hu, bne_iff_ne, beq_iff_eq]

/-- A ring's registers are none of the two that every command brings up to date. -/
theorem State.rd_settle_ring (s : State) (f : Field) (ring : Fin 256) (step : f.s1 = 32) (high : f.off < 0x1100) (bits : f.lo < 32) :
    s.settle.rd (f.at ring) = s.rd (f.at ring) := by
  refine State.rd_settle _ _ ?_ ?_ <;>
    simp only [Field.key, Field.at, Reg.WELL_RC_STATUS_QP_OPEN, Reg.SUMP_OCC_OCCUPIED, step] <;> omega

theorem State.ringRaised_shows (u : State) (r : Nat) :
    (u.ringRaised r).rd (Reg.GLB_EVT_SIZE_EN.at r) = 1 ∧ (u.ringRaised r).rd (Reg.GLB_EVT_PROD.at r) = 0 ∧
    (u.ringRaised r).rd (Reg.GLB_EVT_PROD_PHASE.at r) = 1 ∧ (u.ringRaised r).rd (Reg.GLB_EVT_CONS.at r) = 0 := by
  have keys : [Reg.GLB_EVT_SIZE_EN.at r, Reg.GLB_EVT_PROD.at r, Reg.GLB_EVT_PROD_PHASE.at r, Reg.GLB_EVT_CONS.at r].Pairwise
      (fun f g => f.key ≠ g.key) := by
    simp only [List.pairwise_cons, List.mem_cons, List.not_mem_nil, or_false, forall_eq_or_imp, forall_eq, Field.key, Field.at,
      Reg.GLB_EVT_SIZE_EN, Reg.GLB_EVT_PROD, Reg.GLB_EVT_PROD_PHASE, Reg.GLB_EVT_CONS, List.Pairwise.nil, false_imp_iff, implies_true,
      and_true]
    omega
  simp only [List.pairwise_cons, List.mem_cons, List.not_mem_nil, or_false, forall_eq_or_imp, forall_eq] at keys
  obtain ⟨⟨enProd, enPhase, enCons⟩, ⟨prodPhase, prodCons⟩, phaseCons, _⟩ := keys
  unfold State.ringRaised
  refine ⟨?_, ?_, ?_, ?_⟩
  · rw [State.rd_wr_ne _ _ _ _ enCons, State.rd_wr_ne _ _ _ _ enPhase, State.rd_wr_ne _ _ _ _ enProd]
    exact State.rd_wr_same _ _ _ (by decide : (1 : Nat) ≤ 32)
  · rw [State.rd_wr_ne _ _ _ _ prodCons, State.rd_wr_ne _ _ _ _ prodPhase, State.rd_wr_same _ _ _ (by decide : (16 : Nat) ≤ 32)]
    exact Nat.zero_mod _
  · rw [State.rd_wr_ne _ _ _ _ phaseCons]
    exact State.rd_wr_same _ _ _ (by decide : (1 : Nat) ≤ 32)
  · rw [State.rd_wr_same _ _ _ (by decide : (16 : Nat) ≤ 32)]
    exact Nat.zero_mod _

theorem State.ringRaised_registers (u : State) (r : Nat) : RegistersChange u (u.ringRaised r).settle
    [Reg.GLB_EVT_SIZE_EN.at r, Reg.GLB_EVT_PROD.at r, Reg.GLB_EVT_PROD_PHASE.at r, Reg.GLB_EVT_CONS.at r] :=
  (((((RegistersChange.refl u _).wr _ _ (by simp)).wr _ _ (by simp)).wr _ _ (by simp)).wr _ _ (by simp)).settled

/-- A record of the history in the DATA registers. -/
def State.historyShown (u : State) (e : EvtRecord) : State :=
  e.words.zipIdx.foldl (fun s w => s.wr (Reg.GLB_HIST_DATA.at w.2) w.1) (u.wr Reg.GLB_HIST_STATUS_VALID 1)

theorem exec_historyRead_of_out (value : W32) (s u : State) (hu : u = s.writeWord 0x4C0 value)
    (out : s.decodeOf .glb ≠ .all ∨ value.toNat / 2 ^ 31 = 0) : exec (.historyRead value) s = .next u.settle := by
  show execHistoryRead value s = _
  unfold execHistoryRead settled
  simp only [← hu]
  rw [if_pos (by simpa using out)]

theorem exec_historyRead_of_asked (value : W32) (s u : State) (hu : u = s.writeWord 0x4C0 value) (decodes : s.decodeOf .glb = .all)
    (asks : value.toNat / 2 ^ 31 ≠ 0) : exec (.historyRead value) s =
      .next (s.evt.history[value.toNat % 256]?.elim (u.wr Reg.GLB_HIST_STATUS_VALID 0) u.historyShown).settle := by
  show execHistoryRead value s = _
  unfold execHistoryRead settled
  simp only [← hu]
  rw [if_neg (by simpa [decodes] using asks)]
  cases s.evt.history[value.toNat % 256]? <;> simp only [Option.elim, State.historyShown]

/-- Settles O34: the word is written first; its trigger then acts by the ring as it was. -/
theorem ringsAreArmedEnabledAndRead : Obligations.RingsAreArmedEnabledAndRead := by
  refine ⟨fun ring s => ?coalesce, fun ring value s u v hu hv => ⟨fun out => ?consOut, fun decodes plain => ?cons,
      fun w decodes arms hw => ?arm⟩, fun ring value s u hu => ?enable, fun value s u hu => ?history⟩
  case coalesce =>
    rw [exec_ringCoalesceExpiry]
    exact ⟨fun at_ found => by rw [found]; rfl, fun none => by rw [none]; rfl⟩
  case consOut => rw [exec_ringConsWrite ring value s u v _ hu hv rfl, if_pos out]
  case cons => rw [exec_ringConsWrite ring value s u v _ hu hv rfl, if_neg (Classical.not_not.2 decodes), if_pos (by omega)]
  case arm =>
    rw [exec_ringConsWrite ring value s u v w hu hv hw, if_neg (Classical.not_not.2 decodes), if_neg (by omega)]
    exact ⟨fun empty => by rw [if_pos empty], fun waits => by rw [if_neg waits]⟩
  case enable =>
    rw [exec_ringEnable ring value s u hu]
    refine ⟨fun out => ?_, fun decodes clears => ?_, fun decodes sets was => ?_⟩
    · by_cases decodes : s.decodeOf .glb = .all
      · obtain ⟨sets, was⟩ := out.resolve_left (Classical.not_not.2 decodes)
        rw [if_neg (Classical.not_not.2 decodes), if_neg (by omega), if_pos was]
      · rw [if_pos decodes]
    · rw [if_neg (Classical.not_not.2 decodes), if_pos (by omega)]
      refine ⟨_, rfl, ?_, RegistersChange.wr_settle _ _ _⟩
      rw [State.rd_settle_ring _ _ _ rfl (by decide) (by decide), State.rd_wr_same _ _ _ (by decide : (1 : Nat) ≤ 32)]
      exact Nat.zero_mod _
    · rw [if_neg (Classical.not_not.2 decodes), if_neg (by omega), if_neg (ne_true_of_eq_false was)]
      obtain ⟨en, prod, phase, cons⟩ := u.ringRaised_shows ring
      refine ⟨_, rfl, ?_, ?_, ?_, ?_, u.ringRaised_registers ring⟩ <;> rw [State.rd_settle_ring _ _ _ rfl (by decide) (by decide)]
      · exact en
      · exact prod
      · exact phase
      · exact cons
  case history =>
    have bit : 2 ^ 31 ≤ value.toNat ↔ value.toNat / 2 ^ 31 ≠ 0 := by omega
    refine ⟨fun out => exec_historyRead_of_out value s u hu (out.imp_right fun h => by omega), fun decodes asks none => ?_,
      fun e decodes asks some => ?_⟩
    · rw [exec_historyRead_of_asked value s u hu decodes (bit.1 asks), none, Option.elim_none]
      refine ⟨_, rfl, ?_, RegistersChange.wr_settle _ _ _⟩
      rw [State.rd_settle _ _ (by decide) (by decide), State.rd_wr_same _ _ _ (by decide), Nat.zero_mod]
    · rw [exec_historyRead_of_asked value s u hu decodes (bit.1 asks), some, Option.elim_some]
      rfl

/-! ### Fatal causes and the watchdog -/

theorem State.fatal_of_second (s : State) (cause : Nat) (b : Block) (off at_ : Nat) (dying : s.evt.fatalAt = some at_) : s.fatal cause b off =
    s.keepHistory { seq := s.lastSeq % 2 ^ 32, severity := sevFatal, block := blockCode b, offset := off, arg0 := noInstance
                    arg1 := cause, shelf := s.tm.shelf, history := true } := by
  simp only [State.fatal, dying, Option.isSome_some, if_true]

theorem State.history_keepHistory (s : State) (e : EvtRecord) : (s.keepHistory e).evt.history.head? = some e := rfl

theorem exec_fatalHoldExpiry (s : State) : exec .fatalHoldExpiry s = .next (s.evt.fatalAt.elim s fun at_ =>
    if s.rd Reg.GLB_FATAL_CFG_HOLD = 0 then s else (s.atLeast (at_ + s.rd Reg.GLB_FATAL_CFG_HOLD * sec)).takeReset .softFull).settle := by
  show execFatalHoldExpiry s = _
  cases dying : s.evt.fatalAt <;> simp only [execFatalHoldExpiry, settled, dying, Option.elim, beq_iff_eq]

theorem exec_fatalClear (value : W32) (s u : State) (hu : u = s.writeWord 0x480 value) : exec (.fatalClear value) s =
    .next (if s.decodeOf .glb = .all ∧ value.toNat % 2 = 1 then u.wr Reg.GLB_FATAL_VALID 0 else u).settle := by
  subst hu
  show execFatalClear value s = _
  simp only [execFatalClear, settled, Bool.and_eq_true, beq_iff_eq]

/-- A kick taken. -/
def State.kicked (u : State) : State := { u.wr Reg.GLB_WDOG_WARNED 0 with evt := { u.evt with kickAt := u.tm.mono } }

theorem exec_watchdogKick (value : W32) (s u : State) (hu : u = s.writeWord 0x4A4 value) : exec (.watchdogKick value) s =
    .next (if s.decodeOf .glb = .all ∧ value.toNat % 2 = 1 ∧ value.toNat / 65536 = 0x9648 then u.kicked else u).settle := by
  subst hu
  show execWatchdogKick value s = _
  simp only [execWatchdogKick, settled, State.kicked, Bool.and_eq_true, beq_iff_eq, and_assoc]

theorem exec_watchdogWarn (s : State) : exec .watchdogWarn s =
    .next (if s.rd Reg.GLB_WDOG_PERIOD = 0 ∨ s.is Reg.GLB_WDOG_WARNED = true then s
      else ((s.atLeast (s.evt.kickAt + s.rd Reg.GLB_WDOG_PERIOD * ms)).wr Reg.GLB_WDOG_WARNED 1).raise sevUncorrected .glb 0x4A0).settle := by
  show execWatchdogWarn s = _
  simp only [execWatchdogWarn, settled, Bool.or_eq_true, beq_iff_eq]

theorem exec_watchdogExpiry (s : State) : exec .watchdogExpiry s =
    .next (if s.rd Reg.GLB_WDOG_PERIOD = 0 ∨ s.is Reg.GLB_WDOG_WARNED = false then s
      else ((s.atLeast (s.evt.kickAt + 2 * s.rd Reg.GLB_WDOG_PERIOD * ms)).fatal ftWatchdog .glb 0x4A0).takeReset .watchdog).settle := by
  show execWatchdogExpiry s = _
  simp only [execWatchdogExpiry, settled, Bool.or_eq_true, beq_iff_eq, Bool.not_eq_true']

/-- Settles O35: a second cause reaches the history alone, and each other command acts where its condition holds. -/
theorem fatalCausesAndTheWatchdogReset : Obligations.FatalCausesAndTheWatchdogReset := by
  refine ⟨fun cause s => rfl, fun cause b off at_ s dying => ?second, fun s => ?hold, fun value s u hu => ?clear, fun value s u hu => ?kick,
    fun s => ?watchdog⟩
  case second =>
    rw [s.fatal_of_second cause b off at_ dying]
    exact ⟨State.rd_wr_ne _ _ _ _ (by decide), _, s.history_keepHistory _, rfl, rfl, rfl⟩
  case hold =>
    rw [exec_fatalHoldExpiry]
    refine ⟨fun at_ dying hold => by rw [dying, Option.elim_some, if_neg hold], fun idle => ?_⟩
    cases dying : s.evt.fatalAt with
    | none => rfl
    | some at_ => rw [Option.elim_some, if_pos (idle.resolve_left (by simp [dying]))]
  case clear =>
    rw [exec_fatalClear value s u hu]
    refine ⟨fun decodes bit => ?_, fun other => ?_⟩
    · rw [if_pos ⟨decodes, bit⟩]
      refine ⟨_, rfl, ?_, RegistersChange.wr_settle _ _ _⟩
      rw [State.rd_settle _ _ (by decide) (by decide), State.rd_wr_same _ _ _ (by decide), Nat.zero_mod]
    · rw [if_neg fun h => other.elim (· h.1) fun no => by omega]
  case kick =>
    rw [exec_watchdogKick value s u hu]
    refine ⟨fun decodes bit key => ?_, fun other => ?_⟩
    · rw [if_pos ⟨decodes, bit, key⟩]
      have evt : u.kicked.settle.evt = { u.evt with kickAt := u.tm.mono } := by rw [State.settle_evt]; rfl
      refine ⟨_, rfl, ?_, by rw [evt], ?_⟩
      · rw [State.rd_settle _ _ (by decide) (by decide)]
        exact (State.rd_wr_same u Reg.GLB_WDOG_WARNED 0 (by decide)).trans (Nat.zero_mod _)
      · rw [evt]
        exact ((RegistersChange.refl { u with evt := { u.evt with kickAt := u.tm.mono } } [Reg.GLB_WDOG_WARNED]).wr _ 0
          (by decide)).settled
    · rw [if_neg fun h => other.elim (· h.1) fun no => by omega]
  case watchdog =>
    rw [exec_watchdogWarn, exec_watchdogExpiry]
    refine ⟨fun period fresh => ?_, fun none => by rw [if_pos none], fun period warned => ?_, fun none => by rw [if_pos none]⟩
    · rw [if_neg (not_or.2 ⟨period, ne_true_of_eq_false fresh⟩)]
    · rw [if_neg (not_or.2 ⟨period, ne_false_of_eq_true warned⟩)]

/-! ### Admission by QOS -/

/-- The chosen command charged and counted. -/
def State.chargeChosen (u : State) (e : Elig) (q : Qos) : State :=
  (((({ u with qos := q } : State).unhold e.tenant e.id).chargeAll e).count ((match e.colour with
    | .green => Reg.QOS_CNT_GREEN
    | .yellow => Reg.QOS_CNT_YELLOW
    | .red => Reg.QOS_CNT_RED).at e.tenant)).count (Reg.QOS_CNT_CHARGE.at e.tenant) e.bytes

theorem exec_qosAdmission_of_none (now : Nat) (s u : State) (hu : u = (s.atLeast now).refuseOverdue)
    (none : u.serving = false ∨ u.begins .qos = false ∨ u.choose = none) : exec (.qosAdmission now) s = .next u.settle := by
  show execQosAdmission now s = _
  unfold execQosAdmission settled
  simp only [← hu]
  by_cases idle : (!u.serving || !u.begins .qos) = true
  · rw [if_pos idle]
  · rw [if_neg idle]
    have free : u.choose = Option.none := by simpa [not_or.1 (by simpa using idle : ¬(u.serving = false ∨ u.begins .qos = false))] using none
    rw [free]

theorem exec_qosAdmission_of_chosen (now : Nat) (s u w : State) (hu : u = (s.atLeast now).refuseOverdue) (serves : u.serving = true)
    (runs : u.begins .qos = true) (e : Elig) (q : Qos) (chosen : u.choose = some (e, q)) (hw : w = u.chargeChosen e q) (c : Cmd)
    (found : w.cmdOf e.id = some c) : exec (.qosAdmission now) s =
      .next (((w.updCmd e.id fun c => { c with barred := w.barredNow c }).setStage e.id .admitted).tenantActs c).settle := by
  show execQosAdmission now s = _
  unfold execQosAdmission settled
  simp only [← hu]
  rw [if_neg (by simp [serves, runs]), chosen]
  unfold State.chargeChosen at hw
  cases colour : e.colour <;> simp only [colour] at hw ⊢ <;> simp only [← hw, found]

theorem exec_tenantInactive (tenant : Fin 1024) (s : State) : exec (.tenantInactive tenant) s =
    .next ((Tab.find tenant.val s.qos.lastAdmit).elim s fun at_ =>
      ({ s.atLeast (at_ + sec) with
        qos := { s.qos with lastAdmit := Tab.del tenant.val s.qos.lastAdmit } } : State).showLatTol).settle := by
  show execTenantInactive tenant s = _
  cases found : Tab.find tenant.val s.qos.lastAdmit <;> simp only [execTenantInactive, settled, found, Option.elim]
  rfl

/-- Settles O36: nothing is admitted where none may go, and the chosen command is charged before it is marked. -/
theorem admissionChargesTheChosenCommand : Obligations.AdmissionChargesTheChosenCommand := by
  refine ⟨fun now s u hu => ⟨exec_qosAdmission_of_none now s u hu, fun e q v w serves runs chosen hv hw c found => ?chosen⟩,
    fun tenant s => ⟨fun at_ u found hu => ?inactive, fun none => ?never⟩⟩
  case chosen =>
    have charged : w = u.chargeChosen e q := by subst hw hv; rfl
    exact exec_qosAdmission_of_chosen now s u w hu serves runs e q chosen charged c found
  case inactive => subst hu; rw [exec_tenantInactive, found]; rfl
  case never => rw [exec_tenantInactive, none]; rfl

/-! ### Sources of time -/

theorem exec_ptpMessageReceive (m : PtpMsg) (s u : State)
    (hu : u = { s with tm := { s.tm with gm := m.gm } }) : exec (.ptpMessageReceive m) s =
    .next (if s.clocksRun = false ∨ s.st < stPRIME ∨ (s.rd (Reg.ETH_LINK_UP.at m.port.val) / 2 ^ m.subPort.val % 2 == 1) = false ∨
        s.ptpPort (8 * m.port.val + m.subPort.val) = false ∨ m.supported = false ∨ m.domain ≠ s.ptpDomain ∨
        m.transport ≠ s.rd Reg.TIME_PTP_CFG_TRANSPORT ∨ m.best = false then s
      else (u.wr Reg.TIME_STATUS_PTP_PORT (8 * m.port.val + m.subPort.val)).measure 1 (u.masterOffset m) (u.masterOffset m)).settle := by
  subst hu
  show execPtpMessageReceive m s = _
  unfold execPtpMessageReceive settled
  simp only [Bool.or_eq_true, Bool.not_eq_true', bne_iff_ne, decide_eq_true_eq, or_assoc]

theorem exec_ptpSyncSend (port : Fin 32) (s : State) : exec (.ptpSyncSend port) s =
    .next (if s.clocksRun = false ∨ s.is Reg.TIME_PTP_CFG_BC = false ∨ s.ptpPort port = false ∨
        (s.rd Reg.TIME_STATUS_SOURCE == 1 && s.rd Reg.TIME_STATUS_PTP_PORT == port.val) = true then s
      else s.send (.ptpSync port (.of s.tm.shelf) s.tm.gm)).settle := by
  show execPtpSyncSend port s = _
  unfold execPtpSyncSend settled
  simp only [Bool.or_eq_true, Bool.not_eq_true', or_assoc]

theorem exec_holdoverEntry (s : State) : exec .holdoverEntry s = .next (s.tm.lastGood.elim s fun at_ =>
    if s.rd Reg.TIME_STATUS_SERVO ≠ svLocked then s
    else ((s.atLeast (at_ + sourceHold)).wr Reg.TIME_STATUS_SERVO svHoldover).setSource 0).settle := by
  show execHoldoverEntry s = _
  cases good : s.tm.lastGood <;> simp only [execHoldoverEntry, settled, good, Option.elim, bne_iff_ne]

theorem exec_peerTimeExchange_of_off (link : Fin 2) (pt : PeerTime) (s : State)
    (off : s.neighbour link = none ∨ s.clocksRun = false ∨ s.plState link ≠ lkActive) :
    exec (.peerTimeExchange link pt) s = .next s.settle := by
  show execPeerTimeExchange link pt s = _
  unfold execPeerTimeExchange settled
  cases there : s.neighbour link with
  | none => rfl
  | some m =>
    simp only
    rw [if_pos (by simpa [there] using off)]

theorem exec_peerTimeExchange_of_up (link : Fin 2) (pt : PeerTime) (s u : State) (m : Nat) (there : s.neighbour link = some m)
    (runs : s.clocksRun = true) (up : s.plState link = lkActive)
    (hu : u = (s.toLink (52 + link) m (.time s.tm.shelf)).wr (Reg.TIME_PEER_OFFSET.at link) (signed32 pt.offset)) :
    exec (.peerTimeExchange link pt) s = .next (pt.ptpOffset.elim u fun p =>
      if u.is Reg.TIME_SRC_CFG_PEER_EN = true ∧ pt.source = 1 then u.measure (2 + link) pt.offset (p + pt.offset.natAbs) else u).settle := by
  show execPeerTimeExchange link pt s = _
  unfold execPeerTimeExchange settled
  simp only [there]
  rw [if_neg (by simp [runs, up])]
  simp only [← hu]
  cases pt.ptpOffset <;> simp only [Option.elim, Bool.and_eq_true, beq_iff_eq]

/-- The whole seconds that the next edge of 1PPS stands for after a time of day. -/
def State.ppsCount (s : State) (tod : Nat) : Nat :=
  s.tm.pps.elim 0 fun e => if e.1 = tod then e.2 + 1 else 0

theorem exec_ppsEdge (s : State) (tod : Nat) (off : Int) (htod : tod = s.rd64 Reg.TIME_TOD_LO Reg.TIME_TOD_HI)
    (hoff : off = ((tod + s.ppsCount tod * sec : Nat) : Int) - s.tm.shelf) : exec .ppsEdge s =
    .next (if s.clocksRun = false ∨ s.is Reg.TIME_SRC_CFG_PPS_EN = false ∨ tod = 0 then s
      else ({ s with tm := { s.tm with pps := some (tod, s.ppsCount tod) } } : State).measure 4 off off).settle := by
  subst hoff
  show execPpsEdge s = _
  unfold execPpsEdge settled State.ppsCount
  simp only [← htod, Bool.or_eq_true, Bool.not_eq_true', beq_iff_eq, or_assoc]
  rcases pps : s.tm.pps with _ | ⟨t, n⟩ <;> rfl

theorem State.ppsCount_of_cases (s : State) (tod n : Nat)
    (h : (∃ k : Nat, s.tm.pps = some (tod, k) ∧ n = k + 1) ∨ ((∀ k : Nat, s.tm.pps ≠ some (tod, k)) ∧ n = 0)) : s.ppsCount tod = n := by
  unfold State.ppsCount
  rcases h with ⟨k, pps, rfl⟩ | ⟨other, rfl⟩
  · rw [pps, Option.elim_some, if_pos rfl]
  · rcases pps : s.tm.pps with _ | ⟨t, k⟩
    · rfl
    · rw [Option.elim_some, if_neg fun (same : t = tod) => other k (by rw [pps, same])]

theorem exec_stepOverride (value : W32) (s u : State) (hu : u = s.writeWord 0x300140 value) : exec (.stepOverride value) s =
    .next (if s.decodeOf .time ≠ .all then u
      else if s.auditFull = true then u.setErr .cry 9
      else if value.toNat % 2 = 1 ∧ value.toNat / 65536 = 0x9648 then
        { u.audit audStepOverride actManagement false with tm := { u.tm with overrideAt := some u.tm.mono } }
      else u.audited 0x300140 value true).settle := by
  subst hu
  show execStepOverride value s = _
  simp only [execStepOverride, settled, bne_iff_ne, Bool.and_eq_true, beq_iff_eq]

theorem exec_stepOverrideLapse (s : State) : exec .stepOverrideLapse s = .next (s.tm.overrideAt.elim s fun at_ =>
    ({ s.atLeast (at_ + 10 * sec) with tm := { (s.atLeast (at_ + 10 * sec)).tm with overrideAt := none } } : State)).settle := by
  show execStepOverrideLapse s = _
  cases armed : s.tm.overrideAt <;> simp only [execStepOverrideLapse, settled, armed, Option.elim]

theorem exec_secureTimeRecord (s : State) : exec .secureTimeRecord s = .next (if s.clocksRun = false then s
    else { s with tm := { s.tm with floor := s.tm.secure, recorded := s.mediaNow } }).settle := by
  show execSecureTimeRecord s = _
  simp only [execSecureTimeRecord, settled, Bool.not_eq_true']

theorem exec_timeFlagCheck (s u : State) (hu : u = if s.rd Reg.TIME_STATUS_SERVO = svHoldover ∧ s.tm.unbounded = false
    then s.wr Reg.TIME_OFFSET_PTP_OFFSET (signed32 s.ptpOffset) else s) : exec .timeFlagCheck s =
    .next (if s.clocksRun = false then s else u.checkCoord.showMode.showPrd).settle := by
  subst hu
  show execTimeFlagCheck s = _
  simp only [execTimeFlagCheck, settled, Bool.not_eq_true', Bool.and_eq_true, beq_iff_eq]

/-- Settles O37: each source of time is measured where its conditions hold, and leaves the time alone otherwise. -/
theorem shelfTimeFollowsItsSources : Obligations.ShelfTimeFollowsItsSources := by
  refine ⟨fun m up s hup => ⟨fun runs prime isUp port supported domain transport best => ?measured, fun out => ?unheard⟩,
    fun port slave s hslave => ⟨fun runs bc enabled master => ?sync, fun out => ?noSync⟩, fun s => ?holdover,
    fun link pt s => ⟨exec_peerTimeExchange_of_off link pt s, fun m u there runs active hu => ?peer⟩,
    fun s => ⟨fun out => ?noEdge, fun tod n off runs enabled htod written count hoff => ?edge⟩, fun value s u hu => ?override,
    fun s => ⟨fun at_ u armed hu => ?lapse, fun none => ?noLapse, fun runs => ?record, fun stopped => ⟨?noRecord, ?noCheck⟩,
      fun u runs hu => ?check⟩⟩
  case measured =>
    rw [exec_ptpMessageReceive m s _ rfl, if_neg]
    simp [← hup, runs, isUp, port, supported, domain, transport, best, prime]
  case unheard => rw [exec_ptpMessageReceive m s _ rfl, if_pos (by rw [← hup]; exact out)]
  case sync => rw [exec_ptpSyncSend, if_neg (by rw [← hslave]; simp [runs, bc, enabled, master])]
  case noSync => rw [exec_ptpSyncSend, if_pos (by rw [← hslave]; exact out)]
  case holdover =>
    rw [exec_holdoverEntry]
    refine ⟨fun at_ good locked => by rw [good, Option.elim_some, if_neg (Classical.not_not.2 locked)], fun other => ?_⟩
    cases good : s.tm.lastGood with
    | none => rfl
    | some at_ => rw [Option.elim_some, if_pos (other.resolve_left (by simp [good]))]
  case peer =>
    rw [exec_peerTimeExchange_of_up link pt s u m there runs active hu]
    refine ⟨fun other => ?_, fun p ptp enabled source => by rw [ptp, Option.elim_some, if_pos ⟨enabled, source⟩]⟩
    cases ptp : pt.ptpOffset with
    | none => rfl
    | some p =>
      rw [Option.elim_some, if_neg]
      rintro ⟨enabled, source⟩
      rcases other with h | h | h
      · rw [ptp] at h; cases h
      · rw [h] at enabled; cases enabled
      · exact h source
  case noEdge => rw [exec_ppsEdge s _ _ rfl rfl, if_pos out]
  case edge =>
    have counted := s.ppsCount_of_cases tod n count
    rw [exec_ppsEdge s tod off htod.symm (by rw [counted, hoff]), if_neg (by simp [runs, enabled, written]), counted]
  case override =>
    rw [exec_stepOverride value s u hu]
    refine ⟨fun out => by rw [if_pos out], fun decodes full => ?_, fun decodes room allow key => ?_, fun decodes room wrong => ?_⟩
    · rw [if_neg (Classical.not_not.2 decodes), if_pos full]
    · rw [if_neg (Classical.not_not.2 decodes), if_neg (ne_true_of_eq_false room), if_pos ⟨allow, key⟩]
    · rw [if_neg (Classical.not_not.2 decodes), if_neg (ne_true_of_eq_false room), if_neg fun h => by omega]
  case lapse => subst hu; rw [exec_stepOverrideLapse, armed]; rfl
  case noLapse => rw [exec_stepOverrideLapse, none]; rfl
  case record => rw [exec_secureTimeRecord, if_neg (ne_false_of_eq_true runs)]
  case noRecord => rw [exec_secureTimeRecord, if_pos stopped]
  case noCheck => rw [exec_timeFlagCheck s _ rfl, if_pos stopped]
  case check => rw [exec_timeFlagCheck s u hu, if_neg (ne_false_of_eq_true runs)]

/-! ### Launches and windows -/

theorem State.writeLaunchCtl_eq (s u : State) (k : Nat) (value : W32) (hu : u = s.writeWord (Reg.TIME_LAUNCH_CTL_ARM.at k).off value) :
    s.writeLaunchCtl k value = if s.decodeOf .time ≠ .all ∨ 14 ≤ k then u
      else if value.toNat / 2 ^ 31 = 1 then u.cancelLaunch k
      else if value.toNat / 2 ^ 30 % 2 = 1 then u.armLaunch k else u := by
  subst hu
  simp only [State.writeLaunchCtl, Bool.or_eq_true, bne_iff_ne, decide_eq_true_eq, beq_iff_eq]

theorem exec_launchDue (k : Fin 16) (s u : State) (hu : u = (s.dueBefore k).foldl (fun (s : State) j =>
      if s.launchArmed j then s.launchDue j lsFired else s) (s.atShelf (s.launchTime k))) : exec (.launchDue k) s =
    .next (if s.launchArmed k = false then s
      else if u.launchArmed k = true ∧ u.launchTime k ≤ u.tm.shelf then u.launchDue k lsFired else u).settle := by
  subst hu
  show execLaunchDue k s = _
  simp only [execLaunchDue, settled, Bool.not_eq_true', Bool.and_eq_true, decide_eq_true_eq]

theorem State.launchDue_eq (s : State) (k st : Nat) : s.launchDue k st =
    if s.is Reg.TIME_STATUS_COORD = true then s.fire k st
    else if s.launchPeriod k = 0 then s.suspendLaunch k
    else (s.missLaunch k 1).setLaunchTime k (s.launchTime k + s.launchPeriod k) := by
  simp only [State.launchDue, beq_iff_eq]

theorem exec_windowSlotStart (s : State) : exec .windowSlotStart s = .next (if s.begins .time = false then s
    else (s.atShelf ((s.tm.shelf / s.slotLen + 1) * s.slotLen)).beginSlot).settle := by
  show execWindowSlotStart s = _
  simp only [execWindowSlotStart, settled, Bool.not_eq_true']

theorem exec_intentSend (s : State) (units : List Nat)
    (hunits : units = (s.slotUnits ((s.tm.shelf / s.slotLen + 1) % s.slots)).filter s.unitWork) : exec .intentSend s =
    .next (if s.begins .time = false ∨ s.partnerServes = false then s
      else ({ s with tm := { s.tm with intentMine := some units } } : State).toPartner (.intent units)).settle := by
  subst hunits
  show execIntentSend s = _
  simp only [execIntentSend, settled, Bool.or_eq_true, Bool.not_eq_true']

theorem exec_intentReceive (units : List Nat) (s : State) : exec (.intentReceive units) s = .next (if s.partnerServes = false then s
    else { s with tm := { s.tm with intentPeer := some units } }).settle := by
  show execIntentReceive units s = _
  simp only [execIntentReceive, settled, Bool.not_eq_true']

theorem exec_intentDeadline (s u : State) (hu : u = s.atShelf ((s.tm.shelf / s.slotLen + 1) * s.slotLen - s.guardNs)) :
    exec .intentDeadline s = .next (if s.begins .time = false ∨ s.partnerServes = false ∨ s.tm.intentPeer ≠ none then s
      else ({ u with tm := { u.tm with intentPeer := some (u.slotUnits ((u.tm.shelf / u.slotLen + 1) % u.slots)) } } : State).count
        Reg.TIME_CNT_INTENT_MISSING).settle := by
  subst hu
  show execIntentDeadline s = _
  simp only [execIntentDeadline, settled, Bool.or_eq_true, Bool.not_eq_true', Option.isSome_iff_ne_none, or_assoc]

theorem exec_idleWaitExpiry (cistern : Fin 48) (s u : State)
    (hu : u = s.atLeast ((s.linkOf cistern).lastRead + s.rd Reg.TIME_WIN_IDLE_IDLE_WAIT * us)) : exec (.idleWaitExpiry cistern) s =
    .next (if s.coordinated = true then s
      else (List.range (u.dies cistern)).foldl (fun s d => if s.dieBusy cistern d then s else s.drawdownOp cistern d) u).settle := by
  subst hu; rfl

/-- Settles O38: a launch by its trigger bits and its time, and a slot's intents while the partner serves. -/
theorem launchesFallDueAndSlotsBegin : Obligations.LaunchesFallDueAndSlotsBegin := by
  refine ⟨fun k value s => ⟨rfl, rfl⟩, fun k value s u hu => ?write, fun k s => ⟨fun idle => ?idle, fun u armed hu => ?due⟩, fun k s => ?falls,
    fun s => ?slot, fun units s => ⟨fun out => ?silent, fun runs serves hunits => ?send, fun alone => ?alone, fun serves => ?receive,
      fun came => ?came, fun u runs serves none hu => ?missing⟩, fun cistern die s => rfl,
    fun cistern s => ⟨fun coordinated => ?coordinated, fun u uncoordinated hu => ?idleDies⟩⟩
  case write =>
    have small := value.isLt
    rw [s.writeLaunchCtl_eq u k value hu]
    refine ⟨fun out => ?_, fun decodes soft cancels => ?_, fun decodes soft arms alone => ?_⟩
    · by_cases h : s.decodeOf .time ≠ .all ∨ 14 ≤ k.val
      · rw [if_pos h]
      · have low : value.toNat < 2 ^ 30 := by
          rcases out with out | out | out
          · exact absurd (.inl out) h
          · exact absurd (.inr out) h
          · exact out
        rw [if_neg h, if_neg (by omega), if_neg (by omega)]
    · rw [if_neg (not_or.2 ⟨Classical.not_not.2 decodes, by omega⟩), if_pos (by omega)]
    · rw [if_neg (not_or.2 ⟨Classical.not_not.2 decodes, by omega⟩), if_neg (by omega), if_pos (by omega)]
  case idle => rw [exec_launchDue k s _ rfl, if_pos idle]
  case due =>
    rw [exec_launchDue k s u hu, if_neg (ne_false_of_eq_true armed)]
    refine ⟨fun still reached => by rw [if_pos ⟨still, reached⟩], fun other => ?_⟩
    rw [if_neg fun h => other.elim (ne_false_of_eq_true h.1) fun late => by omega]
  case falls =>
    rw [s.launchDue_eq k lsFired]
    refine ⟨fun coord => if_pos coord, fun lost once => ?_, fun lost periodic => ?_⟩
    · rw [if_neg (ne_true_of_eq_false lost), if_pos once]
    · rw [if_neg (ne_true_of_eq_false lost), if_neg periodic]
  case slot =>
    rw [exec_windowSlotStart]
    exact ⟨fun runs => by rw [if_neg (ne_false_of_eq_true runs)], fun stopped => by rw [if_pos stopped]⟩
  case silent =>
    rw [exec_intentSend s _ rfl, if_pos out, exec_intentDeadline s _ rfl, if_pos (out.imp_right .inl)]
    exact ⟨rfl, rfl⟩
  case send => rw [exec_intentSend s units hunits, if_neg (by simp [runs, serves])]
  case alone => rw [exec_intentReceive, if_pos alone]
  case receive => rw [exec_intentReceive, if_neg (ne_false_of_eq_true serves)]
  case came => rw [exec_intentDeadline s _ rfl, if_pos (.inr (.inr came))]
  case missing => rw [exec_intentDeadline s u hu, if_neg (by simp [runs, serves, none])]
  case coordinated => rw [exec_idleWaitExpiry cistern s _ rfl, if_pos coordinated]
  case idleDies => rw [exec_idleWaitExpiry cistern s u hu, if_neg (ne_true_of_eq_false uncoordinated)]

end Sys2Proof.Machine
end
/-! ## I/O commands and reservations (O39 to O41) -/

section
namespace Sys2Proof.Machine

/-! ### The checks that every I/O command passes -/

section
variable (s u : State) (id op : Nat) (f : Cmd → Ns → State)

theorem State.io_of_unready (none : s.ready id false op = none) : s.io id op f = s := by simp only [State.io, none]

variable (c : Cmd) (ready : s.ready id false op = some c) (hu : u = s.tileEvent c.pump evCmdStart)
include ready hu

theorem State.io_of_refused (st : Nat) (gate : s.ioGate id c = .refuse st) : s.io id op f = u.finish id st := by
  subst hu; simp only [State.io, ready, gate]

theorem State.io_of_foreign (m : Nat) (gate : s.ioGate id c = .forward m) : s.io id op f = u.forwardCmd id c m := by
  subst hu; simp only [State.io, ready, gate]

theorem State.io_of_moving (gate : s.ioGate id c = .hold) : s.io id op f = u.setStage id .moving := by
  subst hu; simp only [State.io, ready, gate]

end

/-- The rows of the I/O commands, and their opcodes. -/
def ioRows (id : Nat) : List (Instr × Nat) :=
  [(Instr.flush id, 0x00), (.write id, 0x01), (.read id, 0x02), (.compare id, 0x05), (.writeZeroes id, 0x08), (.datasetManagement id, 0x09),
   (.verify id, 0x0C), (.reservationRegister id, 0x0D), (.reservationReport id, 0x0E), (.reservationAcquire id, 0x11),
   (.reservationRelease id, 0x15)]

theorem exec_flush (id : Nat) (s : State) (one : ∀ c : Cmd, s.ready id false 0 = some c → c.sqe.nsid ≠ 0xFFFFFFFF) : exec (.flush id) s =
    .next (s.io id 0 fun c _ => (s.tileEvent c.pump evCmdStart).finish id nvOk).settle := by
  show execFlush id s = _
  unfold execFlush settled
  cases ready : s.ready id false 0 with
  | none => rw [State.io_of_unready _ _ _ _ ready]
  | some c =>
    simp only
    rw [if_neg (by simpa using one c ready)]

theorem exec_flush_of_every (id : Nat) (c : Cmd) (s : State) (ready : s.ready id false 0 = some c) (every : c.sqe.nsid = 0xFFFFFFFF) :
    exec (.flush id) s = .next ((s.tileEvent c.pump evCmdStart).finish id nvOk).settle := by
  show execFlush id s = _
  simp only [execFlush, settled, ready, every, beq_self_eq_true, if_true]

/-- Every row runs past the checks, but a Flush of every namespace. -/
theorem exec_ioRow (id : Nat) (s : State) (e : Instr × Nat) (mem : e ∈ ioRows id)
    (one : e.2 = 0 → ∀ c : Cmd, s.ready id false 0 = some c → c.sqe.nsid ≠ 0xFFFFFFFF) :
    ∃ f : Cmd → Ns → State, exec e.1 s = .next (s.io id e.2 f).settle := by
  simp only [ioRows, List.mem_cons, List.not_mem_nil, or_false] at mem
  rcases mem with rfl | rfl | rfl | rfl | rfl | rfl | rfl | rfl | rfl | rfl | rfl
  · exact ⟨_, exec_flush id s (one rfl)⟩
  all_goals exact ⟨_, rfl⟩

/-- Settles O39: every row is `State.io` of its opcode, whose checks refuse, forward or hold. -/
theorem ioCommandsPassTheirChecks : Obligations.IoCommandsPassTheirChecks := by
  refine ⟨fun id s e mem => ⟨fun none => ?unready, fun c u ready one hu => ?gated⟩, exec_flush_of_every, fun id c n s runs => ?flush⟩
  case unready =>
    obtain ⟨f, row⟩ := exec_ioRow id s e mem fun flush c some => by rw [← flush, none] at some; cases some
    rw [row, State.io_of_unready _ _ _ _ none]
  case gated =>
    obtain ⟨f, row⟩ := exec_ioRow id s e mem fun flush c' some => by
      rw [flush, some] at ready
      cases ready
      exact one flush
    rw [row]
    refine ⟨fun st gate => ?_, fun m gate => ?_, fun gate => ?_⟩
    · rw [s.io_of_refused u id e.2 f c ready hu st gate]
    · rw [s.io_of_foreign u id e.2 f c ready hu m gate]
    · rw [s.io_of_moving u id e.2 f c ready hu gate]
  case flush =>
    by_cases every : c.sqe.nsid = 0xFFFFFFFF
    · exact exec_flush_of_every id c s runs.1 every
    · rw [exec_flush id s fun c' ready => by cases runs.1.symm.trans ready; exact every, State.io_runs runs]

/-! ### Data in and out -/

theorem State.withData_of_none (s : State) (id : Nat) (c : Cmd) (f : List Byte → State) (none : s.dataWhole c = none) :
    s.withData id c f = s.fetch id c := by simp only [State.withData, none]

theorem State.withData_of_some (s : State) (id : Nat) (c : Cmd) (f : List Byte → State) (d : List Byte) (some : s.dataWhole c = some d) :
    s.withData id c f = f d := by simp only [State.withData, some]

section
variable {id : Nat} {c : Cmd} {n : Ns} {s u : State} (hu : u = s.tileEvent c.pump evCmdStart)
include hu

theorem exec_write_of_runs (runs : s.ioRuns id 1 c n) : exec (.write id) s =
    .next (if 512 < c.sqe.nlb ∨ c.sqe.cdw12 / 2 ^ 24 % 2 = 1 then u.finish id nvInvalidField
      else (u.writeRefusal c.sqe.nsid n c.sqe.slba c.sqe.nlb).elim
        (if piRefused n c.sqe = true then u.finish id nvInvalidPi else (u.claim c.sqe.nsid n c.sqe.slba c.sqe.nlb).queueForSlots id)
        (u.finish id)).settle := by
  subst hu
  show settled (s.io id 1 _) = _
  rw [State.io_runs runs]
  simp only [settled, Bool.or_eq_true, decide_eq_true_eq, beq_iff_eq]
  cases (s.tileEvent c.pump evCmdStart).writeRefusal c.sqe.nsid n c.sqe.slba c.sqe.nlb <;> rfl

theorem exec_read_of_runs (runs : s.ioRuns id 2 c n) : exec (.read id) s =
    .next (if 512 < c.sqe.nlb then u.finish id nvInvalidField else if piRefused n c.sqe = true then u.finish id nvInvalidPi
      else u.startRead id).settle := by
  subst hu
  show settled (s.io id 2 _) = _
  rw [State.io_runs runs]; rfl

theorem exec_compare_of_runs (runs : s.ioRuns id 5 c n) : exec (.compare id) s =
    .next (if 512 < c.sqe.nlb then u.finish id nvInvalidField else if piRefused n c.sqe = true then u.finish id nvInvalidPi
      else u.withData id c (u.compareEnter id c)).settle := by
  subst hu
  show settled (s.io id 5 _) = _
  rw [State.io_runs runs]; rfl

theorem exec_verify_of_runs (runs : s.ioRuns id 0xC c n) : exec (.verify id) s =
    .next (if piRefused n c.sqe = true then u.finish id nvInvalidPi else u.startRead id).settle := by
  subst hu
  show settled (s.io id 0xC _) = _
  rw [State.io_runs runs]; rfl

theorem exec_writeZeroes_of_runs (runs : s.ioRuns id 8 c n) (v : State) (hv : v = u.claim c.sqe.nsid n c.sqe.slba c.sqe.nlb) :
    exec (.writeZeroes id) s = .next ((u.writeRefusal c.sqe.nsid n c.sqe.slba c.sqe.nlb).elim
      (if u.slotsOf c ≠ 0 then v.queueForSlots id
       else if u.markersWait (wholeIus n c.sqe.slba c.sqe.nlb).length = true then s else v.zeroRange id c)
      (u.finish id)).settle := by
  subst hv hu
  show settled (s.io id 8 _) = _
  rw [State.io_runs runs]
  simp only [settled, bne_iff_ne]
  cases (s.tileEvent c.pump evCmdStart).writeRefusal c.sqe.nsid n c.sqe.slba c.sqe.nlb <;> rfl

theorem exec_datasetManagement_of_runs (runs : s.ioRuns id 9 c n) : exec (.datasetManagement id) s =
    .next (if c.sqe.cdw11 / 4 % 2 = 0 then u.finish id nvOk else u.withData id c (u.deallocate id c)).settle := by
  subst hu
  show settled (s.io id 9 _) = _
  rw [State.io_runs runs]
  simp only [settled, beq_iff_eq]

theorem exec_reservationRegister_of_runs (runs : s.ioRuns id 0xD c n) : exec (.reservationRegister id) s =
    .next (u.withData id c (u.resvRegister id c)).settle := by
  subst hu
  show settled (s.io id 0xD _) = _
  rw [State.io_runs runs]; rfl

theorem exec_reservationAcquire_of_runs (runs : s.ioRuns id 0x11 c n) : exec (.reservationAcquire id) s =
    .next (u.withData id c (u.resvAcquire id c)).settle := by
  subst hu
  show settled (s.io id 0x11 _) = _
  rw [State.io_runs runs]; rfl

theorem exec_reservationRelease_of_runs (runs : s.ioRuns id 0x15 c n) : exec (.reservationRelease id) s =
    .next (u.withData id c (u.resvRelease id c)).settle := by
  subst hu
  show settled (s.io id 0x15 _) = _
  rw [State.io_runs runs]; rfl

theorem exec_reservationReport_of_runs (runs : s.ioRuns id 0xE c n) : exec (.reservationReport id) s =
    .next (if c.sqe.cdw11 % 2 = 0 then u.finish id nvHostIdFormat else u.answer id
      ([(0, 4, n.resGen), (4, 1, n.resType), (5, 2, n.registrants.length), (9, 1, if n.ptpl then 1 else 0)] ++
      (n.registrants.zipIdx.flatMap fun (e : Registrant × Nat) =>
        [(64 + 64 * e.2, 2, 0xFFFF), (66 + 64 * e.2, 1, if n.holds e.1.hostId then 1 else 0), (72 + 64 * e.2, 8, e.1.key),
         (80 + 64 * e.2, 16, e.1.hostId)]))).settle := by
  subst hu
  show settled (s.io id 0xE _) = _
  rw [State.io_runs runs]
  simp only [settled, beq_iff_eq]

end

theorem State.deallocate_eq (s : State) (id : Nat) (c : Cmd) (d : List Byte) (n : Ns) (rs : List (Nat × Nat)) (ius : List Nat)
    (hn : n = s.nsOr c.sqe.nsid) (hrs : rs = dsmRanges d) (hius : ius = rs.flatMap fun r => wholeIus n r.1 r.2) : s.deallocate id c d =
    if ∃ r ∈ rs, n.nsze < r.1 + r.2 then s.finish id nvLbaRange
    else if s.is Reg.FTL_MEDIA_STATUS_READ_ONLY = true then s.finish id nvWriteProtected
    else if n.locked = true ∧ ∃ r ∈ rs, r.2 ≠ 0 then s.finish id nvOpDenied
    else if s.markersWait ius.length = true then s.updCmd id fun c => { c with stage := .admitted, buf := [(0, d)] }
    else (ius.foldl (fun s iu => s.marker c.sqe.nsid iu false) s).checkpointIfFull.mirrorWrite id c false [] := by
  subst hius hrs hn
  simp only [State.deallocate, List.any_eq_true, decide_eq_true_eq, Bool.and_eq_true, bne_iff_ne]

/-- Settles O40: each row past its checks, by the status that ends it or the work that it begins. -/
theorem ioCommandsMoveTheirData : Obligations.IoCommandsMoveTheirData := by
  refine ⟨fun id c n s u hu runs => ?write, fun id c n s u hu => ⟨fun runs long => ?readLong, fun runs short bad => ?readPi,
      fun runs short good => ?read, fun runs long => ?compareLong, fun runs short bad => ?comparePi, fun runs short good => ?compare,
      fun runs bad => ?verifyPi, fun runs good => ?verify⟩, fun id c d n s hn => ?enter, fun id c n s u v hu runs hv => ?zeroes,
    fun id c n s u hu runs => ?dsm, fun id c d n rs ius s hn hrs hius => ?deallocate⟩
  case write =>
    rw [exec_write_of_runs hu runs]
    refine ⟨fun bad => by rw [if_pos bad], fun short plain => ?_⟩
    rw [if_neg (by omega)]
    refine ⟨fun st refused => by rw [refused]; rfl, fun none bad => ?_, fun none good => ?_⟩
    · rw [none, Option.elim_none, if_pos bad]
    · rw [none, Option.elim_none, if_neg (ne_true_of_eq_false good)]
  case readLong => rw [exec_read_of_runs hu runs, if_pos long]
  case readPi => rw [exec_read_of_runs hu runs, if_neg (by omega), if_pos bad]
  case read => rw [exec_read_of_runs hu runs, if_neg (by omega), if_neg (ne_true_of_eq_false good)]
  case compareLong => rw [exec_compare_of_runs hu runs, if_pos long]
  case comparePi => rw [exec_compare_of_runs hu runs, if_neg (by omega), if_pos bad]
  case compare =>
    rw [exec_compare_of_runs hu runs, if_neg (by omega), if_neg (ne_true_of_eq_false good)]
    exact ⟨fun none => by rw [u.withData_of_none id c _ none], fun d some => by rw [u.withData_of_some id c _ d some]⟩
  case verifyPi => rw [exec_verify_of_runs hu runs, if_pos bad]
  case verify => rw [exec_verify_of_runs hu runs, if_neg (ne_true_of_eq_false good)]
  case enter =>
    subst hn
    exact ⟨fun st bad => by simp only [State.compareEnter, bad], fun good => by simp only [State.compareEnter, good]⟩
  case zeroes =>
    rw [exec_writeZeroes_of_runs hu runs v hv]
    refine ⟨fun st refused => by rw [refused]; rfl, fun none => ?_⟩
    rw [none, Option.elim_none]
    refine ⟨fun parts => by rw [if_pos parts], fun whole waits => ?_, fun whole room => ?_⟩
    · rw [if_neg (Classical.not_not.2 whole), if_pos waits]
    · rw [if_neg (Classical.not_not.2 whole), if_neg (ne_true_of_eq_false room)]
  case dsm =>
    rw [exec_datasetManagement_of_runs hu runs]
    refine ⟨fun no => by rw [if_pos no], fun ad none => ?_, fun d ad some => ?_⟩
    · rw [if_neg (by omega), u.withData_of_none id c _ none]
    · rw [if_neg (by omega), u.withData_of_some id c _ d some]
  case deallocate =>
    rw [s.deallocate_eq id c d n rs ius hn hrs hius]
    have inside (h : ∀ r ∈ rs, r.1 + r.2 ≤ n.nsze) : ¬ ∃ r ∈ rs, n.nsze < r.1 + r.2 := fun ⟨r, mem, beyond⟩ => by
      have := h r mem
      omega
    refine ⟨fun beyond => by rw [if_pos beyond], fun fits readOnly => ?_, fun fits writable locked present => ?_, fun fits writable free => ?_⟩
    · rw [if_neg (inside fits), if_pos readOnly]
    · rw [if_neg (inside fits), if_neg (ne_true_of_eq_false writable), if_pos ⟨locked, present⟩]
    · rw [if_neg (inside fits), if_neg (ne_true_of_eq_false writable), if_neg fun ⟨locked, r, mem, long⟩ => long (free locked r mem)]
      exact ⟨fun waits => by rw [if_pos waits], fun room => by rw [if_neg (ne_true_of_eq_false room)]⟩

/-! ### Reservations -/

/-- A namespace with a registrant's key replaced. -/
def Ns.rekeyed (n : Ns) (h key : Nat) : Ns :=
  { n with registrants := n.registrants.map fun (r : Registrant) => if r.hostId == h then { r with key := key } else r }

section
variable (s : State) (id : Nat) (c : Cmd) (d : List Byte) (n : Ns) (hn : n = s.nsOr c.sqe.nsid)
include hn

theorem State.resvRegister_of_stranger (none : n.registrant (s.hostOf c) = none) : s.resvRegister id c d =
    if c.sqe.cdw10 % 8 = 0 ∨ (c.sqe.cdw10 % 8 = 2 ∧ c.sqe.cdw10 / 8 % 2 = 1) then
      s.addRegistrant id c.sqe n (s.hostOf c) (leAt d 8 8)
    else if c.sqe.cdw10 % 8 ≤ 2 then s.finish id nvResvConflict else s.finish id nvInvalidField := by
  subst hn
  simp only [State.resvRegister, none, beq_iff_eq]
  rcases action : c.sqe.cdw10 % 8 with _ | _ | _ | k <;> simp

theorem State.resvRegister_of_registrant (r : Registrant) (some : n.registrant (s.hostOf c) = some r) (m : Ns) (u v : State)
    (hm : m = n.dropRegs fun r => r.hostId == s.hostOf c)
    (hu : u = s.putResv c.sqe.nsid { m.cptpl c.sqe with resGen := n.resGen + 1 })
    (hv : v = s.putResv c.sqe.nsid { (n.rekeyed (s.hostOf c) (leAt d 8 8)).cptpl c.sqe with resGen := n.resGen + 1 }) :
    s.resvRegister id c d =
    if c.sqe.cdw10 % 8 = 0 then s.finish id (if r.key = leAt d 8 8 then nvOk else nvResvConflict)
    else if 2 < c.sqe.cdw10 % 8 then s.finish id nvInvalidField
    else if c.sqe.cdw10 / 8 % 2 ≠ 1 ∧ r.key ≠ leAt d 0 8 then s.finish id nvResvConflict
    else if c.sqe.cdw10 % 8 = 1 then
      (if n.resType ≠ 0 ∧ m.resType = 0 ∧ 3 ≤ n.resType then u.notifyAll c.sqe.nsid rnReleased (m.registrants.map (·.hostId)) else u).finish
        id nvOk
    else v.finish id nvOk := by
  subst hv hu hm hn
  simp only [State.resvRegister, Ns.rekeyed, some]
  rcases action : c.sqe.cdw10 % 8 with _ | _ | _ | k <;> simp [and_assoc]

/-- Does the command carry the host's current key, or ignore it? -/
def resvKeyGood (n : Ns) (h : Nat) (q : Sqe) (d : List Byte) : Bool :=
  (n.registrant h).any fun r => q.cdw10 / 8 % 2 == 1 || r.key == leAt d 0 8

theorem State.resvAcquire_eq : s.resvAcquire id c d =
    if resvKeyGood n (s.hostOf c) c.sqe d = false then s.finish id nvResvConflict
    else if c.sqe.cdw10 / 256 % 256 = 0 ∨ 6 < c.sqe.cdw10 / 256 % 256 then s.finish id nvInvalidField
    else if c.sqe.cdw10 % 8 = 0 then
      (if n.resType = 0 then
        (s.putResv c.sqe.nsid { n with resType := c.sqe.cdw10 / 256 % 256, resHolder := s.hostOf c }).finish id nvOk
       else s.finish id (if n.holds (s.hostOf c) = true ∧ n.resType = c.sqe.cdw10 / 256 % 256 then nvOk else nvResvConflict))
    else if c.sqe.cdw10 % 8 = 1 then s.preempt id c.sqe n (s.hostOf c) (leAt d 8 8) false
    else if c.sqe.cdw10 % 8 = 2 then s.preempt id c.sqe n (s.hostOf c) (leAt d 8 8) true
    else s.finish id nvInvalidField := by
  subst hn
  simp only [State.resvAcquire, resvKeyGood, Bool.not_eq_true', Bool.or_eq_true, beq_iff_eq, decide_eq_true_eq, Bool.and_eq_true]
  rcases action : c.sqe.cdw10 % 8 with _ | _ | _ | k <;> simp

theorem State.resvRelease_eq (v : State) (hv : v = s.putResv c.sqe.nsid { n with resType := 0, resHolder := 0 }) : s.resvRelease id c d =
    if resvKeyGood n (s.hostOf c) c.sqe d = false then s.finish id nvResvConflict
    else if c.sqe.cdw10 % 8 = 0 then
      (if n.holds (s.hostOf c) = false then s.finish id nvOk
       else if c.sqe.cdw10 / 256 % 256 ≠ n.resType then s.finish id nvInvalidField
       else (if 3 ≤ n.resType then v.notifyAll c.sqe.nsid rnReleased ((n.registrants.map (·.hostId)).filter (· != s.hostOf c))
         else v).finish id nvOk)
    else if c.sqe.cdw10 % 8 = 1 then
      ((s.putResv c.sqe.nsid { n with registrants := [], resType := 0, resHolder := 0, resGen := n.resGen + 1 }).notifyAll c.sqe.nsid
        rnPreempted ((n.registrants.map (·.hostId)).filter (· != s.hostOf c))).finish id nvOk
    else s.finish id nvInvalidField := by
  subst hv hn
  simp only [State.resvRelease, resvKeyGood, Bool.not_eq_true', bne_iff_ne]
  rcases action : c.sqe.cdw10 % 8 with _ | _ | k <;> simp

end

theorem resvKeyGood_of_stranger (n : Ns) (h : Nat) (q : Sqe) (d : List Byte) (none : n.registrant h = none) : resvKeyGood n h q d = false := by
  simp [resvKeyGood, none]

theorem resvKeyGood_of_registrant (n : Ns) (h : Nat) (q : Sqe) (d : List Byte) (r : Registrant) (some : n.registrant h = some r) :
    resvKeyGood n h q d = true ↔ q.cdw10 / 8 % 2 = 1 ∨ r.key = leAt d 0 8 := by
  simp [resvKeyGood, some]

/-- Settles O41: the data is fetched, then judged by the registrant's key, the action and the type. -/
theorem reservationsAreRegisteredAcquiredAndReleased : Obligations.ReservationsAreRegisteredAcquiredAndReleased := by
  refine ⟨fun id c n s u hu => ⟨fun runs => ?register, fun runs => ?acquire, fun runs => ?release, fun runs => ?report⟩,
    fun id c d n s hn stranger => ?stranger, fun id c d n m r ignore s u hn found hi hm hu => ?registrant⟩
  case register =>
    rw [exec_reservationRegister_of_runs hu runs]
    exact ⟨fun none => by rw [u.withData_of_none id c _ none], fun d some => by rw [u.withData_of_some id c _ d some]⟩
  case acquire =>
    rw [exec_reservationAcquire_of_runs hu runs]
    exact ⟨fun none => by rw [u.withData_of_none id c _ none], fun d some => by rw [u.withData_of_some id c _ d some]⟩
  case release =>
    rw [exec_reservationRelease_of_runs hu runs]
    exact ⟨fun none => by rw [u.withData_of_none id c _ none], fun d some => by rw [u.withData_of_some id c _ d some]⟩
  case report =>
    rw [exec_reservationReport_of_runs hu runs]
    exact ⟨fun short => by rw [if_pos short], fun extended => by rw [if_neg (by omega)]⟩
  case stranger =>
    have wrong := resvKeyGood_of_stranger n (s.hostOf c) c.sqe d stranger
    rw [s.resvRegister_of_stranger id c d n hn stranger, s.resvAcquire_eq id c d n hn, s.resvRelease_eq id c d n hn _ rfl, if_pos wrong,
      if_pos wrong]
    refine ⟨fun adds => if_pos adds, fun conflicts => ?_, fun other => ?_, rfl, rfl⟩
    · rw [if_neg (by omega), if_pos (by omega)]
    · rw [if_neg (by omega), if_neg (by omega)]
  case registrant =>
    have key := resvKeyGood_of_registrant n (s.hostOf c) c.sqe d r found
    have ignores : ignore = true ↔ c.sqe.cdw10 / 8 % 2 = 1 := by rw [hi, beq_iff_eq]
    have good (h : ignore = true ∨ r.key = leAt d 0 8) : resvKeyGood n (s.hostOf c) c.sqe d = true := key.2 (h.imp_left ignores.1)
    have wrong (h : ignore = false) (h' : r.key ≠ leAt d 0 8) : resvKeyGood n (s.hostOf c) c.sqe d = false := by
      refine Bool.eq_false_iff.2 fun t => ?_
      rcases key.1 t with i | i
      · rw [ignores.2 i] at h; cases h
      · exact h' i
    have keeps (h : ignore = true ∨ r.key = leAt d 0 8) : ¬ (c.sqe.cdw10 / 8 % 2 ≠ 1 ∧ r.key ≠ leAt d 0 8) := fun no =>
      h.elim (fun i => no.1 (ignores.1 i)) no.2
    refine ⟨fun keep => ?_, fun other => ?_, fun acts strict other => ?_, fun drops ok => ?_, fun m' replaces ok hm' => ?_,
      fun strict other => ?_, fun type ok htype => ⟨fun bad => ?_, fun low high => ⟨fun takes free => ?_, fun takes held => ?_,
        fun one => ?_, fun two => ?_, fun other => ?_⟩, fun frees no => ?_, fun frees holds differs => ?_, fun v frees holds same hv => ?_,
        fun clears => ?_, fun other => ?_⟩⟩
    · rw [s.resvRegister_of_registrant id c d n hn r found m u _ hm hu rfl, if_pos keep]
    · rw [s.resvRegister_of_registrant id c d n hn r found m u _ hm hu rfl, if_neg (by omega), if_pos other]
    · have noIgnore : c.sqe.cdw10 / 8 % 2 ≠ 1 := fun i => by rw [ignores.2 i] at strict; cases strict
      rw [s.resvRegister_of_registrant id c d n hn r found m u _ hm hu rfl, if_neg (by omega), if_neg (by omega), if_pos ⟨noIgnore, other⟩]
    · rw [s.resvRegister_of_registrant id c d n hn r found m u _ hm hu rfl, if_neg (by omega), if_neg (by omega), if_neg (keeps ok),
        if_pos drops]
    · have rekeyed : m' = n.rekeyed (s.hostOf c) (leAt d 8 8) := hm'
      subst rekeyed
      rw [s.resvRegister_of_registrant id c d n hn r found m u _ hm hu rfl, if_neg (by omega), if_neg (by omega), if_neg (keeps ok),
        if_neg (by omega)]
    · rw [s.resvAcquire_eq id c d n hn, if_pos (wrong strict other), s.resvRelease_eq id c d n hn _ rfl, if_pos (wrong strict other)]
      exact ⟨rfl, rfl⟩
    · rw [s.resvAcquire_eq id c d n hn, if_neg (ne_false_of_eq_true (good ok)), if_pos (htype ▸ bad)]
    · rw [s.resvAcquire_eq id c d n hn, if_neg (ne_false_of_eq_true (good ok)), if_neg (by omega), if_pos takes, if_pos free, htype]
    · rw [s.resvAcquire_eq id c d n hn, if_neg (ne_false_of_eq_true (good ok)), if_neg (by omega), if_pos takes, if_neg held, htype]
    · rw [s.resvAcquire_eq id c d n hn, if_neg (ne_false_of_eq_true (good ok)), if_neg (by omega), if_neg (by omega), if_pos one]
    · rw [s.resvAcquire_eq id c d n hn, if_neg (ne_false_of_eq_true (good ok)), if_neg (by omega), if_neg (by omega), if_neg (by omega),
        if_pos two]
    · rw [s.resvAcquire_eq id c d n hn, if_neg (ne_false_of_eq_true (good ok)), if_neg (by omega), if_neg (by omega), if_neg (by omega),
        if_neg (by omega)]
    · rw [s.resvRelease_eq id c d n hn _ rfl, if_neg (ne_false_of_eq_true (good ok)), if_pos frees, if_pos no]
    · rw [s.resvRelease_eq id c d n hn _ rfl, if_neg (ne_false_of_eq_true (good ok)), if_pos frees, if_neg (ne_false_of_eq_true holds),
        if_pos (htype ▸ differs)]
    · rw [s.resvRelease_eq id c d n hn v hv, if_neg (ne_false_of_eq_true (good ok)), if_pos frees, if_neg (ne_false_of_eq_true holds),
        if_neg (Classical.not_not.2 (htype ▸ same))]
    · rw [s.resvRelease_eq id c d n hn _ rfl, if_neg (ne_false_of_eq_true (good ok)), if_neg (by omega), if_pos clears]
    · rw [s.resvRelease_eq id c d n hn _ rfl, if_neg (ne_false_of_eq_true (good ok)), if_neg (by omega), if_neg (by omega)]

end Sys2Proof.Machine
end
/-! ## Admin commands (O42 to O45) -/

section
namespace Sys2Proof.Machine

/-! ### The checks that every admin command passes -/

section
variable (s : State) (id op : Nat) (f : Cmd → State)

theorem State.admin_of_unready (none : s.ready id true op = none) : s.admin id op f = s := by simp only [State.admin, none]

variable (c : Cmd) (ready : s.ready id true op = some c)
include ready

theorem State.admin_of_full (recorded : unrecorded c.sqe = false) (full : s.auditFull = true) :
    s.admin id op f = s.finish id nvOpDenied := by
  simp [State.admin, ready, recorded, full]

theorem State.admin_of_closed (room : unrecorded c.sqe = true ∨ s.auditFull = false) (closed : s.accepting = false)
    (other : op ∉ [0x02, 0x06, 0x0A]) : s.admin id op f = s.adminDone id c nvMediaNotReady := by
  have listed : ([0x02, 0x06, 0x0A].contains op) = false := by simpa using other
  simp only [State.admin, ready, closed, listed]
  rcases room with free | free <;> simp [free]

end

section
variable (s : State) (id : Nat) (types : List Nat) (f : Cmd → Nat → State)

theorem State.fabrics_of_unready (none : s.ready id true 0x7F = none) : s.fabrics id types f = s := by
  simp only [State.fabrics, none]

/-- What a Fabrics command's effect is once it runs: its row's on a queue pair, Invalid Command Opcode off one. -/
def State.onQueuePair (s : State) (id : Nat) (f : Cmd → Nat → State) (c : Cmd) : State :=
  match c.path with
  | .rc qp => f c qp
  | _ => s.adminDone id c nvInvalidOpcode

theorem State.onQueuePair_of_rc {s : State} {id qp : Nat} {f : Cmd → Nat → State} {c : Cmd} (on : c.path = .rc qp) :
    s.onQueuePair id f c = f c qp := by simp only [State.onQueuePair, on]

theorem State.onQueuePair_of_other {s : State} {id : Nat} {f : Cmd → Nat → State} {c : Cmd} (off : ∀ qp : Nat, c.path ≠ .rc qp) :
    s.onQueuePair id f c = s.adminDone id c nvInvalidOpcode := by
  unfold State.onQueuePair
  split
  next qp on => exact absurd on (off qp)
  next => rfl

variable (c : Cmd) (ready : s.ready id true 0x7F = some c)
include ready

theorem State.fabrics_of_other (other : c.sqe.fctype ∉ types) : s.fabrics id types f = s := by
  simp [State.fabrics, ready, other]

theorem State.fabrics_of_type (type : c.sqe.fctype ∈ types) : s.fabrics id types f = s.admin id 0x7F (s.onQueuePair id f) := by
  simp only [State.fabrics, ready, List.contains_iff_mem.2 type, Bool.not_true, Bool.false_eq_true, if_false]
  rfl

end

theorem State.fabrics_runs {s : State} {id qp : Nat} {types : List Nat} {c : Cmd} (runs : s.adminRuns id 0x7F c) (on : c.path = .rc qp)
    (type : c.sqe.fctype ∈ types) (f : Cmd → Nat → State) : s.fabrics id types f = f c qp := by
  rw [s.fabrics_of_type id types f c runs.1 type, State.admin_runs runs, State.onQueuePair_of_rc on]

/-- The rows of the admin commands outside Fabrics, and their opcodes. -/
def adminRows (id : Nat) (permitted : Bool) : List (Instr × Nat) :=
  [(Instr.identify id, 0x06), (.getLogPage id, 0x02), (.getFeatures id, 0x0A), (.setFeatures id, 0x09),
   (.asynchronousEventRequest id, 0x0C), (.abort id, 0x08), (.namespaceCreate id permitted, 0x0D), (.namespaceDelete id permitted, 0x0D),
   (.namespaceAttachment id, 0x15), (.keepAlive id, 0x18), (.directiveSend id, 0x19), (.directiveReceive id, 0x1A),
   (.virtualizationManagement id, 0x1C), (.createIoSq id, 0x01), (.deleteIoSq id, 0x00), (.createIoCq id, 0x05), (.deleteIoCq id, 0x04),
   (.formatNvm id, 0x80)]

theorem exec_adminRow (id : Nat) (permitted : Bool) (s : State) (e : Instr × Nat) (mem : e ∈ adminRows id permitted) :
    ∃ f : Cmd → State, exec e.1 s = .next (s.admin id e.2 f).settle := by
  simp only [adminRows, List.mem_cons, List.not_mem_nil, or_false] at mem
  rcases mem with rfl | rfl | rfl | rfl | rfl | rfl | rfl | rfl | rfl | rfl | rfl | rfl | rfl | rfl | rfl | rfl | rfl | rfl <;> exact ⟨_, rfl⟩

/-- The rows of the Fabrics commands, and the types that each takes. -/
def fabricsRows (id : Nat) (tenant : Fin 1024) : List (Instr × List Nat) :=
  [(Instr.fabricsConnect id tenant, [1]), (.propertyGet id, [4]), (.propertySet id, [0]), (.disconnect id, [8]),
   (.authenticationSendReceive id, [5, 6])]

theorem exec_fabricsRow (id : Nat) (tenant : Fin 1024) (s : State) (e : Instr × List Nat) (mem : e ∈ fabricsRows id tenant) :
    ∃ f : Cmd → Nat → State, exec e.1 s = .next (s.fabrics id e.2 f).settle := by
  simp only [fabricsRows, List.mem_cons, List.not_mem_nil, or_false] at mem
  rcases mem with rfl | rfl | rfl | rfl | rfl <;> exact ⟨_, rfl⟩

/-- The rows of the queue commands, and their opcodes. -/
def queueRows (id : Nat) : List (Instr × Nat) :=
  [(Instr.createIoSq id, 0x01), (.deleteIoSq id, 0x00), (.createIoCq id, 0x05), (.deleteIoCq id, 0x04)]

theorem exec_queueRow (id : Nat) (s : State) (e : Instr × Nat) (mem : e ∈ queueRows id) :
    ∃ f : Cmd → Nat → State, exec e.1 s = .next (s.queueOp id e.2 f).settle := by
  simp only [queueRows, List.mem_cons, List.not_mem_nil, or_false] at mem
  rcases mem with rfl | rfl | rfl | rfl <;> exact ⟨_, rfl⟩

theorem State.queueOp_of_runs {s : State} {id op : Nat} {c : Cmd} (runs : s.adminRuns id op c) (f : Cmd → Nat → State) :
    s.queueOp id op f = if c.path.isPcie = false then s.adminDone id c nvInvalidOpcode
      else if c.sqe.cdw10 % 0x10000 = 0 ∨ queueLimit c.path < c.sqe.cdw10 % 0x10000 then s.adminDone id c nvQidInvalid
      else f c (c.sqe.cdw10 % 0x10000) := by
  unfold State.queueOp
  rw [State.admin_runs runs]
  simp only [Bool.not_eq_true', Bool.or_eq_true, beq_iff_eq, decide_eq_true_eq]

/-- Settles O42: every row is `State.admin`, `State.fabrics` or `State.queueOp` of its opcode or type, whose checks answer. -/
theorem adminCommandsPassTheirChecks : Obligations.AdminCommandsPassTheirChecks := by
  refine ⟨fun id permitted s e mem => ?admin, fun id tenant s e mem => ?fabrics, fun id c s e mem runs => ?queue⟩
  case admin =>
    obtain ⟨f, row⟩ := exec_adminRow id permitted s e mem
    rw [row]
    refine ⟨fun none => ?_, fun c ready => ⟨fun recorded full => ?_, fun room closed other => ?_⟩⟩
    · rw [s.admin_of_unready id e.2 f none]
    · rw [s.admin_of_full id e.2 f c ready recorded full]
    · rw [s.admin_of_closed id e.2 f c ready room closed other]
  case fabrics =>
    obtain ⟨f, row⟩ := exec_fabricsRow id tenant s e mem
    rw [row]
    refine ⟨fun none => ?_, fun c ready other => ?_, fun c ready type recorded full => ?_, fun c ready type room closed => ?_,
      fun c runs type off => ?_⟩
    · rw [s.fabrics_of_unready id e.2 f none]
    · rw [s.fabrics_of_other id e.2 f c ready other]
    · rw [s.fabrics_of_type id e.2 f c ready type, s.admin_of_full id 0x7F _ c ready recorded full]
    · rw [s.fabrics_of_type id e.2 f c ready type, s.admin_of_closed id 0x7F _ c ready room closed (by decide)]
    · rw [s.fabrics_of_type id e.2 f c runs.1 type, State.admin_runs runs, State.onQueuePair_of_other off]
  case queue =>
    obtain ⟨f, row⟩ := exec_queueRow id s e mem
    rw [row, State.queueOp_of_runs runs]
    exact ⟨fun off => by rw [if_pos off], fun on range => by rw [if_neg (ne_false_of_eq_true on), if_pos range]⟩

/-! ### What the admin commands answer -/

section
variable {id : Nat} {c : Cmd} {s : State}

theorem exec_identify_of_runs (runs : s.adminRuns id 0x06 c) : exec (.identify id) s =
    .next (if (s.identify_ id c).1 = 0 then s.answer id (s.identify_ id c).2 else s.adminDone id c (s.identify_ id c).1).settle := by
  show settled (s.admin id 0x06 _) = _
  rw [State.admin_runs runs]
  rcases s.identify_ id c with ⟨_ | st, fs⟩ <;> rfl

/-- What a read of a log page has done to the state by the time it is answered. -/
def State.logRead (s : State) (c : Cmd) : State :=
  let u := if c.sqe.cdw10 % 256 = 0xC0 then { s with ftl := { s.ftl with healthGen := (s.ftl.healthGen + 1) % 4294967296 } } else s
  if c.path.isPrd = true ∨ c.sqe.cdw10 / 32768 % 2 = 1 then u else u.rearm c.ctlr (c.sqe.cdw10 % 256)

theorem exec_getLogPage_of_runs (runs : s.adminRuns id 0x02 c) : exec (.getLogPage id) s =
    .next (if (c.sqe.cdw12 + 2 ^ 32 * c.sqe.cdw13) % 4 ≠ 0 then s.adminDone id c nvInvalidField
      else if (s.logPage c).1 = 0 then
        (s.logRead c).answer id (cutFields (s.logPage c).2 (c.sqe.cdw12 + 2 ^ 32 * c.sqe.cdw13) (adminBytes c.sqe))
      else s.adminDone id c (s.logPage c).1).settle := by
  show settled (s.admin id 0x02 _) = _
  rw [State.admin_runs runs]
  simp only [settled, bne_iff_ne, beq_iff_eq, Bool.or_eq_true]
  rcases s.logPage c with ⟨_ | st, fs⟩ <;> rfl

theorem exec_getFeatures_of_runs (runs : s.adminRuns id 0x0A c) : exec (.getFeatures id) s =
    .next (if c.sqe.cdw10 % 256 = 0x0E then s.answer id [(0, 6, s.tm.shelf / ms), (6, 1, 2)]
      else if c.sqe.cdw10 % 256 = 0x81 then
        if c.sqe.cdw11 % 2 = 0 then s.adminDone id c nvHostIdFormat else s.answer id [(0, 16, (s.ctlrOf c.ctlr).hostId)]
      else s.adminDone id c (s.getFeature id c).1 (s.getFeature id c).2).settle := by
  show settled (s.admin id 0x0A _) = _
  rw [State.admin_runs runs]
  simp only [settled, beq_iff_eq]
  split
  next timestamp => rw [if_pos timestamp]
  next host => rw [if_neg (show ¬c.sqe.cdw10 % 256 = 0x0E by omega), if_pos host]
  next timestamp host => rw [if_neg timestamp, if_neg host]

theorem exec_setFeatures_of_runs (runs : s.adminRuns id 0x09 c) :
    exec (.setFeatures id) s = .next (s.withData id c (s.setFeatures id c)).settle := by
  show settled (s.admin id 0x09 _) = _
  rw [State.admin_runs runs]; rfl

theorem exec_asynchronousEventRequest_of_waiting (runs : s.adminRuns id 0x0C c) (e : Nat × Nat)
    (waits : e ∈ (s.ctlrOf c.ctlr).waiting.head?) : exec (.asynchronousEventRequest id) s =
    .next ((s.updCtlr c.ctlr fun k => { k with waiting := (s.ctlrOf c.ctlr).waiting.tail }).adminDone id c nvOk (eventDw0 e)).settle := by
  show settled (s.admin id 0x0C _) = _
  rw [State.admin_runs runs]
  cases list : (s.ctlrOf c.ctlr).waiting with
  | nil => rw [list] at waits; cases waits
  | cons first rest =>
    rw [list] at waits
    cases waits
    simp only [settled, list, List.tail_cons]

theorem exec_asynchronousEventRequest_of_quiet (runs : s.adminRuns id 0x0C c) (quiet : (s.ctlrOf c.ctlr).waiting = []) :
    exec (.asynchronousEventRequest id) s = .next (if 8 ≤ (s.ctlrOf c.ctlr).aers.length then s.adminDone id c nvAerLimit
      else (s.updCtlr c.ctlr fun k => { k with aers := k.aers ++ [id] }).setStage id .aer).settle := by
  show settled (s.admin id 0x0C _) = _
  rw [State.admin_runs runs]
  simp only [settled, quiet]

/-- The command of the same controller and queue that an Abort names, where it is still held. -/
def State.abortFound (s : State) (c : Cmd) : Option (Nat × Cmd) :=
  s.host.cmds.find? fun e => e.2.ctlr == c.ctlr && e.2.path.isPcie == c.path.isPcie &&
    s.queueOf e.2 == c.sqe.cdw10 % 0x10000 && e.2.sqe.cid == c.sqe.cdw10 / 0x10000 && e.2.stage == .held

theorem exec_abort_of_runs (runs : s.adminRuns id 0x08 c) : exec (.abort id) s = .next ((s.abortFound c).elim (s.adminDone id c nvOk 1)
    fun e => ((s.removeHeld e.1 e.2).finish e.1 nvAborted).adminDone id c nvOk).settle := by
  show settled (s.admin id 0x08 _) = _
  rw [State.admin_runs runs]
  simp only [settled, State.abortFound]
  cases s.host.cmds.find? _ <;> rfl

theorem exec_keepAlive_of_runs (runs : s.adminRuns id 0x18 c) : exec (.keepAlive id) s =
    .next (if c.path.isPcie = true then s.adminDone id c nvInvalidOpcode
      else (s.updCtlr c.ctlr fun k => { k with kaAt := s.tm.mono }).adminDone id c nvOk).settle := by
  show settled (s.admin id 0x18 _) = _
  rw [State.admin_runs runs]; rfl

/-- Streams of a controller on a namespace change, and the directive completes. -/
def State.putStreams (s : State) (id : Nat) (c : Cmd) (f : Tab Nat → Tab Nat) : State :=
  (s.updCtlr c.ctlr fun k => { k with streams := f k.streams }).adminDone id c nvOk

theorem exec_directiveSend_of_unseen (runs : s.adminRuns id 0x19 c) (unseen : s.visible id c = none) :
    exec (.directiveSend id) s = .next (s.adminDone id c nvInvalidNs).settle := by
  show settled (s.admin id 0x19 _) = _
  rw [State.admin_runs runs]
  simp only [settled, unseen, Option.isNone_none, if_true]

theorem exec_directiveSend_of_seen (runs : s.adminRuns id 0x19 c) (seen : s.visible id c ≠ none) (type op : Nat)
    (ht : type = c.sqe.cdw11 / 256 % 256) (ho : op = c.sqe.cdw11 % 256) : exec (.directiveSend id) s =
    .next (if type = 0 ∧ op = 1 ∧ c.sqe.cdw12 / 256 % 256 = 1 then
        if c.sqe.cdw12 % 2 = 1 then s.putStreams id c fun t => if Tab.has c.sqe.nsid t then t else Tab.put c.sqe.nsid 0 t
        else s.putStreams id c (Tab.del c.sqe.nsid)
      else if type = 1 ∧ (s.ctlrOf c.ctlr).streamsOf c.sqe.nsid ≠ none ∧ op = 1 then s.adminDone id c nvOk
      else if type = 1 ∧ (s.ctlrOf c.ctlr).streamsOf c.sqe.nsid ≠ none ∧ op = 2 then s.putStreams id c (Tab.put c.sqe.nsid 0)
      else s.adminDone id c nvInvalidField).settle := by
  show settled (s.admin id 0x19 _) = _
  rw [State.admin_runs runs]
  have some : (s.visible id c).isNone = false := by simpa using Option.isSome_iff_ne_none.2 seen
  simp only [settled, some, Bool.false_eq_true, if_false, ← ht, ← ho, State.putStreams, bne_iff_ne, beq_iff_eq, Option.isNone_iff_eq_none]
  rcases type with _ | _ | type
  · rcases op with _ | _ | op
    · simp
    · by_cases streams : c.sqe.cdw12 / 256 % 256 = 1 <;> simp [streams]
    · simp
  · by_cases held : (s.ctlrOf c.ctlr).streamsOf c.sqe.nsid = none <;> simp [held]
  · simp

theorem exec_directiveReceive_of_unseen (runs : s.adminRuns id 0x1A c) (unseen : s.visible id c = none) :
    exec (.directiveReceive id) s = .next (s.adminDone id c nvInvalidNs).settle := by
  show settled (s.admin id 0x1A _) = _
  rw [State.admin_runs runs]
  simp only [settled, unseen]

theorem exec_directiveReceive_of_seen (runs : s.adminRuns id 0x1A c) (n : Ns) (seen : s.visible id c = some n) (type op : Nat)
    (ht : type = c.sqe.cdw11 / 256 % 256) (ho : op = c.sqe.cdw11 % 256) (held : Option Nat)
    (hh : held = (s.ctlrOf c.ctlr).streamsOf c.sqe.nsid) (g : Nat)
    (hg : g = min (s.streamsLeft c.ctlr c.sqe.nsid) (c.sqe.cdw12 % 0x10000)) : exec (.directiveReceive id) s =
    .next (if type = 0 ∧ op = 1 then s.adminAnswer id c [(0, 1, 3), (32, 1, if held.isSome then 3 else 1)]
      else if type = 1 then held.elim (s.adminDone id c nvInvalidField) fun a =>
        if op = 1 then s.freeNext.adminAnswer id c [(0, 2, 16), (2, 2, s.streamsLeft c.ctlr c.sqe.nsid - a), (4, 2, 0),
          (16, 4, n.iuLen), (20, 2, s.freeVal 16), (22, 2, a), (24, 2, 0)]
        else if op = 2 then s.adminAnswer id c [(0, 2, 0)]
        else if op = 3 then (s.updCtlr c.ctlr fun k => { k with streams := Tab.put c.sqe.nsid g k.streams }).adminDone id c nvOk g
        else s.adminDone id c nvInvalidField
      else s.adminDone id c nvInvalidField).settle := by
  show settled (s.admin id 0x1A _) = _
  rw [State.admin_runs runs]
  simp only [settled, seen, ← ht, ← ho, ← hh, ← hg, beq_iff_eq]
  rcases type with _ | _ | type
  · rcases op with _ | _ | op
    · simp
    · simp
    · simp
  · cases held <;> simp
  · simp

theorem exec_virtualizationManagement_of_runs (runs : s.adminRuns id 0x1C c) (fn : Nat) (hf : fn = c.sqe.cdw10 / 0x10000) :
    exec (.virtualizationManagement id) s = .next (if c.path.fn ≠ 1 then s.adminDone id c nvInvalidOpcode
      else if c.sqe.cdw10 % 16 ≠ 7 ∧ c.sqe.cdw10 % 16 ≠ 9 then s.adminDone id c nvInvalidField
      else if fn < 2 ∨ 33 < fn ∨ s.fnPresent fn = false then s.adminDone id c nvCtlrInvalid
      else if c.sqe.cdw10 % 16 = 9 then (s.updFn fn fun f => { f with offline := false }).adminDone id c nvOk
      else ((s.ctlrReset fn).updFn fn fun f => { f with offline := true }).adminDone id c nvOk).settle := by
  show settled (s.admin id 0x1C _) = _
  rw [State.admin_runs runs]
  simp only [settled, ← hf, bne_iff_ne, beq_iff_eq, Bool.and_eq_true, Bool.or_eq_true, decide_eq_true_eq, Bool.not_eq_true', or_assoc]

end

theorem exec_unsupportedOpcode_of_none (id : Nat) (s : State) (none : s.runnable id = none) :
    exec (.unsupportedOpcode id) s = .next s.settle := by
  show execUnsupportedOpcode id s = _
  simp only [execUnsupportedOpcode, settled, none]

theorem exec_unsupportedOpcode_of_some (id : Nat) (s : State) (c : Cmd) (some : s.runnable id = some c) (known : Bool)
    (hk : known = (supported c && !(c.admin && c.sqe.opcode == 0x7F && !([0, 1, 4, 5, 6, 8].contains c.sqe.fctype)))) (st : Nat)
    (hs : st = if c.sqe.fuse ≠ 0 then nvInvalidField else nvInvalidOpcode) : exec (.unsupportedOpcode id) s =
    .next (if c.sqe.fuse = 0 ∧ known = true then s
      else if c.admin = false then (s.tileEvent c.pump evCmdStart).finish id st
      else if unrecorded c.sqe = false ∧ s.auditFull = true then s.finish id nvOpDenied
      else s.adminDone id c st).settle := by
  show execUnsupportedOpcode id s = _
  simp only [execUnsupportedOpcode, settled, some, ← hk, bne_iff_ne, ← hs, beq_iff_eq, Bool.and_eq_true, Bool.not_eq_true']

theorem exec_interruptCoalescingTimeout (fn : Fin 34) (vector : Nat) (s : State) : exec (.interruptCoalescingTimeout fn vector) s =
    .next (if Tab.has vector (s.fnOf fn.val).coalHeld = false then s
      else (s.updFn fn.val fun f => { f with coalHeld := Tab.del vector f.coalHeld }).msix fn.val vector).settle := by
  show execInterruptCoalescingTimeout fn vector s = _
  simp only [execInterruptCoalescingTimeout, settled, Bool.not_eq_true']

/-- Settles O43, one command at a time. -/
theorem adminCommandsAnswer : Obligations.AdminCommandsAnswer := by
  refine ⟨fun id c s runs => ?identify, fun id lid off c s runs hl ho => ?log, fun id c s => ?features, fun id c k s runs hk => ?event,
    fun id c found s runs hf => ?abort, fun id c s runs => ?alive,
    fun id nsid type op c held on off back s runs hn ht ho hh hon hoff hback => ?send,
    fun id nsid type op c held s runs hn ht ho hh => ?receive, fun id fn c s runs hf => ?virtual, fun id s => ?unsupported,
    fun fn vector s => ?coalescing⟩
  case identify =>
    rw [exec_identify_of_runs runs]
    refine ⟨fun fs page => ?_, fun st fs page bad => ?_⟩ <;> rw [page]
    · rw [if_pos rfl]
    · rw [if_neg bad]
  case log =>
    subst hl ho
    rw [exec_getLogPage_of_runs runs]
    refine ⟨fun offset => by rw [if_pos offset], fun st fs offset page bad => ?_, fun fs u v offset page hu hv => ?_⟩ <;>
      rw [if_neg (Classical.not_not.2 offset), page]
    · rw [if_neg bad]
    · subst hu hv
      rw [if_pos rfl]; rfl
  case features =>
    refine ⟨fun runs time => ?_, fun runs host short => ?_, fun runs host long => ?_, fun runs time host => ?_, fun runs none => ?_,
      fun d runs some => ?_⟩
    · rw [exec_getFeatures_of_runs runs, if_pos time]
    · rw [exec_getFeatures_of_runs runs, if_neg (by omega), if_pos host, if_pos short]
    · rw [exec_getFeatures_of_runs runs, if_neg (by omega), if_pos host, if_neg (by omega)]
    · rw [exec_getFeatures_of_runs runs, if_neg time, if_neg host]
    · rw [exec_setFeatures_of_runs runs, s.withData_of_none id c _ none]
    · rw [exec_setFeatures_of_runs runs, s.withData_of_some id c _ d some]; rfl
  case event =>
    subst hk
    refine ⟨fun e waits => exec_asynchronousEventRequest_of_waiting runs e waits, fun quiet few => ?_, fun quiet many => ?_⟩
    · rw [exec_asynchronousEventRequest_of_quiet runs quiet, if_neg (Nat.not_le.2 few)]
    · rw [exec_asynchronousEventRequest_of_quiet runs quiet, if_pos many]
  case abort =>
    have named : s.abortFound c = found := hf.symm
    rw [exec_abort_of_runs runs, named]
    exact ⟨fun none => by rw [none]; rfl, fun e some => by rw [some]; rfl⟩
  case alive =>
    rw [exec_keepAlive_of_runs runs]
    exact ⟨fun on => by rw [if_pos on], fun off => by rw [if_neg (ne_true_of_eq_false off)]⟩
  case send =>
    subst hn hon hoff hback
    refine ⟨exec_directiveSend_of_unseen runs, fun seen => ?_⟩
    rw [exec_directiveSend_of_seen runs seen type op ht ho, ← hh]
    refine ⟨fun identify one streams => ?_, fun streams some one => ?_, fun streams some two => ?_, fun bad => ?_⟩
    · rw [if_pos ⟨identify, one, streams⟩]
      split <;> rfl
    · rw [if_neg (by omega), if_pos ⟨streams, some, one⟩]
    · rw [if_neg (by omega), if_neg (by omega), if_pos ⟨streams, some, two⟩]; rfl
    · have other : ∀ k : Nat, k = 1 ∨ k = 2 → ¬(type = 1 ∧ held ≠ none ∧ op = k) := by
        rintro k hk ⟨one, some, code⟩
        rcases bad with _ | ⟨_, none | _⟩ | _
        · omega
        · exact some none
        · omega
        · omega
      rw [if_neg (by omega), if_neg (other 1 (.inl rfl)), if_neg (other 2 (.inr rfl))]
  case receive =>
    subst hn
    refine ⟨exec_directiveReceive_of_unseen runs, fun n seen => ?_⟩
    rw [exec_directiveReceive_of_seen runs n seen type op ht ho held hh _ rfl]
    refine ⟨fun identify one => by rw [if_pos ⟨identify, one⟩], fun a streams some => ?_, fun bad => ?_⟩
    · rw [if_neg (by omega), if_pos streams, some]
      refine ⟨fun one => ?_, fun two => ?_, fun g three hg => ?_⟩
      · simp only [Option.elim, one, if_true]
      · simp [two]
      · simp [three, hg]
    · rw [if_neg (by omega)]
      split
      · rcases held with _ | a
        · rfl
        · have other : op = 0 ∨ 3 < op := by
            rcases bad with _ | ⟨_, none | other⟩ | _
            · omega
            · cases none
            · exact other
            · omega
          simp only [Option.elim]
          rw [if_neg (by omega), if_neg (by omega), if_neg (by omega)]
      · rfl
  case virtual =>
    rw [exec_virtualizationManagement_of_runs runs fn hf]
    refine ⟨fun other => by rw [if_pos other], fun first offline online => ?_, fun first action absent => ?_,
      fun first low high present => ⟨fun online => ?_, fun offline => ?_⟩⟩
    · rw [if_neg (Classical.not_not.2 first), if_pos ⟨offline, online⟩]
    · rw [if_neg (Classical.not_not.2 first), if_neg (by omega), if_pos absent]
    · rw [if_neg (Classical.not_not.2 first), if_neg (by omega),
        if_neg (not_or.2 ⟨by omega, not_or.2 ⟨by omega, ne_false_of_eq_true present⟩⟩), if_pos online]
    · rw [if_neg (Classical.not_not.2 first), if_neg (by omega),
        if_neg (not_or.2 ⟨by omega, not_or.2 ⟨by omega, ne_false_of_eq_true present⟩⟩), if_neg (by omega)]
  case unsupported =>
    refine ⟨exec_unsupportedOpcode_of_none id s, fun c known st some hk hs => ?_⟩
    rw [exec_unsupportedOpcode_of_some id s c some known hk st hs]
    refine ⟨fun single listed => by rw [if_pos ⟨single, listed⟩], fun bad => ?_⟩
    have run : ¬(c.sqe.fuse = 0 ∧ known = true) := by
      rintro ⟨single, listed⟩
      exact bad.elim (· single) (ne_false_of_eq_true listed)
    rw [if_neg run]
    refine ⟨fun io => by rw [if_pos io], fun admin recorded full => ?_, fun admin room => ?_⟩
    · rw [if_neg (ne_false_of_eq_true admin), if_pos ⟨recorded, full⟩]
    · rw [if_neg (ne_false_of_eq_true admin), if_neg]
      rintro ⟨recorded, full⟩
      exact room.elim (ne_true_of_eq_false recorded) (ne_false_of_eq_true full)
  case coalescing =>
    rw [exec_interruptCoalescingTimeout]
    exact ⟨fun held => by rw [if_neg (ne_false_of_eq_true held)], fun none => by rw [if_pos none]⟩

/-! ### Fabrics commands and queues -/

section
variable {id qp : Nat} {c : Cmd} {s : State} (runs : s.adminRuns id 0x7F c) (on : c.path = .rc qp)
include runs on

theorem exec_fabricsConnect_of_runs (tenant : Fin 1024) (type : c.sqe.fctype = 1) (e : Cmd) (he : e = { c with tenant := tenant.val })
    (u : State) (hu : u = s.updCmd id fun _ => e) : exec (.fabricsConnect id tenant) s = .next (u.withData id e (u.connectData id e)).settle := by
  subst he hu
  show settled (s.fabrics id [1] _) = _
  rw [State.fabrics_runs runs on (List.mem_singleton.2 type)]; rfl

theorem exec_propertyGet_of_runs (type : c.sqe.fctype = 4) : exec (.propertyGet id) s =
    .next ((s.property (s.ctlrOf c.ctlr) c.sqe.cdw11).elim (s.adminDone id c nvInvalidField) fun v => s.adminDone id c nvOk v).settle := by
  show settled (s.fabrics id [4] _) = _
  rw [State.fabrics_runs runs on (List.mem_singleton.2 type)]
  simp only [settled]
  cases s.property (s.ctlrOf c.ctlr) c.sqe.cdw11 <;> rfl

theorem exec_propertySet_of_runs (type : c.sqe.fctype = 0) (u : State)
    (hu : u = if (s.ctlrOf c.ctlr).cc % 2 = 1 ∧ c.sqe.cdw12 % 2 = 0 then
      s.loseCmds fun e => e.ctlr == c.ctlr && (!e.admin || e.stage == .aer) else s) : exec (.propertySet id) s =
    .next (if c.sqe.cdw11 ≠ 0x14 then s.adminDone id c nvInvalidField
      else (u.updCtlr c.ctlr fun k => { k with cc := c.sqe.cdw12 }).adminDone id c nvOk).settle := by
  show settled (s.fabrics id [0] _) = _
  rw [State.fabrics_runs runs on (List.mem_singleton.2 type)]
  simp only [settled, bne_iff_ne, Bool.and_eq_true, beq_iff_eq, ← hu]

theorem exec_disconnect_of_runs (type : c.sqe.fctype = 8) : exec (.disconnect id) s =
    .next ((s.adminDone id c nvOk).endAssoc (s.qpOf qp).assoc).settle := by
  show settled (s.fabrics id [8] _) = _
  rw [State.fabrics_runs runs on (List.mem_singleton.2 type)]; rfl

theorem exec_authenticationSendReceive_of_runs (type : c.sqe.fctype = 5 ∨ c.sqe.fctype = 6) : exec (.authenticationSendReceive id) s =
    .next (s.adminDone id c nvInvalidField).settle := by
  show settled (s.fabrics id [5, 6] _) = _
  rw [State.fabrics_runs runs on (by simpa using type)]; rfl

end

theorem State.connectData_of_rc (qp id : Nat) (c e : Cmd) (d : List Byte) (s u v : State) (on : c.path = .rc qp)
    (hu : u = if Tab.has (connectNqn d) s.host.nqns then s
      else { s.freeNext with host := { s.host with nqns := Tab.put (connectNqn d) (c.tenant, s.freeVal 32) s.host.nqns } })
    (he : e = { c with tenant := (Tab.getD (connectNqn d) (c.tenant, 0) u.host.nqns).1 })
    (hv : v = u.updCmd id fun k => { k with tenant := e.tenant }) : s.connectData id c d =
      if v.hostInErr (connectHost d) (connectNqn d) = true then v.setStage id .connect else v.connect id e qp d := by
  subst he
  simp only [State.connectData, ← hu, ← hv, on]

section
variable {id q k size : Nat} {c : Cmd} {s : State} (on : c.path.isPcie = true) (hq : q = c.sqe.cdw10 % 0x10000) (nonzero : q ≠ 0)
  (limit : q ≤ queueLimit c.path) (hk : k = queueKey c.path.fn q)
include on hq nonzero limit

theorem State.queueOp_of_queue {op : Nat} (runs : s.adminRuns id op c) (f : Cmd → Nat → State) : s.queueOp id op f = f c q := by
  rw [State.queueOp_of_runs runs, if_neg (ne_false_of_eq_true on), if_neg (by omega), hq]

include hk

theorem exec_deleteIoSq_of_runs (runs : s.adminRuns id 0x00 c) (u : State) (hu : u = s.abortQueue c.path.fn q) :
    exec (.deleteIoSq id) s = .next (if Tab.has k s.host.sqs = false then s.adminDone id c nvQidInvalid
      else ({ u with host := { u.host with sqs := Tab.del k u.host.sqs } } : State).adminDone id c nvOk).settle := by
  show settled (s.queueOp id 0x00 _) = _
  rw [State.queueOp_of_queue on hq nonzero limit runs]
  simp only [settled, ← hk, ← hu, Bool.not_eq_true']

theorem exec_deleteIoCq_of_runs (runs : s.adminRuns id 0x04 c) (used : Bool)
    (hu : used = s.host.sqs.any fun e => e.1 / 0x10000 == c.path.fn && e.2.cq == q) :
    exec (.deleteIoCq id) s = .next (if Tab.has k s.host.cqs = false then s.adminDone id c nvQidInvalid
      else if used = true then s.adminDone id c nvQueueDeletion
      else ({ s with host := { s.host with cqs := Tab.del k s.host.cqs } } : State).adminDone id c nvOk).settle := by
  show settled (s.queueOp id 0x04 _) = _
  rw [State.queueOp_of_queue on hq nonzero limit runs]
  simp only [settled, ← hk, ← hu, Bool.not_eq_true']

variable (hs : size = c.sqe.cdw10 / 0x10000)
include hs

theorem exec_createIoSq_of_runs (runs : s.adminRuns id 0x01 c) (cq : Nat) (hc : cq = c.sqe.cdw11 / 0x10000) : exec (.createIoSq id) s =
    .next (if Tab.has k s.host.sqs = true then s.adminDone id c nvQidInvalid
      else if queueSizeGood size = false then s.adminDone id c nvQueueSize
      else if cq = 0 ∨ Tab.has (queueKey c.path.fn cq) s.host.cqs = false then s.adminDone id c nvCqInvalid
      else if c.sqe.cdw11 % 2 = 0 then s.adminDone id c nvInvalidField
      else ({ s with host := { s.host with
        sqs := Tab.put k { base := c.sqe.addr, size := size, cq := cq } s.host.sqs } } : State).adminDone id c nvOk).settle := by
  show settled (s.queueOp id 0x01 _) = _
  rw [State.queueOp_of_queue on hq nonzero limit runs]
  simp only [settled, ← hk, ← hs, ← hc, Bool.not_eq_true', Bool.or_eq_true, beq_iff_eq]

theorem exec_createIoCq_of_runs (runs : s.adminRuns id 0x05 c) (v : Nat) (hv : v = c.sqe.cdw11 / 0x10000) : exec (.createIoCq id) s =
    .next (if Tab.has k s.host.cqs = true then s.adminDone id c nvQidInvalid
      else if queueSizeGood size = false then s.adminDone id c nvQueueSize
      else if queueLimit c.path < v then s.adminDone id c nvVectorInvalid
      else if c.sqe.cdw11 % 2 = 0 then s.adminDone id c nvInvalidField
      else ({ s with host := { s.host with
        cqs := Tab.put k { base := c.sqe.addr, size := size, vector := v, ien := c.sqe.cdw11 / 2 % 2 == 1 } s.host.cqs } } :
          State).adminDone id c nvOk).settle := by
  show settled (s.queueOp id 0x05 _) = _
  rw [State.queueOp_of_queue on hq nonzero limit runs]
  simp only [settled, ← hk, ← hs, ← hv, Bool.not_eq_true', beq_iff_eq]

end

/-- Settles O44, one command at a time. -/
theorem fabricsCommandsAndQueues : Obligations.FabricsCommandsAndQueues := by
  refine ⟨fun id qp tenant c e s u runs on type he hu => ?connect, fun id qp c e d s u v on hu he hv => ?data,
    fun id qp c s runs on => ?fabrics, fun id q k size c s on hq nonzero limit hk hs =>
      ⟨fun cq runs hc => ?createSq, fun u runs hu => ?deleteSq, fun v runs hv => ?createCq, fun used runs hu => ?deleteCq⟩⟩
  case connect =>
    rw [exec_fabricsConnect_of_runs runs on tenant type e he u hu]
    exact ⟨fun none => by rw [u.withData_of_none id e _ none], fun d some => by rw [u.withData_of_some id e _ d some]⟩
  case data =>
    rw [State.connectData_of_rc qp id c e d s u v on hu he hv]
    exact ⟨fun held => by rw [if_pos held], fun free => by rw [if_neg (ne_true_of_eq_false free)]⟩
  case fabrics =>
    refine ⟨fun type none => ?_, fun v type some => ?_, fun type other => ?_, fun u type control hu => ?_,
      exec_disconnect_of_runs runs on, exec_authenticationSendReceive_of_runs runs on⟩
    · rw [exec_propertyGet_of_runs runs on type, none]; rfl
    · rw [exec_propertyGet_of_runs runs on type, some]; rfl
    · rw [exec_propertySet_of_runs runs on type _ rfl, if_pos other]
    · rw [exec_propertySet_of_runs runs on type u hu, if_neg (Classical.not_not.2 control)]
  case createSq =>
    rw [exec_createIoSq_of_runs on hq nonzero limit hk hs runs cq hc]
    refine ⟨fun used => by rw [if_pos used], fun free size => ?_, fun free size none => ?_, fun free size cq0 has => ?_⟩ <;>
      rw [if_neg (ne_true_of_eq_false free)]
    · rw [if_pos size]
    · rw [if_neg (ne_false_of_eq_true size), if_pos none]
    · rw [if_neg (ne_false_of_eq_true size), if_neg (not_or.2 ⟨cq0, ne_false_of_eq_true has⟩)]
      exact ⟨fun scattered => by rw [if_pos scattered], fun whole => by rw [if_neg (by omega)]⟩
  case deleteSq =>
    rw [exec_deleteIoSq_of_runs on hq nonzero limit hk runs u hu]
    exact ⟨fun none => by rw [if_pos none], fun has => by rw [if_neg (ne_false_of_eq_true has)]⟩
  case createCq =>
    rw [exec_createIoCq_of_runs on hq nonzero limit hk hs runs v hv]
    refine ⟨fun used => by rw [if_pos used], fun free size => ?_, fun free size vector => ?_, fun free size vector => ?_⟩ <;>
      rw [if_neg (ne_true_of_eq_false free)]
    · rw [if_pos size]
    · rw [if_neg (ne_false_of_eq_true size), if_pos vector]
    · rw [if_neg (ne_false_of_eq_true size), if_neg (Nat.not_lt.2 vector)]
      exact ⟨fun scattered => by rw [if_pos scattered], fun whole => by rw [if_neg (by omega)]⟩
  case deleteCq =>
    rw [exec_deleteIoCq_of_runs on hq nonzero limit hk runs used hu]
    refine ⟨fun none => by rw [if_pos none], fun has inUse => ?_, fun has free => ?_⟩ <;> rw [if_neg (ne_false_of_eq_true has)]
    · rw [if_pos inUse]
    · rw [if_neg (ne_true_of_eq_false free)]

/-! ### Namespaces by command -/

section
variable {id : Nat} {c : Cmd} {s : State}

theorem exec_namespaceCreate_of_runs (permitted : Bool) (runs : s.adminRuns id 0x0D c) : exec (.namespaceCreate id permitted) s =
    .next (if c.sqe.cdw10 % 16 = 1 then s else if c.sqe.cdw10 % 16 ≠ 0 then s.adminDone id c nvInvalidField
      else if permitted = false then s.adminDone id c nvOpDenied else s.withData id c (s.nsCreate id c)).settle := by
  show settled (s.admin id 0x0D _) = _
  rw [State.admin_runs runs]
  simp only [settled, beq_iff_eq, bne_iff_ne, Bool.not_eq_true']

theorem exec_namespaceDelete_of_runs (permitted : Bool) (runs : s.adminRuns id 0x0D c) : exec (.namespaceDelete id permitted) s =
    .next (if c.sqe.cdw10 % 16 ≠ 1 then s else if permitted = false then s.adminDone id c nvOpDenied
      else s.adminNs id c fun n => if n.deleting = true then s.adminDone id c nvInvalidNs
        else if n.locked = true then s.adminDone id c nvOpDenied
        else (s.beginDelete c.sqe.nsid n (some id)).setStage id .draining).settle := by
  show settled (s.admin id 0x0D _) = _
  rw [State.admin_runs runs]
  simp only [settled, bne_iff_ne, Bool.not_eq_true']

theorem State.adminNs_of_refuse (f : Ns → State) (st : Nat) (gate : s.nsGate id c = .refuse st) :
    s.adminNs id c f = s.adminDone id c st := by simp only [State.adminNs, gate]

theorem State.adminNs_of_forward (f : Ns → State) (m : Nat) (gate : s.nsGate id c = .forward m) :
    s.adminNs id c f = s.forwardCmd id c m := by simp only [State.adminNs, gate]

theorem State.adminNs_of_hold (f : Ns → State) (gate : s.nsGate id c = .hold) : s.adminNs id c f = s.setStage id .moving := by
  simp only [State.adminNs, gate]

theorem State.adminNs_of_run (f : Ns → State) (n : Ns) (gate : s.nsGate id c = .run n) : s.adminNs id c f = f n := by
  simp only [State.adminNs, gate]

theorem State.nsCreate_of_refusal (d : List Byte) (refused : s.createRefusal (createReq d) ≠ 0) :
    s.nsCreate id c d = s.adminDone id c (createStatus (s.createRefusal (createReq d))) := by
  simp only [State.nsCreate]
  generalize s.createRefusal (createReq d) = row at refused
  cases row with
  | zero => exact absurd rfl refused
  | succ row => rfl

theorem State.nsCreate_of_accepted (d : List Byte) (accepted : s.createRefusal (createReq d) = 0) : s.nsCreate id c d =
    s.lowestEmpty.elim (s.adminDone id c nvInsufficient) fun slot =>
      ((s.generateKey slot keyXts256).createNs s.freeNsid (createReq d) c.tenant slot
        (s.selfEntry.map fun e => e.2.2.1)).adminDone id c nvOk s.freeNsid slot := by
  simp only [State.nsCreate, accepted]
  cases s.lowestEmpty <;> rfl

theorem exec_namespaceAttachment_of_runs (runs : s.adminRuns id 0x15 c) : exec (.namespaceAttachment id) s =
    .next (if c.path.isPcie = false then s.adminDone id c nvInvalidOpcode else s.withData id c (s.nsAttach id c)).settle := by
  show settled (s.admin id 0x15 _) = _
  rw [State.admin_runs runs]
  simp only [settled, Bool.not_eq_true']

theorem State.nsAttach_of_unseen (d : List Byte) (unseen : s.visible id c = none) : s.nsAttach id c d = s.adminDone id c nvInvalidNs := by
  simp only [State.nsAttach, unseen]

theorem State.nsAttach_of_seen (d : List Byte) (n : Ns) (seen : s.visible id c = some n) : s.nsAttach id c d =
    if ctlrList d = [] then s.adminDone id c nvCtlrList
    else if ∃ f ∈ ctlrList d, (s.fnOf f).tenant ≠ n.tenant then s.adminDone id c nvInvalidNs
    else if c.sqe.cdw10 % 16 = 0 then
      if ∃ f ∈ ctlrList d, f ∈ n.attached then s.adminDone id c nvNsAttached
      else (s.putNs c.sqe.nsid { n with attached := n.attached ++ ctlrList d }).adminDone id c nvOk
    else if c.sqe.cdw10 % 16 = 1 then
      if ∃ f ∈ ctlrList d, f ∉ n.attached then s.adminDone id c nvNsNotAttached
      else (s.putNs c.sqe.nsid { n with attached := n.attached.filter fun f => !(ctlrList d).contains f }).adminDone id c nvOk
    else s.adminDone id c nvInvalidField := by
  simp only [State.nsAttach, seen, List.isEmpty_iff, List.any_eq_true, bne_iff_ne, Bool.not_eq_true', List.contains_iff_mem,
    List.all_eq_false]
  rcases c.sqe.cdw10 % 16 with _ | _ | sel
  · rfl
  · rfl
  · simp

theorem exec_formatNvm_of_runs (runs : s.adminRuns id 0x80 c) (w lbaf pi : Nat) (hw : w = c.sqe.cdw10) (hl : lbaf = w % 16)
    (hp : pi = w / 32 % 8) : exec (.formatNvm id) s =
    .next (if c.sqe.nsid = 0xFFFFFFFF then s.adminDone id c nvInvalidField
      else s.adminNs id c fun n =>
        if 3 < lbaf ∨ 3 < pi ∨ (lbaf = 0 ∧ pi ≠ 0) ∨ (lbaf ≠ 0 ∧ w / 16 % 2 = 0) ∨ 2 < w / 512 % 8 then s.adminDone id c nvInvalidField
        else if n.locked = true then s.adminDone id c nvOpDenied
        else if n.format ≠ none then s.adminDone id c nvFormatInProgress
        else (s.putNs c.sqe.nsid { n with format := some (id, lbaf + 16 * pi, w / 512 % 8) }).setStage id .draining).settle := by
  subst hw hl hp
  show settled (s.admin id 0x80 _) = _
  rw [State.admin_runs runs]
  simp only [settled, beq_iff_eq, bne_iff_ne, Bool.or_eq_true, Bool.and_eq_true, decide_eq_true_eq, or_assoc, Option.isSome_iff_ne_none]

end

/-! ### Drained deletes and formats -/

section
variable {nsid : Nat} {s : State}

theorem exec_namespaceDeleteDrained_of_none (none : s.nsOf nsid = none) : exec (.namespaceDeleteDrained nsid) s = .next s.settle := by
  show execNamespaceDeleteDrained nsid s = _
  simp only [execNamespaceDeleteDrained, settled, none]

theorem exec_formatStart_of_none (none : ∀ n : Ns, s.nsOf nsid = some n → n.format = none) :
    exec (.formatStart nsid) s = .next s.settle := by
  show execFormatStart nsid s = _
  cases found : s.nsOf nsid with
  | none => simp only [execFormatStart, settled, found]
  | some n => simp only [execFormatStart, settled, found, none n found]

theorem exec_formatDone_of_none (none : ∀ n : Ns, s.nsOf nsid = some n → n.format = none) :
    exec (.formatDone nsid) s = .next s.settle := by
  show execFormatDone nsid s = _
  cases found : s.nsOf nsid with
  | none => simp only [execFormatDone, settled, found]
  | some n => simp only [execFormatDone, settled, found, none n found]

variable {n : Ns} (found : s.nsOf nsid = some n)
include found

theorem exec_namespaceDeleteDrained_of_some : exec (.namespaceDeleteDrained nsid) s =
    .next (if n.deleting = false ∨ ∃ i ∈ n.awaits, s.cmdOf i ≠ none then s
      else n.deleteBy.elim (((s.removeNs nsid n actManagement).wr Reg.FTL_NS_STATUS_BUSY 0).wr Reg.FTL_NS_STATUS_RESULT 0)
        fun id => (s.cmdOf id).elim (s.removeNs nsid n actController)
          fun c => (s.removeNs nsid n (s.actorOf c)).adminDone id c nvOk 0 n.keySlot).settle := by
  show execNamespaceDeleteDrained nsid s = _
  simp only [execNamespaceDeleteDrained, settled, found, Bool.or_eq_true, Bool.not_eq_true', List.any_eq_true, Option.isSome_iff_ne_none]
  cases n.deleteBy with
  | none => simp only [Option.elim]
  | some id => cases sender : s.cmdOf id <;> simp only [Option.elim, sender]

variable {id fmt ses : Nat} (format : n.format = some (id, fmt, ses))
include format

theorem exec_formatStart_of_waiting (waits : n.formatting = true ∨ s.nsAdmitted nsid ≠ [] ∨ s.clearWaits nsid = true) :
    exec (.formatStart nsid) s = .next s.settle := by
  show execFormatStart nsid s = _
  simp only [execFormatStart, settled, found, format, Bool.or_eq_true, Bool.not_eq_true', List.isEmpty_eq_false_iff, or_assoc]
  rw [if_pos waits]

theorem exec_formatStart_of_drained (first : n.formatting = false) (drained : s.nsAdmitted nsid = []) (room : s.clearWaits nsid = false)
    (a : Actor) (ha : (∃ c : Cmd, s.cmdOf id = some c ∧ a = s.actorOf c) ∨ (s.cmdOf id = none ∧ a = actController)) (u v w : State) (n' : Ns)
    (hu : u = if ses = 0 then s else s.destroyKey n.keySlot a .format nsid)
    (hv : v = if ses = 0 ∧ n.retState ≠ retExpired then u else u.generateKey n.keySlot keyXts256)
    (hn : n' = { n with formatting := true, lbaf := fmt % 16, piType := fmt / 16, lastWrite := v.tm.secure, claims := [] })
    (hw : w = (v.putNs nsid n').clearNs nsid) : exec (.formatStart nsid) s =
    .next (if n.retain = true ∧ n.retState = retExpired then w.retChange nsid n' retLocked else w).settle := by
  simp only [format] at hn
  show execFormatStart nsid s = _
  simp only [execFormatStart, settled, found, format, first, drained, room, List.isEmpty_nil, Bool.not_true, Bool.or_self,
    Bool.false_eq_true, if_false, beq_iff_eq, bne_iff_ne, Bool.and_eq_true]
  rcases ha with ⟨c, some, rfl⟩ | ⟨none, rfl⟩
  · simp only [some, ← hu, ← hv, ← hn, ← hw]
  · simp only [none, ← hu, ← hv, ← hn, ← hw]

theorem exec_formatDone_of_some (u : State) (hu : u = (s.putNs nsid { n with format := none, formatting := false }).nsChanged nsid) :
    exec (.formatDone nsid) s = .next (if n.formatting = false then s
      else (u.cmdOf id).elim u fun c => u.adminDone id c nvOk 0 n.keySlot).settle := by
  show execFormatDone nsid s = _
  simp only [execFormatDone, settled, found, format, Bool.not_eq_true', ← hu]
  cases u.cmdOf id <;> rfl

end

/-! ### Namespaces by the registers -/

section
variable (value : W32) (op : Nat) (f : State → Nat → State × Bool) {s : State}

theorem State.nsOp_of_out (out : s.decodeOf .ftl ≠ .all ∨ s.is (fResetting .ftl) = true) :
    s.nsOp value op f = s.writeWord offNsAcc value := by
  simp only [State.nsOp, bne_iff_ne, Bool.or_eq_true]
  rw [if_pos out]

variable (decoded : s.decodeOf .ftl = .all) (live : s.is (fResetting .ftl) = false)
include decoded live

theorem State.nsOp_of_full (full : s.auditFull = true) :
    s.nsOp value op f = (s.writeWord offNsAcc value).wr Reg.FTL_NS_STATUS_RESULT nsrAuditFull := by
  simp only [State.nsOp, decoded, live, full, bne_self_eq_false, Bool.or_self, Bool.false_eq_true, if_false, if_true]

variable (room : s.auditFull = false) (u : State) (hu : u = (s.accessWake .ftl offNsAcc).wrFields .ftl offNsAcc value)
include room hu

theorem State.nsOp_of_idle (idle : value.toNat < 2147483648 ∨ u.rd Reg.FTL_NS_ACC_OP ≠ op ∨ u.is Reg.FTL_NS_STATUS_BUSY = true) :
    s.nsOp value op f = u.audited offNsAcc value false := by
  have stays : ((value.toNat / 2 ^ 31 == 0 || u.rd Reg.FTL_NS_ACC_OP != op) || u.is Reg.FTL_NS_STATUS_BUSY) = true := by
    simp only [Bool.or_eq_true, beq_iff_eq, bne_iff_ne, or_assoc]
    exact idle.imp_left fun low => by omega
  simp only [State.nsOp, decoded, live, room, bne_self_eq_false, Bool.or_self, Bool.false_eq_true, if_false, ← hu, stays, if_true]

theorem State.nsOp_runs (go : 2147483648 ≤ value.toNat) (same : u.rd Reg.FTL_NS_ACC_OP = op) (free : u.is Reg.FTL_NS_STATUS_BUSY = false) :
    s.nsOp value op f = (f u (u.rd Reg.FTL_NS_ACC_NSID)).1.audited offNsAcc value (f u (u.rd Reg.FTL_NS_ACC_NSID)).2
      (u.rd Reg.FTL_NS_ACC_NSID) := by
  have high : (value.toNat / 2 ^ 31 == 0) = false := by simp only [beq_eq_false_iff_ne]; omega
  simp only [State.nsOp, decoded, live, room, bne_self_eq_false, Bool.or_self, Bool.false_eq_true, if_false, ← hu, same, high, free]

end

/-- The rows of the namespace registers, and their operations. -/
def nsRows (value : W32) : List (Instr × Nat) :=
  [(Instr.namespaceRegCreate value, 1), (.namespaceRegGrow value, 2), (.namespaceRegDelete value, 3), (.namespaceRegRead value, 4)]

theorem exec_nsRow (value : W32) (s : State) (e : Instr × Nat) (mem : e ∈ nsRows value) :
    ∃ f : State → Nat → State × Bool, exec e.1 s = .next (s.nsOp value e.2 f).settle := by
  simp only [nsRows, List.mem_cons, List.not_mem_nil, or_false] at mem
  rcases mem with rfl | rfl | rfl | rfl <;> exact ⟨_, rfl⟩

section
variable {value : W32} {s u : State} {id : Nat} (hu : u = (s.accessWake .ftl offNsAcc).wrFields .ftl offNsAcc value)
  (decoded : s.decodeOf .ftl = .all) (live : s.is (fResetting .ftl) = false) (room : s.auditFull = false)
  (go : 2147483648 ≤ value.toNat) (free : u.is Reg.FTL_NS_STATUS_BUSY = false) (hid : id = u.rd Reg.FTL_NS_ACC_NSID)
include hu decoded live room go free hid

theorem exec_namespaceRegGrow_of_none (same : u.rd Reg.FTL_NS_ACC_OP = 2)
    (gone : ∀ n : Ns, u.nsOf id = some n → n.deleting = true) : exec (.namespaceRegGrow value) s =
    .next ((u.wr Reg.FTL_NS_STATUS_RESULT nsrNotFound).audited offNsAcc value true id).settle := by
  show settled (s.nsOp value 2 _) = _
  rw [State.nsOp_runs value 2 _ decoded live room u hu go same free, ← hid]
  cases found : u.nsOf id with
  | none => simp only [settled]; rfl
  | some n => simp only [settled, gone n found, if_true]; rfl

theorem exec_namespaceRegDelete_of_none (same : u.rd Reg.FTL_NS_ACC_OP = 3)
    (gone : ∀ n : Ns, u.nsOf id = some n → n.deleting = true) : exec (.namespaceRegDelete value) s =
    .next ((u.wr Reg.FTL_NS_STATUS_RESULT nsrNotFound).audited offNsAcc value true id).settle := by
  show settled (s.nsOp value 3 _) = _
  rw [State.nsOp_runs value 3 _ decoded live room u hu go same free, ← hid]
  cases found : u.nsOf id with
  | none => simp only [settled]; rfl
  | some n => simp only [settled, gone n found, if_true]; rfl

theorem exec_namespaceRegRead_of_none (same : u.rd Reg.FTL_NS_ACC_OP = 4) (none : u.nsOf id = none) : exec (.namespaceRegRead value) s =
    .next ((u.wr Reg.FTL_NS_STATUS_RESULT nsrNotFound).audited offNsAcc value true id).settle := by
  show settled (s.nsOp value 4 _) = _
  rw [State.nsOp_runs value 4 _ decoded live room u hu go same free, ← hid]
  simp only [settled, none]; rfl

/-- A create by the registers: the first refusal that applies, or the namespace with its key slot bound. -/
theorem exec_namespaceRegCreate_of_accepted (same : u.rd Reg.FTL_NS_ACC_OP = 1) (accepted : u.createRefusal u.nsRequest = 0)
    (nsid : Nat) (hn : nsid = if id = 0 then u.freeNsid else id) (home : Option Nat)
    (hh : home = if u.is Reg.FTL_NS_CFG_HOME_EN = true then some (u.rd Reg.FTL_NS_CFG_HOME) else u.selfEntry.map fun e => e.2.2.1)
    (r : State × Bool) (hr : r = if 4096 < nsid then u.nsResult nsrInvalid else if u.nsOf nsid ≠ none then u.nsResult 2
      else u.bindSlot.elim (u.nsResult (if u.is Reg.FTL_NS_KEY_SLOT_EN = true then nsrInvalid else 3)) fun b =>
        ((b.2.createNs nsid u.nsRequest (u.rd Reg.FTL_NS_CFG_TENANT) b.1 home).wr Reg.FTL_NS_STATUS_ASSIGNED nsid).nsResult nsrOk) :
    exec (.namespaceRegCreate value) s = .next (r.1.audited offNsAcc value r.2 id).settle := by
  show settled (s.nsOp value 1 _) = _
  rw [State.nsOp_runs value 1 _ decoded live room u hu go same free, ← hid]
  subst hr
  simp only [settled, accepted, beq_iff_eq, ← hn, ← hh, Option.isSome_iff_ne_none]
  cases u.bindSlot <;> rfl

theorem exec_namespaceRegCreate_of_refused (same : u.rd Reg.FTL_NS_ACC_OP = 1) (refused : u.createRefusal u.nsRequest ≠ 0) :
    exec (.namespaceRegCreate value) s = .next ((u.wr Reg.FTL_NS_STATUS_RESULT (u.createRefusal u.nsRequest)).audited offNsAcc value
      (u.createRefusal u.nsRequest != nsrOk) id).settle := by
  show settled (s.nsOp value 1 _) = _
  rw [State.nsOp_runs value 1 _ decoded live room u hu go same free, ← hid]
  simp only [settled]
  rfl

variable {n : Ns} (found : u.nsOf id = some n)
include found

theorem exec_namespaceRegGrow_of_some (same : u.rd Reg.FTL_NS_ACC_OP = 2) (stays : n.deleting = false) (nsze : Nat)
    (hz : nsze = u.rd64 Reg.FTL_NS_NSZE_LO Reg.FTL_NS_NSZE_HI) (r : State × Bool)
    (hr : r = if nsze ≤ n.nsze then u.nsResult nsrInvalid
      else if u.capacityGood (rawNeed (u.nsLayout n) nsze - rawNeed (u.nsLayout n) n.nsze) = false then u.nsResult 3
      else (u.growNs id n nsze).nsResult nsrOk) :
    exec (.namespaceRegGrow value) s = .next (r.1.audited offNsAcc value r.2 id).settle := by
  show settled (s.nsOp value 2 _) = _
  rw [State.nsOp_runs value 2 _ decoded live room u hu go same free, ← hid]
  simp only [settled, found, stays, Bool.false_eq_true, if_false, ← hz, Bool.not_eq_true', ← hr]

theorem exec_namespaceRegDelete_of_some (same : u.rd Reg.FTL_NS_ACC_OP = 3) (stays : n.deleting = false) (r : State × Bool)
    (hr : r = if n.locked = true then u.nsResult nsrDenied else ((u.beginDelete id n none).wr Reg.FTL_NS_STATUS_BUSY 1, false)) :
    exec (.namespaceRegDelete value) s = .next (r.1.audited offNsAcc value r.2 id).settle := by
  show settled (s.nsOp value 3 _) = _
  rw [State.nsOp_runs value 3 _ decoded live room u hu go same free, ← hid]
  simp only [settled, found, stays, Bool.false_eq_true, if_false, ← hr]

theorem exec_namespaceRegRead_of_some (same : u.rd Reg.FTL_NS_ACC_OP = 4) (v w : State)
    (hv : v = (((((u.wr64 Reg.FTL_NS_NSZE_LO Reg.FTL_NS_NSZE_HI n.nsze).wr Reg.FTL_NS_CFG_LBAF n.lbaf).wr Reg.FTL_NS_CFG_PI_TYPE
      n.piType).wrB Reg.FTL_NS_CFG_IU n.iu16).wr Reg.FTL_NS_CFG_LAYOUT n.layout).wrB Reg.FTL_NS_CFG_RETAIN n.retain)
    (hw : w = ((((((((v.wr Reg.FTL_NS_CFG_HOME (n.home.getD 0)).wrB Reg.FTL_NS_CFG_HOME_EN n.home.isSome).wr Reg.FTL_NS_CFG_TENANT
      n.tenant).wr Reg.FTL_NS_RETAIN_RETAIN_DAYS n.retainDays).wr Reg.FTL_NS_KEY_KEY_SLOT n.keySlot).wr Reg.FTL_NS_KEY_SLOT_EN 1).wr
      Reg.FTL_NS_STATUS_ASSIGNED id).wr Reg.FTL_NS_STATUS_RESULT nsrOk)) :
    exec (.namespaceRegRead value) s = .next (w.audited offNsAcc value false id).settle := by
  show settled (s.nsOp value 4 _) = _
  rw [State.nsOp_runs value 4 _ decoded live room u hu go same free, ← hid]
  simp only [settled, found, ← hv, State.nsResult, ← hw]
  rfl

end

/-- Settles O45, one command at a time, the registers by `State.nsOp`. -/
theorem namespacesAreCreatedDrainedFormattedAndAttached : Obligations.NamespacesAreCreatedDrainedFormattedAndAttached := by
  refine ⟨fun id sel permitted c s runs hs => ?command, fun id c d s => ?create, fun nsid s => ?drained, fun id c s runs => ?attachment,
    fun id c d s => ?attach, fun id w lbaf pi c s runs hw hl hp => ?format, fun nsid s => ⟨fun none => ?noFormat,
      fun id fmt ses n found format => ?formats⟩, fun value s u hu e mem => ?registers,
    fun value row id nsid s u hu decoded live room go free same hid hn => ⟨fun refusal => ?refused, fun slot v w home ok low new bound hh hw =>
      ?created⟩,
    fun value n id nsze s u hu decoded live room go free hid found hz => ⟨fun same stays => ?grow, fun same stays => ?delete,
      fun v w same hv hw => exec_namespaceRegRead_of_some hu decoded live room go free hid found same v w hv hw⟩⟩
  case command =>
    subst hs
    rw [exec_namespaceCreate_of_runs permitted runs, exec_namespaceDelete_of_runs permitted runs]
    refine ⟨fun delete => by rw [if_pos delete], fun other => ?_, fun create denied => ?_, fun create may none => ?_,
      fun d create may some => ?_, fun other => by rw [if_pos other], fun delete denied => ?_, fun st delete may gate => ?_,
      fun m delete may gate => ?_, fun delete may gate => ?_, fun n delete may gate => ?_⟩
    · rw [if_neg (by omega), if_pos (by omega)]
    · rw [if_neg (by omega), if_neg (Classical.not_not.2 create), if_pos denied]
    · rw [if_neg (by omega), if_neg (Classical.not_not.2 create), if_neg (ne_false_of_eq_true may), s.withData_of_none id c _ none]
    · rw [if_neg (by omega), if_neg (Classical.not_not.2 create), if_neg (ne_false_of_eq_true may), s.withData_of_some id c _ d some]
    · rw [if_neg (Classical.not_not.2 delete), if_pos denied]
    · rw [if_neg (Classical.not_not.2 delete), if_neg (ne_false_of_eq_true may), State.adminNs_of_refuse _ st gate]
    · rw [if_neg (Classical.not_not.2 delete), if_neg (ne_false_of_eq_true may), State.adminNs_of_forward _ m gate]
    · rw [if_neg (Classical.not_not.2 delete), if_neg (ne_false_of_eq_true may), State.adminNs_of_hold _ gate]
    · rw [if_neg (Classical.not_not.2 delete), if_neg (ne_false_of_eq_true may), State.adminNs_of_run _ n gate]
      refine ⟨fun deleting => by rw [if_pos deleting], fun stays locked => ?_, fun stays unlocked => ?_⟩ <;>
        rw [if_neg (ne_true_of_eq_false stays)]
      · rw [if_pos locked]
      · rw [if_neg (ne_true_of_eq_false unlocked)]
  case create =>
    refine ⟨fun row refused other => ?_, fun accepted none => ?_, fun slot accepted some => ?_⟩
    · subst refused
      exact State.nsCreate_of_refusal d other
    · rw [State.nsCreate_of_accepted d accepted, none]; rfl
    · rw [State.nsCreate_of_accepted d accepted, some]; rfl
  case drained =>
    refine ⟨exec_namespaceDeleteDrained_of_none, fun n found waits => ?_, fun n found deleting done => ?_⟩
    · rw [exec_namespaceDeleteDrained_of_some found, if_pos waits]
    · have finished : ¬(n.deleting = false ∨ ∃ i ∈ n.awaits, s.cmdOf i ≠ none) := by
        rintro (stays | ⟨i, awaited, there⟩)
        · exact ne_true_of_eq_false stays deleting
        · exact there (done i awaited)
      rw [exec_namespaceDeleteDrained_of_some found, if_neg finished]
      exact ⟨fun byRegister => by rw [byRegister]; rfl, fun id byCommand gone => by rw [byCommand, Option.elim, gone]; rfl,
        fun id c byCommand there => by rw [byCommand, Option.elim, there]; rfl⟩
  case attachment =>
    rw [exec_namespaceAttachment_of_runs runs]
    refine ⟨fun off => by rw [if_pos off], fun on none => ?_, fun d on some => ?_⟩ <;> rw [if_neg (ne_false_of_eq_true on)]
    · rw [s.withData_of_none id c _ none]
    · rw [s.withData_of_some id c _ d some]
  case attach =>
    refine ⟨State.nsAttach_of_unseen d, fun n seen empty => ?_, fun n seen foreign => ?_, fun n seen some own => ?_⟩ <;>
      rw [State.nsAttach_of_seen d n seen]
    · rw [if_pos empty]
    · have some : ctlrList d ≠ [] := by
        intro empty
        obtain ⟨f, mem, _⟩ := foreign
        rw [empty] at mem
        cases mem
      rw [if_neg some, if_pos foreign]
    · rw [if_neg some, if_neg (by simpa using own)]
      refine ⟨fun other => ?_, fun attach clash => ?_, fun attach new => ?_, fun detach clash => ?_, fun detach all => ?_⟩
      · rw [if_neg (by omega), if_neg (by omega)]
      · rw [if_pos attach, if_pos clash]
      · rw [if_pos attach, if_neg (by simpa using new)]
      · rw [if_neg (by omega), if_pos detach, if_pos clash]
      · rw [if_neg (by omega), if_pos detach, if_neg (by simpa using all)]
  case format =>
    rw [exec_formatNvm_of_runs runs w lbaf pi hw hl hp]
    refine ⟨fun all => by rw [if_pos all], fun st one gate => ?_, fun m one gate => ?_, fun one gate => ?_, fun n one gate => ?_⟩ <;>
      rw [if_neg one]
    · rw [State.adminNs_of_refuse _ st gate]
    · rw [State.adminNs_of_forward _ m gate]
    · rw [State.adminNs_of_hold _ gate]
    · rw [State.adminNs_of_run _ n gate]
      refine ⟨fun bad => by rw [if_pos bad], fun lbafGood piGood plain extended erase => ?_⟩
      rw [if_neg (by omega)]
      refine ⟨fun locked => by rw [if_pos locked], fun unlocked going => ?_, fun unlocked idle => ?_⟩ <;>
        rw [if_neg (ne_true_of_eq_false unlocked)]
      · rw [if_pos going]
      · rw [if_neg (Classical.not_not.2 idle)]
  case noFormat => exact ⟨exec_formatStart_of_none none, exec_formatDone_of_none none⟩
  case formats =>
    refine ⟨exec_formatStart_of_waiting found format, fun a n' u v w first drained room ha hu hv hn hw =>
      exec_formatStart_of_drained found format first drained room a ha u v w n' hu hv hn hw, fun first => ?_, fun u going hu => ?_⟩
    · rw [exec_formatDone_of_some found format _ rfl, if_pos first]
    · rw [exec_formatDone_of_some found format u hu, if_neg (ne_false_of_eq_true going)]
      exact ⟨fun gone => by rw [gone]; rfl, fun c there => by rw [there]; rfl⟩
  case registers =>
    obtain ⟨f, row⟩ := exec_nsRow value s e mem
    refine ⟨fun out => ?_, fun decoded live full => ?_, fun decoded live room idle => ?_,
      fun decoded live room go same free other gone => ?_⟩
    · rw [row, State.nsOp_of_out value e.2 f out]
    · rw [row, State.nsOp_of_full value e.2 f decoded live full]
    · rw [row, State.nsOp_of_idle value e.2 f decoded live room u hu idle]
    · simp only [List.mem_cons, List.not_mem_nil, or_false] at mem
      rcases mem with rfl | rfl | rfl | rfl
      · exact absurd rfl other
      · exact exec_namespaceRegGrow_of_none hu decoded live room go free rfl same fun n found => (gone n found).2
      · exact exec_namespaceRegDelete_of_none hu decoded live room go free rfl same fun n found => (gone n found).2
      · refine exec_namespaceRegRead_of_none hu decoded live room go free rfl same ?_
        cases found : u.nsOf (u.rd Reg.FTL_NS_ACC_NSID) with
        | none => rfl
        | some n => exact absurd rfl (gone n found).1
  case refused =>
    rcases refusal with ⟨rfl, refused⟩ | ⟨ok, high, rfl⟩ | ⟨ok, low, taken, rfl⟩ | ⟨ok, low, new, unbound, rfl⟩
    · exact exec_namespaceRegCreate_of_refused hu decoded live room go free hid same refused
    · rw [exec_namespaceRegCreate_of_accepted hu decoded live room go free hid same ok nsid hn _ rfl _ rfl, if_pos high]; rfl
    · rw [exec_namespaceRegCreate_of_accepted hu decoded live room go free hid same ok nsid hn _ rfl _ rfl, if_neg (Nat.not_lt.2 low),
        if_pos taken]; rfl
    · rw [exec_namespaceRegCreate_of_accepted hu decoded live room go free hid same ok nsid hn _ rfl _ rfl, if_neg (Nat.not_lt.2 low),
        if_neg (Classical.not_not.2 new), unbound]; rfl
  case created =>
    rw [exec_namespaceRegCreate_of_accepted hu decoded live room go free hid same ok nsid hn home hh _ rfl, if_neg (Nat.not_lt.2 low),
      if_neg (Classical.not_not.2 new), bound, hw]; rfl
  case grow =>
    rw [exec_namespaceRegGrow_of_some hu decoded live room go free hid found same stays nsze hz _ rfl]
    refine ⟨fun small => by rw [if_pos small]; rfl, fun more full => ?_, fun w more fits hw => ?_⟩ <;> rw [if_neg (Nat.not_le.2 more)]
    · rw [if_pos full]; rfl
    · rw [if_neg (ne_false_of_eq_true fits), hw]; rfl
  case delete =>
    rw [exec_namespaceRegDelete_of_some hu decoded live room go free hid found same stays _ rfl]
    refine ⟨fun locked => by rw [if_pos locked]; rfl, fun w unlocked hw => ?_⟩
    rw [if_neg (ne_true_of_eq_false unlocked), hw]

end Sys2Proof.Machine
end
/-! ## The sump, its mirror and its regions (O46 to O48) -/

section
namespace Sys2Proof.Machine

/-! ### Grants, floats and the hold-up bank -/

/-- Two steps that agree everywhere fold alike. -/
theorem foldl_eq_of_step_eq {α β : Type} (f g : β → α → β) {l : List α} {b : β} (same : ∀ b a, f b a = g b a) :
    l.foldl f b = l.foldl g b := by
  rw [show f = g from funext fun b => funext (same b)]

/-- IUs that a command zeroes as a whole. -/
def State.zeroed (s : State) (c : Cmd) : Nat :=
  if c.sqe.opcode = 8 then (wholeIus (s.nsOr c.sqe.nsid) c.sqe.slba c.sqe.nlb).length else 0

theorem exec_sumpReservationGrant_of_none (id : Nat) (s : State) (none : s.cmdOf id = none) :
    exec (.sumpReservationGrant id) s = .next s.settle := by
  show execSumpReservationGrant id s = _
  simp only [execSumpReservationGrant, settled, none]

theorem exec_sumpReservationGrant_of_some (id : Nat) (c d : Cmd) (s u : State) (some : s.cmdOf id = some c)
    (hd : d = { c with slots := s.slotsOf c })
    (hu : u = (({ s with sump := { s.sump with waiting := s.sump.waiting.filter (· != id) } } : State).updCmd id fun _ => d).reserve
      (s.slotsOf c)) : exec (.sumpReservationGrant id) s =
    .next (if c.stage ≠ .waitSlots ∨ s.firstWaiting id c = false ∨ s.mayGrant (s.slotsOf c) = false ∨ s.markersWait (s.zeroed c) = true then s
      else if c.sqe.opcode = 8 then u.zeroRange id d else u.fetchReady id d).settle := by
  have opcode : d.sqe.opcode = c.sqe.opcode := by rw [hd]
  show execSumpReservationGrant id s = _
  simp only [execSumpReservationGrant, settled, some, bne_iff_ne, beq_iff_eq, Bool.or_eq_true, Bool.not_eq_true', or_assoc, ← hd, ← hu]
  rfl

theorem exec_floatRecompute (s t u : State) (p : Nat) (ht : t = s.updateRows) (hp : p = t.fPlsa / floatUnit)
    (hu : u = (t.wr Reg.SUMP_RATE_R_SAVE (t.rSave / 100000000)).wr Reg.SUMP_RATE_F_PLSA (min 65535 p)) : exec .floatRecompute s =
    .next (if s.st < stRECOVER ∨ stSERVE < s.st ∨ s.sump.save ≠ none ∨ s.sump.saved ≠ none then s
      else (u.setFloat (min u.floatUsed (min p (u.fHold / floatUnit)))).protectionNotices s).settle := by
  show execFloatRecompute s = _
  simp only [execFloatRecompute, settled, Bool.or_eq_true, decide_eq_true_eq, Option.isSome_iff_ne_none, or_assoc, ← ht, ← hp, ← hu]

/-- A field that neither a cistern, a channel nor the hold-up configuration shows: the energy that a save needs does not depend on it. -/
theorem State.served_wr (s : State) (g : Field) (v : Nat) (apart : ∀ c < 48, (Reg.PAR_CSTATE_STATE.at c).key ≠ g.key) :
    (s.wr g v).served = s.served :=
  List.filter_congr fun c mem => by
    simp only [State.inService, State.cst]
    rw [s.rd_wr_ne g _ v (apart c (List.mem_range.1 mem))]

theorem State.rSave_wr (s : State) (g : Field) (v : Nat) (apart : ∀ c < 48, (Reg.PAR_CSTATE_STATE.at c).key ≠ g.key)
    (rate : Reg.SUMP_SAVE_CFG_DIE_RATE.key ≠ g.key) : (s.wr g v).rSave = s.rSave := by
  simp only [State.rSave, State.saveK, State.saveCisterns, s.served_wr g v apart, s.rd_wr_ne g _ v rate]
  rfl

theorem State.pHold_wr (s : State) (g : Field) (v : Nat) (apart : ∀ n < 48, (Reg.SLOT_STATUS_STATE.at n).key ≠ g.key)
    (ctlrs : Reg.SUMP_HOLDUP_CFG_CTLRS.key ≠ g.key) (cistern : Reg.SUMP_HOLDUP_CFG_P_CIST.key ≠ g.key) : (s.wr g v).pHold = s.pHold := by
  simp only [State.pHold, s.rd_wr_ne g _ v ctlrs, s.rd_wr_ne g _ v cistern]
  congr 2
  refine List.countP_congr fun n mem => ?_
  simp only [State.chState]
  rw [s.rd_wr_ne g _ v (apart n (List.mem_range.1 mem))]
  rfl

theorem State.eReq_wr_energy (s : State) (v f : Nat) : (s.wr Reg.SUMP_ENERGY_E_AVAIL v).eReq f = s.eReq f := by
  simp only [State.eReq]
  rw [s.rSave_wr _ v (by decide) (by decide), s.pHold_wr _ v (by decide) (by decide) (by decide)]

theorem exec_holdupSample (mv v : Int) (on : List Nat) (f m : Nat) (r s t u w x : State)
    (hs : s = { r with shelf := { r.shelf with peerOn := on } })
    (hv : v = max (-32768) (min 32767 (mv * s.rd Reg.SUMP_HOLDUP_CFG2_DIV / 1000)))
    (ht : t = s.wr Reg.SUMP_BANK_VBANK (v % 65536).toNat) (hf : f = t.rd Reg.SUMP_CFG_FLOAT * floatUnit)
    (hm : m = if t.rd Reg.SUMP_HOLDUP_CFG_CAP = 0 then moUnconfigured else if mv < -100 then moReversed
      else if t.enough f = true then moCharged else if t.is Reg.SUMP_STATUS_EVER_CHARGED = true then moLow else moCharging)
    (hu : u = t.wr Reg.SUMP_ENERGY_E_AVAIL (min 65535 (t.eAvail / 200000000))) (hw : w = u.wr Reg.SUMP_ENERGY_E_REQ (u.eReq f))
    (hx : x = if m = moCharged then (w.wr Reg.SUMP_STATUS_MONITOR m).wr Reg.SUMP_STATUS_EVER_CHARGED 1
      else w.wr Reg.SUMP_STATUS_MONITOR m) : exec (.holdupSample mv on) r =
    .next ((if m ≠ w.rd Reg.SUMP_STATUS_MONITOR ∧ (m = moLow ∨ m = moReversed) then
      x.raise sevUncorrected .sump Reg.SUMP_STATUS_MONITOR.off noInstance m else x).protectionNotices s).settle := by
  show execHoldupSample mv on r = _
  have need : u.eReq f = t.eReq f := by rw [hu, t.eReq_wr_energy]
  rw [need] at hw
  simp only [execHoldupSample, settled, ← hs, ← hv, ← ht, ← hf, beq_iff_eq, ← hm, ← hu, ← hw, ← hx, Bool.or_eq_true]
  by_cases same : m = w.rd Reg.SUMP_STATUS_MONITOR
  · rw [if_pos same, if_neg fun changed => changed.1 same]
  · rw [if_neg same]
    simp only [ne_eq, same, not_false_eq_true, true_and]

/-! ### The end of a save -/

theorem exec_saveComplete_of_none (now : Nat) (s : State) (none : s.sump.save = none) : exec (.saveComplete now) s = .next s.settle := by
  show execSaveComplete now s = _
  simp only [execSaveComplete, settled, none]

theorem exec_saveComplete_of_some (now start : Nat) (cause : SaveCause) (s t u : State) (some : s.sump.save = some (cause, start))
    (ht : t = s.atLeast now) (hu : u = if t.sump.saveBad = true then t.saveFailed cause else t.saveDone cause start) :
    exec (.saveComplete now) s = .next (if s.savePrograms = true then s
      else u.prim.waiting.elim u fun k => u.resetSaved k (u.rd Reg.SUMP_LAST_SAVE_RESULT == 1)).settle := by
  show execSaveComplete now s = _
  simp only [execSaveComplete, settled, some, ← ht, ← hu]
  cases waiting : u.prim.waiting <;> simp only [Option.elim]

theorem exec_saveTriggerCleared_of_power (s : State) (power : s.sump.saved = some .pwrfail ∨ s.sump.saved = some .undervoltage) :
    exec .saveTriggerCleared s =
      .next (({ s with sump := { s.sump with pwrfailLow := false, inputLow := false } } : State).resetNow .softFull).settle := by
  show execSaveTriggerCleared s = _
  rcases power with power | power <;> simp only [execSaveTriggerCleared, settled, power]

theorem exec_saveTriggerCleared_of_other (s : State) (other : s.sump.saved ≠ some .pwrfail) (above : s.sump.saved ≠ some .undervoltage) :
    exec .saveTriggerCleared s = .next s.settle := by
  show settled _ = _
  simp only [settled]

theorem exec_saveLostClear (value : W32) (s u : State) (hu : u = s.writeWord Reg.SUMP_STATUS_SAVE_LOST.off value) :
    exec (.saveLostClear value) s = .next (if s.decodeOf .sump = .all ∧ s.is (fResetting .sump) = false ∧ value.toNat / 128 % 2 = 1 then
      (u.wr Reg.SUMP_STATUS_SAVE_LOST 0).putDesc fun d => { d with saveLost := false } else u).settle := by
  show execSaveLostClear value s = _
  simp only [execSaveLostClear, settled, ← hu, Bool.and_eq_true, beq_iff_eq, Bool.not_eq_true', and_assoc, Nat.reducePow]

/-- Settles O46, one command at a time. -/
theorem sumpGrantsMonitorsAndSaves : Obligations.SumpGrantsMonitorsAndSaves := by
  refine ⟨fun id s => ⟨exec_sumpReservationGrant_of_none id s, fun c d zeroed u some hd hz hu => ?grant⟩,
    fun s => ⟨fun out => ?noFloat, fun p t u low high save saved ht hp hu => ?float⟩, exec_holdupSample,
    fun s => ⟨rfl, rfl, rfl, rfl⟩, fun now s => ⟨fun idle => ?noSave, fun start cause t u some done ht hu => ?save⟩,
    fun s => ⟨exec_saveTriggerCleared_of_power s, exec_saveTriggerCleared_of_other s⟩, fun value s u hu => ?lost⟩
  case grant =>
    have whole : s.zeroed c = zeroed := hz.symm
    rw [exec_sumpReservationGrant_of_some id c d s u some hd hu, whole]
    refine ⟨fun waits => by rw [if_pos waits], fun stage first grant room => ?_⟩
    have ready : ¬(c.stage ≠ .waitSlots ∨ s.firstWaiting id c = false ∨ s.mayGrant (s.slotsOf c) = false ∨ s.markersWait zeroed = true) := by
      simp [stage, first, grant, room]
    rw [if_neg ready]
    exact ⟨fun zeroes => by rw [if_pos zeroes], fun data => by rw [if_neg data]⟩
  case noFloat => rw [exec_floatRecompute s _ _ _ rfl rfl rfl, if_pos out]
  case float =>
    have live : ¬(s.st < stRECOVER ∨ stSERVE < s.st ∨ s.sump.save ≠ none ∨ s.sump.saved ≠ none) := by
      simp [save, saved, low, high]
    rw [exec_floatRecompute s t u p ht hp hu, if_neg live]
  case noSave =>
    cases save : s.sump.save with
    | none => exact exec_saveComplete_of_none now s save
    | some e =>
      have going : s.savePrograms = true := idle.resolve_left (by simp [save])
      rw [exec_saveComplete_of_some now e.2 e.1 s _ _ save rfl rfl, if_pos going]
  case save =>
    rw [exec_saveComplete_of_some now start cause s t u some ht hu, if_neg (ne_true_of_eq_false done)]
    exact ⟨fun none => by rw [none]; rfl, fun k waiting => by rw [waiting]; rfl⟩
  case lost =>
    rw [exec_saveLostClear value s u hu]
    refine ⟨fun decoded live one => by rw [if_pos ⟨decoded, live, one⟩], fun out => ?_⟩
    rw [if_neg]
    rintro ⟨decoded, live, one⟩
    rcases out with blind | resetting | zero
    · exact blind decoded
    · exact ne_true_of_eq_false live resetting
    · omega

/-! ### The mirror, single mode and the shutdown -/

theorem exec_mirrorAckReceive_of_region (cmd : Nat) (s : State) (region : 4294967296 ≤ cmd) : exec (.mirrorAckReceive cmd) s =
    .next (if (s.qpOf (cmd - 4294967296)).mirrorPend = 0 then s else s.regionMirrored (cmd - 4294967296) 1).settle := by
  show execMirrorAckReceive cmd s = _
  simp only [execMirrorAckReceive, settled, Nat.reducePow, region, if_true, beq_iff_eq]

section
variable {cmd : Nat} {s : State} (write : cmd < 4294967296)
include write

theorem exec_mirrorAckReceive_of_none (none : s.cmdOf cmd = none) : exec (.mirrorAckReceive cmd) s = .next s.settle := by
  show execMirrorAckReceive cmd s = _
  simp only [execMirrorAckReceive, settled, Nat.reducePow, Nat.not_le.2 write, if_false, none]

theorem exec_mirrorAckReceive_of_some (c : Cmd) (u : State) (some : s.cmdOf cmd = some c)
    (hu : u = s.updCmd cmd fun c => { c with mirrors := c.mirrors - 1 }) : exec (.mirrorAckReceive cmd) s =
    .next (if c.stage ≠ .waitMirror ∨ c.mirrors = 0 then s
      else if c.mirrors = 1 ∧ c.lost = [] then u.writeDone cmd nvOk else u).settle := by
  show execMirrorAckReceive cmd s = _
  simp only [execMirrorAckReceive, settled, Nat.reducePow, Nat.not_le.2 write, if_false, some, ← hu, Bool.or_eq_true, bne_iff_ne,
    beq_iff_eq, Bool.and_eq_true, List.isEmpty_iff]

end

theorem exec_mirrorFrameReceive_of_out (f : MirrorFrame) (s : State) (out : s.partner = none ∨ s.st < stRECOVER ∨ stSERVE < s.st) :
    exec (.mirrorFrameReceive f) s = .next s.settle := by
  show execMirrorFrameReceive f s = _
  simp only [execMirrorFrameReceive, settled, Bool.or_eq_true, decide_eq_true_eq, Option.isNone_iff_eq_none, or_assoc]
  rw [if_pos out]

/-- What the last write times and the reservations of a mirror frame do to a namespace: nothing where this controller owns it. -/
def State.updForeign (s : State) (nsid : Nat) (f : Ns → Ns) : State :=
  (s.nsOf nsid).elim s fun n => if s.owns n = true then s else s.putNs nsid (f n)

section
variable (f : MirrorFrame) (s : State) (p : Nat) (some : s.partner = some p) (low : stRECOVER ≤ s.st) (high : s.st ≤ stSERVE)
  (vs : List Version) (new kept : List Recent) (t u v w x y : State)
  (hvs : vs = (s.sump.peerVersions ++ f.versions.map (mirrorVersion s)).filter (fun v => !f.released.contains v.order))
  (hnew : new = f.recents.map (fun (r : MirrorRecent) =>
    { host := r.host, gen := r.gen, tid := r.tid, crc := r.crc, dw0 := r.dw0, status := r.status
      st := if r.final then 2 else 1, prd := r.prd, expiry := s.tm.mono / us + r.left : Recent }))
  (hkept : kept = s.prd.mirrored.filter (fun e => decide (s.tm.mono / us < e.expiry) &&
    !(new.any fun r => r.host == e.host && r.gen == e.gen && r.tid == e.tid)))
  (ht : t = { s with
    sump := { s.sump with peerVersions := vs, peerSlots := (vs.map fun (v : Version) => v.sectors.length).sum
                          peerSeq := max s.sump.peerSeq f.seq, peerLost := f.lost.getD s.sump.peerLost }
    prd := { s.prd with mirrored := kept ++ new } })
  (hu : u = f.regions.foldl (fun s r => s.mirrorRegion r) t)
  (hv : v = f.reservations.foldl (fun (s : State) h => s.updForeign h.nsid fun n => n.withResv h) u)
  (hw : w = f.lastWrites.foldl (fun (s : State) w => s.updForeign w.1 fun n => { n with lastWrite := w.2 }) v)
  (hx : x = f.records.foldl (fun (s : State) r => s.applyPeerRec (s.partner.getD 0) r) w)
  (hy : y = if f.copyEnd = true then
    ({ x with sump := { x.sump with peerStale := false } } : State).wr Reg.SUMP_STATUS_MIRROR_STALE 0 else x)
include some low high hvs hnew hkept ht hu hv hw hx hy

theorem exec_mirrorFrameReceive_of_partner : exec (.mirrorFrameReceive f) s =
    .next (f.cmd.elim y fun k => y.toPartner (.mirrorAck k)).settle := by
  have inside : ((s.partner.isNone || s.st < stRECOVER) || stSERVE < s.st) = false := by
    simp [some, low, high]
  show execMirrorFrameReceive f s = _
  simp only [execMirrorFrameReceive, settled, inside, Bool.false_eq_true, if_false, ← hvs, ← hnew, ← hkept, ← ht, ← hu]
  rw [foldl_eq_of_step_eq _ (fun (s : State) (h : Handover) => s.updForeign h.nsid fun n => n.withResv h), ← hv,
    foldl_eq_of_step_eq _ (fun (s : State) (w : Nat × Nat) => s.updForeign w.1 fun n => { n with lastWrite := w.2 }), ← hw]
  · simp only [← hx, ← hy]
    cases f.cmd <;> rfl
  · intro s w
    unfold State.updForeign
    cases s.nsOf w.1 <;> rfl
  · intro s h
    unfold State.updForeign
    cases s.nsOf h.nsid <;> rfl

end

theorem exec_mirrorCopybackDone (s t u : State)
    (ht : t = ({ s with sump := { s.sump with copyback := false, secured := false } } : State).wr Reg.SUMP_STATUS_SINGLE 0)
    (hu : u = (t.putDesc fun d => { d with single := false }).mirrorAll) : exec .mirrorCopybackDone s =
    .next (if s.serving = false ∨ s.is Reg.SUMP_STATUS_SINGLE = false ∨ s.partnerServes = false ∨ s.sump.copyback = false then s
      else u.served.foldl (fun (s : State) c => s.epochSet c (Tab.getD c 0 s.pod.epochs + 1) 3) u).settle := by
  show execMirrorCopybackDone s = _
  simp only [execMirrorCopybackDone, settled, Bool.or_eq_true, Bool.not_eq_true', or_assoc, ← ht, ← hu]

theorem exec_singleModeEntry (s : State) : exec .singleModeEntry s =
    .next (if s.sump.secured = false ∨ s.fencedSelf = true then s else s.enterSingle).settle := by
  show execSingleModeEntry s = _
  simp only [execSingleModeEntry, settled, Bool.or_eq_true, Bool.not_eq_true']

theorem exec_suspend (s : State) : exec .suspend s = .next (if s.partner = none ∨ s.podTalks = false then s
    else (({ s with sump := { s.sump with peerStale := true } } : State).wr Reg.SUMP_STATUS_MIRROR_STALE 1).toPartner .suspendAck).settle := by
  show execSuspend s = _
  simp only [execSuspend, settled, Bool.or_eq_true, Bool.not_eq_true', Option.isNone_iff_eq_none]

theorem exec_suspendAck (s : State) : exec .suspendAck s = .next (if s.sump.securing = true then
    ({ s with sump := { s.sump with securing := false, secured := true } } : State) else s).settle := rfl

theorem exec_shutdown (value : W32) (s u : State) (hu : u = s.writeWord offSumpCtl value) : exec (.shutdown value) s =
    .next (if s.decodeOf .sump ≠ .all ∨ value.toNat % 2 = 0 ∨ value.toNat / 65536 ≠ 0x9648 then u
      else if u.serving = false then u.wr Reg.SUMP_STATUS_SHUT_RESULT 3
      else if u.sump.shutting = true ∨ u.sump.shutDown = true then u
      else if ∃ e ∈ u.sump.regions, e.2.st = 1 then u.wr Reg.SUMP_STATUS_SHUT_RESULT 2
      else ({ u with sump := { u.sump with shutting := true } } : State).composeAll.assignAll.padStripes).settle := by
  show execShutdown value s = _
  simp only [execShutdown, settled, ← hu, Bool.or_eq_true, bne_iff_ne, beq_iff_eq, Bool.not_eq_true', or_assoc, List.any_eq_true]

theorem exec_shutdownDone (s : State) : exec .shutdownDone s =
    .next (if s.sump.shutting = false then s
      else if s.ftl.versions ≠ [] ∨ s.ftl.asm ≠ [] ∨ s.ftl.fly ≠ [] then s.composeAll.assignAll.padStripes
      else if s.ftl.flushing ≠ none then s
      else if s.mapPending = true then s.beginFlush
      else (((({ s with sump := { s.sump with shutting := false, shutDown := true } } : State).putDesc fun d =>
        { d with st := dsClean, run := false }).wr Reg.SUMP_STATUS_SHUT_DONE 1).wr Reg.SUMP_STATUS_SHUT_RESULT 1)).settle := by
  show execShutdownDone s = _
  simp only [execShutdownDone, settled, Bool.or_eq_true, Bool.not_eq_true', List.isEmpty_eq_false_iff, or_assoc, Option.isSome_iff_ne_none]

theorem exec_forceTakeover (value : W32) (s u : State) (hu : u = s.writeWord offSumpCtl value) : exec (.forceTakeover value) s =
    .next (if s.decodeOf .sump ≠ .all ∨ value.toNat / 2 % 2 = 0 ∨ value.toNat / 65536 ≠ 0x9648 then u
      else if s.auditFull = true then u.setErr .cry 9
      else if (u.mayTakeOver && u.sump.peerStale) = true then (u.takeOver.tenantEvent none (0, 3)).audited offSumpCtl value false
      else u.audited offSumpCtl value true).settle := by
  show execForceTakeover value s = _
  simp only [execForceTakeover, settled, ← hu, Bool.or_eq_true, bne_iff_ne, beq_iff_eq, or_assoc]
  cases (u.mayTakeOver && u.sump.peerStale) <;> rfl

/-- Settles O47, one command at a time. -/
theorem mirrorSingleModeAndShutdown : Obligations.MirrorSingleModeAndShutdown := by
  refine ⟨fun cmd s => ⟨fun region idle => ?regionIdle, fun region due => ?region, exec_mirrorAckReceive_of_none,
      fun c u write some hu => ?write⟩,
    fun f s => ⟨exec_mirrorFrameReceive_of_out f s, fun p vs new kept t u v w x y some low high hvs hnew hkept ht hu hv hw hx hy => ?frame⟩,
    fun s => ⟨fun secured own => ?single, fun other => ?noSingle, fun out => ?noSuspend, fun some talks => ?suspend,
      fun securing => ?suspended, fun idle => ?noAck⟩,
    fun s => ⟨fun out => ?noCopyback, fun t u serving single partner copyback ht hu => ?copyback⟩,
    fun value s u hu => ⟨fun ignored => ?noTakeover, fun decoded set key full => ?auditFull, fun decoded set key room => ?takeover,
      fun ignored => ?noShutdown, fun decoded set key => ?shutdown⟩, fun s => ⟨fun idle => ?noStop, fun going left => ?left,
      fun going versions asm fly => ?stop⟩⟩
  case regionIdle => rw [exec_mirrorAckReceive_of_region cmd s region, if_pos idle]
  case region => rw [exec_mirrorAckReceive_of_region cmd s region, if_neg due]
  case write =>
    rw [exec_mirrorAckReceive_of_some write c u some hu]
    refine ⟨fun other => by rw [if_pos other], fun stage last kept => ?_, fun stage waits more => ?_⟩
    · rw [if_neg (not_or.2 ⟨Classical.not_not.2 stage, by omega⟩), if_pos ⟨last, kept⟩]
    · rw [if_neg (not_or.2 ⟨Classical.not_not.2 stage, waits⟩), if_neg fun done => more.elim (· done.1) (· done.2)]
  case frame =>
    rw [exec_mirrorFrameReceive_of_partner f s p some low high vs new kept t u v w x y hvs hnew hkept ht hu hv hw hx hy]
    exact ⟨fun none => by rw [none]; rfl, fun k named => by rw [named]; rfl⟩
  case single => rw [exec_singleModeEntry, if_neg (not_or.2 ⟨ne_false_of_eq_true secured, ne_true_of_eq_false own⟩)]
  case noSingle => rw [exec_singleModeEntry, if_pos other]
  case noSuspend => rw [exec_suspend, if_pos out]
  case suspend => rw [exec_suspend, if_neg (not_or.2 ⟨some, ne_false_of_eq_true talks⟩)]
  case suspended => rw [exec_suspendAck, if_pos securing]
  case noAck => rw [exec_suspendAck, if_neg (ne_true_of_eq_false idle)]
  case noCopyback => rw [exec_mirrorCopybackDone s _ _ rfl rfl, if_pos out]
  case copyback =>
    have ready : ¬(s.serving = false ∨ s.is Reg.SUMP_STATUS_SINGLE = false ∨ s.partnerServes = false ∨ s.sump.copyback = false) := by
      simp [serving, single, partner, copyback]
    rw [exec_mirrorCopybackDone s t u ht hu, if_neg ready]
  case noTakeover => rw [exec_forceTakeover value s u hu, if_pos ignored]
  case auditFull => rw [exec_forceTakeover value s u hu, if_neg (not_or.2 ⟨Classical.not_not.2 decoded, by omega⟩), if_pos full]
  case takeover =>
    rw [exec_forceTakeover value s u hu, if_neg (not_or.2 ⟨Classical.not_not.2 decoded, by omega⟩), if_neg (ne_true_of_eq_false room)]
    exact ⟨fun bad => by rw [if_neg (ne_true_of_eq_false bad)], fun good => by rw [if_pos good]⟩
  case noShutdown =>
    rw [exec_shutdown value s u hu]
    by_cases keyed : s.decodeOf .sump ≠ .all ∨ value.toNat % 2 = 0 ∨ value.toNat / 65536 ≠ 0x9648
    · rw [if_pos keyed]
    · obtain ⟨decoded, even, key⟩ := not_or.1 keyed |>.imp_right not_or.1
      obtain ⟨serving, begun⟩ := ((ignored.resolve_left decoded).resolve_left even).resolve_left key
      rw [if_neg keyed, if_neg (ne_false_of_eq_true serving), if_pos begun]
  case shutdown =>
    rw [exec_shutdown value s u hu, if_neg (not_or.2 ⟨Classical.not_not.2 decoded, by omega⟩)]
    refine ⟨fun out => by rw [if_pos out], fun serving first stays valid => ?_, fun serving first stays none => ?_⟩ <;>
      rw [if_neg (ne_false_of_eq_true serving), if_neg (not_or.2 ⟨ne_true_of_eq_false first, ne_true_of_eq_false stays⟩)]
    · rw [if_pos valid]
    · rw [if_neg fun ⟨e, mem, valid⟩ => none e mem valid]
  case noStop => rw [exec_shutdownDone, if_pos idle]
  case left => rw [exec_shutdownDone, if_neg (ne_false_of_eq_true going), if_pos left]
  case stop =>
    rw [exec_shutdownDone, if_neg (ne_false_of_eq_true going), if_neg (by simp [versions, asm, fly])]
    refine ⟨fun flushing => by rw [if_pos flushing], fun idle pending => ?_, fun idle done => ?_⟩ <;> rw [if_neg (Classical.not_not.2 idle)]
    · rw [if_pos pending]
    · rw [if_neg (ne_true_of_eq_false done)]

/-! ### Remote regions -/

section
variable (value : W32) (bit : Nat) (f : State → Nat → State) {s u : State} (hu : u = s.writeWord offRegionAcc value)
include hu

theorem State.regionAccess_of_idle (idle : u.decodeOf .sump ≠ .all ∨ u.begins .sump = false ∨ value.toNat / 2 ^ bit % 2 = 0 ∨
    u.is Reg.SUMP_REGION_STATUS_BUSY = true) : s.regionAccess value bit f = u := by
  simp only [State.regionAccess, ← hu, Bool.or_eq_true, bne_iff_ne, Bool.not_eq_true', beq_iff_eq, or_assoc]
  rw [if_pos idle]

theorem State.regionAccess_runs (decoded : u.decodeOf .sump = .all) (runs : u.begins .sump = true) (set : value.toNat / 2 ^ bit % 2 = 1)
    (free : u.is Reg.SUMP_REGION_STATUS_BUSY = false) : s.regionAccess value bit f = f u (value.toNat % 64) := by
  simp [State.regionAccess, ← hu, decoded, runs, set, free]

end

/-- The rows of the region registers, and their trigger bits. -/
def regionRows (value : W32) : List (Instr × Nat) :=
  [(Instr.regionRegister value, 30), (.regionDescriptorRead value, 31), (.regionRevoke value, 29)]

theorem exec_regionRow (value : W32) (s : State) (e : Instr × Nat) (mem : e ∈ regionRows value) :
    ∃ f : State → Nat → State, exec e.1 s = .next (s.regionAccess value e.2 f).settle := by
  simp only [regionRows, List.mem_cons, List.not_mem_nil, or_false] at mem
  rcases mem with rfl | rfl | rfl <;> exact ⟨_, rfl⟩

section
variable {value : W32} {i : Nat} {s u : State} (hu : u = s.writeWord offRegionAcc value) (decoded : u.decodeOf .sump = .all)
  (runs : u.begins .sump = true) (free : u.is Reg.SUMP_REGION_STATUS_BUSY = false) (hi : i = value.toNat % 64)
include hu decoded runs free hi

theorem exec_regionRegister_refused (set : value.toNat / 2 ^ 30 % 2 = 1) (n : Nat) (hn : n = u.rd Reg.SUMP_REGION_DATA1_LEN)
    (refused : ((u.regionOf i).st ≠ rgInvalid ∨ Tab.has i u.sump.peerRegions = true) ∨ (n = 0 ∨ 16384 < n) ∨ u.regionRoom n = none) :
    exec (.regionRegister value) s = .next (u.regionResult i
      (if (u.regionOf i).st ≠ rgInvalid ∨ Tab.has i u.sump.peerRegions = true then rrInUse else if n = 0 ∨ 16384 < n then rrBadLen
        else rrNoSpace)).settle := by
  show settled (s.regionAccess value 30 _) = _
  rw [State.regionAccess_runs value 30 _ hu decoded runs set free, ← hi]
  simp only [settled, ← hn, Bool.or_eq_true, bne_iff_ne, beq_iff_eq, decide_eq_true_eq]
  by_cases used : (u.regionOf i).st ≠ rgInvalid ∨ Tab.has i u.sump.peerRegions = true
  · rw [if_pos used, if_pos used]
  · rw [if_neg used, if_neg used]
    by_cases bad : n = 0 ∨ 16384 < n
    · rw [if_pos bad, if_pos bad]
    · rw [if_neg bad, if_neg bad, (refused.resolve_left used).resolve_left bad]

theorem exec_regionRegister_placed (set : value.toNat / 2 ^ 30 % 2 = 1) (n : Nat) (hn : n = u.rd Reg.SUMP_REGION_DATA1_LEN)
    (new : (u.regionOf i).st = rgInvalid) (unused : Tab.has i u.sump.peerRegions = false) (positive : n ≠ 0) (few : n ≤ 16384)
    (off gen t key : Nat) (room : u.regionRoom n = some off) (v w : State) (hg : gen = ((u.regionOf i).gen + 1) % 256)
    (ht : t = u.rd Reg.SUMP_REGION_DATA0_TENANT) (hk : key = gen + 256 * i + 16384 * u.freeVal 18)
    (hv : v = (((u.freeNext.updRegion i fun _ =>
      { st := rgValid, tenant := t, write := u.is Reg.SUMP_REGION_DATA0_REMOTE_WRITE
        read := u.is Reg.SUMP_REGION_DATA0_REMOTE_READ, len := n * 65536, rkey := key, off := off, gen := gen }).occupy
          (16 * n)).wr Reg.SUMP_REGION_DATA2_R_KEY key).wr Reg.SUMP_REGION_DATA3_OFFSET off)
    (hw : w = if v.dual = true then v.toPartner (.mirror { regions := [v.regionRecord i 0 []] }) else v) :
    exec (.regionRegister value) s = .next (((w.grantTenant t).regionResult i rrOk).tenantEvent (some t) (7, 1)).settle := by
  show settled (s.regionAccess value 30 _) = _
  rw [State.regionAccess_runs value 30 _ hu decoded runs set free, ← hi]
  subst hk
  have fresh : ((u.regionOf i).st != rgInvalid || Tab.has i u.sump.peerRegions) = false := by simp [new, unused]
  have good : (n == 0 || decide (16384 < n)) = false := by simp [positive, few]
  simp only [settled, ← hn, ← ht, ← hg, fresh, good, room, Bool.false_eq_true, if_false, Nat.reducePow, ← hv, ← hw]

theorem exec_regionDescriptorRead_of_runs (set : value.toNat / 2 ^ 31 % 2 = 1) (r : Region) (v : State)
    (hr : r = if (u.regionOf i).st = rgInvalid then {} else u.regionOf i)
    (hv : v = ((u.wr Reg.SUMP_REGION_DATA0_TENANT r.tenant).wrB Reg.SUMP_REGION_DATA0_REMOTE_WRITE r.write).wrB
      Reg.SUMP_REGION_DATA0_REMOTE_READ r.read) : exec (.regionDescriptorRead value) s =
    .next ((((v.wr Reg.SUMP_REGION_DATA1_LEN (r.len / 65536)).wr Reg.SUMP_REGION_DATA2_R_KEY
      r.rkey).wr Reg.SUMP_REGION_DATA3_OFFSET r.off).regionResult i rrOk).settle := by
  show settled (s.regionAccess value 31 _) = _
  rw [State.regionAccess_runs value 31 _ hu decoded runs set free, ← hi]
  simp only [settled, beq_iff_eq, ← hr, ← hv]

theorem exec_regionRevoke_of_runs (set : value.toNat / 2 ^ 29 % 2 = 1) : exec (.regionRevoke value) s =
    .next (if (u.regionOf i).st ≠ rgValid then u.regionResult i rrOk
      else (((u.updRegion i fun r => { r with st := rgRevoking, revokedAt := u.tm.mono }).wr Reg.SUMP_REGION_STATUS_BUSY 1).wr
        Reg.SUMP_REGION_STATUS_DRAIN_TIMEOUT 0).regionResult i rrOk).settle := by
  show settled (s.regionAccess value 29 _) = _
  rw [State.regionAccess_runs value 29 _ hu decoded runs set free, ← hi]
  simp only [settled, bne_iff_ne]

end

theorem exec_regionDrainEnd (index : Fin 64) (s : State) : exec (.regionDrainEnd index) s =
    .next (if (s.regionOf index.val).st ≠ rgRevoking ∨ (s.regionOf index.val).draining ≠ [] then s else s.regionEnd index.val).settle := by
  show execRegionDrainEnd index s = _
  simp only [execRegionDrainEnd, settled, Bool.or_eq_true, bne_iff_ne, Bool.not_eq_true', List.isEmpty_eq_false_iff]

theorem exec_regionRevokeTimeout (index : Fin 64) (s : State) (r : Region) (hr : r = s.regionOf index.val) :
    exec (.regionRevokeTimeout index) s = .next (if r.st ≠ rgRevoking ∨ r.draining = [] then s
      else ((r.draining.foldl (fun (s : State) q => s.qpFail q)
        (s.atLeast (r.revokedAt + s.rd Reg.SUMP_REGION_CFG_REVOKE_TIMEOUT * ms))).wr
          Reg.SUMP_REGION_STATUS_DRAIN_TIMEOUT 1).updRegion index.val fun r => { r with draining := [] }).settle := by
  show execRegionRevokeTimeout index s = _
  simp only [execRegionRevokeTimeout, settled, Bool.or_eq_true, bne_iff_ne, List.isEmpty_iff, ← hr]

/-- Settles O48, one command at a time, the accesses by `State.regionAccess`. -/
theorem regionsAreRegisteredReadAndRevoked : Obligations.RegionsAreRegisteredReadAndRevoked := by
  refine ⟨fun value s u hu e mem idle => ?idle, fun value i s u hu decoded runs free hi =>
      ⟨fun n set hn => ⟨fun used => ?inUse, fun new unused bad => ?badLen, fun new unused positive few none => ?noSpace,
        fun off gen t key v w new unused positive few room hg ht hk hv hw => exec_regionRegister_placed hu decoded runs free hi set n hn new
          unused positive few off gen t key room v w hg ht hk hv hw⟩,
      fun r v set hr hv => exec_regionDescriptorRead_of_runs hu decoded runs free hi set r v hr hv,
      fun set other => ?noRevoke, fun set valid => ?revoke⟩,
    fun index s => ⟨fun revoking drained => ?drained, fun other => ?noDrain, fun other => ?noTimeout, fun revoking left => ?timeout⟩,
    fun index s => ⟨fun none => ?notZeroing, fun z some => ?zeroed⟩⟩
  case idle =>
    obtain ⟨f, row⟩ := exec_regionRow value s e mem
    rw [row, State.regionAccess_of_idle value e.2 f hu idle]
  case inUse => rw [exec_regionRegister_refused hu decoded runs free hi set n hn (.inl used), if_pos used]
  case badLen =>
    rw [exec_regionRegister_refused hu decoded runs free hi set n hn (.inr (.inl bad)),
      if_neg (not_or.2 ⟨Classical.not_not.2 new, ne_true_of_eq_false unused⟩), if_pos bad]
  case noSpace =>
    rw [exec_regionRegister_refused hu decoded runs free hi set n hn (.inr (.inr none)),
      if_neg (not_or.2 ⟨Classical.not_not.2 new, ne_true_of_eq_false unused⟩), if_neg (by omega)]
  case noRevoke => rw [exec_regionRevoke_of_runs hu decoded runs free hi set, if_pos other]
  case revoke => rw [exec_regionRevoke_of_runs hu decoded runs free hi set, if_neg (Classical.not_not.2 valid)]
  case drained => rw [exec_regionDrainEnd, if_neg (not_or.2 ⟨Classical.not_not.2 revoking, Classical.not_not.2 drained⟩)]
  case noDrain => rw [exec_regionDrainEnd, if_pos other]
  case noTimeout => rw [exec_regionRevokeTimeout index s _ rfl, if_pos other]
  case timeout => rw [exec_regionRevokeTimeout index s _ rfl, if_neg (not_or.2 ⟨Classical.not_not.2 revoking, left⟩)]
  case notZeroing =>
    show execRegionZeroed index s = _
    simp only [execRegionZeroed, settled, none]
  case zeroed =>
    show execRegionZeroed index s = _
    simp only [execRegionZeroed, settled, some]

end Sys2Proof.Machine
end
/-! ## The manifold (O49) -/

section
namespace Sys2Proof.Machine

/-! ### Copies -/

theorem exec_mfdCopyDone_of_none (frame port : Nat) (ecc : CopyEcc) (s : State) (none : Tab.find frame s.mfd.frames = none) :
    exec (.mfdCopyDone frame port ecc) s = .next s.settle := by
  show execMfdCopyDone frame port ecc s = _
  simp only [execMfdCopyDone, settled, none]

theorem exec_mfdCopyDone_of_some (frame port : Nat) (ecc : CopyEcc) (f : Frame) (s u : State)
    (some : Tab.find frame s.mfd.frames = some f) (hu : u = s.corrected .mfd Reg.MFD_CNT_ECC_CORRECTED ecc.corrected) :
    exec (.mfdCopyDone frame port ecc) s =
    .next (if Tab.find port s.mfd.sending ≠ Option.some frame ∨ f.complete = false ∨ s.portLinked port = false then s
      else ecc.desc.elim ((ecc.cell.elim u (u.cellError frame f)).finishCopy frame port).resumeReads
        fun k => (u.descError frame port f k).resumeReads).settle := by
  show execMfdCopyDone frame port ecc s = _
  simp only [execMfdCopyDone, settled, some, Bool.or_eq_true, bne_iff_ne, Bool.not_eq_true', or_assoc, ← hu]
  cases ecc.desc with
  | none => cases ecc.cell <;> simp only [Option.elim]
  | some k => simp only [Option.elim]

theorem exec_mfdAgeCheck (now : Nat) (f : State → Nat × Frame → State) (s u : State) (hu : u = s.atLeast now)
    (young : ∀ (t : State) (e : Nat × Frame), t.aged e.2 = [] → f t e = t)
    (old : ∀ (t : State) (e : Nat × Frame), t.aged e.2 ≠ [] → f t e = (t.aged e.2).foldl (fun s p => (s.dropCopy e.1 p).reportCopy e.2 p)
      ((t.count Reg.MFD_CNT_MC_COPY_FAILED (t.aged e.2).length).count Reg.MFD_CNT_MC_CELLS_AGED ((t.aged e.2).length * e.2.cells))) :
    exec (.mfdAgeCheck now) s = .next (u.mfd.frames.foldl f u).resumeReads.settle := by
  show execMfdAgeCheck now s = _
  simp only [execMfdAgeCheck, settled, ← hu, List.isEmpty_iff]
  rw [foldl_eq_of_step_eq _ f]
  intro t e
  by_cases gone : t.aged e.2 = []
  · rw [if_pos gone, young t e gone]
  · rw [if_neg gone, old t e gone]

/-! ### Ports -/

theorem exec_portLinkUp (port : Nat) (s : State) : exec (.portLinkUp port) s =
    .next (if s.portServes port = false ∨ s.st < stPRIME ∨ s.st = stHALTED then s
      else ((s.showEth port true).portBack port).startPort port).settle := by
  show execPortLinkUp port s = _
  simp only [execPortLinkUp, settled, Bool.or_eq_true, Bool.not_eq_true', decide_eq_true_eq, beq_iff_eq, or_assoc]

theorem exec_portHoldExpiry_of_none (port : Nat) (s : State) (none : Tab.find port s.mfd.down = none) :
    exec (.portHoldExpiry port) s = .next s.settle := by
  show execPortHoldExpiry port s = _
  simp only [execPortHoldExpiry, settled, none]

theorem exec_portHoldExpiry_of_some (port at_ : Nat) (s t u v : State) (some : Tab.find port s.mfd.down = some at_)
    (ht : t = s.atLeast (at_ + s.rd Reg.MFD_HOLD * ms))
    (hu : u = (({ t with mfd := { t.mfd with expired := port :: t.mfd.expired } } : State).discardPort port).resumeReads)
    (hv : v = if port = 52 ∨ port = 53 then u.dropUnacked (port - 52) else u) : exec (.portHoldExpiry port) s =
    .next (if port ∈ s.mfd.expired then s else if 52 ∈ v.mfd.expired ∧ 53 ∈ v.mfd.expired then v.leaveDual else v).settle := by
  show execPortHoldExpiry port s = _
  simp only [execPortHoldExpiry, settled, some, List.contains_iff_mem, ← ht, ← hu, Bool.or_eq_true, beq_iff_eq, ← hv, Bool.and_eq_true]

theorem exec_portStall (port : Nat) (s u : State)
    (hu : u = (s.count Reg.MFD_CNT_STALL_EVENTS).raise sevUncorrected .mfd Reg.MFD_HOLD_STALL.off port) : exec (.portStall port) s =
    .next (if linkedPort port = false ∨ (∀ e ∈ s.mfd.frames, port ∉ e.2.left) ∨ s.portUp port = false ∨ s.is Reg.MFD_HOLD_STALL = false then s
      else { u with mfd := { u.mfd with stalled := port :: u.mfd.stalled, down := Tab.put port u.tm.mono u.mfd.down } }).settle := by
  have queued : ((s.mfd.frames.any fun e => e.2.left.contains port) = false) = ∀ e ∈ s.mfd.frames, port ∉ e.2.left := by
    simp
  show execPortStall port s = _
  simp only [execPortStall, settled, Bool.or_eq_true, Bool.not_eq_true', queued, ← hu, or_assoc]

/-! ### Pause -/

theorem exec_pfcFrameReceive (port : Fin 4) (sub : Fin 8) (quanta : List (Fin 8 × Nat)) (p : Nat) (f : Tab Nat → Fin 8 × Nat → Tab Nat)
    (s : State) (hp : p = 48 + port.val + 72 * sub.val)
    (off : ∀ (t : Tab Nat) (e : Fin 8 × Nat), s.pfcOn port.val e.1.val = false → f t e = t)
    (resume : ∀ (t : Tab Nat) (e : Fin 8 × Nat), s.pfcOn port.val e.1.val = true → e.2 = 0 → f t e = Tab.del (8 * p + e.1.val) t)
    (pause : ∀ (t : Tab Nat) (e : Fin 8 × Nat), s.pfcOn port.val e.1.val = true → e.2 ≠ 0 →
      f t e = Tab.put (8 * p + e.1.val) (s.tm.mono + s.quantaNs port.val (e.2 % 65536)) t) : exec (.pfcFrameReceive port sub quanta) s =
    .next (({ s with mfd := { s.mfd with paused := quanta.foldl f s.mfd.paused } } : State).startPort p).settle := by
  show execPfcFrameReceive port sub quanta s = _
  simp only [execPfcFrameReceive, settled, ← hp, Bool.not_eq_true', beq_iff_eq]
  rw [foldl_eq_of_step_eq _ f]
  intro t e
  by_cases on : s.pfcOn port.val e.1.val = false
  · rw [if_pos on, off t e on]
  · rw [if_neg on]
    by_cases zero : e.2 = 0
    · rw [if_pos zero, resume t e (by simpa using on) zero]
    · rw [if_neg zero, pause t e (by simpa using on) zero]

theorem exec_pfcPauseExpiry (port : Fin 4) (sub prio : Fin 8) (k : Nat) (s : State) (hk : k = 8 * (48 + port.val + 72 * sub.val) + prio.val) :
    exec (.pfcPauseExpiry port sub prio) s = .next ((Tab.find k s.mfd.paused).elim s fun at_ =>
      ({ s.atLeast at_ with mfd := { (s.atLeast at_).mfd with paused := Tab.del k (s.atLeast at_).mfd.paused } } : State).startPort
        (ethPort port.val sub.val)).settle := by
  show execPfcPauseExpiry port sub prio s = _
  simp only [execPfcPauseExpiry, settled, ← hk]
  cases Tab.find k s.mfd.paused <;> simp only [Option.elim]

theorem exec_pfcRefresh (port : Fin 4) (prio : Fin 8) (s : State) : exec (.pfcRefresh port prio) s =
    .next ((Tab.find (8 * port.val + prio.val) s.mfd.xoff).elim s fun at_ =>
      if (s.atLeast (at_ + s.rd Reg.MFD_PAUSE_REFRESH * us)).rxHeld port.val prio.val <
          (s.atLeast (at_ + s.rd Reg.MFD_PAUSE_REFRESH * us)).rd (Reg.MFD_PFC_THR_XON.at port.val) then
        s.atLeast (at_ + s.rd Reg.MFD_PAUSE_REFRESH * us)
      else (s.atLeast (at_ + s.rd Reg.MFD_PAUSE_REFRESH * us)).pauseSend port.val prio.val).settle := by
  show execPfcRefresh port prio s = _
  simp only [execPfcRefresh, settled]
  cases Tab.find (8 * port.val + prio.val) s.mfd.xoff <;> simp only [Option.elim]

/-! ### Reception -/

/-- The end of a reception: a bad FCS is counted, a wrong frame dropped. -/
def State.receiveEnd (u : State) (f : EthFrame) (wrong : Bool) (id : Nat) : State :=
  let v := if f.last = true ∧ f.fcsGood = false then u.count Reg.MFD_CNT_RX_FCS_BAD else u
  if wrong = true then v.dropBad id else v

theorem exec_ethFrameReceive_of_out (port : Fin 4) (f : EthFrame) (s : State)
    (out : s.st < stPRIME ∨ s.st = stHALTED ∨ s.portGbps port.val = 0 ∨ f.bytes = 0) : exec (.ethFrameReceive port f) s = .next s.settle := by
  show execEthFrameReceive port f s = _
  simp only [execEthFrameReceive, settled, Bool.or_eq_true, decide_eq_true_eq, beq_iff_eq, or_assoc]
  rw [if_pos out]

theorem exec_ethFrameReceive_of_unknown (port : Fin 4) (f : EthFrame) (s : State) (more : f.first = false)
    (unknown : Tab.has (ethPort port.val f.sub.val) s.mfd.receiving = false) : exec (.ethFrameReceive port f) s = .next s.settle := by
  show execEthFrameReceive port f s = _
  simp [execEthFrameReceive, settled, more, unknown]

section
variable {port : Fin 4} {f : EthFrame} {s : State} (started : stPRIME ≤ s.st) (live : s.st ≠ stHALTED) (speed : s.portGbps port.val ≠ 0)
  (some : f.bytes ≠ 0)
include started live speed some

theorem State.receives : (((s.st < stPRIME || s.st == stHALTED) || s.portGbps port.val == 0) || f.bytes == 0) = false := by
  simp [started, live, speed, some]

variable {src keep id : Nat} {long wrong : Bool} (hs : src = ethPort port.val f.sub.val) (hl : long = decide (keep < f.bytes))
include hs hl

theorem exec_ethFrameReceive_of_first (first : f.first = true) (hk : keep = min f.bytes (Config.ethMaxFrame port.val))
    (hw : wrong = (long || (f.last && (!f.fcsGood || decide (keep < 64))))) (hi : id = (Tab.find src s.mfd.receiving).getD s.mfd.next) :
    exec (.ethFrameReceive port f) s = .next ((s.openFrame port.val src f keep (f.last || long)).receiveEnd f wrong id).settle := by
  show execEthFrameReceive port f s = _
  simp only [execEthFrameReceive, settled, State.receives started live speed some, first, if_true, Nat.sub_zero, Nat.zero_add, ← hs, ← hk,
    ← hl, ← hw, ← hi, Bool.not_true, Bool.false_and, Bool.false_eq_true, if_false, State.receiveEnd, Bool.and_eq_true, Bool.not_eq_true']

theorem exec_ethFrameReceive_of_known (more : f.first = false) (g : Frame) (known : Tab.find src s.mfd.receiving = Option.some id)
    (found : Tab.find id s.mfd.frames = Option.some g) (hk : keep = min f.bytes (Config.ethMaxFrame port.val - g.len))
    (hw : wrong = (long || (f.last && (!f.fcsGood || decide (g.len + keep < 64))))) :
    exec (.ethFrameReceive port f) s = .next ((s.extendFrame port.val id g keep (f.last || long)).receiveEnd f wrong id).settle := by
  have has : Tab.has src s.mfd.receiving = true := by simp only [Tab.has, known, Option.isSome_some]
  show execEthFrameReceive port f s = _
  simp only [execEthFrameReceive, settled, State.receives started live speed some, more, ← hs, known, has, found, Option.bind_some, Option.elim,
    Option.getD_some, ← hk, ← hl, ← hw, Bool.not_true, Bool.not_false, Bool.true_and, Bool.and_false, Bool.false_eq_true, if_false, if_true,
    State.receiveEnd, Bool.and_eq_true, Bool.not_eq_true']

end

/-- Settles O49, one command at a time. -/
theorem manifoldCopiesAgesHoldsAndPauses : Obligations.ManifoldCopiesAgesHoldsAndPauses := by
  refine ⟨fun frame port ecc s => ⟨fun idle => ?idle, fun f u some sending complete linked hu => ?copied⟩, exec_mfdAgeCheck,
    fun port s => ⟨rfl, fun out => ?noLink, fun serves started live => ?link⟩,
    fun port s => ⟨fun out => ?held, fun at_ t u v some new ht hu hv => ?expired⟩, fun port s u hu => ⟨fun idle => ?noStall,
      fun linked queued up stall => ?stall⟩, exec_pfcFrameReceive,
    fun port sub prio k s hk => ⟨fun none => ?unpaused, fun at_ u some hu => ?resumed⟩,
    fun port prio s => ⟨fun none => ?noRefresh, fun at_ u some hu => ?refresh⟩,
    fun port f s => ⟨exec_ethFrameReceive_of_out port f s, fun src keep id long wrong u started live speed some first hs hk hl hw hi hu => ?first,
      exec_ethFrameReceive_of_unknown port f s,
      fun src keep id g long wrong u started live speed some more hs known found hk hl hw hu => ?more, ⟨_, rfl⟩⟩⟩
  case idle =>
    cases found : Tab.find frame s.mfd.frames with
    | none => exact exec_mfdCopyDone_of_none frame port ecc s found
    | some f => rw [exec_mfdCopyDone_of_some frame port ecc f s _ found rfl, if_pos (idle f found)]
  case copied =>
    have ready : ¬(Tab.find port s.mfd.sending ≠ Option.some frame ∨ f.complete = false ∨ s.portLinked port = false) := by
      simp [sending, complete, linked]
    rw [exec_mfdCopyDone_of_some frame port ecc f s u some hu, if_neg ready]
    exact ⟨fun k desc => by simp only [desc, Option.elim], fun k desc cell => by simp only [desc, cell, Option.elim],
      fun desc cell => by simp only [desc, cell, Option.elim]⟩
  case noLink => rw [exec_portLinkUp, if_pos out]
  case link =>
    rw [exec_portLinkUp, if_neg (not_or.2 ⟨ne_false_of_eq_true serves, not_or.2 ⟨Nat.not_lt.2 started, live⟩⟩)]
  case held =>
    cases down : Tab.find port s.mfd.down with
    | none => exact exec_portHoldExpiry_of_none port s down
    | some at_ =>
      have gone : port ∈ s.mfd.expired := out.resolve_left (by simp [down])
      rw [exec_portHoldExpiry_of_some port at_ s _ _ _ down rfl rfl rfl, if_pos gone]
  case expired =>
    rw [exec_portHoldExpiry_of_some port at_ s t u v some ht hu hv, if_neg new]
    exact ⟨fun both => by rw [if_pos both], fun one => by rw [if_neg fun both => one.elim (· both.1) (· both.2)]⟩
  case noStall => rw [exec_portStall port s u hu, if_pos idle]
  case stall =>
    have stalls : ¬(linkedPort port = false ∨ (∀ e ∈ s.mfd.frames, port ∉ e.2.left) ∨ s.portUp port = false ∨ s.is Reg.MFD_HOLD_STALL = false) := by
      obtain ⟨e, mem, left⟩ := queued
      rintro (unlinked | none | down | off)
      · exact ne_true_of_eq_false unlinked linked
      · exact none e mem left
      · exact ne_true_of_eq_false down up
      · exact ne_true_of_eq_false off stall
    rw [exec_portStall port s u hu, if_neg stalls]
  case unpaused => rw [exec_pfcPauseExpiry port sub prio k s hk, none]; rfl
  case resumed => rw [exec_pfcPauseExpiry port sub prio k s hk, some, hu]; rfl
  case noRefresh => rw [exec_pfcRefresh, none]; rfl
  case refresh =>
    rw [exec_pfcRefresh, some]
    simp only [Option.elim, ← hu]
    exact ⟨fun low => by rw [if_pos low], fun high => by rw [if_neg (Nat.not_lt.2 high)]⟩
  case first =>
    rw [exec_ethFrameReceive_of_first started live speed some hs hl first hk hw hi, hu]; rfl
  case more =>
    rw [exec_ethFrameReceive_of_known started live speed some hs hl more g known found hk hw, hu]; rfl

end Sys2Proof.Machine
end
/-! ## Queue pairs and their packets (O50, O51) -/

section
namespace Sys2Proof.Machine

/-! ### Connection management -/

section
variable (port : Nat) (f : State → State) (s : State)

theorem State.cmArrive_of_early (early : s.st < stSERVE) : s.cmArrive port f = s.count (Reg.WELL_CNT_PRE_SERVE_DROP.at port) := by
  rw [State.cmArrive, if_pos early]

variable (serves : stSERVE ≤ s.st)
include serves

theorem State.cmArrive_of_closed (closed : s.accepting = false ∨ s.stopped .well = true) : s.cmArrive port f = s := by
  rw [State.cmArrive, if_neg (Nat.not_lt.2 serves), if_pos (by simpa using closed)]

theorem State.cmArrive_of_open (accepts : s.accepting = true) (runs : s.stopped .well = false) :
    s.cmArrive port f = f (s.wake 2) := by
  rw [State.cmArrive, if_neg (Nat.not_lt.2 serves), if_neg (by simp [accepts, runs])]

end

/-- The rows of the connection messages of a queue pair. -/
def cmRows (port : Fin 4) (qp : Fin 65536) : List Instr := [Instr.cmRtu port qp, .cmRej port qp, .cmDreq port qp, .cmDrep port qp]

theorem exec_cmRow (port : Fin 4) (qp : Fin 65536) (s : State) (c : Instr) (mem : c ∈ cmRows port qp) :
    ∃ f : State → State, exec c s = .next (s.cmArrive port.val f).settle := by
  simp only [cmRows, List.mem_cons, List.not_mem_nil, or_false] at mem
  rcases mem with rfl | rfl | rfl | rfl <;> exact ⟨_, rfl⟩

theorem exec_cmReq (r : CmReq) (s : State) : ∃ f : State → State, exec (.cmReq r) s = .next (s.cmArrive r.port.val f).settle := ⟨_, rfl⟩

section
variable {s u : State} (serves : stSERVE ≤ s.st) (accepts : s.accepting = true) (runs : s.stopped .well = false) (hu : u = s.wake 2)
include serves accepts runs hu

theorem exec_cmReq_of_refusal (r : CmReq) (port reason : Nat) (hp : port = ethPort r.port.val r.subPort.toNat)
    (refused : u.cmRefusal r = some reason ∨
      u.cmRefusal r = none ∧ Tab.lowestFree u.rc.qps 0 u.params.rcQpMax = none ∧ reason = 6) :
    exec (.cmReq r) s = .next (u.sendCm 0 u.leastPump port r.hostQpn.toNat (.rej reason)).settle := by
  subst hp
  show settled (s.cmArrive r.port.val _) = _
  rw [State.cmArrive_of_open _ _ s serves accepts runs, ← hu]
  rcases refused with some | ⟨none, full, rfl⟩
  · simp only [settled, some]
  · simp only [settled, none, full]

theorem exec_cmReq_of_accepted (r : CmReq) (port qi gen : Nat) (q : Qp) (v w : State) (hp : port = ethPort r.port.val r.subPort.toNat)
    (accepted : u.cmRefusal r = none) (free : Tab.lowestFree u.rc.qps 0 u.params.rcQpMax = some qi)
    (hg : gen = if Tab.getD qi 0 u.rc.gens = 255 then 1 else Tab.getD qi 0 u.rc.gens + 1)
    (hq : q = { gen := gen, st := qpInit, pmtu := r.pmtu, pump := u.leastPump, port := r.port.val, subPort := r.subPort.toNat, qid := r.qid
                destQpn := r.hostQpn.toNat, remoteIp := r.remoteIp, localIp := r.localIp, mac := r.mac, vlan := r.vlan, sport := r.sport
                tclass := r.tclass, hopLimit := r.hopLimit, epsn := r.startPsn.toNat, nextPsn := u.freeVal 24, unaPsn := u.freeVal 24
                ord := r.hostReads, sqSize := r.hsqSize })
    (hv : v = { u with rc := { u.rc with qps := Tab.put qi q u.rc.qps, gens := Tab.put qi gen u.rc.gens } })
    (hw : w = v.freeNext.showQps) : exec (.cmReq r) s =
    .next (w.sendCm qi q.pump port q.destQpn (.rep (gen * 65536 + qi) (u.freeVal 24) v.irdOf (v.ordOf q))).settle := by
  subst hp
  have pump : q.pump = u.leastPump := by rw [hq]
  have dest : q.destQpn = r.hostQpn.toNat := by rw [hq]
  show settled (s.cmArrive r.port.val _) = _
  rw [State.cmArrive_of_open _ _ s serves accepts runs, ← hu]
  simp only [settled, accepted, free, beq_iff_eq, ← hg, ← hq, ← hv, ← hw, pump, dest]

section
variable (port : Fin 4) (qp : Fin 65536)

theorem exec_cmRtu_of_open : exec (.cmRtu port qp) s = .next (if (u.qpOf qp.val).st = qpRtr then u.toRts qp.val else u).settle := by
  show settled (s.cmArrive port.val _) = _
  rw [State.cmArrive_of_open _ _ s serves accepts runs, ← hu]
  simp only [settled, State.qpIn, List.contains_iff_mem, List.mem_singleton]

theorem exec_cmRej_of_open : exec (.cmRej port qp) s = .next (if (u.qpOf qp.val).st = qpInit then u.freeQp qp.val else u).settle := by
  show settled (s.cmArrive port.val _) = _
  rw [State.cmArrive_of_open _ _ s serves accepts runs, ← hu]
  simp only [settled, State.qpIn, List.contains_iff_mem, List.mem_singleton]

theorem exec_cmDreq_of_open : exec (.cmDreq port qp) s = .next (if (u.qpOf qp.val).st = qpFree then u
    else ((u.sendCmQp qp.val (.drep (u.qpOf qp.val).destQpn)).updQp qp.val fun q => { q with dreqSeen := true }).qpFail qp.val).settle := by
  show settled (s.cmArrive port.val _) = _
  rw [State.cmArrive_of_open _ _ s serves accepts runs, ← hu]
  simp only [settled, State.qpIn, List.contains_iff_mem, List.mem_singleton]

theorem exec_cmDrep_of_open : exec (.cmDrep port qp) s = .next (if (u.qpOf qp.val).st = qpFree then u
    else u.updQp qp.val fun q => { q with dreqSent := false }).settle := by
  show settled (s.cmArrive port.val _) = _
  rw [State.cmArrive_of_open _ _ s serves accepts runs, ← hu]
  simp only [settled, State.qpIn, List.contains_iff_mem, List.mem_singleton]

end

end

/-! ### The ends of queue pairs -/

theorem exec_cmTimeout (qp : Fin 65536) (s : State) : exec (.cmTimeout qp) s =
    .next (if (s.qpOf qp.val).st = qpInit ∨ (s.qpOf qp.val).st = qpRtr then s.freeQp qp.val else s).settle := by
  show execCmTimeout qp s = _
  simp only [execCmTimeout, settled, State.qpIn, List.contains_iff_mem, List.mem_cons, List.not_mem_nil, or_false]

theorem exec_qpFlushDone (qp : Fin 65536) (s u : State) (until_ : Nat)
    (hu : u = if (s.qpOf qp.val).dreqSeen = true then s else s.sendCmQp qp.val (.dreq (s.qpOf qp.val).destQpn))
    (ht : until_ = u.tm.mono + u.rd Reg.WELL_RC_CTL_QUARANTINE * (10 * ms)) : exec (.qpFlushDone qp) s =
    .next (if (s.qpOf qp.val).st ≠ qpErr then s else (u.updQp qp.val fun q =>
      { q with st := qpQuarantine, quarUntil := until_, dreqSent := !q.dreqSeen }).heldConnects).settle := by
  show execQpFlushDone qp s = _
  simp only [execQpFlushDone, settled, bne_iff_ne, ← hu, ← ht]

theorem State.deadline_of_cached {s : State} (qi : Nat) (d : Due) (cached : s.ctxCached qi = true) : s.deadline qi d = s.dueNow qi d := by
  rw [State.deadline, if_pos cached]

theorem State.deadline_of_evicted {s : State} (qi : Nat) (d : Due) (evicted : s.ctxCached qi = false) : s.deadline qi d = s.await qi d := by
  rw [State.deadline, if_neg (ne_true_of_eq_false evicted)]

theorem exec_qpQuarantineEnd (qp : Fin 65536) (s : State) : exec (.qpQuarantineEnd qp) s =
    .next (if (s.qpOf qp.val).st ≠ qpQuarantine then s
      else (s.atLeast (s.qpOf qp.val).quarUntil).deadline qp.val .quarantine).settle := by
  show execQpQuarantineEnd qp s = _
  simp only [execQpQuarantineEnd, settled, bne_iff_ne]

theorem exec_keepAliveExpiry (assoc : Nat) (k : Ctlr) (s : State) (hk : k = s.ctlrOf assoc) : exec (.keepAliveExpiry assoc) s =
    .next (if k.connected = false ∨ k.kato = 0 ∨ assoc < 64 then s else (s.atLeast (k.kaAt + k.kato)).endAssoc assoc).settle := by
  show execKeepAliveExpiry assoc s = _
  simp only [execKeepAliveExpiry, settled, ← hk, Bool.or_eq_true, Bool.not_eq_true', beq_iff_eq, decide_eq_true_eq, or_assoc]

theorem exec_qpInspect (value : W32) (s u : State) (hu : u = s.writeWord offQpInspect value) (qi : Nat) (q : Qp) (b : List Byte)
    (hi : qi = value.toNat % 65536) (hq : q = u.qpOf qi) (hb : b = if q.st = qpFree then [] else u.ctxBytes qi q) :
    exec (.qpInspect value) s = .next (if u.decodeOf .well ≠ .all ∨ value.toNat < 2 ^ 31 then u
      else ((List.range 64).foldl (fun (t : State) k => t.wr (Reg.WELL_QP_VIEW.at k) (leAt b (4 * k) 4)) u).wrB
        Reg.WELL_QP_INSPECT_STATUS_VALID (q.st != qpFree)).settle := by
  have low : (value.toNat / 2 ^ 31 = 0) = (value.toNat < 2 ^ 31) := by
    rw [Nat.div_eq_zero_iff]
    simp
  show execQpInspect value s = _
  simp only [execQpInspect, settled, ← hu, ← hi, ← hq, beq_iff_eq, ← hb, Bool.or_eq_true, bne_iff_ne, low]

/-- Settles O50, one command at a time, the connection messages by `State.cmArrive`. -/
theorem queuePairsAreConnectedAndRetired : Obligations.QueuePairsAreConnectedAndRetired := by
  refine ⟨fun port f s => ⟨State.cmArrive_of_early port f s, State.cmArrive_of_closed port f s, State.cmArrive_of_open port f s⟩,
    fun port qp r s => ⟨fun early => ?early, fun serves closed => ?closed⟩,
    fun r port s u serves accepts runs hu hp => ⟨fun reason some => exec_cmReq_of_refusal serves accepts runs hu r port reason hp (.inl some),
      fun none full => exec_cmReq_of_refusal serves accepts runs hu r port 6 hp (.inr ⟨none, full, rfl⟩),
      fun qi gen q v w accepted free hg hq hv hw => exec_cmReq_of_accepted serves accepts runs hu r port qi gen q v w hp accepted free hg hq hv hw⟩,
    fun port qp s u serves accepts runs hu => ?messages, fun qp s => ?ends, fun assoc k s hk => ?alive, fun value s u hu => ?inspect⟩
  case early =>
    refine ⟨?_, fun c mem => ?_⟩
    · obtain ⟨f, row⟩ := exec_cmReq r s
      rw [row, State.cmArrive_of_early _ f s early]
    · obtain ⟨f, row⟩ := exec_cmRow port qp s c mem
      rw [row, State.cmArrive_of_early _ f s early]
  case closed =>
    intro c mem
    rcases List.mem_cons.1 mem with rfl | mem
    · obtain ⟨f, row⟩ := exec_cmReq r s
      rw [row, State.cmArrive_of_closed _ f s serves closed]
    · obtain ⟨f, row⟩ := exec_cmRow port qp s c mem
      rw [row, State.cmArrive_of_closed _ f s serves closed]
  case messages =>
    rw [exec_cmRtu_of_open serves accepts runs hu, exec_cmRej_of_open serves accepts runs hu, exec_cmDreq_of_open serves accepts runs hu,
      exec_cmDrep_of_open serves accepts runs hu]
    refine ⟨fun rtr => by rw [if_pos rtr], fun other => by rw [if_neg other], fun init => by rw [if_pos init], fun other => by rw [if_neg other],
      fun free => ?_, fun used => ?_⟩
    · rw [if_pos free, if_pos free]
      exact ⟨rfl, rfl⟩
    · rw [if_neg used, if_neg used]
      exact ⟨rfl, rfl⟩
  case ends =>
    refine ⟨fun opening => ?_, fun init rtr => ?_, fun other => ?_, fun until_ u err hu ht => ?_, fun other => ?_,
      fun u quarantined hu => ⟨fun cached => ?_, fun evicted => ?_⟩⟩
    · rw [exec_cmTimeout, if_pos opening]
    · rw [exec_cmTimeout, if_neg (not_or.2 ⟨init, rtr⟩)]
    · rw [exec_qpFlushDone qp s _ _ rfl rfl, if_pos other]
    · rw [exec_qpFlushDone qp s u until_ hu ht, if_neg (Classical.not_not.2 err)]
    · rw [exec_qpQuarantineEnd, if_pos other]
    · rw [exec_qpQuarantineEnd, if_neg (Classical.not_not.2 quarantined), ← hu, State.deadline_of_cached _ _ cached]
    · rw [exec_qpQuarantineEnd, if_neg (Classical.not_not.2 quarantined), ← hu, State.deadline_of_evicted _ _ evicted]
  case alive =>
    rw [exec_keepAliveExpiry assoc k s hk]
    refine ⟨fun other => by rw [if_pos other], fun connected timed fabric => ?_⟩
    rw [if_neg (not_or.2 ⟨ne_false_of_eq_true connected, not_or.2 ⟨timed, Nat.not_lt.2 fabric⟩⟩)]
  case inspect =>
    refine ⟨fun idle => ?_, fun qi q b decoded go hi hq hb => ?_⟩
    · rw [exec_qpInspect value s u hu _ _ _ rfl rfl rfl, if_pos idle]
    · rw [exec_qpInspect value s u hu qi q b hi hq hb, if_neg (not_or.2 ⟨Classical.not_not.2 decoded, Nat.not_lt.2 go⟩)]

/-! ### Packets -/

section
variable (p : RcPkt) (s : State)

theorem exec_rcSendReceive_of_other (send : ∀ b e, p.body ≠ .send b e) (other : ∀ n, p.body ≠ .other n) :
    exec (.rcSendReceive p) s = .next s.settle := by
  show execRcSendReceive p s = _
  unfold execRcSendReceive
  split
  next b e body => exact absurd body (send b e)
  next n body => exact absurd body (other n)
  next => rfl

theorem exec_rcRegionWriteReceive_of_other (other : ∀ a b c d e, p.body ≠ .write a b c d e) :
    exec (.rcRegionWriteReceive p) s = .next s.settle := by
  show execRcRegionWriteReceive p s = _
  unfold execRcRegionWriteReceive
  split
  next a b c d e body => exact absurd body (other a b c d e)
  next => rfl

theorem exec_rcRegionReadRequest_of_other (other : ∀ a b c d, p.body ≠ .readReq a b c d) :
    exec (.rcRegionReadRequest p) s = .next s.settle := by
  show execRcRegionReadRequest p s = _
  unfold execRcRegionReadRequest
  split
  next a b c d body => exact absurd body (other a b c d)
  next => rfl

theorem exec_rcReadResponseReceive_of_other (other : ∀ a b, p.body ≠ .response a b) :
    exec (.rcReadResponseReceive p) s = .next s.settle := by
  show execRcReadResponseReceive p s = _
  unfold execRcReadResponseReceive
  split
  next a b body => exact absurd body (other a b)
  next => rfl

theorem exec_rcAckReceive_of_other (other : p.body ≠ .ack) : exec (.rcAckReceive p) s = .next s.settle := by
  show execRcAckReceive p s = _
  unfold execRcAckReceive
  split
  next body => exact absurd body other
  next => rfl

theorem exec_rcNakReceive_of_other (other : ∀ a b, p.body ≠ .nak a b) : exec (.rcNakReceive p) s = .next s.settle := by
  show execRcNakReceive p s = _
  unfold execRcNakReceive
  split
  next a b body => exact absurd body (other a b)
  next => rfl

theorem exec_cnpReceive_of_other (other : p.body ≠ .cnp) : exec (.cnpReceive p) s = .next s.settle := by
  show execCnpReceive p s = _
  unfold execCnpReceive
  split
  next body => exact absurd body other
  next => rfl

theorem State.rcArrive_of_early (early : s.st < stSERVE) : s.rcArrive p = s.count (Reg.WELL_CNT_PRE_SERVE_DROP.at p.port.val) := by
  rw [State.rcArrive, if_pos early]

theorem State.rcArrive_of_closed (serves : stSERVE ≤ s.st) (closed : s.accepting = false ∨ s.stopped .well = true) : s.rcArrive p = s := by
  rw [State.rcArrive, if_neg (Nat.not_lt.2 serves), if_pos (by simpa using closed)]

theorem State.rcArrive_of_open (serves : stSERVE ≤ s.st) (accepts : s.accepting = true) (runs : s.stopped .well = false) :
    s.rcArrive p = (s.wake 2).rcContext p := by
  rw [State.rcArrive, if_neg (Nat.not_lt.2 serves), if_neg (by simp [accepts, runs])]

end

/-! ### Contexts and timers -/

section
variable {qp : Fin 65536} {s : State}

theorem exec_contextFetchDone_of_idle (ecc : SpEcc) (idle : qp.val ∉ s.rc.fetching) : exec (.contextFetchDone qp ecc) s = .next s.settle := by
  show execContextFetchDone qp ecc s = _
  simp only [execContextFetchDone, settled, Bool.not_eq_true', List.contains_eq_mem, decide_eq_false idle, if_true]

theorem exec_contextFetchDone_of_fetching (ecc : SpEcc) (parked : List (Nat × RcPkt)) (due : List Due) (t u v w : State)
    (fetching : qp.val ∈ s.rc.fetching)
    (hp : parked = (List.range 4).flatMap fun n => (Tab.getD n [] s.rc.missq).filter fun e => e.2.qpn.toNat % 65536 == qp.val)
    (hd : due = (s.qpOf qp.val).due)
    (ht : t = ((List.range 4).foldl (fun (s : State) n => s.showMissq n) ({ s with rc := { s.rc with
      fetching := s.rc.fetching.filter (· != qp.val)
      missq := s.rc.missq.map fun (e : Nat × List (Nat × RcPkt)) => (e.1, e.2.filter fun p => !(p.2.qpn.toNat % 65536 == qp.val))
      cache := Tab.put qp.val ⟨s.rc.uses, false⟩ s.rc.cache, uses := s.rc.uses + 1 } } : State)).showCache)
    (hu : u = parked.foldl (fun (s : State) e => s.freeCells (holdParked e.1)) t)
    (hv : v = (if due = [] then u else u.updQp qp.val fun q => { q with due := [] }).corrected .mem Reg.MEM_CNT_ECC_CORRECTED ecc.corrected)
    (hw : w = if ecc.bad = true then ((v.count Reg.MEM_CNT_ECC_UNCORRECTED).raise sevUncorrected .mem Reg.MEM_CNT_ECC_UNCORRECTED.off
      noInstance).qpFail qp.val else v) : exec (.contextFetchDone qp ecc) s =
    .next ((due.foldl (fun (s : State) d => s.dueNow qp.val d) (parked.foldl (fun (s : State) e => s.rcContext e.2) w)).rcPump qp.val).settle := by
  have under : (!s.rc.fetching.contains qp.val) = false := by simpa using fetching
  show execContextFetchDone qp ecc s = _
  simp only [execContextFetchDone, settled, under, Bool.false_eq_true, if_false, ← hp, ← hd, ← ht, ← hu, List.isEmpty_iff, ← hv, ← hw]

variable (q : Qp) (hq : q = s.qpOf qp.val)
include hq

theorem exec_ackCoalesceTimeout : exec (.ackCoalesceTimeout qp) s =
    .next (if q.unacked = 0 ∨ (q.st ≠ qpRtr ∧ q.st ≠ qpRts) then s
      else (s.atLeast (q.unackedSince + s.rd Reg.WELL_RC_TIMERS_ACK_DELAY * 100)).ackNow qp.val).settle := by
  have out : ([qpRtr, qpRts].contains q.st = false) = (q.st ≠ qpRtr ∧ q.st ≠ qpRts) := by simp
  show execAckCoalesceTimeout qp s = _
  simp only [execAckCoalesceTimeout, settled, ← hq, Bool.or_eq_true, beq_iff_eq, Bool.not_eq_true', out]

theorem exec_ackTimeout : exec (.ackTimeout qp) s =
    .next (if q.st ≠ qpRts ∨ q.rnrWait = true ∨ (q.sent = [] ∧ q.reads = []) then s
      else (s.atLeast (q.lastAck + 4096 * 2 ^ q.timeout)).deadline qp.val .ackTimeout).settle := by
  show execAckTimeout qp s = _
  simp only [execAckTimeout, settled, ← hq, Bool.or_eq_true, bne_iff_ne, Bool.and_eq_true, List.isEmpty_iff, or_assoc]

theorem exec_rnrWaitEnd : exec (.rnrWaitEnd qp) s =
    .next (if q.st ≠ qpRts ∨ q.rnrWait = false then s else (s.atLeast q.rnrUntil).deadline qp.val .rnrEnd).settle := by
  show execRnrWaitEnd qp s = _
  simp only [execRnrWaitEnd, settled, ← hq, Bool.or_eq_true, bne_iff_ne, Bool.not_eq_true']

end

/-- Settles O51, one command at a time. -/
theorem packetsAreCheckedAckedAndRetried : Obligations.PacketsAreCheckedAckedAndRetried := by
  refine ⟨fun p s => ?taken, fun p s => ⟨exec_rcSendReceive_of_other p s, exec_rcRegionWriteReceive_of_other p s,
      exec_rcRegionReadRequest_of_other p s, exec_rcReadResponseReceive_of_other p s, exec_rcAckReceive_of_other p s,
      exec_rcNakReceive_of_other p s, exec_cnpReceive_of_other p s⟩,
    fun p s u hu => ⟨State.rcArrive_of_early p s, State.rcArrive_of_closed p s, fun serves accepts runs => ?arrive⟩,
    fun qp ecc s => ⟨exec_contextFetchDone_of_idle ecc, fun parked due t u v w fetching hp hd ht hu hv hw =>
      exec_contextFetchDone_of_fetching ecc parked due t u v w fetching hp hd ht hu hv hw⟩, fun qp q s hq => ?timers⟩
  case taken =>
    refine ⟨fun b e body => ?_, fun n body => ?_, fun a b c d e body => ?_, fun a b c d body => ?_, fun a b body => ?_, fun body => ?_,
      fun a b body => ?_, fun body => ?_⟩
    · show execRcSendReceive p s = _
      simp only [execRcSendReceive, settled, body]
    · show execRcSendReceive p s = _
      simp only [execRcSendReceive, settled, body]
    · show execRcRegionWriteReceive p s = _
      simp only [execRcRegionWriteReceive, settled, body]
    · show execRcRegionReadRequest p s = _
      simp only [execRcRegionReadRequest, settled, body]
    · show execRcReadResponseReceive p s = _
      simp only [execRcReadResponseReceive, settled, body]
    · show execRcAckReceive p s = _
      simp only [execRcAckReceive, settled, body]
    · show execRcNakReceive p s = _
      simp only [execRcNakReceive, settled, body]
    · show execCnpReceive p s = _
      simp only [execCnpReceive, settled, body]
  case arrive => rw [hu, State.rcArrive_of_open p s serves accepts runs]
  case timers =>
    refine ⟨fun idle => ?_, fun owed receives => ?_, fun idle => ?_, fun u rts free sent hu => ?_, fun idle => ?_, fun u rts waits hu => ?_⟩
    · rw [exec_ackCoalesceTimeout q hq, if_pos idle]
    · rw [exec_ackCoalesceTimeout q hq, if_neg (not_or.2 ⟨owed, fun out => receives.elim out.1 out.2⟩)]
    · rw [exec_ackTimeout q hq, if_pos idle]
    · have sending : ¬(q.sent = [] ∧ q.reads = []) := fun none => sent.elim (· none.1) (· none.2)
      rw [exec_ackTimeout q hq, if_neg (not_or.2 ⟨Classical.not_not.2 rts, not_or.2 ⟨ne_true_of_eq_false free, sending⟩⟩), ← hu]
      exact ⟨fun cached => by rw [State.deadline_of_cached _ _ cached], fun evicted => by rw [State.deadline_of_evicted _ _ evicted]⟩
    · rw [exec_rnrWaitEnd q hq, if_pos idle]
    · rw [exec_rnrWaitEnd q hq, if_neg (not_or.2 ⟨Classical.not_not.2 rts, ne_false_of_eq_true waits⟩), ← hu]
      exact ⟨fun cached => by rw [State.deadline_of_cached _ _ cached], fun evicted => by rw [State.deadline_of_evicted _ _ evicted]⟩

end Sys2Proof.Machine
end
/-! ## The Polrov Reliable Datagram transport (O52) -/

section
namespace Sys2Proof.Machine

/-! ### Packets as they arrive -/

theorem State.prdArrive_congr {s : State} {p : PrdPkt} {type : Nat} {e : List Nat} {f g : State → List Byte → State}
    (same : ∀ (u : State) (d : List Byte), f u d = g u d) : s.prdArrive p type e f = s.prdArrive p type e g := by
  rw [show f = g from funext fun u => funext (same u)]

section
variable (p : PrdPkt) (type : Nat) (e : List Nat) (f : State → List Byte → State) (s : State)

theorem State.prdArrive_of_off (off : s.params.prdEnable = false) : s.prdArrive p type e f = s := by
  rw [State.prdArrive, if_pos (by simpa using off)]

variable (on : s.params.prdEnable = true)
include on

theorem State.prdArrive_of_early (early : s.st < stSERVE) : s.prdArrive p type e f = s.count (Reg.WELL_CNT_PRE_SERVE_DROP.at p.port.val) := by
  rw [State.prdArrive, if_neg (by simpa using on), if_pos early]

variable (serves : stSERVE ≤ s.st)
include serves

theorem State.prdArrive_of_closed (closed : s.accepting = false ∨ s.stopped .well = true) : s.prdArrive p type e f = s := by
  rw [State.prdArrive, if_neg (by simpa using on), if_neg (Nat.not_lt.2 serves), if_pos (by simpa using closed)]

theorem State.prdArrive_of_open (accepts : s.accepting = true) (runs : s.stopped .well = false) (u v : State) (hu : u = s.wake 2)
    (hv : v = if (prdHdr p).enc = true then u.useGcm (entKey e) else u) : s.prdArrive p type e f =
      if u.prdFormat p = false then u.count Reg.WELL_CNT_PRD_FORMAT_DROP
      else if prdFrom p e = false then u.count Reg.WELL_CNT_UNKNOWN_HOST_DROP
      else (v.prdOpen p e).elim (v.count Reg.WELL_CNT_AUTH_FAIL) fun d => if (prdHdr p).type = type then f v d else v := by
  rw [State.prdArrive, if_neg (by simpa using on), if_neg (Nat.not_lt.2 serves), if_neg (by simp [accepts, runs])]
  simp only [← hu, ← hv, Bool.not_eq_true', beq_iff_eq]
  cases v.prdOpen p e <;> rfl

end

/-- What a command that has passed its packet's checks comes to (R136, R140, R144). -/
theorem exec_prdCmdReceive (p : PrdPkt) (h : PrdHdr) (f : State → List Byte → State) (s : State) (hh : h = prdHdr p)
    (spec : ∀ (u v : State) (d : List Byte) (q : Sqe) (c : Cmd), q = sqeOf d → c = u.prdCommand p q → v = u.count Reg.WELL_CNT_CMD_RECEIVED →
      (v.prdSuspend ≠ 0 → f u d = v.prdRefuse c prdTimeLost) ∧
      (∀ (m : Nat) (w : State), v.prdSuspend = 0 → v.foreignOwner h.admin q = some m →
        w = (v.prdController h.host).count Reg.WELL_CNT_FORWARDED → f u d = (w.numberCmd c).forwardCmd w.host.next c m) ∧
      (v.prdSuspend = 0 → v.foreignOwner h.admin q = none →
        (∀ st, v.prdDecide h.host h.gen h.tid h.issue (!nonIdempotent c) (sqeCrc q) = .refuse st → f u d = v.prdRefuse c st) ∧
        (∀ r, v.prdDecide h.host h.gen h.tid h.issue (!nonIdempotent c) (sqeCrc q) = .dup r →
          f u d = (v.count Reg.WELL_CNT_DUP_HIT).sendCpl c r.prd true r.status r.dw0) ∧
        (v.prdDecide h.host h.gen h.tid h.issue (!nonIdempotent c) (sqeCrc q) = .run →
          (nonIdempotent c = true → f u d = (v.recordStart h.host h.gen h.tid (sqeCrc q)).prdRun c h.host) ∧
          (nonIdempotent c = false → f u d = v.prdRun c h.host)))) :
    exec (.prdCmdReceive p) s = .next (s.prdArrive p prdCmd (s.prdEntry h.host) f).settle := by
  subst hh
  show settled (s.prdArrive p prdCmd (s.prdEntry (prdHdr p).host) _) = _
  rw [settled, State.prdArrive_congr (g := f)]
  intro u d
  obtain ⟨lost, foreign, own⟩ := spec u _ d _ _ rfl rfl rfl
  by_cases suspended : (u.count Reg.WELL_CNT_CMD_RECEIVED).prdSuspend = 0
  · simp only [suspended, bne_self_eq_false, Bool.false_eq_true, if_false]
    cases owner : (u.count Reg.WELL_CNT_CMD_RECEIVED).foreignOwner (prdHdr p).admin (sqeOf d) with
    | some m => rw [foreign m _ suspended owner rfl]
    | none =>
      obtain ⟨refused, again, fresh⟩ := own suspended owner
      cases answer : (u.count Reg.WELL_CNT_CMD_RECEIVED).prdDecide (prdHdr p).host (prdHdr p).gen (prdHdr p).tid (prdHdr p).issue
        (!nonIdempotent (u.prdCommand p (sqeOf d))) (sqeCrc (sqeOf d)) with
      | refuse st => rw [refused st answer]
      | dup e => rw [again e answer]
      | run =>
        cases recorded : nonIdempotent (u.prdCommand p (sqeOf d)) with
        | true => rw [(fresh answer).1 recorded]; rfl
        | false => rw [(fresh answer).2 recorded]; rfl
  · rw [if_pos (by simpa using suspended), lost suspended]

section
variable (p : PrdPkt) (h : PrdHdr) (f : State → List Byte → State) (s : State) (hh : h = prdHdr p)
include hh

theorem exec_prdWdataReceive_of_none (none : s.receiver h = none)
    (late : ∀ (u : State) (d : List Byte), f u d = u.count Reg.WELL_CNT_LATE_DATA) :
    exec (.prdWdataReceive p) s = .next (s.prdArrive p prdWdata (s.prdEntry h.host) f).settle := by
  subst hh
  show execPrdWdataReceive p s = _
  simp only [execPrdWdataReceive, settled, none]
  rw [State.prdArrive_congr (g := f)]
  intro u d
  rw [late]

theorem exec_prdWdataReceive_of_some (id : Nat) (c : Cmd) (some : s.receiver h = some (id, c))
    (spec : ∀ (u v : State) (d : List Byte), v = (if p.ce then u.updCmd id fun c => { c with prd := { c.prd with ece := true } } else u) →
      (v.inLen c < h.off + d.length → f u d = v.count Reg.WELL_CNT_LATE_DATA) ∧
      (h.off + d.length ≤ v.inLen c → f u d = ((v.dataIn id h.off d).endPulls id (c.prd.asked.filter fun r =>
        (missingParts (placeBytes c.buf h.off d).1 r.off r.len 0x1000).isEmpty)).dataReady id)) :
    exec (.prdWdataReceive p) s = .next (s.prdArrive p prdWdata c.prd.entry f).settle := by
  subst hh
  show execPrdWdataReceive p s = _
  simp only [execPrdWdataReceive, settled, some]
  rw [State.prdArrive_congr (g := f)]
  intro u d
  obtain ⟨late, fits⟩ := spec u _ d rfl
  generalize (if p.ce = true then u.updCmd id _ else u) = v at late fits ⊢
  split
  next beyond => rw [late beyond]
  next within => rw [fits (Nat.not_lt.1 within)]

theorem exec_prdProbe (spec : ∀ (u : State) (d : List Byte) (alarm : Nat) (c : Cmd), alarm = (if u.is Reg.TIME_STATUS_COORD then 0 else 1) →
      c = u.prdCommand p { opcode := 0 } →
      f u d = u.sendPrd c prdProbeReply 0 false 0 0 c.prdPort (beBytes 8 u.tm.shelf ++ beBytes 1 alarm ++ zeros 7)) :
    exec (.prdProbe p) s = .next (s.prdArrive p prdProbe (s.prdEntry h.host) f).settle := by
  subst hh
  show settled (s.prdArrive p prdProbe (s.prdEntry (prdHdr p).host) _) = _
  rw [settled, State.prdArrive_congr (g := f)]
  intro u d
  rw [spec u d _ _ rfl rfl]

end

/-! ### Pulls -/

theorem State.peak_ns (s : State) (f : Field) (v : Nat) : (s.peak f v).ns = s.ns := by
  unfold State.peak
  split <;> rfl

theorem State.showPart_ns (s : State) (p : Nat) : (s.showPart p).ns = s.ns := by
  simp only [State.showPart, State.peak_ns, State.wr_ns]

theorem State.freeCells_ns (s : State) (key : Nat) : (s.freeCells key).ns = s.ns := by
  unfold State.freeCells
  cases Tab.find key s.mfd.held with
  | none => rfl
  | some h => exact State.showPart_ns _ _

theorem State.freePulls_ns (id : Nat) (rs : List Pull) : ∀ s : State, (s.freePulls id rs).ns = s.ns := by
  induction rs with
  | nil => intro s; rfl
  | cons r rs ih =>
    intro s
    show ((s.freeCells (holdPull id r.off)).freePulls id rs).ns = s.ns
    rw [ih, State.freeCells_ns]

section
variable {id : Nat} {s : State}

theorem exec_pullTimeout_of_none (none : s.cmdOf id = none) : exec (.pullTimeout id) s = .next s.settle := by
  show execPullTimeout id s = _
  simp only [execPullTimeout, settled, none]

variable {c : Cmd} (some : s.cmdOf id = some c)
include some

theorem exec_pullTimeout_of_idle (idle : c.prd.asked = []) : exec (.pullTimeout id) s = .next s.settle := by
  show execPullTimeout id s = _
  simp only [execPullTimeout, settled, some, idle]

theorem exec_pullTimeout_of_asked (a : Pull) (rest due : List Pull) (life : Nat) (u v : State) (asked : c.prd.asked = a :: rest)
    (hl : life = s.rd Reg.WELL_PRD_PULL_TIMEOUT * us) (hu : u = s.atLeast (rest.foldl (fun m r => min m r.at_) a.at_ + life))
    (hd : due = c.prd.asked.filter fun r => decide (r.at_ + life ≤ u.tm.mono))
    (hv : v = (u.updCmd id fun c => { c with prd := { c.prd with asked := [], queued := [] } }).freePulls id c.prd.asked) :
    exec (.pullTimeout id) s = .next (if ∃ r ∈ due, u.rd Reg.WELL_PRD_PULL_RETRIES ≤ r.again then
        if c.stage = .remote then v.toPeer (v.nsOr c.sqe.nsid).owner (.forward (.abandon id)) else u.abandonCmd id c
      else due.foldl (fun (s : State) r => s.pullAgain id c r) u).settle := by
  have names : v.nsOr c.sqe.nsid = u.nsOr c.sqe.nsid := by
    unfold State.nsOr State.nsOf
    rw [hv, State.freePulls_ns]
    rfl
  rw [asked] at hd hv
  show execPullTimeout id s = _
  simp only [execPullTimeout, settled, some, asked, ← hl, ← hu, ← hd, ← hv, List.any_eq_true, decide_eq_true_eq, beq_iff_eq, names]

theorem exec_prdAdmitDeadline_of_some : exec (.prdAdmitDeadline id) s =
    .next (if c.key = none ∨ c.stage ≠ .held ∨ nonIdempotent c = false then s
      else (s.atShelf (c.prd.issue + s.judgedLife)).refuseLate id c).settle := by
  show execPrdAdmitDeadline id s = _
  simp only [execPrdAdmitDeadline, settled, some, Bool.or_eq_true, bne_iff_ne, Bool.not_eq_true', Option.isNone_iff_eq_none, or_assoc]

end

theorem exec_prdAdmitDeadline_of_none (id : Nat) (s : State) (none : s.cmdOf id = none) : exec (.prdAdmitDeadline id) s = .next s.settle := by
  show execPrdAdmitDeadline id s = _
  simp only [execPrdAdmitDeadline, settled, none]

/-! ### The table's and the hosts' ends -/

theorem exec_prdEntryExpiry (host : BitVec 14) (gen : BitVec 16) (tid : BitVec 64) (s : State) : exec (.prdEntryExpiry host gen tid) s =
    .next ((s.recentOf host.toNat gen.toNat tid.toNat).elim s fun e => (s.atLeast (e.expiry * us)).reclaim.showTable).settle := by
  show execPrdEntryExpiry host gen tid s = _
  unfold execPrdEntryExpiry settled
  cases s.recentOf host.toNat gen.toNat tid.toNat <;> simp only [Option.elim]

theorem exec_tLifeRaiseSettled (s : State) : exec .tLifeRaiseSettled s = .next (s.prd.oldLife.elim s fun o =>
    { s.atLeast o.2 with prd := { (s.atLeast o.2).prd with oldLife := none } }).settle := by
  show execTLifeRaiseSettled s = _
  unfold execTLifeRaiseSettled settled
  cases s.prd.oldLife <;> simp only [Option.elim]

theorem exec_prdStepHoldEnd (s : State) : exec .prdStepHoldEnd s = .next (s.prd.stepHold.elim s fun at_ =>
    ({ s.atLeast at_ with prd := { (s.atLeast at_).prd with stepHold := none } } : State).showPrd).settle := by
  show execPrdStepHoldEnd s = _
  unfold execPrdStepHoldEnd settled
  cases s.prd.stepHold <;> simp only [Option.elim]

section
variable (value : W32) (bit : Nat) (write : Bool) {s u : State} (hu : u = s.writeWord offPrdHostAcc value)
include hu

theorem State.hostAccess_of_idle (idle : u.decodeOf .well ≠ .all ∨ u.begins .well = false ∨ value.toNat / 2 ^ bit % 2 = 0 ∨
    u.is Reg.WELL_PRD_HOST_STATUS_BUSY = true) : s.hostAccess value bit write = u := by
  simp only [State.hostAccess, ← hu, Bool.or_eq_true, bne_iff_ne, Bool.not_eq_true', beq_iff_eq, or_assoc]
  rw [if_pos idle]

theorem State.hostAccess_runs (decoded : u.decodeOf .well = .all) (runs : u.begins .well = true) (set : value.toNat / 2 ^ bit % 2 = 1)
    (free : u.is Reg.WELL_PRD_HOST_STATUS_BUSY = false) : s.hostAccess value bit write =
      ({ u with prd := { u.prd with access := some (value.toNat % 16384,
        if write then some ((List.range 8).map fun k => u.rd (Reg.WELL_PRD_HOST_DATA.at k)) else none) } } : State).wr
          Reg.WELL_PRD_HOST_STATUS_BUSY 1 := by
  simp [State.hostAccess, ← hu, decoded, runs, set, free]

end

/-- Settles O52, one command at a time. -/
theorem prdCommandsAreJudgedByTheTable : Obligations.PrdCommandsAreJudgedByTheTable := by
  refine ⟨fun p type e f s u v hu hv => ⟨State.prdArrive_of_off p type e f s, State.prdArrive_of_early p type e f s,
      State.prdArrive_of_closed p type e f s, fun on serves accepts runs => ?arrive⟩, exec_prdCmdReceive,
    fun p h f s hh => ⟨exec_prdWdataReceive_of_none p h f s hh, exec_prdWdataReceive_of_some p h f s hh⟩, exec_prdProbe,
    fun id s => ⟨exec_pullTimeout_of_none, fun c some => ⟨exec_pullTimeout_of_idle some, fun a rest due life u asked hl hu hd => ?pull⟩⟩,
    fun id s => ⟨exec_prdAdmitDeadline_of_none id s, fun c some => ⟨fun other => ?notLate, fun keyed held recorded => ?late⟩⟩,
    fun host gen tid s => ⟨fun none => ?noEntry, fun e some => ?entry⟩,
    fun s => ⟨fun none => ?noRaise, fun o u some hu => ?raised, fun none => ?noHold, fun at_ u some hu => ?held⟩,
    fun value bit write s u hu => ⟨rfl, rfl, State.hostAccess_of_idle value bit write hu, State.hostAccess_runs value bit write hu⟩,
    fun s => ⟨fun none => ?noAccess, fun h u hu => ⟨fun d write => ?write, fun read => ?read⟩⟩⟩
  case arrive =>
    rw [State.prdArrive_of_open p type e f s on serves accepts runs u v hu hv]
    refine ⟨fun bad => by rw [if_pos bad], fun good foreign => ?_, fun good known closed => ?_, fun d good known opened => ?_⟩ <;>
      rw [if_neg (ne_false_of_eq_true good)]
    · rw [if_pos foreign]
    · rw [if_neg (ne_false_of_eq_true known), closed]; rfl
    · rw [if_neg (ne_false_of_eq_true known), opened]; rfl
  case pull =>
    refine ⟨fun again => ?_, fun spent => ⟨fun here => ?_, fun v remote hv => ?_⟩⟩
    · rw [exec_pullTimeout_of_asked some a rest due life u _ asked hl hu hd rfl,
        if_neg fun ⟨r, mem, spent⟩ => Nat.not_le.2 (again r mem) spent]
    · rw [exec_pullTimeout_of_asked some a rest due life u _ asked hl hu hd rfl, if_pos spent, if_neg here]
    · rw [exec_pullTimeout_of_asked some a rest due life u v asked hl hu hd hv, if_pos spent, if_pos remote]
  case notLate => rw [exec_prdAdmitDeadline_of_some some, if_pos other]
  case late =>
    rw [exec_prdAdmitDeadline_of_some some, if_neg (not_or.2 ⟨keyed, not_or.2 ⟨Classical.not_not.2 held, ne_false_of_eq_true recorded⟩⟩)]
  case noEntry => rw [exec_prdEntryExpiry, none]; rfl
  case entry => rw [exec_prdEntryExpiry, some]; rfl
  case noRaise => rw [exec_tLifeRaiseSettled, none]; rfl
  case raised => rw [exec_tLifeRaiseSettled, some, hu]; rfl
  case noHold => rw [exec_prdStepHoldEnd, none]; rfl
  case held => rw [exec_prdStepHoldEnd, some, hu]; rfl
  case noAccess =>
    show execPrdHostAccessDone s = _
    simp only [execPrdHostAccessDone, settled, none]
  case write =>
    show execPrdHostAccessDone s = _
    simp only [execPrdHostAccessDone, settled, write, ← hu]
  case read =>
    show execPrdHostAccessDone s = _
    simp only [execPrdHostAccessDone, settled, read, ← hu]

end Sys2Proof.Machine
end
/-! ## Pod members (O53) -/

section
namespace Sys2Proof.Machine

/-! ### Peer links -/

section
variable (link : Fin 2) (s : State)

theorem exec_peerLinkTrained (tr : PeerTrained) (k : Nat) (t u v w : State) (hk : k = link.val)
    (ht : t = (s.wr (Reg.PL_LINK_POL_INV.at k) tr.polInv).wrB (Reg.PL_LINK_REVERSED.at k) tr.reversed)
    (hu : u = (t.wrB (Reg.PL_LINK_DEGRADED.at k) false).showLanes k tr.lanes)
    (hv : v = (u.wr (Reg.PL_LINK_NEIGHBOUR.at k) tr.member.val).wr (Reg.PL_LINK_NEIGHBOUR_VALID.at k) 1)
    (hw : w = v.updPl k fun l =>
      { credit := tr.credit, txSeq := l.unacked.length, unacked := l.unacked.zipIdx.map fun e => { e.1 with seq := e.2 + 1 } }) :
    exec (.peerLinkTrained link tr) s =
    .next (if s.plEnabled k = false ∨ s.domainFailed (140 + k) = true ∨ s.st < stPRIME ∨ stISOLATED < s.st ∨ s.stopped (plBlock k) = true ∨
        lkActive ≤ s.plk k ∨ s.lanesGood k tr.lanes = false ∨ s.paramGood k tr = false then s else w.plRuns k).settle := by
  subst hk
  show execPeerLinkTrained link tr s = _
  simp only [execPeerLinkTrained, settled, ← ht, ← hu, ← hv, ← hw, Bool.or_eq_true, Bool.not_eq_true', decide_eq_true_eq, or_assoc]
  by_cases idle : s.plEnabled link.val = false ∨ s.domainFailed (140 + link.val) = true ∨ s.st < stPRIME ∨ stISOLATED < s.st ∨
    s.stopped (plBlock link.val) = true ∨ lkActive ≤ s.plk link.val
  · rw [if_pos idle, if_pos (by grind)]
  · rw [if_neg idle]
    by_cases bad : s.lanesGood link.val tr.lanes = false ∨ s.paramGood link.val tr = false
    · rw [if_pos bad, if_pos (by grind)]
    · rw [if_neg bad, if_neg (by grind)]

theorem exec_peerLinkRecoveryEntry : exec (.peerLinkRecoveryEntry link) s =
    .next (if s.plk link.val ≠ lkActive then s else s.plRecover link.val).settle := by
  show execPeerLinkRecoveryEntry link s = _
  simp only [execPeerLinkRecoveryEntry, settled, bne_iff_ne]

theorem exec_peerLinkRecoveryDone (lanes : Nat) : exec (.peerLinkRecoveryDone link lanes) s =
    .next (if s.plk link.val ≠ lkRecovery ∨ s.lanesGood link.val lanes = false then s
      else (s.showLanes link.val lanes).plRuns link.val).settle := by
  show execPeerLinkRecoveryDone link lanes s = _
  simp only [execPeerLinkRecoveryDone, settled, Bool.or_eq_true, bne_iff_ne, Bool.not_eq_true']

theorem exec_peerLinkLost (k : Nat) (u v : State) (hk : k = link.val)
    (hu : u = s.atLeast ((Tab.getD k {} s.pod.links).recoveryAt + s.rd (Reg.PL_LINK_CFG_RETRAIN_LIMIT.at k) * ms))
    (hv : v = ((u.wr (Reg.PL_LINK_STATE.at k) lkDown).wr (Reg.PL_LINK_WIDTH.at k) 0).wr (Reg.PL_LINK_NEIGHBOUR_VALID.at k) 0) :
    exec (.peerLinkLost link) s =
    .next (if s.plk k ≠ lkRecovery then s else (((v.count (Reg.PL_CNT_LINK_LOSSES.at k)).raise sevUncorrected (plBlock k)
        (Reg.PL_LINK_STATE.at k).off 0).dropHops k).portDown (52 + k)).settle := by
  subst hk
  show execPeerLinkLost link s = _
  simp only [execPeerLinkLost, settled, bne_iff_ne, ← hu, ← hv]

theorem exec_brontantoFrameReceive_of_down (f : PodFrame) (down : s.plk link.val ≠ lkActive) :
    exec (.brontantoFrameReceive link f) s = .next s.settle := by
  show execBrontantoFrameReceive link f s = _
  simp only [execBrontantoFrameReceive, settled]
  rw [if_pos (by simpa using down)]

theorem exec_brontantoFrameReceive_of_active (f : PodFrame) (k : Nat) (t u : State) (hk : k = link.val) (active : s.plk k = lkActive)
    (ht : t = s.corrected (plBlock k) (Reg.PL_CNT_FEC_CORRECTED.at k) f.fecCorrected k) (hu : u = (t.takeAck k f).startPort (52 + k)) :
    exec (.brontantoFrameReceive link f) s =
    .next (if f.crcGood = false then ((t.count (Reg.PL_CNT_CRC_ERR.at k)).updPl k fun l => { l with discarding := true }).sendAck k 0
      else if f.type = 6 then u.heardFrom f.src.val
      else if f.seq.toNat = ((u.linkPl k).rxSeq + 1) % 2 ^ 32 then u.takeFrame k f
      else if (u.linkPl k).discarding = true then u else u.sendAck k 0).settle := by
  subst hk
  show execBrontantoFrameReceive link f s = _
  simp only [execBrontantoFrameReceive, settled, active, bne_self_eq_false, Bool.false_eq_true, if_false, ← ht, ← hu, Bool.not_eq_true',
    beq_iff_eq]

end

/-! ### HELLO and the live set -/

theorem exec_helloSend (s t u : State) (ht : t = s.atLeast (s.pod.helloAt + s.rd Reg.POD_CFG_HEARTBEAT * (10 * us)))
    (hu : u = { t with pod := { t.pod with helloAt := t.tm.mono } }) : exec .helloSend s =
    .next (if s.params.podSection = false ∨ s.st < stPOD ∨ stISOLATED < s.st ∨ s.begins .pod = false then s
      else ((List.range 2).filter fun k => u.plk k == lkActive).foldl (fun (s : State) k =>
        s.toLink (52 + k) (s.rd (Reg.PL_LINK_NEIGHBOUR.at k)) (.hello s.hello)) u).settle := by
  show execHelloSend s = _
  simp only [execHelloSend, settled, Bool.or_eq_true, Bool.not_eq_true', decide_eq_true_eq, or_assoc, ← ht, ← hu]

section
variable (link : Fin 2) (hops : Fin 8) (h : Hello) (s : State)

theorem exec_hello_of_out (out : s.plk link.val ≠ lkActive ∨ s.st < stPOD ∨ stISOLATED < s.st ∨ s.stopped .pod = true ∨
    h.member.val = s.selfIndex) : exec (.hello link hops h) s = .next s.settle := by
  show execHello link hops h s = _
  simp only [execHello, settled, Bool.or_eq_true, bne_iff_ne, decide_eq_true_eq, beq_iff_eq, or_assoc]
  rw [if_pos out]

theorem exec_hello_of_in (k m : Nat) (t u v : State) (hk : k = link.val) (hm : m = h.member.val) (active : s.plk k = lkActive)
    (low : stPOD ≤ s.st) (high : s.st ≤ stISOLATED) (runs : s.stopped .pod = false) (other : m ≠ s.selfIndex)
    (ht : t = if s.plk (1 - k) = lkActive ∧ hops.val < 7 then
      s.relay k { type := 5, src := m, dest := 0xFF, hops := 7 - hops.val, body := .msg (.hello h) } else s)
    (hu : u = t.heardFrom m)
    (hv : v = { u with pod := { u.pod with heard := Tab.upd m {} (fun e =>
      if k = 0 then { e with hello := some h, hopsA := hops.val } else { e with hello := some h, hopsB := hops.val }) u.pod.heard } }) :
    exec (.hello link hops h) s = .next ((t.helloMismatch h).elim (if v.podTalks = true then (v.showHops m).takeHello h else v.showHops m)
      (t.refuseMember h)).settle := by
  subst hk hm
  have taken : ((((s.plk link.val != lkActive || s.st < stPOD) || stISOLATED < s.st) || s.stopped .pod) || h.member.val == s.selfIndex) =
      false := by
    simp [active, low, high, runs, other]
  show execHello link hops h s = _
  simp only [execHello, settled, taken, Bool.false_eq_true, if_false, Bool.and_eq_true, beq_iff_eq, decide_eq_true_eq, ← ht, ← hu, ← hv]
  cases t.helloMismatch h <;> simp only [Option.elim]

end

theorem exec_joinRefuse (src : Fin 8) (cause : Nat) (s u : State) (hu : u = if s.podTalks = true then s.heardFrom src.val else s) :
    exec (.joinRefuse src cause) s =
    .next (if u.st ≠ stPOD then u else (u.count Reg.POD_CNT_JOIN_REFUSED).enterState stISOLATED cause).settle := by
  show execJoinRefuse src cause s = _
  simp only [execJoinRefuse, settled, ← hu, bne_iff_ne]

theorem exec_liveSetReq (src : Fin 8) (s v : State) (hv : v = (s.heardFrom src.val).toPeer src.val (.liveSet s.liveEpoch s.liveSet)) :
    exec (.liveSetReq src) s =
    .next (if s.serving = false then s else if v.partner ≠ some src.val then v else v.giveKeys src.val).settle := by
  show execLiveSetReq src s = _
  simp only [execLiveSetReq, settled, ← hv, bne_iff_ne, Bool.not_eq_true']

theorem exec_liveSet (src : Fin 8) (epoch : Nat) (values : List (Nat × W32)) (s u v : State) (hu : u = s.heardFrom src.val)
    (hv : v = u.adoptLive epoch values) : exec (.liveSet src epoch values) s =
    .next (if s.podTalks = false then s
      else if u.st = stPOD then { v with pod := { v.pod with liveDone := true, pairKey := v.pod.pairKey || v.partnerServes } }
      else if u.serving = true ∧ u.liveEpoch ≤ epoch then
        (v.count Reg.POD_CNT_LIVE_RESYNC).raise sevInfo .pod Reg.POD_LIVE_EPOCH_LO.off src.val
      else u).settle := by
  show execLiveSet src epoch values s = _
  simp only [execLiveSet, settled, ← hu, ← hv, Bool.not_eq_true', beq_iff_eq, Bool.and_eq_true, decide_eq_true_eq]

/-! ### Failures -/

theorem exec_memberDeadTime (m : Fin 8) (s : State) : exec (.memberDeadTime m) s =
    .next (if s.rd Reg.POD_STATUS_REACHABLE / 2 ^ m.val % 2 = 0 ∨ m.val = s.selfIndex then s
      else (s.atLeast ((Tab.getD m.val {} s.pod.heard).at_ + s.rd Reg.POD_CFG_DEAD_TIME * ms)).memberFailed m.val).settle := by
  show execMemberDeadTime m s = _
  simp only [execMemberDeadTime, settled, Bool.or_eq_true, beq_iff_eq]

theorem exec_fenceDelayExpiry (s : State) : exec .fenceDelayExpiry s =
    .next (s.pod.fenceAt.elim s fun at_ => (s.atLeast at_).beginFence).settle := by
  show execFenceDelayExpiry s = _
  unfold execFenceDelayExpiry settled
  cases s.pod.fenceAt <;> simp only [Option.elim]

theorem exec_failoverFenced (s : State) : exec .failoverFenced s = .next (if s.mayTakeOver = false then s
    else if s.enterSingle.sump.peerStale = true then s.enterSingle else s.enterSingle.takeOver).settle := by
  show execFailoverFenced s = _
  simp only [execFailoverFenced, settled, Bool.not_eq_true']

/-- Settles O53, one command at a time. -/
theorem membersLinkHearJoinAndFail : Obligations.MembersLinkHearJoinAndFail := by
  refine ⟨fun link tr s => ⟨fun out => ?noTraining, fun k t u v w hk on whole low high runs down lanes param ht hu hv hw => ?trained⟩,
    fun link lanes s => ⟨fun down => ?noRecovery, fun active => ?recovery, fun out => ?stays, fun recovers good => ?recovered,
      fun other => ?notLost, fun k u v hk recovers hu hv => ?lost⟩,
    fun link f s => ⟨exec_brontantoFrameReceive_of_down link s f, fun k t u hk active ht hu => ?frame⟩,
    fun s => ⟨fun out => ?noHello, fun t u section_ low high begins ht hu => ?helloSend⟩,
    fun link hops h s => ⟨exec_hello_of_out link hops h s, fun k m t u v hk hm active low high runs other ht hu hv => ?hello⟩,
    fun src cause epoch values s u hu => ?live, fun m s => ⟨rfl, fun idle => ?heard, fun reached other => ?silent⟩, fun s => ?fence⟩
  case noTraining => rw [exec_peerLinkTrained link s tr _ _ _ _ _ rfl rfl rfl rfl rfl, if_pos out]
  case trained =>
    have trains : ¬(s.plEnabled k = false ∨ s.domainFailed (140 + k) = true ∨ s.st < stPRIME ∨ stISOLATED < s.st ∨
        s.stopped (plBlock k) = true ∨ lkActive ≤ s.plk k ∨ s.lanesGood k tr.lanes = false ∨ s.paramGood k tr = false) := by
      simp [on, whole, low, high, runs, down, lanes, param]
    rw [exec_peerLinkTrained link s tr k t u v w hk ht hu hv hw, if_neg trains]
  case noRecovery => rw [exec_peerLinkRecoveryEntry, if_pos down]
  case recovery => rw [exec_peerLinkRecoveryEntry, if_neg (Classical.not_not.2 active)]
  case stays => rw [exec_peerLinkRecoveryDone, if_pos out]
  case recovered => rw [exec_peerLinkRecoveryDone, if_neg (not_or.2 ⟨Classical.not_not.2 recovers, ne_false_of_eq_true good⟩)]
  case notLost => rw [exec_peerLinkLost link s _ _ _ rfl rfl rfl, if_pos other]
  case lost => rw [exec_peerLinkLost link s k u v hk hu hv, if_neg (Classical.not_not.2 recovers)]
  case frame =>
    rw [exec_brontantoFrameReceive_of_active link s f k t u hk active ht hu]
    refine ⟨fun bad => by rw [if_pos bad], fun good ack => ?_, fun good other next => ?_, fun good other late => ?_⟩ <;>
      rw [if_neg (ne_false_of_eq_true good)]
    · rw [if_pos ack]
    · rw [if_neg other, if_pos next]
    · rw [if_neg other, if_neg late]
  case noHello => rw [exec_helloSend s _ _ rfl rfl, if_pos out]
  case helloSend =>
    have sends : ¬(s.params.podSection = false ∨ s.st < stPOD ∨ stISOLATED < s.st ∨ s.begins .pod = false) := by
      simp [section_, low, high, begins]
    rw [exec_helloSend s t u ht hu, if_neg sends]
  case hello =>
    rw [exec_hello_of_in link hops h s k m t u v hk hm active low high runs other ht hu hv]
    exact ⟨fun c mismatch => by rw [mismatch]; rfl, fun none => by rw [none]; rfl⟩
  case live =>
    refine ⟨fun mute other => ?_, fun talks other => ?_, fun talks joining => ?_, fun idle => ?_, fun v serving hv => ?_, fun mute => ?_,
      fun v talks hv => ?_⟩
    · rw [exec_joinRefuse src cause s s (by rw [if_neg (ne_true_of_eq_false mute)]), if_pos other]
    · rw [exec_joinRefuse src cause s u (by rw [if_pos talks, hu]), if_pos other]
    · rw [exec_joinRefuse src cause s u (by rw [if_pos talks, hu]), if_neg (Classical.not_not.2 joining)]
    · rw [exec_liveSetReq src s _ rfl, if_pos idle]
    · rw [exec_liveSetReq src s v (by rw [hv, hu]), if_neg (ne_false_of_eq_true serving)]
      exact ⟨fun other => by rw [if_pos other], fun partner => by rw [if_neg (Classical.not_not.2 partner)]⟩
    · rw [exec_liveSet src epoch values s u _ hu rfl, if_pos mute]
    · rw [exec_liveSet src epoch values s u v hu hv, if_neg (ne_false_of_eq_true talks)]
      refine ⟨fun joining => by rw [if_pos joining], fun other serving newer => ?_, fun other out => ?_⟩ <;> rw [if_neg other]
      · rw [if_pos ⟨serving, newer⟩]
      · rw [if_neg fun ⟨serving, newer⟩ => out.elim (ne_false_of_eq_true serving) fun older => Nat.not_lt.2 newer older]
  case heard => rw [exec_memberDeadTime, if_pos idle]
  case silent => rw [exec_memberDeadTime, if_neg (not_or.2 ⟨by omega, other⟩)]
  case fence =>
    refine ⟨fun none => ?_, fun at_ some => ?_, fun out => ?_, fun may stale => ?_, fun may fresh => ?_⟩
    · rw [exec_fenceDelayExpiry, none]; rfl
    · rw [exec_fenceDelayExpiry, some]; rfl
    · rw [exec_failoverFenced, if_pos out]
    · rw [exec_failoverFenced, if_neg (ne_false_of_eq_true may), if_pos stale]
    · rw [exec_failoverFenced, if_neg (ne_false_of_eq_true may), if_neg (ne_true_of_eq_false fresh)]

end Sys2Proof.Machine
end
/-! ## Pod launches and shared work (O54) -/

section
namespace Sys2Proof.Machine

/-! ### Launches -/

theorem exec_prepare (src : Fin 8) (time epoch : Nat) (snapshot : Bool) (values : List (Nat × W32)) (s : State) :
    exec (.prepare src time epoch snapshot values) s = .next (if s.serving = false then s else (s.heardFrom src.val).answerPrepare
      { coord := src.val, time := time, epoch := epoch, snapshot := snapshot, values := values }).settle := by
  show execPrepare src time epoch snapshot values s = _
  simp only [execPrepare, settled, Bool.not_eq_true']

section
variable (src : Fin 8) (cause : Nat) (s : State)

theorem exec_agree_of_none (none : s.pod.proposal = none) : exec (.agree src) s = .next s.settle := by
  show execAgree src s = _
  simp only [execAgree, settled, none]

theorem exec_agree_of_some (l : Launch) (left : List Nat) (u : State) (some : s.pod.proposal = some l)
    (hl : left = s.pod.awaiting.filter (· != src.val))
    (hu : u = ({ s with pod := { s.pod with awaiting := left } } : State).heardFrom src.val) : exec (.agree src) s =
    .next (if s.pod.go = true ∨ src.val ∉ s.pod.awaiting then s else if left = [] then u.sendGo l else u).settle := by
  simp only [some] at hu
  show execAgree src s = _
  simp only [execAgree, settled, some, ← hl, ← hu, Bool.or_eq_true, Bool.not_eq_true', List.contains_eq_mem, decide_eq_false_iff_not,
    List.isEmpty_iff]

theorem exec_refuse (v : State) (hv : v = (s.heardFrom src.val).wr Reg.POD_LAUNCH_STATUS_REFUSER src.val) : exec (.refuse src cause) s =
    .next (if s.pod.proposal = none ∨ s.pod.go = true ∨ src.val ∉ s.pod.awaiting then s
      else (v.wr Reg.POD_LAUNCH_STATUS_REFUSER_VALID 1).abandonLaunch (refuseCause cause)).settle := by
  show execRefuse src cause s = _
  simp only [execRefuse, settled, ← hv, Bool.or_eq_true, Bool.not_eq_true', List.contains_eq_mem, decide_eq_false_iff_not,
    Option.isNone_iff_eq_none, or_assoc]

theorem exec_go_of_none (none : s.pod.engaged = none) : exec (.go src) s = .next s.settle := by
  show execGo src s = _
  simp only [execGo, settled, none]

theorem exec_go_of_some (l : Launch) (u : State) (some : s.pod.engaged = some l) (hu : u = s.heardFrom src.val) : exec (.go src) s =
    .next (if l.coord ≠ src.val ∨ s.pod.go = true then s else ({ u with
      pod := { u.pod with go := true }
      regs := { u.regs with shadow := l.values.foldl (fun (t : Tab W32) (e : Nat × W32) => Tab.put e.1 e.2 t) u.regs.shadow } } :
        State).armPod l).settle := by
  show execGo src s = _
  simp only [execGo, settled, some, ← hu, Bool.or_eq_true, bne_iff_ne]

theorem exec_abandon (t : State)
    (ht : t = { s with pod := { s.pod with heldPrepare := s.pod.heldPrepare.filter fun l => l.coord != src.val } }) : exec (.abandon src) s =
    .next (if s.podTalks = true ∧ (∃ l ∈ s.pod.engaged, l.coord = src.val ∧ s.pod.go = false) then t.endLaunch plAbandoned 0 else t).settle := by
  have talks : t.podTalks = s.podTalks := by rw [ht]; rfl
  show execAbandon src s = _
  simp only [execAbandon, settled, ← ht, talks, Bool.and_eq_true, Option.any_eq_true, beq_iff_eq, Bool.not_eq_true',
    Option.mem_def]

theorem exec_launchAnswerDeadline_of_none (none : s.pod.proposal = none) : exec .launchAnswerDeadline s = .next s.settle := by
  show execLaunchAnswerDeadline s = _
  simp only [execLaunchAnswerDeadline, settled, none]

theorem exec_launchAnswerDeadline_of_some (l : Launch) (some : s.pod.proposal = some l) : exec .launchAnswerDeadline s =
    .next (if s.pod.go = true then s else (s.atShelf (l.time - ms)).abandonLaunch plNoAnswer).settle := by
  show execLaunchAnswerDeadline s = _
  simp only [execLaunchAnswerDeadline, settled, some]

theorem exec_goLate_of_none (none : s.pod.engaged = none) : exec .goLate s = .next s.settle := by
  show execGoLate s = _
  simp only [execGoLate, settled, none]

theorem exec_goLate_of_some (l : Launch) (some : s.pod.engaged = some l) : exec .goLate s =
    .next (if s.pod.go = true then s else (s.atShelf (l.time - 100 * us)).endLaunch plAbandoned plGoLate).settle := by
  show execGoLate s = _
  simp only [execGoLate, settled, some]

end

/-! ### Tanks and the map -/

theorem exec_grantReq_of_out (src : Fin 8) (s : State) (layout cls : Nat) (cisterns : List Nat)
    (out : s.serving = false ∨ s.allocator = false ∨ s.partner ≠ some src.val ∨ distinct cisterns = false) :
    exec (.grantReq src layout cls cisterns) s = .next s.settle := by
  show execGrantReq src layout cls cisterns s = _
  simp only [execGrantReq, settled, Bool.or_eq_true, bne_iff_ne, Bool.not_eq_true', or_assoc]
  rw [if_pos out]

section
variable (src : Fin 8) (s u : State) (hu : u = s.heardFrom src.val)
include hu

section
variable (layout cls : Nat) (cisterns : List Nat) (serving : s.serving = true) (allocates : s.allocator = true)
  (partner : s.partner = some src.val) (apart : distinct cisterns = true)
include serving allocates partner apart

theorem exec_grantReq_refused
    (refused : u.takeBlocks cls cisterns = none ∨ Tab.lowestFree u.ftl.tanks 0 (u.rd Reg.FTL_TANK_ENTRIES) = none) :
    exec (.grantReq src layout cls cisterns) s = .next (u.toPartner (.grantRefuse layout cls)).settle := by
  have taken : (((!s.serving || !s.allocator) || s.partner != some src.val) || !distinct cisterns) = false := by
    simp [serving, allocates, partner, apart]
  show execGrantReq src layout cls cisterns s = _
  simp only [execGrantReq, settled, taken, Bool.false_eq_true, if_false, ← hu]
  rcases refused with none | none
  · simp only [none]
  · cases blocks : u.takeBlocks cls cisterns <;> simp only [none]

theorem exec_grantReq_granted (ks : List Nat) (n : Nat) (v : State) (blocks : u.takeBlocks cls cisterns = some ks)
    (free : Tab.lowestFree u.ftl.tanks 0 (u.rd Reg.FTL_TANK_ENTRIES) = some n) (hv : v = u.enterTank n layout cls ks false) :
    exec (.grantReq src layout cls cisterns) s =
      .next ((v.toPartner (.grant n layout cls ((v.tankOf n).members.map fun m => (m.cistern, m.die, m.block)))).count
        Reg.POD_CNT_BLOCK_GRANTS).settle := by
  have taken : (((!s.serving || !s.allocator) || s.partner != some src.val) || !distinct cisterns) = false := by
    simp [serving, allocates, partner, apart]
  show execGrantReq src layout cls cisterns s = _
  simp only [execGrantReq, settled, taken, Bool.false_eq_true, if_false, ← hu, blocks, free, ← hv]

end

theorem exec_grant (tank layout cls : Nat) (members : List (Nat × Nat × Nat)) (refused : Bool) (k : Nat) (v w : State)
    (hk : k = clsKey cls layout) (hv : v = u.enterTank tank layout cls (members.map fun m => blkKey m.1 m.2.1 m.2.2) true)
    (hw : w = { v with ftl := { v.ftl with granted := Tab.put k (Tab.getD k [] v.ftl.granted ++ [tank]) v.ftl.granted } }) :
    exec (.grant src tank layout cls members refused) s =
    .next (if s.partner ≠ some src.val ∨ s.serving = false then s
      else if refused = true then (u.grantAnswered layout cls).assignAll
      else ((w.count Reg.POD_CNT_BLOCK_GRANTS).grantAnswered layout cls).assignAll.askGrant layout cls).settle := by
  show execGrant src tank layout cls members refused s = _
  simp only [execGrant, settled, ← hu, ← hv, ← hk, ← hw, Bool.or_eq_true, bne_iff_ne, Bool.not_eq_true']

theorem exec_copyMap (nsid iu source target : Nat) : exec (.copyMap src nsid iu source target) s =
    .next (if s.podTalks = false ∨ s.partner ≠ some src.val ∨ (s.nsOf nsid).any s.owns = false then s
      else if Tab.find (iuKey nsid iu) u.ftl.map = some (.media source) then
        (u.journal (.mapSet nsid iu target true)).setMap nsid iu (some (.media target))
      else u.count Reg.FTL_CNT_COPY_SKIPPED).settle := by
  show execCopyMap src nsid iu source target s = _
  simp only [execCopyMap, settled, ← hu, Bool.or_eq_true, bne_iff_ne, Bool.not_eq_true', beq_iff_eq, or_assoc]

theorem exec_release (tank : Nat) (answer : Bool) : exec (.release src tank answer) s =
    .next (if s.podTalks = false ∨ s.partner ≠ some src.val then s
      else if answer = true then
        if (u.tankOf tank).releaseSent = true then u.updTank tank fun tk => { tk with released := true } else u
      else (u.updTank tank fun tk => { tk with releaseAsked := true }).answerRelease tank).settle := by
  show execRelease src tank answer s = _
  simp only [execRelease, settled, ← hu, Bool.or_eq_true, bne_iff_ne, Bool.not_eq_true']

theorem exec_epochNote (cistern : Fin 48) (epoch : Nat) (v : State)
    (hv : v = { u with pod := { u.pod with epochs := Tab.put cistern.val epoch u.pod.epochs } }) : exec (.epochNote src cistern epoch) s =
    .next (if s.podTalks = false ∨ s.partner ≠ some src.val then s
      else ((v.wr (Reg.SKL_EPOCH_STATUS_FENCED.at cistern.val) 0).reissueRefused cistern.val).assignAll).settle := by
  show execEpochNote src cistern epoch s = _
  simp only [execEpochNote, settled, ← hu, ← hv, Bool.or_eq_true, bne_iff_ne, Bool.not_eq_true']

end

/-! ### Namespaces and keys -/

section
variable (src : Fin 8) (h : Handover) (s : State)

theorem exec_handover_of_none (none : s.nsOf h.nsid = none) : exec (.handover src h) s = .next s.settle := by
  show execHandover src h s = _
  simp only [execHandover, settled, none]

theorem exec_handover_of_some (n m : Ns) (t u v : State) (some : s.nsOf h.nsid = some n) (ht : t = s.heardFrom src.val)
    (hu : u = { t with ftl := { t.ftl with placeSeq := max t.ftl.placeSeq h.seq } }) (hm : m = ({ n with owner := u.selfIndex } : Ns).withResv h)
    (hv : v = ((u.putNs h.nsid m).journal (.owner h.nsid u.selfIndex u.ftl.placeSeq)).count Reg.POD_CNT_OWNER_MOVES) :
    exec (.handover src h) s = .next (if s.podTalks = false ∨ s.partner ≠ Option.some src.val ∨ n.owner ≠ src.val then s
      else (v.releaseMoving fun k => k == h.nsid).anaNotice h.nsid).settle := by
  have seq : u.ftl.placeSeq = max t.ftl.placeSeq h.seq := by rw [hu]
  rw [seq] at hv
  show execHandover src h s = _
  simp only [execHandover, settled, some, ← ht, ← hu, ← hm, ← hv, Bool.or_eq_true, bne_iff_ne, Bool.not_eq_true', or_assoc]

end

theorem exec_keyCopy (src : Fin 8) (slot type : Nat) (key : List Byte) (destroyed : List Nat) (s u : State)
    (hu : u = destroyed.foldl (fun (s : State) f => s.takeDestroyed f) (s.heardFrom src.val)) :
    exec (.keyCopy src slot type key destroyed) s =
    .next (if s.podTalks = false ∨ s.partner ≠ some src.val ∨ s.pod.pairKey = false then s
      else if u.fingerprint type key ∈ u.cry.destroyed ∨ slot = 0 ∨ 8191 < slot ∨ (u.vaultSlot slot).state ≠ slotEmpty then u
      else u.setSlot slot (u.loaded type key)).settle := by
  show execKeyCopy src slot type key destroyed s = _
  simp only [execKeyCopy, settled, ← hu, Bool.or_eq_true, bne_iff_ne, Bool.not_eq_true', List.contains_iff_mem, beq_iff_eq, decide_eq_true_eq,
    or_assoc]

theorem exec_forceOwn (value : W32) (s u v : State) (hu : u = s.writeWord offPodCtl value)
    (hv : v = u.partnerNs.foldl (fun (s : State) n => s.takeNs n) (u.wr Reg.POD_STATUS_OWN_NONE 0)) : exec (.forceOwn value) s =
    .next (if u.decodeOf .pod ≠ .all ∨ value.toNat % 2 = 0 ∨ value.toNat / 65536 ≠ 0x9648 ∨ u.is Reg.POD_STATUS_OWN_NONE = false then u
      else (v.served.filter fun c => !Tab.has c v.pod.epochs).foldl (fun (s : State) c =>
        s.epochSet c (s.rd64 (Reg.SKL_EPOCH_LO.at c) (Reg.SKL_EPOCH_HI.at c) + 1) s.ownBit) v).settle := by
  show execForceOwn value s = _
  simp only [execForceOwn, settled, ← hu, ← hv, Bool.or_eq_true, bne_iff_ne, beq_iff_eq, Bool.not_eq_true', or_assoc]

/-! ### Forwarded commands and moves -/

theorem exec_forward_of_out (src : Fin 8) (m : FwdMsg) (s : State) (out : s.accepting = false ∨ s.memberServes src.val = false) :
    exec (.forward src m) s = .next s.settle := by
  show execForward src m s = _
  simp only [execForward, settled, Bool.or_eq_true, Bool.not_eq_true']
  rw [if_pos out]

section
variable {src : Fin 8} {s u : State} (accepts : s.accepting = true) (serves : s.memberServes src.val = true) (hu : u = s.heardFrom src.val)

/-- The command that this controller has forwarded under a number. -/
def State.remoteCmd (u : State) (ref : Nat) : Option Cmd := (u.cmdOf ref).filter fun c => c.stage == .remote

theorem State.remoteCmd_of_none {ref : Nat} (away : ∀ c, u.cmdOf ref = some c → c.stage ≠ .remote) : u.remoteCmd ref = none := by
  unfold State.remoteCmd
  cases found : u.cmdOf ref with
  | none => rfl
  | some c => simp [Option.filter, away c found]

theorem State.remoteCmd_of_some {ref : Nat} {c : Cmd} (found : u.cmdOf ref = some c) (remote : c.stage = .remote) :
    u.remoteCmd ref = some c := by
  simp [State.remoteCmd, found, Option.filter, remote]

include accepts serves hu

theorem exec_forward_request (ref off len : Nat) : exec (.forward src (.request ref off len)) s =
    .next ((u.remoteCmd ref).elim u fun c => if c.dead = true then u
      else (u.updCmd ref fun _ => { c with buf := cutBytes c.buf off len }).solicit ref { c with buf := cutBytes c.buf off len } off len).settle := by
  show execForward src (.request ref off len) s = _
  simp only [execForward, settled, accepts, serves, Bool.not_true, Bool.or_self, Bool.false_eq_true, if_false, ← hu]
  unfold State.remoteCmd
  cases (u.cmdOf ref).filter fun c => c.stage == .remote <;> simp only [Option.elim]

theorem exec_forward_readData (ref off : Nat) (bytes : List Byte) : exec (.forward src (.readData ref off bytes)) s =
    .next ((u.remoteCmd ref).elim u fun _ => u.sendBytes ref off bytes).settle := by
  show execForward src (.readData ref off bytes) s = _
  simp only [execForward, settled, accepts, serves, Bool.not_true, Bool.or_self, Bool.false_eq_true, if_false, ← hu]
  unfold State.remoteCmd
  cases (u.cmdOf ref).filter fun c => c.stage == .remote <;> simp only [Option.elim]

theorem exec_forward_done (ref status dw0 prd : Nat) (dup : Bool) : exec (.forward src (.done ref status dw0 prd dup)) s =
    .next ((u.remoteCmd ref).elim u fun c => u.forwardOut ref c status dw0 prd dup).settle := by
  show execForward src (.done ref status dw0 prd dup) s = _
  simp only [execForward, settled, accepts, serves, Bool.not_true, Bool.or_self, Bool.false_eq_true, if_false, ← hu]
  unfold State.remoteCmd
  cases (u.cmdOf ref).filter fun c => c.stage == .remote <;> simp only [Option.elim]

theorem exec_forward_data (ref off : Nat) (bytes : List Byte) : exec (.forward src (.data ref off bytes)) s =
    .next ((u.forwardedBy src.val ref).elim u fun e => u.arrived e.1 off bytes).settle := by
  show execForward src (.data ref off bytes) s = _
  simp only [execForward, settled, accepts, serves, Bool.not_true, Bool.or_self, Bool.false_eq_true, if_false, ← hu]
  cases u.forwardedBy src.val ref <;> simp only [Option.elim]

theorem exec_forward_abandon (ref : Nat) : exec (.forward src (.abandon ref)) s =
    .next ((u.forwardedBy src.val ref).elim u fun e => u.abandonForwarded e.1 e.2).settle := by
  show execForward src (.abandon ref) s = _
  simp only [execForward, settled, accepts, serves, Bool.not_true, Bool.or_self, Bool.false_eq_true, if_false, ← hu]
  cases u.forwardedBy src.val ref <;> simp only [Option.elim]

theorem exec_forward_command (f : FwdCmd) : exec (.forward src (.command f)) s = .next (u.forwardIn src.val f).settle := by
  show execForward src (.command f) s = _
  simp only [execForward, settled, accepts, serves, Bool.not_true, Bool.or_self, Bool.false_eq_true, if_false, ← hu]

end

theorem exec_balancingMoveStart_of_none (nsid : Nat) (s : State) (none : s.partner = none) :
    exec (.balancingMoveStart nsid) s = .next s.settle := by
  show execBalancingMoveStart nsid s = _
  simp only [execBalancingMoveStart, settled, none]

theorem exec_balancingMoveStart_of_some (nsid p : Nat) (s t u v : State) (some : s.partner = some p)
    (ht : t = { s with pod := { s.pod with moving := Tab.put nsid p s.pod.moving } })
    (hu : u = if Tab.has nsid s.pod.moving = true then t else t.anaChange)
    (hv : v = if (u.ftl.versions.any fun v => v.nsid == nsid) = true then u.composeAll.assignAll.padStripes else u) :
    exec (.balancingMoveStart nsid) s =
    .next (if s.serving = false ∨ s.partnerServes = false ∨ (s.nsOf nsid).any s.owns = false then s else v.handOver nsid p).settle := by
  have fresh : (if Tab.has nsid s.pod.moving = false then t.anaChange else t) = u := by
    rw [hu]
    cases Tab.has nsid s.pod.moving <;> rfl
  show execBalancingMoveStart nsid s = _
  simp only [execBalancingMoveStart, settled, some, ← ht, Bool.or_eq_true, Bool.not_eq_true', or_assoc, fresh, ← hv]

/-- Settles O54, one command at a time. -/
theorem podLaunchesAndSharedWork : Obligations.PodLaunchesAndSharedWork := by
  refine ⟨fun value s => ⟨rfl, rfl⟩, fun src time epoch snapshot values s => ⟨fun idle => ?noPrepare, fun serving => ?prepare⟩,
    fun src cause s => ⟨fun idle => ?noAnswer, fun l left u v some go awaited hl hu hv => ?answer⟩,
    fun src s t ht => ⟨fun other => ?noGo, fun mute => ?muteAbandon, fun l u some coord go hu => ?go⟩, fun s => ?deadlines,
    fun src layout cls cisterns s u hu => ⟨exec_grantReq_of_out src s layout cls cisterns, fun serving allocates partner apart =>
      ⟨exec_grantReq_refused src s u hu layout cls cisterns serving allocates partner apart,
        exec_grantReq_granted src s u hu layout cls cisterns serving allocates partner apart⟩⟩,
    fun src tank layout cls members s u hu => ⟨fun refused out => ?noGrant, fun partner serving => ⟨?grantRefused, fun k v w hk hv hw => ?granted⟩⟩,
    fun src nsid iu source target s u hu => ?copy, fun src tank s u hu => ?release,
    fun src h s => ⟨exec_handover_of_none src h s, fun n some out => ?noHandover, fun n m t u v some talks partner owner ht hu hm hv => ?handover⟩,
    fun src cistern epoch s t u ht hu => ⟨fun out => ?noEpoch, fun talks partner => ?epoch⟩,
    fun src slot type key destroyed s u hu => ⟨fun out => ?noKey, fun talks partner keyed => ?key⟩,
    fun value s u hu => ⟨fun idle => ?noOwn, fun v decoded set keyed unowned hv => ?own⟩, exec_forward_of_out,
    fun src s u accepts serves hu => ⟨fun f => exec_forward_command accepts serves hu f, fun ref off len bytes status dw0 prd dup => ?forward⟩,
    fun nsid s => ⟨fun out => ?noMove, fun p t u v some serving partner owned ht hu hv => ?move⟩⟩
  case noPrepare => rw [exec_prepare, if_pos idle]
  case prepare => rw [exec_prepare, if_neg (ne_false_of_eq_true serving)]
  case noAnswer =>
    refine ⟨?_, by rw [exec_refuse src cause s _ rfl, if_pos idle]⟩
    cases proposal : s.pod.proposal with
    | none => exact exec_agree_of_none src s proposal
    | some l => rw [exec_agree_of_some src s l _ _ proposal rfl rfl, if_pos (idle.resolve_left (by simp [proposal]))]
  case answer =>
    have taken : ¬(s.pod.go = true ∨ src.val ∉ s.pod.awaiting) := not_or.2 ⟨ne_true_of_eq_false go, Classical.not_not.2 awaited⟩
    rw [exec_agree_of_some src s l left u some hl hu, if_neg taken, exec_refuse src cause s v hv,
      if_neg (not_or.2 ⟨by simp [some], taken⟩)]
    exact ⟨fun last => by rw [if_pos last], fun more => by rw [if_neg more], rfl⟩
  case noGo =>
    constructor
    · cases engaged : s.pod.engaged with
      | none => exact exec_go_of_none src s engaged
      | some l => rw [exec_go_of_some src s l _ engaged rfl, if_pos (other l engaged)]
    · rw [exec_abandon src s t ht, if_neg]
      rintro ⟨_, l, engaged, coord, go⟩
      exact (other l engaged).elim (· coord) (ne_true_of_eq_false go)
  case muteAbandon => rw [exec_abandon src s t ht, if_neg fun talks => ne_true_of_eq_false mute talks.1]
  case go =>
    rw [exec_go_of_some src s l u some hu, if_neg (not_or.2 ⟨Classical.not_not.2 coord, ne_true_of_eq_false go⟩), exec_abandon src s t ht]
    exact ⟨rfl, fun talks => by rw [if_pos ⟨talks, l, some, coord, go⟩]⟩
  case deadlines =>
    refine ⟨fun idle => ?_, fun l some go => ?_, fun idle => ?_, fun l some go => ?_⟩
    · cases proposal : s.pod.proposal with
      | none => exact exec_launchAnswerDeadline_of_none s proposal
      | some l => rw [exec_launchAnswerDeadline_of_some s l proposal, if_pos (idle.resolve_left (by simp [proposal]))]
    · rw [exec_launchAnswerDeadline_of_some s l some, if_neg (ne_true_of_eq_false go)]
    · cases engaged : s.pod.engaged with
      | none => exact exec_goLate_of_none s engaged
      | some l => rw [exec_goLate_of_some s l engaged, if_pos (idle.resolve_left (by simp [engaged]))]
    · rw [exec_goLate_of_some s l some, if_neg (ne_true_of_eq_false go)]
  case noGrant => rw [exec_grant src s u hu tank layout cls members refused _ _ _ rfl rfl rfl, if_pos out]
  case grantRefused =>
    rw [exec_grant src s u hu tank layout cls members true _ _ _ rfl rfl rfl,
      if_neg (not_or.2 ⟨Classical.not_not.2 partner, ne_false_of_eq_true serving⟩), if_pos rfl]
  case granted =>
    rw [exec_grant src s u hu tank layout cls members false k v w hk hv hw,
      if_neg (not_or.2 ⟨Classical.not_not.2 partner, ne_false_of_eq_true serving⟩), if_neg Bool.false_ne_true]
  case copy =>
    rw [exec_copyMap src s u hu nsid iu source target]
    refine ⟨fun out => by rw [if_pos out], fun talks partner owned => ?_⟩
    rw [if_neg (not_or.2 ⟨ne_false_of_eq_true talks, not_or.2 ⟨Classical.not_not.2 partner, ne_false_of_eq_true owned⟩⟩)]
    exact ⟨fun there => by rw [if_pos there], fun gone => by rw [if_neg gone]⟩
  case release =>
    refine ⟨fun answer out => by rw [exec_release src s u hu, if_pos out], fun talks partner => ?_⟩
    have taken : ¬(s.podTalks = false ∨ s.partner ≠ some src.val) := not_or.2 ⟨ne_false_of_eq_true talks, Classical.not_not.2 partner⟩
    rw [exec_release src s u hu tank true, exec_release src s u hu tank false, if_neg taken, if_neg taken, if_pos rfl, if_neg Bool.false_ne_true]
    exact ⟨fun sent => by rw [if_pos sent], fun unsent => by rw [if_neg (ne_true_of_eq_false unsent)], rfl⟩
  case noHandover => rw [exec_handover_of_some src h s n _ _ _ _ some rfl rfl rfl rfl, if_pos out]
  case handover =>
    rw [exec_handover_of_some src h s n m t u v some ht hu hm hv,
      if_neg (not_or.2 ⟨ne_false_of_eq_true talks, not_or.2 ⟨Classical.not_not.2 partner, Classical.not_not.2 owner⟩⟩)]
  case noEpoch => rw [exec_epochNote src s t ht cistern epoch u hu, if_pos out]
  case epoch => rw [exec_epochNote src s t ht cistern epoch u hu, if_neg (not_or.2 ⟨ne_false_of_eq_true talks, Classical.not_not.2 partner⟩)]
  case noKey => rw [exec_keyCopy src slot type key destroyed s u hu, if_pos out]
  case key =>
    rw [exec_keyCopy src slot type key destroyed s u hu,
      if_neg (not_or.2 ⟨ne_false_of_eq_true talks, not_or.2 ⟨Classical.not_not.2 partner, ne_false_of_eq_true keyed⟩⟩)]
    refine ⟨fun bad => by rw [if_pos bad], fun fresh nonzero low empty => ?_⟩
    rw [if_neg (not_or.2 ⟨fresh, not_or.2 ⟨nonzero, not_or.2 ⟨Nat.not_lt.2 low, Classical.not_not.2 empty⟩⟩⟩)]
    rfl
  case noOwn => rw [exec_forceOwn value s u _ hu rfl, if_pos idle]
  case own =>
    rw [exec_forceOwn value s u v hu hv,
      if_neg (not_or.2 ⟨Classical.not_not.2 decoded, not_or.2 ⟨by omega, not_or.2 ⟨Classical.not_not.2 keyed, ne_false_of_eq_true unowned⟩⟩⟩)]
  case forward =>
    rw [exec_forward_request accepts serves hu, exec_forward_readData accepts serves hu, exec_forward_done accepts serves hu,
      exec_forward_data accepts serves hu, exec_forward_abandon accepts serves hu]
    refine ⟨fun away => ?_, fun c d found remote hd => ?_, fun none => ?_, fun id c some => ?_⟩
    · rw [State.remoteCmd_of_none away]
      exact ⟨rfl, rfl, rfl⟩
    · subst hd
      rw [State.remoteCmd_of_some found remote]
      exact ⟨fun dead => by rw [Option.elim, if_pos dead], fun live => by rw [Option.elim, if_neg (ne_true_of_eq_false live)], rfl, rfl⟩
    · rw [none]
      exact ⟨rfl, rfl⟩
    · rw [some]
      exact ⟨rfl, rfl⟩
  case noMove =>
    cases partner : s.partner with
    | none => exact exec_balancingMoveStart_of_none nsid s partner
    | some p =>
      rw [exec_balancingMoveStart_of_some nsid p s _ _ _ partner rfl rfl rfl, if_pos (out.resolve_left (by simp [partner]))]
  case move =>
    rw [exec_balancingMoveStart_of_some nsid p s t u v some ht hu hv,
      if_neg (not_or.2 ⟨ne_false_of_eq_true serving, not_or.2 ⟨ne_false_of_eq_true partner, ne_false_of_eq_true owned⟩⟩)]

end Sys2Proof.Machine
end
/-! ## O55: requests on PCIe -/

section
namespace Sys2Proof.Machine

/-! ### The link and configuration space -/

theorem exec_pcieLinkTrained (speed : Fin 7) (width : Nat) (flit : Bool) (s : State) : exec (.pcieLinkTrained speed width flit) s =
    .next (if s.pcie.perstLow = true ∨ s.domainFailed 142 = true ∨ s.rd Reg.PWR_CLK_LOCK / 2 ^ 13 % 2 = 0 ∨ speed.val = 0 ∨
        width ∉ [1, 2, 4, 8] then s
      else ((({ s with pcie := { s.pcie with linkUp := true } } : State).wr Reg.PCIE_LINK_SPEED speed.val).wr
        Reg.PCIE_LINK_WIDTH width).wrB Reg.PCIE_LINK_FLIT flit).settle := by
  show execPcieLinkTrained speed width flit s = _
  simp only [execPcieLinkTrained, settled, Bool.or_eq_true, Bool.not_eq_true', beq_iff_eq, List.contains_eq_mem, decide_eq_false_iff_not,
    or_assoc]

/-- A configuration request waits for the link, and then for priming. -/
theorem exec_configRequest (fn : Fin 34) (off : BitVec 10) (write : Option (BitVec 4 × W32)) (s : State) :
    exec (.configRequest fn off write) s =
      .next (if s.pcie.linkUp = false then s
        else if s.is Reg.GLB_PRIME_STATUS_RRS = true then s.send (.retryStatus fn.val)
        else if s.fnAnswers fn.val = false then s.unsupportedReq fn.val
        else write.elim
          ((s.configWord fn.val (4 * off.toNat)).elim (s.send (.config fn.val (4 * off.toNat) (s.freeVal 32))).freeNext
            fun v => s.send (.config fn.val (4 * off.toNat) v))
          fun w => s.writeConfig fn.val (4 * off.toNat) w.1 w.2).settle := by
  show execConfigRequest fn off write s = _
  simp only [execConfigRequest, settled, Bool.not_eq_true']
  cases write <;> cases s.configWord fn.val (4 * off.toNat) <;> simp only [Option.elim]

theorem exec_configRequest_of_linkUp (fn : Fin 34) (off : BitVec 10) (write : Option (BitVec 4 × W32)) (s : State)
    (up : s.pcie.linkUp = true) (primed : s.is Reg.GLB_PRIME_STATUS_RRS = false) : exec (.configRequest fn off write) s =
      .next (if s.fnAnswers fn.val = false then s.unsupportedReq fn.val
        else write.elim
          ((s.configWord fn.val (4 * off.toNat)).elim (s.send (.config fn.val (4 * off.toNat) (s.freeVal 32))).freeNext
            fun v => s.send (.config fn.val (4 * off.toNat) v))
          fun w => s.writeConfig fn.val (4 * off.toNat) w.1 w.2).settle := by
  rw [exec_configRequest, if_neg (ne_false_of_eq_true up), if_neg (ne_true_of_eq_false primed)]

theorem exec_barRequestUndecoded (fn : Fin 34) (bar : Fin 6) (off : Nat) (s : State) : exec (.barRequestUndecoded fn bar off) s =
    .next (if s.barDecoded fn.val bar.val off = true then s else s.unsupportedReq fn.val).settle := rfl

/-! ### Translation windows -/

theorem exec_windowAccess_undecoded (off len : Nat) (write : Option (List Byte)) (s : State) (undecoded : s.barDecoded 0 4 off = false) :
    exec (.windowAccess off len write) s = .next (s.unsupportedReq 0).settle := by
  show execWindowAccess off len write s = _
  simp only [execWindowAccess, settled, undecoded, Bool.not_false, if_true]

section
variable (off len n o a : Nat) (s : State) (decoded : s.barDecoded 0 4 off = true) (hn : n = off / 2 ^ 32 % 16) (ho : o = off % 2 ^ 32)
  (ha : a = s.rd64 (Reg.PCIE_WIN_TARGET_LO.at n) (Reg.PCIE_WIN_TARGET_HI.at n) + o)
include decoded hn ho ha

theorem exec_windowRead : exec (.windowAccess off len none) s =
    .next (if s.is (Reg.PCIE_WIN_CTL_EN.at n) = false ∨ 4096 * s.rd (Reg.PCIE_WIN_LEN.at n) < o + len then s.unsupportedReq 0
      else if s.rd (Reg.PCIE_WIN_CTL_SPACE.at n) = 0 then s.send (.barData 0 off (s.dramRead a len))
      else (s.send (.barData 0 off (s.mramRead a len))).freeNext).settle := by
  show execWindowAccess off len none s = _
  simp only [execWindowAccess, settled, decoded, ← hn, ← ho, ← ha, Bool.not_true, Bool.false_eq_true, if_false, Option.map_none,
    Option.getD_none, Bool.not_eq_true', Bool.and_eq_false_iff, decide_eq_false_iff_not, Nat.not_le, beq_iff_eq]

theorem exec_windowWrite (d : List Byte) : exec (.windowAccess off len (some d)) s =
    .next (if s.is (Reg.PCIE_WIN_CTL_EN.at n) = false ∨ 4096 * s.rd (Reg.PCIE_WIN_LEN.at n) < o + d.length ∨
        s.is (Reg.PCIE_WIN_CTL_WRITE.at n) = false ∨ (s.rd (Reg.PCIE_WIN_CTL_SPACE.at n) = 1 ∧ s.mramWritable a d.length = false)
      then s.wr Reg.PCIE_WIN_STATUS_WRITE_REFUSED 1
      else if s.rd (Reg.PCIE_WIN_CTL_SPACE.at n) = 0 then s.dramWrite a d
      else { s with mem := { s.mem with mram := s.mem.mram.write a d } }).settle := by
  show execWindowAccess off len (some d) s = _
  simp only [execWindowAccess, settled, decoded, ← hn, ← ho, ← ha, Bool.not_true, Bool.false_eq_true, if_false, Option.map_some,
    Option.getD_some, Bool.not_eq_true', Bool.or_eq_true, Bool.and_eq_true, Bool.and_eq_false_iff, decide_eq_false_iff_not, Nat.not_le,
    beq_iff_eq, or_assoc]

end

theorem exec_windowEnable (n : Fin 16) (value : W32) (s u : State) (hu : u = s.writeWord (0x40010C + 0x10 * n.val) value) :
    exec (.windowEnable n value) s =
      .next (if s.decodeOf .pcie ≠ .all ∨ s.is (fResetting .pcie) = true then u
        else if value.toNat % 2 = 0 then u.wr (Reg.PCIE_WIN_CTL_EN.at n.val) 0
        else if u.windowFits n.val (value.toNat / 2 % 2) = true then u.wr (Reg.PCIE_WIN_CTL_EN.at n.val) 1
        else (u.wr (Reg.PCIE_WIN_CTL_EN.at n.val) 0).wr Reg.PCIE_WIN_STATUS_RANGE_ERR 1).settle := by
  show execWindowEnable n value s = _
  simp only [execWindowEnable, settled, ← hu, bne_iff_ne, beq_iff_eq, Bool.or_eq_true]

/-! ### NVMe controllers of functions -/

theorem exec_ccEnWrite (fn : Fin 34) (cc aqa : W32) (asq acq : Nat) (s u : State)
    (hu : u = s.updFn fn.val fun f => { f with shst := if cc.toNat / 2 ^ 14 % 4 ≠ 0 then 2 else f.shst }) :
    exec (.ccEnWrite fn cc aqa asq acq) s =
      .next (if s.nvmeReachable fn.val = false then s
        else if cc.toNat % 2 = 1 ∧ (s.fnOf fn.val).ccEn = false then s.enableCtlr fn.val cc aqa asq acq
        else if ¬cc.toNat % 2 = 1 ∧ (s.fnOf fn.val).ccEn = true then s.ctlrReset fn.val
        else if (s.fnOf fn.val).ccEn = true then u.updCtlr fn.val fun k => { k with cc := cc.toNat } else u).settle := by
  show execCcEnWrite fn cc aqa asq acq s = _
  simp only [execCcEnWrite, settled, bne_iff_ne, ← hu, Bool.and_eq_true, Bool.not_eq_true', beq_iff_eq, beq_eq_false_iff_ne]

theorem exec_nvmeDoorbell (fn : Fin 34) (queue value : Nat) (cq : Bool) (move : Cq → Cq) (s u : State) (hu : u = s.wake 3)
    (moves : ∀ q, move q = if q.size < value then q else { q with head := value }) : exec (.nvmeDoorbell fn queue cq value) s =
      .next (if s.nvmeReachable fn.val = false ∨ (s.fnOf fn.val).ccEn = false ∨ (s.fnOf fn.val).rdy = false ∨ (s.fnOf fn.val).cfs = true
        then s
        else if cq = true then { u with host := { u.host with cqs := Tab.updIf (queueKey fn.val queue) move u.host.cqs } }
        else u.fetchSqes fn.val queue value).settle := by
  show execNvmeDoorbell fn queue cq value s = _
  rw [funext moves]
  simp only [execNvmeDoorbell, settled, ← hu, Bool.or_eq_true, Bool.not_eq_true', or_assoc]

/-! ### Functions and latency tolerance -/

theorem exec_busMasterClear (fn : Fin 34) (s : State) :
    exec (.busMasterClear fn) s = .next (if s.fnPresent fn.val = true then s.clearBme fn.val else s).settle := rfl

theorem exec_functionLevelReset (fn : Fin 34) (s : State) : exec (.functionLevelReset fn) s =
    .next (if s.fnPresent fn.val = true then
      ((s.count Reg.PCIE_CNT_FLRS).wr (Reg.PCIE_FN_STATUS_MASTER.at fn.val) mstFlr).resetFn fn.val else s).settle := rfl

theorem exec_flrDone (fn : Fin 34) (s : State) : exec (.flrDone fn) s =
    .next (if s.rd (Reg.PCIE_FN_STATUS_MASTER.at fn.val) = mstFlr then s.wr (Reg.PCIE_FN_STATUS_MASTER.at fn.val) mstRunning
      else s).settle := by
  show execFlrDone fn s = _
  simp only [execFlrDone, settled, beq_iff_eq]

theorem exec_ltrSend (s u : State) (hu : u = s.pcie.lastLtr.elim s fun l => s.atLeast (l.2 + 10 * us)) : exec .ltrSend s =
    .next (if s.pcie.linkUp = false ∨ (s.fnOf 0).ltrEnable = false ∨ s.pcie.lastLtr.map Prod.fst = some s.ltrValue then s
      else ({ u with pcie := { u.pcie with lastLtr := some (s.ltrValue, u.tm.mono) } } : State).send (.ltr s.ltrValue)).settle := by
  show execLtrSend s = _
  rw [hu]
  cases last : s.pcie.lastLtr <;>
    simp only [execLtrSend, settled, last, Option.elim, Option.any, Option.map, Bool.or_eq_true, Bool.not_eq_true', beq_iff_eq, or_assoc,
      Option.some.injEq, reduceCtorEq, Bool.false_eq_true]

/-- Settles O55, command by command: each lemma above gives a request's branches, and the clause picks one by its guard. -/
theorem pcieRequestsAreAnsweredOrRefused : Obligations.PcieRequestsAreAnsweredOrRefused := by
  unfold Obligations.PcieRequestsAreAnsweredOrRefused
  refine ⟨fun s u hu => ⟨hu ▸ rfl, rfl⟩,
    fun speed width flit s => ⟨fun out => ?untrained, fun high good locked rate lanes => ?trained⟩,
    fun fn off write a s ha => ?config,
    fun fn bar off s => ⟨fun decoded => ?decoded, fun undecoded => ?undecoded⟩,
    fun off len write s undecoded => exec_windowAccess_undecoded off len write s undecoded,
    fun off len n o a d s decoded hn ho ha => ⟨fun out => ?readRefused,
      fun enabled inside => ⟨fun dram => ?readDram, fun mram => ?readMram⟩, fun out => ?writeRefused,
      fun enabled inside writable => ⟨fun dram => ?writeDram, fun mram inRegion => ?writeMram⟩⟩,
    fun n value s u hu => ⟨fun out => ?windowOut, fun decoded settledBlock => ⟨fun off => ?windowOff, fun on fits => ?windowOn,
      fun on misfits => ?windowRange⟩⟩,
    fun fn cc aqa asq acq s => ⟨fun away => ?ccAway, fun reachable => ⟨fun on idle => ?ccEnable, fun off running => ?ccReset,
      fun u hu => ⟨fun on running => ?ccKeep, fun off idle => ?ccIdle⟩⟩⟩,
    fun fn queue value cq move s u hu moves => ⟨fun out => ?noDoorbell, fun reachable enabled ready good => ⟨?tail, ?head⟩⟩,
    fun fn s => ⟨fun absent => ⟨?bmeAbsent, ?flrAbsent⟩, fun present => ⟨?bme, ?flr⟩, fun resetting => ?flrDone, fun other => ?flrNot⟩,
    fun enable numVfs s => rfl,
    fun s => ⟨fun out => ?noLtr, fun t same => ?sameLtr, fun u up enabled fresh hu => ?ltr⟩,
    fun fn s => ⟨rfl, rfl, rfl⟩⟩
  case untrained => rw [exec_pcieLinkTrained, if_pos out]
  case trained =>
    rw [exec_pcieLinkTrained, if_neg (not_or.2 ⟨ne_true_of_eq_false high, not_or.2 ⟨ne_true_of_eq_false good,
      not_or.2 ⟨by omega, not_or.2 ⟨rate, Classical.not_not.2 lanes⟩⟩⟩⟩)]
  case config =>
    subst ha
    refine ⟨fun down => ?_, fun up waits => ?_, fun up primed => ⟨fun absent => ?_, fun v answers word => ?_, fun answers free => ?_,
      fun be value answers => ?_⟩⟩
    · rw [exec_configRequest, if_pos down]
    · rw [exec_configRequest, if_neg (ne_false_of_eq_true up), if_pos waits]
    · rw [exec_configRequest_of_linkUp fn off write s up primed, if_pos absent]
    · rw [exec_configRequest_of_linkUp fn off none s up primed, if_neg (ne_false_of_eq_true answers), Option.elim, word, Option.elim]
    · rw [exec_configRequest_of_linkUp fn off none s up primed, if_neg (ne_false_of_eq_true answers), Option.elim, free, Option.elim]
    · rw [exec_configRequest_of_linkUp fn off _ s up primed, if_neg (ne_false_of_eq_true answers), Option.elim]
  case decoded => rw [exec_barRequestUndecoded, if_pos decoded]
  case undecoded => rw [exec_barRequestUndecoded, if_neg (ne_true_of_eq_false undecoded)]
  case readRefused => rw [exec_windowRead off len n o a s decoded hn ho ha, if_pos out]
  case readDram =>
    rw [exec_windowRead off len n o a s decoded hn ho ha, if_neg (not_or.2 ⟨ne_false_of_eq_true enabled, Nat.not_lt.2 inside⟩), if_pos dram]
  case readMram =>
    rw [exec_windowRead off len n o a s decoded hn ho ha, if_neg (not_or.2 ⟨ne_false_of_eq_true enabled, Nat.not_lt.2 inside⟩), if_neg mram]
  case writeRefused => rw [exec_windowWrite off len n o a s decoded hn ho ha, if_pos out]
  case writeDram =>
    rw [exec_windowWrite off len n o a s decoded hn ho ha, if_neg (not_or.2 ⟨ne_false_of_eq_true enabled, not_or.2 ⟨Nat.not_lt.2 inside,
      not_or.2 ⟨ne_false_of_eq_true writable, fun refused => by omega⟩⟩⟩), if_pos dram]
  case writeMram =>
    rw [exec_windowWrite off len n o a s decoded hn ho ha, if_neg (not_or.2 ⟨ne_false_of_eq_true enabled, not_or.2 ⟨Nat.not_lt.2 inside,
      not_or.2 ⟨ne_false_of_eq_true writable, fun refused => ne_false_of_eq_true inRegion refused.2⟩⟩⟩),
      if_neg (show ¬s.rd (Reg.PCIE_WIN_CTL_SPACE.at n) = 0 by omega)]
  case windowOut => rw [exec_windowEnable n value s u hu, if_pos out]
  case windowOff =>
    rw [exec_windowEnable n value s u hu, if_neg (not_or.2 ⟨Classical.not_not.2 decoded, ne_true_of_eq_false settledBlock⟩), if_pos off]
  case windowOn =>
    rw [exec_windowEnable n value s u hu, if_neg (not_or.2 ⟨Classical.not_not.2 decoded, ne_true_of_eq_false settledBlock⟩),
      if_neg (show ¬value.toNat % 2 = 0 by omega), if_pos fits]
  case windowRange =>
    rw [exec_windowEnable n value s u hu, if_neg (not_or.2 ⟨Classical.not_not.2 decoded, ne_true_of_eq_false settledBlock⟩),
      if_neg (show ¬value.toNat % 2 = 0 by omega), if_neg (ne_true_of_eq_false misfits)]
  case ccAway => rw [exec_ccEnWrite fn cc aqa asq acq s _ rfl, if_pos away]
  case ccEnable => rw [exec_ccEnWrite fn cc aqa asq acq s _ rfl, if_neg (ne_false_of_eq_true reachable), if_pos ⟨on, idle⟩]
  case ccReset =>
    rw [exec_ccEnWrite fn cc aqa asq acq s _ rfl, if_neg (ne_false_of_eq_true reachable), if_neg (fun h => ne_false_of_eq_true running h.2),
      if_pos ⟨by omega, running⟩]
  case ccKeep =>
    rw [exec_ccEnWrite fn cc aqa asq acq s u hu, if_neg (ne_false_of_eq_true reachable), if_neg (fun h => ne_false_of_eq_true running h.2),
      if_neg (fun h => h.1 on), if_pos running]
  case ccIdle =>
    rw [exec_ccEnWrite fn cc aqa asq acq s u hu, if_neg (ne_false_of_eq_true reachable),
      if_neg (show ¬(cc.toNat % 2 = 1 ∧ _) from fun h => by omega), if_neg (fun h => ne_true_of_eq_false idle h.2),
      if_neg (ne_true_of_eq_false idle)]
  case noDoorbell => rw [exec_nvmeDoorbell fn queue value cq move s u hu moves, if_pos out]
  case tail =>
    rw [exec_nvmeDoorbell fn queue value false move s u hu moves, if_neg (not_or.2 ⟨ne_false_of_eq_true reachable,
      not_or.2 ⟨ne_false_of_eq_true enabled, not_or.2 ⟨ne_false_of_eq_true ready, ne_true_of_eq_false good⟩⟩⟩),
      if_neg Bool.false_ne_true]
  case head =>
    rw [exec_nvmeDoorbell fn queue value true move s u hu moves, if_neg (not_or.2 ⟨ne_false_of_eq_true reachable,
      not_or.2 ⟨ne_false_of_eq_true enabled, not_or.2 ⟨ne_false_of_eq_true ready, ne_true_of_eq_false good⟩⟩⟩), if_pos rfl]
  case bmeAbsent => rw [exec_busMasterClear, if_neg (ne_true_of_eq_false absent)]
  case flrAbsent => rw [exec_functionLevelReset, if_neg (ne_true_of_eq_false absent)]
  case bme => rw [exec_busMasterClear, if_pos present]
  case flr => rw [exec_functionLevelReset, if_pos present]
  case flrDone => rw [exec_flrDone, if_pos resetting]
  case flrNot => rw [exec_flrDone, if_neg other]
  case noLtr => rw [exec_ltrSend s _ rfl, if_pos (out.imp_right Or.inl)]
  case sameLtr => rw [exec_ltrSend s _ rfl, if_pos (Or.inr (Or.inr (by rw [same, Option.map_some])))]
  case ltr =>
    have changed : s.pcie.lastLtr.map Prod.fst ≠ some s.ltrValue := by
      rw [ne_eq, Option.map_eq_some_iff]
      exact fun ⟨(v, t), last, same⟩ => fresh v t last same
    rw [exec_ltrSend s u hu, if_neg (not_or.2 ⟨ne_false_of_eq_true up, not_or.2 ⟨ne_false_of_eq_true enabled, changed⟩⟩)]

end Sys2Proof.Machine
end
/-! ## O57: the SPDM responder -/

section
namespace Sys2Proof.Machine

/-! ### A request and its turn -/

theorem State.spdmAt_down {s : State} (down : s.doeUp = false) (phase : Nat) (f : State → State) : s.spdmAt phase f = s := by
  simp only [State.spdmAt, down, Bool.not_false, if_true]

theorem State.spdmAt_unexpected {s : State} {phase : Nat} (up : s.doeUp = true) (other : s.pcie.spdm.phase ≠ phase) (f : State → State) :
    s.spdmAt phase f = s.send (.spdm 0x7F [errUnexpected, 0]) := by
  simp only [State.spdmAt, up, Bool.not_true, Bool.false_eq_true, if_false, bne_iff_ne, ne_eq, other, not_false_iff, if_true,
    State.spdmError]

theorem State.spdmAt_turn {s : State} {phase : Nat} (up : s.doeUp = true) (turn : s.pcie.spdm.phase = phase) (f : State → State) :
    s.spdmAt phase f = f s := by
  simp only [State.spdmAt, up, Bool.not_true, Bool.false_eq_true, if_false, turn, bne_self_eq_false]

/-! ### Each request, in its turn or not -/

theorem exec_getVersion (s : State) : exec .getVersion s = .next (if s.doeUp = true then
    (({ s with pcie := { s.pcie with spdm := { phase := 1 } } } : State).spdmReply [0x84] 0x04 [0x12]) else s).settle := by
  show execGetVersion s = _
  cases up : s.doeUp <;>
    simp only [execGetVersion, settled, up, Bool.not_true, Bool.not_false, Bool.false_eq_true, if_false, if_true]

theorem exec_getCapabilities (s : State) :
    exec .getCapabilities s = .next (s.spdmAt 1 fun s => (s.spdmPhase 2).spdmReply [0xE1] 0x61 [20, 22]).settle := rfl

theorem exec_negotiateAlgorithms (asym hash : W32) (s : State) : exec (.negotiateAlgorithms asym hash) s =
    .next (s.spdmAt 2 fun s => (s.spdmPhase 3).spdmReply [0xE3, asym.toNat, hash.toNat] 0x63
      [1, 4, asym.toNat &&& algP384, hash.toNat &&& algSha384]).settle := rfl

theorem exec_getDigests (s : State) : exec .getDigests s = .next (s.spdmAt 3 fun s => s.spdmReply [0x81] 0x01 [1, chainDigest]).settle := rfl

/-- The answer to GET_CERTIFICATE in its turn. -/
def State.certificate (slot off len : Nat) (s : State) : State :=
  if slot ≠ 0 ∨ Config.deviceChain.length ≤ off then s.send (.spdm 0x7F [errInvalid, 0])
  else s.spdmReply [0x82, slot, off, len] 0x02 ([0, ((Config.deviceChain.drop off).take len).length,
    Config.deviceChain.length - off - ((Config.deviceChain.drop off).take len).length] ++ byteNats ((Config.deviceChain.drop off).take len))

theorem exec_getCertificate (slot off len : Nat) (s : State) :
    exec (.getCertificate slot off len) s = .next (s.spdmAt 3 (State.certificate slot off len)).settle := by
  show execGetCertificate slot off len s = _
  simp only [execGetCertificate, settled, bne_iff_ne, Bool.or_eq_true, decide_eq_true_eq, State.spdmError]
  rfl

/-- The answer to CHALLENGE in its turn. -/
def State.challenged (slot measurements : Nat) (nonce : BitVec 256) (s : State) : State :=
  if slot ≠ 0 ∨ (measurements ≠ 0 ∧ measurements ≠ 0xFF) then s.send (.spdm 0x7F [errInvalid, 0])
  else s.spdmSigned [0x83, slot, measurements, nonce.toNat] 0x03
    ([0, chainDigest] ++ if measurements = 0 then [] else sha384Nats (s.measurements 0xFF))

theorem exec_challenge (slot measurements : Nat) (nonce : BitVec 256) (s : State) :
    exec (.challenge slot measurements nonce) s = .next (s.spdmAt 3 (State.challenged slot measurements nonce)).settle := by
  show execChallenge slot measurements nonce s = _
  simp only [execChallenge, settled, bne_iff_ne, beq_iff_eq, Bool.or_eq_true, Bool.and_eq_true, State.spdmError]
  rfl

/-- The answer to GET_MEASUREMENTS in its turn: a count for index 0, else the blocks named. -/
def State.measured (i : Nat) (signed : Bool) (nonce : BitVec 256) (s : State) : State :=
  if 7 < i ∧ i ≠ 0xFF then s.send (.spdm 0x7F [errInvalid, 0])
  else if signed = true then
    s.spdmSigned [0xE0, 1, i, nonce.toNat] 0x60 ((if i = 0 then 7 else (Machine.measured i).length) :: s.measurements i)
  else s.spdmReply [0xE0, 0, i, nonce.toNat] 0x60 ((if i = 0 then 7 else (Machine.measured i).length) :: s.measurements i)

theorem exec_getMeasurements (index : BitVec 8) (signed : Bool) (nonce : BitVec 256) (s : State) :
    exec (.getMeasurements index signed nonce) s = .next (s.spdmAt 3 (State.measured index.toNat signed nonce)).settle := by
  show execGetMeasurements index signed nonce s = _
  cases signed <;>
    simp only [execGetMeasurements, settled, bne_iff_ne, beq_iff_eq, Bool.and_eq_true, decide_eq_true_eq, State.spdmError,
      Bool.false_eq_true, if_true, if_false] <;>
    rfl

theorem exec_spdmUnsupported (code : BitVec 8) (s : State) : exec (.spdmUnsupported code) s =
    .next (if s.doeUp = false ∨ code.toNat ∈ [0x84, 0xE1, 0xE3, 0x81, 0x82, 0x83, 0xE0] then s
      else s.send (.spdm 0x7F [errUnsupported, code.toNat])).settle := by
  show execSpdmUnsupported code s = _
  simp only [execSpdmUnsupported, settled, Bool.or_eq_true, Bool.not_eq_true', List.contains_iff_mem, State.spdmError]

/-- DOE Discovery of an index: objects 0 and 1, and none after them. -/
theorem exec_doeDiscovery (index : BitVec 8) (s : State) : exec (.doeDiscovery index) s =
    .next (if s.doeUp = false then s
      else s.send (.spdm 0 (if index.toNat = 0 then [1, 0, 1] else if index.toNat = 1 then [1, 1, 0] else [0xFFFF, 0xFF, 0]))).settle := by
  show execDoeDiscovery index s = _
  simp only [execDoeDiscovery, settled, Bool.not_eq_true']
  rcases h : index.toNat with _ | _ | n <;> rfl

/-! ### The obligation -/

/-- Settles O57: each request is `State.spdmAt` of its turn, which answers nothing, UnexpectedRequest or the request's own answer. -/
theorem attestationAnswersInItsOrder : Obligations.AttestationAnswersInItsOrder := by
  unfold Obligations.AttestationAnswersInItsOrder
  refine ⟨fun asym hash slot off len meas nonce index code signed s down => ?down,
    fun asym hash slot off len meas nonce index signed s u up hu => ⟨fun other => ?capsEarly, fun other => ?algsEarly, fun other => ?early⟩,
    fun asym hash s up => ⟨?version, fun turn => ?capabilities, fun turn => ?algorithms, fun turn => ?digests⟩,
    fun slot off len meas nonce s u up turn hu => ⟨fun bad => ?badSlot, fun part hp => ?certificate, fun bad => ?badChallenge, ?plain,
      ?summary⟩,
    fun index nonce i n s up turn hi hn => ⟨fun signed high notAll => ?badIndex, fun good => ?measurements⟩,
    fun code index s up => ⟨fun unknown => ?unknown, fun known => ?known, fun first => ?object0, fun second => ?object1,
      fun beyond => ?noObject⟩⟩
  case down =>
    simp only [List.forall_mem_cons, List.not_mem_nil, false_implies, implies_true, exec_getVersion, exec_getCapabilities,
      exec_getDigests, exec_negotiateAlgorithms, exec_getCertificate, exec_challenge, exec_getMeasurements, exec_spdmUnsupported,
      exec_doeDiscovery, State.spdmAt_down down, down, Bool.false_eq_true, if_false, true_or, if_true, and_self]
  case capsEarly => rw [exec_getCapabilities, State.spdmAt_unexpected up other, hu]
  case algsEarly => rw [exec_negotiateAlgorithms, State.spdmAt_unexpected up other, hu]
  case early =>
    simp only [List.forall_mem_cons, List.not_mem_nil, false_implies, implies_true, exec_getDigests, exec_getCertificate,
      exec_challenge, exec_getMeasurements, State.spdmAt_unexpected up other, hu, and_self]
  case version => rw [exec_getVersion, if_pos up]
  case capabilities => rw [exec_getCapabilities, State.spdmAt_turn up turn]
  case algorithms => rw [exec_negotiateAlgorithms, State.spdmAt_turn up turn]
  case digests => rw [exec_getDigests, State.spdmAt_turn up turn]
  case badSlot => rw [exec_getCertificate, State.spdmAt_turn up turn, State.certificate, if_pos (Or.inl bad), hu]
  case certificate =>
    rw [exec_getCertificate, State.spdmAt_turn up turn, State.certificate, hp, hu]
    simp only [ne_eq, not_true_eq_false, false_or]
  case badChallenge => rw [exec_challenge, State.spdmAt_turn up turn, State.challenged, if_pos bad, hu]
  case plain =>
    rw [exec_challenge, State.spdmAt_turn up turn, State.challenged, if_neg (by decide), if_pos rfl, List.append_nil]
  case summary =>
    rw [exec_challenge, State.spdmAt_turn up turn, State.challenged, if_neg (by decide), if_neg (by decide)]
  case badIndex => rw [exec_getMeasurements, State.spdmAt_turn up turn, State.measured, ← hi, if_pos ⟨high, notAll⟩]
  case measurements =>
    have fine : ¬(7 < i ∧ i ≠ 0xFF) := by omega
    constructor
    · rw [exec_getMeasurements, State.spdmAt_turn up turn, State.measured, ← hi, if_neg fine, if_pos rfl, hn]
    · rw [exec_getMeasurements, State.spdmAt_turn up turn, State.measured, ← hi, if_neg fine, if_neg Bool.false_ne_true, hn]
  case unknown => rw [exec_spdmUnsupported, if_neg (not_or.2 ⟨ne_false_of_eq_true up, unknown⟩)]
  case known => rw [exec_spdmUnsupported, if_pos (Or.inr known)]
  case object0 => rw [exec_doeDiscovery, if_neg (ne_false_of_eq_true up), if_pos first]
  case object1 =>
    rw [exec_doeDiscovery, if_neg (ne_false_of_eq_true up), if_neg (show ¬index.toNat = 0 by omega), if_pos second]
  case noObject =>
    rw [exec_doeDiscovery, if_neg (ne_false_of_eq_true up), if_neg (show ¬index.toNat = 0 by omega),
      if_neg (show ¬index.toNat = 1 by omega)]

end Sys2Proof.Machine
end
/-! ## O59: mailboxes, scratchpads, sequencers and the performance monitor -/

section
namespace Sys2Proof.Machine

/-! ### Mailboxes -/

theorem exec_mailboxDoorbell (value : W32) (s u : State) (hu : u = s.writeWord 0x3C00200 value) : exec (.mailboxDoorbell value) s =
    .next (if s.decodeOf .seq ≠ .all ∨ s.begins .seq = false then u
      else (((List.range 32).filter fun m => value.toNat / 2 ^ m % 2 == 1).foldl (fun (s : State) m => s.ringMbox m)
        (u.wake 4)).takeMboxes 32).settle := by
  show execMailboxDoorbell value s = _
  simp only [execMailboxDoorbell, settled, ← hu, bne_iff_ne, Bool.or_eq_true, Bool.not_eq_true']

theorem State.ringMbox_eq (m : Nat) (u s : State) (hu : u = (s.ownMbox m true).putMbox m 0x10 1 0) :
    s.ringMbox m = if s.mboxOwned m = true then s.setErr .seq 8
      else { u with seq := { u.seq with waiting := u.seq.waiting ++ [m] } } := hu ▸ rfl

theorem exec_mailboxComplete_of_unfinished (m : Fin 32) (s : State)
    (unfinished : ∀ e : MboxEnd, Tab.find m.val s.seq.running ≠ some (some e)) : exec (.mailboxComplete m) s = .next s.settle := by
  show execMailboxComplete m s = _
  rcases run : Tab.find m.val s.seq.running with _ | _ | e
  · simp only [execMailboxComplete, settled, run]
  · simp only [execMailboxComplete, settled, run]
  · exact absurd run (unfinished e)

theorem exec_mailboxComplete_of_finished (m : Fin 32) (s : State) (e : MboxEnd) (t u v w : State)
    (finished : Tab.find m.val s.seq.running = some (some e))
    (ht : t = (Tab.find m.val s.seq.data).elim s fun d =>
      { s with mem := { s.mem with bar2 := s.mem.bar2.write (mboxBase m.val + 0x1000) d } })
    (hu : u = e.cqe.elim t fun x =>
      { t with mem := { t.mem with
        bar2 := t.mem.bar2.write (mboxBase m.val + 0x60) (cqeBytes x.2 0 0 (t.mboxCmd m.val).sqe.cid x.1 (dnrOf x.1) false) } })
    (hv : v = (u.putMbox m.val 0x10 1 e.st).ownMbox m.val false)
    (hw : w = ((v.wr Reg.SEQ_MBOX_DONE (v.rd Reg.SEQ_MBOX_DONE ||| 2 ^ m.val)).count Reg.SEQ_CNT_MBOX_COMPLETED).raiseIn 15 sevInfo .seq
      Reg.SEQ_MBOX_DONE.off noInstance m.val) :
    exec (.mailboxComplete m) s = .next (({ w with seq := { w.seq with
      running := Tab.del m.val w.seq.running
      data := Tab.del m.val w.seq.data } } : State).takeMboxes 32).settle := by
  show execMailboxComplete m s = _
  cases data : Tab.find m.val s.seq.data <;> cases cqe : e.cqe <;>
    simp only [execMailboxComplete, settled, finished, data, cqe, hw, hv, hu, ht, Option.elim]

/-! ### Scratchpads -/

theorem exec_bar2Write_of_undecoded (off : Nat) (a : Bar2Access) (ecc : SpEcc) (s : State) (undecoded : s.barDecoded 0 2 off = false) :
    exec (.bar2Write off a ecc) s = .next (s.unsupportedReq 0).settle := by
  show execBar2Write off a ecc s = _
  simp only [execBar2Write, settled, undecoded, Bool.not_false, if_true]

section
variable (off : Nat) (ecc : SpEcc) (pad : Bool) (s t : State) (decoded : s.barDecoded 0 2 off = true)
  (hp : pad = (!s.prim.recovery && decide (off < 0x400000)))
  (ht : t = if pad = true ∧ s.domainOn (143 + off / 0x100000) = false ∧ s.devState ≠ 0 then s.wr Reg.PWR_WAKE_CAUSE 7 else s)
include decoded hp ht

theorem exec_bar2Read (n : Nat) (u : State) (hu : u = if pad = true then t.spErrors ecc (off / 0x40000) else t) :
    exec (.bar2Write off (.read n) ecc) s = .next (u.send (.barData 0 off (u.bar2Read off n) (pad && ecc.bad))).settle := by
  show execBar2Write off (.read n) ecc s = _
  simp only [execBar2Write, settled, decoded, Bool.not_true, Bool.false_eq_true, if_false, ← hp, Bool.and_eq_true, Bool.not_eq_true',
    bne_iff_ne, and_assoc, ← ht, ← hu]

theorem exec_bar2Write (data : List Byte) (u : State)
    (hu : u = if pad = true ∧ partWord off data.length = true then t.spErrors ecc (off / 0x40000) else t) :
    exec (.bar2Write off (.write data) ecc) s =
      .next (data.zipIdx.foldl (fun (s : State) (e : Byte × Nat) => s.bar2Byte (off + e.2) e.1) u).settle := by
  show execBar2Write off (.write data) ecc s = _
  simp only [execBar2Write, settled, decoded, Bool.not_true, Bool.false_eq_true, if_false, ← hp, Bool.and_eq_true, Bool.not_eq_true',
    bne_iff_ne, and_assoc, ← ht, ← hu]

end

/-- A byte of BAR2: staging memory in recovery, else scratchpad, nothing behind the last mailbox, or a mailbox that the host owns. -/
theorem State.bar2Byte_eq (off : Nat) (b : Byte) (s put : State)
    (hput : put = { s with mem := { s.mem with bar2 := s.mem.bar2.set off b } }) :
    s.bar2Byte off b = if s.prim.recovery = true then put
      else if off < 0x400000 then (if hostArea off = true then put else s.setErr .seq 9)
      else if 0x2400000 ≤ off then s
      else if s.mboxOwned ((off - 0x400000) / 0x100000) = true then s.setErr .seq 8
      else if off % 0x100000 = 0 then s else put := by
  simp only [State.bar2Byte, ← hput, beq_iff_eq]

/-! ### Sequencers and atomics -/

theorem State.haltSeq_eq (n : Nat) (s u : State)
    (hu : u = ((s.wr (Reg.SEQ_STATE.at n) sqHalted).count Reg.SEQ_CNT_SEQ_HALTS).raise sevUncorrected .seq (Reg.SEQ_STATE.at n).off n) :
    s.haltSeq n = if s.rd (Reg.SEQ_STATE.at n) = sqHalted then s
      else if ∀ i ∈ List.range 16, u.rd (Reg.SEQ_STATE.at i) = sqHalted then
        u.fatal (fatalCode .seqAll) (fatalPlace .seqAll).1 (fatalPlace .seqAll).2
      else u := by
  simp only [State.haltSeq, ← hu, beq_iff_eq, List.all_eq_true]

theorem exec_hostAtomic (value : W32) (s u : State) (hu : u = s.writeWord 0x3C00304 value) : exec (.hostAtomic value) s =
    .next (if s.decodeOf .seq = .all ∧ s.begins .seq = true ∧ value.toNat / 2 ^ 31 = 1 then u.hostAtomic (value.toNat % 4)
      else u).settle := by
  show execHostAtomic value s = _
  simp only [execHostAtomic, settled, ← hu, beq_iff_eq, Bool.and_eq_true, and_assoc]

theorem State.hostAtomic_eq (op a n old operand : Nat) (s : State) (ha : a = s.rd Reg.SEQ_ATOM_ADDR)
    (hn : n = if op % 2 = 1 then 8 else 4) (hold : old = le (s.mem.bar2.read a n))
    (hoperand : operand = s.rd64 Reg.SEQ_ATOM_OPERAND_LO Reg.SEQ_ATOM_OPERAND_HI) :
    s.hostAtomic op = if a % n ≠ 0 then s.wr Reg.SEQ_ATOM_STATUS_RESULT 1
      else if hostArea a = false then s.wr Reg.SEQ_ATOM_STATUS_RESULT 2
      else ((({ s with mem := { s.mem with
        bar2 := s.mem.bar2.write a (leBytes n (atomic op old operand (8 * n))) } } : State).wr64 Reg.SEQ_ATOM_OLD_LO
          Reg.SEQ_ATOM_OLD_HI old).wr Reg.SEQ_ATOM_STATUS_RESULT 0) := by
  simp only [State.hostAtomic, beq_iff_eq, ← ha, ← hn, ← hold, ← hoperand, bne_iff_ne, Bool.not_eq_true']

/-! ### The performance monitor -/

theorem exec_tileCounterClear (t : Fin 16) (value : W32) (s u v : State) (hu : u = s.writeWord (0x3E01070 + 0x100 * t.val) value)
    (hv : v = (List.range 8).foldl (fun (s : State) k => s.clearCounter ((Reg.PMU_CNT_TILE k).at t.val)) u) :
    exec (.tileCounterClear t value) s =
      .next (if s.decodeOf .pmu ≠ .all ∨ s.stopped .pmu = true ∨ value.toNat % 2 = 0 then u
        else { v with pmu := { v.pmu with tileNs := Tab.del t.val v.pmu.tileNs } }).settle := by
  show execTileCounterClear t value s = _
  simp only [execTileCounterClear, settled, ← hu, ← hv, bne_iff_ne, beq_iff_eq, Bool.or_eq_true, or_assoc]

theorem exec_pmuSnapshot (value : W32) (s u : State) (hu : u = s.writeWord 0x3E00020 value) : exec (.pmuSnapshot value) s =
    .next (if s.decodeOf .pmu = .all ∧ value.toNat % 2 = 1 ∧ s.begins .pmu = true then u.takeSnapshot else u).settle := by
  show execPmuSnapshot value s = _
  simp only [execPmuSnapshot, settled, ← hu, beq_iff_eq, Bool.and_eq_true, and_assoc]

theorem State.takeSnapshot_eq (a : Nat) (s t u : State) (ht : t = { s with pmu := { s.pmu with snap := s.snapWords } })
    (hu : u = (t.wr64 Reg.PMU_SNAP_TIME_LO Reg.PMU_SNAP_TIME_HI t.tm.shelf).wr Reg.PMU_SNAP_STATUS_VALID 1)
    (ha : a = u.rd64 Reg.PMU_SNAP_ADDR_LO Reg.PMU_SNAP_ADDR_HI) :
    s.takeSnapshot = if s.is Reg.PMU_SNAP_STATUS_BUSY = true then
        s.wr Reg.PMU_SNAP_STATUS_MISSED (min 255 (s.rd Reg.PMU_SNAP_STATUS_MISSED + 1))
      else if u.is Reg.PMU_SNAP_CTL_BLOCKS = false then u
      else if a % 4096 = 0 ∧ u.inDram a snapBuffer = true then
        ({ u with pmu := { u.pmu with latched := u.regs.counts } } : State).wr Reg.PMU_SNAP_STATUS_BUSY 1
      else u.wr Reg.PMU_SNAP_COUNT 0 := by
  have shelf : t.tm.shelf = s.tm.shelf := by rw [ht]
  rw [shelf] at hu
  simp only [State.takeSnapshot, ← ht, ← hu, ← ha, Bool.not_eq_true', Bool.and_eq_true, beq_iff_eq]

theorem exec_pmuBlockCopyDone (a : Nat) (s t : State) (ha : a = s.rd64 Reg.PMU_SNAP_ADDR_LO Reg.PMU_SNAP_ADDR_HI)
    (ht : t = blockCounters.zipIdx.foldl (fun (s : State) (e : (Nat × Unit) × Nat) =>
      s.dramWrite (a + 8 * e.2) (counterBytes (Tab.getD e.1.1 (0, false) s.pmu.latched))) s) : exec .pmuBlockCopyDone s =
    .next (if s.is Reg.PMU_SNAP_STATUS_BUSY = false then s
      else (t.wr Reg.PMU_SNAP_COUNT blockCounters.length).wr Reg.PMU_SNAP_STATUS_BUSY 0).settle := by
  show execPmuBlockCopyDone s = _
  simp only [execPmuBlockCopyDone, settled, ← ha, ← ht, Bool.not_eq_true']

theorem exec_bandwidthWindowEnd (totals : List (Nat × Nat × Nat)) (at_ : Nat) (s u v : State)
    (hat : at_ = (ceilDiv s.pmu.windowAt s.bwWindow + 1) * s.bwWindow)
    (hu : u = (List.range 72).foldl (fun (s : State) p => s.putBandwidth p ((totals.find? fun e => e.1 == p).getD (p, 0, 0)).2.1
      ((totals.find? fun e => e.1 == p).getD (p, 0, 0)).2.2) (s.atLeast at_))
    (hv : v = (u.wr Reg.PMU_BW_SEQ (u.rd Reg.PMU_BW_SEQ + 1)).wr Reg.PMU_BW_STATUS_VALID 1) : exec (.bandwidthWindowEnd totals) s =
    .next (if s.stopped .pmu = true then s else { v with pmu := { v.pmu with windowAt := at_ } }).settle := by
  show execBandwidthWindowEnd totals s = _
  simp only [execBandwidthWindowEnd, settled, ← hat, ← hu, ← hv]

theorem exec_bandwidthWindowWrite (value : W32) (w : Nat) (s u v : State) (hu : u = s.writeWord 0x3E00010 value)
    (hw : w = value.toNat % 2 ^ 20) (hv : v = (u.wr Reg.PMU_BW_CFG_WINDOW w).wr Reg.PMU_BW_STATUS_VALID 0) :
    exec (.bandwidthWindowWrite value) s =
      .next (if s.decodeOf .pmu ≠ .all ∨ s.is (fResetting .pmu) = true then u
        else if inRange Reg.PMU_BW_CFG_WINDOW w = false then u.setErr .pmu 1
        else { v with pmu := { v.pmu with windowAt := ceilDiv v.tm.mono v.bwWindow * v.bwWindow } }).settle := by
  show execBandwidthWindowWrite value s = _
  simp only [execBandwidthWindowWrite, settled, ← hw, ← hu, ← hv, bne_iff_ne, Bool.or_eq_true, Bool.not_eq_true']

/-! ### The obligation -/

/-- Settles O59, by the branches of each command's lemma above. -/
theorem mailboxesScratchpadsAndMonitorsWork : Obligations.MailboxesScratchpadsAndMonitorsWork := by
  unfold Obligations.MailboxesScratchpadsAndMonitorsWork
  refine ⟨fun value s u hu => ⟨fun out => ?noBell, fun decoded begins => ?bell⟩,
    fun m u s hu => ⟨fun owned => ?ringOwned, fun free => ?ring⟩,
    fun m s => ⟨fun unfinished => exec_mailboxComplete_of_unfinished m s unfinished,
      fun e at_ t u v w finished hat ht hu hv hw => ?complete⟩,
    fun off a ecc s undecoded => exec_bar2Write_of_undecoded off a ecc s undecoded,
    fun off n data ecc pad s t decoded hp ht => ⟨fun u hu => exec_bar2Read off ecc pad s t decoded hp ht n u hu,
      fun u hu => exec_bar2Write off ecc pad s t decoded hp ht data u hu⟩,
    fun off m b s put hput hm => ⟨fun recovery => ?staging, fun primed => ⟨fun low => ?pad, fun high => ?behind,
      fun low high owned => ?ownedByte, fun low high free => ?mailboxByte⟩⟩,
    fun n k e s => ⟨rfl, rfl, rfl, rfl⟩,
    fun n s u hu => ⟨fun halted => ?haltedYet, fun runs left => ?halt, fun runs all => ?haltAll⟩,
    fun value s u hu => ⟨fun out => ?noAtomic, fun decoded begins go => ?atomic⟩,
    fun op a n old operand b s ha hn hold hoperand => ⟨fun odd => ?misaligned, fun aligned outside => ?outside,
      fun aligned inside hb => ?exchanged⟩,
    fun t value s u v hu hv => ⟨fun out => ?noClear, fun decoded runs set => ?clear⟩,
    fun value s u hu => ⟨fun out => ?noSnapshot, fun decoded begins set => ?snapshot⟩,
    fun a s t u ht hu ha => ⟨fun busy => ?missed, fun idle alone => ?alone, fun idle blocks aligned fits => ?blocks,
      fun idle blocks misfit => ?noBuffer⟩,
    fun a s t ha ht => ⟨fun idle => ?noCopy, fun busy => ?copied⟩,
    fun totals s => ⟨fun stopped => ?stopped, fun at_ u v runs hat hu hv => ?window⟩,
    fun value w s u v hu hw hv => ⟨fun out => ?widthOut, fun decoded ready => ⟨fun wrong => ?widthRange, fun right => ?width⟩⟩⟩
  case noBell => rw [exec_mailboxDoorbell value s u hu, if_pos out]
  case bell =>
    rw [exec_mailboxDoorbell value s u hu, if_neg (not_or.2 ⟨Classical.not_not.2 decoded, ne_false_of_eq_true begins⟩)]
  case ringOwned => rw [State.ringMbox_eq m u s hu, if_pos owned]
  case ring => rw [State.ringMbox_eq m u s hu, if_neg (ne_true_of_eq_false free)]
  case complete =>
    subst hat
    refine exec_mailboxComplete_of_finished m s e t u v w finished ?_ ?_ hv hw
    · rw [ht]
      cases Tab.find m.val s.seq.data <;> rfl
    · rw [hu]
      cases e.cqe <;> rfl
  case staging => rw [State.bar2Byte_eq off b s put hput, if_pos recovery]
  case pad => rw [State.bar2Byte_eq off b s put hput, if_neg (ne_true_of_eq_false primed), if_pos low]
  case behind =>
    rw [State.bar2Byte_eq off b s put hput, if_neg (ne_true_of_eq_false primed), if_neg (show ¬off < 0x400000 by omega), if_pos high]
  case ownedByte =>
    rw [State.bar2Byte_eq off b s put hput, if_neg (ne_true_of_eq_false primed), if_neg (Nat.not_lt.2 low), if_neg (Nat.not_le.2 high),
      ← hm, if_pos owned]
  case mailboxByte =>
    rw [State.bar2Byte_eq off b s put hput, if_neg (ne_true_of_eq_false primed), if_neg (Nat.not_lt.2 low), if_neg (Nat.not_le.2 high),
      ← hm, if_neg (ne_true_of_eq_false free)]
  case haltedYet => rw [State.haltSeq_eq n s u hu, if_pos halted]
  case halt =>
    obtain ⟨i, small, running⟩ := left
    rw [State.haltSeq_eq n s u hu, if_neg runs, if_neg (fun all => running (all i (List.mem_range.2 small)))]
  case haltAll => rw [State.haltSeq_eq n s u hu, if_neg runs, if_pos (fun i small => all i (List.mem_range.1 small))]
  case noAtomic =>
    have nothing : ¬(s.decodeOf .seq = .all ∧ s.begins .seq = true ∧ value.toNat / 2 ^ 31 = 1) := by
      rintro ⟨decoded, begins, go⟩
      rcases out with away | stopped | low
      · exact away decoded
      · exact ne_true_of_eq_false stopped begins
      · omega
    rw [exec_hostAtomic value s u hu, if_neg nothing]
  case atomic =>
    have bounded := value.isLt
    rw [exec_hostAtomic value s u hu, if_pos ⟨decoded, begins, by omega⟩]
  case misaligned => rw [State.hostAtomic_eq op a n old operand s ha hn hold hoperand, if_pos odd]
  case outside => rw [State.hostAtomic_eq op a n old operand s ha hn hold hoperand, if_neg (Classical.not_not.2 aligned), if_pos outside]
  case exchanged =>
    rw [State.hostAtomic_eq op a n old operand s ha hn hold hoperand, if_neg (Classical.not_not.2 aligned), if_neg (ne_false_of_eq_true inside), hb]
  case noClear => rw [exec_tileCounterClear t value s u v hu hv, if_pos out]
  case clear =>
    rw [exec_tileCounterClear t value s u v hu hv,
      if_neg (not_or.2 ⟨Classical.not_not.2 decoded, not_or.2 ⟨ne_true_of_eq_false runs, by omega⟩⟩)]
  case noSnapshot =>
    have nothing : ¬(s.decodeOf .pmu = .all ∧ value.toNat % 2 = 1 ∧ s.begins .pmu = true) := by
      rintro ⟨decoded, set, begins⟩
      rcases out with away | stopped | clear
      · exact away decoded
      · exact ne_true_of_eq_false stopped begins
      · omega
    rw [exec_pmuSnapshot value s u hu, if_neg nothing]
  case snapshot => rw [exec_pmuSnapshot value s u hu, if_pos ⟨decoded, set, begins⟩]
  case missed => rw [State.takeSnapshot_eq a s t u ht hu ha, if_pos busy]
  case alone => rw [State.takeSnapshot_eq a s t u ht hu ha, if_neg (ne_true_of_eq_false idle), if_pos alone]
  case blocks =>
    rw [State.takeSnapshot_eq a s t u ht hu ha, if_neg (ne_true_of_eq_false idle), if_neg (ne_false_of_eq_true blocks),
      if_pos ⟨aligned, fits⟩]
  case noBuffer =>
    rw [State.takeSnapshot_eq a s t u ht hu ha, if_neg (ne_true_of_eq_false idle), if_neg (ne_false_of_eq_true blocks),
      if_neg (fun fits => misfit.elim (fun odd => odd fits.1) fun outside => ne_true_of_eq_false outside fits.2)]
  case noCopy => rw [exec_pmuBlockCopyDone a s t ha ht, if_pos idle]
  case copied => rw [exec_pmuBlockCopyDone a s t ha ht, if_neg (ne_false_of_eq_true busy)]
  case stopped => rw [exec_bandwidthWindowEnd totals _ s _ _ rfl rfl rfl, if_pos stopped]
  case window => rw [exec_bandwidthWindowEnd totals at_ s u v hat hu hv, if_neg (ne_true_of_eq_false runs)]
  case widthOut => rw [exec_bandwidthWindowWrite value w s u v hu hw hv, if_pos out]
  case widthRange =>
    rw [exec_bandwidthWindowWrite value w s u v hu hw hv, if_neg (not_or.2 ⟨Classical.not_not.2 decoded, ne_true_of_eq_false ready⟩), if_pos wrong]
  case width =>
    rw [exec_bandwidthWindowWrite value w s u v hu hw hv, if_neg (not_or.2 ⟨Classical.not_not.2 decoded, ne_true_of_eq_false ready⟩),
      if_neg (ne_false_of_eq_true right)]

end Sys2Proof.Machine
end
/-! ## O60: power and heat -/

section
namespace Sys2Proof.Machine

theorem exec_deviceStateEvaluate (now : Nat) (s u : State) (hu : u = (s.atLeast now).wr Reg.PWR_STATUS_T_MIN (s.atLeast now).tMin) :
    exec (.deviceStateEvaluate now) s =
      .next (if u.is Reg.PWR_STATUS_EXITING = true then u
        else if u.devState < u.deepest then
          ((u.wr Reg.PWR_STATUS_STATE u.deepest).wr Reg.PWR_STATUS_TARGET u.deepest).count (entriesOf u.deepest)
        else if u.deepest < u.devState then (u.wake 1).wr Reg.PWR_STATUS_TARGET u.deepest
        else u.wr Reg.PWR_STATUS_TARGET u.deepest).settle := hu ▸ rfl

theorem exec_deviceStateExitDone (s : State) : exec .deviceStateExitDone s =
    .next (if s.is Reg.PWR_STATUS_EXITING = false then s
      else (s.wr Reg.PWR_STATUS_STATE (s.rd Reg.PWR_STATUS_TARGET)).wr Reg.PWR_STATUS_EXITING 0).settle := by
  show execDeviceStateExitDone s = _
  simp only [execDeviceStateExitDone, settled, Bool.not_eq_true']

theorem exec_i3cSensorRead (r : Sensors) (s t u : State) (ht : t = r.die.zipIdx.foldl (fun (s : State) (e : Int × Nat) =>
      if e.2 < 6 then s.wr (Reg.PWR_SENSOR_TEMP.at e.2) (twos 1 e.1) else s) s)
    (hu : u = (t.wr Reg.PWR_INPUT_VIN r.vin.toNat).wr Reg.PWR_INPUT_IIN r.iin.toNat) : exec (.i3cSensorRead r) s =
      .next (State.judgeHeat (if u.is Reg.PWR_I3C_FAULT = true then u
        else if r.fault.val = 0 then u.wr Reg.PWR_I3C_SENSORS r.present.toNat
        else ((u.wr Reg.PWR_I3C_FAULT 1).wr Reg.PWR_I3C_KIND r.fault.val).wr Reg.PWR_I3C_SENSORS 0)
        ((r.die.take 6).foldl max (-128))).settle := by
  show execI3cSensorRead r s = _
  simp only [execI3cSensorRead, settled, ← ht, ← hu, beq_iff_eq]

theorem exec_i3cBusRetry (found : Option (BitVec 8)) (s : State) : exec (.i3cBusRetry found) s =
    .next (if s.is Reg.PWR_I3C_FAULT = false then s
      else found.elim s fun n =>
        ((s.wr Reg.PWR_I3C_FAULT 0).wr Reg.PWR_I3C_KIND 0).wr Reg.PWR_I3C_SENSORS n.toNat).settle := by
  show execI3cBusRetry found s = _
  cases found <;> simp only [execI3cBusRetry, settled, Bool.not_eq_true', Option.elim]

theorem exec_thermalTrip (package : Int) (s u : State)
    (hu : u = ((s.wr Reg.PWR_THERM_STATUS_PACKAGE (twos 1 package)).wr Reg.PWR_THERM_STATUS_TRIPPED 1).send (.thermN true)) :
    exec (.thermalTrip package) s = .next (if package < 115 ∨ s.prim.tripHeld = true then s
      else ({ u with prim := { u.prim with tripHeld := true } } : State).takeReset .resetN).settle := by
  show execThermalTrip package s = _
  simp only [execThermalTrip, settled, ← hu, Bool.or_eq_true, decide_eq_true_eq]

theorem exec_thermalTripRelease (package : Int) (s u : State)
    (hu : u = (s.wr Reg.PWR_THERM_STATUS_PACKAGE (twos 1 package)).send (.thermN false)) :
    exec (.thermalTripRelease package) s = .next (if 95 ≤ package ∨ s.prim.tripHeld = false then s
      else ({ u with prim := { u.prim with tripHeld := false } } : State).leaveReset).settle := by
  show execThermalTripRelease package s = _
  simp only [execThermalTripRelease, settled, ← hu, Bool.or_eq_true, Bool.not_eq_true', decide_eq_true_eq]

theorem exec_clockLockLoss (k : Fin 20) (s : State) : exec (.clockLockLoss k) s =
    .next (if s.rd Reg.PWR_CLK_LOCK / 2 ^ k.val % 2 = 0 then s
      else (s.wr Reg.PWR_CLK_LOCK (s.rd Reg.PWR_CLK_LOCK - 2 ^ k.val)).fatal (fatalCode .clock) (fatalPlace .clock).1
        (fatalPlace .clock).2).settle := by
  show execClockLockLoss k s = _
  simp only [execClockLockLoss, settled, beq_iff_eq]

/-- Settles O60, by the case split of each command's lemma above; the regulator's two faults are the command's own two branches. -/
theorem powerFollowsStateHeatAndFaults : Obligations.PowerFollowsStateHeatAndFaults := by
  unfold Obligations.PowerFollowsStateHeatAndFaults
  refine ⟨fun now s u hu => ⟨fun exiting => ?exiting, fun stays => ⟨fun deeper => ?deeper, fun shallower => ?shallower, fun same => ?same⟩⟩,
    fun s => ⟨fun stays => ?noExit, fun exiting => ?exitDone⟩,
    fun d s => ⟨rfl, rfl⟩,
    fun r s t u v ht hu hv => ?sensors,
    fun n s => ⟨fun found good => ?busGood, ?busStillBad, fun bad => ?busBack⟩,
    fun package s => ⟨fun cool => ?noTrip, fun u hot free hu => ?trip, fun hot => ?noRelease, fun u cool held hu => ?release⟩,
    fun k s => ⟨fun unlocked => ?unlocked, fun locked => ?lost⟩⟩
  case exiting => rw [exec_deviceStateEvaluate now s u hu, if_pos exiting]
  case deeper => rw [exec_deviceStateEvaluate now s u hu, if_neg (ne_true_of_eq_false stays), if_pos deeper]
  case shallower =>
    rw [exec_deviceStateEvaluate now s u hu, if_neg (ne_true_of_eq_false stays), if_neg (Nat.not_lt.2 (Nat.le_of_lt shallower)), if_pos shallower]
  case same =>
    rw [exec_deviceStateEvaluate now s u hu, if_neg (ne_true_of_eq_false stays), if_neg (Nat.not_lt.2 (Nat.le_of_eq same)),
      if_neg (Nat.not_lt.2 (Nat.le_of_eq same.symm))]
  case noExit => rw [exec_deviceStateExitDone, if_pos stays]
  case exitDone => rw [exec_deviceStateExitDone, if_neg (ne_false_of_eq_true exiting)]
  case sensors => rw [exec_i3cSensorRead r s t u ht hu, hv]
  case busGood => rw [exec_i3cBusRetry, if_pos good]
  case busStillBad => rw [exec_i3cBusRetry, Option.elim, ite_self]
  case busBack => rw [exec_i3cBusRetry, if_neg (ne_false_of_eq_true bad), Option.elim]
  case noTrip => rw [exec_thermalTrip package s _ rfl, if_pos cool]
  case trip => rw [exec_thermalTrip package s u hu, if_neg (not_or.2 ⟨by omega, ne_true_of_eq_false free⟩)]
  case noRelease => rw [exec_thermalTripRelease package s _ rfl, if_pos hot]
  case release => rw [exec_thermalTripRelease package s u hu, if_neg (not_or.2 ⟨by omega, ne_false_of_eq_true held⟩)]
  case unlocked => rw [exec_clockLockLoss, if_pos unlocked]
  case lost => rw [exec_clockLockLoss, if_neg (by rw [locked]; exact Nat.one_ne_zero)]

end Sys2Proof.Machine
end
